-- ==== Sys2Proof/Word.lean ====
section
/-!
DEFINITION. The word types of the block: every register is 32 bits wide and little-endian (R9); memory is bytes.
-/

namespace Sys2Proof

/-- One byte of a memory. -/
abbrev Byte := BitVec 8

/-- One 32-bit word: a register, a window word, a loop-code value (R9, R174). -/
abbrev Word := BitVec 32

/-- One 64-bit word: a command counter (R115), an accumulator (R166). -/
abbrev DWord := BitVec 64

/-- A die D0 to D7 (R1). -/
abbrev Die := Fin 8

/-- A local port L0 to L3 of a die (R4). -/
abbrev LPort := Fin 4

/-- A global port P0 to P31 (R4). -/
abbrev Port := Fin 32

/-- A hardware context C0 to C7 of a loop engine (R166). -/
abbrev Ctx := Fin 8

/-- A sequencer position SQ0 or SQ1 (R132). -/
abbrev SqId := Fin 2

/-- A converter lane CV0 to CV2 (R132). -/
abbrev Lane := Fin 3

/-- The lead die, D0 (R1). -/
def leadDie : Die := 0

/-- Port p lives on die p div 4 (R4). -/
def Port.die (p : Port) : Die := ⟨p.val / 4, by omega⟩

/-- Port p has local index p mod 4 (R4). -/
def Port.loc (p : Port) : LPort := ⟨p.val % 4, by omega⟩

/-- Local port k of die d is global port 4 × d + k (R46). -/
def portOf (d : Die) (k : LPort) : Port := ⟨4 * d.val + k.val, by omega⟩

end Sys2Proof
end

