-- ==== Sys2Proof/Payloads.lean ====
section
/-!
DEFINITION. The record types that commands carry as operands: who asks, frames of the links, heartbeats and
handover records of the twin, tokens and meter requests. All of it is plain data.
-/

namespace Sys2Proof

/-- Who makes a register, window or key-store access: the processors of R13 and the host port of R126. -/
inductive Requester where
  /-- Application core of a die; `user` is user mode (R13). -/
  | app (d : Die) (core : Fin 2) (user : Bool)
  /-- The Oryx loop engine of a die: domain CTL. -/
  | loop (d : Die)
  /-- The safety core of a die: domain SAFE. -/
  | safe (d : Die)
  /-- The meter core of a die; on the lead die the meter head: domain METR. -/
  | meter (d : Die)
  /-- The quad-SPI host port (R126). -/
  | hostPort
  /-- The debug port, reaching a die (R77, R78). -/
  | debug (d : Die)
  deriving DecidableEq, Repr

/-- Who writes a port state request (R248): HOST firmware or the SAFE domain. -/
inductive PsWriter where
  | host
  | safe
  deriving DecidableEq, Repr

/-- Sensors of the tamper monitor (R88). -/
inductive TamperCause where
  | mesh
  | light
  | temp
  | vbat
  deriving DecidableEq, Repr

/-- Roles of a command envelope, in code order 0 to 5 (R115). -/
inductive Role where
  | pub
  | reader
  | billing
  | site
  | service
  | vendor
  deriving DecidableEq, Repr

/-- Which latch register a SAFE clear names (R145, R405). -/
inductive TripReg where
  | lo
  | hi
  | comparators
  deriving DecidableEq, Repr

/-- Which window of a cell (R143). -/
inductive WinSel where
  | a
  | b
  deriving DecidableEq, Repr

/-- What a self-calibration yields (R152, R153): offsets in sixteenths of a code and gains in ppm from nominal, one per gain code 0
to 5, the 64 segments of the linearity table, and the 64 residuals of the linearity fit in codes (R154). -/
structure CorrSet where
  ofs : List Int
  gainPpm : List Int
  table : List Int
  residual : List Int
  deriving DecidableEq, Repr

/-- A CAN frame on the bus (R297). `data` holds the bytes carried; `sof` is the time-unit counter at SOF. -/
structure CanFrame where
  id : Nat
  ext : Bool
  remote : Bool
  dlc : Fin 16
  fd : Bool
  brs : Bool
  esi : Bool
  data : List Byte
  sof : Word
  deriving DecidableEq, Repr

/-- How a transmit attempt ended (R300, R302). A bit error names its destuffed position from SOF, whether it fell
after the arbitration field, and whether the controller sent recessive and read dominant. -/
inductive CanTxEnd where
  | success (sof : Word)
  | lostArbitration
  | bitError (pos : Nat) (afterArb : Bool) (sentRecessive : Bool) (dataPhase : Bool)
  | otherError (code : Fin 8) (dataPhase : Bool)
  deriving DecidableEq, Repr

/-- Where in a frame a controller that only receives meets an error: at the nominal rate or in the data phase before the CRC has
checked, or after a CRC that checked, which detection counts as a good frame (R303, R304). -/
inductive CanErrAt where
  | nominal
  | data
  | afterCrc
  deriving DecidableEq, Repr

/-- A port's vehicle modem and the destination of its tone-map entry (R278). -/
structure ModemPeer where
  port : LPort
  peer : Nat
  deriving DecidableEq, Repr

/-- What a start-up self-test found (R414): whether the core passed, and a bit for each trip comparator, pilot cell and safety input
that failed. -/
structure SelfTest where
  passed : Bool
  comps : BitVec 8
  pilots : BitVec 4
  inputs : BitVec 32
  deriving DecidableEq, Repr

/-- A node's frame as the herd line master receives it (R287, R288): its header word, the payload with its CRC, and the samples of
each symbol after the preamble. -/
structure HerdFrame where
  header : Word
  payload : List Byte
  symbols : List (List Int)
  deriving DecidableEq, Repr

/-- A heartbeat of the peer (R437). `gen` and `src` are the peer's handover-record generation and time source, which R455
and R456 have the unit know; how they travel is not stated (log entry 41). -/
structure Heartbeat where
  tick : Word
  grid : Fin 10
  role : Fin 4
  healthy : Bool
  releasing : Bool
  mainsLost : Bool
  synced : Bool
  ns : Word
  rseq : Word
  gen : Byte
  src : Fin 6
  deriving DecidableEq, Repr

/-- One port entry of a handover record (R445). -/
structure PortEntry where
  port : Port
  state : Fin 16
  permit : Bool
  ccPass : Bool
  unlockOk : Bool
  faultAct : Bool
  weldLatch : Bool
  tripLatch : Bool
  degraded : Bool
  cause : Fin 16
  dir : Bool
  session : Word
  held : Word
  derate : Word
  vhi : Word
  vlo : Word
  plim : Word
  ovrMode : Fin 4
  rampMs : Fin 64
  v0 : Word
  edges : Nat
  degLeft : BitVec 16
  deriving DecidableEq, Repr

/-- The output states of one die in a handover record (R444). -/
structure OutEntry where
  die : Die
  sout : List (BitVec 4)
  lswSafeEn : BitVec 12
  lsw : List (Bool × BitVec 14 × Fin 8)
  deriving DecidableEq, Repr

/-- A signed session record (R354), without its magic, format and zero fields, which are constants. -/
structure SessionRecord where
  port : Nat
  kind : Nat
  recno : Nat
  session : Nat
  unit : DWord
  signer : Nat
  startSrc : Nat
  stopSrc : Nat
  lcs : Nat
  meterVer : Word
  startUtc : Int
  stopUtc : Int
  startAp : Nat
  startAm : Nat
  stopAp : Nat
  stopAm : Nat
  energy : Int
  loss : Nat
  flags : Nat
  rCl : Nat
  meterMeas : List Byte
  prevDigest : List Byte
  signature : List Byte
  deriving DecidableEq, Repr

/-- A switch point of a day profile (R371): minute of day and rate. -/
structure SwitchPoint where
  minute : Nat
  rate : Nat
  valid : Bool
  deriving DecidableEq, Repr

/-- A season entry: month, day, week profile (R371). -/
structure Season where
  month : Nat
  day : Nat
  week : Nat
  deriving DecidableEq, Repr

/-- A festival entry: month, day, day profile, year − 2000 or 255 for every year (R371). -/
structure Festival where
  month : Nat
  day : Nat
  profile : Nat
  year : Nat
  deriving DecidableEq, Repr

/-- A calendar image (R371), its bytes read into fields. `zeroOk` says that every zero field was zero. -/
structure Calendar where
  magic : Word
  calId : Word
  actTime : Nat
  localOfs : Int
  demandInt : Nat
  billDay : Nat
  nSeason : Nat
  nFest : Nat
  seasons : List Season
  weeks : List (List Nat)
  days : List (List SwitchPoint)
  fests : List Festival
  zeroOk : Bool
  deriving DecidableEq, Repr

/-- Items of the change stream of a handover record (R444). -/
inductive ChangeItem where
  | record (r : SessionRecord)
  | sessionStart (p : Port) (ap am l : Nat) (startUtc : Int) (src : Nat)
  | calendar (passive : Bool) (c : Calendar)
  | account (a : Nat) (balance : Int) (high : Nat)
  | tokenWindow (a : Nat) (spent : List Nat)
  | herdModes (modes : List (Nat × Nat)) (run : Option Nat)
  | meterParam (id : Nat) (value : List Word)
  deriving DecidableEq, Repr

/-- A handover record as it arrives (R444); `tagOk` is the outcome of its GCM tag under the session key. Meter
values are whole mWh by register ID (R348). The hold counters and the SEQs seen are state words of the lead die's C4 (R221, R224), the
fan integrators words of C5 (R275), by die. `tampers` are the tampers the unit has declared (R359; log entry 88). -/
structure HandoverRec where
  tagOk : Bool
  gen : Byte
  planned : Bool
  mainsLost : Bool
  tick : Word
  rseq : Word
  tai : Nat
  slice : Nat
  ports : List PortEntry
  engine : List (Die × Nat × Word)
  allocWords : List (Nat × Word)
  allocs : List Word
  setpoints : List Word
  hold : List Nat
  seqs : List Word
  fans : List Int
  tampers : List (Nat × Nat)
  outputs : List OutEntry
  deltas : List (Nat × Nat)
  sliceRegs : List (Nat × Nat)
  counters : List (Role × Word × DWord)
  changes : List ChangeItem
  deriving DecidableEq, Repr

/-- What each unit tells the other at link training (R435, R439, R443), with what R454 step 2 and R456 compare: the words of
SAF_CFG_DIGEST of the dies in order, the almanac's CAL_ID, and the generation a bridge set accepts (log entry 41). -/
structure PeerHello where
  keyConfirmed : Bool
  strapB : Bool
  role : Fin 4
  starting : Bool
  claimedLater : Bool
  gen : Byte
  acc : Byte
  nonce : Nat
  safDigests : List Word
  calId : Word
  deriving DecidableEq, Repr

/-- Meter parameters of a port (R363): meter map word in the layout of ADC_MTRMAPk, whether a map is set, scales in nV
and nA per code, R_CL in nΩ, I_CREEP in nA unless it has its default. -/
structure PortParam where
  mapped : Bool
  map : Word
  vscale : Nat
  iscale : Nat
  hscale : Nat
  rCl : Nat
  creep : Option Nat
  deriving DecidableEq, Repr

/-- Site meter parameters (R130, R363): the ADC_SITE word, scales, creep, profile set-up, tolerances, HDLC, and the
prepayment parameters of R386. -/
structure SiteParam where
  site : Word
  vscale : Nat
  iscale : Nat
  creep : Nat
  p1Chan : List Nat
  p2Int : Nat
  p2Chan : List Nat
  twinTol : Nat
  slacMargin : Nat
  hdlcAddr : Nat
  baud : Nat
  nacc : Nat
  amounts : List Nat
  tokenSlot : Nat
  deriving DecidableEq, Repr

/-- Safety configuration of one port (R412), in the units of the table: FILT in 0.5 ms steps per input, ramps in ms,
MON_TOL in % of I_RATED, MON_LAG and TRIP_OPEN in 0.1 ms, timeouts in ms, U_RATED in V, I_RATED in A, R_M in kΩ,
ISO limits in Ω/V, temperatures in °C, FLOW_TMO in ms, DEG_TIME in min, currents in mA. -/
structure PortCfg where
  filt : Vector Nat 8
  used : BitVec 8
  estopSrc : Fin 4
  sin7Mag : Bool
  estopRamp : Nat
  normalRamp : Nat
  insulRamp : Nat
  tempRamp : Nat
  monTol : Nat
  monLag : Nat
  tripOpen : Nat
  contactTmo : Nat
  uRated : Nat
  iRated : Nat
  rM : Nat
  isoWarn : Nat
  isoFault : Nat
  tPinStop : Nat
  tOutStop : Nat
  flowTmo : Nat
  degTime : Nat
  ccIlim : Nat
  ccTmo : Nat
  preIlim : Nat
  preTol : Nat
  preTmo : Nat
  lockChan : Nat
  preUsed : Bool
  deriving DecidableEq, Repr

/-- The two trip windows a safety configuration gives a cell (R143). -/
structure CellWin where
  cell : Nat
  aLow : Int
  aHigh : Int
  aEn : Bool
  bLow : Int
  bHigh : Int
  bEn : Bool
  deriving DecidableEq, Repr

/-- A die's safety configuration (R412, R413): port parameters, trip windows by cell, comparator words, engine CRC, salt and password hash. -/
structure SafetyCfg where
  ports : Vector PortCfg 4
  windows : List CellWin
  comps : Vector Word 8
  engineCrc : Word
  salt : List Byte
  hash : List Byte
  deriving DecidableEq, Repr

/-- One profile entry (R351), without its CRC, which R258 gives over the other bytes. -/
structure ProfEntry where
  no : Nat
  endUtc : Int
  status : Nat
  rate : Nat
  duration : Nat
  ch : List Nat
  deriving DecidableEq, Repr

/-- One billing set (R377). -/
structure BillSet where
  bpc : Nat
  startUtc : Int
  endUtc : Int
  cause : Nat
  calId : Word
  maxDem : List (Nat × Int)
  regs : List (Nat × Nat)
  deriving DecidableEq, Repr

/-- One meter log entry (R362). -/
structure MeterLogEntry where
  no : Nat
  tai : Int
  code : Nat
  port : Nat
  src : Nat
  data : List Int
  deriving DecidableEq, Repr

/-- The copy of a meter MRAM region from the peer in resynchronisation (R81, R454): Q0 the energy registers in mWh; Q1 the
profiles, billing sets and billing period counter; Q2 the session records; Q3 the parameters, calendars and accounts
(number, balance, HIGH, spent identities); Q4 the event and tamper logs. -/
inductive RegionCopy where
  | q0 (regs : List (Nat × Nat))
  | q1 (p1 p2 : List ProfEntry) (bills : List BillSet) (bpc : Nat)
  | q2 (records : List SessionRecord)
  | q3 (ports : List PortParam) (site : SiteParam) (almanac passive : Option Calendar)
      (accounts : List (Nat × Int × Nat × List Nat))
  | q4 (events tampers : List MeterLogEntry)
  deriving DecidableEq, Repr

/-- An xDLMS service asked of an object (R366, R367). Objects are the rows of R367's list. -/
inductive ApduOp where
  | get
  | set (value : List Word)
  | action (method : Nat) (value : List Word)
  deriving DecidableEq, Repr

/-- The objects of R367, in the order of its rows; the association and security setup objects name their role. -/
inductive CosemObject where
  | deviceName | clock | meterVersion
  | portPlus (p : Port) (rate : Fin 9) | portMinus (p : Port) (rate : Fin 9) | portLoss (p : Port)
  | siteTotal (exp : Bool) (rate : Fin 9) | phase (item : Fin 6) | reactive (q : Fin 4)
  | demand (maximum : Bool) | profile (two : Bool) | billingSets | sessionRecords | recordKey (peer : Bool)
  | portParams (p : Port) | meterLog | tamperLog | calendarObj | account | tokenGateway
  | association (r : Role) | securitySetup (r : Role)
  deriving DecidableEq, Repr

/-- One unciphered APDU: which object, its attribute, the service, and the invocation counter (R366). -/
structure Apdu where
  obj : CosemObject
  attr : Nat
  op : ApduOp
  counter : DWord
  deriving DecidableEq, Repr

/-- The interface of a DLMS association (R365). -/
inductive DlmsIf where
  | tcp
  | hdlc
  deriving DecidableEq, Repr

end Sys2Proof
end

