-- ==== Sys2Proof/Syntax.lean ====
section
/-!
DEFINITION. The commands of the block: one constructor per row of spec/opcode_table.json, in the table's order,
with the row's operands. An operand is what comes from outside the block's state (an address, a value, a measured
quantity, which die, port, channel or slot the row happens on).
-/

namespace Sys2Proof

/-- The commands, one per row of the opcode table. -/
inductive Instr where
  -- registers, resets, supplies
  | registerWrite (r : Requester) (addr : Nat) (width : Nat) (value : Word)
  | powerOn (keepLost ac strapB : Bool) (outage : Nat)
  | nresetIn
  | supplyReset
  | softwareDieReset (d : Die)
  | resetWipeDone (d : Die)
  | meterHeadStart
  | portDieMeasurementReport (d : Die)
  | bootSetChoice
  | portDieRelease
  | slotOpen
  | powerfailRecordSign
  | restoration
  | mainsLoss
  | mainsReturn
  | pwrDown (level : Byte)
  | pwrDownOutputRelease
  | pwrDownPowerRemoval
  | holdupCommit
  | holdupReady (level : Byte)
  | holdupTimeout
  | batteryMeasurement (v1 v2 : Byte)
  | railUndervoltage
  | railUndervoltageEnd
  | railOvervoltage
  | railOvervoltageEnd
  | reversePolarity
  | gndLost
  | rootLockLoss
  | tamper (c : TamperCause)
  -- XLINK
  | xlinkStateWord (d : Die) (toLead : Bool) (w : Word) (bad : Bool)
  | xlinkWordError (d : Die) (cls : Fin 3)
  | remoteWordWrite (src dst : Die)
  | xlinkLaneFail (d : Die) (lane : Fin 4)
  -- shared window
  | slotSubmit (r : Requester) (slot : Nat) (header : Word)
  | slotConsume (r : Requester) (slot : Nat) (header : Word)
  | slotClaim
  | slotPublish (slot : Nat) (header : Word)
  | slotTake (slot : Nat)
  | payloadWrite (r : Requester) (offset : Nat) (value : Word)
  | earlyRead (r : Requester) (offset : Nat)
  | statusBlockUpdate
  | statusHeartbeat
  -- commands in command slots; the operand is the slot S0 to S7
  | status (k : Fin 8)
  | eventLogRead (k : Fin 8)
  | dieLogRead (k : Fin 8)
  | changeLogRead (k : Fin 8)
  | retirementRecordsRead (k : Fin 8)
  | imageStagingBegin (k : Fin 8)
  | imageStagingData (k : Fin 8)
  | imageStagingEnd (k : Fin 8)
  | stageCheckDone
  | safetyConfigurationWrite (k : Fin 8)
  | safetyPasswordChange (k : Fin 8)
  | meterParameterWrite (k : Fin 8)
  | timeSetBeyondSlewLimit (k : Fin 8)
  | passiveCalendarLoad (k : Fin 8)
  | calendarActivation (k : Fin 8)
  | calendarDiscard (k : Fin 8)
  | imageActivation (k : Fin 8)
  | lifeCycleChange (k : Fin 8)
  | forcedPlannedHandover (k : Fin 8)
  | forcedHeld (k : Fin 8)
  | forcedResync (k : Fin 8)
  | forcedRepair (k : Fin 8)
  | retire (k : Fin 8)
  | reinstate (k : Fin 8)
  | xdlmsApdu (k : Fin 8) (apdu : Apdu)
  | sessionRecordsRead (k : Fin 8)
  | profileEntriesRead (k : Fin 8)
  | meterLogRead (k : Fin 8)
  | meterStatus (k : Fin 8)
  | meterReply
  | lockoutEnd (r : Role)
  | twinCounterMessage (r : Role) (kcv : Word) (ctr : DWord)
  | lifeCycleRestart
  | lcsConfirm (r : Requester) (value : Word)
  | trialWindowExpiry
  | mreg7Extension (r : Requester) (value : Word)
  -- host port
  | hpiReadWords (addr n : Nat)
  | hpiWriteWords (addr : Nat) (words : List Word) (short : Bool)
  | hpiReadStat
  | badOpc (op : Byte)
  -- key store
  | keyWrite (r : Requester) (cmd : Word)
  | keyErase (r : Requester) (cmd : Word)
  | enc (r : Requester) (opc : Word)
  | dec (r : Requester) (opc : Word)
  | cmac (r : Requester) (opc : Word)
  | cmacChk (r : Requester) (opc : Word)
  | sign (r : Requester) (opc : Word)
  | ecdh (r : Requester) (opc : Word)
  | wrap (r : Requester) (opc : Word)
  | unwrap (r : Requester) (opc : Word)
  | derive (r : Requester) (opc : Word)
  | migrate (r : Requester) (opc : Word)
  | genkey (r : Requester) (opc : Word)
  | pubkey (r : Requester) (opc : Word)
  | sha256 (r : Requester) (opc : Word)
  | sha384 (r : Requester) (opc : Word)
  | verify (r : Requester) (opc : Word)
  | random (r : Requester) (opc : Word)
  | keyOpStart
  | keyOpDone
  | entropyTestFail (test : Nat)
  -- measurement front end
  | conversionResult (d : Die) (q : SqId) (entry : Fin 16) (cell : Fin 72) (code : Int) (rail newcomer : Bool) (t : Nat)
  | sequencerRoundStart (d : Die) (q : SqId)
  | sequenceCommit (d : Die) (q : SqId)
  | commitCheckDone (d : Die) (q : SqId)
  | sequencerRun (d : Die) (q : SqId)
  | sequencerStop (d : Die) (q : SqId)
  | adcSoftReset (d : Die)
  | refSelect (d : Die) (sel : Fin 4)
  | refReadyRise (d : Die)
  | refLost (d : Die)
  | refinTimeout (d : Die)
  | tripWindowEnable (d : Die) (win : WinSel) (hiWord : Bool) (value : Word)
  | comparatorTrip (d : Die) (k : Fin 8)
  | comparatorRelease (d : Die) (k : Fin 8)
  | tripLatchClear (d : Die) (reg : TripReg) (mask : Word)
  | cellCmFault (d : Die) (cell : Fin 72)
  | syscalZeroStep (d : Die) (value : Word)
  | syscalFullStep (d : Die) (value : Word)
  | syscalComplete (d : Die)
  | syscalTimeout (d : Die)
  -- live calibration
  | selfcalStart (d : Die)
  | selfcalDone (d : Die) (lane : Lane) (result : CorrSet)
  | rotationDue (d : Die)
  | now (d : Die)
  | overlapStart (d : Die)
  | overlapEnd (d : Die)
  | voteEnd (d : Die)
  | judgedSwap (d : Die)
  | exitCheckDone (d : Die) (ofs gainPpm : List Int)
  | laneLost (d : Die) (lane : Lane)
  | unservedPositionTakeover (d : Die)
  -- loop engine control
  | contextTrigger (d : Die) (n : Ctx) (src : Fin 8)
  | contextDispatch (d : Die)
  | budgetExceeded (d : Die)
  | illegalInstruction (d : Die)
  | waitTimeout (d : Die) (n : Ctx)
  | engineRun (d : Die)
  | engineCrcDone (d : Die)
  | engineStop (d : Die)
  | contextRestart (d : Die) (n : Ctx)
  | swtrig (d : Die) (n : Ctx)
  | clrFlags (d : Die) (n : Ctx)
  | clrMax (d : Die) (n : Ctx)
  | overrideRamp (d : Die) (k : LPort) (rampMs : Fin 64)
  | overrideZero (d : Die) (k : LPort)
  | overrideRelease (d : Die) (k : LPort)
  | coefEntryWrite (d : Die) (e : Fin 4096) (w1 : Word)
  | genSync (d : Die)
  | corrClear (d : Die) (k : Fin 8)
  | corrReadLatch (d : Die) (k : Fin 8)
  | evtqPop (d : Die) (safe : Bool)
  | capBufferRelease (d : Die) (a b : Bool)
  -- loop code: the instruction at the running context's program counter of die d
  | olcNop (d : Die) | olcLdi (d : Die) | olcLdk (d : Die) | olcMov (d : Die) | olcLds (d : Die) | olcLdr (d : Die)
  | olcStr (d : Die) | olcLdd (d : Die) | olcStd (d : Die) | olcLda (d : Die) | olcMva (d : Die) | olcClra (d : Die)
  | olcLdp (d : Die) | olcRdw (d : Die) | olcAdd (d : Die) | olcSub (d : Die) | olcAddi (d : Die) | olcNeg (d : Die)
  | olcAbs (d : Die) | olcMin (d : Die) | olcMax (d : Die) | olcShl (d : Die) | olcShr (d : Die) | olcMul (d : Die)
  | olcMulv (d : Die) | olcMac (d : Die) | olcMacv (d : Die) | olcDiv (d : Die) | olcFsum (d : Die) | olcSeln (d : Die)
  | olcIntg (d : Die) | olcFilt (d : Die) | olcLim (d : Die) | olcTrack (d : Die) | olcMinsel (d : Die)
  | olcMaxsel (d : Die) | olcInj (d : Die) | olcCap (d : Die) | olcCorr (d : Die) | olcOut (d : Die) | olcOutu (d : Die)
  | olcEvt (d : Die) | olcBfs (d : Die) | olcBfc (d : Die) | olcClf (d : Die) | olcBr (d : Die) | olcBeq (d : Die)
  | olcBne (d : Die) | olcBlt (d : Die) | olcBge (d : Die) | olcLoop (d : Die) | olcCall (d : Die) | olcRet (d : Die)
  | olcWait (d : Die) | olcEnd (d : Die)
  -- site allocation
  | portHoldExpiry (p : Port)
  | bufferLiveTimeout (b : Fin 4)
  | g0MeasurementLost
  | g1MeasurementLost
  | allocationHoldExpiry (d : Die) (k : LPort)
  -- port states
  | psreqIdle (d : Die) (k : LPort) (w : PsWriter)
  | psreqConnected (d : Die) (k : LPort) (w : PsWriter)
  | psreqAuthorising (d : Die) (k : LPort) (w : PsWriter)
  | psreqCableCheck (d : Die) (k : LPort) (w : PsWriter)
  | psreqPrecharge (d : Die) (k : LPort) (w : PsWriter)
  | psreqCharging (d : Die) (k : LPort) (w : PsWriter)
  | psreqRampDown (d : Die) (k : LPort) (w : PsWriter)
  | psreqWeldCheck (d : Die) (k : LPort) (w : PsWriter)
  | psreqUnlock (d : Die) (k : LPort) (w : PsWriter)
  | psreqFault (d : Die) (k : LPort) (w : PsWriter)
  | psreqRetired (d : Die) (k : LPort) (w : PsWriter)
  -- vehicle links
  | pilotMeasurement (d : Die) (k : LPort) (high low : Int) (square : Bool)
  | pilotModeWrite (d : Die) (k : LPort) (mode : Fin 4)
  | t1sLinkChange (d : Die) (k : LPort) (up : Bool)
  | t1sLinkDownTimeout (d : Die) (k : LPort)
  | t1sTransmit (d : Die) (k : LPort)
  | t1sReceive (d : Die) (k : LPort) (frame : List Byte) (fcsOk : Bool)
  | jabber (d : Die) (k : LPort)
  -- Stage Links
  | periodicFrame (d : Die) (k : LPort)
  | returnFrame (d : Die) (k : LPort) (symbols : Nat) (bytes : List Byte) (lineError : Bool)
  | returnFrameMiss (d : Die) (k : LPort)
  | rxlost (d : Die) (k : LPort)
  | halt (d : Die) (k : LPort)
  | release (d : Die) (k : LPort)
  | cableCheckInsulation (d : Die) (k : LPort) (ohmPerV : Nat)
  | cableCheckTimeout (d : Die) (k : LPort)
  | prechargeTimeout (d : Die) (k : LPort)
  -- cable cooling and copper thermometry
  | coolingLoss (d : Die)
  | coolingRestore (d : Die)
  | pumpIdleTimeout (d : Die)
  | copperResult (d : Die) (k : LPort) (kvNv : Nat) (kvPv : Fin 1000) (kiNa : Nat) (kiPa : Fin 1000)
  | copperReference (d : Die) (k : LPort) (first : Nat) (rest : List Nat)
  | thermometryFallback (d : Die) (k : LPort)
  -- power-line links
  | load (d : Die)
  | modemLoadDone (d : Die)
  | modemWatchdog (d : Die) (k : Fin 5)
  | vehicleFrameReceive (d : Die) (k : LPort) (peer : Nat) (symbols : List (List Int)) (failed : Bool)
  | roboModeStepUp (d : Die) (dest : ModemPeer)
  | slacSetSend (d : Die) (k : LPort) (run : Nat) (profile : List Nat)
  | slacDecision (run : Nat)
  | herdPoll (node : Fin 31) (payload : List Byte)
  | herdReply (node : Fin 31) (f : HerdFrame)
  | herdReplyTimeout (node : Fin 31)
  | herdBroadcast (payload : List Byte)
  | herdBroadcastCopy
  | herdLostNodePoll (node : Fin 31)
  | herdQuietRestore (node : Fin 31)
  -- CAN FD
  | canInitClear (d : Die) (j : Fin 2)
  | canFrameReceive (d : Die) (j : Fin 2) (f : CanFrame)
  | canTxRequest (d : Die) (j : Fin 2) (mask : Word)
  | canTxAttemptEnd (d : Die) (j : Fin 2) (e : CanTxEnd)
  | canBusOffRecovery (d : Die) (j : Fin 2)
  | canTxAbort (d : Die) (j : Fin 2) (mask : Word)
  | canBusError (d : Die) (j : Fin 2) (id : Nat) (ext : Bool) (pos : Nat) (code : Fin 8) (place : CanErrAt)
  | canQueueRelease (d : Die) (j : Fin 2) (q : Fin 2) (last : Fin 64)
  | canAbdStart (d : Die) (j : Fin 2)
  | canAbdDwellExpiry (d : Die) (j : Fin 2)
  | canReferenceDue (d : Die) (j : Fin 2)
  -- time unit
  | gridEdge
  | siteTick
  | incrementApply
  | timeIncrementMessage (d : Die)
  | tsuNsRead (r : Requester) (d : Die)
  | residualWrite (dom : Fin 2) (hi : Word)
  | domainTimeout (dom : Fin 2)
  | holdoverExpiry
  | domainSelect (r : Requester) (sel : Fin 2)
  | stepApply
  | rtcRewrite
  | utcOffsetChange
  | ethTxTimestamp (mac : Fin 2) (id : BitVec 16) (dom : Bool) (sfd : Nat)
  | ethTsqPop (mac : Fin 2)
  | arm (d : Die) (n : Fin 8)
  | pulseEdge (d : Die) (n : Fin 8)
  | captureEvent (d : Die) (src : Fin 7) (param : Fin 32)
  -- acquisition
  | acqArm (d : Die) (u : Fin 8)
  | force (d : Die) (u : Fin 8)
  | acqStop (d : Die) (u : Fin 8)
  | acqDisable (d : Die) (u : Fin 8)
  | acqSegmentComplete (d : Die) (u : Fin 8)
  | acqPostComplete (d : Die) (u : Fin 8)
  | groupFire (g : Fin 8) (d : Die) (u : Fin 8) (time : Nat)
  | groupArm (g : Fin 8)
  | disarm (g : Fin 8)
  | gatherBlock (u : Fin 8) (samples : List (Word × Nat))
  | gatherOverflow (u : Fin 8)
  | readoutGo (d : Die)
  | readoutDone (d : Die)
  -- metering
  | meterIncrementReceive (d : Die)
  | meterIncrementAck (d : Die)
  | meterCommit
  | reactiveHalfCycle (p q : Int)
  | recordSign (p : Port)
  | tamperReverseCurrent (p : Port) (peakMa : Nat)
  | tamperShuntBypass (p : Port) (shunt hall : Int)
  | tamperMissingNeutral (mv : Nat)
  | tamperMagneticField (p : Port)
  | meterTamperEnd (code : Fin 256) (p : Option Port)
  | twinMeterWindow
  | boundaryAnnounce (t : Nat)
  | boundaryCommit
  | dlmsAssociationOpen (i : DlmsIf) (r : Role) (authenticated : Bool)
  | dlmsApdu (i : DlmsIf) (r : Role) (a : Apdu)
  | tokenTransaction
  -- safety functions
  | safetyScan (d : Die) (inputs : Vector Byte 4) (readback : Vector (BitVec 4) 4)
  | safetyInputFilter (d : Die) (k : LPort) (n : Fin 8) (level : Bool)
  | tripOpenExpiry (d : Die) (k : LPort)
  | rampDeadline (d : Die) (k : LPort)
  | contactTimeout (d : Die) (k : LPort) (n : Fin 2)
  | insulationWindow (d : Die) (k : LPort) (uPlus uMinus : Nat)
  | temperatureStopTimer (d : Die) (k : LPort)
  | flowTimeout (d : Die) (k : LPort)
  | tripClear (d : Die) (k : LPort)
  | degradedTimeExpiry (d : Die) (k : LPort)
  | unlockOkSet (d : Die) (k : LPort)
  | safetyPasswordLockoutEnd (d : Die)
  | safetyDiagnosticFault (d : Die) (bit : Fin 6)
  | selftestDone (d : Die) (result : SelfTest)
  -- load switches and thermal
  | lswRequest (d : Die) (n : Fin 12)
  | lswRequestWithdraw (d : Die) (n : Fin 12)
  | lswPwmPeriod (d : Die) (n : Fin 12)
  | lswLimitOff (d : Die) (n : Fin 12)
  | lswRetryDue (d : Die) (n : Fin 12)
  | lswInrushWindowEnd (d : Die) (n : Fin 12)
  | lswRestartDelayEnd (d : Die) (n : Fin 12)
  | lswThermalOff (d : Die) (n : Fin 12) (temp : BitVec 16)
  | lswThermalRestart (d : Die) (n : Fin 12) (temp : BitVec 16)
  | clrLatch (d : Die) (n : Fin 12)
  | groupThrottle (d : Die) (k : LPort) (temp : BitVec 16)
  | groupThrottleEnd (d : Die) (k : LPort) (temp : BitVec 16)
  | groupOff (d : Die) (k : LPort) (temp : BitVec 16)
  | groupResume (d : Die) (k : LPort) (temp : BitVec 16)
  | groupLatchClr (d : Die) (k : LPort)
  | openLoad (d : Die) (n : Fin 12)
  | dieTempSample (d : Die) (sensors : Vector (BitVec 16) 4)
  | shutdownOutputRelease (d : Die)
  | shutdownClockStop (d : Die)
  | shutdownRecovery (d : Die) (sensors : Vector (BitVec 16) 4)
  | referenceCompensation (d : Die) (temp : BitVec 16)
  -- twin
  | twinLinkTrained (p : PeerHello)
  | twinLinkTrainTimeout
  | twinLinkDown
  | heartbeatReceive (h : Heartbeat)
  | heartbeatMiss
  | claimKeeperExpiry
  | antlInChange (level : Bool)
  | claimWithdraw (settling : Bool)
  | handoverRecordReceive (r : HandoverRec)
  | takeover
  | outputEnable (gapUs : BitVec 16)
  | latchRelease
  | heldClaim
  | followingCheck
  | plannedRelease
  | twinMainsNotice
  | resyncRegionCopyDone (c : RegionCopy)
  -- fault hierarchy
  | regionResetDelay (d : Die)
  | chipResetDelay
  | dieWatchdog (d : Die)
  | ethFrameReceive (mac : Fin 2) (frame : List Byte) (sfd : Nat)
  | twinLinkLaneFail (lane : Fin 4)
  deriving DecidableEq, Repr

end Sys2Proof
end

