-- ==== Sys2Proof/Decode.lean ====
section
/-!
DEFINITION. Reading a command from a word. The table gives no row any bits, so no word spells a command.
-/

namespace Sys2Proof

/-- The command a word of `nbits` bits spells by the table's bits. No row of the table has bits, so there is none. -/
def decodeTableWord (_nbits _w : Nat) : Option Instr := none

end Sys2Proof
end

