-- ==== Sys2Proof/Config.lean ====
section
/-!
DEFINITION. What the spec leaves to standards or leaves open: the named cryptographic algorithms as uninterpreted
functions (log entry 4), and free values, constants without a body (log entries 3, 4). Nothing in Lean can evaluate
them, so a statement about one holds for every value.
-/

namespace Sys2Proof.Config

/-- A free 32-bit word, one for each number (log entry 3). -/
opaque freeWord : Nat → Word

/-- Memory errors that have arisen by a grid edge, by draw: words, and whether uncorrectable (R190, R306; log entry 116). -/
opaque upsets : Nat → List (Nat × Bool)

/-- A free byte, by draw and position: random bytes, keys, IVs, salts, nonces (R86, R103, R104, R413; log entry 3). -/
opaque freeByte : Nat → Nat → Byte

/-- The `n` free bytes of draw `i`. -/
def freeBytes (i n : Nat) : List Byte := (List.range n).map (freeByte i)

/-- SHA-256 (R69, R71, R103). -/
opaque sha256 : List Byte → Vector Byte 32

/-- SHA-384 (R103). -/
opaque sha384 : List Byte → Vector Byte 48

/-- HMAC-SHA-256 under a key (R98, R412). -/
opaque hmacSha256 : List Byte → List Byte → Vector Byte 32

/-- AES-CMAC under a key (R103, R115). -/
opaque aesCmac : List Byte → List Byte → Vector Byte 16

/-- Byte `i` of the AES-256-GCM key stream of a key and an IV (R103). -/
opaque gcmStream : List Byte → List Byte → Nat → Byte

/-- The AES-256-GCM tag of key, IV, associated data and ciphertext (R99, R103). -/
opaque gcmTag : List Byte → List Byte → List Byte → List Byte → Vector Byte 16

/-- AES-256-GCM encryption or decryption of the data without the tag. -/
def gcmCrypt (key iv data : List Byte) : List Byte :=
  data.mapIdx (fun i b => b ^^^ gcmStream key iv i)

/-- ECDSA signature bytes: P-384 flag, private key, digest, and the draw its nonce comes from (R103, R355). -/
opaque ecdsaSign : Bool → List Byte → List Byte → Nat → List Byte

/-- ECDSA check: P-384 flag, public key, digest, signature (R103). -/
opaque ecdsaVerify : Bool → List Byte → List Byte → List Byte → Bool

/-- Public key of a private key: P-384 flag, private key (R96). -/
opaque ecPublic : Bool → List Byte → List Byte

/-- ECDH shared secret: P-384 flag, private key, peer's public key (R103). -/
opaque ecdh : Bool → List Byte → List Byte → List Byte

/-- Whether a signature is good under the public key whose hash is given (R70): hash, message, signature. -/
opaque signatureOk : List Byte → List Byte → List Byte → Bool

/-- XLINK words of a message whose format is not given: 0 a meter core's increments, 1 their acknowledgement (R344), 2 the
lead die's time message (R311; log entry 105). -/
opaque xlkWords : Nat → Nat

/-- What a verified pairing certificate names (R73): version and measurement of HOST, LOOP, SAFE and MODEM, the window,
handover-record and loop ABI generations, the configuration schema generation, and the stepping range. -/
structure Cert where
  images : List (Nat × List Byte)
  winGen : Nat
  recGen : Nat
  loopGen : Nat
  schema : Nat
  stepMin : Nat
  stepMax : Nat
  deriving DecidableEq, Repr

/-- The content of a pairing certificate whose vendor signature verifies; its byte format is not given (R73; log
entry 4). -/
opaque certOf : List Byte → Option Cert

/-- The hash of the vendor public key, fused at manufacture (R70). -/
opaque vendorKeyHash : List Byte

/-- What the table of R205 holds for cosine and sine of a 32-bit phase, in 2^30 steps, within its accuracy of 2^-20: free values (log
entry 5). -/
opaque cosTable : Word → Int
opaque sinTable : Word → Int

/-- The DDS sine sample of a 32-bit phase (R182): a free value (log entry 5). -/
opaque ddsSine : Word → Word

/-- Whether a PRBS-15 output bit of 1 gives positive full scale (R182 names no sign; log entry 5). -/
opaque prbsPositive : Bool

/-- The lane-corrected code in sixteenths that a lane's correction set makes of a code at a gain code (R152 names the corrections and
not their arithmetic; log entry 114). -/
opaque laneCorr : Option CorrSet → Nat → Int → Int

/-- What a meter cell's first accepted conversion is replaced by where no value has been accepted before, by die and cell (R142
states no value; log entry 114). -/
opaque meterNone : Nat → Nat → Int

/-- Whether a ramp value that is not whole is rounded up: V0, RAMP_MS, grid edges (R180 states no rounding; log
entry 9). -/
opaque rampUp : Nat → Nat → Nat → Bool

/-- Whether a quotient that is not whole is rounded up, by rule number, numerator and denominator, where the rule states no
rounding (R403, R433; log entry 28). -/
opaque roundUp : Nat → Int → Int → Bool

/-- A quotient whose rounding rule `r` leaves open. -/
def divOpen (r : Nat) (num den : Int) : Int :=
  if num % den = 0 then num / den else num / den + (if roundUp r num den then 1 else 0)

/-- The safety configuration of die `d` in a CFG image's payload: its bytes and its fields, none where the image carries none
with salt and hash; the format is not given (R412, R413; log entry 43). -/
opaque cfgSafety : List Byte → Nat → Option (List Byte × SafetyCfg)

/-- What a command 0x0101 carries after the password: the new configuration's bytes and fields, and the acknowledge list as
a mask of local ports; none where the bytes are no configuration or a parameter is out of range (R412; log entry 43). -/
opaque safetyWrite : List Byte → Option (List Byte × SafetyCfg × BitVec 4)

/-- The bytes of a safety configuration with its salt and password hash replaced: bytes, salt, hash (R413; log entry 43). -/
opaque cfgSalted : List Byte → List Byte → List Byte → List Byte

/-- The copper loop of a port as its LOOP image has it (R178, R272): proportional term and integrator step of a margin in
0.01 K, and TRACK's step for a difference in mA; no gain is given (log entry 57). -/
opaque cuProp : Nat → Int → Int
opaque cuInt : Nat → Int → Int
opaque cuTrack : Nat → Int → Int

/-- The fan loop (R265): proportional term and integrator step of an inlet error in 0.01 K (log entry 57). -/
opaque fanProp : Int → Int
opaque fanInt : Int → Int

/-- Data-memory index of a port context's word SEL (R267); its place is not given (log entry 57). -/
opaque selWord : Nat → Nat

/-- Start value, final XOR and bit order of the herd header's CRC-8, whose polynomial alone is given (R287; log entry 58). -/
opaque herdCrcStart : Nat
opaque herdCrcXor : Nat
opaque herdCrcMsbFirst : Bool

/-- Whether the running mean square of a modem's receiver is rounded up in its last place, by the old value and the sample (R281
states no word length; log entry 58). -/
opaque rmsUp : Nat → Int → Bool

/-- The identity of the cable that a CFG image configures for a port (R269); the image's format is not given (log entry 57). -/
opaque cableId : List Byte → Nat → Word

/-- Coefficient entry that holds DEPTH of a port's program (R266); its place is not given (log entry 57). -/
opaque depthEntry : Nat → Nat

/-- Whether an MRAM address is that of the MODEM payload in a bank of a die: die, bank, address (R279; log entry 58). -/
opaque modemSrc : Nat → Nat → Nat → Bool

/-- The region M0 to M7 that an offset of a die's MRAM lies in; only M0 and M1's size is given (R67, R81; log entry 33). -/
opaque mramRegion : Nat → Nat

/-- Data-memory words of a die that a LOOP image's context table marks for handover, at most 80; the image's format is not
given (R444; log entry 41). -/
opaque handoverWords : List Byte → List Nat

end Sys2Proof.Config
end

