-- ==== Sys2Proof/Machine/RegMap.lean ====
section
/-!
DEFINITION. The register map: every documented register of the block, its offset, its array dimensions, its
reset domain and its fields with their access codes (R9, R10, R20, R22, R23), one entry per register table of the
spec. `Fld` names one field; `F.<REGISTER>_<FIELD>` are the fields the meanings read and write.
-/

namespace Sys2Proof

/-- Access codes of R10; `rwu` is the code "RWL on U0, U1; RW otherwise" of the acquisition units. -/
inductive Acc where
  | ro | rw | w1c | w1s | wo | rwl | rwu
  deriving DecidableEq, Repr

/-- Reset domains of R20. -/
inductive Dom where
  | keep | pwr | die | blk
  deriving DecidableEq, Repr

/-- One field of a register: lowest bit, width, access code, and whether only the SAFE domain may write it. -/
structure FieldD where
  lo : Nat
  w : Nat
  acc : Acc
  safe : Bool := false
  deriving DecidableEq, Repr

/-- Where a register exists: in every die's region, in the lead die's only, or among the package-global ones. -/
inductive Where where
  | every | lead | pkg
  deriving DecidableEq, Repr

/-- One register (or array of registers) of the map. Its copies stand at `off + i * s1 + j * s2` for i below `n1` and
j below `n2`. `reset` is the reset value, `kept` masks the bits a reset does not return to it because their reset
value is "from MRAM", "from Q3", "from KEEP", fused or a strap: the register is the home of that persistent value. -/
structure RegD where
  off : Nat
  s1 : Nat
  n1 : Nat
  s2 : Nat
  n2 : Nat
  place : Where
  dom : Dom
  reset : Nat
  kept : Nat
  fields : List FieldD
  deriving DecidableEq, Repr

/-- A field by where it stands: offset of the first copy, strides, lowest bit and width. -/
structure Fld where
  off : Nat
  s1 : Nat
  s2 : Nat
  lo : Nat
  w : Nat
  deriving DecidableEq, Repr

namespace RegMap

/-- PKG_ID (chapter 01). -/
def r_PKG_ID : RegD :=
  ⟨0x0, 0x0, 1, 0x0, 1, .pkg, .pwr, 0x4E440800, 0xFFF,
   [⟨0, 8, .ro, false⟩, ⟨8, 4, .ro, false⟩, ⟨16, 16, .ro, false⟩]⟩

/-- PKG_DIES (chapter 01). -/
def r_PKG_DIES : RegD :=
  ⟨0x4, 0x0, 1, 0x0, 1, .pkg, .pwr, 0xFF, 0xFFFFFF,
   [⟨0, 8, .ro, false⟩, ⟨8, 8, .ro, false⟩, ⟨16, 8, .ro, false⟩, ⟨24, 1, .ro, false⟩]⟩

/-- XLK_CTRL (chapter 01). -/
def r_XLK_CTRL : RegD :=
  ⟨0x140000, 0x0, 1, 0x0, 1, .every, .die, 0x1, 0x0,
   [⟨0, 1, .rwl, false⟩, ⟨1, 1, .rwl, false⟩, ⟨31, 1, .w1s, false⟩]⟩

/-- XLK_STAT (chapter 01). -/
def r_XLK_STAT : RegD :=
  ⟨0x140004, 0x0, 1, 0x0, 1, .every, .die, 0x0, 0x0,
   [⟨0, 1, .ro, false⟩, ⟨1, 4, .ro, false⟩, ⟨5, 1, .ro, false⟩]⟩

/-- XLK_ERR (chapter 01). -/
def r_XLK_ERR : RegD :=
  ⟨0x140008, 0x0, 1, 0x0, 1, .every, .die, 0x0, 0x0,
   [⟨0, 1, .w1c, false⟩, ⟨1, 4, .w1c, false⟩, ⟨8, 1, .w1c, false⟩, ⟨12, 4, .ro, false⟩]⟩

/-- XLK_CRC_CNT (chapter 01). -/
def r_XLK_CRC_CNT : RegD :=
  ⟨0x14000C, 0x0, 1, 0x0, 1, .every, .die, 0x0, 0x0,
   [⟨0, 16, .ro, false⟩, ⟨16, 16, .ro, false⟩]⟩

/-- XLK_CLS_CNT (chapter 01). -/
def r_XLK_CLS_CNT : RegD :=
  ⟨0x140010, 0x4, 4, 0x0, 1, .every, .die, 0x0, 0x0,
   [⟨0, 32, .ro, false⟩]⟩

/-- PKG_PWR (chapter 02). -/
def r_PKG_PWR : RegD :=
  ⟨0x10, 0x0, 1, 0x0, 1, .pkg, .pwr, 0x0, 0x0,
   [⟨0, 1, .ro, false⟩, ⟨1, 1, .ro, false⟩, ⟨2, 1, .ro, false⟩, ⟨3, 1, .ro, false⟩,
    ⟨4, 1, .ro, false⟩, ⟨5, 1, .ro, false⟩, ⟨6, 1, .ro, false⟩, ⟨8, 8, .ro, false⟩,
    ⟨16, 1, .w1c, false⟩, ⟨17, 1, .w1c, false⟩, ⟨18, 1, .w1c, false⟩]⟩

/-- PKG_BAT (chapter 02). -/
def r_PKG_BAT : RegD :=
  ⟨0x14, 0x0, 1, 0x0, 1, .pkg, .pwr, 0x0, 0x0,
   [⟨0, 8, .ro, false⟩, ⟨8, 8, .ro, false⟩, ⟨16, 1, .ro, false⟩, ⟨17, 1, .ro, false⟩]⟩

/-- PKG_STAT (chapter 02). -/
def r_PKG_STAT : RegD :=
  ⟨0x18, 0x0, 1, 0x0, 1, .pkg, .pwr, 0x7, 0x0,
   [⟨0, 3, .ro, false⟩, ⟨8, 8, .ro, false⟩]⟩

/-- LCS_STATE (chapter 03). -/
def r_LCS_STATE : RegD :=
  ⟨0x250000, 0x0, 1, 0x0, 1, .lead, .pwr, 0x0, 0xFF0F,
   [⟨0, 3, .ro, false⟩, ⟨3, 1, .ro, false⟩, ⟨8, 8, .ro, false⟩, ⟨16, 1, .ro, false⟩]⟩

/-- LCS_BOOT (chapter 03). -/
def r_LCS_BOOT : RegD :=
  ⟨0x250004, 0x0, 1, 0x0, 1, .lead, .pwr, 0xFF0F00, 0x0,
   [⟨0, 1, .ro, false⟩, ⟨1, 1, .ro, false⟩, ⟨2, 1, .ro, false⟩, ⟨3, 1, .ro, false⟩,
    ⟨4, 1, .ro, false⟩, ⟨5, 1, .ro, false⟩, ⟨6, 1, .ro, false⟩, ⟨8, 4, .ro, false⟩,
    ⟨12, 4, .ro, false⟩, ⟨16, 8, .ro, false⟩]⟩

/-- LCS_BANK (chapter 03). -/
def r_LCS_BANK : RegD :=
  ⟨0x250008, 0x0, 1, 0x0, 1, .lead, .pwr, 0x0, 0x7,
   [⟨0, 1, .ro, false⟩, ⟨1, 1, .ro, false⟩, ⟨2, 1, .ro, false⟩]⟩

/-- LCS_STAGED (chapter 03). -/
def r_LCS_STAGED : RegD :=
  ⟨0x25000C, 0x0, 1, 0x0, 1, .lead, .pwr, 0x0, 0x7F,
   [⟨0, 6, .ro, false⟩, ⟨6, 1, .ro, false⟩, ⟨7, 1, .ro, false⟩]⟩

/-- LCS_CTRL (chapter 03). -/
def r_LCS_CTRL : RegD :=
  ⟨0x250010, 0x0, 1, 0x0, 1, .lead, .pwr, 0x258, 0x0,
   [⟨0, 16, .rwl, false⟩, ⟨31, 1, .w1s, false⟩]⟩

/-- LCS_CONFIRM (chapter 03). -/
def r_LCS_CONFIRM : RegD :=
  ⟨0x250014, 0x0, 1, 0x0, 1, .lead, .pwr, 0x0, 0x0,
   [⟨0, 32, .wo, false⟩]⟩

/-- LCS_FLOOR (chapter 03). -/
def r_LCS_FLOOR : RegD :=
  ⟨0x250018, 0x0, 1, 0x0, 1, .lead, .pwr, 0x0, 0xFFFFFF,
   [⟨0, 24, .ro, false⟩]⟩

/-- LCS_MREG (chapter 03). -/
def r_LCS_MREG : RegD :=
  ⟨0x250100, 0x20, 8, 0x4, 8, .lead, .pwr, 0x0, 0x0,
   [⟨0, 32, .ro, false⟩]⟩

/-- LCS_MREG7_EXT (chapter 03). -/
def r_LCS_MREG7_EXT : RegD :=
  ⟨0x250200, 0x4, 8, 0x0, 1, .lead, .pwr, 0x0, 0x0,
   [⟨0, 32, .wo, false⟩]⟩

/-- KEY_STAT (chapter 04). -/
def r_KEY_STAT : RegD :=
  ⟨0x200000, 0x0, 1, 0x0, 1, .lead, .pwr, 0x0, 0x3,
   [⟨0, 1, .ro, false⟩, ⟨1, 1, .ro, false⟩, ⟨2, 1, .ro, false⟩, ⟨3, 1, .ro, false⟩,
    ⟨8, 4, .ro, false⟩]⟩

/-- KEY_TAMPER (chapter 04). -/
def r_KEY_TAMPER : RegD :=
  ⟨0x200004, 0x0, 1, 0x0, 1, .lead, .keep, 0x0, 0x0,
   [⟨0, 1, .ro, false⟩, ⟨1, 1, .ro, false⟩, ⟨2, 1, .ro, false⟩, ⟨3, 1, .ro, false⟩,
    ⟨4, 1, .ro, false⟩, ⟨8, 8, .ro, false⟩]⟩

/-- KEY_WDATA (chapter 04). -/
def r_KEY_WDATA : RegD :=
  ⟨0x200040, 0x4, 12, 0x0, 1, .lead, .pwr, 0x0, 0x0,
   [⟨0, 32, .wo, false⟩]⟩

/-- KEY_WATTR (chapter 04). -/
def r_KEY_WATTR : RegD :=
  ⟨0x200070, 0x0, 1, 0x0, 1, .lead, .pwr, 0x0, 0x0,
   [⟨0, 32, .rw, false⟩]⟩

/-- KEY_WCMD (chapter 04). -/
def r_KEY_WCMD : RegD :=
  ⟨0x200074, 0x0, 1, 0x0, 1, .lead, .pwr, 0x0, 0x0,
   [⟨0, 6, .wo, false⟩, ⟨8, 1, .wo, false⟩, ⟨16, 16, .wo, false⟩]⟩

/-- KEY_OPC (chapter 04). -/
def r_KEY_OPC : RegD :=
  ⟨0x200080, 0x0, 1, 0x0, 1, .lead, .pwr, 0x0, 0x0,
   [⟨0, 6, .rw, false⟩, ⟨8, 4, .rw, false⟩, ⟨12, 6, .rw, false⟩, ⟨31, 1, .w1s, false⟩]⟩

/-- KEY_OPADDR (chapter 04). -/
def r_KEY_OPADDR : RegD :=
  ⟨0x200084, 0x4, 3, 0x0, 1, .lead, .pwr, 0x0, 0x0,
   [⟨0, 32, .rw, false⟩]⟩

/-- KEY_OPLEN (chapter 04). -/
def r_KEY_OPLEN : RegD :=
  ⟨0x200090, 0x0, 1, 0x0, 1, .lead, .pwr, 0x0, 0x0,
   [⟨0, 20, .rw, false⟩, ⟨20, 12, .rw, false⟩]⟩

/-- KEY_OPRES (chapter 04). -/
def r_KEY_OPRES : RegD :=
  ⟨0x200094, 0x0, 1, 0x0, 1, .lead, .pwr, 0x0, 0x0,
   [⟨0, 8, .ro, false⟩, ⟨8, 1, .w1c, false⟩, ⟨9, 1, .ro, false⟩]⟩

/-- KEY_SLOT_ATTR (chapter 04). -/
def r_KEY_SLOT_ATTR : RegD :=
  ⟨0x200100, 0x8, 64, 0x0, 1, .lead, .pwr, 0x0, 0x801FFFF7,
   [⟨0, 3, .ro, false⟩, ⟨4, 2, .ro, false⟩, ⟨6, 1, .ro, false⟩, ⟨7, 1, .ro, false⟩,
    ⟨8, 8, .ro, false⟩, ⟨16, 2, .ro, false⟩, ⟨18, 1, .ro, false⟩, ⟨19, 1, .ro, false⟩,
    ⟨20, 1, .ro, false⟩, ⟨31, 1, .ro, false⟩]⟩

/-- KEY_SLOT_LABEL (chapter 04). -/
def r_KEY_SLOT_LABEL : RegD :=
  ⟨0x200104, 0x8, 64, 0x0, 1, .lead, .pwr, 0x0, 0xFFFF,
   [⟨0, 16, .ro, false⟩]⟩

/-- HPI_CTRL (chapter 05). -/
def r_HPI_CTRL : RegD :=
  ⟨0x220000, 0x0, 1, 0x0, 1, .lead, .pwr, 0x3, 0x0,
   [⟨0, 1, .rwl, false⟩, ⟨1, 1, .rwl, false⟩, ⟨31, 1, .w1s, false⟩]⟩

/-- HPI_STAT (chapter 05). -/
def r_HPI_STAT : RegD :=
  ⟨0x220004, 0x0, 1, 0x0, 1, .lead, .pwr, 0x0, 0x0,
   [⟨0, 1, .ro, false⟩, ⟨1, 1, .w1c, false⟩, ⟨2, 1, .w1c, false⟩, ⟨3, 1, .w1c, false⟩]⟩

/-- SMW_EVT (chapter 05). -/
def r_SMW_EVT : RegD :=
  ⟨0x221000, 0x0, 1, 0x0, 1, .lead, .pwr, 0x0, 0x0,
   [⟨0, 8, .w1c, false⟩, ⟨8, 1, .w1c, false⟩, ⟨9, 1, .w1c, false⟩, ⟨10, 1, .w1c, false⟩,
    ⟨11, 1, .w1c, false⟩]⟩

/-- SMW_IEN (chapter 05). -/
def r_SMW_IEN : RegD :=
  ⟨0x221004, 0x4, 2, 0x0, 1, .lead, .pwr, 0x0, 0x0,
   [⟨0, 12, .rw, false⟩]⟩

/-- SMW_RSV (chapter 05). -/
def r_SMW_RSV : RegD :=
  ⟨0x22100C, 0x4, 2, 0x0, 1, .lead, .pwr, 0x0, 0x0,
   [⟨0, 32, .rw, false⟩]⟩

/-- SMW_EARLY_READ (chapter 05). -/
def r_SMW_EARLY_READ : RegD :=
  ⟨0x221014, 0x0, 1, 0x0, 1, .lead, .pwr, 0x0, 0x0,
   [⟨0, 16, .ro, false⟩, ⟨16, 8, .ro, false⟩, ⟨24, 1, .ro, false⟩, ⟨31, 1, .w1c, false⟩]⟩

/-- SMW_ERR (chapter 05). -/
def r_SMW_ERR : RegD :=
  ⟨0x221018, 0x0, 1, 0x0, 1, .lead, .pwr, 0x0, 0x0,
   [⟨0, 1, .w1c, false⟩, ⟨1, 1, .w1c, false⟩, ⟨2, 1, .w1c, false⟩, ⟨3, 1, .w1c, false⟩,
    ⟨4, 1, .w1c, false⟩, ⟨8, 4, .ro, false⟩, ⟨12, 8, .ro, false⟩]⟩

/-- SMW_CMD_CNT (chapter 05). -/
def r_SMW_CMD_CNT : RegD :=
  ⟨0x22101C, 0x0, 1, 0x0, 1, .lead, .pwr, 0x0, 0x0,
   [⟨0, 16, .ro, false⟩, ⟨16, 16, .ro, false⟩]⟩

/-- SMW_LOCKOUT (chapter 05). -/
def r_SMW_LOCKOUT : RegD :=
  ⟨0x221020, 0x0, 1, 0x0, 1, .lead, .pwr, 0x0, 0x0,
   [⟨0, 5, .ro, false⟩, ⟨16, 12, .ro, false⟩]⟩

/-- SMW_LASTCTR (chapter 05). -/
def r_SMW_LASTCTR : RegD :=
  ⟨0x221040, 0x8, 5, 0x4, 2, .lead, .pwr, 0x0, 0xFFFFFFFF,
   [⟨0, 32, .ro, false⟩]⟩

/-- ADC_CTRL (chapter 06). -/
def r_ADC_CTRL : RegD :=
  ⟨0x40000, 0x0, 1, 0x0, 1, .every, .die, 0x0, 0x0,
   [⟨0, 1, .w1s, false⟩, ⟨31, 1, .w1s, false⟩]⟩

/-- ADC_REF (chapter 06). -/
def r_ADC_REF : RegD :=
  ⟨0x40004, 0x0, 1, 0x0, 1, .every, .die, 0x0, 0x0,
   [⟨0, 2, .rwl, false⟩, ⟨8, 1, .ro, false⟩, ⟨9, 1, .ro, false⟩, ⟨10, 1, .ro, false⟩]⟩

/-- ADC_STAT (chapter 06). -/
def r_ADC_STAT : RegD :=
  ⟨0x40008, 0x0, 1, 0x0, 1, .every, .die, 0x24, 0x0,
   [⟨0, 2, .ro, false⟩, ⟨2, 2, .ro, false⟩, ⟨4, 2, .ro, false⟩, ⟨6, 1, .ro, false⟩,
    ⟨7, 1, .ro, false⟩]⟩

/-- ADC_ERR (chapter 06). -/
def r_ADC_ERR : RegD :=
  ⟨0x4000C, 0x0, 1, 0x0, 1, .every, .die, 0x0, 0x0,
   [⟨0, 1, .w1c, false⟩, ⟨1, 1, .w1c, false⟩, ⟨2, 1, .w1c, false⟩, ⟨3, 1, .w1c, false⟩,
    ⟨4, 1, .w1c, false⟩, ⟨8, 4, .ro, false⟩, ⟨12, 7, .ro, false⟩]⟩

/-- ADC_SITE (chapter 06). -/
def r_ADC_SITE : RegD :=
  ⟨0x40010, 0x0, 1, 0x0, 1, .lead, .pwr, 0x0, 0xFF,
   [⟨0, 1, .ro, false⟩, ⟨1, 3, .ro, false⟩, ⟨4, 3, .ro, false⟩, ⟨7, 1, .ro, false⟩]⟩

/-- ADC_SQ_CTRL (chapter 06). -/
def r_ADC_SQ_CTRL : RegD :=
  ⟨0x40100, 0x40, 2, 0x0, 1, .every, .die, 0x0, 0x0,
   [⟨0, 1, .rw, false⟩, ⟨1, 1, .rw, false⟩, ⟨2, 1, .w1s, false⟩]⟩

/-- ADC_SQ_CFG (chapter 06). -/
def r_ADC_SQ_CFG : RegD :=
  ⟨0x40104, 0x40, 2, 0x0, 1, .every, .die, 0x0, 0x0,
   [⟨0, 5, .rw, false⟩, ⟨18, 14, .rw, false⟩]⟩

/-- ADC_SQ_STAT (chapter 06). -/
def r_ADC_SQ_STAT : RegD :=
  ⟨0x40108, 0x40, 2, 0x0, 1, .every, .die, 0x0, 0x0,
   [⟨0, 8, .ro, false⟩, ⟨8, 1, .ro, false⟩, ⟨9, 4, .ro, false⟩, ⟨13, 4, .ro, false⟩,
    ⟨18, 14, .ro, false⟩]⟩

/-- ADC_SQ_ROUND (chapter 06). -/
def r_ADC_SQ_ROUND : RegD :=
  ⟨0x4010C, 0x40, 2, 0x0, 1, .every, .die, 0x0, 0x0,
   [⟨0, 32, .ro, false⟩]⟩

/-- ADC_SQ_ENT (chapter 06). -/
def r_ADC_SQ_ENT : RegD :=
  ⟨0x40200, 0x100, 2, 0x4, 16, .every, .die, 0x0, 0x0,
   [⟨0, 32, .rw, false⟩]⟩

/-- ADC_SQ_AENT (chapter 06). -/
def r_ADC_SQ_AENT : RegD :=
  ⟨0x40240, 0x100, 2, 0x4, 16, .every, .die, 0x0, 0x0,
   [⟨0, 32, .ro, false⟩]⟩

/-- ADC_SQ_SCAN (chapter 06). -/
def r_ADC_SQ_SCAN : RegD :=
  ⟨0x40280, 0x100, 2, 0x4, 4, .every, .die, 0x0, 0x0,
   [⟨0, 16, .rw, false⟩]⟩

/-- ADC_SQ_ASCAN (chapter 06). -/
def r_ADC_SQ_ASCAN : RegD :=
  ⟨0x40290, 0x100, 2, 0x4, 4, .every, .die, 0x0, 0x0,
   [⟨0, 16, .ro, false⟩]⟩

/-- ADC_RING_BASE (chapter 06). -/
def r_ADC_RING_BASE : RegD :=
  ⟨0x40400, 0x10, 8, 0x0, 1, .every, .die, 0x0, 0x0,
   [⟨0, 32, .rw, false⟩]⟩

/-- ADC_RING_SIZE (chapter 06). -/
def r_ADC_RING_SIZE : RegD :=
  ⟨0x40404, 0x10, 8, 0x0, 1, .every, .die, 0x0, 0x0,
   [⟨0, 4, .rw, false⟩]⟩

/-- ADC_RING_WPTR (chapter 06). -/
def r_ADC_RING_WPTR : RegD :=
  ⟨0x40408, 0x10, 8, 0x0, 1, .every, .die, 0x0, 0x0,
   [⟨0, 18, .ro, false⟩]⟩

/-- ADC_RING_WRAP (chapter 06). -/
def r_ADC_RING_WRAP : RegD :=
  ⟨0x4040C, 0x10, 8, 0x0, 1, .every, .die, 0x0, 0x0,
   [⟨0, 16, .ro, false⟩]⟩

/-- ADC_CELL (chapter 06). -/
def r_ADC_CELL : RegD :=
  ⟨0x41000, 0x4, 72, 0x0, 1, .every, .die, 0x0, 0x20,
   [⟨0, 1, .rw, false⟩, ⟨1, 3, .rw, false⟩, ⟨4, 1, .rwl, false⟩, ⟨5, 1, .ro, false⟩,
    ⟨6, 1, .w1c, false⟩]⟩

/-- ADC_LAST (chapter 06). -/
def r_ADC_LAST : RegD :=
  ⟨0x41200, 0x4, 72, 0x0, 1, .every, .die, 0x0, 0x0,
   [⟨0, 32, .ro, false⟩]⟩

/-- ADC_TW (chapter 06). -/
def r_ADC_TW : RegD :=
  ⟨0x41400, 0x8, 64, 0x4, 2, .every, .die, 0x7FFF8000, 0x0,
   [⟨0, 16, .rw, true⟩, ⟨16, 16, .rw, true⟩]⟩

/-- ADC_TWEN (chapter 06). -/
def r_ADC_TWEN : RegD :=
  ⟨0x41380, 0x8, 2, 0x4, 2, .every, .die, 0x0, 0x0,
   [⟨0, 32, .rw, true⟩]⟩

/-- ADC_TRIP (chapter 06). -/
def r_ADC_TRIP : RegD :=
  ⟨0x41390, 0x4, 2, 0x0, 1, .every, .die, 0x0, 0x0,
   [⟨0, 32, .w1c, true⟩]⟩

/-- ADC_TC (chapter 06). -/
def r_ADC_TC : RegD :=
  ⟨0x41800, 0x4, 8, 0x0, 1, .every, .die, 0x0, 0x0,
   [⟨0, 4, .rw, true⟩, ⟨4, 12, .rw, true⟩, ⟨16, 1, .rw, true⟩, ⟨17, 1, .rw, true⟩]⟩

/-- ADC_TC_STAT (chapter 06). -/
def r_ADC_TC_STAT : RegD :=
  ⟨0x41820, 0x0, 1, 0x0, 1, .every, .die, 0x0, 0x0,
   [⟨0, 8, .w1c, true⟩, ⟨8, 8, .ro, false⟩]⟩

/-- ADC_SYSCAL (chapter 06). -/
def r_ADC_SYSCAL : RegD :=
  ⟨0x41900, 0x0, 1, 0x0, 1, .every, .die, 0x0, 0x0,
   [⟨0, 7, .rw, false⟩, ⟨7, 3, .rw, false⟩, ⟨10, 2, .rw, false⟩, ⟨12, 4, .rw, false⟩,
    ⟨31, 1, .w1s, false⟩]⟩

/-- ADC_SYSCAL_TGT (chapter 06). -/
def r_ADC_SYSCAL_TGT : RegD :=
  ⟨0x41904, 0x0, 1, 0x0, 1, .every, .die, 0x0, 0x0,
   [⟨0, 16, .rw, false⟩]⟩

/-- ADC_SYSCAL_STAT (chapter 06). -/
def r_ADC_SYSCAL_STAT : RegD :=
  ⟨0x41908, 0x0, 1, 0x0, 1, .every, .die, 0x0, 0x0,
   [⟨0, 8, .ro, false⟩, ⟨8, 1, .ro, false⟩, ⟨9, 1, .ro, false⟩, ⟨11, 1, .ro, false⟩,
    ⟨12, 17, .ro, false⟩]⟩

/-- ADC_COEF_SEL (chapter 06). -/
def r_ADC_COEF_SEL : RegD :=
  ⟨0x4190C, 0x0, 1, 0x0, 1, .every, .die, 0x0, 0x0,
   [⟨0, 7, .rw, false⟩, ⟨7, 3, .rw, false⟩]⟩

/-- ADC_COEF_OFS (chapter 06). -/
def r_ADC_COEF_OFS : RegD :=
  ⟨0x41910, 0x0, 1, 0x0, 1, .every, .die, 0x0, 0xFFFFF,
   [⟨0, 20, .ro, false⟩]⟩

/-- ADC_COEF_GAIN (chapter 06). -/
def r_ADC_COEF_GAIN : RegD :=
  ⟨0x41914, 0x0, 1, 0x0, 1, .every, .die, 0x10000, 0x3FFFF,
   [⟨0, 18, .ro, false⟩]⟩

/-- ADC_MTRMAP (chapter 06). -/
def r_ADC_MTRMAP : RegD :=
  ⟨0x41A00, 0x4, 4, 0x0, 1, .every, .die, 0x0, 0x7FFFFF,
   [⟨0, 4, .ro, false⟩, ⟨4, 4, .ro, false⟩, ⟨8, 4, .ro, false⟩, ⟨12, 1, .ro, false⟩,
    ⟨13, 3, .ro, false⟩, ⟨16, 3, .ro, false⟩, ⟨19, 3, .ro, false⟩, ⟨22, 1, .ro, false⟩]⟩

/-- ADC_ROT_CFG (chapter 07). -/
def r_ADC_ROT_CFG : RegD :=
  ⟨0x41C00, 0x0, 1, 0x0, 1, .every, .die, 0x640A01, 0x0,
   [⟨0, 1, .rwl, false⟩, ⟨1, 1, .w1s, false⟩, ⟨8, 8, .rwl, false⟩, ⟨16, 8, .rwl, false⟩]⟩

/-- ADC_ROT_LIM (chapter 07). -/
def r_ADC_ROT_LIM : RegD :=
  ⟨0x41C04, 0x0, 1, 0x0, 1, .every, .die, 0x3020, 0x0,
   [⟨0, 8, .rwl, false⟩, ⟨8, 8, .rwl, false⟩]⟩

/-- ADC_ROT_STAT (chapter 07). -/
def r_ADC_ROT_STAT : RegD :=
  ⟨0x41C08, 0x0, 1, 0x0, 1, .every, .die, 0x21, 0x0,
   [⟨0, 3, .ro, false⟩, ⟨3, 1, .ro, false⟩, ⟨4, 2, .ro, false⟩, ⟨6, 1, .ro, false⟩,
    ⟨8, 7, .ro, false⟩, ⟨16, 4, .ro, false⟩]⟩

/-- ADC_ROT_CNT (chapter 07). -/
def r_ADC_ROT_CNT : RegD :=
  ⟨0x41C0C, 0x0, 1, 0x0, 1, .every, .die, 0x0, 0x0,
   [⟨0, 16, .ro, false⟩, ⟨16, 8, .ro, false⟩, ⟨24, 8, .ro, false⟩]⟩

/-- ADC_ROT_LAST (chapter 07). -/
def r_ADC_ROT_LAST : RegD :=
  ⟨0x41C10, 0x0, 1, 0x0, 1, .every, .die, 0x0, 0x0,
   [⟨0, 12, .ro, false⟩, ⟨12, 8, .ro, false⟩, ⟨20, 7, .ro, false⟩, ⟨27, 1, .ro, false⟩]⟩

/-- ADC_ROT_EVT (chapter 07). -/
def r_ADC_ROT_EVT : RegD :=
  ⟨0x41C14, 0x0, 1, 0x0, 1, .every, .die, 0x0, 0x0,
   [⟨0, 1, .w1c, false⟩, ⟨1, 1, .w1c, false⟩, ⟨2, 1, .w1c, false⟩, ⟨3, 1, .w1c, false⟩,
    ⟨4, 1, .w1c, false⟩, ⟨5, 1, .w1c, false⟩, ⟨6, 1, .w1c, false⟩, ⟨7, 1, .w1c, false⟩,
    ⟨8, 1, .w1c, false⟩, ⟨12, 4, .ro, false⟩]⟩

/-- ADC_LANE_CAL (chapter 07). -/
def r_ADC_LANE_CAL : RegD :=
  ⟨0x41C20, 0x4, 3, 0x0, 1, .every, .die, 0x0, 0x2,
   [⟨0, 1, .ro, false⟩, ⟨1, 1, .ro, false⟩, ⟨2, 1, .ro, false⟩, ⟨8, 8, .ro, false⟩,
    ⟨16, 16, .ro, false⟩]⟩

/-- ADC_LANE_DRIFT (chapter 07). -/
def r_ADC_LANE_DRIFT : RegD :=
  ⟨0x41C30, 0x4, 3, 0x0, 1, .every, .die, 0x0, 0x0,
   [⟨0, 16, .ro, false⟩, ⟨16, 16, .ro, false⟩]⟩

/-- OXE_CTRL (chapter 08). -/
def r_OXE_CTRL : RegD :=
  ⟨0x80000, 0x0, 1, 0x0, 1, .every, .die, 0x0, 0x0,
   [⟨0, 1, .rw, false⟩, ⟨31, 1, .w1s, false⟩]⟩

/-- OXE_STAT (chapter 08). -/
def r_OXE_STAT : RegD :=
  ⟨0x80004, 0x0, 1, 0x0, 1, .every, .die, 0x10, 0x0,
   [⟨0, 1, .ro, false⟩, ⟨1, 3, .ro, false⟩, ⟨4, 1, .ro, false⟩, ⟨5, 1, .ro, false⟩]⟩

/-- OXE_ERR (chapter 08). -/
def r_OXE_ERR : RegD :=
  ⟨0x80008, 0x0, 1, 0x0, 1, .every, .die, 0x0, 0x0,
   [⟨0, 1, .w1c, false⟩, ⟨1, 1, .w1c, false⟩, ⟨2, 1, .w1c, false⟩, ⟨3, 1, .w1c, false⟩,
    ⟨4, 1, .w1c, false⟩, ⟨5, 1, .w1c, false⟩, ⟨8, 4, .ro, false⟩, ⟨12, 3, .ro, false⟩]⟩

/-- OXE_PROG_CRC (chapter 08). -/
def r_OXE_PROG_CRC : RegD :=
  ⟨0x8000C, 0x0, 1, 0x0, 1, .every, .die, 0x0, 0x0,
   [⟨0, 32, .ro, false⟩]⟩

/-- OXE_SAFE_EVT (chapter 08). -/
def r_OXE_SAFE_EVT : RegD :=
  ⟨0x80010, 0x0, 1, 0x0, 1, .every, .die, 0x0, 0x0,
   [⟨0, 8, .w1s, true⟩]⟩

/-- OXE_EVTQ (chapter 08). -/
def r_OXE_EVTQ : RegD :=
  ⟨0x80014, 0x4, 2, 0x0, 1, .every, .die, 0x0, 0x0,
   [⟨0, 16, .ro, false⟩, ⟨16, 3, .ro, false⟩, ⟨31, 1, .ro, false⟩]⟩

/-- OXE_CTX_CFG (chapter 08). -/
def r_OXE_CTX_CFG : RegD :=
  ⟨0x80100, 0x20, 8, 0x0, 1, .every, .die, 0x0, 0x0,
   [⟨0, 13, .rwl, false⟩, ⟨13, 1, .rwl, false⟩, ⟨16, 14, .rwl, false⟩]⟩

/-- OXE_CTX_TRIG (chapter 08). -/
def r_OXE_CTX_TRIG : RegD :=
  ⟨0x80104, 0x20, 8, 0x0, 1, .every, .die, 0x0, 0x0,
   [⟨0, 3, .rwl, false⟩, ⟨3, 1, .rwl, false⟩, ⟨4, 4, .rwl, false⟩, ⟨8, 2, .rwl, false⟩,
    ⟨16, 8, .rwl, false⟩, ⟨24, 8, .rwl, false⟩]⟩

/-- OXE_CTX_TIMER (chapter 08). -/
def r_OXE_CTX_TIMER : RegD :=
  ⟨0x80108, 0x20, 8, 0x0, 1, .every, .die, 0x1, 0x0,
   [⟨0, 16, .rwl, false⟩, ⟨16, 16, .rwl, false⟩]⟩

/-- OXE_CTX_DWIN (chapter 08). -/
def r_OXE_CTX_DWIN : RegD :=
  ⟨0x8010C, 0x20, 8, 0x0, 1, .every, .die, 0x0, 0x0,
   [⟨0, 11, .rwl, false⟩, ⟨16, 12, .rwl, false⟩]⟩

/-- OXE_CTX_STAT (chapter 08). -/
def r_OXE_CTX_STAT : RegD :=
  ⟨0x80110, 0x20, 8, 0x0, 1, .every, .die, 0x0, 0x0,
   [⟨0, 3, .ro, false⟩, ⟨3, 4, .ro, false⟩, ⟨8, 1, .ro, false⟩, ⟨9, 1, .ro, false⟩,
    ⟨10, 1, .ro, false⟩, ⟨11, 1, .ro, false⟩, ⟨16, 4, .ro, false⟩, ⟨24, 8, .ro, false⟩]⟩

/-- OXE_CTX_CYC (chapter 08). -/
def r_OXE_CTX_CYC : RegD :=
  ⟨0x80114, 0x20, 8, 0x0, 1, .every, .die, 0x0, 0x0,
   [⟨0, 14, .ro, false⟩, ⟨16, 14, .ro, false⟩]⟩

/-- OXE_CTX_CNT (chapter 08). -/
def r_OXE_CTX_CNT : RegD :=
  ⟨0x80118, 0x20, 8, 0x0, 1, .every, .die, 0x0, 0x0,
   [⟨0, 24, .ro, false⟩, ⟨24, 8, .ro, false⟩]⟩

/-- OXE_CTX_CTRL (chapter 08). -/
def r_OXE_CTX_CTRL : RegD :=
  ⟨0x8011C, 0x20, 8, 0x0, 1, .every, .die, 0x0, 0x0,
   [⟨0, 1, .w1s, false⟩, ⟨1, 1, .w1s, false⟩, ⟨2, 1, .w1s, false⟩, ⟨3, 1, .w1s, false⟩]⟩

/-- OXE_PORT_CFG (chapter 08). -/
def r_OXE_PORT_CFG : RegD :=
  ⟨0x80200, 0x20, 4, 0x0, 1, .every, .die, 0x0, 0x0,
   [⟨0, 3, .rw, false⟩]⟩

/-- OXE_PORT_OUT (chapter 08). -/
def r_OXE_PORT_OUT : RegD :=
  ⟨0x80204, 0x20, 4, 0x0, 1, .every, .die, 0x0, 0x0,
   [⟨0, 32, .ro, false⟩]⟩

/-- OXE_PORT_DERATE (chapter 08). -/
def r_OXE_PORT_DERATE : RegD :=
  ⟨0x80208, 0x20, 4, 0x0, 1, .every, .die, 0x0, 0x0,
   [⟨0, 32, .rw, true⟩]⟩

/-- OXE_PORT_OVR (chapter 08). -/
def r_OXE_PORT_OVR : RegD :=
  ⟨0x8020C, 0x20, 4, 0x0, 1, .every, .die, 0x32A, 0x0,
   [⟨0, 2, .rw, true⟩, ⟨2, 6, .rw, true⟩, ⟨8, 1, .ro, false⟩, ⟨9, 1, .ro, false⟩]⟩

/-- OXE_PORT_CNT (chapter 08). -/
def r_OXE_PORT_CNT : RegD :=
  ⟨0x80210, 0x20, 4, 0x0, 1, .every, .die, 0x0, 0x0,
   [⟨0, 12, .ro, false⟩, ⟨12, 12, .ro, false⟩, ⟨24, 8, .ro, false⟩]⟩

/-- OXE_PORT_WIN (chapter 08). -/
def r_OXE_PORT_WIN : RegD :=
  ⟨0x80214, 0x20, 4, 0x0, 1, .every, .die, 0x0, 0x0,
   [⟨0, 4, .ro, false⟩, ⟨16, 16, .ro, false⟩]⟩

/-- OXE_GEN_CTRL (chapter 08). -/
def r_OXE_GEN_CTRL : RegD :=
  ⟨0x80300, 0x0, 1, 0x0, 1, .every, .die, 0x10000, 0x0,
   [⟨0, 1, .w1s, false⟩, ⟨16, 16, .rw, false⟩]⟩

/-- OXE_DDS_FTW (chapter 08). -/
def r_OXE_DDS_FTW : RegD :=
  ⟨0x80304, 0x0, 1, 0x0, 1, .every, .die, 0x0, 0x0,
   [⟨0, 32, .rw, false⟩]⟩

/-- OXE_MS (chapter 08). -/
def r_OXE_MS : RegD :=
  ⟨0x80400, 0x4, 64, 0x0, 1, .every, .die, 0x0, 0x0,
   [⟨0, 32, .rw, false⟩]⟩

/-- OXE_COR_FTW (chapter 08). -/
def r_OXE_COR_FTW : RegD :=
  ⟨0x80500, 0x20, 8, 0x0, 1, .every, .die, 0x0, 0x0,
   [⟨0, 32, .rw, false⟩]⟩

/-- OXE_COR_CTRL (chapter 08). -/
def r_OXE_COR_CTRL : RegD :=
  ⟨0x80504, 0x20, 8, 0x0, 1, .every, .die, 0x0, 0x0,
   [⟨0, 1, .w1s, false⟩, ⟨1, 1, .rw, false⟩, ⟨2, 1, .ro, false⟩, ⟨8, 24, .rw, false⟩]⟩

/-- OXE_COR_RES (chapter 08). -/
def r_OXE_COR_RES : RegD :=
  ⟨0x80508, 0x20, 8, 0x4, 5, .every, .die, 0x0, 0x0,
   [⟨0, 32, .ro, false⟩]⟩

/-- OXE_CAP_STAT (chapter 08). -/
def r_OXE_CAP_STAT : RegD :=
  ⟨0x80600, 0x0, 1, 0x0, 1, .every, .die, 0x0, 0x0,
   [⟨0, 1, .ro, false⟩, ⟨1, 1, .w1c, false⟩, ⟨2, 1, .w1c, false⟩, ⟨4, 13, .ro, false⟩]⟩

/-- OXE_CAP_OVF (chapter 08). -/
def r_OXE_CAP_OVF : RegD :=
  ⟨0x80604, 0x0, 1, 0x0, 1, .every, .die, 0x0, 0x0,
   [⟨0, 32, .ro, false⟩]⟩

/-- STL_CTRL (chapter 11). -/
def r_STL_CTRL : RegD :=
  ⟨0x100000, 0x0, 1, 0x0, 1, .every, .die, 0x1, 0x0,
   [⟨0, 1, .rwl, false⟩, ⟨31, 1, .w1s, false⟩]⟩

/-- STL_EVT (chapter 11). -/
def r_STL_EVT : RegD :=
  ⟨0x100004, 0x0, 1, 0x0, 1, .every, .die, 0x0, 0x0,
   [⟨0, 4, .w1c, false⟩, ⟨4, 4, .w1c, false⟩, ⟨8, 4, .w1c, false⟩, ⟨12, 4, .w1c, false⟩]⟩

/-- STL_P_CFG (chapter 11). -/
def r_STL_P_CFG : RegD :=
  ⟨0x100100, 0x40, 4, 0x0, 1, .every, .die, 0x0, 0x0,
   [⟨0, 7, .rwl, false⟩, ⟨8, 1, .rw, false⟩, ⟨9, 2, .rwl, false⟩]⟩

/-- STL_P_VHI (chapter 11). -/
def r_STL_P_VHI : RegD :=
  ⟨0x100104, 0x40, 4, 0x0, 1, .every, .die, 0x0, 0x0,
   [⟨0, 32, .rw, false⟩]⟩

/-- STL_P_VLO (chapter 11). -/
def r_STL_P_VLO : RegD :=
  ⟨0x100108, 0x40, 4, 0x0, 1, .every, .die, 0x0, 0x0,
   [⟨0, 32, .rw, false⟩]⟩

/-- STL_P_PLIM (chapter 11). -/
def r_STL_P_PLIM : RegD :=
  ⟨0x10010C, 0x40, 4, 0x0, 1, .every, .die, 0x0, 0x0,
   [⟨0, 32, .rw, false⟩]⟩

/-- STL_P_HALT (chapter 11). -/
def r_STL_P_HALT : RegD :=
  ⟨0x100110, 0x40, 4, 0x0, 1, .every, .die, 0x24, 0x0,
   [⟨0, 1, .w1s, true⟩, ⟨1, 1, .w1s, true⟩, ⟨2, 1, .ro, false⟩, ⟨3, 3, .ro, false⟩,
    ⟨6, 1, .ro, false⟩]⟩

/-- STL_P_STAT (chapter 11). -/
def r_STL_P_STAT : RegD :=
  ⟨0x100114, 0x40, 4, 0x0, 1, .every, .die, 0x0, 0x0,
   [⟨0, 1, .ro, false⟩, ⟨1, 1, .ro, false⟩, ⟨2, 1, .ro, false⟩, ⟨3, 1, .ro, false⟩,
    ⟨16, 16, .ro, false⟩]⟩

/-- STL_P_CNT (chapter 11). -/
def r_STL_P_CNT : RegD :=
  ⟨0x100118, 0x40, 4, 0x0, 1, .every, .die, 0x0, 0x0,
   [⟨0, 8, .ro, false⟩, ⟨8, 8, .ro, false⟩, ⟨16, 8, .ro, false⟩, ⟨24, 8, .ro, false⟩]⟩

/-- STL_P_RX (chapter 11). -/
def r_STL_P_RX : RegD :=
  ⟨0x100120, 0x40, 4, 0x4, 8, .every, .die, 0x0, 0x0,
   [⟨0, 32, .ro, false⟩]⟩

/-- STL_RING_BASE (chapter 11). -/
def r_STL_RING_BASE : RegD :=
  ⟨0x100400, 0x10, 4, 0x0, 1, .every, .die, 0x0, 0x0,
   [⟨0, 32, .rw, false⟩]⟩

/-- STL_RING_SIZE (chapter 11). -/
def r_STL_RING_SIZE : RegD :=
  ⟨0x100404, 0x10, 4, 0x0, 1, .every, .die, 0x0, 0x0,
   [⟨0, 4, .rw, false⟩]⟩

/-- STL_RING_WPTR (chapter 11). -/
def r_STL_RING_WPTR : RegD :=
  ⟨0x100408, 0x10, 4, 0x0, 1, .every, .die, 0x0, 0x0,
   [⟨0, 18, .ro, false⟩]⟩

/-- STL_RING_WRAP (chapter 11). -/
def r_STL_RING_WRAP : RegD :=
  ⟨0x10040C, 0x10, 4, 0x0, 1, .every, .die, 0x0, 0x0,
   [⟨0, 16, .ro, false⟩]⟩

/-- STL_PSTATE (chapter 11). -/
def r_STL_PSTATE : RegD :=
  ⟨0x100800, 0x10, 4, 0x0, 1, .every, .die, 0x0, 0x0,
   [⟨0, 4, .ro, false⟩, ⟨4, 4, .ro, false⟩, ⟨8, 1, .w1c, false⟩, ⟨9, 4, .ro, false⟩,
    ⟨16, 4, .ro, false⟩, ⟨20, 12, .ro, false⟩]⟩

/-- STL_PSREQ (chapter 11). -/
def r_STL_PSREQ : RegD :=
  ⟨0x100804, 0x10, 4, 0x0, 1, .every, .die, 0x0, 0x0,
   [⟨0, 4, .wo, false⟩]⟩

/-- STL_PSAFE (chapter 11). -/
def r_STL_PSAFE : RegD :=
  ⟨0x100808, 0x10, 4, 0x0, 1, .every, .die, 0x0, 0x0,
   [⟨0, 1, .rw, true⟩, ⟨1, 1, .rw, true⟩, ⟨2, 1, .rw, true⟩, ⟨3, 1, .rw, true⟩,
    ⟨8, 4, .rw, true⟩]⟩

/-- PIL_CTRL (chapter 11). -/
def r_PIL_CTRL : RegD :=
  ⟨0x120000, 0x0, 1, 0x0, 1, .every, .die, 0x0, 0x0,
   [⟨31, 1, .w1s, false⟩]⟩

/-- PIL_P_CTRL (chapter 11). -/
def r_PIL_P_CTRL : RegD :=
  ⟨0x120010, 0x10, 4, 0x0, 1, .every, .die, 0x0, 0x0,
   [⟨0, 2, .rw, false⟩]⟩

/-- PIL_P_MEAS (chapter 11). -/
def r_PIL_P_MEAS : RegD :=
  ⟨0x120014, 0x10, 4, 0x0, 1, .every, .die, 0x0, 0x0,
   [⟨0, 16, .ro, false⟩, ⟨16, 16, .ro, false⟩]⟩

/-- PIL_P_STAT (chapter 11). -/
def r_PIL_P_STAT : RegD :=
  ⟨0x120018, 0x10, 4, 0x0, 1, .every, .die, 0x27, 0x0,
   [⟨0, 3, .ro, false⟩, ⟨3, 1, .ro, false⟩, ⟨4, 1, .w1c, false⟩, ⟨5, 1, .ro, false⟩]⟩

/-- T1S_CTRL (chapter 11). -/
def r_T1S_CTRL : RegD :=
  ⟨0xF0000, 0x0, 1, 0x0, 1, .every, .die, 0x0, 0x0,
   [⟨31, 1, .w1s, false⟩]⟩

/-- T1S_P_CTRL (chapter 11). -/
def r_T1S_P_CTRL : RegD :=
  ⟨0xF0040, 0x40, 4, 0x0, 1, .every, .die, 0x0, 0x0,
   [⟨0, 1, .rw, false⟩, ⟨1, 1, .rwl, false⟩]⟩

/-- T1S_P_STAT (chapter 11). -/
def r_T1S_P_STAT : RegD :=
  ⟨0xF0044, 0x40, 4, 0x0, 1, .every, .die, 0x2, 0x0,
   [⟨0, 1, .ro, false⟩, ⟨1, 1, .ro, false⟩, ⟨2, 1, .w1c, false⟩, ⟨16, 8, .ro, false⟩,
    ⟨24, 8, .ro, false⟩]⟩

/-- T1S_P_MAC0 (chapter 11). -/
def r_T1S_P_MAC0 : RegD :=
  ⟨0xF0048, 0x40, 4, 0x0, 1, .every, .die, 0x0, 0x0,
   [⟨0, 32, .rw, false⟩]⟩

/-- T1S_P_MAC1 (chapter 11). -/
def r_T1S_P_MAC1 : RegD :=
  ⟨0xF004C, 0x40, 4, 0x0, 1, .every, .die, 0x0, 0x0,
   [⟨0, 16, .rw, false⟩]⟩

/-- T1S_P_TXBASE (chapter 11). -/
def r_T1S_P_TXBASE : RegD :=
  ⟨0xF0050, 0x40, 4, 0x0, 1, .every, .die, 0x0, 0x0,
   [⟨0, 32, .rw, false⟩]⟩

/-- T1S_P_RXBASE (chapter 11). -/
def r_T1S_P_RXBASE : RegD :=
  ⟨0xF0054, 0x40, 4, 0x0, 1, .every, .die, 0x0, 0x0,
   [⟨0, 32, .rw, false⟩]⟩

/-- T1S_P_LOG2N (chapter 11). -/
def r_T1S_P_LOG2N : RegD :=
  ⟨0xF0058, 0x40, 4, 0x0, 1, .every, .die, 0x0, 0x0,
   [⟨0, 3, .rw, false⟩]⟩

/-- T1S_P_HEADS (chapter 11). -/
def r_T1S_P_HEADS : RegD :=
  ⟨0xF005C, 0x40, 4, 0x0, 1, .every, .die, 0x0, 0x0,
   [⟨0, 8, .ro, false⟩, ⟨8, 8, .ro, false⟩]⟩

/-- PLC_CTRL (chapter 13). -/
def r_PLC_CTRL : RegD :=
  ⟨0xE0000, 0x0, 1, 0x0, 1, .every, .die, 0x0, 0x0,
   [⟨0, 1, .rw, false⟩, ⟨1, 1, .w1s, false⟩, ⟨31, 1, .w1s, false⟩]⟩

/-- PLC_LOAD (chapter 13). -/
def r_PLC_LOAD : RegD :=
  ⟨0xE0004, 0x0, 1, 0x0, 1, .every, .die, 0x0, 0x0,
   [⟨0, 32, .rw, false⟩]⟩

/-- PLC_LOAD_STAT (chapter 13). -/
def r_PLC_LOAD_STAT : RegD :=
  ⟨0xE0008, 0x0, 1, 0x0, 1, .every, .die, 0x0, 0x0,
   [⟨0, 2, .ro, false⟩, ⟨2, 1, .ro, false⟩]⟩

/-- PLC_M_CTRL (chapter 13). -/
def r_PLC_M_CTRL : RegD :=
  ⟨0xE0100, 0x40, 4, 0x0, 1, .every, .die, 0x2800, 0x0,
   [⟨0, 1, .rw, false⟩, ⟨1, 1, .rw, false⟩, ⟨2, 5, .rwl, false⟩, ⟨8, 4, .rwl, false⟩,
    ⟨12, 4, .rwl, false⟩]⟩

/-- PLC_M_STAT (chapter 13). -/
def r_PLC_M_STAT : RegD :=
  ⟨0xE0104, 0x40, 4, 0x0, 1, .every, .die, 0x2, 0x0,
   [⟨0, 1, .ro, false⟩, ⟨1, 1, .ro, false⟩, ⟨2, 2, .ro, false⟩, ⟨4, 1, .w1c, false⟩]⟩

/-- PLC_M_CNT (chapter 13). -/
def r_PLC_M_CNT : RegD :=
  ⟨0xE0108, 0x40, 4, 0x0, 1, .every, .die, 0x0, 0x0,
   [⟨0, 16, .ro, false⟩, ⟨16, 16, .ro, false⟩]⟩

/-- PLC_M_SLAC (chapter 13). -/
def r_PLC_M_SLAC : RegD :=
  ⟨0xE010C, 0x40, 4, 0x0, 1, .every, .die, 0x0, 0x0,
   [⟨0, 2, .ro, false⟩, ⟨8, 8, .ro, false⟩, ⟨16, 8, .ro, false⟩, ⟨24, 5, .ro, false⟩]⟩

/-- PLC_M_TXBASE (chapter 13). -/
def r_PLC_M_TXBASE : RegD :=
  ⟨0xE0120, 0x40, 4, 0x0, 1, .every, .die, 0x0, 0x0,
   [⟨0, 32, .rw, false⟩]⟩

/-- PLC_M_RXBASE (chapter 13). -/
def r_PLC_M_RXBASE : RegD :=
  ⟨0xE0124, 0x40, 4, 0x0, 1, .every, .die, 0x0, 0x0,
   [⟨0, 32, .rw, false⟩]⟩

/-- PLC_M_LOG2N (chapter 13). -/
def r_PLC_M_LOG2N : RegD :=
  ⟨0xE0128, 0x40, 4, 0x0, 1, .every, .die, 0x0, 0x0,
   [⟨0, 3, .rw, false⟩]⟩

/-- PLC_M_HEADS (chapter 13). -/
def r_PLC_M_HEADS : RegD :=
  ⟨0xE012C, 0x40, 4, 0x0, 1, .every, .die, 0x0, 0x0,
   [⟨0, 8, .ro, false⟩, ⟨8, 8, .ro, false⟩]⟩

/-- HLM_TXBASE (chapter 13). -/
def r_HLM_TXBASE : RegD :=
  ⟨0x240020, 0x0, 1, 0x0, 1, .lead, .die, 0x0, 0x0,
   [⟨0, 32, .rw, false⟩]⟩

/-- HLM_RXBASE (chapter 13). -/
def r_HLM_RXBASE : RegD :=
  ⟨0x240024, 0x0, 1, 0x0, 1, .lead, .die, 0x0, 0x0,
   [⟨0, 32, .rw, false⟩]⟩

/-- HLM_LOG2N (chapter 13). -/
def r_HLM_LOG2N : RegD :=
  ⟨0x240028, 0x0, 1, 0x0, 1, .lead, .die, 0x0, 0x0,
   [⟨0, 3, .rw, false⟩]⟩

/-- HLM_HEADS (chapter 13). -/
def r_HLM_HEADS : RegD :=
  ⟨0x24002C, 0x0, 1, 0x0, 1, .lead, .die, 0x0, 0x0,
   [⟨0, 8, .ro, false⟩, ⟨8, 8, .ro, false⟩]⟩

/-- HLM_CTRL (chapter 13). -/
def r_HLM_CTRL : RegD :=
  ⟨0x240000, 0x0, 1, 0x0, 1, .lead, .die, 0x78C, 0x0,
   [⟨0, 1, .rwl, false⟩, ⟨1, 5, .rwl, false⟩, ⟨6, 3, .rwl, false⟩, ⟨9, 3, .rwl, false⟩,
    ⟨31, 1, .w1s, false⟩]⟩

/-- HLM_STAT (chapter 13). -/
def r_HLM_STAT : RegD :=
  ⟨0x240004, 0x0, 1, 0x0, 1, .lead, .die, 0x4, 0x0,
   [⟨0, 1, .ro, false⟩, ⟨1, 1, .ro, false⟩, ⟨2, 1, .ro, false⟩]⟩

/-- HLM_CNT (chapter 13). -/
def r_HLM_CNT : RegD :=
  ⟨0x240008, 0x0, 1, 0x0, 1, .lead, .die, 0x0, 0x0,
   [⟨0, 16, .ro, false⟩, ⟨16, 16, .ro, false⟩]⟩

/-- HLM_EVT (chapter 13). -/
def r_HLM_EVT : RegD :=
  ⟨0x24000C, 0x0, 1, 0x0, 1, .lead, .die, 0x0, 0x0,
   [⟨0, 1, .w1c, false⟩, ⟨1, 1, .w1c, false⟩, ⟨2, 1, .w1c, false⟩]⟩

/-- HLM_NODE (chapter 13). -/
def r_HLM_NODE : RegD :=
  ⟨0x240104, 0x4, 30, 0x0, 1, .lead, .die, 0x0, 0x0,
   [⟨0, 2, .ro, false⟩, ⟨2, 1, .ro, false⟩, ⟨3, 3, .ro, false⟩, ⟨6, 2, .ro, false⟩,
    ⟨8, 16, .ro, false⟩]⟩

/-- CAN_CTRL (chapter 14). -/
def r_CAN_CTRL : RegD :=
  ⟨0xD0000, 0x4000, 2, 0x0, 1, .every, .die, 0x181, 0x0,
   [⟨0, 1, .rw, false⟩, ⟨1, 1, .rw, false⟩, ⟨2, 1, .rw, false⟩, ⟨3, 1, .rw, false⟩,
    ⟨4, 4, .rw, false⟩, ⟨8, 1, .rw, false⟩]⟩

/-- CAN_STAT (chapter 14). -/
def r_CAN_STAT : RegD :=
  ⟨0xD0004, 0x4000, 2, 0x0, 1, .every, .die, 0x70000, 0x0,
   [⟨0, 8, .ro, false⟩, ⟨8, 7, .ro, false⟩, ⟨15, 1, .ro, false⟩, ⟨16, 2, .ro, false⟩,
    ⟨18, 1, .ro, false⟩, ⟨19, 1, .ro, false⟩, ⟨20, 3, .ro, false⟩, ⟨23, 3, .ro, false⟩]⟩

/-- CAN_EVT (chapter 14). -/
def r_CAN_EVT : RegD :=
  ⟨0xD0008, 0x4000, 2, 0x0, 1, .every, .die, 0x0, 0x0,
   [⟨0, 1, .w1c, false⟩, ⟨1, 1, .w1c, false⟩, ⟨2, 1, .w1c, false⟩, ⟨3, 1, .w1c, false⟩,
    ⟨4, 1, .w1c, false⟩, ⟨5, 1, .w1c, false⟩, ⟨6, 1, .w1c, false⟩, ⟨7, 1, .w1c, false⟩,
    ⟨8, 1, .w1c, false⟩, ⟨9, 1, .w1c, false⟩, ⟨10, 1, .w1c, false⟩, ⟨11, 1, .w1c, false⟩,
    ⟨12, 1, .w1c, false⟩, ⟨13, 1, .w1c, false⟩, ⟨14, 1, .w1c, false⟩, ⟨15, 1, .w1c, false⟩,
    ⟨16, 1, .w1c, false⟩, ⟨17, 1, .w1c, false⟩, ⟨18, 1, .w1c, false⟩, ⟨19, 1, .w1c, false⟩,
    ⟨20, 1, .w1c, false⟩]⟩

/-- CAN_IEN (chapter 14). -/
def r_CAN_IEN : RegD :=
  ⟨0xD000C, 0x4000, 2, 0x0, 1, .every, .die, 0x0, 0x0,
   [⟨0, 1, .rw, false⟩, ⟨1, 1, .rw, false⟩, ⟨2, 1, .rw, false⟩, ⟨3, 1, .rw, false⟩,
    ⟨4, 1, .rw, false⟩, ⟨5, 1, .rw, false⟩, ⟨6, 1, .rw, false⟩, ⟨7, 1, .rw, false⟩,
    ⟨8, 1, .rw, false⟩, ⟨9, 1, .rw, false⟩, ⟨10, 1, .rw, false⟩, ⟨11, 1, .rw, false⟩,
    ⟨12, 1, .rw, false⟩, ⟨13, 1, .rw, false⟩, ⟨14, 1, .rw, false⟩, ⟨15, 1, .rw, false⟩,
    ⟨16, 1, .rw, false⟩, ⟨17, 1, .rw, false⟩, ⟨18, 1, .rw, false⟩, ⟨19, 1, .rw, false⟩,
    ⟨20, 1, .rw, false⟩]⟩

/-- CAN_TIM_NOM (chapter 14). -/
def r_CAN_TIM_NOM : RegD :=
  ⟨0xD0010, 0x4000, 2, 0x0, 1, .every, .die, 0x0, 0x0,
   [⟨0, 8, .rw, false⟩, ⟨8, 7, .rw, false⟩, ⟨16, 7, .rw, false⟩, ⟨24, 5, .rw, false⟩]⟩

/-- CAN_TIM_DATA (chapter 14). -/
def r_CAN_TIM_DATA : RegD :=
  ⟨0xD0014, 0x4000, 2, 0x0, 1, .every, .die, 0x0, 0x0,
   [⟨0, 5, .rw, false⟩, ⟨8, 4, .rw, false⟩, ⟨16, 4, .rw, false⟩, ⟨24, 5, .rw, false⟩]⟩

/-- CAN_SIEVE (chapter 14). -/
def r_CAN_SIEVE : RegD :=
  ⟨0xD0018, 0x4000, 2, 0x0, 1, .every, .die, 0x30, 0x0,
   [⟨0, 2, .rw, false⟩, ⟨2, 1, .rw, false⟩, ⟨4, 4, .rw, false⟩, ⟨8, 8, .rw, false⟩]⟩

/-- CAN_Q_CFG (chapter 14). -/
def r_CAN_Q_CFG : RegD :=
  ⟨0xD0020, 0x4000, 2, 0x10, 2, .every, .die, 0x0, 0x0,
   [⟨0, 7, .rw, false⟩, ⟨7, 1, .rw, false⟩]⟩

/-- CAN_Q_STAT (chapter 14). -/
def r_CAN_Q_STAT : RegD :=
  ⟨0xD0024, 0x4000, 2, 0x10, 2, .every, .die, 0x0, 0x0,
   [⟨0, 7, .ro, false⟩, ⟨7, 1, .ro, false⟩, ⟨8, 6, .ro, false⟩, ⟨16, 6, .ro, false⟩,
    ⟨24, 8, .ro, false⟩]⟩

/-- CAN_Q_REL (chapter 14). -/
def r_CAN_Q_REL : RegD :=
  ⟨0xD0028, 0x4000, 2, 0x10, 2, .every, .die, 0x0, 0x0,
   [⟨0, 6, .wo, false⟩]⟩

/-- CAN_SLOT_NEW (chapter 14). -/
def r_CAN_SLOT_NEW : RegD :=
  ⟨0xD0040, 0x4000, 2, 0x0, 1, .every, .die, 0x0, 0x0,
   [⟨0, 32, .w1c, false⟩]⟩

/-- CAN_TX_PEND (chapter 14). -/
def r_CAN_TX_PEND : RegD :=
  ⟨0xD0050, 0x4000, 2, 0x0, 1, .every, .die, 0x0, 0x0,
   [⟨0, 32, .w1s, false⟩]⟩

/-- CAN_TX_ABORT (chapter 14). -/
def r_CAN_TX_ABORT : RegD :=
  ⟨0xD0054, 0x4000, 2, 0x0, 1, .every, .die, 0x0, 0x0,
   [⟨0, 32, .w1s, false⟩]⟩

/-- CAN_TX_SENT (chapter 14). -/
def r_CAN_TX_SENT : RegD :=
  ⟨0xD0058, 0x4000, 2, 0x0, 1, .every, .die, 0x0, 0x0,
   [⟨0, 32, .w1c, false⟩]⟩

/-- CAN_TX_DROP (chapter 14). -/
def r_CAN_TX_DROP : RegD :=
  ⟨0xD005C, 0x4000, 2, 0x0, 1, .every, .die, 0x0, 0x0,
   [⟨0, 32, .w1c, false⟩]⟩

/-- CAN_CLASH_TX (chapter 14). -/
def r_CAN_CLASH_TX : RegD :=
  ⟨0xD0060, 0x4000, 2, 0x0, 1, .every, .die, 0x0, 0x0,
   [⟨0, 29, .ro, false⟩, ⟨29, 1, .ro, false⟩]⟩

/-- CAN_CLASH_RX (chapter 14). -/
def r_CAN_CLASH_RX : RegD :=
  ⟨0xD0064, 0x4000, 2, 0x0, 1, .every, .die, 0x0, 0x0,
   [⟨0, 7, .ro, false⟩, ⟨8, 9, .ro, false⟩]⟩

/-- CAN_CLASH_RXID (chapter 14). -/
def r_CAN_CLASH_RXID : RegD :=
  ⟨0xD0068, 0x4000, 2, 0x0, 1, .every, .die, 0x0, 0x0,
   [⟨0, 29, .ro, false⟩, ⟨29, 1, .ro, false⟩]⟩

/-- CAN_REF_CFG (chapter 14). -/
def r_CAN_REF_CFG : RegD :=
  ⟨0xD0070, 0x4000, 2, 0x0, 1, .every, .die, 0x4, 0x0,
   [⟨0, 1, .rw, false⟩, ⟨1, 1, .rw, false⟩, ⟨2, 16, .rw, false⟩, ⟨24, 6, .ro, false⟩]⟩

/-- CAN_REF_TS (chapter 14). -/
def r_CAN_REF_TS : RegD :=
  ⟨0xD0074, 0x4000, 2, 0x0, 1, .every, .die, 0x0, 0x0,
   [⟨0, 32, .ro, false⟩]⟩

/-- CAN_REF_ID (chapter 14). -/
def r_CAN_REF_ID : RegD :=
  ⟨0xD0078, 0x4000, 2, 0x0, 1, .every, .die, 0x0, 0x0,
   [⟨0, 29, .rw, false⟩]⟩

/-- CAN_ABD_CTRL (chapter 14). -/
def r_CAN_ABD_CTRL : RegD :=
  ⟨0xD0080, 0x4000, 2, 0x0, 1, .every, .die, 0x46400, 0x0,
   [⟨0, 1, .w1s, false⟩, ⟨1, 3, .rw, false⟩, ⟨8, 8, .rw, false⟩, ⟨16, 4, .rw, false⟩,
    ⟨20, 1, .rw, false⟩]⟩

/-- CAN_ABD_STAT (chapter 14). -/
def r_CAN_ABD_STAT : RegD :=
  ⟨0xD0084, 0x4000, 2, 0x0, 1, .every, .die, 0x0, 0x0,
   [⟨0, 1, .ro, false⟩, ⟨1, 3, .ro, false⟩, ⟨4, 1, .ro, false⟩, ⟨8, 8, .ro, false⟩]⟩

/-- CAN_ABD_CAND (chapter 14). -/
def r_CAN_ABD_CAND : RegD :=
  ⟨0xD00A0, 0x4000, 2, 0x4, 16, .every, .die, 0x0, 0x0,
   [⟨0, 32, .rw, false⟩]⟩

/-- TSU_CTRL (chapter 15). -/
def r_TSU_CTRL : RegD :=
  ⟨0x130000, 0x0, 1, 0x0, 1, .every, .die, 0x2, 0x0,
   [⟨0, 1, .rw, false⟩, ⟨1, 1, .rwl, false⟩, ⟨31, 1, .w1s, false⟩]⟩

/-- TSU_STAT (chapter 15). -/
def r_TSU_STAT : RegD :=
  ⟨0x130004, 0x0, 1, 0x0, 1, .every, .die, 0x44, 0x0,
   [⟨0, 3, .ro, false⟩, ⟨3, 1, .ro, false⟩, ⟨4, 2, .ro, false⟩, ⟨6, 1, .ro, false⟩]⟩

/-- TSU_EVT (chapter 15). -/
def r_TSU_EVT : RegD :=
  ⟨0x130008, 0x0, 1, 0x0, 1, .every, .die, 0x0, 0x0,
   [⟨0, 1, .w1c, false⟩, ⟨1, 1, .w1c, false⟩, ⟨2, 1, .w1c, false⟩, ⟨3, 1, .w1c, false⟩,
    ⟨4, 1, .w1c, false⟩, ⟨5, 1, .w1c, false⟩, ⟨6, 1, .w1c, false⟩, ⟨7, 1, .w1c, false⟩]⟩

/-- TSU_NS (chapter 15). -/
def r_TSU_NS : RegD :=
  ⟨0x130010, 0x0, 1, 0x0, 1, .every, .pwr, 0x0, 0x0,
   [⟨0, 32, .ro, false⟩]⟩

/-- TSU_TALLY (chapter 15). -/
def r_TSU_TALLY : RegD :=
  ⟨0x130014, 0x0, 1, 0x0, 1, .every, .pwr, 0x0, 0x0,
   [⟨0, 16, .ro, false⟩]⟩

/-- TSU_EPOCH (chapter 15). -/
def r_TSU_EPOCH : RegD :=
  ⟨0x130018, 0x4, 2, 0x0, 1, .every, .pwr, 0x0, 0xFFFFFFFF,
   [⟨0, 32, .ro, false⟩]⟩

/-- TSU_TICK (chapter 15). -/
def r_TSU_TICK : RegD :=
  ⟨0x130020, 0x0, 1, 0x0, 1, .every, .pwr, 0x0, 0x0,
   [⟨0, 32, .ro, false⟩]⟩

/-- TSU_GRID (chapter 15). -/
def r_TSU_GRID : RegD :=
  ⟨0x130024, 0x0, 1, 0x0, 1, .every, .pwr, 0x0, 0x0,
   [⟨0, 4, .ro, false⟩]⟩

/-- TSU_SERVO (chapter 15). -/
def r_TSU_SERVO : RegD :=
  ⟨0x130030, 0x0, 1, 0x0, 1, .lead, .die, 0x40C8, 0x0,
   [⟨0, 10, .rwl, false⟩, ⟨10, 6, .rwl, false⟩]⟩

/-- TSU_HOLD (chapter 15). -/
def r_TSU_HOLD : RegD :=
  ⟨0x130034, 0x0, 1, 0x0, 1, .lead, .die, 0xBB80258, 0x0,
   [⟨0, 16, .rwl, false⟩, ⟨16, 16, .rwl, false⟩]⟩

/-- TSU_APPLIED (chapter 15). -/
def r_TSU_APPLIED : RegD :=
  ⟨0x130038, 0x0, 1, 0x0, 1, .every, .die, 0x0, 0x0,
   [⟨0, 32, .ro, false⟩]⟩

/-- TSU_TCOMP (chapter 15). -/
def r_TSU_TCOMP : RegD :=
  ⟨0x13003C, 0x0, 1, 0x0, 1, .every, .die, 0x0, 0x0,
   [⟨0, 32, .ro, false⟩]⟩

/-- TSU_UTC (chapter 15). -/
def r_TSU_UTC : RegD :=
  ⟨0x130040, 0x0, 1, 0x0, 1, .lead, .die, 0x25, 0x0,
   [⟨0, 16, .rw, false⟩]⟩

/-- TSU_DOM_OFS (chapter 15). -/
def r_TSU_DOM_OFS : RegD :=
  ⟨0x130050, 0x10, 2, 0x4, 2, .lead, .die, 0x0, 0x0,
   [⟨0, 32, .rw, false⟩]⟩

/-- TSU_DOM_RATE (chapter 15). -/
def r_TSU_DOM_RATE : RegD :=
  ⟨0x130058, 0x10, 2, 0x0, 1, .lead, .die, 0x0, 0x0,
   [⟨0, 32, .rw, false⟩]⟩

/-- TSU_DOM_CFG (chapter 15). -/
def r_TSU_DOM_CFG : RegD :=
  ⟨0x13005C, 0x10, 2, 0x0, 1, .lead, .die, 0x0, 0x0,
   [⟨0, 8, .rw, false⟩, ⟨8, 2, .rw, false⟩, ⟨16, 1, .rw, false⟩]⟩

/-- TSU_RTC_SEC (chapter 15). -/
def r_TSU_RTC_SEC : RegD :=
  ⟨0x130070, 0x0, 1, 0x0, 1, .lead, .keep, 0x0, 0x0,
   [⟨0, 32, .ro, false⟩]⟩

/-- TSU_RTC_SUB (chapter 15). -/
def r_TSU_RTC_SUB : RegD :=
  ⟨0x130074, 0x0, 1, 0x0, 1, .lead, .keep, 0x0, 0x0,
   [⟨0, 15, .ro, false⟩, ⟨31, 1, .ro, false⟩]⟩

/-- TSU_PO_CTRL (chapter 15). -/
def r_TSU_PO_CTRL : RegD :=
  ⟨0x130100, 0x20, 8, 0x0, 1, .every, .die, 0x0, 0x0,
   [⟨0, 2, .rw, false⟩, ⟨2, 1, .rw, false⟩, ⟨3, 1, .w1s, false⟩, ⟨4, 1, .ro, false⟩,
    ⟨5, 1, .w1c, false⟩]⟩

/-- TSU_PO_START_LO (chapter 15). -/
def r_TSU_PO_START_LO : RegD :=
  ⟨0x130104, 0x20, 8, 0x0, 1, .every, .die, 0x0, 0x0,
   [⟨0, 32, .rw, false⟩]⟩

/-- TSU_PO_START_HI (chapter 15). -/
def r_TSU_PO_START_HI : RegD :=
  ⟨0x130108, 0x20, 8, 0x0, 1, .every, .die, 0x0, 0x0,
   [⟨0, 16, .rw, false⟩]⟩

/-- TSU_PO_PW (chapter 15). -/
def r_TSU_PO_PW : RegD :=
  ⟨0x13010C, 0x20, 8, 0x4, 2, .every, .die, 0x0, 0x0,
   [⟨0, 32, .rw, false⟩]⟩

/-- TSU_CAP_CFG (chapter 15). -/
def r_TSU_CAP_CFG : RegD :=
  ⟨0x130200, 0x10, 8, 0x0, 1, .every, .die, 0x0, 0x0,
   [⟨0, 3, .rw, false⟩, ⟨3, 5, .rw, false⟩]⟩

/-- TSU_CAP_NS (chapter 15). -/
def r_TSU_CAP_NS : RegD :=
  ⟨0x130204, 0x10, 8, 0x0, 1, .every, .die, 0x0, 0x0,
   [⟨0, 32, .ro, false⟩]⟩

/-- TSU_CAP_TALLY (chapter 15). -/
def r_TSU_CAP_TALLY : RegD :=
  ⟨0x130208, 0x10, 8, 0x0, 1, .every, .die, 0x0, 0x0,
   [⟨0, 16, .ro, false⟩, ⟨30, 1, .w1c, false⟩, ⟨31, 1, .w1c, false⟩]⟩

/-- ETH_TSQ_POP (chapter 15). -/
def r_ETH_TSQ_POP : RegD :=
  ⟨0x230100, 0x20, 2, 0x0, 1, .lead, .die, 0x0, 0x0,
   [⟨0, 16, .ro, false⟩, ⟨16, 1, .ro, false⟩, ⟨31, 1, .ro, false⟩]⟩

/-- ETH_TSQ_TS (chapter 15). -/
def r_ETH_TSQ_TS : RegD :=
  ⟨0x230104, 0x20, 2, 0x4, 2, .lead, .die, 0x0, 0x0,
   [⟨0, 32, .ro, false⟩]⟩

/-- ETH_TSQ_STAT (chapter 15). -/
def r_ETH_TSQ_STAT : RegD :=
  ⟨0x23010C, 0x20, 2, 0x0, 1, .lead, .die, 0x0, 0x0,
   [⟨0, 5, .ro, false⟩, ⟨5, 1, .w1c, false⟩, ⟨16, 16, .ro, false⟩]⟩

/-- ETH_LAT (chapter 15). -/
def r_ETH_LAT : RegD :=
  ⟨0x230110, 0x20, 2, 0x0, 1, .lead, .die, 0x0, 0x0,
   [⟨0, 16, .rw, false⟩, ⟨16, 16, .rw, false⟩]⟩

/-- ACQ_CTRL (chapter 16). -/
def r_ACQ_CTRL : RegD :=
  ⟨0x60000, 0x0, 1, 0x0, 1, .every, .die, 0x0, 0x0,
   [⟨31, 1, .w1s, false⟩]⟩

/-- ACQ_EVT (chapter 16). -/
def r_ACQ_EVT : RegD :=
  ⟨0x60004, 0x0, 1, 0x0, 1, .every, .die, 0x0, 0x0,
   [⟨0, 8, .w1c, false⟩, ⟨8, 8, .w1c, false⟩, ⟨16, 1, .w1c, false⟩, ⟨17, 1, .w1c, false⟩]⟩

/-- ACQ_RD_SRC (chapter 16). -/
def r_ACQ_RD_SRC : RegD :=
  ⟨0x60010, 0x0, 1, 0x0, 1, .every, .die, 0x0, 0x0,
   [⟨0, 22, .rw, false⟩]⟩

/-- ACQ_RD_DST (chapter 16). -/
def r_ACQ_RD_DST : RegD :=
  ⟨0x60014, 0x0, 1, 0x0, 1, .every, .die, 0x0, 0x0,
   [⟨0, 32, .rw, false⟩]⟩

/-- ACQ_RD_LEN (chapter 16). -/
def r_ACQ_RD_LEN : RegD :=
  ⟨0x60018, 0x0, 1, 0x0, 1, .every, .die, 0x0, 0x0,
   [⟨0, 23, .rw, false⟩]⟩

/-- ACQ_RD_CTRL (chapter 16). -/
def r_ACQ_RD_CTRL : RegD :=
  ⟨0x6001C, 0x0, 1, 0x0, 1, .every, .die, 0x0, 0x0,
   [⟨0, 1, .w1s, false⟩, ⟨1, 1, .rw, false⟩, ⟨2, 1, .ro, false⟩, ⟨4, 8, .ro, false⟩,
    ⟨12, 8, .ro, false⟩, ⟨20, 3, .ro, false⟩]⟩

/-- ACQ_U_CTRL (chapter 16). -/
def r_ACQ_U_CTRL : RegD :=
  ⟨0x60100, 0x40, 8, 0x0, 1, .every, .die, 0x0, 0x0,
   [⟨0, 1, .rw, false⟩, ⟨1, 1, .w1s, false⟩, ⟨2, 1, .w1s, false⟩, ⟨3, 1, .w1s, false⟩]⟩

/-- ACQ_U_CFG (chapter 16). -/
def r_ACQ_U_CFG : RegD :=
  ⟨0x60104, 0x40, 8, 0x0, 1, .every, .die, 0x0, 0x0,
   [⟨0, 1, .rw, false⟩, ⟨1, 1, .rw, false⟩, ⟨2, 1, .rw, false⟩, ⟨3, 3, .rw, false⟩,
    ⟨16, 16, .rw, false⟩]⟩

/-- ACQ_U_ENT (chapter 16). -/
def r_ACQ_U_ENT : RegD :=
  ⟨0x60108, 0x40, 8, 0x0, 1, .every, .die, 0x0, 0x0,
   [⟨0, 16, .rw, false⟩]⟩

/-- ACQ_U_TRIG (chapter 16). -/
def r_ACQ_U_TRIG : RegD :=
  ⟨0x6010C, 0x40, 8, 0x0, 1, .every, .die, 0x0, 0x0,
   [⟨0, 4, .rw, false⟩, ⟨4, 7, .rw, false⟩, ⟨11, 2, .rw, false⟩, ⟨13, 3, .rw, false⟩,
    ⟨16, 3, .rw, false⟩, ⟨19, 1, .rw, false⟩, ⟨20, 1, .rw, false⟩]⟩

/-- ACQ_U_THR (chapter 16). -/
def r_ACQ_U_THR : RegD :=
  ⟨0x60110, 0x40, 8, 0x0, 1, .every, .die, 0x0, 0x0,
   [⟨0, 16, .rw, false⟩, ⟨16, 16, .rw, false⟩]⟩

/-- ACQ_U_BASE (chapter 16). -/
def r_ACQ_U_BASE : RegD :=
  ⟨0x60114, 0x40, 8, 0x0, 1, .every, .die, 0x0, 0x0,
   [⟨0, 22, .rwu, false⟩]⟩

/-- ACQ_U_SIZE (chapter 16). -/
def r_ACQ_U_SIZE : RegD :=
  ⟨0x60118, 0x40, 8, 0x0, 1, .every, .die, 0x0, 0x0,
   [⟨0, 23, .rwu, false⟩]⟩

/-- ACQ_U_LEN (chapter 16). -/
def r_ACQ_U_LEN : RegD :=
  ⟨0x6011C, 0x40, 8, 0x0, 1, .every, .die, 0x10, 0x0,
   [⟨0, 20, .rwu, false⟩]⟩

/-- ACQ_U_SEG (chapter 16). -/
def r_ACQ_U_SEG : RegD :=
  ⟨0x60120, 0x40, 8, 0x0, 1, .every, .die, 0x1, 0x0,
   [⟨0, 11, .rw, false⟩, ⟨16, 7, .rw, false⟩]⟩

/-- ACQ_U_POST (chapter 16). -/
def r_ACQ_U_POST : RegD :=
  ⟨0x60124, 0x40, 8, 0x0, 1, .every, .die, 0x1, 0x0,
   [⟨0, 20, .rwu, false⟩]⟩

/-- ACQ_U_STAT (chapter 16). -/
def r_ACQ_U_STAT : RegD :=
  ⟨0x60128, 0x40, 8, 0x0, 1, .every, .die, 0x0, 0x0,
   [⟨0, 3, .ro, false⟩, ⟨3, 8, .ro, false⟩, ⟨12, 20, .ro, false⟩]⟩

/-- ACQ_U_CNT (chapter 16). -/
def r_ACQ_U_CNT : RegD :=
  ⟨0x6012C, 0x40, 8, 0x0, 1, .every, .die, 0x0, 0x0,
   [⟨0, 11, .ro, false⟩, ⟨16, 8, .ro, false⟩]⟩

/-- ACQ_GRP_CTRL (chapter 16). -/
def r_ACQ_GRP_CTRL : RegD :=
  ⟨0x60800, 0x8, 8, 0x0, 1, .lead, .die, 0x0, 0x0,
   [⟨0, 1, .w1s, false⟩, ⟨1, 1, .rw, false⟩, ⟨2, 1, .ro, false⟩, ⟨3, 1, .w1s, false⟩]⟩

/-- ACQ_GRP_STAT (chapter 16). -/
def r_ACQ_GRP_STAT : RegD :=
  ⟨0x60804, 0x8, 8, 0x0, 1, .lead, .die, 0x0, 0x0,
   [⟨0, 16, .ro, false⟩, ⟨16, 3, .ro, false⟩, ⟨19, 3, .ro, false⟩]⟩

/-- SAF_STAT (chapter 19). -/
def r_SAF_STAT : RegD :=
  ⟨0xC0000, 0x0, 1, 0x0, 1, .every, .die, 0x0, 0xFFFF0000,
   [⟨0, 1, .ro, false⟩, ⟨1, 1, .ro, false⟩, ⟨2, 1, .ro, false⟩, ⟨3, 1, .ro, false⟩,
    ⟨16, 16, .ro, false⟩]⟩

/-- SAF_EVT (chapter 19). -/
def r_SAF_EVT : RegD :=
  ⟨0xC0004, 0x0, 1, 0x0, 1, .every, .die, 0x0, 0x0,
   [⟨0, 4, .w1c, false⟩, ⟨4, 4, .w1c, false⟩, ⟨8, 4, .w1c, false⟩, ⟨12, 4, .w1c, false⟩,
    ⟨16, 1, .w1c, false⟩]⟩

/-- SAF_IN (chapter 19). -/
def r_SAF_IN : RegD :=
  ⟨0xC0010, 0x4, 4, 0x0, 1, .every, .die, 0xFF0000, 0x0,
   [⟨0, 8, .ro, false⟩, ⟨8, 8, .ro, false⟩, ⟨16, 8, .ro, false⟩]⟩

/-- SAF_OUT (chapter 19). -/
def r_SAF_OUT : RegD :=
  ⟨0xC0020, 0x4, 4, 0x0, 1, .every, .die, 0x0, 0xF000,
   [⟨0, 4, .rw, true⟩, ⟨4, 4, .ro, false⟩, ⟨8, 4, .w1c, true⟩, ⟨12, 4, .ro, false⟩]⟩

/-- SAF_P_STAT (chapter 19). -/
def r_SAF_P_STAT : RegD :=
  ⟨0xC0040, 0x10, 4, 0x0, 1, .every, .die, 0x0, 0x1C,
   [⟨0, 2, .ro, false⟩, ⟨2, 1, .ro, false⟩, ⟨3, 1, .ro, false⟩, ⟨4, 1, .ro, false⟩,
    ⟨5, 1, .ro, false⟩, ⟨6, 1, .ro, false⟩, ⟨16, 16, .ro, false⟩]⟩

/-- SAF_P_ISO (chapter 19). -/
def r_SAF_P_ISO : RegD :=
  ⟨0xC0044, 0x10, 4, 0x0, 1, .every, .die, 0x0, 0x0,
   [⟨0, 16, .ro, false⟩, ⟨16, 1, .ro, false⟩, ⟨17, 1, .ro, false⟩, ⟨18, 1, .ro, false⟩]⟩

/-- SAF_P_TIME (chapter 19). -/
def r_SAF_P_TIME : RegD :=
  ⟨0xC0048, 0x10, 4, 0x0, 1, .every, .die, 0x0, 0x0,
   [⟨0, 16, .ro, false⟩, ⟨16, 16, .ro, false⟩]⟩

/-- SAF_DIAG (chapter 19). -/
def r_SAF_DIAG : RegD :=
  ⟨0xC0080, 0x0, 1, 0x0, 1, .every, .die, 0x0, 0x0,
   [⟨0, 1, .w1c, false⟩, ⟨1, 1, .ro, false⟩, ⟨2, 1, .ro, false⟩, ⟨3, 1, .ro, false⟩,
    ⟨4, 1, .ro, false⟩, ⟨5, 1, .ro, false⟩, ⟨8, 4, .ro, false⟩]⟩

/-- SAF_CFG_DIGEST (chapter 19). -/
def r_SAF_CFG_DIGEST : RegD :=
  ⟨0xC0100, 0x4, 8, 0x0, 1, .every, .die, 0x0, 0xFFFFFFFF,
   [⟨0, 32, .ro, false⟩]⟩

/-- LSW_CTRL (chapter 20). -/
def r_LSW_CTRL : RegD :=
  ⟨0x110000, 0x0, 1, 0x0, 1, .every, .die, 0x0, 0x0,
   [⟨31, 1, .w1s, false⟩]⟩

/-- LSW_CFG (chapter 20). -/
def r_LSW_CFG : RegD :=
  ⟨0x110004, 0x0, 1, 0x0, 1, .every, .die, 0x28A0A3, 0x0,
   [⟨0, 4, .rwl, false⟩, ⟨4, 8, .rwl, false⟩, ⟨12, 7, .rwl, false⟩, ⟨19, 5, .rwl, false⟩]⟩

/-- LSW_SAFE_EN (chapter 20). -/
def r_LSW_SAFE_EN : RegD :=
  ⟨0x110008, 0x0, 1, 0x0, 1, .every, .die, 0x0, 0x0,
   [⟨0, 12, .rw, true⟩]⟩

/-- LSW_EVT (chapter 20). -/
def r_LSW_EVT : RegD :=
  ⟨0x11000C, 0x0, 1, 0x0, 1, .every, .die, 0x0, 0x0,
   [⟨0, 12, .w1c, false⟩, ⟨12, 4, .w1c, false⟩, ⟨16, 1, .w1c, false⟩, ⟨17, 1, .w1c, false⟩,
    ⟨18, 1, .w1c, false⟩]⟩

/-- LSW_RAIL (chapter 20). -/
def r_LSW_RAIL : RegD :=
  ⟨0x110010, 0x0, 1, 0x0, 1, .every, .die, 0x0, 0x0,
   [⟨0, 1, .ro, false⟩, ⟨1, 1, .ro, false⟩, ⟨2, 1, .ro, false⟩, ⟨3, 1, .ro, false⟩,
    ⟨4, 1, .ro, false⟩, ⟨16, 16, .ro, false⟩]⟩

/-- LSW_GRP_CFG (chapter 20). -/
def r_LSW_GRP_CFG : RegD :=
  ⟨0x110014, 0x0, 1, 0x0, 1, .every, .die, 0xA8C7D, 0x0,
   [⟨0, 8, .rwl, false⟩, ⟨8, 8, .rwl, false⟩, ⟨16, 5, .rwl, false⟩, ⟨21, 1, .rwl, false⟩]⟩

/-- LSW_GRP (chapter 20). -/
def r_LSW_GRP : RegD :=
  ⟨0x110020, 0x4, 4, 0x0, 1, .every, .die, 0x0, 0x0,
   [⟨0, 16, .ro, false⟩, ⟨16, 1, .ro, false⟩, ⟨17, 1, .ro, false⟩, ⟨18, 1, .ro, false⟩,
    ⟨19, 1, .w1s, false⟩]⟩

/-- LSW_CH_CFG (chapter 20). -/
def r_LSW_CH_CFG : RegD :=
  ⟨0x110100, 0x20, 12, 0x0, 1, .every, .die, 0x400, 0x0,
   [⟨0, 3, .rw, false⟩, ⟨3, 4, .rwl, false⟩, ⟨7, 4, .rwl, false⟩, ⟨11, 1, .rwl, false⟩,
    ⟨12, 6, .rw, false⟩, ⟨18, 10, .rw, false⟩]⟩

/-- LSW_CH_CMD (chapter 20). -/
def r_LSW_CH_CMD : RegD :=
  ⟨0x110104, 0x20, 12, 0x0, 1, .every, .die, 0x0, 0x0,
   [⟨0, 1, .rw, false⟩, ⟨1, 14, .rw, false⟩, ⟨16, 1, .w1s, false⟩]⟩

/-- LSW_CH_DSRC (chapter 20). -/
def r_LSW_CH_DSRC : RegD :=
  ⟨0x110108, 0x20, 12, 0x0, 1, .every, .die, 0x0, 0x0,
   [⟨0, 1, .rwl, false⟩, ⟨1, 3, .rwl, false⟩, ⟨4, 11, .rwl, false⟩]⟩

/-- LSW_CH_STAT (chapter 20). -/
def r_LSW_CH_STAT : RegD :=
  ⟨0x11010C, 0x20, 12, 0x0, 1, .every, .die, 0x0, 0x2000000,
   [⟨0, 3, .ro, false⟩, ⟨3, 1, .ro, false⟩, ⟨4, 1, .ro, false⟩, ⟨5, 1, .w1c, false⟩,
    ⟨6, 1, .ro, false⟩, ⟨7, 1, .ro, false⟩, ⟨8, 4, .ro, false⟩, ⟨12, 4, .ro, false⟩,
    ⟨16, 8, .ro, false⟩, ⟨24, 1, .ro, false⟩, ⟨25, 1, .ro, false⟩]⟩

/-- LSW_CH_MEAS (chapter 20). -/
def r_LSW_CH_MEAS : RegD :=
  ⟨0x110110, 0x20, 12, 0x0, 1, .every, .die, 0x0, 0x0,
   [⟨0, 16, .ro, false⟩, ⟨16, 16, .ro, false⟩]⟩

/-- THM_CTRL (chapter 20). -/
def r_THM_CTRL : RegD :=
  ⟨0x20000, 0x0, 1, 0x0, 1, .every, .die, 0x0, 0x0,
   [⟨31, 1, .w1s, false⟩]⟩

/-- THM_TEMP (chapter 20). -/
def r_THM_TEMP : RegD :=
  ⟨0x20004, 0x0, 1, 0x0, 1, .every, .die, 0x0, 0x0,
   [⟨0, 16, .ro, false⟩, ⟨16, 2, .ro, false⟩]⟩

/-- THM_S (chapter 20). -/
def r_THM_S : RegD :=
  ⟨0x20010, 0x4, 4, 0x0, 1, .every, .die, 0x0, 0x0,
   [⟨0, 16, .ro, false⟩]⟩

/-- THM_LVL (chapter 20). -/
def r_THM_LVL : RegD :=
  ⟨0x20020, 0x4, 3, 0x0, 1, .every, .die, 0x0, 0x0,
   [⟨0, 8, .rwl, false⟩, ⟨8, 8, .rwl, false⟩]⟩

/-- THM_STAT (chapter 20). -/
def r_THM_STAT : RegD :=
  ⟨0x2002C, 0x0, 1, 0x0, 1, .every, .die, 0x0, 0x30,
   [⟨0, 1, .ro, false⟩, ⟨1, 1, .ro, false⟩, ⟨4, 2, .ro, false⟩]⟩

/-- THM_EVT (chapter 20). -/
def r_THM_EVT : RegD :=
  ⟨0x20030, 0x0, 1, 0x0, 1, .every, .die, 0x0, 0x4,
   [⟨0, 1, .w1c, false⟩, ⟨1, 1, .w1c, false⟩, ⟨2, 1, .w1c, false⟩, ⟨3, 1, .w1c, false⟩]⟩

/-- THM_XO_C (chapter 20). -/
def r_THM_XO_C : RegD :=
  ⟨0x20040, 0x4, 4, 0x0, 1, .lead, .die, 0x0, 0xFFFFFFFF,
   [⟨0, 32, .ro, false⟩]⟩

/-- THM_REF_C (chapter 20). -/
def r_THM_REF_C : RegD :=
  ⟨0x20050, 0x4, 4, 0x0, 1, .every, .die, 0x0, 0xFFFFFFFF,
   [⟨0, 32, .ro, false⟩]⟩

/-- TWN_CTRL (chapter 21). -/
def r_TWN_CTRL : RegD :=
  ⟨0x210000, 0x0, 1, 0x0, 1, .lead, .pwr, 0x3, 0x0,
   [⟨0, 1, .rwl, false⟩, ⟨1, 1, .rwl, false⟩, ⟨31, 1, .w1s, false⟩]⟩

/-- TWN_STAT (chapter 21). -/
def r_TWN_STAT : RegD :=
  ⟨0x210004, 0x0, 1, 0x0, 1, .lead, .pwr, 0x0, 0x4,
   [⟨0, 2, .ro, false⟩, ⟨2, 1, .ro, false⟩, ⟨3, 1, .ro, false⟩, ⟨4, 4, .ro, false⟩,
    ⟨8, 1, .ro, false⟩, ⟨9, 1, .ro, false⟩, ⟨10, 1, .ro, false⟩, ⟨11, 1, .ro, false⟩,
    ⟨12, 4, .ro, false⟩, ⟨16, 2, .ro, false⟩, ⟨18, 1, .ro, false⟩]⟩

/-- TWN_EVT (chapter 21). -/
def r_TWN_EVT : RegD :=
  ⟨0x210008, 0x0, 1, 0x0, 1, .lead, .pwr, 0x0, 0x0,
   [⟨0, 1, .w1c, false⟩, ⟨1, 1, .w1c, false⟩, ⟨2, 1, .w1c, false⟩, ⟨3, 1, .w1c, false⟩,
    ⟨4, 1, .w1c, false⟩, ⟨5, 1, .w1c, false⟩, ⟨6, 1, .w1c, false⟩, ⟨7, 1, .w1c, false⟩,
    ⟨8, 1, .w1c, false⟩, ⟨9, 1, .w1c, false⟩, ⟨10, 1, .w1c, false⟩, ⟨11, 1, .w1c, false⟩,
    ⟨12, 4, .ro, false⟩, ⟨16, 1, .w1c, false⟩]⟩

/-- TWN_GEN (chapter 21). -/
def r_TWN_GEN : RegD :=
  ⟨0x21000C, 0x0, 1, 0x0, 1, .lead, .pwr, 0x0, 0x0,
   [⟨0, 8, .ro, false⟩, ⟨8, 8, .ro, false⟩, ⟨16, 8, .ro, false⟩]⟩

/-- TWN_REC (chapter 21). -/
def r_TWN_REC : RegD :=
  ⟨0x210010, 0x0, 1, 0x0, 1, .lead, .pwr, 0x0, 0x0,
   [⟨0, 16, .ro, false⟩, ⟨16, 16, .ro, false⟩]⟩

/-- TWN_CNT (chapter 21). -/
def r_TWN_CNT : RegD :=
  ⟨0x210014, 0x0, 1, 0x0, 1, .lead, .pwr, 0x0, 0x0,
   [⟨0, 8, .ro, false⟩, ⟨8, 8, .ro, false⟩, ⟨16, 8, .ro, false⟩, ⟨24, 8, .ro, false⟩]⟩

/-- TWN_GAP (chapter 21). -/
def r_TWN_GAP : RegD :=
  ⟨0x210018, 0x0, 1, 0x0, 1, .lead, .pwr, 0x0, 0x0,
   [⟨0, 16, .ro, false⟩, ⟨16, 2, .ro, false⟩]⟩

/-- TWN_RESYNC (chapter 21). -/
def r_TWN_RESYNC : RegD :=
  ⟨0x21001C, 0x0, 1, 0x0, 1, .lead, .pwr, 0x0, 0x0,
   [⟨0, 8, .ro, false⟩, ⟨8, 1, .ro, false⟩, ⟨9, 3, .ro, false⟩]⟩

/-- DIE_ERR (chapter 22). -/
def r_DIE_ERR : RegD :=
  ⟨0x20, 0x0, 1, 0x0, 1, .every, .pwr, 0x0, 0x1FFFFFF,
   [⟨0, 16, .ro, false⟩, ⟨16, 8, .ro, false⟩, ⟨24, 1, .ro, false⟩, ⟨31, 1, .w1c, false⟩]⟩

/-- DIE_FCNT (chapter 22). -/
def r_DIE_FCNT : RegD :=
  ⟨0x24, 0x0, 1, 0x0, 1, .every, .die, 0x0, 0xFFFF0000,
   [⟨0, 8, .ro, false⟩, ⟨8, 8, .ro, false⟩, ⟨16, 8, .ro, false⟩, ⟨24, 8, .ro, false⟩]⟩

/-- DIE_BUDGET (chapter 22). -/
def r_DIE_BUDGET : RegD :=
  ⟨0x28, 0x0, 1, 0x0, 1, .every, .die, 0xA3, 0x0,
   [⟨0, 4, .rwl, false⟩, ⟨4, 8, .rwl, false⟩, ⟨31, 1, .w1s, false⟩]⟩

/-- PKG_ERR (chapter 22). -/
def r_PKG_ERR : RegD :=
  ⟨0x20, 0x0, 1, 0x0, 1, .pkg, .pwr, 0x0, 0xFFFFFF,
   [⟨0, 16, .ro, false⟩, ⟨16, 3, .ro, false⟩, ⟨19, 1, .ro, false⟩, ⟨20, 4, .ro, false⟩,
    ⟨31, 1, .w1c, false⟩]⟩

/-- The registers of the block at offset 0x6000_0000. -/
def blockPkg : List RegD :=
  [r_PKG_ID, r_PKG_DIES, r_PKG_PWR, r_PKG_BAT, r_PKG_STAT,
   r_PKG_ERR]

/-- The registers of the block at offset 0x14_0000. -/
def block14 : List RegD :=
  [r_XLK_CTRL, r_XLK_STAT, r_XLK_ERR, r_XLK_CRC_CNT, r_XLK_CLS_CNT]

/-- The registers of the block at offset 0x25_0000. -/
def block25 : List RegD :=
  [r_LCS_STATE, r_LCS_BOOT, r_LCS_BANK, r_LCS_STAGED, r_LCS_CTRL,
   r_LCS_CONFIRM, r_LCS_FLOOR, r_LCS_MREG, r_LCS_MREG7_EXT]

/-- The registers of the block at offset 0x20_0000. -/
def block20 : List RegD :=
  [r_KEY_STAT, r_KEY_TAMPER, r_KEY_WDATA, r_KEY_WATTR, r_KEY_WCMD,
   r_KEY_OPC, r_KEY_OPADDR, r_KEY_OPLEN, r_KEY_OPRES, r_KEY_SLOT_ATTR,
   r_KEY_SLOT_LABEL]

/-- The registers of the block at offset 0x22_0000. -/
def block22 : List RegD :=
  [r_HPI_CTRL, r_HPI_STAT, r_SMW_EVT, r_SMW_IEN, r_SMW_RSV,
   r_SMW_EARLY_READ, r_SMW_ERR, r_SMW_CMD_CNT, r_SMW_LOCKOUT, r_SMW_LASTCTR]

/-- The registers of the block at offset 0x04_0000. -/
def block04 : List RegD :=
  [r_ADC_CTRL, r_ADC_REF, r_ADC_STAT, r_ADC_ERR, r_ADC_SITE,
   r_ADC_SQ_CTRL, r_ADC_SQ_CFG, r_ADC_SQ_STAT, r_ADC_SQ_ROUND, r_ADC_SQ_ENT,
   r_ADC_SQ_AENT, r_ADC_SQ_SCAN, r_ADC_SQ_ASCAN, r_ADC_RING_BASE, r_ADC_RING_SIZE,
   r_ADC_RING_WPTR, r_ADC_RING_WRAP, r_ADC_CELL, r_ADC_LAST, r_ADC_TW,
   r_ADC_TWEN, r_ADC_TRIP, r_ADC_TC, r_ADC_TC_STAT, r_ADC_SYSCAL,
   r_ADC_SYSCAL_TGT, r_ADC_SYSCAL_STAT, r_ADC_COEF_SEL, r_ADC_COEF_OFS, r_ADC_COEF_GAIN,
   r_ADC_MTRMAP, r_ADC_ROT_CFG, r_ADC_ROT_LIM, r_ADC_ROT_STAT, r_ADC_ROT_CNT,
   r_ADC_ROT_LAST, r_ADC_ROT_EVT, r_ADC_LANE_CAL, r_ADC_LANE_DRIFT]

/-- The registers of the block at offset 0x08_0000. -/
def block08 : List RegD :=
  [r_OXE_CTRL, r_OXE_STAT, r_OXE_ERR, r_OXE_PROG_CRC, r_OXE_SAFE_EVT,
   r_OXE_EVTQ, r_OXE_CTX_CFG, r_OXE_CTX_TRIG, r_OXE_CTX_TIMER, r_OXE_CTX_DWIN,
   r_OXE_CTX_STAT, r_OXE_CTX_CYC, r_OXE_CTX_CNT, r_OXE_CTX_CTRL, r_OXE_PORT_CFG,
   r_OXE_PORT_OUT, r_OXE_PORT_DERATE, r_OXE_PORT_OVR, r_OXE_PORT_CNT, r_OXE_PORT_WIN,
   r_OXE_GEN_CTRL, r_OXE_DDS_FTW, r_OXE_MS, r_OXE_COR_FTW, r_OXE_COR_CTRL,
   r_OXE_COR_RES, r_OXE_CAP_STAT, r_OXE_CAP_OVF]

/-- The registers of the block at offset 0x10_0000. -/
def block10 : List RegD :=
  [r_STL_CTRL, r_STL_EVT, r_STL_P_CFG, r_STL_P_VHI, r_STL_P_VLO,
   r_STL_P_PLIM, r_STL_P_HALT, r_STL_P_STAT, r_STL_P_CNT, r_STL_P_RX,
   r_STL_RING_BASE, r_STL_RING_SIZE, r_STL_RING_WPTR, r_STL_RING_WRAP, r_STL_PSTATE,
   r_STL_PSREQ, r_STL_PSAFE]

/-- The registers of the block at offset 0x12_0000. -/
def block12 : List RegD :=
  [r_PIL_CTRL, r_PIL_P_CTRL, r_PIL_P_MEAS, r_PIL_P_STAT]

/-- The registers of the block at offset 0x0F_0000. -/
def block0F : List RegD :=
  [r_T1S_CTRL, r_T1S_P_CTRL, r_T1S_P_STAT, r_T1S_P_MAC0, r_T1S_P_MAC1,
   r_T1S_P_TXBASE, r_T1S_P_RXBASE, r_T1S_P_LOG2N, r_T1S_P_HEADS]

/-- The registers of the block at offset 0x0E_0000. -/
def block0E : List RegD :=
  [r_PLC_CTRL, r_PLC_LOAD, r_PLC_LOAD_STAT, r_PLC_M_CTRL, r_PLC_M_STAT,
   r_PLC_M_CNT, r_PLC_M_SLAC, r_PLC_M_TXBASE, r_PLC_M_RXBASE,
   r_PLC_M_LOG2N, r_PLC_M_HEADS]

/-- The registers of the block at offset 0x24_0000. -/
def block24 : List RegD :=
  [r_HLM_CTRL, r_HLM_STAT, r_HLM_CNT, r_HLM_EVT, r_HLM_TXBASE,
   r_HLM_RXBASE, r_HLM_LOG2N, r_HLM_HEADS, r_HLM_NODE]

/-- The registers of the block at offset 0x0D_0000. -/
def block0D : List RegD :=
  [r_CAN_CTRL, r_CAN_STAT, r_CAN_EVT, r_CAN_IEN, r_CAN_TIM_NOM,
   r_CAN_TIM_DATA, r_CAN_SIEVE, r_CAN_Q_CFG, r_CAN_Q_STAT, r_CAN_Q_REL,
   r_CAN_SLOT_NEW, r_CAN_TX_PEND, r_CAN_TX_ABORT, r_CAN_TX_SENT, r_CAN_TX_DROP,
   r_CAN_CLASH_TX, r_CAN_CLASH_RX, r_CAN_CLASH_RXID, r_CAN_REF_CFG, r_CAN_REF_TS,
   r_CAN_REF_ID, r_CAN_ABD_CTRL, r_CAN_ABD_STAT, r_CAN_ABD_CAND]

/-- The registers of the block at offset 0x13_0000. -/
def block13 : List RegD :=
  [r_TSU_CTRL, r_TSU_STAT, r_TSU_EVT, r_TSU_NS, r_TSU_TALLY,
   r_TSU_EPOCH, r_TSU_TICK, r_TSU_GRID, r_TSU_SERVO, r_TSU_HOLD,
   r_TSU_APPLIED, r_TSU_TCOMP, r_TSU_UTC, r_TSU_DOM_OFS, r_TSU_DOM_RATE,
   r_TSU_DOM_CFG, r_TSU_RTC_SEC, r_TSU_RTC_SUB, r_TSU_PO_CTRL, r_TSU_PO_START_LO,
   r_TSU_PO_START_HI, r_TSU_PO_PW, r_TSU_CAP_CFG, r_TSU_CAP_NS, r_TSU_CAP_TALLY]

/-- The registers of the block at offset 0x23_0000. -/
def block23 : List RegD :=
  [r_ETH_TSQ_POP, r_ETH_TSQ_TS, r_ETH_TSQ_STAT, r_ETH_LAT]

/-- The registers of the block at offset 0x06_0000. -/
def block06 : List RegD :=
  [r_ACQ_CTRL, r_ACQ_EVT, r_ACQ_RD_SRC, r_ACQ_RD_DST, r_ACQ_RD_LEN,
   r_ACQ_RD_CTRL, r_ACQ_U_CTRL, r_ACQ_U_CFG, r_ACQ_U_ENT, r_ACQ_U_TRIG,
   r_ACQ_U_THR, r_ACQ_U_BASE, r_ACQ_U_SIZE, r_ACQ_U_LEN, r_ACQ_U_SEG,
   r_ACQ_U_POST, r_ACQ_U_STAT, r_ACQ_U_CNT, r_ACQ_GRP_CTRL, r_ACQ_GRP_STAT]

/-- The registers of the block at offset 0x0C_0000. -/
def block0C : List RegD :=
  [r_SAF_STAT, r_SAF_EVT, r_SAF_IN, r_SAF_OUT, r_SAF_P_STAT,
   r_SAF_P_ISO, r_SAF_P_TIME, r_SAF_DIAG, r_SAF_CFG_DIGEST]

/-- The registers of the block at offset 0x11_0000. -/
def block11 : List RegD :=
  [r_LSW_CTRL, r_LSW_CFG, r_LSW_SAFE_EN, r_LSW_EVT, r_LSW_RAIL,
   r_LSW_GRP_CFG, r_LSW_GRP, r_LSW_CH_CFG, r_LSW_CH_CMD, r_LSW_CH_DSRC,
   r_LSW_CH_STAT, r_LSW_CH_MEAS]

/-- The registers of the block at offset 0x02_0000. -/
def block02 : List RegD :=
  [r_THM_CTRL, r_THM_TEMP, r_THM_S, r_THM_LVL, r_THM_STAT,
   r_THM_EVT, r_THM_XO_C, r_THM_REF_C]

/-- The registers of the block at offset 0x21_0000. -/
def block21 : List RegD :=
  [r_TWN_CTRL, r_TWN_STAT, r_TWN_EVT, r_TWN_GEN, r_TWN_REC,
   r_TWN_CNT, r_TWN_GAP, r_TWN_RESYNC]

/-- The registers of the block at offset 0x00_0000. -/
def block00 : List RegD :=
  [r_DIE_ERR, r_DIE_FCNT, r_DIE_BUDGET]

/-- The register table of the block of a die region whose offset has bits 23 to 16 equal to `b`. -/
def blockTable (b : Nat) : List RegD :=
  match b with
  | 0x14 => block14
  | 0x25 => block25
  | 0x20 => block20
  | 0x22 => block22
  | 0x04 => block04
  | 0x08 => block08
  | 0x10 => block10
  | 0x12 => block12
  | 0x0F => block0F
  | 0x0E => block0E
  | 0x24 => block24
  | 0x0D => block0D
  | 0x13 => block13
  | 0x23 => block23
  | 0x06 => block06
  | 0x0C => block0C
  | 0x11 => block11
  | 0x02 => block02
  | 0x21 => block21
  | 0x00 => block00
  | _ => []

end RegMap

namespace F

/-- The whole word of PKG_ID. -/
def PKG_ID : Fld := ⟨0x0, 0x0, 0x0, 0, 32⟩
def PKG_ID_STEPPING : Fld := ⟨0x0, 0x0, 0x0, 0, 8⟩
def PKG_ID_SIZE : Fld := ⟨0x0, 0x0, 0x0, 8, 4⟩
def PKG_ID_FAMILY : Fld := ⟨0x0, 0x0, 0x0, 16, 16⟩
/-- The whole word of PKG_DIES. -/
def PKG_DIES : Fld := ⟨0x4, 0x0, 0x0, 0, 32⟩
def PKG_DIES_PRESENT : Fld := ⟨0x4, 0x0, 0x0, 0, 8⟩
def PKG_DIES_RETIRED : Fld := ⟨0x4, 0x0, 0x0, 8, 8⟩
def PKG_DIES_LATCHED_OFF : Fld := ⟨0x4, 0x0, 0x0, 16, 8⟩
def PKG_DIES_LEAD_OK : Fld := ⟨0x4, 0x0, 0x0, 24, 1⟩
/-- The whole word of XLK_CTRL. -/
def XLK_CTRL : Fld := ⟨0x140000, 0x0, 0x0, 0, 32⟩
def XLK_CTRL_EN : Fld := ⟨0x140000, 0x0, 0x0, 0, 1⟩
def XLK_CTRL_LOOPBACK : Fld := ⟨0x140000, 0x0, 0x0, 1, 1⟩
def XLK_CTRL_LOCK : Fld := ⟨0x140000, 0x0, 0x0, 31, 1⟩
/-- The whole word of XLK_STAT. -/
def XLK_STAT : Fld := ⟨0x140004, 0x0, 0x0, 0, 32⟩
def XLK_STAT_UP : Fld := ⟨0x140004, 0x0, 0x0, 0, 1⟩
def XLK_STAT_LANES_OK : Fld := ⟨0x140004, 0x0, 0x0, 1, 4⟩
def XLK_STAT_DEGRADED : Fld := ⟨0x140004, 0x0, 0x0, 5, 1⟩
/-- The whole word of XLK_ERR. -/
def XLK_ERR : Fld := ⟨0x140008, 0x0, 0x0, 0, 32⟩
def XLK_ERR_UNCORR : Fld := ⟨0x140008, 0x0, 0x0, 0, 1⟩
def XLK_ERR_LANE_FAIL : Fld := ⟨0x140008, 0x0, 0x0, 1, 4⟩
def XLK_ERR_CLS3_SHORT : Fld := ⟨0x140008, 0x0, 0x0, 8, 1⟩
def XLK_ERR_FIRST : Fld := ⟨0x140008, 0x0, 0x0, 12, 4⟩
/-- The whole word of XLK_CRC_CNT. -/
def XLK_CRC_CNT : Fld := ⟨0x14000C, 0x0, 0x0, 0, 32⟩
def XLK_CRC_CNT_CORR : Fld := ⟨0x14000C, 0x0, 0x0, 0, 16⟩
def XLK_CRC_CNT_RETX : Fld := ⟨0x14000C, 0x0, 0x0, 16, 16⟩
/-- The whole word of XLK_CLS_CNT. -/
def XLK_CLS_CNT : Fld := ⟨0x140010, 0x4, 0x0, 0, 32⟩
/-- The whole word of PKG_PWR. -/
def PKG_PWR : Fld := ⟨0x10, 0x0, 0x0, 0, 32⟩
def PKG_PWR_MAINS_OK : Fld := ⟨0x10, 0x0, 0x0, 0, 1⟩
def PKG_PWR_AC_INPUT : Fld := ⟨0x10, 0x0, 0x0, 1, 1⟩
def PKG_PWR_HOLDUP_READY : Fld := ⟨0x10, 0x0, 0x0, 2, 1⟩
def PKG_PWR_MAINS_LOST : Fld := ⟨0x10, 0x0, 0x0, 3, 1⟩
def PKG_PWR_V24_OK : Fld := ⟨0x10, 0x0, 0x0, 4, 1⟩
def PKG_PWR_V24_OV : Fld := ⟨0x10, 0x0, 0x0, 5, 1⟩
def PKG_PWR_V24_UV : Fld := ⟨0x10, 0x0, 0x0, 6, 1⟩
def PKG_PWR_HOLDUP_LVL : Fld := ⟨0x10, 0x0, 0x0, 8, 8⟩
def PKG_PWR_MAINS_LOSS_EVT : Fld := ⟨0x10, 0x0, 0x0, 16, 1⟩
def PKG_PWR_MAINS_RETURN_EVT : Fld := ⟨0x10, 0x0, 0x0, 17, 1⟩
def PKG_PWR_V24_EVT : Fld := ⟨0x10, 0x0, 0x0, 18, 1⟩
/-- The whole word of PKG_BAT. -/
def PKG_BAT : Fld := ⟨0x14, 0x0, 0x0, 0, 32⟩
def PKG_BAT_VBAT1 : Fld := ⟨0x14, 0x0, 0x0, 0, 8⟩
def PKG_BAT_VBAT2 : Fld := ⟨0x14, 0x0, 0x0, 8, 8⟩
def PKG_BAT_BAT1_LOW : Fld := ⟨0x14, 0x0, 0x0, 16, 1⟩
def PKG_BAT_BAT2_LOW : Fld := ⟨0x14, 0x0, 0x0, 17, 1⟩
/-- The whole word of PKG_STAT. -/
def PKG_STAT : Fld := ⟨0x18, 0x0, 0x0, 0, 32⟩
def PKG_STAT_CODE : Fld := ⟨0x18, 0x0, 0x0, 0, 3⟩
def PKG_STAT_HELD : Fld := ⟨0x18, 0x0, 0x0, 8, 8⟩
/-- The whole word of LCS_STATE. -/
def LCS_STATE : Fld := ⟨0x250000, 0x0, 0x0, 0, 32⟩
def LCS_STATE_STATE : Fld := ⟨0x250000, 0x0, 0x0, 0, 3⟩
def LCS_STATE_WIPE_PEND : Fld := ⟨0x250000, 0x0, 0x0, 3, 1⟩
def LCS_STATE_TRANS_CNT : Fld := ⟨0x250000, 0x0, 0x0, 8, 8⟩
def LCS_STATE_DBG_EN : Fld := ⟨0x250000, 0x0, 0x0, 16, 1⟩
/-- The whole word of LCS_BOOT. -/
def LCS_BOOT : Fld := ⟨0x250004, 0x0, 0x0, 0, 32⟩
def LCS_BOOT_SET_BANK : Fld := ⟨0x250004, 0x0, 0x0, 0, 1⟩
def LCS_BOOT_METER_BANK : Fld := ⟨0x250004, 0x0, 0x0, 1, 1⟩
def LCS_BOOT_METER_RUN : Fld := ⟨0x250004, 0x0, 0x0, 2, 1⟩
def LCS_BOOT_FALLBACK : Fld := ⟨0x250004, 0x0, 0x0, 3, 1⟩
def LCS_BOOT_HOLD : Fld := ⟨0x250004, 0x0, 0x0, 4, 1⟩
def LCS_BOOT_TRIAL : Fld := ⟨0x250004, 0x0, 0x0, 5, 1⟩
def LCS_BOOT_CFG_ABSENT : Fld := ⟨0x250004, 0x0, 0x0, 6, 1⟩
def LCS_BOOT_FAIL_CLASS : Fld := ⟨0x250004, 0x0, 0x0, 8, 4⟩
def LCS_BOOT_FAIL_WHY : Fld := ⟨0x250004, 0x0, 0x0, 12, 4⟩
def LCS_BOOT_CERT_IDX : Fld := ⟨0x250004, 0x0, 0x0, 16, 8⟩
/-- The whole word of LCS_BANK. -/
def LCS_BANK : Fld := ⟨0x250008, 0x0, 0x0, 0, 32⟩
def LCS_BANK_ACTIVE : Fld := ⟨0x250008, 0x0, 0x0, 0, 1⟩
def LCS_BANK_PENDING : Fld := ⟨0x250008, 0x0, 0x0, 1, 1⟩
def LCS_BANK_PEND_BANK : Fld := ⟨0x250008, 0x0, 0x0, 2, 1⟩
/-- The whole word of LCS_STAGED. -/
def LCS_STAGED : Fld := ⟨0x25000C, 0x0, 0x0, 0, 32⟩
def LCS_STAGED_VALID : Fld := ⟨0x25000C, 0x0, 0x0, 0, 6⟩
def LCS_STAGED_COVERED : Fld := ⟨0x25000C, 0x0, 0x0, 6, 1⟩
def LCS_STAGED_STAGE_DONE : Fld := ⟨0x25000C, 0x0, 0x0, 7, 1⟩
/-- The whole word of LCS_CTRL. -/
def LCS_CTRL : Fld := ⟨0x250010, 0x0, 0x0, 0, 32⟩
def LCS_CTRL_TRIAL_WIN : Fld := ⟨0x250010, 0x0, 0x0, 0, 16⟩
def LCS_CTRL_LOCK : Fld := ⟨0x250010, 0x0, 0x0, 31, 1⟩
/-- The whole word of LCS_CONFIRM. -/
def LCS_CONFIRM : Fld := ⟨0x250014, 0x0, 0x0, 0, 32⟩
/-- The whole word of LCS_FLOOR. -/
def LCS_FLOOR : Fld := ⟨0x250018, 0x0, 0x0, 0, 32⟩
def LCS_FLOOR_FLOOR : Fld := ⟨0x250018, 0x0, 0x0, 0, 24⟩
/-- The whole word of LCS_MREG. -/
def LCS_MREG : Fld := ⟨0x250100, 0x20, 0x4, 0, 32⟩
/-- The whole word of LCS_MREG7_EXT. -/
def LCS_MREG7_EXT : Fld := ⟨0x250200, 0x4, 0x0, 0, 32⟩
/-- The whole word of KEY_STAT. -/
def KEY_STAT : Fld := ⟨0x200000, 0x0, 0x0, 0, 32⟩
def KEY_STAT_ROOT_VALID : Fld := ⟨0x200000, 0x0, 0x0, 0, 1⟩
def KEY_STAT_TAMPERED : Fld := ⟨0x200000, 0x0, 0x0, 1, 1⟩
def KEY_STAT_ENTROPY_OK : Fld := ⟨0x200000, 0x0, 0x0, 2, 1⟩
def KEY_STAT_PEND_OK : Fld := ⟨0x200000, 0x0, 0x0, 3, 1⟩
def KEY_STAT_QDEPTH : Fld := ⟨0x200000, 0x0, 0x0, 8, 4⟩
/-- The whole word of KEY_TAMPER. -/
def KEY_TAMPER : Fld := ⟨0x200004, 0x0, 0x0, 0, 32⟩
def KEY_TAMPER_MESH : Fld := ⟨0x200004, 0x0, 0x0, 0, 1⟩
def KEY_TAMPER_LIGHT : Fld := ⟨0x200004, 0x0, 0x0, 1, 1⟩
def KEY_TAMPER_TEMP : Fld := ⟨0x200004, 0x0, 0x0, 2, 1⟩
def KEY_TAMPER_VBAT : Fld := ⟨0x200004, 0x0, 0x0, 3, 1⟩
def KEY_TAMPER_KEEP_LOSS : Fld := ⟨0x200004, 0x0, 0x0, 4, 1⟩
def KEY_TAMPER_COUNT : Fld := ⟨0x200004, 0x0, 0x0, 8, 8⟩
/-- The whole word of KEY_WDATA. -/
def KEY_WDATA : Fld := ⟨0x200040, 0x4, 0x0, 0, 32⟩
/-- The whole word of KEY_WATTR. -/
def KEY_WATTR : Fld := ⟨0x200070, 0x0, 0x0, 0, 32⟩
/-- The whole word of KEY_WCMD. -/
def KEY_WCMD : Fld := ⟨0x200074, 0x0, 0x0, 0, 32⟩
def KEY_WCMD_SLOT : Fld := ⟨0x200074, 0x0, 0x0, 0, 6⟩
def KEY_WCMD_ERASE : Fld := ⟨0x200074, 0x0, 0x0, 8, 1⟩
def KEY_WCMD_LABEL : Fld := ⟨0x200074, 0x0, 0x0, 16, 16⟩
/-- The whole word of KEY_OPC. -/
def KEY_OPC : Fld := ⟨0x200080, 0x0, 0x0, 0, 32⟩
def KEY_OPC_SLOT : Fld := ⟨0x200080, 0x0, 0x0, 0, 6⟩
def KEY_OPC_OP : Fld := ⟨0x200080, 0x0, 0x0, 8, 4⟩
def KEY_OPC_TARGET : Fld := ⟨0x200080, 0x0, 0x0, 12, 6⟩
def KEY_OPC_GO : Fld := ⟨0x200080, 0x0, 0x0, 31, 1⟩
/-- The whole word of KEY_OPADDR. -/
def KEY_OPADDR : Fld := ⟨0x200084, 0x4, 0x0, 0, 32⟩
/-- The whole word of KEY_OPLEN. -/
def KEY_OPLEN : Fld := ⟨0x200090, 0x0, 0x0, 0, 32⟩
def KEY_OPLEN_LEN : Fld := ⟨0x200090, 0x0, 0x0, 0, 20⟩
def KEY_OPLEN_AADLEN : Fld := ⟨0x200090, 0x0, 0x0, 20, 12⟩
/-- The whole word of KEY_OPRES. -/
def KEY_OPRES : Fld := ⟨0x200094, 0x0, 0x0, 0, 32⟩
def KEY_OPRES_STATUS : Fld := ⟨0x200094, 0x0, 0x0, 0, 8⟩
def KEY_OPRES_DONE : Fld := ⟨0x200094, 0x0, 0x0, 8, 1⟩
def KEY_OPRES_QUEUED : Fld := ⟨0x200094, 0x0, 0x0, 9, 1⟩
/-- The whole word of KEY_SLOT_ATTR. -/
def KEY_SLOT_ATTR : Fld := ⟨0x200100, 0x8, 0x0, 0, 32⟩
def KEY_SLOT_ATTR_USE : Fld := ⟨0x200100, 0x8, 0x0, 0, 3⟩
def KEY_SLOT_ATTR_OWNER : Fld := ⟨0x200100, 0x8, 0x0, 4, 2⟩
def KEY_SLOT_ATTR_STALE : Fld := ⟨0x200100, 0x8, 0x0, 6, 1⟩
def KEY_SLOT_ATTR_VALID : Fld := ⟨0x200100, 0x8, 0x0, 7, 1⟩
def KEY_SLOT_ATTR_MEAS_MASK : Fld := ⟨0x200100, 0x8, 0x0, 8, 8⟩
def KEY_SLOT_ATTR_ALG : Fld := ⟨0x200100, 0x8, 0x0, 16, 2⟩
def KEY_SLOT_ATTR_LC_MODE : Fld := ⟨0x200100, 0x8, 0x0, 18, 1⟩
def KEY_SLOT_ATTR_STORED : Fld := ⟨0x200100, 0x8, 0x0, 19, 1⟩
def KEY_SLOT_ATTR_PENDING : Fld := ⟨0x200100, 0x8, 0x0, 20, 1⟩
def KEY_SLOT_ATTR_SEALED : Fld := ⟨0x200100, 0x8, 0x0, 31, 1⟩
/-- The whole word of KEY_SLOT_LABEL. -/
def KEY_SLOT_LABEL : Fld := ⟨0x200104, 0x8, 0x0, 0, 32⟩
def KEY_SLOT_LABEL_LABEL : Fld := ⟨0x200104, 0x8, 0x0, 0, 16⟩
/-- The whole word of HPI_CTRL. -/
def HPI_CTRL : Fld := ⟨0x220000, 0x0, 0x0, 0, 32⟩
def HPI_CTRL_EN : Fld := ⟨0x220000, 0x0, 0x0, 0, 1⟩
def HPI_CTRL_CMD_EN : Fld := ⟨0x220000, 0x0, 0x0, 1, 1⟩
def HPI_CTRL_LOCK : Fld := ⟨0x220000, 0x0, 0x0, 31, 1⟩
/-- The whole word of HPI_STAT. -/
def HPI_STAT : Fld := ⟨0x220004, 0x0, 0x0, 0, 32⟩
def HPI_STAT_IRQ : Fld := ⟨0x220004, 0x0, 0x0, 0, 1⟩
def HPI_STAT_BAD_OPC : Fld := ⟨0x220004, 0x0, 0x0, 1, 1⟩
def HPI_STAT_SHORT : Fld := ⟨0x220004, 0x0, 0x0, 2, 1⟩
def HPI_STAT_MISALIGN : Fld := ⟨0x220004, 0x0, 0x0, 3, 1⟩
/-- The whole word of SMW_EVT. -/
def SMW_EVT : Fld := ⟨0x221000, 0x0, 0x0, 0, 32⟩
def SMW_EVT_CMD_DONE : Fld := ⟨0x221000, 0x0, 0x0, 0, 8⟩
def SMW_EVT_MBR_READY : Fld := ⟨0x221000, 0x0, 0x0, 8, 1⟩
def SMW_EVT_BULK : Fld := ⟨0x221000, 0x0, 0x0, 9, 1⟩
def SMW_EVT_STATUS_CHG : Fld := ⟨0x221000, 0x0, 0x0, 10, 1⟩
def SMW_EVT_ERR : Fld := ⟨0x221000, 0x0, 0x0, 11, 1⟩
/-- The whole word of SMW_IEN. -/
def SMW_IEN : Fld := ⟨0x221004, 0x4, 0x0, 0, 32⟩
def SMW_IEN_EN : Fld := ⟨0x221004, 0x4, 0x0, 0, 12⟩
/-- The whole word of SMW_RSV. -/
def SMW_RSV : Fld := ⟨0x22100C, 0x4, 0x0, 0, 32⟩
/-- The whole word of SMW_EARLY_READ. -/
def SMW_EARLY_READ : Fld := ⟨0x221014, 0x0, 0x0, 0, 32⟩
def SMW_EARLY_READ_COUNT : Fld := ⟨0x221014, 0x0, 0x0, 0, 16⟩
def SMW_EARLY_READ_LAST_SLOT : Fld := ⟨0x221014, 0x0, 0x0, 16, 8⟩
def SMW_EARLY_READ_LAST_SRC : Fld := ⟨0x221014, 0x0, 0x0, 24, 1⟩
def SMW_EARLY_READ_CLR : Fld := ⟨0x221014, 0x0, 0x0, 31, 1⟩
/-- The whole word of SMW_ERR. -/
def SMW_ERR : Fld := ⟨0x221018, 0x0, 0x0, 0, 32⟩
def SMW_ERR_ILLEGAL_OWN : Fld := ⟨0x221018, 0x0, 0x0, 0, 1⟩
def SMW_ERR_PAYLOAD_DROP : Fld := ⟨0x221018, 0x0, 0x0, 1, 1⟩
def SMW_ERR_STATUS_WRITE : Fld := ⟨0x221018, 0x0, 0x0, 2, 1⟩
def SMW_ERR_ECC_CORR : Fld := ⟨0x221018, 0x0, 0x0, 3, 1⟩
def SMW_ERR_ECC_UNCORR : Fld := ⟨0x221018, 0x0, 0x0, 4, 1⟩
def SMW_ERR_FIRST : Fld := ⟨0x221018, 0x0, 0x0, 8, 4⟩
def SMW_ERR_SLOT : Fld := ⟨0x221018, 0x0, 0x0, 12, 8⟩
/-- The whole word of SMW_CMD_CNT. -/
def SMW_CMD_CNT : Fld := ⟨0x22101C, 0x0, 0x0, 0, 32⟩
def SMW_CMD_CNT_OK : Fld := ⟨0x22101C, 0x0, 0x0, 0, 16⟩
def SMW_CMD_CNT_REFUSED : Fld := ⟨0x22101C, 0x0, 0x0, 16, 16⟩
/-- The whole word of SMW_LOCKOUT. -/
def SMW_LOCKOUT : Fld := ⟨0x221020, 0x0, 0x0, 0, 32⟩
def SMW_LOCKOUT_LOCKED : Fld := ⟨0x221020, 0x0, 0x0, 0, 5⟩
def SMW_LOCKOUT_REMAIN : Fld := ⟨0x221020, 0x0, 0x0, 16, 12⟩
/-- The whole word of SMW_LASTCTR. -/
def SMW_LASTCTR : Fld := ⟨0x221040, 0x8, 0x4, 0, 32⟩
/-- The whole word of ADC_CTRL. -/
def ADC_CTRL : Fld := ⟨0x40000, 0x0, 0x0, 0, 32⟩
def ADC_CTRL_SRST : Fld := ⟨0x40000, 0x0, 0x0, 0, 1⟩
def ADC_CTRL_LOCK : Fld := ⟨0x40000, 0x0, 0x0, 31, 1⟩
/-- The whole word of ADC_REF. -/
def ADC_REF : Fld := ⟨0x40004, 0x0, 0x0, 0, 32⟩
def ADC_REF_SEL : Fld := ⟨0x40004, 0x0, 0x0, 0, 2⟩
def ADC_REF_REF_READY : Fld := ⟨0x40004, 0x0, 0x0, 8, 1⟩
def ADC_REF_VSUP_OK : Fld := ⟨0x40004, 0x0, 0x0, 9, 1⟩
def ADC_REF_EXT_FAULT : Fld := ⟨0x40004, 0x0, 0x0, 10, 1⟩
/-- The whole word of ADC_STAT. -/
def ADC_STAT : Fld := ⟨0x40008, 0x0, 0x0, 0, 32⟩
def ADC_STAT_SQ0_LANE : Fld := ⟨0x40008, 0x0, 0x0, 0, 2⟩
def ADC_STAT_SQ1_LANE : Fld := ⟨0x40008, 0x0, 0x0, 2, 2⟩
def ADC_STAT_CAL_LANE : Fld := ⟨0x40008, 0x0, 0x0, 4, 2⟩
def ADC_STAT_SQ0_RUN : Fld := ⟨0x40008, 0x0, 0x0, 6, 1⟩
def ADC_STAT_SQ1_RUN : Fld := ⟨0x40008, 0x0, 0x0, 7, 1⟩
/-- The whole word of ADC_ERR. -/
def ADC_ERR : Fld := ⟨0x4000C, 0x0, 0x0, 0, 32⟩
def ADC_ERR_REF_LOST : Fld := ⟨0x4000C, 0x0, 0x0, 0, 1⟩
def ADC_ERR_CFG_BUSY : Fld := ⟨0x4000C, 0x0, 0x0, 1, 1⟩
def ADC_ERR_STOP_REFUSED : Fld := ⟨0x4000C, 0x0, 0x0, 2, 1⟩
def ADC_ERR_TW_UNCOVERED : Fld := ⟨0x4000C, 0x0, 0x0, 3, 1⟩
def ADC_ERR_CELL_CM : Fld := ⟨0x4000C, 0x0, 0x0, 4, 1⟩
def ADC_ERR_FIRST : Fld := ⟨0x4000C, 0x0, 0x0, 8, 4⟩
def ADC_ERR_CELL : Fld := ⟨0x4000C, 0x0, 0x0, 12, 7⟩
/-- The whole word of ADC_SITE. -/
def ADC_SITE : Fld := ⟨0x40010, 0x0, 0x0, 0, 32⟩
def ADC_SITE_EN : Fld := ⟨0x40010, 0x0, 0x0, 0, 1⟩
def ADC_SITE_GAIN_U : Fld := ⟨0x40010, 0x0, 0x0, 1, 3⟩
def ADC_SITE_GAIN_I : Fld := ⟨0x40010, 0x0, 0x0, 4, 3⟩
def ADC_SITE_SQ : Fld := ⟨0x40010, 0x0, 0x0, 7, 1⟩
/-- The whole word of ADC_SQ_CTRL. -/
def ADC_SQ_CTRL : Fld := ⟨0x40100, 0x40, 0x0, 0, 32⟩
def ADC_SQ_CTRL_RUN : Fld := ⟨0x40100, 0x40, 0x0, 0, 1⟩
def ADC_SQ_CTRL_SYNC : Fld := ⟨0x40100, 0x40, 0x0, 1, 1⟩
def ADC_SQ_CTRL_COMMIT : Fld := ⟨0x40100, 0x40, 0x0, 2, 1⟩
/-- The whole word of ADC_SQ_CFG. -/
def ADC_SQ_CFG : Fld := ⟨0x40104, 0x40, 0x0, 0, 32⟩
def ADC_SQ_CFG_NENT : Fld := ⟨0x40104, 0x40, 0x0, 0, 5⟩
def ADC_SQ_CFG_PERIOD : Fld := ⟨0x40104, 0x40, 0x0, 18, 14⟩
/-- The whole word of ADC_SQ_STAT. -/
def ADC_SQ_STAT : Fld := ⟨0x40108, 0x40, 0x0, 0, 32⟩
def ADC_SQ_STAT_STATUS : Fld := ⟨0x40108, 0x40, 0x0, 0, 8⟩
def ADC_SQ_STAT_PENDING : Fld := ⟨0x40108, 0x40, 0x0, 8, 1⟩
def ADC_SQ_STAT_REJ_ENTRY : Fld := ⟨0x40108, 0x40, 0x0, 9, 4⟩
def ADC_SQ_STAT_REASON : Fld := ⟨0x40108, 0x40, 0x0, 13, 4⟩
def ADC_SQ_STAT_LEN : Fld := ⟨0x40108, 0x40, 0x0, 18, 14⟩
/-- The whole word of ADC_SQ_ROUND. -/
def ADC_SQ_ROUND : Fld := ⟨0x4010C, 0x40, 0x0, 0, 32⟩
/-- The whole word of ADC_SQ_ENT. -/
def ADC_SQ_ENT : Fld := ⟨0x40200, 0x100, 0x4, 0, 32⟩
/-- The whole word of ADC_SQ_AENT. -/
def ADC_SQ_AENT : Fld := ⟨0x40240, 0x100, 0x4, 0, 32⟩
/-- The whole word of ADC_SQ_SCAN. -/
def ADC_SQ_SCAN : Fld := ⟨0x40280, 0x100, 0x4, 0, 32⟩
def ADC_SQ_SCAN_MASK : Fld := ⟨0x40280, 0x100, 0x4, 0, 16⟩
/-- The whole word of ADC_SQ_ASCAN. -/
def ADC_SQ_ASCAN : Fld := ⟨0x40290, 0x100, 0x4, 0, 32⟩
def ADC_SQ_ASCAN_MASK : Fld := ⟨0x40290, 0x100, 0x4, 0, 16⟩
/-- The whole word of ADC_RING_BASE. -/
def ADC_RING_BASE : Fld := ⟨0x40400, 0x10, 0x0, 0, 32⟩
/-- The whole word of ADC_RING_SIZE. -/
def ADC_RING_SIZE : Fld := ⟨0x40404, 0x10, 0x0, 0, 32⟩
def ADC_RING_SIZE_SIZE : Fld := ⟨0x40404, 0x10, 0x0, 0, 4⟩
/-- The whole word of ADC_RING_WPTR. -/
def ADC_RING_WPTR : Fld := ⟨0x40408, 0x10, 0x0, 0, 32⟩
def ADC_RING_WPTR_WPTR : Fld := ⟨0x40408, 0x10, 0x0, 0, 18⟩
/-- The whole word of ADC_RING_WRAP. -/
def ADC_RING_WRAP : Fld := ⟨0x4040C, 0x10, 0x0, 0, 32⟩
def ADC_RING_WRAP_WRAP : Fld := ⟨0x4040C, 0x10, 0x0, 0, 16⟩
/-- The whole word of ADC_CELL. -/
def ADC_CELL : Fld := ⟨0x41000, 0x4, 0x0, 0, 32⟩
def ADC_CELL_EN : Fld := ⟨0x41000, 0x4, 0x0, 0, 1⟩
def ADC_CELL_GAIN : Fld := ⟨0x41000, 0x4, 0x0, 1, 3⟩
def ADC_CELL_RATIO : Fld := ⟨0x41000, 0x4, 0x0, 4, 1⟩
def ADC_CELL_RETIRED : Fld := ⟨0x41000, 0x4, 0x0, 5, 1⟩
def ADC_CELL_CM_ERR : Fld := ⟨0x41000, 0x4, 0x0, 6, 1⟩
/-- The whole word of ADC_LAST. -/
def ADC_LAST : Fld := ⟨0x41200, 0x4, 0x0, 0, 32⟩
/-- The whole word of ADC_TW. -/
def ADC_TW : Fld := ⟨0x41400, 0x8, 0x4, 0, 32⟩
def ADC_TW_LOW : Fld := ⟨0x41400, 0x8, 0x4, 0, 16⟩
def ADC_TW_HIGH : Fld := ⟨0x41400, 0x8, 0x4, 16, 16⟩
/-- The whole word of ADC_TWEN. -/
def ADC_TWEN : Fld := ⟨0x41380, 0x8, 0x4, 0, 32⟩
/-- The whole word of ADC_TRIP. -/
def ADC_TRIP : Fld := ⟨0x41390, 0x4, 0x0, 0, 32⟩
/-- The whole word of ADC_TC. -/
def ADC_TC : Fld := ⟨0x41800, 0x4, 0x0, 0, 32⟩
def ADC_TC_CELL : Fld := ⟨0x41800, 0x4, 0x0, 0, 4⟩
def ADC_TC_THRESH : Fld := ⟨0x41800, 0x4, 0x0, 4, 12⟩
def ADC_TC_DIR : Fld := ⟨0x41800, 0x4, 0x0, 16, 1⟩
def ADC_TC_EN : Fld := ⟨0x41800, 0x4, 0x0, 17, 1⟩
/-- The whole word of ADC_TC_STAT. -/
def ADC_TC_STAT : Fld := ⟨0x41820, 0x0, 0x0, 0, 32⟩
def ADC_TC_STAT_TRIP : Fld := ⟨0x41820, 0x0, 0x0, 0, 8⟩
def ADC_TC_STAT_LEVEL : Fld := ⟨0x41820, 0x0, 0x0, 8, 8⟩
/-- The whole word of ADC_SYSCAL. -/
def ADC_SYSCAL : Fld := ⟨0x41900, 0x0, 0x0, 0, 32⟩
def ADC_SYSCAL_CELL : Fld := ⟨0x41900, 0x0, 0x0, 0, 7⟩
def ADC_SYSCAL_GAIN : Fld := ⟨0x41900, 0x0, 0x0, 7, 3⟩
def ADC_SYSCAL_STEP : Fld := ⟨0x41900, 0x0, 0x0, 10, 2⟩
def ADC_SYSCAL_NAVG : Fld := ⟨0x41900, 0x0, 0x0, 12, 4⟩
def ADC_SYSCAL_GO : Fld := ⟨0x41900, 0x0, 0x0, 31, 1⟩
/-- The whole word of ADC_SYSCAL_TGT. -/
def ADC_SYSCAL_TGT : Fld := ⟨0x41904, 0x0, 0x0, 0, 32⟩
def ADC_SYSCAL_TGT_TARGET : Fld := ⟨0x41904, 0x0, 0x0, 0, 16⟩
/-- The whole word of ADC_SYSCAL_STAT. -/
def ADC_SYSCAL_STAT : Fld := ⟨0x41908, 0x0, 0x0, 0, 32⟩
def ADC_SYSCAL_STAT_STATUS : Fld := ⟨0x41908, 0x0, 0x0, 0, 8⟩
def ADC_SYSCAL_STAT_BUSY : Fld := ⟨0x41908, 0x0, 0x0, 8, 1⟩
def ADC_SYSCAL_STAT_ZERO_HELD : Fld := ⟨0x41908, 0x0, 0x0, 9, 1⟩
def ADC_SYSCAL_STAT_SAT_ABORT : Fld := ⟨0x41908, 0x0, 0x0, 11, 1⟩
def ADC_SYSCAL_STAT_COUNT : Fld := ⟨0x41908, 0x0, 0x0, 12, 17⟩
/-- The whole word of ADC_COEF_SEL. -/
def ADC_COEF_SEL : Fld := ⟨0x4190C, 0x0, 0x0, 0, 32⟩
def ADC_COEF_SEL_CELL : Fld := ⟨0x4190C, 0x0, 0x0, 0, 7⟩
def ADC_COEF_SEL_GAIN : Fld := ⟨0x4190C, 0x0, 0x0, 7, 3⟩
/-- The whole word of ADC_COEF_OFS. -/
def ADC_COEF_OFS : Fld := ⟨0x41910, 0x0, 0x0, 0, 32⟩
def ADC_COEF_OFS_OFS : Fld := ⟨0x41910, 0x0, 0x0, 0, 20⟩
/-- The whole word of ADC_COEF_GAIN. -/
def ADC_COEF_GAIN : Fld := ⟨0x41914, 0x0, 0x0, 0, 32⟩
def ADC_COEF_GAIN_GAIN : Fld := ⟨0x41914, 0x0, 0x0, 0, 18⟩
/-- The whole word of ADC_MTRMAP. -/
def ADC_MTRMAP : Fld := ⟨0x41A00, 0x4, 0x0, 0, 32⟩
def ADC_MTRMAP_V_CELL : Fld := ⟨0x41A00, 0x4, 0x0, 0, 4⟩
def ADC_MTRMAP_I_CELL : Fld := ⟨0x41A00, 0x4, 0x0, 4, 4⟩
def ADC_MTRMAP_H_CELL : Fld := ⟨0x41A00, 0x4, 0x0, 8, 4⟩
def ADC_MTRMAP_H_EN : Fld := ⟨0x41A00, 0x4, 0x0, 12, 1⟩
def ADC_MTRMAP_V_GAIN : Fld := ⟨0x41A00, 0x4, 0x0, 13, 3⟩
def ADC_MTRMAP_I_GAIN : Fld := ⟨0x41A00, 0x4, 0x0, 16, 3⟩
def ADC_MTRMAP_H_GAIN : Fld := ⟨0x41A00, 0x4, 0x0, 19, 3⟩
def ADC_MTRMAP_SQ : Fld := ⟨0x41A00, 0x4, 0x0, 22, 1⟩
/-- The whole word of ADC_ROT_CFG. -/
def ADC_ROT_CFG : Fld := ⟨0x41C00, 0x0, 0x0, 0, 32⟩
def ADC_ROT_CFG_ROT_EN : Fld := ⟨0x41C00, 0x0, 0x0, 0, 1⟩
def ADC_ROT_CFG_NOW : Fld := ⟨0x41C00, 0x0, 0x0, 1, 1⟩
def ADC_ROT_CFG_INTERVAL : Fld := ⟨0x41C00, 0x0, 0x0, 8, 8⟩
def ADC_ROT_CFG_LEAD : Fld := ⟨0x41C00, 0x0, 0x0, 16, 8⟩
/-- The whole word of ADC_ROT_LIM. -/
def ADC_ROT_LIM : Fld := ⟨0x41C04, 0x0, 0x0, 0, 32⟩
def ADC_ROT_LIM_LIM_MEAN : Fld := ⟨0x41C04, 0x0, 0x0, 0, 8⟩
def ADC_ROT_LIM_LIM_PEAK : Fld := ⟨0x41C04, 0x0, 0x0, 8, 8⟩
/-- The whole word of ADC_ROT_STAT. -/
def ADC_ROT_STAT : Fld := ⟨0x41C08, 0x0, 0x0, 0, 32⟩
def ADC_ROT_STAT_PHASE : Fld := ⟨0x41C08, 0x0, 0x0, 0, 3⟩
def ADC_ROT_STAT_TARGET : Fld := ⟨0x41C08, 0x0, 0x0, 3, 1⟩
def ADC_ROT_STAT_NEWCOMER : Fld := ⟨0x41C08, 0x0, 0x0, 4, 2⟩
def ADC_ROT_STAT_DEFER_SYSCAL : Fld := ⟨0x41C08, 0x0, 0x0, 6, 1⟩
def ADC_ROT_STAT_ROUNDS : Fld := ⟨0x41C08, 0x0, 0x0, 8, 7⟩
def ADC_ROT_STAT_RESTARTS : Fld := ⟨0x41C08, 0x0, 0x0, 16, 4⟩
/-- The whole word of ADC_ROT_CNT. -/
def ADC_ROT_CNT : Fld := ⟨0x41C0C, 0x0, 0x0, 0, 32⟩
def ADC_ROT_CNT_SWAPS : Fld := ⟨0x41C0C, 0x0, 0x0, 0, 16⟩
def ADC_ROT_CNT_REFUSED : Fld := ⟨0x41C0C, 0x0, 0x0, 16, 8⟩
def ADC_ROT_CNT_FORCED : Fld := ⟨0x41C0C, 0x0, 0x0, 24, 8⟩
/-- The whole word of ADC_ROT_LAST. -/
def ADC_ROT_LAST : Fld := ⟨0x41C10, 0x0, 0x0, 0, 32⟩
def ADC_ROT_LAST_MEAN : Fld := ⟨0x41C10, 0x0, 0x0, 0, 12⟩
def ADC_ROT_LAST_PEAK : Fld := ⟨0x41C10, 0x0, 0x0, 12, 8⟩
def ADC_ROT_LAST_CELL : Fld := ⟨0x41C10, 0x0, 0x0, 20, 7⟩
def ADC_ROT_LAST_AGREE : Fld := ⟨0x41C10, 0x0, 0x0, 27, 1⟩
/-- The whole word of ADC_ROT_EVT. -/
def ADC_ROT_EVT : Fld := ⟨0x41C14, 0x0, 0x0, 0, 32⟩
def ADC_ROT_EVT_SWAP : Fld := ⟨0x41C14, 0x0, 0x0, 0, 1⟩
def ADC_ROT_EVT_REFUSED : Fld := ⟨0x41C14, 0x0, 0x0, 1, 1⟩
def ADC_ROT_EVT_JUDGED : Fld := ⟨0x41C14, 0x0, 0x0, 2, 1⟩
def ADC_ROT_EVT_EMERGENCY : Fld := ⟨0x41C14, 0x0, 0x0, 3, 1⟩
def ADC_ROT_EVT_SELFCAL_FAIL : Fld := ⟨0x41C14, 0x0, 0x0, 4, 1⟩
def ADC_ROT_EVT_DRIFT : Fld := ⟨0x41C14, 0x0, 0x0, 5, 1⟩
def ADC_ROT_EVT_SUSPEND : Fld := ⟨0x41C14, 0x0, 0x0, 6, 1⟩
def ADC_ROT_EVT_OVL_RESTART : Fld := ⟨0x41C14, 0x0, 0x0, 7, 1⟩
def ADC_ROT_EVT_INCONCL : Fld := ⟨0x41C14, 0x0, 0x0, 8, 1⟩
def ADC_ROT_EVT_FIRST : Fld := ⟨0x41C14, 0x0, 0x0, 12, 4⟩
/-- The whole word of ADC_LANE_CAL. -/
def ADC_LANE_CAL : Fld := ⟨0x41C20, 0x4, 0x0, 0, 32⟩
def ADC_LANE_CAL_CORR_VALID : Fld := ⟨0x41C20, 0x4, 0x0, 0, 1⟩
def ADC_LANE_CAL_RETIRED : Fld := ⟨0x41C20, 0x4, 0x0, 1, 1⟩
def ADC_LANE_CAL_SUSPECT : Fld := ⟨0x41C20, 0x4, 0x0, 2, 1⟩
def ADC_LANE_CAL_FAULTS : Fld := ⟨0x41C20, 0x4, 0x0, 8, 8⟩
def ADC_LANE_CAL_AGE : Fld := ⟨0x41C20, 0x4, 0x0, 16, 16⟩
/-- The whole word of ADC_LANE_DRIFT. -/
def ADC_LANE_DRIFT : Fld := ⟨0x41C30, 0x4, 0x0, 0, 32⟩
def ADC_LANE_DRIFT_OFS_DRIFT : Fld := ⟨0x41C30, 0x4, 0x0, 0, 16⟩
def ADC_LANE_DRIFT_GAIN_DRIFT : Fld := ⟨0x41C30, 0x4, 0x0, 16, 16⟩
/-- The whole word of OXE_CTRL. -/
def OXE_CTRL : Fld := ⟨0x80000, 0x0, 0x0, 0, 32⟩
def OXE_CTRL_RUN : Fld := ⟨0x80000, 0x0, 0x0, 0, 1⟩
def OXE_CTRL_LOCK : Fld := ⟨0x80000, 0x0, 0x0, 31, 1⟩
/-- The whole word of OXE_STAT. -/
def OXE_STAT : Fld := ⟨0x80004, 0x0, 0x0, 0, 32⟩
def OXE_STAT_RUNNING : Fld := ⟨0x80004, 0x0, 0x0, 0, 1⟩
def OXE_STAT_CUR_CTX : Fld := ⟨0x80004, 0x0, 0x0, 1, 3⟩
def OXE_STAT_IDLE : Fld := ⟨0x80004, 0x0, 0x0, 4, 1⟩
def OXE_STAT_CRC_DONE : Fld := ⟨0x80004, 0x0, 0x0, 5, 1⟩
/-- The whole word of OXE_ERR. -/
def OXE_ERR : Fld := ⟨0x80008, 0x0, 0x0, 0, 32⟩
def OXE_ERR_STOP_REFUSED : Fld := ⟨0x80008, 0x0, 0x0, 0, 1⟩
def OXE_ERR_LOAD_REFUSED : Fld := ⟨0x80008, 0x0, 0x0, 1, 1⟩
def OXE_ERR_ECC_CORR : Fld := ⟨0x80008, 0x0, 0x0, 2, 1⟩
def OXE_ERR_ECC_UNCORR : Fld := ⟨0x80008, 0x0, 0x0, 3, 1⟩
def OXE_ERR_EVTQ_OVF : Fld := ⟨0x80008, 0x0, 0x0, 4, 1⟩
def OXE_ERR_CTX_FAULT : Fld := ⟨0x80008, 0x0, 0x0, 5, 1⟩
def OXE_ERR_FIRST : Fld := ⟨0x80008, 0x0, 0x0, 8, 4⟩
def OXE_ERR_CTX : Fld := ⟨0x80008, 0x0, 0x0, 12, 3⟩
/-- The whole word of OXE_PROG_CRC. -/
def OXE_PROG_CRC : Fld := ⟨0x8000C, 0x0, 0x0, 0, 32⟩
/-- The whole word of OXE_SAFE_EVT. -/
def OXE_SAFE_EVT : Fld := ⟨0x80010, 0x0, 0x0, 0, 32⟩
def OXE_SAFE_EVT_EVT : Fld := ⟨0x80010, 0x0, 0x0, 0, 8⟩
/-- The whole word of OXE_EVTQ. -/
def OXE_EVTQ : Fld := ⟨0x80014, 0x4, 0x0, 0, 32⟩
def OXE_EVTQ_CODE : Fld := ⟨0x80014, 0x4, 0x0, 0, 16⟩
def OXE_EVTQ_CTX : Fld := ⟨0x80014, 0x4, 0x0, 16, 3⟩
def OXE_EVTQ_VALID : Fld := ⟨0x80014, 0x4, 0x0, 31, 1⟩
/-- The whole word of OXE_CTX_CFG. -/
def OXE_CTX_CFG : Fld := ⟨0x80100, 0x20, 0x0, 0, 32⟩
def OXE_CTX_CFG_ENTRY : Fld := ⟨0x80100, 0x20, 0x0, 0, 13⟩
def OXE_CTX_CFG_EN : Fld := ⟨0x80100, 0x20, 0x0, 13, 1⟩
def OXE_CTX_CFG_BUDGET : Fld := ⟨0x80100, 0x20, 0x0, 16, 14⟩
/-- The whole word of OXE_CTX_TRIG. -/
def OXE_CTX_TRIG : Fld := ⟨0x80104, 0x20, 0x0, 0, 32⟩
def OXE_CTX_TRIG_SRC : Fld := ⟨0x80104, 0x20, 0x0, 0, 3⟩
def OXE_CTX_TRIG_SQ : Fld := ⟨0x80104, 0x20, 0x0, 3, 1⟩
def OXE_CTX_TRIG_ENTRY : Fld := ⟨0x80104, 0x20, 0x0, 4, 4⟩
def OXE_CTX_TRIG_PORT : Fld := ⟨0x80104, 0x20, 0x0, 8, 2⟩
def OXE_CTX_TRIG_DIVM1 : Fld := ⟨0x80104, 0x20, 0x0, 16, 8⟩
def OXE_CTX_TRIG_PHASE : Fld := ⟨0x80104, 0x20, 0x0, 24, 8⟩
/-- The whole word of OXE_CTX_TIMER. -/
def OXE_CTX_TIMER : Fld := ⟨0x80108, 0x20, 0x0, 0, 32⟩
def OXE_CTX_TIMER_PERIOD : Fld := ⟨0x80108, 0x20, 0x0, 0, 16⟩
def OXE_CTX_TIMER_OFFSET : Fld := ⟨0x80108, 0x20, 0x0, 16, 16⟩
/-- The whole word of OXE_CTX_DWIN. -/
def OXE_CTX_DWIN : Fld := ⟨0x8010C, 0x20, 0x0, 0, 32⟩
def OXE_CTX_DWIN_DBASE : Fld := ⟨0x8010C, 0x20, 0x0, 0, 11⟩
def OXE_CTX_DWIN_DSIZE : Fld := ⟨0x8010C, 0x20, 0x0, 16, 12⟩
/-- The whole word of OXE_CTX_STAT. -/
def OXE_CTX_STAT : Fld := ⟨0x80110, 0x20, 0x0, 0, 32⟩
def OXE_CTX_STAT_STATE : Fld := ⟨0x80110, 0x20, 0x0, 0, 3⟩
def OXE_CTX_STAT_WIN : Fld := ⟨0x80110, 0x20, 0x0, 3, 4⟩
def OXE_CTX_STAT_SAT : Fld := ⟨0x80110, 0x20, 0x0, 8, 1⟩
def OXE_CTX_STAT_INV : Fld := ⟨0x80110, 0x20, 0x0, 9, 1⟩
def OXE_CTX_STAT_SWP : Fld := ⟨0x80110, 0x20, 0x0, 10, 1⟩
def OXE_CTX_STAT_OVR : Fld := ⟨0x80110, 0x20, 0x0, 11, 1⟩
def OXE_CTX_STAT_CAUSE : Fld := ⟨0x80110, 0x20, 0x0, 16, 4⟩
def OXE_CTX_STAT_FAULTS : Fld := ⟨0x80110, 0x20, 0x0, 24, 8⟩
/-- The whole word of OXE_CTX_CYC. -/
def OXE_CTX_CYC : Fld := ⟨0x80114, 0x20, 0x0, 0, 32⟩
def OXE_CTX_CYC_LAST : Fld := ⟨0x80114, 0x20, 0x0, 0, 14⟩
def OXE_CTX_CYC_MAX : Fld := ⟨0x80114, 0x20, 0x0, 16, 14⟩
/-- The whole word of OXE_CTX_CNT. -/
def OXE_CTX_CNT : Fld := ⟨0x80118, 0x20, 0x0, 0, 32⟩
def OXE_CTX_CNT_ACT : Fld := ⟨0x80118, 0x20, 0x0, 0, 24⟩
def OXE_CTX_CNT_OVERRUNS : Fld := ⟨0x80118, 0x20, 0x0, 24, 8⟩
/-- The whole word of OXE_CTX_CTRL. -/
def OXE_CTX_CTRL : Fld := ⟨0x8011C, 0x20, 0x0, 0, 32⟩
def OXE_CTX_CTRL_SWTRIG : Fld := ⟨0x8011C, 0x20, 0x0, 0, 1⟩
def OXE_CTX_CTRL_RESTART : Fld := ⟨0x8011C, 0x20, 0x0, 1, 1⟩
def OXE_CTX_CTRL_CLR_FLAGS : Fld := ⟨0x8011C, 0x20, 0x0, 2, 1⟩
def OXE_CTX_CTRL_CLR_MAX : Fld := ⟨0x8011C, 0x20, 0x0, 3, 1⟩
/-- The whole word of OXE_PORT_CFG. -/
def OXE_PORT_CFG : Fld := ⟨0x80200, 0x20, 0x0, 0, 32⟩
def OXE_PORT_CFG_OWNER : Fld := ⟨0x80200, 0x20, 0x0, 0, 3⟩
/-- The whole word of OXE_PORT_OUT. -/
def OXE_PORT_OUT : Fld := ⟨0x80204, 0x20, 0x0, 0, 32⟩
/-- The whole word of OXE_PORT_DERATE. -/
def OXE_PORT_DERATE : Fld := ⟨0x80208, 0x20, 0x0, 0, 32⟩
/-- The whole word of OXE_PORT_OVR. -/
def OXE_PORT_OVR : Fld := ⟨0x8020C, 0x20, 0x0, 0, 32⟩
def OXE_PORT_OVR_MODE : Fld := ⟨0x8020C, 0x20, 0x0, 0, 2⟩
def OXE_PORT_OVR_RAMP_MS : Fld := ⟨0x8020C, 0x20, 0x0, 2, 6⟩
def OXE_PORT_OVR_ACTIVE : Fld := ⟨0x8020C, 0x20, 0x0, 8, 1⟩
def OXE_PORT_OVR_AT_ZERO : Fld := ⟨0x8020C, 0x20, 0x0, 9, 1⟩
/-- The whole word of OXE_PORT_CNT. -/
def OXE_PORT_CNT : Fld := ⟨0x80210, 0x20, 0x0, 0, 32⟩
def OXE_PORT_CNT_CLAMPS : Fld := ⟨0x80210, 0x20, 0x0, 0, 12⟩
def OXE_PORT_CNT_DISCARDED : Fld := ⟨0x80210, 0x20, 0x0, 12, 12⟩
def OXE_PORT_CNT_FOREIGN : Fld := ⟨0x80210, 0x20, 0x0, 24, 8⟩
/-- The whole word of OXE_PORT_WIN. -/
def OXE_PORT_WIN : Fld := ⟨0x80214, 0x20, 0x0, 0, 32⟩
def OXE_PORT_WIN_WIN : Fld := ⟨0x80214, 0x20, 0x0, 0, 4⟩
def OXE_PORT_WIN_CHANGES : Fld := ⟨0x80214, 0x20, 0x0, 16, 16⟩
/-- The whole word of OXE_GEN_CTRL. -/
def OXE_GEN_CTRL : Fld := ⟨0x80300, 0x0, 0x0, 0, 32⟩
def OXE_GEN_CTRL_SYNC : Fld := ⟨0x80300, 0x0, 0x0, 0, 1⟩
def OXE_GEN_CTRL_DIV : Fld := ⟨0x80300, 0x0, 0x0, 16, 16⟩
/-- The whole word of OXE_DDS_FTW. -/
def OXE_DDS_FTW : Fld := ⟨0x80304, 0x0, 0x0, 0, 32⟩
/-- The whole word of OXE_MS. -/
def OXE_MS : Fld := ⟨0x80400, 0x4, 0x0, 0, 32⟩
/-- The whole word of OXE_COR_FTW. -/
def OXE_COR_FTW : Fld := ⟨0x80500, 0x20, 0x0, 0, 32⟩
/-- The whole word of OXE_COR_CTRL. -/
def OXE_COR_CTRL : Fld := ⟨0x80504, 0x20, 0x0, 0, 32⟩
def OXE_COR_CTRL_CLR : Fld := ⟨0x80504, 0x20, 0x0, 0, 1⟩
def OXE_COR_CTRL_AUTO : Fld := ⟨0x80504, 0x20, 0x0, 1, 1⟩
def OXE_COR_CTRL_DONE : Fld := ⟨0x80504, 0x20, 0x0, 2, 1⟩
def OXE_COR_CTRL_NTARGET : Fld := ⟨0x80504, 0x20, 0x0, 8, 24⟩
/-- The whole word of OXE_COR_RES. -/
def OXE_COR_RES : Fld := ⟨0x80508, 0x20, 0x4, 0, 32⟩
/-- The whole word of OXE_CAP_STAT. -/
def OXE_CAP_STAT : Fld := ⟨0x80600, 0x0, 0x0, 0, 32⟩
def OXE_CAP_STAT_ACT : Fld := ⟨0x80600, 0x0, 0x0, 0, 1⟩
def OXE_CAP_STAT_FULL_A : Fld := ⟨0x80600, 0x0, 0x0, 1, 1⟩
def OXE_CAP_STAT_FULL_B : Fld := ⟨0x80600, 0x0, 0x0, 2, 1⟩
def OXE_CAP_STAT_FILL : Fld := ⟨0x80600, 0x0, 0x0, 4, 13⟩
/-- The whole word of OXE_CAP_OVF. -/
def OXE_CAP_OVF : Fld := ⟨0x80604, 0x0, 0x0, 0, 32⟩
/-- The whole word of STL_CTRL. -/
def STL_CTRL : Fld := ⟨0x100000, 0x0, 0x0, 0, 32⟩
def STL_CTRL_EN : Fld := ⟨0x100000, 0x0, 0x0, 0, 1⟩
def STL_CTRL_LOCK : Fld := ⟨0x100000, 0x0, 0x0, 31, 1⟩
/-- The whole word of STL_EVT. -/
def STL_EVT : Fld := ⟨0x100004, 0x0, 0x0, 0, 32⟩
def STL_EVT_PSCHG : Fld := ⟨0x100004, 0x0, 0x0, 0, 4⟩
def STL_EVT_REFUSED : Fld := ⟨0x100004, 0x0, 0x0, 4, 4⟩
def STL_EVT_RXLOST : Fld := ⟨0x100004, 0x0, 0x0, 8, 4⟩
def STL_EVT_HALTED : Fld := ⟨0x100004, 0x0, 0x0, 12, 4⟩
/-- The whole word of STL_P_CFG. -/
def STL_P_CFG : Fld := ⟨0x100100, 0x40, 0x0, 0, 32⟩
def STL_P_CFG_OFFSET : Fld := ⟨0x100100, 0x40, 0x0, 0, 7⟩
def STL_P_CFG_DIR : Fld := ⟨0x100100, 0x40, 0x0, 8, 1⟩
def STL_P_CFG_TYPE : Fld := ⟨0x100100, 0x40, 0x0, 9, 2⟩
/-- The whole word of STL_P_VHI. -/
def STL_P_VHI : Fld := ⟨0x100104, 0x40, 0x0, 0, 32⟩
/-- The whole word of STL_P_VLO. -/
def STL_P_VLO : Fld := ⟨0x100108, 0x40, 0x0, 0, 32⟩
/-- The whole word of STL_P_PLIM. -/
def STL_P_PLIM : Fld := ⟨0x10010C, 0x40, 0x0, 0, 32⟩
/-- The whole word of STL_P_HALT. -/
def STL_P_HALT : Fld := ⟨0x100110, 0x40, 0x0, 0, 32⟩
def STL_P_HALT_HALT : Fld := ⟨0x100110, 0x40, 0x0, 0, 1⟩
def STL_P_HALT_RELEASE : Fld := ⟨0x100110, 0x40, 0x0, 1, 1⟩
def STL_P_HALT_HALTED : Fld := ⟨0x100110, 0x40, 0x0, 2, 1⟩
def STL_P_HALT_SRC : Fld := ⟨0x100110, 0x40, 0x0, 3, 3⟩
def STL_P_HALT_RESYNC_PEND : Fld := ⟨0x100110, 0x40, 0x0, 6, 1⟩
/-- The whole word of STL_P_STAT. -/
def STL_P_STAT : Fld := ⟨0x100114, 0x40, 0x0, 0, 32⟩
def STL_P_STAT_ACTIVE : Fld := ⟨0x100114, 0x40, 0x0, 0, 1⟩
def STL_P_STAT_ENABLE : Fld := ⟨0x100114, 0x40, 0x0, 1, 1⟩
def STL_P_STAT_RX_OK : Fld := ⟨0x100114, 0x40, 0x0, 2, 1⟩
def STL_P_STAT_FOLLOWED : Fld := ⟨0x100114, 0x40, 0x0, 3, 1⟩
def STL_P_STAT_TX_SEQ : Fld := ⟨0x100114, 0x40, 0x0, 16, 16⟩
/-- The whole word of STL_P_CNT. -/
def STL_P_CNT : Fld := ⟨0x100118, 0x40, 0x0, 0, 32⟩
def STL_P_CNT_RX_CRC : Fld := ⟨0x100118, 0x40, 0x0, 0, 8⟩
def STL_P_CNT_RX_MISS : Fld := ⟨0x100118, 0x40, 0x0, 8, 8⟩
def STL_P_CNT_URGENT : Fld := ⟨0x100118, 0x40, 0x0, 16, 8⟩
def STL_P_CNT_URG_REPL : Fld := ⟨0x100118, 0x40, 0x0, 24, 8⟩
/-- The whole word of STL_P_RX. -/
def STL_P_RX : Fld := ⟨0x100120, 0x40, 0x4, 0, 32⟩
/-- The whole word of STL_RING_BASE. -/
def STL_RING_BASE : Fld := ⟨0x100400, 0x10, 0x0, 0, 32⟩
/-- The whole word of STL_RING_SIZE. -/
def STL_RING_SIZE : Fld := ⟨0x100404, 0x10, 0x0, 0, 32⟩
def STL_RING_SIZE_SIZE : Fld := ⟨0x100404, 0x10, 0x0, 0, 4⟩
/-- The whole word of STL_RING_WPTR. -/
def STL_RING_WPTR : Fld := ⟨0x100408, 0x10, 0x0, 0, 32⟩
def STL_RING_WPTR_WPTR : Fld := ⟨0x100408, 0x10, 0x0, 0, 18⟩
/-- The whole word of STL_RING_WRAP. -/
def STL_RING_WRAP : Fld := ⟨0x10040C, 0x10, 0x0, 0, 32⟩
def STL_RING_WRAP_WRAP : Fld := ⟨0x10040C, 0x10, 0x0, 0, 16⟩
/-- The whole word of STL_PSTATE. -/
def STL_PSTATE : Fld := ⟨0x100800, 0x10, 0x0, 0, 32⟩
def STL_PSTATE_STATE : Fld := ⟨0x100800, 0x10, 0x0, 0, 4⟩
def STL_PSTATE_PREV : Fld := ⟨0x100800, 0x10, 0x0, 4, 4⟩
def STL_PSTATE_REFUSED : Fld := ⟨0x100800, 0x10, 0x0, 8, 1⟩
def STL_PSTATE_REF_REQ : Fld := ⟨0x100800, 0x10, 0x0, 9, 4⟩
def STL_PSTATE_CAUSE : Fld := ⟨0x100800, 0x10, 0x0, 16, 4⟩
def STL_PSTATE_CHANGES : Fld := ⟨0x100800, 0x10, 0x0, 20, 12⟩
/-- The whole word of STL_PSREQ. -/
def STL_PSREQ : Fld := ⟨0x100804, 0x10, 0x0, 0, 32⟩
def STL_PSREQ_REQ : Fld := ⟨0x100804, 0x10, 0x0, 0, 4⟩
/-- The whole word of STL_PSAFE. -/
def STL_PSAFE : Fld := ⟨0x100808, 0x10, 0x0, 0, 32⟩
def STL_PSAFE_PERMIT : Fld := ⟨0x100808, 0x10, 0x0, 0, 1⟩
def STL_PSAFE_CC_PASS : Fld := ⟨0x100808, 0x10, 0x0, 1, 1⟩
def STL_PSAFE_UNLOCK_OK : Fld := ⟨0x100808, 0x10, 0x0, 2, 1⟩
def STL_PSAFE_FAULT_ACT : Fld := ⟨0x100808, 0x10, 0x0, 3, 1⟩
def STL_PSAFE_CAUSE : Fld := ⟨0x100808, 0x10, 0x0, 8, 4⟩
/-- The whole word of PIL_CTRL. -/
def PIL_CTRL : Fld := ⟨0x120000, 0x0, 0x0, 0, 32⟩
def PIL_CTRL_LOCK : Fld := ⟨0x120000, 0x0, 0x0, 31, 1⟩
/-- The whole word of PIL_P_CTRL. -/
def PIL_P_CTRL : Fld := ⟨0x120010, 0x10, 0x0, 0, 32⟩
def PIL_P_CTRL_MODE : Fld := ⟨0x120010, 0x10, 0x0, 0, 2⟩
/-- The whole word of PIL_P_MEAS. -/
def PIL_P_MEAS : Fld := ⟨0x120014, 0x10, 0x0, 0, 32⟩
def PIL_P_MEAS_HIGH : Fld := ⟨0x120014, 0x10, 0x0, 0, 16⟩
def PIL_P_MEAS_LOW : Fld := ⟨0x120014, 0x10, 0x0, 16, 16⟩
/-- The whole word of PIL_P_STAT. -/
def PIL_P_STAT : Fld := ⟨0x120018, 0x10, 0x0, 0, 32⟩
def PIL_P_STAT_STATE : Fld := ⟨0x120018, 0x10, 0x0, 0, 3⟩
def PIL_P_STAT_DIODE_FAIL : Fld := ⟨0x120018, 0x10, 0x0, 3, 1⟩
def PIL_P_STAT_CHG : Fld := ⟨0x120018, 0x10, 0x0, 4, 1⟩
def PIL_P_STAT_HIZ : Fld := ⟨0x120018, 0x10, 0x0, 5, 1⟩
/-- The whole word of T1S_CTRL. -/
def T1S_CTRL : Fld := ⟨0xF0000, 0x0, 0x0, 0, 32⟩
def T1S_CTRL_LOCK : Fld := ⟨0xF0000, 0x0, 0x0, 31, 1⟩
/-- The whole word of T1S_P_CTRL. -/
def T1S_P_CTRL : Fld := ⟨0xF0040, 0x40, 0x0, 0, 32⟩
def T1S_P_CTRL_EN : Fld := ⟨0xF0040, 0x40, 0x0, 0, 1⟩
def T1S_P_CTRL_LOOPBACK : Fld := ⟨0xF0040, 0x40, 0x0, 1, 1⟩
/-- The whole word of T1S_P_STAT. -/
def T1S_P_STAT : Fld := ⟨0xF0044, 0x40, 0x0, 0, 32⟩
def T1S_P_STAT_LINK : Fld := ⟨0xF0044, 0x40, 0x0, 0, 1⟩
def T1S_P_STAT_TX_HIZ : Fld := ⟨0xF0044, 0x40, 0x0, 1, 1⟩
def T1S_P_STAT_JABBER : Fld := ⟨0xF0044, 0x40, 0x0, 2, 1⟩
def T1S_P_STAT_RX_ERR : Fld := ⟨0xF0044, 0x40, 0x0, 16, 8⟩
def T1S_P_STAT_RX_DROP : Fld := ⟨0xF0044, 0x40, 0x0, 24, 8⟩
/-- The whole word of T1S_P_MAC0. -/
def T1S_P_MAC0 : Fld := ⟨0xF0048, 0x40, 0x0, 0, 32⟩
/-- The whole word of T1S_P_MAC1. -/
def T1S_P_MAC1 : Fld := ⟨0xF004C, 0x40, 0x0, 0, 32⟩
def T1S_P_MAC1_MAC_HI : Fld := ⟨0xF004C, 0x40, 0x0, 0, 16⟩
/-- The whole word of T1S_P_TXBASE. -/
def T1S_P_TXBASE : Fld := ⟨0xF0050, 0x40, 0x0, 0, 32⟩
/-- The whole word of T1S_P_RXBASE. -/
def T1S_P_RXBASE : Fld := ⟨0xF0054, 0x40, 0x0, 0, 32⟩
/-- The whole word of T1S_P_LOG2N. -/
def T1S_P_LOG2N : Fld := ⟨0xF0058, 0x40, 0x0, 0, 32⟩
def T1S_P_LOG2N_LOG2N : Fld := ⟨0xF0058, 0x40, 0x0, 0, 3⟩
/-- The whole word of T1S_P_HEADS. -/
def T1S_P_HEADS : Fld := ⟨0xF005C, 0x40, 0x0, 0, 32⟩
def T1S_P_HEADS_TXHEAD : Fld := ⟨0xF005C, 0x40, 0x0, 0, 8⟩
def T1S_P_HEADS_RXHEAD : Fld := ⟨0xF005C, 0x40, 0x0, 8, 8⟩
/-- The whole word of PLC_CTRL. -/
def PLC_CTRL : Fld := ⟨0xE0000, 0x0, 0x0, 0, 32⟩
def PLC_CTRL_RUN : Fld := ⟨0xE0000, 0x0, 0x0, 0, 1⟩
def PLC_CTRL_LOAD : Fld := ⟨0xE0000, 0x0, 0x0, 1, 1⟩
def PLC_CTRL_LOCK : Fld := ⟨0xE0000, 0x0, 0x0, 31, 1⟩
/-- The whole word of PLC_LOAD. -/
def PLC_LOAD : Fld := ⟨0xE0004, 0x0, 0x0, 0, 32⟩
/-- The whole word of PLC_LOAD_STAT. -/
def PLC_LOAD_STAT : Fld := ⟨0xE0008, 0x0, 0x0, 0, 32⟩
def PLC_LOAD_STAT_STATUS : Fld := ⟨0xE0008, 0x0, 0x0, 0, 2⟩
def PLC_LOAD_STAT_IMG_OK : Fld := ⟨0xE0008, 0x0, 0x0, 2, 1⟩
/-- The whole word of PLC_M_CTRL. -/
def PLC_M_CTRL : Fld := ⟨0xE0100, 0x40, 0x0, 0, 32⟩
def PLC_M_CTRL_EN : Fld := ⟨0xE0100, 0x40, 0x0, 0, 1⟩
def PLC_M_CTRL_SLAC_EN : Fld := ⟨0xE0100, 0x40, 0x0, 1, 1⟩
def PLC_M_CTRL_ATT : Fld := ⟨0xE0100, 0x40, 0x0, 2, 5⟩
def PLC_M_CTRL_BLANK_K : Fld := ⟨0xE0100, 0x40, 0x0, 8, 4⟩
def PLC_M_CTRL_BLANK_EXT : Fld := ⟨0xE0100, 0x40, 0x0, 12, 4⟩
/-- The whole word of PLC_M_STAT. -/
def PLC_M_STAT : Fld := ⟨0xE0104, 0x40, 0x0, 0, 32⟩
def PLC_M_STAT_MATCHED : Fld := ⟨0xE0104, 0x40, 0x0, 0, 1⟩
def PLC_M_STAT_TX_OFF : Fld := ⟨0xE0104, 0x40, 0x0, 1, 1⟩
def PLC_M_STAT_MODE : Fld := ⟨0xE0104, 0x40, 0x0, 2, 2⟩
def PLC_M_STAT_ENGINE_FAULT : Fld := ⟨0xE0104, 0x40, 0x0, 4, 1⟩
/-- The whole word of PLC_M_CNT. -/
def PLC_M_CNT : Fld := ⟨0xE0108, 0x40, 0x0, 0, 32⟩
def PLC_M_CNT_IH_FRAMES : Fld := ⟨0xE0108, 0x40, 0x0, 0, 16⟩
def PLC_M_CNT_BLANKED : Fld := ⟨0xE0108, 0x40, 0x0, 16, 16⟩
/-- The whole word of PLC_M_SLAC. -/
def PLC_M_SLAC : Fld := ⟨0xE010C, 0x40, 0x0, 0, 32⟩
def PLC_M_SLAC_RESULT : Fld := ⟨0xE010C, 0x40, 0x0, 0, 2⟩
def PLC_M_SLAC_MEAN : Fld := ⟨0xE010C, 0x40, 0x0, 8, 8⟩
def PLC_M_SLAC_GAP : Fld := ⟨0xE010C, 0x40, 0x0, 16, 8⟩
def PLC_M_SLAC_WINNER : Fld := ⟨0xE010C, 0x40, 0x0, 24, 5⟩
/-- The whole word of PLC_M_TXBASE. -/
def PLC_M_TXBASE : Fld := ⟨0xE0120, 0x40, 0x0, 0, 32⟩
/-- The whole word of PLC_M_RXBASE. -/
def PLC_M_RXBASE : Fld := ⟨0xE0124, 0x40, 0x0, 0, 32⟩
/-- The whole word of PLC_M_LOG2N. -/
def PLC_M_LOG2N : Fld := ⟨0xE0128, 0x40, 0x0, 0, 32⟩
def PLC_M_LOG2N_LOG2N : Fld := ⟨0xE0128, 0x40, 0x0, 0, 3⟩
/-- The whole word of PLC_M_HEADS. -/
def PLC_M_HEADS : Fld := ⟨0xE012C, 0x40, 0x0, 0, 32⟩
def PLC_M_HEADS_TXHEAD : Fld := ⟨0xE012C, 0x40, 0x0, 0, 8⟩
def PLC_M_HEADS_RXHEAD : Fld := ⟨0xE012C, 0x40, 0x0, 8, 8⟩
/-- The whole word of HLM_TXBASE. -/
def HLM_TXBASE : Fld := ⟨0x240020, 0x0, 0x0, 0, 32⟩
/-- The whole word of HLM_RXBASE. -/
def HLM_RXBASE : Fld := ⟨0x240024, 0x0, 0x0, 0, 32⟩
/-- The whole word of HLM_LOG2N. -/
def HLM_LOG2N : Fld := ⟨0x240028, 0x0, 0x0, 0, 32⟩
def HLM_LOG2N_LOG2N : Fld := ⟨0x240028, 0x0, 0x0, 0, 3⟩
/-- The whole word of HLM_HEADS. -/
def HLM_HEADS : Fld := ⟨0x24002C, 0x0, 0x0, 0, 32⟩
def HLM_HEADS_TXHEAD : Fld := ⟨0x24002C, 0x0, 0x0, 0, 8⟩
def HLM_HEADS_RXHEAD : Fld := ⟨0x24002C, 0x0, 0x0, 8, 8⟩
/-- The whole word of HLM_CTRL. -/
def HLM_CTRL : Fld := ⟨0x240000, 0x0, 0x0, 0, 32⟩
def HLM_CTRL_EN : Fld := ⟨0x240000, 0x0, 0x0, 0, 1⟩
def HLM_CTRL_LEVEL : Fld := ⟨0x240000, 0x0, 0x0, 1, 5⟩
def HLM_CTRL_RETRY_MAX : Fld := ⟨0x240000, 0x0, 0x0, 6, 3⟩
def HLM_CTRL_BCAST_REP : Fld := ⟨0x240000, 0x0, 0x0, 9, 3⟩
def HLM_CTRL_LOCK : Fld := ⟨0x240000, 0x0, 0x0, 31, 1⟩
/-- The whole word of HLM_STAT. -/
def HLM_STAT : Fld := ⟨0x240004, 0x0, 0x0, 0, 32⟩
def HLM_STAT_UP : Fld := ⟨0x240004, 0x0, 0x0, 0, 1⟩
def HLM_STAT_AC : Fld := ⟨0x240004, 0x0, 0x0, 1, 1⟩
def HLM_STAT_TX_OFF : Fld := ⟨0x240004, 0x0, 0x0, 2, 1⟩
/-- The whole word of HLM_CNT. -/
def HLM_CNT : Fld := ⟨0x240008, 0x0, 0x0, 0, 32⟩
def HLM_CNT_IH_FRAMES : Fld := ⟨0x240008, 0x0, 0x0, 0, 16⟩
def HLM_CNT_DROPPED : Fld := ⟨0x240008, 0x0, 0x0, 16, 16⟩
/-- The whole word of HLM_EVT. -/
def HLM_EVT : Fld := ⟨0x24000C, 0x0, 0x0, 0, 32⟩
def HLM_EVT_MODE_CHG : Fld := ⟨0x24000C, 0x0, 0x0, 0, 1⟩
def HLM_EVT_DROP : Fld := ⟨0x24000C, 0x0, 0x0, 1, 1⟩
def HLM_EVT_NODE_LOST : Fld := ⟨0x24000C, 0x0, 0x0, 2, 1⟩
/-- The whole word of HLM_NODE. -/
def HLM_NODE : Fld := ⟨0x240104, 0x4, 0x0, 0, 32⟩
def HLM_NODE_MODE : Fld := ⟨0x240104, 0x4, 0x0, 0, 2⟩
def HLM_NODE_PRESENT : Fld := ⟨0x240104, 0x4, 0x0, 2, 1⟩
def HLM_NODE_IH_RUN : Fld := ⟨0x240104, 0x4, 0x0, 3, 3⟩
def HLM_NODE_FAIL_RUN : Fld := ⟨0x240104, 0x4, 0x0, 6, 2⟩
def HLM_NODE_QUIET : Fld := ⟨0x240104, 0x4, 0x0, 8, 16⟩
/-- The whole word of CAN_CTRL. -/
def CAN_CTRL : Fld := ⟨0xD0000, 0x4000, 0x0, 0, 32⟩
def CAN_CTRL_INIT : Fld := ⟨0xD0000, 0x4000, 0x0, 0, 1⟩
def CAN_CTRL_LISTEN : Fld := ⟨0xD0000, 0x4000, 0x0, 1, 1⟩
def CAN_CTRL_FD_EN : Fld := ⟨0xD0000, 0x4000, 0x0, 2, 1⟩
def CAN_CTRL_BRS_EN : Fld := ⟨0xD0000, 0x4000, 0x0, 3, 1⟩
def CAN_CTRL_RETRY : Fld := ⟨0xD0000, 0x4000, 0x0, 4, 4⟩
def CAN_CTRL_TDC_EN : Fld := ⟨0xD0000, 0x4000, 0x0, 8, 1⟩
/-- The whole word of CAN_STAT. -/
def CAN_STAT : Fld := ⟨0xD0004, 0x4000, 0x0, 0, 32⟩
def CAN_STAT_TEC : Fld := ⟨0xD0004, 0x4000, 0x0, 0, 8⟩
def CAN_STAT_REC : Fld := ⟨0xD0004, 0x4000, 0x0, 8, 7⟩
def CAN_STAT_RX_PASSIVE : Fld := ⟨0xD0004, 0x4000, 0x0, 15, 1⟩
def CAN_STAT_STATE : Fld := ⟨0xD0004, 0x4000, 0x0, 16, 2⟩
def CAN_STAT_LISTEN_HW : Fld := ⟨0xD0004, 0x4000, 0x0, 18, 1⟩
def CAN_STAT_SYNC : Fld := ⟨0xD0004, 0x4000, 0x0, 19, 1⟩
def CAN_STAT_ERR_NOM : Fld := ⟨0xD0004, 0x4000, 0x0, 20, 3⟩
def CAN_STAT_ERR_DATA : Fld := ⟨0xD0004, 0x4000, 0x0, 23, 3⟩
/-- The whole word of CAN_EVT. -/
def CAN_EVT : Fld := ⟨0xD0008, 0x4000, 0x0, 0, 32⟩
def CAN_EVT_Q0_NEW : Fld := ⟨0xD0008, 0x4000, 0x0, 0, 1⟩
def CAN_EVT_Q0_LEVEL : Fld := ⟨0xD0008, 0x4000, 0x0, 1, 1⟩
def CAN_EVT_Q0_LOST : Fld := ⟨0xD0008, 0x4000, 0x0, 2, 1⟩
def CAN_EVT_Q1_NEW : Fld := ⟨0xD0008, 0x4000, 0x0, 3, 1⟩
def CAN_EVT_Q1_LEVEL : Fld := ⟨0xD0008, 0x4000, 0x0, 4, 1⟩
def CAN_EVT_Q1_LOST : Fld := ⟨0xD0008, 0x4000, 0x0, 5, 1⟩
def CAN_EVT_SLOT_NEW : Fld := ⟨0xD0008, 0x4000, 0x0, 6, 1⟩
def CAN_EVT_SLOT_OVR : Fld := ⟨0xD0008, 0x4000, 0x0, 7, 1⟩
def CAN_EVT_TX_SENT : Fld := ⟨0xD0008, 0x4000, 0x0, 8, 1⟩
def CAN_EVT_TX_DROP : Fld := ⟨0xD0008, 0x4000, 0x0, 9, 1⟩
def CAN_EVT_CLASH_TX : Fld := ⟨0xD0008, 0x4000, 0x0, 10, 1⟩
def CAN_EVT_CLASH_RX : Fld := ⟨0xD0008, 0x4000, 0x0, 11, 1⟩
def CAN_EVT_EPASS : Fld := ⟨0xD0008, 0x4000, 0x0, 12, 1⟩
def CAN_EVT_BUS_OFF : Fld := ⟨0xD0008, 0x4000, 0x0, 13, 1⟩
def CAN_EVT_ABD_DONE : Fld := ⟨0xD0008, 0x4000, 0x0, 14, 1⟩
def CAN_EVT_ABD_FAIL : Fld := ⟨0xD0008, 0x4000, 0x0, 15, 1⟩
def CAN_EVT_REF_MISS : Fld := ⟨0xD0008, 0x4000, 0x0, 16, 1⟩
def CAN_EVT_TX_NOCLAIM : Fld := ⟨0xD0008, 0x4000, 0x0, 17, 1⟩
def CAN_EVT_ECC_CORR : Fld := ⟨0xD0008, 0x4000, 0x0, 18, 1⟩
def CAN_EVT_ECC_UNCORR : Fld := ⟨0xD0008, 0x4000, 0x0, 19, 1⟩
def CAN_EVT_BAD_TIMING : Fld := ⟨0xD0008, 0x4000, 0x0, 20, 1⟩
/-- The whole word of CAN_IEN. -/
def CAN_IEN : Fld := ⟨0xD000C, 0x4000, 0x0, 0, 32⟩
def CAN_IEN_Q0_NEW : Fld := ⟨0xD000C, 0x4000, 0x0, 0, 1⟩
def CAN_IEN_Q0_LEVEL : Fld := ⟨0xD000C, 0x4000, 0x0, 1, 1⟩
def CAN_IEN_Q0_LOST : Fld := ⟨0xD000C, 0x4000, 0x0, 2, 1⟩
def CAN_IEN_Q1_NEW : Fld := ⟨0xD000C, 0x4000, 0x0, 3, 1⟩
def CAN_IEN_Q1_LEVEL : Fld := ⟨0xD000C, 0x4000, 0x0, 4, 1⟩
def CAN_IEN_Q1_LOST : Fld := ⟨0xD000C, 0x4000, 0x0, 5, 1⟩
def CAN_IEN_SLOT_NEW : Fld := ⟨0xD000C, 0x4000, 0x0, 6, 1⟩
def CAN_IEN_SLOT_OVR : Fld := ⟨0xD000C, 0x4000, 0x0, 7, 1⟩
def CAN_IEN_TX_SENT : Fld := ⟨0xD000C, 0x4000, 0x0, 8, 1⟩
def CAN_IEN_TX_DROP : Fld := ⟨0xD000C, 0x4000, 0x0, 9, 1⟩
def CAN_IEN_CLASH_TX : Fld := ⟨0xD000C, 0x4000, 0x0, 10, 1⟩
def CAN_IEN_CLASH_RX : Fld := ⟨0xD000C, 0x4000, 0x0, 11, 1⟩
def CAN_IEN_EPASS : Fld := ⟨0xD000C, 0x4000, 0x0, 12, 1⟩
def CAN_IEN_BUS_OFF : Fld := ⟨0xD000C, 0x4000, 0x0, 13, 1⟩
def CAN_IEN_ABD_DONE : Fld := ⟨0xD000C, 0x4000, 0x0, 14, 1⟩
def CAN_IEN_ABD_FAIL : Fld := ⟨0xD000C, 0x4000, 0x0, 15, 1⟩
def CAN_IEN_REF_MISS : Fld := ⟨0xD000C, 0x4000, 0x0, 16, 1⟩
def CAN_IEN_TX_NOCLAIM : Fld := ⟨0xD000C, 0x4000, 0x0, 17, 1⟩
def CAN_IEN_ECC_CORR : Fld := ⟨0xD000C, 0x4000, 0x0, 18, 1⟩
def CAN_IEN_ECC_UNCORR : Fld := ⟨0xD000C, 0x4000, 0x0, 19, 1⟩
def CAN_IEN_BAD_TIMING : Fld := ⟨0xD000C, 0x4000, 0x0, 20, 1⟩
/-- The whole word of CAN_TIM_NOM. -/
def CAN_TIM_NOM : Fld := ⟨0xD0010, 0x4000, 0x0, 0, 32⟩
def CAN_TIM_NOM_TSEG1 : Fld := ⟨0xD0010, 0x4000, 0x0, 0, 8⟩
def CAN_TIM_NOM_TSEG2 : Fld := ⟨0xD0010, 0x4000, 0x0, 8, 7⟩
def CAN_TIM_NOM_SJW : Fld := ⟨0xD0010, 0x4000, 0x0, 16, 7⟩
def CAN_TIM_NOM_BRP : Fld := ⟨0xD0010, 0x4000, 0x0, 24, 5⟩
/-- The whole word of CAN_TIM_DATA. -/
def CAN_TIM_DATA : Fld := ⟨0xD0014, 0x4000, 0x0, 0, 32⟩
def CAN_TIM_DATA_DTSEG1 : Fld := ⟨0xD0014, 0x4000, 0x0, 0, 5⟩
def CAN_TIM_DATA_DTSEG2 : Fld := ⟨0xD0014, 0x4000, 0x0, 8, 4⟩
def CAN_TIM_DATA_DSJW : Fld := ⟨0xD0014, 0x4000, 0x0, 16, 4⟩
def CAN_TIM_DATA_DBRP : Fld := ⟨0xD0014, 0x4000, 0x0, 24, 5⟩
/-- The whole word of CAN_SIEVE. -/
def CAN_SIEVE : Fld := ⟨0xD0018, 0x4000, 0x0, 0, 32⟩
def CAN_SIEVE_UNMATCHED : Fld := ⟨0xD0018, 0x4000, 0x0, 0, 2⟩
def CAN_SIEVE_NO_REMOTE : Fld := ⟨0xD0018, 0x4000, 0x0, 2, 1⟩
def CAN_SIEVE_CLASH_N : Fld := ⟨0xD0018, 0x4000, 0x0, 4, 4⟩
def CAN_SIEVE_NFLT : Fld := ⟨0xD0018, 0x4000, 0x0, 8, 8⟩
/-- The whole word of CAN_Q_CFG. -/
def CAN_Q_CFG : Fld := ⟨0xD0020, 0x4000, 0x10, 0, 32⟩
def CAN_Q_CFG_LEVEL : Fld := ⟨0xD0020, 0x4000, 0x10, 0, 7⟩
def CAN_Q_CFG_KEEP_NEW : Fld := ⟨0xD0020, 0x4000, 0x10, 7, 1⟩
/-- The whole word of CAN_Q_STAT. -/
def CAN_Q_STAT : Fld := ⟨0xD0024, 0x4000, 0x10, 0, 32⟩
def CAN_Q_STAT_FILL : Fld := ⟨0xD0024, 0x4000, 0x10, 0, 7⟩
def CAN_Q_STAT_FULL : Fld := ⟨0xD0024, 0x4000, 0x10, 7, 1⟩
def CAN_Q_STAT_HEAD : Fld := ⟨0xD0024, 0x4000, 0x10, 8, 6⟩
def CAN_Q_STAT_TAIL : Fld := ⟨0xD0024, 0x4000, 0x10, 16, 6⟩
def CAN_Q_STAT_LOST : Fld := ⟨0xD0024, 0x4000, 0x10, 24, 8⟩
/-- The whole word of CAN_Q_REL. -/
def CAN_Q_REL : Fld := ⟨0xD0028, 0x4000, 0x10, 0, 32⟩
def CAN_Q_REL_LAST : Fld := ⟨0xD0028, 0x4000, 0x10, 0, 6⟩
/-- The whole word of CAN_SLOT_NEW. -/
def CAN_SLOT_NEW : Fld := ⟨0xD0040, 0x4000, 0x0, 0, 32⟩
/-- The whole word of CAN_TX_PEND. -/
def CAN_TX_PEND : Fld := ⟨0xD0050, 0x4000, 0x0, 0, 32⟩
/-- The whole word of CAN_TX_ABORT. -/
def CAN_TX_ABORT : Fld := ⟨0xD0054, 0x4000, 0x0, 0, 32⟩
/-- The whole word of CAN_TX_SENT. -/
def CAN_TX_SENT : Fld := ⟨0xD0058, 0x4000, 0x0, 0, 32⟩
/-- The whole word of CAN_TX_DROP. -/
def CAN_TX_DROP : Fld := ⟨0xD005C, 0x4000, 0x0, 0, 32⟩
/-- The whole word of CAN_CLASH_TX. -/
def CAN_CLASH_TX : Fld := ⟨0xD0060, 0x4000, 0x0, 0, 32⟩
def CAN_CLASH_TX_ID : Fld := ⟨0xD0060, 0x4000, 0x0, 0, 29⟩
def CAN_CLASH_TX_XTD : Fld := ⟨0xD0060, 0x4000, 0x0, 29, 1⟩
/-- The whole word of CAN_CLASH_RX. -/
def CAN_CLASH_RX : Fld := ⟨0xD0064, 0x4000, 0x0, 0, 32⟩
def CAN_CLASH_RX_ELEM : Fld := ⟨0xD0064, 0x4000, 0x0, 0, 7⟩
def CAN_CLASH_RX_POS : Fld := ⟨0xD0064, 0x4000, 0x0, 8, 9⟩
/-- The whole word of CAN_CLASH_RXID. -/
def CAN_CLASH_RXID : Fld := ⟨0xD0068, 0x4000, 0x0, 0, 32⟩
def CAN_CLASH_RXID_ID : Fld := ⟨0xD0068, 0x4000, 0x0, 0, 29⟩
def CAN_CLASH_RXID_XTD : Fld := ⟨0xD0068, 0x4000, 0x0, 29, 1⟩
/-- The whole word of CAN_REF_CFG. -/
def CAN_REF_CFG : Fld := ⟨0xD0070, 0x4000, 0x0, 0, 32⟩
def CAN_REF_CFG_EN : Fld := ⟨0xD0070, 0x4000, 0x0, 0, 1⟩
def CAN_REF_CFG_XTD : Fld := ⟨0xD0070, 0x4000, 0x0, 1, 1⟩
def CAN_REF_CFG_PERIOD : Fld := ⟨0xD0070, 0x4000, 0x0, 2, 16⟩
def CAN_REF_CFG_CYCLE : Fld := ⟨0xD0070, 0x4000, 0x0, 24, 6⟩
/-- The whole word of CAN_REF_TS. -/
def CAN_REF_TS : Fld := ⟨0xD0074, 0x4000, 0x0, 0, 32⟩
/-- The whole word of CAN_REF_ID. -/
def CAN_REF_ID : Fld := ⟨0xD0078, 0x4000, 0x0, 0, 32⟩
def CAN_REF_ID_REF_ID : Fld := ⟨0xD0078, 0x4000, 0x0, 0, 29⟩
/-- The whole word of CAN_ABD_CTRL. -/
def CAN_ABD_CTRL : Fld := ⟨0xD0080, 0x4000, 0x0, 0, 32⟩
def CAN_ABD_CTRL_GO : Fld := ⟨0xD0080, 0x4000, 0x0, 0, 1⟩
def CAN_ABD_CTRL_NCAND : Fld := ⟨0xD0080, 0x4000, 0x0, 1, 3⟩
def CAN_ABD_CTRL_DWELL : Fld := ⟨0xD0080, 0x4000, 0x0, 8, 8⟩
def CAN_ABD_CTRL_NGOOD : Fld := ⟨0xD0080, 0x4000, 0x0, 16, 4⟩
def CAN_ABD_CTRL_LOOP : Fld := ⟨0xD0080, 0x4000, 0x0, 20, 1⟩
/-- The whole word of CAN_ABD_STAT. -/
def CAN_ABD_STAT : Fld := ⟨0xD0084, 0x4000, 0x0, 0, 32⟩
def CAN_ABD_STAT_BUSY : Fld := ⟨0xD0084, 0x4000, 0x0, 0, 1⟩
def CAN_ABD_STAT_INDEX : Fld := ⟨0xD0084, 0x4000, 0x0, 1, 3⟩
def CAN_ABD_STAT_FOUND : Fld := ⟨0xD0084, 0x4000, 0x0, 4, 1⟩
def CAN_ABD_STAT_PASSES : Fld := ⟨0xD0084, 0x4000, 0x0, 8, 8⟩
/-- The whole word of CAN_ABD_CAND. -/
def CAN_ABD_CAND : Fld := ⟨0xD00A0, 0x4000, 0x4, 0, 32⟩
/-- The whole word of TSU_CTRL. -/
def TSU_CTRL : Fld := ⟨0x130000, 0x0, 0x0, 0, 32⟩
def TSU_CTRL_SEL : Fld := ⟨0x130000, 0x0, 0x0, 0, 1⟩
def TSU_CTRL_AUTO : Fld := ⟨0x130000, 0x0, 0x0, 1, 1⟩
def TSU_CTRL_LOCK : Fld := ⟨0x130000, 0x0, 0x0, 31, 1⟩
/-- The whole word of TSU_STAT. -/
def TSU_STAT : Fld := ⟨0x130004, 0x0, 0x0, 0, 32⟩
def TSU_STAT_SRC : Fld := ⟨0x130004, 0x0, 0x0, 0, 3⟩
def TSU_STAT_SLEWING : Fld := ⟨0x130004, 0x0, 0x0, 3, 1⟩
def TSU_STAT_VALID : Fld := ⟨0x130004, 0x0, 0x0, 4, 2⟩
def TSU_STAT_XSYNC_OK : Fld := ⟨0x130004, 0x0, 0x0, 6, 1⟩
/-- The whole word of TSU_EVT. -/
def TSU_EVT : Fld := ⟨0x130008, 0x0, 0x0, 0, 32⟩
def TSU_EVT_WRAP : Fld := ⟨0x130008, 0x0, 0x0, 0, 1⟩
def TSU_EVT_SRC_CHG : Fld := ⟨0x130008, 0x0, 0x0, 1, 1⟩
def TSU_EVT_STEP_HELD : Fld := ⟨0x130008, 0x0, 0x0, 2, 1⟩
def TSU_EVT_SEL_REFUSED : Fld := ⟨0x130008, 0x0, 0x0, 3, 1⟩
def TSU_EVT_EPOCH_STEP : Fld := ⟨0x130008, 0x0, 0x0, 4, 1⟩
def TSU_EVT_XSYNC : Fld := ⟨0x130008, 0x0, 0x0, 5, 1⟩
def TSU_EVT_PO_MISSED : Fld := ⟨0x130008, 0x0, 0x0, 6, 1⟩
def TSU_EVT_CAP : Fld := ⟨0x130008, 0x0, 0x0, 7, 1⟩
/-- The whole word of TSU_NS. -/
def TSU_NS : Fld := ⟨0x130010, 0x0, 0x0, 0, 32⟩
/-- The whole word of TSU_TALLY. -/
def TSU_TALLY : Fld := ⟨0x130014, 0x0, 0x0, 0, 32⟩
def TSU_TALLY_TALLY : Fld := ⟨0x130014, 0x0, 0x0, 0, 16⟩
/-- The whole word of TSU_EPOCH. -/
def TSU_EPOCH : Fld := ⟨0x130018, 0x4, 0x0, 0, 32⟩
/-- The whole word of TSU_TICK. -/
def TSU_TICK : Fld := ⟨0x130020, 0x0, 0x0, 0, 32⟩
/-- The whole word of TSU_GRID. -/
def TSU_GRID : Fld := ⟨0x130024, 0x0, 0x0, 0, 32⟩
def TSU_GRID_GRID : Fld := ⟨0x130024, 0x0, 0x0, 0, 4⟩
/-- The whole word of TSU_SERVO. -/
def TSU_SERVO : Fld := ⟨0x130030, 0x0, 0x0, 0, 32⟩
def TSU_SERVO_SLEW_MAX : Fld := ⟨0x130030, 0x0, 0x0, 0, 10⟩
def TSU_SERVO_TAU : Fld := ⟨0x130030, 0x0, 0x0, 10, 6⟩
/-- The whole word of TSU_HOLD. -/
def TSU_HOLD : Fld := ⟨0x130034, 0x0, 0x0, 0, 32⟩
def TSU_HOLD_HOLDOVER : Fld := ⟨0x130034, 0x0, 0x0, 0, 16⟩
def TSU_HOLD_DOM_TMO : Fld := ⟨0x130034, 0x0, 0x0, 16, 16⟩
/-- The whole word of TSU_APPLIED. -/
def TSU_APPLIED : Fld := ⟨0x130038, 0x0, 0x0, 0, 32⟩
/-- The whole word of TSU_TCOMP. -/
def TSU_TCOMP : Fld := ⟨0x13003C, 0x0, 0x0, 0, 32⟩
/-- The whole word of TSU_UTC. -/
def TSU_UTC : Fld := ⟨0x130040, 0x0, 0x0, 0, 32⟩
def TSU_UTC_OFS : Fld := ⟨0x130040, 0x0, 0x0, 0, 16⟩
/-- The whole word of TSU_DOM_OFS. -/
def TSU_DOM_OFS : Fld := ⟨0x130050, 0x10, 0x4, 0, 32⟩
/-- The whole word of TSU_DOM_RATE. -/
def TSU_DOM_RATE : Fld := ⟨0x130058, 0x10, 0x0, 0, 32⟩
/-- The whole word of TSU_DOM_CFG. -/
def TSU_DOM_CFG : Fld := ⟨0x13005C, 0x10, 0x0, 0, 32⟩
def TSU_DOM_CFG_NUM : Fld := ⟨0x13005C, 0x10, 0x0, 0, 8⟩
def TSU_DOM_CFG_PORTS : Fld := ⟨0x13005C, 0x10, 0x0, 8, 2⟩
def TSU_DOM_CFG_VALID : Fld := ⟨0x13005C, 0x10, 0x0, 16, 1⟩
/-- The whole word of TSU_RTC_SEC. -/
def TSU_RTC_SEC : Fld := ⟨0x130070, 0x0, 0x0, 0, 32⟩
/-- The whole word of TSU_RTC_SUB. -/
def TSU_RTC_SUB : Fld := ⟨0x130074, 0x0, 0x0, 0, 32⟩
def TSU_RTC_SUB_SUB : Fld := ⟨0x130074, 0x0, 0x0, 0, 15⟩
def TSU_RTC_SUB_SET : Fld := ⟨0x130074, 0x0, 0x0, 31, 1⟩
/-- The whole word of TSU_PO_CTRL. -/
def TSU_PO_CTRL : Fld := ⟨0x130100, 0x20, 0x0, 0, 32⟩
def TSU_PO_CTRL_MODE : Fld := ⟨0x130100, 0x20, 0x0, 0, 2⟩
def TSU_PO_CTRL_POL : Fld := ⟨0x130100, 0x20, 0x0, 2, 1⟩
def TSU_PO_CTRL_ARM : Fld := ⟨0x130100, 0x20, 0x0, 3, 1⟩
def TSU_PO_CTRL_ACTIVE : Fld := ⟨0x130100, 0x20, 0x0, 4, 1⟩
def TSU_PO_CTRL_MISSED : Fld := ⟨0x130100, 0x20, 0x0, 5, 1⟩
/-- The whole word of TSU_PO_START_LO. -/
def TSU_PO_START_LO : Fld := ⟨0x130104, 0x20, 0x0, 0, 32⟩
/-- The whole word of TSU_PO_START_HI. -/
def TSU_PO_START_HI : Fld := ⟨0x130108, 0x20, 0x0, 0, 32⟩
def TSU_PO_START_HI_TALLY : Fld := ⟨0x130108, 0x20, 0x0, 0, 16⟩
/-- The whole word of TSU_PO_PW. -/
def TSU_PO_PW : Fld := ⟨0x13010C, 0x20, 0x4, 0, 32⟩
/-- The whole word of TSU_CAP_CFG. -/
def TSU_CAP_CFG : Fld := ⟨0x130200, 0x10, 0x0, 0, 32⟩
def TSU_CAP_CFG_SRC : Fld := ⟨0x130200, 0x10, 0x0, 0, 3⟩
def TSU_CAP_CFG_PARAM : Fld := ⟨0x130200, 0x10, 0x0, 3, 5⟩
/-- The whole word of TSU_CAP_NS. -/
def TSU_CAP_NS : Fld := ⟨0x130204, 0x10, 0x0, 0, 32⟩
/-- The whole word of TSU_CAP_TALLY. -/
def TSU_CAP_TALLY : Fld := ⟨0x130208, 0x10, 0x0, 0, 32⟩
def TSU_CAP_TALLY_TALLY : Fld := ⟨0x130208, 0x10, 0x0, 0, 16⟩
def TSU_CAP_TALLY_OVR : Fld := ⟨0x130208, 0x10, 0x0, 30, 1⟩
def TSU_CAP_TALLY_NEW : Fld := ⟨0x130208, 0x10, 0x0, 31, 1⟩
/-- The whole word of ETH_TSQ_POP. -/
def ETH_TSQ_POP : Fld := ⟨0x230100, 0x20, 0x0, 0, 32⟩
def ETH_TSQ_POP_ID : Fld := ⟨0x230100, 0x20, 0x0, 0, 16⟩
def ETH_TSQ_POP_DOM : Fld := ⟨0x230100, 0x20, 0x0, 16, 1⟩
def ETH_TSQ_POP_VALID : Fld := ⟨0x230100, 0x20, 0x0, 31, 1⟩
/-- The whole word of ETH_TSQ_TS. -/
def ETH_TSQ_TS : Fld := ⟨0x230104, 0x20, 0x4, 0, 32⟩
/-- The whole word of ETH_TSQ_STAT. -/
def ETH_TSQ_STAT : Fld := ⟨0x23010C, 0x20, 0x0, 0, 32⟩
def ETH_TSQ_STAT_FILL : Fld := ⟨0x23010C, 0x20, 0x0, 0, 5⟩
def ETH_TSQ_STAT_OVF : Fld := ⟨0x23010C, 0x20, 0x0, 5, 1⟩
def ETH_TSQ_STAT_DROPPED : Fld := ⟨0x23010C, 0x20, 0x0, 16, 16⟩
/-- The whole word of ETH_LAT. -/
def ETH_LAT : Fld := ⟨0x230110, 0x20, 0x0, 0, 32⟩
def ETH_LAT_EGRESS : Fld := ⟨0x230110, 0x20, 0x0, 0, 16⟩
def ETH_LAT_INGRESS : Fld := ⟨0x230110, 0x20, 0x0, 16, 16⟩
/-- The whole word of ACQ_CTRL. -/
def ACQ_CTRL : Fld := ⟨0x60000, 0x0, 0x0, 0, 32⟩
def ACQ_CTRL_LOCK : Fld := ⟨0x60000, 0x0, 0x0, 31, 1⟩
/-- The whole word of ACQ_EVT. -/
def ACQ_EVT : Fld := ⟨0x60004, 0x0, 0x0, 0, 32⟩
def ACQ_EVT_DONE : Fld := ⟨0x60004, 0x0, 0x0, 0, 8⟩
def ACQ_EVT_STOPPED : Fld := ⟨0x60004, 0x0, 0x0, 8, 8⟩
def ACQ_EVT_RD_DONE : Fld := ⟨0x60004, 0x0, 0x0, 16, 1⟩
def ACQ_EVT_GRP_FIRE : Fld := ⟨0x60004, 0x0, 0x0, 17, 1⟩
/-- The whole word of ACQ_RD_SRC. -/
def ACQ_RD_SRC : Fld := ⟨0x60010, 0x0, 0x0, 0, 32⟩
def ACQ_RD_SRC_SRC : Fld := ⟨0x60010, 0x0, 0x0, 0, 22⟩
/-- The whole word of ACQ_RD_DST. -/
def ACQ_RD_DST : Fld := ⟨0x60014, 0x0, 0x0, 0, 32⟩
/-- The whole word of ACQ_RD_LEN. -/
def ACQ_RD_LEN : Fld := ⟨0x60018, 0x0, 0x0, 0, 32⟩
def ACQ_RD_LEN_LEN : Fld := ⟨0x60018, 0x0, 0x0, 0, 23⟩
/-- The whole word of ACQ_RD_CTRL. -/
def ACQ_RD_CTRL : Fld := ⟨0x6001C, 0x0, 0x0, 0, 32⟩
def ACQ_RD_CTRL_GO : Fld := ⟨0x6001C, 0x0, 0x0, 0, 1⟩
def ACQ_RD_CTRL_WIN : Fld := ⟨0x6001C, 0x0, 0x0, 1, 1⟩
def ACQ_RD_CTRL_BUSY : Fld := ⟨0x6001C, 0x0, 0x0, 2, 1⟩
def ACQ_RD_CTRL_STATUS : Fld := ⟨0x6001C, 0x0, 0x0, 4, 8⟩
def ACQ_RD_CTRL_SLOT : Fld := ⟨0x6001C, 0x0, 0x0, 12, 8⟩
def ACQ_RD_CTRL_PIECES : Fld := ⟨0x6001C, 0x0, 0x0, 20, 3⟩
/-- The whole word of ACQ_U_CTRL. -/
def ACQ_U_CTRL : Fld := ⟨0x60100, 0x40, 0x0, 0, 32⟩
def ACQ_U_CTRL_EN : Fld := ⟨0x60100, 0x40, 0x0, 0, 1⟩
def ACQ_U_CTRL_ARM : Fld := ⟨0x60100, 0x40, 0x0, 1, 1⟩
def ACQ_U_CTRL_FORCE : Fld := ⟨0x60100, 0x40, 0x0, 2, 1⟩
def ACQ_U_CTRL_STOP : Fld := ⟨0x60100, 0x40, 0x0, 3, 1⟩
/-- The whole word of ACQ_U_CFG. -/
def ACQ_U_CFG : Fld := ⟨0x60104, 0x40, 0x0, 0, 32⟩
def ACQ_U_CFG_SQ : Fld := ⟨0x60104, 0x40, 0x0, 0, 1⟩
def ACQ_U_CFG_FMT : Fld := ⟨0x60104, 0x40, 0x0, 1, 1⟩
def ACQ_U_CFG_GATH : Fld := ⟨0x60104, 0x40, 0x0, 2, 1⟩
def ACQ_U_CFG_SRC_DIE : Fld := ⟨0x60104, 0x40, 0x0, 3, 3⟩
def ACQ_U_CFG_DECM1 : Fld := ⟨0x60104, 0x40, 0x0, 16, 16⟩
/-- The whole word of ACQ_U_ENT. -/
def ACQ_U_ENT : Fld := ⟨0x60108, 0x40, 0x0, 0, 32⟩
def ACQ_U_ENT_ENTRY : Fld := ⟨0x60108, 0x40, 0x0, 0, 16⟩
/-- The whole word of ACQ_U_TRIG. -/
def ACQ_U_TRIG : Fld := ⟨0x6010C, 0x40, 0x0, 0, 32⟩
def ACQ_U_TRIG_SRC : Fld := ⟨0x6010C, 0x40, 0x0, 0, 4⟩
def ACQ_U_TRIG_TCELL : Fld := ⟨0x6010C, 0x40, 0x0, 4, 7⟩
def ACQ_U_TRIG_EDGE : Fld := ⟨0x6010C, 0x40, 0x0, 11, 2⟩
def ACQ_U_TRIG_PARAM : Fld := ⟨0x6010C, 0x40, 0x0, 13, 3⟩
def ACQ_U_TRIG_GROUP : Fld := ⟨0x6010C, 0x40, 0x0, 16, 3⟩
def ACQ_U_TRIG_GRP_EN : Fld := ⟨0x6010C, 0x40, 0x0, 19, 1⟩
def ACQ_U_TRIG_FIRE_EN : Fld := ⟨0x6010C, 0x40, 0x0, 20, 1⟩
/-- The whole word of ACQ_U_THR. -/
def ACQ_U_THR : Fld := ⟨0x60110, 0x40, 0x0, 0, 32⟩
def ACQ_U_THR_THRESH : Fld := ⟨0x60110, 0x40, 0x0, 0, 16⟩
def ACQ_U_THR_HYST : Fld := ⟨0x60110, 0x40, 0x0, 16, 16⟩
/-- The whole word of ACQ_U_BASE. -/
def ACQ_U_BASE : Fld := ⟨0x60114, 0x40, 0x0, 0, 32⟩
def ACQ_U_BASE_BASE : Fld := ⟨0x60114, 0x40, 0x0, 0, 22⟩
/-- The whole word of ACQ_U_SIZE. -/
def ACQ_U_SIZE : Fld := ⟨0x60118, 0x40, 0x0, 0, 32⟩
def ACQ_U_SIZE_SIZE : Fld := ⟨0x60118, 0x40, 0x0, 0, 23⟩
/-- The whole word of ACQ_U_LEN. -/
def ACQ_U_LEN : Fld := ⟨0x6011C, 0x40, 0x0, 0, 32⟩
def ACQ_U_LEN_LEN : Fld := ⟨0x6011C, 0x40, 0x0, 0, 20⟩
/-- The whole word of ACQ_U_SEG. -/
def ACQ_U_SEG : Fld := ⟨0x60120, 0x40, 0x0, 0, 32⟩
def ACQ_U_SEG_SEGS : Fld := ⟨0x60120, 0x40, 0x0, 0, 11⟩
def ACQ_U_SEG_PRE : Fld := ⟨0x60120, 0x40, 0x0, 16, 7⟩
/-- The whole word of ACQ_U_POST. -/
def ACQ_U_POST : Fld := ⟨0x60124, 0x40, 0x0, 0, 32⟩
def ACQ_U_POST_POST : Fld := ⟨0x60124, 0x40, 0x0, 0, 20⟩
/-- The whole word of ACQ_U_STAT. -/
def ACQ_U_STAT : Fld := ⟨0x60128, 0x40, 0x0, 0, 32⟩
def ACQ_U_STAT_STATE : Fld := ⟨0x60128, 0x40, 0x0, 0, 3⟩
def ACQ_U_STAT_STATUS : Fld := ⟨0x60128, 0x40, 0x0, 3, 8⟩
def ACQ_U_STAT_WIDX : Fld := ⟨0x60128, 0x40, 0x0, 12, 20⟩
/-- The whole word of ACQ_U_CNT. -/
def ACQ_U_CNT : Fld := ⟨0x6012C, 0x40, 0x0, 0, 32⟩
def ACQ_U_CNT_SEGDONE : Fld := ⟨0x6012C, 0x40, 0x0, 0, 11⟩
def ACQ_U_CNT_BUSY_TRIG : Fld := ⟨0x6012C, 0x40, 0x0, 16, 8⟩
/-- The whole word of ACQ_GRP_CTRL. -/
def ACQ_GRP_CTRL : Fld := ⟨0x60800, 0x8, 0x0, 0, 32⟩
def ACQ_GRP_CTRL_ARM : Fld := ⟨0x60800, 0x8, 0x0, 0, 1⟩
def ACQ_GRP_CTRL_REPEAT : Fld := ⟨0x60800, 0x8, 0x0, 1, 1⟩
def ACQ_GRP_CTRL_ARMED : Fld := ⟨0x60800, 0x8, 0x0, 2, 1⟩
def ACQ_GRP_CTRL_DISARM : Fld := ⟨0x60800, 0x8, 0x0, 3, 1⟩
/-- The whole word of ACQ_GRP_STAT. -/
def ACQ_GRP_STAT : Fld := ⟨0x60804, 0x8, 0x0, 0, 32⟩
def ACQ_GRP_STAT_FIRES : Fld := ⟨0x60804, 0x8, 0x0, 0, 16⟩
def ACQ_GRP_STAT_FIRER_UNIT : Fld := ⟨0x60804, 0x8, 0x0, 16, 3⟩
def ACQ_GRP_STAT_FIRER_DIE : Fld := ⟨0x60804, 0x8, 0x0, 19, 3⟩
/-- The whole word of SAF_STAT. -/
def SAF_STAT : Fld := ⟨0xC0000, 0x0, 0x0, 0, 32⟩
def SAF_STAT_CFG_VALID : Fld := ⟨0xC0000, 0x0, 0x0, 0, 1⟩
def SAF_STAT_SELFTEST_OK : Fld := ⟨0xC0000, 0x0, 0x0, 1, 1⟩
def SAF_STAT_CRC_OK : Fld := ⟨0xC0000, 0x0, 0x0, 2, 1⟩
def SAF_STAT_CFG_LOCKED : Fld := ⟨0xC0000, 0x0, 0x0, 3, 1⟩
def SAF_STAT_LOG_HEAD : Fld := ⟨0xC0000, 0x0, 0x0, 16, 16⟩
/-- The whole word of SAF_EVT. -/
def SAF_EVT : Fld := ⟨0xC0004, 0x0, 0x0, 0, 32⟩
def SAF_EVT_STOP : Fld := ⟨0xC0004, 0x0, 0x0, 0, 4⟩
def SAF_EVT_INSUL_WARN : Fld := ⟨0xC0004, 0x0, 0x0, 4, 4⟩
def SAF_EVT_DEGRADED : Fld := ⟨0xC0004, 0x0, 0x0, 8, 4⟩
def SAF_EVT_WELD : Fld := ⟨0xC0004, 0x0, 0x0, 12, 4⟩
def SAF_EVT_DIAG : Fld := ⟨0xC0004, 0x0, 0x0, 16, 1⟩
/-- The whole word of SAF_IN. -/
def SAF_IN : Fld := ⟨0xC0010, 0x4, 0x0, 0, 32⟩
def SAF_IN_RAW : Fld := ⟨0xC0010, 0x4, 0x0, 0, 8⟩
def SAF_IN_FILT : Fld := ⟨0xC0010, 0x4, 0x0, 8, 8⟩
def SAF_IN_DEMAND : Fld := ⟨0xC0010, 0x4, 0x0, 16, 8⟩
/-- The whole word of SAF_OUT. -/
def SAF_OUT : Fld := ⟨0xC0020, 0x4, 0x0, 0, 32⟩
def SAF_OUT_CMD : Fld := ⟨0xC0020, 0x4, 0x0, 0, 4⟩
def SAF_OUT_READBACK : Fld := ⟨0xC0020, 0x4, 0x0, 4, 4⟩
def SAF_OUT_MISMATCH : Fld := ⟨0xC0020, 0x4, 0x0, 8, 4⟩
def SAF_OUT_LATCHED : Fld := ⟨0xC0020, 0x4, 0x0, 12, 4⟩
/-- The whole word of SAF_P_STAT. -/
def SAF_P_STAT : Fld := ⟨0xC0040, 0x10, 0x0, 0, 32⟩
def SAF_P_STAT_STOP : Fld := ⟨0xC0040, 0x10, 0x0, 0, 2⟩
def SAF_P_STAT_DEGRADED : Fld := ⟨0xC0040, 0x10, 0x0, 2, 1⟩
def SAF_P_STAT_WELD_LATCH : Fld := ⟨0xC0040, 0x10, 0x0, 3, 1⟩
def SAF_P_STAT_TRIP_LATCH : Fld := ⟨0xC0040, 0x10, 0x0, 4, 1⟩
def SAF_P_STAT_RAMP_MON_FAIL : Fld := ⟨0xC0040, 0x10, 0x0, 5, 1⟩
def SAF_P_STAT_TRIP_COV : Fld := ⟨0xC0040, 0x10, 0x0, 6, 1⟩
def SAF_P_STAT_DEG_LEFT : Fld := ⟨0xC0040, 0x10, 0x0, 16, 16⟩
/-- The whole word of SAF_P_ISO. -/
def SAF_P_ISO : Fld := ⟨0xC0044, 0x10, 0x0, 0, 32⟩
def SAF_P_ISO_RISO : Fld := ⟨0xC0044, 0x10, 0x0, 0, 16⟩
def SAF_P_ISO_VALID : Fld := ⟨0xC0044, 0x10, 0x0, 16, 1⟩
def SAF_P_ISO_WARN : Fld := ⟨0xC0044, 0x10, 0x0, 17, 1⟩
def SAF_P_ISO_FAULT : Fld := ⟨0xC0044, 0x10, 0x0, 18, 1⟩
/-- The whole word of SAF_P_TIME. -/
def SAF_P_TIME : Fld := ⟨0xC0048, 0x10, 0x0, 0, 32⟩
def SAF_P_TIME_LAST_REACT : Fld := ⟨0xC0048, 0x10, 0x0, 0, 16⟩
def SAF_P_TIME_CONTACT_MS : Fld := ⟨0xC0048, 0x10, 0x0, 16, 16⟩
/-- The whole word of SAF_DIAG. -/
def SAF_DIAG : Fld := ⟨0xC0080, 0x0, 0x0, 0, 32⟩
def SAF_DIAG_ECC_CORR : Fld := ⟨0xC0080, 0x0, 0x0, 0, 1⟩
def SAF_DIAG_ECC_UNCORR : Fld := ⟨0xC0080, 0x0, 0x0, 1, 1⟩
def SAF_DIAG_SIG_FAIL : Fld := ⟨0xC0080, 0x0, 0x0, 2, 1⟩
def SAF_DIAG_FLOW_FAIL : Fld := ⟨0xC0080, 0x0, 0x0, 3, 1⟩
def SAF_DIAG_CLK_FAIL : Fld := ⟨0xC0080, 0x0, 0x0, 4, 1⟩
def SAF_DIAG_SELFTEST_FAIL : Fld := ⟨0xC0080, 0x0, 0x0, 5, 1⟩
def SAF_DIAG_FIRST : Fld := ⟨0xC0080, 0x0, 0x0, 8, 4⟩
/-- The whole word of SAF_CFG_DIGEST. -/
def SAF_CFG_DIGEST : Fld := ⟨0xC0100, 0x4, 0x0, 0, 32⟩
/-- The whole word of LSW_CTRL. -/
def LSW_CTRL : Fld := ⟨0x110000, 0x0, 0x0, 0, 32⟩
def LSW_CTRL_LOCK : Fld := ⟨0x110000, 0x0, 0x0, 31, 1⟩
/-- The whole word of LSW_CFG. -/
def LSW_CFG : Fld := ⟨0x110004, 0x0, 0x0, 0, 32⟩
def LSW_CFG_RESTART_MAX : Fld := ⟨0x110004, 0x0, 0x0, 0, 4⟩
def LSW_CFG_RESTART_WIN : Fld := ⟨0x110004, 0x0, 0x0, 4, 8⟩
def LSW_CFG_RESTART_DLY : Fld := ⟨0x110004, 0x0, 0x0, 12, 7⟩
def LSW_CFG_LIM_T : Fld := ⟨0x110004, 0x0, 0x0, 19, 5⟩
/-- The whole word of LSW_SAFE_EN. -/
def LSW_SAFE_EN : Fld := ⟨0x110008, 0x0, 0x0, 0, 32⟩
def LSW_SAFE_EN_EN : Fld := ⟨0x110008, 0x0, 0x0, 0, 12⟩
/-- The whole word of LSW_EVT. -/
def LSW_EVT : Fld := ⟨0x11000C, 0x0, 0x0, 0, 32⟩
def LSW_EVT_FAULT : Fld := ⟨0x11000C, 0x0, 0x0, 0, 12⟩
def LSW_EVT_GROUP : Fld := ⟨0x11000C, 0x0, 0x0, 12, 4⟩
def LSW_EVT_RAIL : Fld := ⟨0x11000C, 0x0, 0x0, 16, 1⟩
def LSW_EVT_OPEN_LOAD : Fld := ⟨0x11000C, 0x0, 0x0, 17, 1⟩
def LSW_EVT_CLR_REFUSED : Fld := ⟨0x11000C, 0x0, 0x0, 18, 1⟩
/-- The whole word of LSW_RAIL. -/
def LSW_RAIL : Fld := ⟨0x110010, 0x0, 0x0, 0, 32⟩
def LSW_RAIL_V24_OK : Fld := ⟨0x110010, 0x0, 0x0, 0, 1⟩
def LSW_RAIL_OV : Fld := ⟨0x110010, 0x0, 0x0, 1, 1⟩
def LSW_RAIL_UV : Fld := ⟨0x110010, 0x0, 0x0, 2, 1⟩
def LSW_RAIL_GND_LOST : Fld := ⟨0x110010, 0x0, 0x0, 3, 1⟩
def LSW_RAIL_REVERSE : Fld := ⟨0x110010, 0x0, 0x0, 4, 1⟩
def LSW_RAIL_I_SUM : Fld := ⟨0x110010, 0x0, 0x0, 16, 16⟩
/-- The whole word of LSW_GRP_CFG. -/
def LSW_GRP_CFG : Fld := ⟨0x110014, 0x0, 0x0, 0, 32⟩
def LSW_GRP_CFG_TGRP_THR : Fld := ⟨0x110014, 0x0, 0x0, 0, 8⟩
def LSW_GRP_CFG_TGRP_OFF : Fld := ⟨0x110014, 0x0, 0x0, 8, 8⟩
def LSW_GRP_CFG_TGRP_HYST : Fld := ⟨0x110014, 0x0, 0x0, 16, 5⟩
def LSW_GRP_CFG_GMODE : Fld := ⟨0x110014, 0x0, 0x0, 21, 1⟩
/-- The whole word of LSW_GRP. -/
def LSW_GRP : Fld := ⟨0x110020, 0x4, 0x0, 0, 32⟩
def LSW_GRP_TEMP : Fld := ⟨0x110020, 0x4, 0x0, 0, 16⟩
def LSW_GRP_THROTTLE : Fld := ⟨0x110020, 0x4, 0x0, 16, 1⟩
def LSW_GRP_OFF : Fld := ⟨0x110020, 0x4, 0x0, 17, 1⟩
def LSW_GRP_LATCHED : Fld := ⟨0x110020, 0x4, 0x0, 18, 1⟩
def LSW_GRP_CLR : Fld := ⟨0x110020, 0x4, 0x0, 19, 1⟩
/-- The whole word of LSW_CH_CFG. -/
def LSW_CH_CFG : Fld := ⟨0x110100, 0x20, 0x0, 0, 32⟩
def LSW_CH_CFG_ROLE : Fld := ⟨0x110100, 0x20, 0x0, 0, 3⟩
def LSW_CH_CFG_ILIM : Fld := ⟨0x110100, 0x20, 0x0, 3, 4⟩
def LSW_CH_CFG_INRUSH_RETRY : Fld := ⟨0x110100, 0x20, 0x0, 7, 4⟩
def LSW_CH_CFG_TMODE : Fld := ⟨0x110100, 0x20, 0x0, 11, 1⟩
def LSW_CH_CFG_OL_THR : Fld := ⟨0x110100, 0x20, 0x0, 12, 6⟩
def LSW_CH_CFG_PWM_HZ : Fld := ⟨0x110100, 0x20, 0x0, 18, 10⟩
/-- The whole word of LSW_CH_CMD. -/
def LSW_CH_CMD : Fld := ⟨0x110104, 0x20, 0x0, 0, 32⟩
def LSW_CH_CMD_ON : Fld := ⟨0x110104, 0x20, 0x0, 0, 1⟩
def LSW_CH_CMD_DUTY : Fld := ⟨0x110104, 0x20, 0x0, 1, 14⟩
def LSW_CH_CMD_CLR_LATCH : Fld := ⟨0x110104, 0x20, 0x0, 16, 1⟩
/-- The whole word of LSW_CH_DSRC. -/
def LSW_CH_DSRC : Fld := ⟨0x110108, 0x20, 0x0, 0, 32⟩
def LSW_CH_DSRC_EN : Fld := ⟨0x110108, 0x20, 0x0, 0, 1⟩
def LSW_CH_DSRC_CTX : Fld := ⟨0x110108, 0x20, 0x0, 1, 3⟩
def LSW_CH_DSRC_OFFSET : Fld := ⟨0x110108, 0x20, 0x0, 4, 11⟩
/-- The whole word of LSW_CH_STAT. -/
def LSW_CH_STAT : Fld := ⟨0x11010C, 0x20, 0x0, 0, 32⟩
def LSW_CH_STAT_STATE : Fld := ⟨0x11010C, 0x20, 0x0, 0, 3⟩
def LSW_CH_STAT_OUT : Fld := ⟨0x11010C, 0x20, 0x0, 3, 1⟩
def LSW_CH_STAT_LIMITING : Fld := ⟨0x11010C, 0x20, 0x0, 4, 1⟩
def LSW_CH_STAT_OPEN_LOAD : Fld := ⟨0x11010C, 0x20, 0x0, 5, 1⟩
def LSW_CH_STAT_PAUSED : Fld := ⟨0x11010C, 0x20, 0x0, 6, 1⟩
def LSW_CH_STAT_RAIL_OFF : Fld := ⟨0x11010C, 0x20, 0x0, 7, 1⟩
def LSW_CH_STAT_RESTARTS : Fld := ⟨0x11010C, 0x20, 0x0, 8, 4⟩
def LSW_CH_STAT_INRUSH_USED : Fld := ⟨0x11010C, 0x20, 0x0, 12, 4⟩
def LSW_CH_STAT_STATUS : Fld := ⟨0x11010C, 0x20, 0x0, 16, 8⟩
def LSW_CH_STAT_GROUP_OFF : Fld := ⟨0x11010C, 0x20, 0x0, 24, 1⟩
def LSW_CH_STAT_RETIRED : Fld := ⟨0x11010C, 0x20, 0x0, 25, 1⟩
/-- The whole word of LSW_CH_MEAS. -/
def LSW_CH_MEAS : Fld := ⟨0x110110, 0x20, 0x0, 0, 32⟩
def LSW_CH_MEAS_I : Fld := ⟨0x110110, 0x20, 0x0, 0, 16⟩
def LSW_CH_MEAS_TEMP : Fld := ⟨0x110110, 0x20, 0x0, 16, 16⟩
/-- The whole word of THM_CTRL. -/
def THM_CTRL : Fld := ⟨0x20000, 0x0, 0x0, 0, 32⟩
def THM_CTRL_LOCK : Fld := ⟨0x20000, 0x0, 0x0, 31, 1⟩
/-- The whole word of THM_TEMP. -/
def THM_TEMP : Fld := ⟨0x20004, 0x0, 0x0, 0, 32⟩
def THM_TEMP_MAX : Fld := ⟨0x20004, 0x0, 0x0, 0, 16⟩
def THM_TEMP_SENSOR : Fld := ⟨0x20004, 0x0, 0x0, 16, 2⟩
/-- The whole word of THM_S. -/
def THM_S : Fld := ⟨0x20010, 0x4, 0x0, 0, 32⟩
def THM_S_TEMP : Fld := ⟨0x20010, 0x4, 0x0, 0, 16⟩
/-- The whole word of THM_LVL. -/
def THM_LVL : Fld := ⟨0x20020, 0x4, 0x0, 0, 32⟩
def THM_LVL_LEVEL : Fld := ⟨0x20020, 0x4, 0x0, 0, 8⟩
def THM_LVL_HYST : Fld := ⟨0x20020, 0x4, 0x0, 8, 8⟩
/-- The whole word of THM_STAT. -/
def THM_STAT : Fld := ⟨0x2002C, 0x0, 0x0, 0, 32⟩
def THM_STAT_WARN : Fld := ⟨0x2002C, 0x0, 0x0, 0, 1⟩
def THM_STAT_THROTTLE : Fld := ⟨0x2002C, 0x0, 0x0, 1, 1⟩
def THM_STAT_SD_HOUR : Fld := ⟨0x2002C, 0x0, 0x0, 4, 2⟩
/-- The whole word of THM_EVT. -/
def THM_EVT : Fld := ⟨0x20030, 0x0, 0x0, 0, 32⟩
def THM_EVT_WARN : Fld := ⟨0x20030, 0x0, 0x0, 0, 1⟩
def THM_EVT_THROTTLE : Fld := ⟨0x20030, 0x0, 0x0, 1, 1⟩
def THM_EVT_SD : Fld := ⟨0x20030, 0x0, 0x0, 2, 1⟩
def THM_EVT_CFG_REFUSED : Fld := ⟨0x20030, 0x0, 0x0, 3, 1⟩
/-- The whole word of THM_XO_C. -/
def THM_XO_C : Fld := ⟨0x20040, 0x4, 0x0, 0, 32⟩
/-- The whole word of THM_REF_C. -/
def THM_REF_C : Fld := ⟨0x20050, 0x4, 0x0, 0, 32⟩
/-- The whole word of TWN_CTRL. -/
def TWN_CTRL : Fld := ⟨0x210000, 0x0, 0x0, 0, 32⟩
def TWN_CTRL_EN : Fld := ⟨0x210000, 0x0, 0x0, 0, 1⟩
def TWN_CTRL_MAINS_HO : Fld := ⟨0x210000, 0x0, 0x0, 1, 1⟩
def TWN_CTRL_LOCK : Fld := ⟨0x210000, 0x0, 0x0, 31, 1⟩
/-- The whole word of TWN_STAT. -/
def TWN_STAT : Fld := ⟨0x210004, 0x0, 0x0, 0, 32⟩
def TWN_STAT_ROLE : Fld := ⟨0x210004, 0x0, 0x0, 0, 2⟩
def TWN_STAT_UNIT : Fld := ⟨0x210004, 0x0, 0x0, 2, 1⟩
def TWN_STAT_LINK_UP : Fld := ⟨0x210004, 0x0, 0x0, 3, 1⟩
def TWN_STAT_LANES_OK : Fld := ⟨0x210004, 0x0, 0x0, 4, 4⟩
def TWN_STAT_CLAIM_OWN : Fld := ⟨0x210004, 0x0, 0x0, 8, 1⟩
def TWN_STAT_CLAIM_PEER : Fld := ⟨0x210004, 0x0, 0x0, 9, 1⟩
def TWN_STAT_OUT_EN : Fld := ⟨0x210004, 0x0, 0x0, 10, 1⟩
def TWN_STAT_SYNCED : Fld := ⟨0x210004, 0x0, 0x0, 11, 1⟩
def TWN_STAT_HELD_CAUSE : Fld := ⟨0x210004, 0x0, 0x0, 12, 4⟩
def TWN_STAT_PEER_ROLE : Fld := ⟨0x210004, 0x0, 0x0, 16, 2⟩
def TWN_STAT_PEER_MAINS_LOST : Fld := ⟨0x210004, 0x0, 0x0, 18, 1⟩
/-- The whole word of TWN_EVT. -/
def TWN_EVT : Fld := ⟨0x210008, 0x0, 0x0, 0, 32⟩
def TWN_EVT_TAKEOVER : Fld := ⟨0x210008, 0x0, 0x0, 0, 1⟩
def TWN_EVT_HANDED : Fld := ⟨0x210008, 0x0, 0x0, 1, 1⟩
def TWN_EVT_HB_LOST : Fld := ⟨0x210008, 0x0, 0x0, 2, 1⟩
def TWN_EVT_LINK_DOWN : Fld := ⟨0x210008, 0x0, 0x0, 3, 1⟩
def TWN_EVT_LINK_UP : Fld := ⟨0x210008, 0x0, 0x0, 4, 1⟩
def TWN_EVT_GEN_MISMATCH : Fld := ⟨0x210008, 0x0, 0x0, 5, 1⟩
def TWN_EVT_CFG_MISMATCH : Fld := ⟨0x210008, 0x0, 0x0, 6, 1⟩
def TWN_EVT_RESYNC_DONE : Fld := ⟨0x210008, 0x0, 0x0, 7, 1⟩
def TWN_EVT_AUTH_FAIL : Fld := ⟨0x210008, 0x0, 0x0, 8, 1⟩
def TWN_EVT_REC_BAD : Fld := ⟨0x210008, 0x0, 0x0, 9, 1⟩
def TWN_EVT_DUAL_ACTIVE : Fld := ⟨0x210008, 0x0, 0x0, 10, 1⟩
def TWN_EVT_PEER_MAINS : Fld := ⟨0x210008, 0x0, 0x0, 11, 1⟩
def TWN_EVT_FIRST : Fld := ⟨0x210008, 0x0, 0x0, 12, 4⟩
def TWN_EVT_STRAP_CLASH : Fld := ⟨0x210008, 0x0, 0x0, 16, 1⟩
/-- The whole word of TWN_GEN. -/
def TWN_GEN : Fld := ⟨0x21000C, 0x0, 0x0, 0, 32⟩
def TWN_GEN_OWN : Fld := ⟨0x21000C, 0x0, 0x0, 0, 8⟩
def TWN_GEN_PEER : Fld := ⟨0x21000C, 0x0, 0x0, 8, 8⟩
def TWN_GEN_ACC : Fld := ⟨0x21000C, 0x0, 0x0, 16, 8⟩
/-- The whole word of TWN_REC. -/
def TWN_REC : Fld := ⟨0x210010, 0x0, 0x0, 0, 32⟩
def TWN_REC_RSEQ : Fld := ⟨0x210010, 0x0, 0x0, 0, 16⟩
def TWN_REC_AGE : Fld := ⟨0x210010, 0x0, 0x0, 16, 16⟩
/-- The whole word of TWN_CNT. -/
def TWN_CNT : Fld := ⟨0x210014, 0x0, 0x0, 0, 32⟩
def TWN_CNT_HB_MISS : Fld := ⟨0x210014, 0x0, 0x0, 0, 8⟩
def TWN_CNT_REC_BAD : Fld := ⟨0x210014, 0x0, 0x0, 8, 8⟩
def TWN_CNT_TAKEOVERS : Fld := ⟨0x210014, 0x0, 0x0, 16, 8⟩
def TWN_CNT_HANDOVERS : Fld := ⟨0x210014, 0x0, 0x0, 24, 8⟩
/-- The whole word of TWN_GAP. -/
def TWN_GAP : Fld := ⟨0x210018, 0x0, 0x0, 0, 32⟩
def TWN_GAP_LAST_GAP : Fld := ⟨0x210018, 0x0, 0x0, 0, 16⟩
def TWN_GAP_DETECT : Fld := ⟨0x210018, 0x0, 0x0, 16, 2⟩
/-- The whole word of TWN_RESYNC. -/
def TWN_RESYNC : Fld := ⟨0x21001C, 0x0, 0x0, 0, 32⟩
def TWN_RESYNC_PROGRESS : Fld := ⟨0x21001C, 0x0, 0x0, 0, 8⟩
def TWN_RESYNC_BUSY : Fld := ⟨0x21001C, 0x0, 0x0, 8, 1⟩
def TWN_RESYNC_STEP : Fld := ⟨0x21001C, 0x0, 0x0, 9, 3⟩
/-- The whole word of DIE_ERR. -/
def DIE_ERR : Fld := ⟨0x20, 0x0, 0x0, 0, 32⟩
def DIE_ERR_FIRST : Fld := ⟨0x20, 0x0, 0x0, 0, 16⟩
def DIE_ERR_BLOCK : Fld := ⟨0x20, 0x0, 0x0, 16, 8⟩
def DIE_ERR_PERM : Fld := ⟨0x20, 0x0, 0x0, 24, 1⟩
def DIE_ERR_CLR : Fld := ⟨0x20, 0x0, 0x0, 31, 1⟩
/-- The whole word of DIE_FCNT. -/
def DIE_FCNT : Fld := ⟨0x24, 0x0, 0x0, 0, 32⟩
def DIE_FCNT_CELL : Fld := ⟨0x24, 0x0, 0x0, 0, 8⟩
def DIE_FCNT_BLOCK : Fld := ⟨0x24, 0x0, 0x0, 8, 8⟩
def DIE_FCNT_RETIRED : Fld := ⟨0x24, 0x0, 0x0, 16, 8⟩
def DIE_FCNT_REGION : Fld := ⟨0x24, 0x0, 0x0, 24, 8⟩
/-- The whole word of DIE_BUDGET. -/
def DIE_BUDGET : Fld := ⟨0x28, 0x0, 0x0, 0, 32⟩
def DIE_BUDGET_BUDGET_RETRY : Fld := ⟨0x28, 0x0, 0x0, 0, 4⟩
def DIE_BUDGET_BUDGET_WIN : Fld := ⟨0x28, 0x0, 0x0, 4, 8⟩
def DIE_BUDGET_LOCK : Fld := ⟨0x28, 0x0, 0x0, 31, 1⟩
/-- The whole word of PKG_ERR. -/
def PKG_ERR : Fld := ⟨0x20, 0x0, 0x0, 0, 32⟩
def PKG_ERR_FIRST : Fld := ⟨0x20, 0x0, 0x0, 0, 16⟩
def PKG_ERR_DIE : Fld := ⟨0x20, 0x0, 0x0, 16, 3⟩
def PKG_ERR_PERM : Fld := ⟨0x20, 0x0, 0x0, 19, 1⟩
def PKG_ERR_COUNT : Fld := ⟨0x20, 0x0, 0x0, 20, 4⟩
def PKG_ERR_CLR : Fld := ⟨0x20, 0x0, 0x0, 31, 1⟩

end F

end Sys2Proof
end

