-- ==== Sys2Proof/Machine/Sparse.lean ====
section
/-!
DEFINITION. Stores keyed by numbers in one canonical form: keys strictly rising, and no entry equal to what an
unlisted key reads as. Memory, the register file and every other sparse table of the state are such stores.
-/

namespace Sys2Proof

/-- What key `k` reads as; an unlisted key reads `dflt k`. -/
def Sparse.get {α : Type} (dflt : Nat → α) : List (Nat × α) → Nat → α
  | [], k => dflt k
  | p :: t, k => if p.1 = k then p.2 else Sparse.get dflt t k

/-- The store without any entry for `k`. -/
def Sparse.erase {α : Type} : List (Nat × α) → Nat → List (Nat × α)
  | [], _ => []
  | p :: t, k => if p.1 = k then Sparse.erase t k else p :: Sparse.erase t k

/-- The store with the entry `(k, v)` in its place. -/
def Sparse.insert {α : Type} : List (Nat × α) → Nat → α → List (Nat × α)
  | [], k, v => [(k, v)]
  | p :: t, k, v =>
    if k < p.1 then (k, v) :: p :: t
    else if p.1 = k then (k, v) :: t
    else p :: Sparse.insert t k v

/-- A write; writing what an unlisted key reads as removes the entry. -/
def Sparse.set {α : Type} [DecidableEq α] (dflt : Nat → α) (l : List (Nat × α)) (k : Nat) (v : α) : List (Nat × α) :=
  if v = dflt k then Sparse.erase l k else Sparse.insert l k v

/-- The canonical form. -/
def Sparse.wf {α : Type} [DecidableEq α] (dflt : Nat → α) : List (Nat × α) → Bool
  | [] => true
  | [p] => decide (p.2 ≠ dflt p.1)
  | p :: q :: t => decide (p.2 ≠ dflt p.1) && decide (p.1 < q.1) && Sparse.wf dflt (q :: t)

/-- The store without the entries whose key satisfies `p`. -/
def Sparse.drop {α : Type} (p : Nat → Bool) (l : List (Nat × α)) : List (Nat × α) :=
  l.filter (fun e => !p e.1)

/-- One entry of a vector changed. -/
def upd {α : Type} {n : Nat} (v : Vector α n) (i : Fin n) (f : α → α) : Vector α n :=
  v.set i.val (f (v.get i)) i.isLt

/-- A natural number as a signed number of `w` bits. -/
def sext (w n : Nat) : Int := if 2 ^ (w - 1) ≤ n % 2 ^ w then Int.ofNat (n % 2 ^ w) - 2 ^ w else Int.ofNat (n % 2 ^ w)

/-- An integer as an unsigned number of `w` bits (two's complement). -/
def uns (w : Nat) (x : Int) : Nat := (x % (2 ^ w : Int)).toNat

/-- Bit `i` of a number. -/
def bitOf (n i : Nat) : Bool := n / 2 ^ i % 2 == 1

/-- The field of `w` bits from bit `lo`. -/
def bitsOf (n lo w : Nat) : Nat := n / 2 ^ lo % 2 ^ w

/-- A Boolean as a field value. -/
def b2n (b : Bool) : Nat := if b then 1 else 0

/-- Increment that stops at `m`. -/
def satInc (m n : Nat) : Nat := if n < m then n + 1 else m

/-- An integer held within `lo` and `hi`. -/
def clampI (lo hi x : Int) : Int := if x < lo then lo else if hi < x then hi else x

/-- A natural number held within `lo` and `hi`. -/
def clampN (lo hi x : Nat) : Nat := if x < lo then lo else if hi < x then hi else x

/-- Little-endian bytes of a number (R9). -/
def leBytes : Nat → Nat → List Byte
  | 0, _ => []
  | k + 1, n => BitVec.ofNat 8 n :: leBytes k (n / 256)

/-- The number whose little-endian bytes are given (R9). -/
def leNat : List Byte → Nat
  | [] => 0
  | b :: t => b.toNat + 256 * leNat t

/-- Big-endian bytes of a number. -/
def beBytes (k n : Nat) : List Byte := (leBytes k n).reverse

end Sys2Proof
end

