-- ==== Sys2Proof/Machine/State.lean ====
section
/-!
DEFINITION. The state of the block as plain data, and its value right after reset. Registers live in one register
file keyed by bus address (`regs`, with the reset values of Machine/RegMap.lean); byte memories live in one byte
store (`mem`); everything else the spec gives the machine is a typed field of one of the structures below. Each
field's docstring names its rule and its reset value; "DC" is DESIGN CHOICE, the spec giving none (log entry 2).
-/

namespace Sys2Proof.Machine

/-- Reasons the block could stop with a fault. No command of the table stops the model with a fault: every effect
the spec gives is a next state. `unreachable` is raised by nothing; it keeps the type inhabited. Safe. -/
inductive Fault where
  /-- Raised by no command; safe. -/
  | unreachable
  deriving DecidableEq, Repr

/-- Reasons a command has no meaning. -/
inductive Refusal where
  /-- The command's arm of `exec` has no meaning yet; safe (the run stops). -/
  | notModelled (mnemonic : String)
  deriving DecidableEq, Repr

/-- Where a die stands between reset and work (R20, R21, R65, R430). -/
inductive DieRun where
  /-- Unpowered, or held in reset because it is absent, retired or latched off. -/
  | off
  /-- In reset, the wipe engine zeroing its SRAM (R21). -/
  | wiping
  /-- Out of the wipe; its boot ROM measures images (R66, R72). -/
  | boot
  /-- Released: cores running (R65 step 6). -/
  | running
  /-- Stopped by its thermal shut-down (R430). -/
  | thermal
  deriving DecidableEq, Repr

/-- How far the power-down sequence of R52 and R53 has come. -/
inductive PdStage where
  | none | asserted | released | removed | committed
  deriving DecidableEq, Repr

/-- Package and supplies (chapters 2 and 3). -/
structure Pkg where
  /-- Each die's run state (R20, R21). Reset: wiping (R65 step 2). -/
  die : Vector DieRun 8
  /-- Power-down stage (R52, R53). Reset: none. -/
  pd : PdStage
  /-- Mains came back after PWR_DOWN (R54). Reset: false. -/
  mainsBack : Bool
  /-- Causes driving each port's INH pin, one bit per cause of `Inh` (R37, R52, R76, R77); the pin is driven while
  any bit is set. Reset: the reset cause (R55, R260). -/
  inh : Vector (BitVec 12) 32
  /-- The root oscillator is locked (R18). Reset: true. -/
  rootLock : Bool
  /-- The boot ROM has made its set choice in this start (R74). Reset: false. -/
  booted : Bool
  /-- Last class 0 words received on the link of each port die: by the lead die, by the port die (R31). Reset: 0. -/
  link0 : Vector (Word × Word) 8
  /-- UNIT, the 64-bit unit identity of DIE_ID of the lead die (R115). Reset: 0, DC. -/
  unitId : DWord
  /-- Tamper causes found while unpowered, logged at the next start, none for loss of both cells (R90, R91). Reset: none. -/
  tamperPend : List (Option TamperCause)
  /-- The start after a PWR reset has not yet opened the slots: EPOCH comes from KEEP and unstored slots are empty (R93,
  R318). Reset: true. -/
  fresh : Bool
  deriving DecidableEq, Repr

/-- What the supply monitors and the strap pin read, beside the registers that show it (chapter 2; log entry 104). -/
structure Supply where
  /-- What the supply monitors read, in the layout of the low half of PKG_PWR; a PWR reset zeroes the register alone, which
  shows the monitors again from the release of the lead die on (R20, R50, R55, R57; log entry 104). Reset: 0, DC. -/
  reads : Word
  /-- Each die's 24 V feed as monitored: bit 0 reversed, bit 1 its ground lost (R428; log entry 104). Reset: 0, DC. -/
  feed : Vector (BitVec 2) 8
  /-- The level of the strap TWIN_ID: unit B (R63, R64). Reset: false, DC. -/
  strapB : Bool
  /-- The 24 V rail keeps the safety outputs switched off (R57, R428). Reset: false, DC. -/
  soutOff : Bool
  deriving DecidableEq, Repr

/-- One 32-byte event log entry (R466). -/
structure LogEntry where
  no : Nat
  tai : Int
  code : Nat
  cls : Nat
  die : Nat
  block : Nat
  index : Nat
  count : Nat
  data : List Nat
  deriving DecidableEq, Repr

/-- One event log in M5: the next ENTRY_NO and the entries held, oldest first (R466). -/
structure EventLog where
  next : Nat
  entries : List LogEntry
  deriving DecidableEq, Repr

/-- A retirement record in M2 (R463). -/
structure RetRec where
  die : Nat
  level : Nat
  block : Nat
  index : Nat
  code : Nat
  tai : Int
  count : Nat
  deriving DecidableEq, Repr

/-- Fault hierarchy (chapter 22). -/
structure Faults where
  /-- Times of the faults of each element within its window, in ns of `now`, keyed by `faultKey` (R458, R459).
  Reset: none. -/
  counts : List (Nat × List Nat)
  /-- Retirement records (R463). Reset: none, DC. -/
  retired : List RetRec
  /-- A region is in its fault response (R460). Reset: false. -/
  regionResp : Vector Bool 8
  /-- A DIE reset of the region is due 100 ms after its stop (R461). Reset: false. -/
  regionDue : Vector Bool 8
  /-- The chip is in its fault response (R460). Reset: false. -/
  chipResp : Bool
  /-- A PWR reset is due 100 ms after the stop (R461). Reset: false. -/
  chipDue : Bool
  /-- The chip is retired (R461). Reset: false, DC. -/
  chipRetired : Bool
  /-- A reinstatement of the chip waits for the next PWR reset (R465). Reset: false. -/
  chipReinstate : Bool
  /-- Dies reinstated, released at the next site tick (R465). Reset: false. -/
  dieRelease : Vector Bool 8
  deriving DecidableEq, Repr

/-- Image staging in progress (R83): class and announced length. -/
structure Staging where
  cls : Nat
  len : Nat
  deriving DecidableEq, Repr

/-- A life-cycle restart that waits for its row (R80, R84, R85): whether the meter head restarts too, the new life-cycle
state with its wipe mask, and the owner key hash a transition to PROVISIONED records (R70). -/
structure Restart where
  meterToo : Bool
  newState : Option Nat
  mask : Nat
  ownerHash : List Byte
  deriving DecidableEq, Repr

/-- Images, banks and life cycle (chapter 3). State, banks, floors and MREGs are registers. -/
structure Lcs where
  /-- Image bytes, header then payload, by die × 16 + bank × 8 + class (R67, R68). Reset: absent, DC. -/
  images : List (Nat × List Byte)
  /-- Pairing certificates by die × 16 + bank × 8 + index (R67, R73, R83). Reset: absent, DC. -/
  certs : List (Nat × List Byte)
  /-- Staging job (R83). Reset: none. -/
  staging : Option Staging
  /-- Bytes of the job so far (R83). Reset: none. -/
  staged : List Byte
  /-- Bank and class, 6 the certificates, whose staging has begun and not ended; what a power cut leaves makes the bank
  invalid (R83). Reset: none, DC. -/
  torn : List (Nat × Nat)
  /-- Classes whose check is under way, 6 the certificates (R83). Reset: none. -/
  checking : List Nat
  /-- Owner configuration key hash of the life-cycle record (R70). Reset: absent, DC. -/
  ownerHash : List Byte
  /-- Wipe-pending mask of R80, bits M3 to M7 (0 to 4), Q0 to Q4 (5 to 9), root secret (10). Reset: 0, DC. -/
  wipeMask : Nat
  /-- The boot ROM has recorded a trial start (R85). Reset: false, DC. -/
  trialRec : Bool
  /-- Restart due (R80, R84, R85). Reset: none. -/
  restart : Option Restart
  /-- Measurement mismatches a port die reported in this start (R72). Reset: 0. -/
  mismatches : Vector Nat 8
  /-- A port die's report matched in this start (R72). Reset: false. -/
  reported : Vector Bool 8
  deriving DecidableEq, Repr

/-- A wrapped key in M4 (R99): IV, ciphertext, tag, and the attribute word and label it authenticates. -/
structure Blob where
  iv : List Byte
  ct : List Byte
  tag : List Byte
  attr : Word
  label : Nat
  deriving DecidableEq, Repr

/-- A key-store request (R35, R103). -/
structure KeyReq where
  who : Requester
  op : Nat
  slot : Nat
  target : Nat
  src : Nat
  dst : Nat
  aux : Nat
  len : Nat
  aad : Nat
  deriving DecidableEq, Repr

/-- Key store (chapter 4). Attributes and labels are registers. -/
structure Keys where
  /-- The 256-bit root secret of the KEEP domain (R86). Reset: absent, DC. -/
  root : Option (List Byte)
  /-- Key values of the slot cache by slot (R93). Reset: none, DC. -/
  cache : List (Nat × List Byte)
  /-- Current blobs in M4 by slot (R99). Reset: none, DC. -/
  current : List (Nat × Option Blob)
  /-- Pending blobs in M4 by slot (R100). Reset: none, DC. -/
  pend : List (Nat × Option Blob)
  /-- Slots that opened from their pending blob in this start (R101). Reset: none. -/
  fromPend : List Nat
  /-- Waiting requests in arrival order (R35). Reset: none. -/
  queue : List KeyReq
  /-- The running operation, with the key value present at its start (R97). Reset: none. -/
  running : Option (KeyReq × List Byte)
  /-- Banked operation registers KEY_OPC to KEY_OPRES, by bank × 8 + word (chapter 4). Reset: 0. -/
  ops : List (Nat × Word)
  /-- Key check values of the command keys of the roles READER to VENDOR (R116). Reset: 0, DC. -/
  kcv : Vector Word 5
  /-- OWNER the first write gave slots 48 to 63, kept in M4 (R94). Reset: none, DC. -/
  owned : List (Nat × Nat)
  /-- Times of entropy test failures, ns of `now` (R104). Reset: none. -/
  entropyFails : List Nat
  deriving DecidableEq, Repr

/-- Lockout state of one role (R119): consecutive BAD_TAG results, `now` at which a running lockout ends, and the length of
the last lockout in s, 0 for none. -/
structure Lockout where
  fails : Nat
  ends : Nat
  span : Nat
  deriving DecidableEq, Repr

/-- Command gate (chapter 5). Slots and their headers are window memory; counters are registers. -/
structure Gate where
  /-- Lockouts of READER to VENDOR (R119). Reset: none. -/
  lock : Vector Lockout 5
  /-- Command slot whose meter request is with the meter head (R124). Reset: none. -/
  meterSlot : Option (Fin 8)
  /-- The words the meter head answers with (R124). Reset: none. -/
  meterReply : List Word
  /-- Counters queued for the twin, sent within a site tick: roles (R117 step 6, R118). Reset: none. -/
  twinQueue : List Nat
  deriving DecidableEq, Repr

/-- One transmit timestamp (R319). -/
structure TsEntry where
  id : BitVec 16
  dom : Bool
  ts : Nat
  deriving DecidableEq, Repr

/-- A pulse output (R320): due time of the next edge, whether it is a rising edge of the pulse, output level. -/
structure PulseOut where
  due : Nat
  rise : Bool
  level : Bool
  deriving DecidableEq, Repr

/-- Time unit of one die (chapter 15). Counter, tally, epoch, tick and grid are registers. -/
structure Tsu where
  /-- Fraction below the nanosecond, in 2^-32 ns (R311). Reset: 0. -/
  frac : Nat
  /-- The correction c in force, ppt (R311). Reset: 0. -/
  corr : Int
  /-- Increments on their way: site tick of application, TCOMP and APPLIED (R311). Reset: none. -/
  queue : List (Nat × Int × Int)
  /-- Messages of the lead die on their way to this die: the tick of application, the lead die's counter and this die's own at
  the same tick, both with the fraction, TCOMP and APPLIED (R311). Reset: none. -/
  msgs : List (Nat × Nat × Nat × Int × Int)
  /-- The counter is copied from the lead die at the next tick (R311). Reset: false. -/
  resync : Bool
  /-- Latched TALLY and EPOCH by requester bank (R310). Reset: 0. -/
  latch : List (Nat × (BitVec 16 × DWord))
  /-- Pulse outputs (R320). Reset: off. -/
  po : Vector PulseOut 8
  deriving DecidableEq, Repr

/-- Time discipline of the lead die (chapter 15). -/
structure Servo where
  /-- Residuals of domains A and B in 10^-7 ns (R314). Reset: 0. -/
  resid : Vector Int 2
  /-- Residual writes that replace R_d at the next tick, ns (R314). Reset: none. -/
  pend : Vector (Option Int) 2
  /-- Rate last applied, ppt (R314). Reset: 0. -/
  rateLast : Int
  /-- Residual to the peer's device time while standby or held with the link up, 10^-7 ns (R455). Reset: none. -/
  peer : Option Int
  /-- A step accepted, EPOCH set at the next tick: the PTP time named (R317). Reset: none. -/
  step : Option Int
  /-- Part of a 1/32 768 s step the real-time clock has run, in 10^-6 steps (R318). Reset: 0, DC. -/
  rtcFrac : Nat
  /-- The tenth grid edge has come and its site tick has not (model's own; log entry 51). Reset: false. -/
  tickDue : Bool
  /-- The last frame each MAC received, with the device time in words 2 and 3 of its receive descriptor (R313). Reset: none. -/
  ethRx : Vector (Option (List Byte × Nat)) 2
  /-- Transmit timestamp queues of MAC 0 and 1 (R319). Reset: empty. -/
  tsq : Vector (List TsEntry) 2
  deriving DecidableEq, Repr

/-- One entry of a context's call stack (R209, R210): a return address, or a loop's first and last body address and the
iterations left, the running one included. -/
inductive StackEntry where
  | call (ret : Nat)
  | loop (first last left : Nat)
  deriving DecidableEq, Repr

/-- One hardware context of a loop engine (R166). WIN and the sticky flags are in OXE_CTXn_STAT. -/
structure CtxState where
  /-- V0 to V15 (R166). Reset: 0. -/
  v : Vector Word 16
  /-- ACC0 and ACC1 (R166). Reset: 0. -/
  acc : Vector DWord 2
  /-- Program counter (R166). Reset: 0. -/
  pc : Nat
  /-- Call stack of calls and loops, top first, at most eight deep (R166, R209, R210). Reset: empty. -/
  stack : List StackEntry
  /-- What a WAITING context waits for: event code, parameter, and the register that takes the outcome (R211). Reset:
  none. -/
  waiting : Option (Nat × Nat × Nat)
  /-- Executed cycles of the activation (R171). Reset: 0. -/
  cyc : Nat
  /-- Trigger events of the source since the contexts started (R169). Reset: 0. -/
  events : Nat
  /-- Selected triggers that the engine has not yet recognised (R169, R170). Reset: 0. -/
  owed : Nat
  /-- The activation resumes after WAIT, so its dispatch is counted (R171). Reset: false. -/
  resumed : Bool
  deriving DecidableEq, Repr

/-- A class 1 message queued by STR (R197): destination die, word, value. -/
structure StrMsg where
  dst : Nat
  word : Nat
  value : Word
  deriving DecidableEq, Repr

/-- One correlator bin (R183): phase, I, Q and N, and the set of I, Q and N that AUTO copied last. -/
structure CorBin where
  phase : Word
  i : DWord
  q : DWord
  n : Nat
  res : DWord × DWord × Nat
  deriving DecidableEq, Repr

/-- The override of one output path (R180, R181): V0, grid edges since it took effect, whether the port entered
CHARGING directly from IDLE, and whether an override was written since that entry. -/
structure OvrState where
  v0 : Nat
  edges : Nat
  direct : Bool
  written : Bool
  deriving DecidableEq, Repr

/-- Loop engine of one die (chapters 8 and 9). -/
structure Oxe where
  /-- Contexts C0 to C7 (R166). -/
  ctx : Vector CtxState 8
  /-- Received class 1 words by word address: value and tick (R195, R196). Reset: 0. -/
  remote : List (Nat × (Word × Word))
  /-- Messages STR has queued, oldest first (R197). Reset: none. -/
  sendq : List StrMsg
  /-- Word 0 of coefficient entries written and not yet taken by word 1 (R187). Reset: 0. -/
  coefLow : List (Nat × Word)
  /-- Event queues to HOST and SAFE: code and context, oldest first (R205). Reset: empty. -/
  evtHost : List (Nat × Nat)
  evtSafe : List (Nat × Nat)
  /-- Output path overrides of L0 to L3 (R180). -/
  ovr : Vector OvrState 4
  /-- DDS phase (R182). Reset: 0. -/
  dds : Word
  /-- PRBS-15 register (R182). Reset: 0x7FFF, DC. -/
  prbs : Nat
  /-- Multisine index (R182). Reset: 0. -/
  msIdx : Nat
  /-- Grid edges since the PRBS and multisine last advanced (R182). Reset: 0. -/
  divCnt : Nat
  /-- SYNC written, reset at the next grid edge (R182). Reset: false. -/
  sync : Bool
  /-- Correlator bins (R183). Reset: 0. -/
  bins : Vector CorBin 8
  /-- RUN set and the CRC of R188 not complete. Reset: false. -/
  crcBusy : Bool
  /-- The contexts are started (R188). Reset: false. -/
  started : Bool
  /-- Cells that delivered a result since RUN was set (R176). Reset: none. -/
  fresh : BitVec 72
  /-- Grid edges since the contexts started, for the timer source (R168, R169). Reset: 0. -/
  edges : Nat
  /-- The 72 latest-sample registers (R140, R176, R193). Reset: 0. -/
  sample : Vector Word 72
  /-- Correctable ECC errors of the engine's memories corrected so far; no register shows the count (R190). Reset: 0. -/
  eccCorr : Nat
  deriving DecidableEq, Repr

/-- One Stage Link (chapter 11). -/
structure StlPort where
  /-- The urgent frame in transmission: value, and whether an override (R256, R400). Reset: none. -/
  sending : Option (Word × Bool)
  /-- When it started, as activations and executed cycles of the port's owning context (R256; log entry 8). Reset: 0, 0. -/
  sentAt : Nat × Nat
  /-- The queued urgent frame not yet started (R208, R400). Reset: none. -/
  urgent : Option (Word × Bool)
  /-- Bytes of the last periodic and urgent frames sent (R255, R256). Reset: none. -/
  lastPer : List Byte
  lastUrg : List Byte
  /-- SEQ at the last release of the halt (R260). Reset: 0. -/
  relSeq : Nat
  /-- An absence of return frames has raised RXLOST and not ended (R261). Reset: false. -/
  absent : Bool
  /-- A valid return frame answered the last periodic frame (R261). Reset: false. -/
  answered : Bool
  /-- The last periodic frame is in transmission (R261; log entry 8). Reset: false. -/
  inPer : Bool
  /-- After a release: IDLE until the next regular start of a periodic frame (R260). Reset: false. -/
  gap : Bool
  /-- `now` at the last valid return frame, ns, for RX_OK (R261). Reset: 0. -/
  lastRx : Nat
  deriving DecidableEq, Repr

/-- Pilot cell and 10BASE-T1S port of one local port (chapter 11). -/
structure VehLink where
  /-- Decoded pilot state now agreeing, and for how many measurements (R244). Reset: 7, 0. -/
  cand : Nat
  agree : Nat
  /-- The last T1S frame sent (R242). Reset: none. -/
  t1sTx : List Byte
  deriving DecidableEq, Repr

/-- A change log entry (R413). -/
structure ChangeEntry where
  no : Nat
  tai : Int
  kind : Nat
  counter : DWord
  digest : List Byte
  prev : List Byte
  deriving DecidableEq, Repr

/-- Safety functions of one port as they run (chapter 19). -/
structure SafPort where
  /-- The configuration under which the port left IDLE (R412). -/
  cfg : Option PortCfg
  /-- Ramp stop under way: cause, ramp time in ms, i0 in nA, scans since the override took effect (R397, R398). -/
  ramp : Option (Nat × Nat × Int × Nat)
  /-- Consecutive scans above the envelope (R398). Reset: 0. -/
  above : Nat
  /-- Trip stop whose TRIP_OPEN runs (R399): scans since its decision. Reset: none. -/
  tripOpen : Option Nat
  /-- Consecutive readback mismatches of SOUT0 to SOUT3 (R396). Reset: 0. -/
  mism : Vector Nat 4
  /-- Mirror contact checks under way for SOUT0, SOUT1: scans since the drive changed (R396, R407). Reset: none. -/
  contact : Vector (Option Nat) 2
  /-- Times of fast trips, ns of `now` (R405). Reset: none. -/
  trips : List Nat
  /-- Degraded-mode causes not yet cleared, coded by quantity (R409). Reset: none, DC. -/
  degCauses : List Nat
  /-- DEG_LEFT has expired and its causes are not yet cleared (R409). Reset: false. -/
  degOut : Bool
  /-- Consecutive insulation measurements below ISO_FAULT (R403). Reset: 0. -/
  isoLow : Nat
  /-- U+ and U− of the first window, SOUT3 open (R403), in mV. Reset: none. -/
  isoA : Option (Nat × Nat)
  /-- Causes whose condition persists, one bit per code (R401). Reset: 0. -/
  active : BitVec 16
  /-- Consecutive scans in which the shunt, Hall and two voltage cells' last results carried INV (R409). Reset: 0. -/
  inv : Vector Nat 4
  /-- Grid edges of the running minute of DEG_LEFT (R409). Reset: 0. -/
  degEdges : Nat
  deriving DecidableEq, Repr

/-- Safety core of one die (chapter 19). -/
structure Saf where
  /-- Configuration stored in M2, its bytes and its fields (R412). Reset: absent, DC. -/
  stored : Option SafetyCfg
  raw : List Byte
  /-- Ports (R394 to R409). -/
  port : Vector SafPort 4
  /-- Times of wrong passwords, ns of `now` (R412). Reset: none. -/
  wrong : List Nat
  /-- Change log: next ENTRY_NO and at most 256 entries, oldest first (R413). Reset: empty, DC. -/
  logNext : Nat
  log : List ChangeEntry
  /-- Words of the safety core's SRAM corrected (R414). Reset: 0. -/
  eccCorr : Nat
  deriving DecidableEq, Repr

/-- Twin operation (chapter 21). Role, flags, generation and counters are registers. -/
structure Twin where
  /-- The role has not settled since the start (R439). Reset: true. -/
  starting : Bool
  /-- Both units carry the same strap (R443). Reset: false. -/
  clash : Bool
  /-- Consecutive missed heartbeats (R447). Reset: 0. -/
  missed : Nat
  /-- Cause of a detected loss waiting for the next tick: 1 heartbeats, 2 claim fell, 3 RELEASING (R447). Reset: 0. -/
  detect : Nat
  /-- The last record applied (R446). Reset: none. -/
  shadow : Option HandoverRec
  /-- RSEQ of the last record sent or applied (R444, R446). Reset: 0. -/
  rseq : Word
  /-- Consecutive discards, and consecutive good records while resynchronising (R446, R454). Reset: 0. -/
  discards : Nat
  good : Nat
  /-- Site ticks since SYNCED was set (R451). Reset: 0. -/
  syncedTicks : Nat
  /-- SLICE of the next record (R444). Reset: 0. -/
  slice : Nat
  /-- Change-stream items not yet sent, oldest first (R444). Reset: none. -/
  stream : List ChangeItem
  /-- The last record and heartbeat sent (R437, R444). Reset: none. -/
  sentRec : Option HandoverRec
  sentHb : Option Heartbeat
  /-- Planned handover asked (R451): 1 asked, 2 PLANNED record sent. Reset: 0. -/
  planned : Nat
  /-- After a planned handover this unit becomes HELD instead of STANDBY (R452 parameter 1). Reset: false. -/
  thenHeld : Bool
  /-- A claim waits for output enable (R447). Reset: false. -/
  enabling : Bool
  /-- The following check of R442 is under way. Reset: false. -/
  checking : Bool
  /-- The disconnection of R441 is in force. Reset: true, DC. -/
  cut : Bool
  /-- Slot 1 accepts one further write (R452). Reset: false. -/
  repair : Bool
  /-- The peer's last heartbeat: HEALTHY, RELEASING, SYNCED (R437). Reset: false. -/
  peerFlags : Bool × Bool × Bool
  /-- Nonce of the last training (R435). Reset: 0. -/
  nonce : Nat
  /-- The peer's safety configuration digests, CAL_ID and accepted generation (R454, R456). Reset: none. -/
  peerCfg : List Word
  peerCal : Word
  peerAcc : Byte
  /-- Time source of the peer (R455). Reset: 4. -/
  peerSrc : Nat
  /-- Meter MRAM regions copied in this resynchronisation (R454 step 3). Reset: none. -/
  copied : List Nat
  /-- The latch cells of this unit's disabled outputs hold (R448). Reset: false. -/
  latchHold : Bool
  /-- Latched INH pins, one bit per port (R448). Reset: all driven. -/
  inhLatch : BitVec 32
  /-- Latched load-switch outputs per die (R448). Reset: 0. -/
  lswLatch : Vector (BitVec 12) 8
  /-- A mains-loss notice has gone to the peer since the mains were last good (R51). Reset: false. -/
  lossNotice : Bool
  /-- The final notice of a power-down has gone to the peer (R53). Reset: false. -/
  finalNotice : Bool
  /-- Counters sent to the peer in the last site tick, with role and key check value (R117, R118). Reset: none. -/
  sentCtr : List (Nat × Word × DWord)
  deriving DecidableEq, Repr

/-- A committed or shadow sequence set (R132 to R134): entries, round period, scan masks, and the cell gains in force
when it was committed (R133), by cell. -/
structure SeqSet where
  ents : List Word
  period : Nat
  scans : Vector (BitVec 16) 4
  gains : List Nat
  deriving DecidableEq, Repr

/-- How a sequencer runs (R135, R137). -/
inductive SqRun where
  /-- Stopped. -/
  | stopped
  /-- RUN set; the first round has not started. -/
  | starting
  /-- Rounds run. -/
  | running
  /-- RUN cleared; the stop takes effect at the end of the round. -/
  | stopping
  deriving DecidableEq, Repr

/-- One sequencer (R132 to R137). Shadow and active registers are registers; `swap` says that the round under way
carries the lane-swap marker (R159). -/
structure Seqr where
  active : Option SeqSet
  pend : Option SeqSet
  /-- The set under check, and its outcome: REASON, 0 for none, and entry (R136). -/
  checking : Option (SeqSet × (Nat × Nat))
  run : SqRun
  swap : Bool
  /-- The next round is the first of a new holder (R159, R162, R163). -/
  swapNext : Bool
  /-- The position has no lane (R163). -/
  unserved : Bool
  /-- The first round waits for an edge of the 10 µs grid (R135, R155). -/
  wait : Bool
  /-- No result of the round under way has been delivered (R159; log entry 111). -/
  atStart : Bool
  /-- The holder has been retired by command: the newcomer takes the position at the next round boundary (R165). -/
  relieve : Bool
  /-- Conversions of the position have been lost with its lane and not yet been replaced on the meter path (R163). -/
  lossy : Bool
  /-- Conversions of the round passed by the results delivered, and device time of the round's start as they tell it (R163). -/
  slot : Nat
  base : Nat
  deriving DecidableEq, Repr

/-- A system-calibration collection (R149, R150): cell, gain code, step, N, sum of 16 × r over the conversions, how
many, and for a collection of the meter head's port its target code (R151); device time of the write of GO. -/
structure Collection where
  cell : Nat
  gain : Nat
  step : Nat
  n : Nat
  sum : Int
  count : Nat
  meter : Option Int
  since : Nat
  deriving DecidableEq, Repr

/-- The meter head's own calibration port (R151): held zero, STATUS of its last step, and whether that ended on the converter's
rail. -/
structure CalPort where
  zero : Option (Nat × Nat × Int)
  status : Nat
  satAbort : Bool
  deriving DecidableEq, Repr

/-- Comparison of one cell and gain in an overlap (R158): valid pairs, sum of d, peak |d|. -/
structure Pairs where
  cell : Nat
  gain : Nat
  n : Nat
  sum : Int
  peak : Nat
  deriving DecidableEq, Repr

/-- A converter lane's correction sets (R152). -/
structure LaneState where
  working : Option CorrSet
  fresh : Option CorrSet
  /-- A self-calibration runs (R153). -/
  calBusy : Bool
  /-- `now` when the fresh and the working set were calibrated, ns, for AGE. -/
  freshAt : Nat
  workAt : Nat
  /-- Suspected by a disagreement, so that SUSPECT waits for a passed overlap (R162). -/
  doubt : Bool
  deriving DecidableEq, Repr

/-- Measurement front end of one die (chapters 6 and 7). -/
structure Adc where
  /-- SQ0 and SQ1. Reset: no set, stopped. -/
  sq : Vector Seqr 2
  /-- CV0 to CV2 (R152). Reset: no set, self-calibrating (R155). -/
  lane : Vector LaneState 3
  /-- `now` when each lane entered service, ns, for the longest-serving choice (R156). Reset: 0. -/
  served : Vector Nat 3
  /-- Coefficient pairs OFS, GAIN by cell × 6 + gain (R149). Reset: 0, 0x1_0000 (or M6, Q3: DC). -/
  coef : List (Nat × (Int × Nat))
  /-- Collection under way (R149). Reset: none. -/
  coll : Option Collection
  /-- Held zero: cell, gain, OFS (R149). Reset: none. -/
  zero : Option (Nat × Nat × Int)
  /-- Pair to take effect at the next round boundary: cell, gain, OFS, GAIN (R149). Reset: none. -/
  newPair : Option (Nat × Nat × Int × Nat)
  /-- The pair last replaced: cell × 6 + gain, the old pair, and the device time of the boundary it held until (R149). Reset: none. -/
  oldPair : Option (Nat × (Int × Nat) × Nat)
  /-- The meter head's calibration port (R151). Reset: no zero, status 0. -/
  mcal : CalPort
  /-- Coefficients changed and not yet written to M6 within 1 ms are written at once; M6 copy (R149). Reset: none, DC. -/
  m6 : List (Nat × (Int × Nat))
  /-- Last accepted value of the meter path by cell, and whether it is a replacement (R142, R163). Reset: 0. -/
  mtrLast : List (Nat × Int × Bool)
  /-- Time of the end of the last diagnostic conversion by cell, in CONV cycles (R142). Reset: none. -/
  diagEnd : List (Nat × Option Nat)
  /-- Result of the holder waiting for the newcomer's of the same conversion, and comparisons (R157, R158). -/
  pairs : List Pairs
  /-- Results not yet paired, of the holder and of the newcomer: entry, cell, sample edge, r in sixteenths, usable (R158). Reset: none. -/
  held : List (Nat × Nat × Nat × Int × Bool)
  came : List (Nat × Nat × Nat × Int × Bool)
  /-- A rotation is due and has not been made (R156, R157). Reset: false. -/
  rotDue : Bool
  /-- Main reference usable (R147): conversions started now carry LANE = 0b11 while false. Reset: false. -/
  refOk : Bool
  /-- Device time when REF_READY last rose and last fell, ns (R138, R148). Reset: 0. -/
  refUp : Nat
  refDown : Nat
  deriving DecidableEq, Repr

/-- Integration of one port in its die's meter core (R342 to R344). Energies in 2^-32 mWh. -/
structure PortMeter where
  /-- Newest accepted voltage code and whether there is one (R342). -/
  u : Option Int
  /-- Time of the last accepted current sample, ns (R342). -/
  last : Option Nat
  /-- Last accepted current code, for the tamper and log data. -/
  i : Int
  /-- Last accepted code of the Hall cell (R142, R361). -/
  hall : Option Int
  /-- Running sums of A+, A− and L not yet acknowledged (R344). -/
  ap : Nat
  am : Nat
  l : Nat
  /-- Sums of the message in flight (R344). -/
  sent : Nat × Nat × Nat
  /-- Sums of samples at or after an announced boundary (R378). -/
  next : Nat × Nat × Nat
  /-- A gap or a swap to be marked (R343, R349). -/
  gap : Bool
  swaps : Nat
  deriving DecidableEq, Repr

/-- A meter core's message numbering (R344): the sequence number of the message in flight, and of the last one made. -/
structure CoreLink where
  inFlight : Option Nat
  seq : Nat
  deriving DecidableEq, Repr

/-- An open session of a port (R353, R355). -/
structure Session where
  ap : Nat
  am : Nat
  l : Nat
  startUtc : Int
  src : Nat
  flags : Nat
  bidir : Bool
  deriving DecidableEq, Repr

/-- A load profile (R350): entries held, oldest first, next ENTRY_NO, start of the open interval in UTC ms, register
values at its start by channel (none while no interval is open), and STATUS bits that held in it (R352). An outage inside
the interval moves its start forward by its length, since DURATION excludes it (R382). -/
structure Profile where
  entries : List ProfEntry
  next : Nat
  start : Int
  base : List Nat
  status : Nat
  deriving DecidableEq, Repr

/-- A register-set transaction of the meter head in its journal (R345, R380): whether its commit marker is written, the
registers by ID, the sequences and the UTC ms of the commit. -/
structure Journal where
  marked : Bool
  regs : List (Nat × Nat)
  seqs : Vector Nat 8
  time : Int
  deriving DecidableEq, Repr

/-- Meter head (chapters 17 and 18). -/
structure Meter where
  /-- Meter cores: the ports' integration and the links to the head (R341, R344). -/
  port : Vector PortMeter 32
  core : Vector CoreLink 8
  /-- Last sequence committed and last received of each die (R344). Reset: 0, DC. -/
  committed : Vector Nat 8
  received : Vector Nat 8
  /-- Energy registers by ID in 2^-32 mWh, working set and the set committed to Q0 (R345, R348). Reset: 0, DC. -/
  energy : List (Nat × Nat)
  q0 : List (Nat × Nat)
  /-- Increments from an announced boundary on, held aside by ID (R378, R379). Reset: none. -/
  aside : List (Nat × Nat)
  /-- Newest codes of cells 64 to 71 (R346). Reset: none. -/
  siteCode : Vector (Option Int) 8
  siteLast : Vector (Option Nat) 3
  /-- Parameters in force (Q3), changes waiting for the next site tick and for the next start (R363). Reset: DC. -/
  params : Vector PortParam 32
  site : SiteParam
  pendParam : List (Nat × List Word)
  pendSite : List (Nat × List Word)
  /-- Open sessions and session counts (R353, R354). Reset: none; 0, DC. -/
  session : Vector (Option Session) 32
  sessCount : Vector Nat 32
  /-- Records whose stop values are taken and which are not yet signed and written (R353, R357). Reset: none, DC. -/
  due : List SessionRecord
  /-- Records of Q2, oldest first, and the next RECNO (R353). Reset: none; 0, DC. -/
  records : List SessionRecord
  recno : Nat
  /-- P1 and P2 (R350). Reset: empty, DC. -/
  p1 : Profile
  p2 : Profile
  /-- Demand interval: start in UTC ms, site import at its start; demand of the last closed interval in W (R376). -/
  demStart : Int
  demBase : Nat
  demand : Nat
  /-- Maximum demand, total then T1 to T8: W and interval end (R376). Reset: 0, DC. -/
  maxDem : List (Nat × Int)
  /-- Rate in force, 1 to 8 (R370). Reset: 1, DC. -/
  rate : Nat
  /-- Almanac and passive calendar (R371, R374). Reset: none, DC. -/
  almanac : Option Calendar
  passive : Option Calendar
  /-- The passive calendar becomes the almanac at the next boundary (R374). Reset: false. -/
  actNext : Bool
  /-- Billing period counter, start, sets, last closed end (R377, R385). Reset: 0, DC. -/
  bpc : Nat
  billStart : Int
  bills : List BillSet
  lastBill : Int
  /-- The meter head's own UTC offset (R369). Reset: 37, DC. -/
  utcOfs : Int
  /-- Meter event log and tamper log, and tamper counts by code (R362). Reset: empty, DC. -/
  evLog : List MeterLogEntry
  evNext : Nat
  tpLog : List MeterLogEntry
  tpNext : Nat
  tpCount : List (Nat × Nat)
  /-- Tampers declared and not ended: code and port, 0xFF the site (R361). Reset: none, DC. -/
  tampers : List (Nat × Nat)
  /-- Reason of the last refused calendar (R372). Reset: 0. -/
  calReason : Nat
  /-- Announced boundary in UTC ms (R378). Reset: none. -/
  announced : Option Int
  /-- Clock reading before the last backward step: time before it is repeated time (R385), UTC ms. Reset: none, DC. -/
  repeatTo : Option Int
  /-- UTC ms of the last commit to Q0 (R345, R380). Reset: 0, DC. -/
  lastCommit : Int
  /-- Power-down instant t_d in UTC ms (R381); the restoration is still due (R382). Reset: none, DC. -/
  td : Option Int
  restoring : Bool
  /-- Registers as at t_d, and whether the head integrated in time source 4 since its start (R382). Reset: none; false. -/
  tdRegs : List (Nat × Nat)
  doubt : Bool
  /-- Balances in Wh, HIGH, and spent identities by account (R386, R390). Reset: 0, DC. -/
  balance : List (Nat × Int)
  high : List (Nat × Nat)
  spent : List (Nat × List Nat)
  /-- Sessions bound to accounts, and the A+ value at the last debit by port (R386). Reset: none, DC. -/
  bound : List (Nat × Nat)
  debited : List (Nat × Nat)
  /-- Accounts whose account event is raised (R386). Reset: none, DC. -/
  acctEvents : List Nat
  /-- A token waiting for the end of a boundary commit: account, ID, AMOUNT (R389). Reset: none. -/
  token : Option (Nat × Nat × Nat)
  /-- Result of the last token (R389). Reset: none. -/
  tokenResult : Option Nat
  /-- Open associations: interface 0 TCP, 1 HDLC, and role code (R365). Reset: none. -/
  assoc : List (Nat × Nat)
  /-- Last accepted invocation counter by role (R366). Reset: 0, DC. -/
  invoc : List (Nat × Nat)
  /-- Own increments since the last handover record, by register ID (R358, R360). Reset: 0. -/
  sinceRec : List (Nat × Nat)
  /-- Window sums of both units and windows in disagreement, by register ID; item 255 of a port counts for its tampers (R359).
  Reset: 0. -/
  winOwn : List (Nat × Nat)
  winPeer : List (Nat × Nat)
  winBad : List (Nat × Nat)
  /-- Tampers the peer has declared, from its last accepted record: code and port (R359; log entry 88). Reset: none, DC. -/
  peerTampers : List (Nat × Nat)
  /-- STATUS of the last reply to a read, and the reply's words (R364). Reset: none. -/
  reply : List Word
  /-- Cores stopped by a reset or for a new image: since when, ns of `now`, and their last power in W (R84, R345, code
  0x05). Reset: none. -/
  down : Vector (Option (Nat × Int)) 8
  /-- The meter head runs (R66, LCS_BOOT.METER_RUN). Reset: false. -/
  running : Bool
  /-- The transaction that a loss of supply cut short (R55, R380; log entry 69). Reset: none, DC. -/
  journal : Option Journal
  deriving DecidableEq, Repr

/-- What the first half of an allocation solve hands to the second (R217, R223 to R227). -/
structure AllocPhase where
  /-- Base of the parameter block read (R222) and the PSEL word. -/
  blk : Nat
  psel : Word
  f : Int
  kg : Int
  t : Int
  cGrid : Int
  dis : List Int
  chg : List Int
  up : List Int
  down : List Int
  bufLost : List Bool
  lost : Nat
  deriving DecidableEq, Repr

/-- Site allocation on the lead die (chapter 10): what C4 keeps among its state words beside E, F_SUM, F_CNT and the
shares, which are words of its data window (R221). -/
structure Alloc where
  /-- Site tick of the last solve's first half (R224, first solve). Reset: none. -/
  lastTick : Option Nat
  /-- G0_SEQ and G1_SEQ last seen, ticks since each changed, and whether each is lost (R224, R238). Reset: 0. -/
  seq : Vector Word 2
  age : Vector Nat 2
  lost : Vector Bool 2
  /-- Live SEQ last seen and its age, last measured power and its INV age, by buffer (R227, R238). Reset: 0. -/
  bufSeq : Vector Word 4
  bufAge : Vector Nat 4
  bufP : Vector Int 4
  bufInv : Vector Nat 4
  /-- Ticks each port has been held, its last allocation, and its last PMEAS and IMEAS (R238). Reset: 0. -/
  hold : Vector Nat 32
  last : Vector Nat 32
  pmeas : Vector Int 32
  imeas : Vector Nat 32
  /-- Buffer setpoints last sent, W (R235, R444). Reset: 0. -/
  setp : Vector Int 4
  /-- The second half is due at the next grid edge (R217 step 4). Reset: none. -/
  due : Option AllocPhase
  deriving DecidableEq, Repr

/-- Thermometry of one port (chapter 12). R20 and T_EST are words of C5's window (R276). -/
structure Copper where
  /-- Consecutive rejections with the conditions of R267 met (R268). Reset: 0. -/
  rejects : Nat
  /-- SENSE_BAD (R268). Reset: false. -/
  senseBad : Bool
  /-- The next result is rejected: SYNC written, or a switch-over (R275). Reset: false. -/
  skip : Bool
  /-- M3 record: R0 and R20 in nΩ, T0 in 0.01 °C (R269). Reset: none, DC. -/
  ref : Option (Nat × Nat × Int)
  /-- M3 record: identity of the cable the reference was taken with (R269). Reset: 0, DC. -/
  refCable : Word
  /-- No result has been accepted for 30 s of CHARGING (R273). Reset: false. -/
  fallback : Bool
  /-- The model runs since the DIE reset; its fraction of T_EST below 0.01 °C, in 2^-32 (R271). Reset: false, 0. -/
  warm : Bool
  tFrac : Int
  /-- T_SEQ last used (R271). Reset: 0. -/
  seqSeen : Int
  /-- Shunt codes since the last activation, and how many (R271). Reset: 0. -/
  iSum : Int
  iN : Nat
  /-- Mean shunt current of the last activation of C5, mA (R267, R271). Reset: 0. -/
  mean : Nat
  /-- INJ_OFF: the injection has been suspended since HOST's last result (R267). Reset: false. -/
  injOff : Bool
  /-- The falling limit of a loss of cooling, in 10^-4 mA (R265). Reset: none. -/
  cap : Option Nat
  deriving DecidableEq, Repr

/-- Coolant loop of one die (R265). -/
structure Cooling where
  /-- Loss of cooling in force (R265). Reset: false. -/
  loss : Bool
  /-- 120 s have passed with no port between CABLE_CHECK and WELD_CHECK (R265). Reset: true, DC. -/
  idle : Bool
  /-- Integrator of the fan loop (R265). Reset: 0. -/
  fanInt : Int
  port : Vector Copper 4
  deriving DecidableEq, Repr

/-- Power-line modems of one die (chapter 13). -/
structure Plc where
  /-- Program memory of the modem engines (R279). Reset: empty. -/
  prog : List Byte
  /-- Tone maps by modem: destination, its ROBO mode, its consecutive failed frames that are not impulse-hit (R278). Reset: empty. -/
  tone : Vector (List (Nat × Nat × Nat)) 4
  /-- Running mean square of each receiver's samples in steps of 2^-20, and samples still to be blanked; the fifth is the herd line
  modem's (R281). Reset: 0. -/
  rms : Vector Nat 5
  ext : Vector Nat 5
  /-- The last acknowledgement reports every block of its frame as failed, by modem (R282). Reset: false. -/
  nack : Vector Bool 4
  deriving DecidableEq, Repr

/-- Attenuation sets of a sounding run at the meter head (R283, R284): run identifier, port and the attenuation profile in dB. -/
structure SlacSet where
  run : Nat
  port : Nat
  profile : List Nat
  deriving DecidableEq, Repr

/-- A frame to a node awaiting its reply (R288): node, sequence, payload, retransmissions made, whether the last copy has
already counted in a run, and whether the node has answered at all. -/
structure HerdPoll where
  node : Nat
  seq : Nat
  payload : List Byte
  retries : Nat
  counted : Bool
  answered : Bool
  deriving DecidableEq, Repr

/-- Herd line master (R286 to R290). -/
structure Herd where
  /-- Frame awaiting a reply (R288). Reset: none. -/
  poll : Option HerdPoll
  /-- `now` at each node's last impulse-hit or failed frame, ns, for QUIET (R290). Reset: 0. -/
  quiet : Vector Nat 30
  /-- Consecutive unanswered polls by node − 1 (R290). Reset: 0. -/
  missed : Vector Nat 30
  /-- Broadcast under way: payload, sequence, copies left (R289). Reset: none. -/
  bcast : Option (List Byte × Nat × Nat)
  /-- Sequence field of the next frame (R287). Reset: 0, DC. -/
  seq : Nat
  /-- The last frame sent: header word, payload with its CRC, and the payload's whole symbols (R287). Reset: none. -/
  sent : Option (Word × List Byte × Nat)
  deriving DecidableEq, Repr

/-- Attempts of one frame on the bus (R300, R302): attempts made, position of their bit errors while all agree. -/
structure CanTry where
  tries : Nat
  pos : Option Nat
  clash : Bool
  deriving DecidableEq, Repr

/-- One CAN FD controller (chapter 14). -/
structure Can where
  /-- Attempts made of each pending buffer's frame, by buffer (R300, R302). Reset: none. -/
  tries : List (Nat × CanTry)
  /-- Waiting for 128 occurrences of 11 recessive bits (R301). Reset: false. -/
  recover : Bool
  /-- Run of receive errors: identifier, extended, position, length (R303). Reset: none. -/
  run : Option (Nat × Bool × Nat × Nat)
  /-- Good frames of the candidate in succession (R304). Reset: 0. -/
  good : Nat
  /-- A reference message is queued (R305). Reset: false. -/
  refDue : Bool
  deriving DecidableEq, Repr

/-- A sample of a unit's stream (R323, R324): result word and device time of its edge. -/
structure AcqSample where
  word : Word
  t : Nat
  /-- A sequence commit has applied since the sample before (R337). -/
  chg : Bool
  deriving DecidableEq, Repr

/-- A trigger placed on a segment (R332, R337). -/
structure AcqTrig where
  time : Nat
  src : Nat
  group : Option Nat
  firerUnit : Nat
  firerDie : Nat
  deriving DecidableEq, Repr

/-- One unit of an acquisition engine (R323 to R337). -/
structure AcqUnit where
  /-- Words of the stream seen since arming, for decimation (R323). Reset: 0. -/
  decim : Nat
  /-- Delay line: the last 64 samples, oldest first (R327). Reset: empty. -/
  line : List AcqSample
  /-- Samples written since arming (U0, U1) or into the open segment (R327, R328). Reset: 0. -/
  n : Nat
  /-- Time of sample 0 of the open segment, and of the samples around the trigger point (R332, R337). -/
  t0 : Nat
  /-- The trigger of the open segment, its index and fraction once placed (R332). Reset: none. -/
  trig : Option AcqTrig
  place : Option (Nat × Nat)
  /-- The last sample at or before the trigger, and its time, while sample i + 1 is awaited (R332). -/
  before : Option (Nat × Nat)
  /-- Samples still to write (R327, R328). Reset: 0. -/
  left : Nat
  /-- Flags of the segment: SWAP, SAT, OW, INV, SEQCHG, OVF (R337). Reset: 0. -/
  flags : BitVec 6
  /-- First sample with the swap marker (R338). Reset: none. -/
  swapIdx : Option Nat
  /-- Last word of TCELL and its time; the crossing is primed for rising, falling (R332). Reset: none. -/
  lvl : Option (Int × Nat)
  rising : Bool
  falling : Bool
  /-- Times and flags of the samples held in U0 and U1's ring, oldest first (R328, R337). Reset: empty. -/
  ring : List (Nat × BitVec 6)
  /-- A sequence commit has applied since the last sample kept (R337, R340). Reset: clear. -/
  chg : Bool
  /-- Time at which the unit's own source fired for its group, until the group fires (R333, R334). Reset: none. -/
  own : Option Nat
  deriving DecidableEq, Repr

/-- Acquisition engine of one die (chapter 16). -/
structure Acq where
  unit : Vector AcqUnit 8
  deriving DecidableEq, Repr

/-- One trigger group (R333, R334): the members that recorded and are not ARMED again, by die × 8 + unit. -/
structure AcqGroup where
  wait : List Nat
  deriving DecidableEq, Repr

/-- One load-switch channel (chapter 20). State code, counts and sensors are registers. -/
structure LswChan where
  /-- `now` at the opening of the inrush window, ns (R420). Reset: none. -/
  window : Option Nat
  /-- Time held within the window, ns, and since when a retry is held (R421). Reset: 0, none. -/
  held : Nat
  since : Option Nat
  /-- Switched off between inrush retries (R420). Reset: false. -/
  gap : Bool
  /-- Times of the shorts in the restart window, ns (R422). Reset: none. -/
  shorts : List Nat
  /-- Time of the latch, for the frozen count (R424). Reset: none. -/
  frozen : Option Nat
  /-- Duty in force in the running PWM period, 0 to 10 000 (R418). Reset: 0. -/
  duty : Nat
  /-- The request as last judged (R420). Reset: false. -/
  req : Bool
  /-- The channel was switched off by the group (R425). -/
  groupOff : Bool
  deriving DecidableEq, Repr

/-- Load switches and thermal protection of one die (chapter 20). -/
structure Lsw where
  chan : Vector LswChan 12
  /-- Shut-down times kept in M2, ns of `now` (R432). Reset: none, DC. -/
  downs : List Nat
  /-- Reference correction in force, ppb (R433). Reset: 0. -/
  refComp : Int
  /-- Sum of the samples of sensor 0 since the last site tick, 1/16 °C, and how many (R433). Reset: 0. -/
  t0sum : Int
  t0n : Nat
  deriving DecidableEq, Repr

/-- The state of the block. -/
structure State where
  /-- Commands waiting, first in first out (model's own). Reset: empty. -/
  pending : List Instr
  /-- The register file by bus address; an unlisted register reads its reset value (R9, R20, R22). Reset: nothing
  listed. -/
  regs : List (Nat × Word)
  /-- Byte memories: host SRAM, window, engine memories, CAN message RAM, capture SRAM, MRAM scratch (R19, R22, R193,
  R295, R325); an unlisted byte reads 0 (R21). Reset: nothing listed. -/
  mem : List Host.Cell
  /-- Words of the engine memories, CAN message RAM and the window in which an ECC error stands that no access has met: key, and whether
  it is uncorrectable (R190, R306, SMW_ERR; log entry 116). Reset: none. -/
  upsets : List (Nat × Bool)
  /-- Draw counter of the free values (model's own; log entry 3). Reset: 0, DC. -/
  freeIdx : Nat
  /-- Elapsed time since the model's start in ns, advanced by GRID_EDGE (model's own; log entry 6). Reset: 0. -/
  now : Nat
  /-- Package and supplies. -/
  pkg : Pkg
  /-- Supply monitors and strap. -/
  sup : Supply
  /-- Event logs: die logs, the lead die's being the package log (R466). Reset: empty, DC. -/
  logs : Vector EventLog 8
  faults : Faults
  lcs : Lcs
  keys : Keys
  gate : Gate
  tsu : Vector Tsu 8
  servo : Servo
  oxe : Vector Oxe 8
  stl : Vector (Vector StlPort 4) 8
  veh : Vector (Vector VehLink 4) 8
  saf : Vector Saf 8
  twin : Twin
  adc : Vector Adc 8
  /-- Meter cores and meter head (chapters 17, 18). -/
  meter : Meter
  alloc : Alloc
  cool : Vector Cooling 8
  plc : Vector Plc 8
  /-- Attenuation sets at the meter head, by arrival (R283, R284). Reset: none. -/
  slac : List SlacSet
  herd : Herd
  can : Vector (Vector Can 2) 8
  acq : Vector Acq 8
  /-- Trigger groups of the lead die (R333). -/
  group : Vector AcqGroup 8
  lsw : Vector Lsw 8
  /-- Words the last host port or window read returned to the host (R111, R126). Reset: none. -/
  hpiOut : List Word
  /-- The last access fault raised in a requesting core: which core, and the address (R24, R95). Reset: none. -/
  coreFault : Option (Requester × Nat)
  deriving DecidableEq, Repr

-- Causes that drive a port's INH pin, by bit of `Pkg.inh`.
namespace Inh
def trip : Fin 12 := 0        -- latched trip bit of the port (R37, R39)
def safe : Fin 12 := 1        -- trip stop of the safety core (R399)
def pwrDown : Fin 12 := 2     -- PWR_DOWN (R52)
def hold : Fin 12 := 3        -- HOLD (R76)
def reset : Fin 12 := 4       -- reset or start of the die, until ports are released (R55, R260)
def rootLock : Fin 12 := 5    -- loss of root lock (R18)
def thermal : Fin 12 := 6     -- thermal shut-down (R430)
def state : Fin 12 := 7       -- row of the port's state in R247
def adcReset : Fin 12 := 8    -- BLK reset of the ADC block (R137)
def unserved : Fin 12 := 9    -- unserved sequence with one lane left (R164)
def diag : Fin 12 := 10       -- safety diagnostic (R414)
def lifeCycle : Fin 12 := 11  -- BLANK or RETIRED, no root secret (R77, R92)
end Inh

/-- A context after reset. -/
def CtxState.init : CtxState :=
  { v := Vector.replicate 16 0, acc := Vector.replicate 2 0, pc := 0, stack := [], waiting := none,
    cyc := 0, events := 0, owed := 0, resumed := false }

/-- A loop engine after reset (R21). -/
def Oxe.init : Oxe :=
  { ctx := Vector.replicate 8 CtxState.init, remote := [], sendq := [], coefLow := [], evtHost := [], evtSafe := [],
    ovr := Vector.replicate 4 { v0 := 0, edges := 0, direct := false, written := false },
    dds := 0, prbs := 0x7FFF, msIdx := 0, divCnt := 0, sync := false,
    bins := Vector.replicate 8 { phase := 0, i := 0, q := 0, n := 0, res := (0, 0, 0) },
    crcBusy := false, started := false, fresh := 0, edges := 0, sample := Vector.replicate 72 0, eccCorr := 0 }

/-- A Stage Link after reset. -/
def StlPort.init : StlPort :=
  { sending := none, sentAt := (0, 0), urgent := none, lastPer := [], lastUrg := [], relSeq := 0, absent := false, answered := false,
    inPer := false, gap := false, lastRx := 0 }

/-- A sequencer after reset. -/
def Seqr.init : Seqr :=
  { active := none, pend := none, checking := none, run := .stopped, swap := false, swapNext := false,
    unserved := false, wait := false, atStart := false, relieve := false, lossy := false, slot := 0, base := 0 }

/-- A converter block after reset: all lanes self-calibrate (R155). -/
def Adc.init : Adc :=
  { sq := Vector.replicate 2 Seqr.init,
    lane := Vector.replicate 3 { working := none, fresh := none, calBusy := true, freshAt := 0, workAt := 0, doubt := false },
    served := Vector.replicate 3 0, coef := [], coll := none, zero := none, newPair := none,
    oldPair := none, mcal := { zero := none, status := 0, satAbort := false }, m6 := [], mtrLast := [], diagEnd := [],
    pairs := [], held := [], came := [], rotDue := false, refOk := false, refUp := 0, refDown := 0 }

/-- A port's safety functions after reset. -/
def SafPort.init : SafPort :=
  { cfg := none, ramp := none, above := 0, tripOpen := none, mism := Vector.replicate 4 0,
    contact := Vector.replicate 2 none, trips := [], degCauses := [], degOut := false, isoLow := 0, isoA := none,
    active := 0, inv := Vector.replicate 4 0, degEdges := 0 }

/-- A safety core after reset. -/
def Saf.init : Saf :=
  { stored := none, raw := [], port := Vector.replicate 4 SafPort.init, wrong := [], logNext := 0, log := [], eccCorr := 0 }

/-- A time unit after reset. -/
def Tsu.init : Tsu :=
  { frac := 0, corr := 0, queue := [], msgs := [], resync := false, latch := [],
    po := Vector.replicate 8 { due := 0, rise := false, level := false } }

/-- The twin block after reset. -/
def Twin.init : Twin :=
  { starting := true, clash := false, missed := 0, detect := 0, shadow := none, rseq := 0, discards := 0,
    good := 0, syncedTicks := 0, slice := 0, stream := [], sentRec := none, sentHb := none, planned := 0,
    thenHeld := false, enabling := false, checking := false, cut := true, repair := false,
    peerFlags := (false, false, false), nonce := 0, peerCfg := [], peerCal := 0, peerAcc := 0, peerSrc := 4,
    copied := [], latchHold := false, inhLatch := BitVec.allOnes 32,
    lswLatch := Vector.replicate 8 0, lossNotice := false, finalNotice := false, sentCtr := [] }

/-- A port's meter integration after reset. -/
def PortMeter.init : PortMeter :=
  { u := none, last := none, i := 0, hall := none, ap := 0, am := 0, l := 0, sent := (0, 0, 0), next := (0, 0, 0), gap := false, swaps := 0 }

/-- Meter parameters of a port before any are set. -/
def PortParam.init : PortParam :=
  { mapped := false, map := 0, vscale := 0, iscale := 0, hscale := 0, rCl := 0, creep := none }

/-- Site meter parameters before any are set: the defaults of R363. -/
def SiteParam.init : SiteParam :=
  { site := 0, vscale := 0, iscale := 0, creep := 0, p1Chan := [], p2Int := 5, p2Chan := [], twinTol := 10,
    slacMargin := 10, hdlcAddr := 0x10, baud := 9600, nacc := 0, amounts := [], tokenSlot := 0 }

/-- An empty load profile. -/
def Profile.init : Profile := { entries := [], next := 0, start := 0, base := [], status := 0 }

/-- The meter head after reset. -/
def Meter.init : Meter :=
  { port := Vector.replicate 32 PortMeter.init, core := Vector.replicate 8 { inFlight := none, seq := 0 },
    committed := Vector.replicate 8 0, received := Vector.replicate 8 0, energy := [], q0 := [], aside := [],
    siteCode := Vector.replicate 8 none, siteLast := Vector.replicate 3 none,
    params := Vector.replicate 32 PortParam.init, site := SiteParam.init, pendParam := [], pendSite := [],
    session := Vector.replicate 32 none, sessCount := Vector.replicate 32 0, due := [], records := [], recno := 0,
    p1 := Profile.init, p2 := Profile.init, demStart := 0, demBase := 0, demand := 0, maxDem := [], rate := 1,
    almanac := none, passive := none, actNext := false, bpc := 0, billStart := 0, bills := [], lastBill := 0,
    utcOfs := 37, evLog := [], evNext := 0, tpLog := [], tpNext := 0, tpCount := [], tampers := [], calReason := 0,
    announced := none, repeatTo := none, lastCommit := 0, td := none, restoring := false, tdRegs := [], doubt := false, acctEvents := [], balance := [], high := [], spent := [],
    bound := [], debited := [], token := none, tokenResult := none, assoc := [], invoc := [], sinceRec := [],
    winOwn := [], winPeer := [], winBad := [], peerTampers := [], reply := [], down := Vector.replicate 8 none, running := false,
    journal := none }

/-- The allocation's own state after reset. -/
def Alloc.init : Alloc :=
  { lastTick := none, seq := Vector.replicate 2 0, age := Vector.replicate 2 0, lost := Vector.replicate 2 false,
    bufSeq := Vector.replicate 4 0, bufAge := Vector.replicate 4 0, bufP := Vector.replicate 4 0,
    bufInv := Vector.replicate 4 0, hold := Vector.replicate 32 0, last := Vector.replicate 32 0,
    pmeas := Vector.replicate 32 0, imeas := Vector.replicate 32 0, setp := Vector.replicate 4 0, due := none }

/-- A port's thermometry after reset. -/
def Copper.init : Copper :=
  { rejects := 0, senseBad := false, skip := false, ref := none, refCable := 0, fallback := false, warm := false,
    tFrac := 0, seqSeen := 0, iSum := 0, iN := 0, mean := 0, injOff := false, cap := none }

/-- A die's coolant loop after reset. -/
def Cooling.init : Cooling := { loss := false, idle := true, fanInt := 0, port := Vector.replicate 4 Copper.init }

/-- The modems of a die after reset. -/
def Plc.init : Plc :=
  { prog := [], tone := Vector.replicate 4 [], rms := Vector.replicate 5 0, ext := Vector.replicate 5 0, nack := Vector.replicate 4 false }

/-- The herd line master after reset. -/
def Herd.init : Herd := { poll := none, quiet := Vector.replicate 30 0, missed := Vector.replicate 30 0, bcast := none, seq := 0, sent := none }

/-- A CAN FD controller after reset. -/
def Can.init : Can := { tries := [], recover := false, run := none, good := 0, refDue := false }

/-- An acquisition unit after reset. -/
def AcqUnit.init : AcqUnit :=
  { decim := 0, line := [], n := 0, t0 := 0, trig := none, place := none, before := none, left := 0, flags := 0,
    swapIdx := none, lvl := none, rising := false, falling := false, ring := [], chg := false, own := none }

/-- A load-switch channel after reset. -/
def LswChan.init : LswChan :=
  { window := none, held := 0, since := none, gap := false, shorts := [], frozen := none, duty := 0, req := false,
    groupOff := false }

/-- Load switches of a die after reset. -/
def Lsw.init : Lsw := { chan := Vector.replicate 12 LswChan.init, downs := [], refComp := 0, t0sum := 0, t0n := 0 }

/-- The block right after reset: the PWR reset has just been released into the wipe on all dies (R20, R65 step 2). Every
register reads its reset value and every port is inhibited (R55). -/
def State.reset : State :=
  { pending := [], regs := [], mem := [], upsets := [], freeIdx := 0, now := 0,
    pkg := { die := Vector.replicate 8 .wiping, pd := .none, mainsBack := false,
             inh := Vector.replicate 32 (BitVec.ofNat 12 (2 ^ 4)), rootLock := true, booted := false,
             link0 := Vector.replicate 8 (0, 0), unitId := 0,
             tamperPend := [], fresh := true },
    sup := { reads := 0, feed := Vector.replicate 8 0, strapB := false, soutOff := false },
    logs := Vector.replicate 8 { next := 0, entries := [] },
    faults := { counts := [], retired := [], regionResp := Vector.replicate 8 false,
                regionDue := Vector.replicate 8 false, chipResp := false, chipDue := false, chipRetired := false,
                chipReinstate := false, dieRelease := Vector.replicate 8 false },
    lcs := { images := [], certs := [], staging := none, staged := [], torn := [], checking := [], ownerHash := [], wipeMask := 0,
             trialRec := false, restart := none, mismatches := Vector.replicate 8 0,
             reported := Vector.replicate 8 false },
    keys := { root := none, cache := [], current := [], pend := [], fromPend := [], queue := [], running := none,
              ops := [], kcv := Vector.replicate 5 0, owned := [], entropyFails := [] },
    gate := { lock := Vector.replicate 5 { fails := 0, ends := 0, span := 0 }, meterSlot := none,
              meterReply := [], twinQueue := [] },
    tsu := Vector.replicate 8 Tsu.init,
    servo := { resid := Vector.replicate 2 0, pend := Vector.replicate 2 none, rateLast := 0, peer := none, step := none, rtcFrac := 0,
               tickDue := false, ethRx := Vector.replicate 2 none,
               tsq := Vector.replicate 2 [] },
    oxe := Vector.replicate 8 Oxe.init, stl := Vector.replicate 8 (Vector.replicate 4 StlPort.init),
    veh := Vector.replicate 8 (Vector.replicate 4 { cand := 7, agree := 0, t1sTx := [] }),
    saf := Vector.replicate 8 Saf.init, twin := Twin.init, adc := Vector.replicate 8 Adc.init, meter := Meter.init,
    alloc := Alloc.init, cool := Vector.replicate 8 Cooling.init,
    plc := Vector.replicate 8 Plc.init, slac := [], herd := Herd.init,
    can := Vector.replicate 8 (Vector.replicate 2 Can.init), acq := Vector.replicate 8 { unit := Vector.replicate 8 AcqUnit.init },
    group := Vector.replicate 8 { wait := [] }, lsw := Vector.replicate 8 Lsw.init, hpiOut := [],
    coreFault := none }

end Sys2Proof.Machine
end

