-- ==== Sys2Proof/Machine/Ops.lean ====
section
/-!
DEFINITION. The named operations over registers, memories, free values, time and the event logs, which every meaning
is written with.
-/

namespace Sys2Proof.Machine

/-! ## The register map -/

/-- The "die" number of the package-global registers: their range lies 32 die regions above the first (R22). -/
def pkgDie : Nat := 32

/-- Bus address of a register of die `d` (R22, R23). -/
def regAddr (d off : Nat) : Nat := 0x40000000 + d * 0x1000000 + off

/-- Address of copy `i`, `j` of the register a field lies in. -/
def fldAddr (d : Nat) (f : Fld) (i j : Nat) : Nat := regAddr d (f.off + i * f.s1 + j * f.s2)

/-- Which copy of a register stands at an offset. -/
def RegD.locate (r : RegD) (off : Nat) : Option (Nat × Nat) :=
  if off < r.off then none
  else
    let x := off - r.off
    let i := if r.s1 = 0 then 0 else x / r.s1
    let y := x - i * r.s1
    let j := if r.s2 = 0 then 0 else y / r.s2
    if x = i * r.s1 + j * r.s2 ∧ i < r.n1 ∧ j < r.n2 then some (i, j) else none

/-- The registers that may stand at a bus address. -/
def regTable (a : Nat) : List RegD :=
  let d := (a - 0x40000000) / 0x1000000
  let off := (a - 0x40000000) % 0x1000000
  if a < 0x40000000 then []
  else if d = pkgDie then RegMap.blockPkg
  else if d < 8 then
    (RegMap.blockTable (off / 0x10000)).filter (fun r => decide (r.place = .every) || decide (d = 0))
  else []

/-- The register at a bus address, and which copy. -/
def findReg (a : Nat) : Option (RegD × Nat × Nat) :=
  (regTable a).findSome? (fun r => (RegD.locate r ((a - 0x40000000) % 0x1000000)).map (fun ij => (r, ij.1, ij.2)))

/-- Reset value of copy `i` of a register (R20): per copy for OWNER, the BUDGET of R171, and the levels of R429. -/
def RegD.resetOf (r : RegD) (i : Nat) : Word :=
  if r.off = 0x080200 then BitVec.ofNat 32 i
  else if r.off = 0x080100 then
    BitVec.ofNat 32 ((if i < 4 then 1500 else if i = 4 then 4000 else if i = 5 then 3000 else if i = 6 then 2000
      else 8000) * 0x10000)
  else if r.off = 0x020020 then
    BitVec.ofNat 32 (if i = 0 then 100 + 5 * 256 else if i = 1 then 110 + 5 * 256 else 125 + 20 * 256)
  else BitVec.ofNat 32 r.reset

/-- Reset value of the register at a bus address. -/
def resetWord (a : Nat) : Word :=
  match findReg a with
  | some (r, i, _) => RegD.resetOf r i
  | none => 0

namespace State

/-- The word of the register file at a bus address. -/
def word (s : State) (a : Nat) : Word := Sparse.get resetWord s.regs a

/-- The register file with a word written. -/
def setWord (s : State) (a : Nat) (v : Word) : State := { s with regs := Sparse.set resetWord s.regs a v }

/-- A field of a register of die `d`. -/
def rd (s : State) (d : Nat) (f : Fld) (i : Nat := 0) (j : Nat := 0) : Nat :=
  ((s.word (fldAddr d f i j) >>> f.lo) &&& BitVec.ofNat 32 (2 ^ f.w - 1)).toNat

/-- A field that is not zero. -/
def on (s : State) (d : Nat) (f : Fld) (i : Nat := 0) (j : Nat := 0) : Bool := s.rd d f i j != 0

/-- A field as a signed number. -/
def rdI (s : State) (d : Nat) (f : Fld) (i : Nat := 0) (j : Nat := 0) : Int := sext f.w (s.rd d f i j)

/-- A field written; the other bits of the register keep their value. -/
def wr (s : State) (d : Nat) (f : Fld) (v : Nat) (i : Nat := 0) (j : Nat := 0) : State :=
  let m : Word := BitVec.ofNat 32 (2 ^ f.w - 1)
  let a := fldAddr d f i j
  s.setWord a ((s.word a &&& ~~~(m <<< f.lo)) ||| ((BitVec.ofNat 32 v &&& m) <<< f.lo))

/-- A Boolean field written. -/
def wrB (s : State) (d : Nat) (f : Fld) (b : Bool) (i : Nat := 0) (j : Nat := 0) : State := s.wr d f (b2n b) i j

/-- A signed field written. -/
def wrI (s : State) (d : Nat) (f : Fld) (v : Int) (i : Nat := 0) (j : Nat := 0) : State := s.wr d f (uns f.w v) i j

/-- A counter that saturates at its field's largest value. -/
def satCnt (s : State) (d : Nat) (f : Fld) (i : Nat := 0) (j : Nat := 0) : State :=
  s.wr d f (satInc (2 ^ f.w - 1) (s.rd d f i j)) i j

/-- A counter that wraps. -/
def wrapCnt (s : State) (d : Nat) (f : Fld) (i : Nat := 0) (j : Nat := 0) : State :=
  s.wr d f ((s.rd d f i j + 1) % 2 ^ f.w) i j

/-- A bit `k` of a field set. -/
def setBit (s : State) (d : Nat) (f : Fld) (k : Nat) (i : Nat := 0) (j : Nat := 0) : State :=
  s.wr d f (s.rd d f i j ||| 2 ^ k) i j

/-- A bit `k` of a field cleared. -/
def clrBit (s : State) (d : Nat) (f : Fld) (k : Nat) (i : Nat := 0) (j : Nat := 0) : State :=
  if bitOf (s.rd d f i j) k then s.wr d f (s.rd d f i j - 2 ^ k) i j else s

/-- Bit `k` of a field. -/
def bit (s : State) (d : Nat) (f : Fld) (k : Nat) (i : Nat := 0) (j : Nat := 0) : Bool := bitOf (s.rd d f i j) k

/-- An event bit set, with the register's FIRST field, "first since clear, bit index + 1". -/
def raise (s : State) (d : Nat) (ev first : Fld) (i : Nat := 0) : State :=
  let s := s.wr d ev 1 i
  if s.rd d first i = 0 then s.wr d first (ev.lo + 1) i else s

/-- Registers returned to their reset values (R20), apart from the bits whose reset value is the persistent one: those
that `p` picks by bus address and register. -/
def resetRegs (s : State) (p : Nat → RegD → Bool) : State :=
  { s with regs := s.regs.filterMap (fun (e : Nat × Word) =>
    match findReg e.1 with
    | some (r, i, _) =>
      if p e.1 r then
        let m : Word := BitVec.ofNat 32 r.kept
        let v := (RegD.resetOf r i &&& ~~~m) ||| (e.2 &&& m)
        if v = RegD.resetOf r i then none else some (e.1, v)
      else some e
    | none => some e) }

/-- Registers of a span of bus addresses listed DIE or BLK (R20). -/
def dieOrBlk (lo n a : Nat) (r : RegD) : Bool :=
  decide (lo ≤ a) && decide (a < lo + n) && (r.dom == .die || r.dom == .blk)

/-- `n` XLINK words sent in a class by a die (R29, XLK_CLS_CNT). -/
def xlkSent (s : State) (d : Fin 8) (cls n : Nat) : State :=
  let c := s.word (fldAddr d F.XLK_CLS_CNT cls 0)
  s.setWord (fldAddr d F.XLK_CLS_CNT cls 0) (c + BitVec.ofNat 32 n)

/-! ## Presence -/

/-- Die `d` is present (R5, PKG_DIES.PRESENT). -/
def present (s : State) (d : Nat) : Bool := s.bit pkgDie F.PKG_DIES_PRESENT d

/-- Die `d` is present and not retired as a region (R461). -/
def dieUsed (s : State) (d : Nat) : Bool := s.present d && !s.bit pkgDie F.PKG_DIES_RETIRED d

/-- The life-cycle state code (R77). -/
def lifeState (s : State) : Nat := s.rd 0 F.LCS_STATE_STATE

/-- The twin role code (R438). -/
def role (s : State) : Nat := s.rd 0 F.TWN_STAT_ROLE

/-- This unit holds the claim, or stands alone (R63, R438). -/
def holdsClaim (s : State) : Bool := s.role == 0 || s.on 0 F.TWN_STAT_CLAIM_OWN

/-- This unit's outputs are enabled (R440). -/
def outEn (s : State) : Bool := s.on 0 F.TWN_STAT_OUT_EN

/-- The device is in HOLD (R76). -/
def hold (s : State) : Bool := s.on 0 F.LCS_BOOT_HOLD

/-! ## Byte memories -/

/-- Key of a byte of the shared window (R22, R106). -/
def winKey (off : Nat) : Nat := 0x30000000 + off % 0x100000

/-- Key of a byte of die `d`'s host SRAM (R22): the bus address with the die above it. -/
def sramKey (d a : Nat) : Nat := d * 0x100000000 + a

/-- Key of a byte of die `d`'s capture SRAM (R325; not on the bus map). -/
def capKey (d off : Nat) : Nat := d * 0x100000000 + 0x80000000 + off % 0x400000

/-- A byte of memory; unlisted bytes read 0 (R21; log entry 7). -/
def byte (s : State) (k : Nat) : Byte := Sparse.get (fun _ => 0) s.mem k

/-- A byte written; its word's ECC is written with it. -/
def setByte (s : State) (k : Nat) (v : Byte) : State :=
  { s with mem := Sparse.set (fun _ => 0) s.mem k v, upsets := s.upsets.filter (fun e => e.1 != k / 4 * 4) }

/-- `n` bytes from key `k`. -/
def bytes (s : State) (k n : Nat) : List Byte := (List.range n).map (fun i => s.byte (k + i))

/-- Bytes written from key `k` upwards. -/
def setBytes (s : State) (k : Nat) : List Byte → State
  | [] => s
  | b :: t => (s.setByte k b).setBytes (k + 1) t

/-- A little-endian word of memory (R9). -/
def mword (s : State) (k : Nat) : Word := BitVec.ofNat 32 (leNat (s.bytes k 4))

/-- A little-endian word written. -/
def setMword (s : State) (k : Nat) (v : Word) : State := s.setBytes k (leBytes 4 v.toNat)

/-- Words written from key `k` upwards. -/
def setMwords (s : State) (k : Nat) : List Word → State
  | [] => s
  | w :: t => (s.setMword k w).setMwords (k + 4) t

/-- The memory without the bytes whose key lies in a range, so that they read 0 (R21). -/
def zeroRange (s : State) (k n : Nat) : State :=
  { s with mem := Sparse.drop (fun a => decide (k ≤ a) && decide (a < k + n)) s.mem,
           upsets := s.upsets.filter (fun e => !(decide (k ≤ e.1) && decide (e.1 < k + n))) }

/-! ## ECC (R190, R306) -/

/-- A word lies in a memory whose ECC errors the spec gives an effect: engine memories, CAN message RAM, shared window. -/
def eccMem (k : Nat) : Bool :=
  let off := (k - 0x40000000) % 0x1000000
  let lies (lo hi : Nat) : Bool := decide (lo ≤ off) && decide (off < hi)
  if 0x40000000 ≤ k ∧ k < 0x48000000 then
    lies 0x090000 0x098000 || lies 0x0A0000 0x0AA000 || lies 0x0B0000 0x0B8000 || lies 0x0D0100 0x0D4000 || lies 0x0D4100 0x0D8000
  else decide (0x30000000 ≤ k) && decide (k < 0x30100000)

/-- The error that stands in a word: whether it is uncorrectable. -/
def eccAt (s : State) (k : Nat) : Option Bool := (s.upsets.find? (fun e => e.1 == k)).map (·.2)

/-- The words with an error among the `n` bytes from a key. -/
def eccWithin (s : State) (k n : Nat) : List Nat :=
  (s.upsets.filter (fun e => decide (k ≤ e.1) && decide (e.1 < k + n))).map (·.1)

/-- An error corrected. -/
def eccMend (s : State) (k : Nat) : State := { s with upsets := s.upsets.filter (fun e => e.1 != k) }

/-- The die that holds a memory of that key. -/
def eccDie (k : Nat) : Fin 8 := ⟨(if k < 0x40000000 then 0 else (k - 0x40000000) / 0x1000000) % 8, Nat.mod_lt _ (by decide)⟩

/-- An error arises in a word. A word with an uncorrectable one reads zero until it is written; a die that is not powered and running has
none (log entry 116). -/
def upset (s : State) (k : Nat) (bad : Bool) : State :=
  if !eccMem k || decide (s.pkg.die.get (eccDie k) ≠ .running) then s
  else
    let b := bad || s.eccAt (k / 4 * 4) == some true
    let s := if b then s.zeroRange (k / 4 * 4) 4 else s.eccMend (k / 4 * 4)
    { s with upsets := s.upsets ++ [(k / 4 * 4, b)] }

/-! ## Free values -/

/-- The next free word, and the state after the draw (log entry 3). -/
def freeWord (s : State) : Word × State := (Config.freeWord s.freeIdx, { s with freeIdx := s.freeIdx + 1 })

/-- The next `n` free bytes, and the state after the draw (log entry 3). -/
def freeBytes (s : State) (n : Nat) : List Byte × State :=
  (Config.freeBytes s.freeIdx n, { s with freeIdx := s.freeIdx + 1 })

/-! ## Time -/

/-- EPOCH in ns, unsigned 64-bit (R309); the lead die's is the device's. -/
def epoch (s : State) : Nat := s.rd 0 F.TSU_EPOCH 1 * 2 ^ 32 + s.rd 0 F.TSU_EPOCH 0

/-- The 48-bit device time of die `d` (R309). -/
def devTime (s : State) (d : Nat) : Nat := s.rd d F.TSU_TALLY * 2 ^ 32 + s.rd d F.TSU_NS

/-- tai_ns of die `d` (R309). -/
def tai (s : State) (d : Nat) : Int := Int.ofNat (s.epoch + s.devTime d)

/-! ## Event logs -/

/-- One log with an entry appended; the oldest is dropped when the log is full (R466). -/
def addEntry (l : EventLog) (cap : Nat) (e : LogEntry) : EventLog :=
  let es := l.entries ++ [{ e with no := l.next }]
  { next := l.next + 1, entries := if cap < es.length then es.drop 1 else es }

/-- An entry in the die event log, and for a port die also in the package log (R466). -/
def log (s : State) (d : Fin 8) (code cls block index count : Nat) (data : List Nat) : State :=
  let e : LogEntry := { no := 0, tai := s.tai d.val, code := code, cls := cls, die := d.val, block := block,
                        index := index, count := count, data := data }
  let l := upd s.logs d (fun l => addEntry l (if d = 0 then 4096 else 1024) e)
  { s with logs := if d = 0 then l else upd l 0 (fun l => addEntry l 4096 e) }

/-- An informational entry (R467: level 0 codes carry CLASS 0). -/
def info (s : State) (d : Fin 8) (code block index : Nat) (data : List Nat) : State :=
  s.log d code 0 block index 0 data

/-- A refused access is logged as a die-level event (R13, R24; code 0x0001). -/
def accessEvent (s : State) (d : Fin 8) (addr who : Nat) : State := s.info d 0x0001 0 0xFF [addr, who]

end State
end Sys2Proof.Machine
end

