-- ==== Sys2Proof/Machine/AcqCore.lean ====
section
/-!
DEFINITION. The acquisition units' core: samples, the placing of a trigger, and what a trigger source does (R323 to R333).
-/

namespace Sys2Proof.Machine

/-- rhu(a / b) for natural numbers. -/
def rhuNat (a b : Nat) : Nat := (2 * a + b) / (2 * b)

namespace State

/-- An acquisition unit. -/
def acqU (s : State) (d u : Fin 8) : AcqUnit := (s.acq.get d).unit.get u

/-- An acquisition unit changed. -/
def updAcq (s : State) (d u : Fin 8) (f : AcqUnit → AcqUnit) : State :=
  { s with acq := upd s.acq d (fun a => { a with unit := upd a.unit u f }) }

/-- State code of a unit. -/
def acqSt (s : State) (d u : Fin 8) : Nat := s.rd d F.ACQ_U_STAT_STATE u

/-- Bytes of one stored sample (R324). -/
def acqW (s : State) (d u : Fin 8) : Nat := if s.on d F.ACQ_U_CFG_FMT u then 2 else 4

/-- A number rounded up to a multiple of 32. -/
def ceil32 (n : Nat) : Nat := (n + 31) / 32 * 32

/-- Bytes of one segment or of the circular record (R325). -/
def acqSegBytes (s : State) (d u : Fin 8) : Nat := 32 + ceil32 (s.rd d F.ACQ_U_LEN_LEN u * s.acqW d u)

/-- Bytes a unit's region needs (R325). -/
def acqNeed (s : State) (d u : Fin 8) : Nat :=
  (if 2 ≤ u.val then s.rd d F.ACQ_U_SEG_SEGS u else 1) * s.acqSegBytes d u

/-- Offset of the header of the open segment (R325). -/
def acqHead (s : State) (d u : Fin 8) : Nat :=
  s.rd d F.ACQ_U_BASE_BASE u + (if 2 ≤ u.val then s.rd d F.ACQ_U_CNT_SEGDONE u * s.acqSegBytes d u else 0)

/-! ## Group re-arming (R334) -/

/-- A member is ARMED again, or DONE, STOPPED or DISABLED: the group no longer waits for it, and with REPEAT it re-arms
when it waits for none. -/
def groupSettle (s : State) (d u : Fin 8) : State :=
  (List.finRange 8).foldl (fun s g =>
    let w := (s.group.get g).wait
    if w.contains (d.val * 8 + u.val) then
      let w' := w.filter (fun x => x ≠ d.val * 8 + u.val)
      let s := { s with group := upd s.group g (fun _ => { wait := w' }) }
      if w'.isEmpty && s.on 0 F.ACQ_GRP_CTRL_REPEAT g then s.wr 0 F.ACQ_GRP_CTRL_ARMED 1 g else s
    else s) s

/-- A unit's state code written; leaving RECORDING settles its group. -/
def acqSetSt (s : State) (d u : Fin 8) (st : Nat) : State :=
  let s := s.wr d F.ACQ_U_STAT_STATE st u
  if st = 3 then s else s.groupSettle d u

/-! ## Samples -/

/-- Flags of a sample: SWAP, SAT, OW, INV of its result word, and the commit before it (R337). -/
def wordFlags (x : AcqSample) : BitVec 6 :=
  let w := x.word.toNat
  BitVec.ofNat 6 (b2n (bitOf w 31) + 2 * b2n (bitOf w 29) + 4 * b2n (bitOf w 30) + 8 * b2n (bitsOf w 27 2 == 3) + 16 * b2n x.chg)

/-- The trigger point moved on by a recorded sample with index `i` at time `t` (R332). -/
def acqPlaceAt (a : AcqUnit) (i t : Nat) : AcqUnit :=
  match a.trig, a.place with
  | some g, none =>
    if t ≤ g.time then { a with before := some (i, t) }
    else
      match a.before with
      | some (j, tj) =>
        let f := rhuNat (256 * (g.time - tj)) (t - tj)
        { a with place := some (if f = 256 then (j + 1, 0) else (j, f)) }
      | none => { a with place := some (0, 0) }
  | _, _ => a

/-- One sample written into the open segment or ring (R327, R328). -/
def acqPut (s : State) (d u : Fin 8) (x : AcqSample) : State :=
  let a := s.acqU d u
  let len := max 1 (s.rd d F.ACQ_U_LEN_LEN u)
  let w := s.acqW d u
  let circ := decide (u.val < 2)
  let idx := if circ then a.n % len else a.n
  let s := s.setBytes (capKey d (s.acqHead d u + 32 + idx * w)) (leBytes w x.word.toNat)
  let s := if circ then s.wr d F.ACQ_U_STAT_WIDX ((a.n + 1) % len) u else s
  s.updAcq d u (fun a =>
    let fl := wordFlags x
    let a := { a with n := a.n + 1, t0 := if a.n = 0 then x.t else a.t0, left := a.left - 1 }
    let a := if circ then { a with ring := (a.ring ++ [(x.t, fl)]).drop ((a.ring.length + 1) - len) }
      else { a with flags := a.flags ||| (if a.n = 1 then fl &&& 0xF else fl),
                    swapIdx := if a.swapIdx.isNone && bitOf x.word.toNat 31 then some (a.n - 1) else a.swapIdx }
    acqPlaceAt a (a.n - 1) x.t)

/-- A trigger taken by U0 or U1 (R328, R332): POST further samples are awaited. -/
def acqRing (s : State) (d u : Fin 8) (g : AcqTrig) : State :=
  let post := s.rd d F.ACQ_U_POST_POST u
  (s.acqSetSt d u 3).updAcq d u (fun a =>
    let a := { a with trig := some g, place := none, before := none, rising := false, falling := false, left := post }
    a.ring.zipIdx.foldl (fun b x => acqPlaceAt b (a.n - a.ring.length + x.2) x.1.1) a)

/-- A trigger taken by an ARMED unit (R327, R328, R332): of U2 to U7 the PRE samples at or before it and any later ones held in the
delay line are written at once. -/
def acqTrigger (s : State) (d u : Fin 8) (g : AcqTrig) : State :=
  if u.val < 2 then s.acqRing d u g
  else
    let a := s.acqU d u
    let s := s.acqSetSt d u 3
    let len := s.rd d F.ACQ_U_LEN_LEN u
    let pre := s.rd d F.ACQ_U_SEG_PRE u
    let old := a.line.filter (fun x => decide (x.t ≤ g.time))
    let keep := old.drop (old.length - pre)
    let later := a.line.filter (fun x => decide (g.time < x.t))
    let total := len - (pre - keep.length)
    let s := s.updAcq d u (fun a =>
      { a with trig := some g, place := none, before := none, n := 0, t0 := 0, flags := 0, swapIdx := none,
               left := total, rising := false, falling := false })
    (keep ++ later).foldl (fun s x => if (s.acqU d u).left = 0 then s else s.acqPut d u x) s

/-- The own source of a group member fires at time `t`: with FIRE_EN, an ARMED member of an armed group asks for the fire, which
GROUP_FIRE brings; its first request stands (R333, R334). -/
def acqAsk (s : State) (d u : Fin 8) (t : Nat) : State :=
  if s.on d F.ACQ_U_TRIG_FIRE_EN u && s.acqSt d u == 2 && s.on 0 F.ACQ_GRP_CTRL_ARMED (s.rd d F.ACQ_U_TRIG_GROUP u) then
    s.updAcq d u (fun a => { a with own := some (a.own.getD t) })
  else s

/-- The source `src` of a unit fires at time `t` (R331, R327). A group member records on group fires only (R333). -/
def acqFire (s : State) (d u : Fin 8) (src t : Nat) : State :=
  if s.rd d F.ACQ_U_TRIG_SRC u ≠ src then s
  else if s.on d F.ACQ_U_TRIG_GRP_EN u then s.acqAsk d u t
  else
    let st := s.acqSt d u
    if st = 2 then s.acqTrigger d u { time := t, src := src, group := none, firerUnit := u, firerDie := d }
    else if st = 3 ∨ st = 4 then s.satCnt d F.ACQ_U_CNT_BUSY_TRIG u
    else s

/-- A source that names what fired by PARAM or TCELL fires on every unit of a die that selects it; sources 6 to 10 are there for U0 and
U1 alone (R329, R331). -/
def acqEvent (s : State) (d : Fin 8) (src param t : Nat) : State :=
  (List.finRange 8).foldl (fun (s : State) (u : Fin 8) =>
    let f := if src = 6 then s.rd d F.ACQ_U_TRIG_TCELL u else s.rd d F.ACQ_U_TRIG_PARAM u
    if (src < 6 ∨ u.val < 2) ∧ (f = param ∨ src = 10) then s.acqFire d u src t else s) s

end State

end Sys2Proof.Machine
end

