-- ==== Sys2Proof/Machine/PortOps.lean ====
section
/-!
DEFINITION. Shared operations of a port's outputs: INH causes, the Stage Link's halt and frames, the engine's output
path with the safety override, and the port state machine (R37, R167, R179 to R181, R247 to R260, R400).
-/

namespace Sys2Proof.Machine.State

/-! ## INH -/

/-- INH causes of a port, one set or cleared (R37). -/
def putInh (s : State) (p : Fin 32) (c : Fin 12) (b : Bool) : State :=
  let m : BitVec 12 := BitVec.ofNat 12 (2 ^ c.val)
  { s with pkg := { s.pkg with inh := upd s.pkg.inh p (fun x => if b then x ||| m else x &&& ~~~m) } }

/-- The port's INH is driven by this unit's logic (R37). -/
def inhDriven (s : State) (p : Fin 32) : Bool := s.pkg.inh.get p != 0

/-- An INH cause set or cleared; the pin's assertion is trigger source 8 of the acquisition units (R331). -/
def setInh (s : State) (p : Fin 32) (c : Fin 12) (b : Bool) : State :=
  let t := s.putInh p c b
  if b && !s.inhDriven p then t.acqEvent (Port.die p) 8 (Port.loc p).val (s.devTime (Port.die p)) else t

/-- One INH cause on all four ports of a die. -/
def setInhDie (s : State) (d : Fin 8) (c : Fin 12) (b : Bool) : State :=
  (((s.setInh (portOf d 0) c b).setInh (portOf d 1) c b).setInh (portOf d 2) c b).setInh (portOf d 3) c b

/-! ## Stage Link frames -/

/-- A bit of a Stage Link's typed part changed. -/
def updStl (s : State) (d : Fin 8) (k : Fin 4) (f : StlPort → StlPort) : State :=
  { s with stl := upd s.stl d (fun v => upd v k f) }

/-- The Stage Link of local port `k`. -/
def link (s : State) (d : Fin 8) (k : Fin 4) : StlPort := (s.stl.get d).get k

/-- One step of CRC-16/CCITT over a bit (R258). -/
def crc16Bit (c : Nat) (b : Bool) : Nat :=
  let x := c * 2 % 65536
  if (bitOf c 15) != b then x ^^^ 0x1021 else x

/-- CRC-16/CCITT, polynomial 0x1021, initial value 0xFFFF, no reflection, no final XOR (R258). -/
def crc16 (l : List Byte) : Nat :=
  l.foldl (fun c b => [7, 6, 5, 4, 3, 2, 1, 0].foldl (fun c i => crc16Bit c (bitOf b.toNat i)) c) 0xFFFF

/-- The port state code (R247). -/
def psState (s : State) (d : Fin 8) (k : Fin 4) : Nat := s.rd d F.STL_PSTATE_STATE k

/-- ENABLE in frames, by the port's state (R247). -/
def frameEnable (s : State) (d : Fin 8) (k : Fin 4) : Bool :=
  decide (3 ≤ s.psState d k) && decide (s.psState d k ≤ 6)

/-- The FLAGS byte of a frame (R255, R259). -/
def frameFlags (s : State) (d : Fin 8) (k : Fin 4) : Nat :=
  b2n s.outEn + 2 * b2n (s.frameEnable d k) + 4 * s.rd d F.STL_P_CFG_DIR k + 8 * s.rd d F.OXE_PORT_OVR_ACTIVE k
    + 16 * s.rd d F.STL_P_HALT_RESYNC_PEND k + 32 * s.rd 0 F.TWN_STAT_UNIT

/-- A frame's bytes with its CRC, low byte first (R258). -/
def withCrc (l : List Byte) : List Byte := l ++ leBytes 2 (crc16 l)

/-- The 32 bytes of a periodic frame carrying SEQ `seq` (R255). -/
def periodicBytes (s : State) (d : Fin 8) (k : Fin 4) (seq : Nat) : List Byte :=
  withCrc (leBytes 1 0x11 ++ leBytes 1 (s.frameFlags d k) ++ leBytes 2 seq ++ leBytes 4 (s.rd d F.OXE_PORT_OUT k)
    ++ leBytes 4 (s.rd d F.STL_P_VHI k) ++ leBytes 4 (s.rd d F.STL_P_VLO k) ++ leBytes 4 (s.rd d F.OXE_PORT_DERATE k)
    ++ leBytes 4 (s.rd d F.STL_P_PLIM k) ++ leBytes 4 (s.rd d F.TSU_NS) ++ leBytes 1 (s.psState d k)
    ++ leBytes 1 (portOf d k).val)

/-- The 12 bytes of an urgent frame (R256). -/
def urgentBytes (s : State) (d : Fin 8) (k : Fin 4) (seq : Nat) (v : Word) : List Byte :=
  withCrc (leBytes 1 0x12 ++ leBytes 1 (s.frameFlags d k) ++ leBytes 2 seq ++ leBytes 4 v.toNat
    ++ leBytes 1 (s.psState d k) ++ leBytes 1 (portOf d k).val)

/-- Whether the link sends frames: enabled, not halted, not disconnected under R441, and not HELD (R438). -/
def stlSends (s : State) (d : Fin 8) (k : Fin 4) : Bool :=
  s.on d F.STL_CTRL_EN && !s.on d F.STL_P_HALT_HALTED k && !s.twin.cut && s.role != 3

/-- Activations and executed cycles of the context that owns a port, the clock the model has within an activation (log entry 8). -/
def ownerClock (s : State) (d : Fin 8) (k : Fin 4) : Nat × Nat :=
  let n : Fin 8 := ⟨s.rd d F.OXE_PORT_CFG_OWNER k % 8, Nat.mod_lt _ (by decide)⟩
  (s.rd d F.OXE_CTX_CNT_ACT n, ((s.oxe.get d).ctx.get n).cyc)

/-- An urgent frame leaves: SEQ and URGENT count it (R256, R259). -/
def sendUrgent (s : State) (d : Fin 8) (k : Fin 4) (v : Word) (ovr : Bool) : State :=
  let seq := (s.rd d F.STL_P_STAT_TX_SEQ k + 1) % 65536
  let s := (s.wr d F.STL_P_STAT_TX_SEQ seq k).wrapCnt d F.STL_P_CNT_URGENT k
  s.updStl d k (fun l => { l with sending := some (v, ovr), sentAt := s.ownerClock d k, lastUrg := s.urgentBytes d k seq v })

/-- The frame in transmission has ended: 1 216 ns, 456 CTL cycles, after it was issued at the latest (R257), or in an earlier
activation of the owner (log entry 8). -/
def urgentOver (s : State) (d : Fin 8) (k : Fin 4) : Bool :=
  let l := s.link d k
  let c := s.ownerClock d k
  l.sending.isSome && (decide (c.1 ≠ l.sentAt.1) || decide (l.sentAt.2 + 456 ≤ c.2))

/-- Where the frame in transmission has ended, a queued one has followed it, 420 cycles after (R256). -/
def urgentNext (s : State) (d : Fin 8) (k : Fin 4) : State :=
  let l := s.link d k
  if !s.urgentOver d k then s
  else
    match l.urgent with
    | none => s.updStl d k (fun l => { l with sending := none })
    | some (v, ovr) =>
      let s := (s.updStl d k (fun l => { l with urgent := none })).sendUrgent d k v ovr
      s.updStl d k (fun x => { x with sentAt := (l.sentAt.1, l.sentAt.2 + 420) })

/-- An urgent frame queued (R208, R256, R400): it starts at once when none is in transmission; an override cuts off a
program frame in transmission, and takes the place of one that is queued; a later value replaces a queued one. -/
def queueUrgent (s : State) (d : Fin 8) (k : Fin 4) (v : Word) (ovr : Bool) : State :=
  if !s.stlSends d k then s
  else
    let s := (s.urgentNext d k).urgentNext d k
    let l := s.link d k
    let s := if l.urgent.isSome then s.satCnt d F.STL_P_CNT_URG_REPL k else s
    match l.sending with
    | none =>
      if l.gap then s.updStl d k (fun l => { l with urgent := some (v, ovr) })
      else (s.updStl d k (fun l => { l with urgent := none })).sendUrgent d k v ovr
    | some (_, inOvr) =>
      if ovr && !inOvr then (s.updStl d k (fun l => { l with urgent := none })).sendUrgent d k v ovr
      else s.updStl d k (fun l => { l with urgent := some (v, ovr) })

/-- The frame in transmission has ended; a queued one follows it (R256; log entry 8). -/
def flushUrgent (s : State) (d : Fin 8) (k : Fin 4) : State :=
  let l := s.link d k
  let s := s.updStl d k (fun l => { l with sending := none })
  match l.urgent with
  | none => s
  | some (v, ovr) =>
    if l.gap || !s.stlSends d k then s
    else
      let s := (s.updStl d k (fun l => { l with urgent := none })).sendUrgent d k v ovr
      s.updStl d k (fun l => { l with sending := none })

/-! ## Halt -/

/-- The halt asserted: HALT symbols without a break, queued urgent frames discarded, first cause kept (R260); a periodic frame it cuts
off awaits no return frame (R261). -/
def haltSet (s : State) (d : Fin 8) (k : Fin 4) (src : Nat) : State :=
  if s.on d F.STL_P_HALT_HALTED k then s
  else
    let s := ((s.wr d F.STL_P_HALT_HALTED 1 k).wr d F.STL_P_HALT_SRC src k).setBit d F.STL_EVT_HALTED k
    s.updStl d k (fun l => { l with sending := none, urgent := none, answered := l.answered || l.inPer, inPer := false })

/-- The halt asserted, trigger source 9 of the acquisition units where it was not (R331). -/
def haltAssert (s : State) (d : Fin 8) (k : Fin 4) (src : Nat) : State :=
  let t := s.haltSet d k src
  if s.on d F.STL_P_HALT_HALTED k then t else t.acqEvent d 9 k.val (s.devTime d)

/-- A latched trip bit of the port is set: of its cells or of its comparators (R260). -/
def tripLatched (s : State) (d : Fin 8) (k : Fin 4) : Bool :=
  bitsOf (s.rd d F.ADC_TRIP (k.val / 2)) (16 * (k.val % 2)) 16 != 0 ||
    bitsOf (s.rd d F.ADC_TC_STAT_TRIP) (2 * k.val) 2 != 0

/-- A cause of R260 still asserts the halt. -/
def haltCause (s : State) (d : Fin 8) (k : Fin 4) : Bool :=
  s.tripLatched d k || decide (s.pkg.pd ≠ .none) || s.hold || decide (s.pkg.die.get d ≠ .running)

/-- A SAFE write of RELEASE (R260). -/
def haltRelease (s : State) (d : Fin 8) (k : Fin 4) : State :=
  if s.haltCause d k || !s.on d F.STL_P_HALT_HALTED k then s
  else
    let s := ((s.wr d F.STL_P_HALT_HALTED 0 k).wr d F.STL_P_HALT_SRC 0 k).wr d F.STL_P_HALT_RESYNC_PEND 1 k
    s.updStl d k (fun l => { l with relSeq := s.rd d F.STL_P_STAT_TX_SEQ k, gap := true })

/-- Halt on all four ports of a die. -/
def haltDie (s : State) (d : Fin 8) (src : Nat) : State :=
  (((s.haltAssert d 0 src).haltAssert d 1 src).haltAssert d 2 src).haltAssert d 3 src

/-! ## Output path and override -/

/-- The override part of an output path. -/
def updOvr (s : State) (d : Fin 8) (k : Fin 4) (f : OvrState → OvrState) : State :=
  { s with oxe := upd s.oxe d (fun o => { o with ovr := upd o.ovr k f }) }

/-- The override of a port's output path. -/
def ovr (s : State) (d : Fin 8) (k : Fin 4) : OvrState := (s.oxe.get d).ovr.get k

/-- RAMP_MS as taken: 0 as 1, 51 to 63 as 50 (R180). -/
def rampTaken (r : Nat) : Nat := if r = 0 then 1 else if 50 < r then 50 else r

/-- A write of MODE 1 or 2 takes effect: the override value starts, and an urgent frame carries it (R180). -/
def overrideStart (s : State) (d : Fin 8) (k : Fin 4) (ramp : Option Nat) : State :=
  let v0 := s.rd d F.OXE_PORT_OUT k
  let s := s.wr d F.OXE_PORT_OVR_ACTIVE 1 k
  let s := match ramp with
    | some r =>
      ((s.wr d F.OXE_PORT_OVR_MODE 1 k).wr d F.OXE_PORT_OVR_RAMP_MS (rampTaken r) k).wrB d F.OXE_PORT_OVR_AT_ZERO
        (decide (v0 = 0)) k
    | none => ((s.wr d F.OXE_PORT_OVR_MODE 2 k).wr d F.OXE_PORT_OUT 0 k).wr d F.OXE_PORT_OVR_AT_ZERO 1 k
  let s := s.updOvr d k (fun o => { o with v0 := if ramp.isSome then v0 else 0, edges := 0, written := true })
  s.queueUrgent d k (BitVec.ofNat 32 (s.rd d F.OXE_PORT_OUT k)) true

/-- A write of MODE 0 (R181). -/
def overrideRelease (s : State) (d : Fin 8) (k : Fin 4) : State :=
  let st := s.psState d k
  let o := s.ovr d k
  if s.on d F.OXE_PORT_OVR_AT_ZERO k && (st == 3 || st == 4 || (st == 5 && o.direct && !o.written)) then
    (((s.wr d F.OXE_PORT_OVR_MODE 0 k).wr d F.OXE_PORT_OVR_ACTIVE 0 k).wr d F.OXE_PORT_OVR_AT_ZERO 0 k)
  else s

/-- The override value `n` grid edges into a ramp from `v0` over `ms` milliseconds, which is 100 × ms edges (R180). A
value that is not whole is rounded down or up as the spec leaves open (log entry 9). -/
def rampValue (v0 ms n : Nat) : Nat :=
  if 100 * ms ≤ n then 0
  else if v0 * (100 * ms - n) % (100 * ms) = 0 then v0 * (100 * ms - n) / (100 * ms)
  else v0 * (100 * ms - n) / (100 * ms) + b2n (Config.rampUp v0 ms n)

/-- One grid edge of a RAMP override (R180). -/
def rampStep (s : State) (d : Fin 8) (k : Fin 4) : State :=
  if s.rd d F.OXE_PORT_OVR_MODE k = 1 && !s.on d F.OXE_PORT_OVR_AT_ZERO k then
    let o := s.ovr d k
    let v := rampValue o.v0 (s.rd d F.OXE_PORT_OVR_RAMP_MS k) (o.edges + 1)
    let s := s.updOvr d k (fun o => { o with edges := o.edges + 1 })
    (s.wr d F.OXE_PORT_OUT v k).wrB d F.OXE_PORT_OVR_AT_ZERO (decide (v = 0)) k
  else s.updOvr d k (fun o => { o with edges := o.edges + 1 })

/-! ## Port state machine -/

/-- The port's type (R242). -/
def portType (s : State) (d : Fin 8) (k : Fin 4) : Nat := s.rd d F.STL_P_CFG_TYPE k

/-- Sessions take place in PROVISIONED and IN_SERVICE only (R77; log entry 109). -/
def sessionsOn (s : State) : Bool := s.lifeState == 1 || s.lifeState == 2

/-- A transition of the table of R248, for a writer. A port of type 0 stays in IDLE (R242; log entry 98). Where the life-cycle
state has no sessions, none is opened (R77; log entry 109). -/
def psAllowed (s : State) (d : Fin 8) (k : Fin 4) (tgt : Nat) (w : PsWriter) : Bool :=
  let st := s.psState d k
  let ty := s.portType d k
  let used := st != 0 || ty != 0
  let veh := ty == 1 || ty == 2
  let permit := s.on d F.STL_PSAFE_PERMIT k
  let unlock := s.on d F.STL_PSAFE_UNLOCK_OK k
  let clean := !s.on d F.STL_PSAFE_FAULT_ACT k
  used && match w with
  | .host =>
    match st, tgt with
    | 0, 1 => veh && s.sessionsOn
    | 0, 5 => ty == 3 && permit && s.sessionsOn
    | 1, 2 => true
    | 1, 8 => true
    | 2, 8 => true
    | 2, 3 => permit
    | 3, 4 => permit && s.on d F.STL_PSAFE_CC_PASS k
    | 4, 5 => permit
    | 3, 6 => true
    | 4, 6 => true
    | 5, 6 => true
    | 8, 0 => unlock
    | 0, 9 => true
    | 1, 9 => true
    | 2, 9 => true
    | 7, 9 => true
    | 8, 9 => true
    | 9, 8 => veh && clean && unlock
    | 9, 0 => ty == 3 && clean && unlock
    | 0, 10 => true
    | 9, 10 => true
    | 10, 0 => clean
    | _, _ => false
  | .safe =>
    match st, tgt with
    | 3, 6 => true
    | 4, 6 => true
    | 5, 6 => true
    | 6, 7 => true
    | 7, 8 => veh && unlock
    | 7, 0 => ty == 3 && unlock
    | _, 9 => decide (st ≤ 8)
    | _, _ => false

/-- The safety part of a port. -/
def updSaf (s : State) (d : Fin 8) (k : Fin 4) (f : SafPort → SafPort) : State :=
  { s with saf := upd s.saf d (fun c => { c with port := upd c.port k f }) }

/-- The safety functions of a port. -/
def safPort (s : State) (d : Fin 8) (k : Fin 4) : SafPort := (s.saf.get d).port.get k

/-- An applied transition: STATE, PREV, CHANGES and PSCHG (R250); CAUSE copied on entry to FAULT and dropped when the
port leaves it (R401); a port that becomes IDLE has no matched vehicle (R284; log entry 58); the safety configuration is taken when the port leaves IDLE (R412); CHARGING entered directly
from IDLE is remembered (R181); a stop's drive of INH ends with IDLE or UNLOCK, whose rows of R247 drive it. -/
def psApply (s : State) (d : Fin 8) (k : Fin 4) (tgt : Nat) : State :=
  let st := s.psState d k
  let s := ((s.wr d F.STL_PSTATE_STATE tgt k).wr d F.STL_PSTATE_PREV st k).wrapCnt d F.STL_PSTATE_CHANGES k
  let s := s.setBit d F.STL_EVT_PSCHG k
  let s := if tgt = 9 then s.wr d F.STL_PSTATE_CAUSE (s.rd d F.STL_PSAFE_CAUSE k) k else s
  let s := if st = 9 then s.wr d F.STL_PSAFE_CAUSE 0 k else s
  let s := if tgt = 0 then s.wr d F.PLC_M_STAT_MATCHED 0 k else s
  let s := s.updOvr d k (fun o => { o with direct := decide (st = 0 ∧ tgt = 5), written := false })
  let s := if tgt = 0 ∨ tgt = 8 then (s.setInh (portOf d k) Inh.safe false).wr d F.SAF_P_STAT_STOP 0 k else s
  if st = 0 ∧ tgt ≠ 0 then
    let cfg := (s.saf.get d).stored.map (fun c => c.ports.get k)
    s.updSaf d k (fun p => { p with cfg := cfg })
  else s

/-- A refused request: ignored, with REFUSED, REF_REQ and the event (R248). -/
def psRefuse (s : State) (d : Fin 8) (k : Fin 4) (tgt : Nat) : State :=
  ((s.wr d F.STL_PSTATE_REFUSED 1 k).wr d F.STL_PSTATE_REF_REQ tgt k).setBit d F.STL_EVT_REFUSED k

/-- The unit is a standby or held, so STL_PSREQk ignores every write (R251). -/
def shadowing (s : State) : Bool := s.role == 2 || s.role == 3

/-- A request judged under R248, without its effects on metering and stops. -/
def psJudge (s : State) (d : Fin 8) (k : Fin 4) (tgt : Nat) (w : PsWriter) : State :=
  if s.shadowing then s
  else if s.psAllowed d k tgt w then s.psApply d k tgt
  else s.psRefuse d k tgt

end Sys2Proof.Machine.State
end

