-- ==== Sys2Proof/Machine/SafetyOps.lean ====
section
/-!
DEFINITION. Shared operations of the safety core and of the antler line: configuration in force, causes, ramp and trip
stops, safety outputs, the outputs of a port state's row, and the loss of a claim (R247, R396 to R401, R406, R409,
R439 to R441, R448).
-/

namespace Sys2Proof.Machine.State

/-! ## Iteration -/

/-- An operation on the four local ports of a die, in order. -/
def onPorts (s : State) (f : State → Fin 4 → State) : State := (List.finRange 4).foldl f s

/-- An operation on the eight dies, in order. -/
def onDies (s : State) (f : State → Fin 8 → State) : State := (List.finRange 8).foldl f s

/-- An operation on the dies that are present and not retired. -/
def onUsed (s : State) (f : State → Fin 8 → State) : State :=
  s.onDies (fun s d => if s.dieUsed d then f s d else s)

/-- An operation on every port of the dies in use. -/
def onUsedPorts (s : State) (f : State → Fin 8 → Fin 4 → State) : State :=
  s.onUsed (fun s d => s.onPorts (fun s k => f s d k))

/-! ## Configuration in force -/

/-- The defaults of R412 and R252; U_RATED, I_RATED and the engine CRC have none and stand at 0 (log entry 10). -/
def defaultCfg : PortCfg :=
  { filt := Vector.replicate 8 2, used := 0xFF, estopSrc := 0, sin7Mag := false, estopRamp := 10, normalRamp := 20,
    insulRamp := 10, tempRamp := 20, monTol := 5, monLag := 20, tripOpen := 10, contactTmo := 100, uRated := 0,
    iRated := 0, rM := 200, isoWarn := 500, isoFault := 100, tPinStop := 100, tOutStop := 70, flowTmo := 2000,
    degTime := 480, ccIlim := 2000, ccTmo := 30000, preIlim := 2000, preTol := 20, preTmo := 7000, lockChan := 0,
    preUsed := true }

/-- The safety configuration of a port: the one it left IDLE with, else the stored one (R412). -/
def cfg (s : State) (d : Fin 8) (k : Fin 4) : PortCfg :=
  match (s.safPort d k).cfg, (s.saf.get d).stored with
  | some c, _ => c
  | none, some c => c.ports.get k
  | none, none => { defaultCfg with estopSrc := k }

/-! ## Measured currents and voltages of a port -/

/-- VALUE of the last result word of a cell, in codes (R138). -/
def cellCode (s : State) (d : Fin 8) (c : Nat) : Int := sext 16 (s.rd d F.ADC_LAST c)

/-- The last result word of a cell carries LANE = 0b11 (R139). -/
def cellInv (s : State) (d : Fin 8) (c : Nat) : Bool := bitsOf (s.rd d F.ADC_LAST c) 27 2 == 3

/-- Cell of a field of the port's meter map (R142). -/
def mapCell (s : State) (d : Fin 8) (k : Fin 4) (f : Fld) : Nat := 16 * k.val + s.rd d f k

/-- Magnitude of a code at a scale in nA or nV per code, in nA or nV (log entry 11). -/
def scaled (code : Int) (scale : Nat) : Nat := code.natAbs * scale

/-- A cell's magnitude at a scale; none where its last word must be discarded (R139). -/
def cellMag (s : State) (d : Fin 8) (c scale : Nat) : Option Nat :=
  if s.cellInv d c then none else some (scaled (s.cellCode d c) scale)

/-- The larger of shunt and Hall current, nA, of the words that need not be discarded (R139, R398; log entries 11 and 113). -/
def portNa (s : State) (d : Fin 8) (k : Fin 4) : Option Nat :=
  let p := s.meter.params.get (portOf d k)
  let sh := s.cellMag d (s.mapCell d k F.ADC_MTRMAP_I_CELL) p.iscale
  let ha := if s.on d F.ADC_MTRMAP_H_EN k then s.cellMag d (s.mapCell d k F.ADC_MTRMAP_H_CELL) p.hscale else none
  match sh, ha with
  | some a, some b => some (max a b)
  | some a, none => some a
  | none, b => b

/-- Voltage of cell 16k + `c`, nV: 0 the cabinet side, 1 the dispenser end; none where the word must be discarded (R139, R263; log
entries 11 and 113). -/
def portNv (s : State) (d : Fin 8) (k : Fin 4) (c : Nat) : Option Nat :=
  s.cellMag d (16 * k.val + c) (s.meter.params.get (portOf d k)).vscale

/-! ## Causes -/

/-- A cause of R401 is present: FAULT_ACT follows, and CAUSE keeps the first. -/
def causeOn (s : State) (d : Fin 8) (k : Fin 4) (c : Nat) : State :=
  if c = 0 then s
  else
    let s := s.updSaf d k (fun p => { p with active := p.active ||| BitVec.ofNat 16 (2 ^ c) })
    let s := s.wr d F.STL_PSAFE_FAULT_ACT 1 k
    if s.rd d F.STL_PSAFE_CAUSE k = 0 then s.wr d F.STL_PSAFE_CAUSE c k else s

/-- A cause's condition has ended (R401). -/
def causeOff (s : State) (d : Fin 8) (k : Fin 4) (c : Nat) : State :=
  let s := s.updSaf d k (fun p => { p with active := p.active &&& ~~~(BitVec.ofNat 16 (2 ^ c)) })
  s.wrB d F.STL_PSAFE_FAULT_ACT (decide ((s.safPort d k).active ≠ 0)) k

/-! ## Safety outputs -/

/-- SOUT commands after a write: a changed SOUT0 or SOUT1 starts the check of its mirror contact (R396, R407). -/
def setSout (s : State) (d : Fin 8) (k : Fin 4) (cmd : Nat) : State :=
  let old := s.rd d F.SAF_OUT_CMD k
  let s := s.wr d F.SAF_OUT_CMD cmd k
  let run (n : Nat) (x : Option Nat) : Option Nat := if bitOf old n != bitOf cmd n then some 0 else x
  s.updSaf d k (fun p => { p with contact := p.contact.mapFinIdx (fun i x _ => run i x) })

/-- The outputs of a mask released. -/
def dropSout (s : State) (d : Fin 8) (k : Fin 4) (mask : Nat) : State :=
  s.setSout d k (s.rd d F.SAF_OUT_CMD k &&& (15 - mask))

/-! ## Requests of the safety core -/

/-- The safety core requests FAULT where the table lists it (R248). -/
def reqFault (s : State) (d : Fin 8) (k : Fin 4) : State :=
  if s.psState d k ≤ 8 then s.psJudge d k 9 .safe else s

/-- A stop starts: STOP, its event and its log entry (SAF_EVT, code 0x000E). -/
def stopMark (s : State) (d : Fin 8) (k : Fin 4) (kind c : Nat) : State :=
  ((s.wr d F.SAF_P_STAT_STOP kind k).setBit d F.SAF_EVT_STOP k).info d 0x000E 0x0C k.val [(portOf d k).val, c]

/-- Ramp of R180 written, and its monitoring begun (R397, R398). -/
def rampWrite (s : State) (d : Fin 8) (k : Fin 4) (c ms : Nat) : State :=
  let s := s.overrideStart d k (some ms)
  let i0 : Int := (s.portNa d k).getD 0
  s.updSaf d k (fun p => { p with ramp := some (c, rampTaken ms, i0, 0), above := 0 })

/-- A ramp stop whose port is already in RAMP_DOWN (R397 steps 2 and 3). -/
def rampBegin (s : State) (d : Fin 8) (k : Fin 4) (c ms : Nat) : State :=
  ((s.causeOn d k c).rampWrite d k c ms).stopMark d k 1 c

/-- A ramp stop with a cause and ramp time (R397, R399, R415). -/
def rampStop (s : State) (d : Fin 8) (k : Fin 4) (c ms : Nat) : State :=
  let st := s.psState d k
  let p := s.safPort d k
  if p.tripOpen.isSome then s.causeOn d k c
  else if 3 ≤ st ∧ st ≤ 5 then (s.psJudge d k 6 .safe).rampBegin d k c ms
  else if st = 6 then
    match p.ramp with
    | none => s.rampBegin d k c ms
    | some (c0, ms0, i0, n) =>
      let s := s.causeOn d k c
      if rampTaken ms * 100 < ms0 * 100 - n then (s.rampWrite d k (if c0 = 0 then c else c0) ms)
      else s.updSaf d k (fun p => { p with ramp := some (if c0 = 0 then c else c0, ms0, i0, n) })
  else if c = 0 then s
  else (s.causeOn d k c).reqFault d k

/-- The end of a ramp stop: contactors released, then FAULT, or WELD_CHECK after a normal stop (R397 steps 4 and 5). -/
def rampEnd (s : State) (d : Fin 8) (k : Fin 4) : State :=
  let n := match (s.safPort d k).ramp with
    | some (_, _, _, n) => n
    | none => 0
  let s := (s.dropSout d k 3).wr d F.SAF_P_TIME_LAST_REACT (min 65535 (10 * n)) k
  let s := (s.updSaf d k (fun p => { p with ramp := none, above := 0 })).wr d F.SAF_P_STAT_STOP 0 k
  if s.rd d F.STL_PSAFE_CAUSE k = 0 then s.psJudge d k 7 .safe else s.reqFault d k

/-- A trip stop with a cause (R399): INH, halt, ZERO override, cause; TRIP_OPEN starts. -/
def tripStop (s : State) (d : Fin 8) (k : Fin 4) (c : Nat) : State :=
  if (s.safPort d k).tripOpen.isSome then s.causeOn d k c
  else
    let s := (s.setInh (portOf d k) Inh.safe true).haltAssert d k 1
    let s := (s.overrideStart d k none).causeOn d k c
    (s.updSaf d k (fun p => { p with tripOpen := some 0, ramp := none, above := 0 })).stopMark d k 2 c

/-- The end of a trip stop: SOUT0 to SOUT2 released, FAULT requested (R399 step 4). -/
def tripEnd (s : State) (d : Fin 8) (k : Fin 4) : State :=
  let n := (s.safPort d k).tripOpen.getD 0
  let s := (s.dropSout d k 7).wr d F.SAF_P_TIME_LAST_REACT (min 65535 (10 * n)) k
  ((s.updSaf d k (fun p => { p with tripOpen := none })).wr d F.SAF_P_STAT_STOP 0 k).reqFault d k

/-- A trip stop on every port of a die. -/
def dieTrip (s : State) (d : Fin 8) (c : Nat) : State := s.onPorts (fun s k => s.tripStop d k c)

/-- A trip stop on every port of the dies in use. -/
def siteTrip (s : State) (c : Nat) : State := s.onUsed (fun s d => s.dieTrip d c)

/-! ## Degraded mode -/

/-- A loss of R409 in quantity `q` (0 voltage, 1 current, 2 trip coverage, 3 lanes): degraded mode, or a trip stop with
cause 12 on a second loss of the same quantity. -/
def degrade (s : State) (d : Fin 8) (k : Fin 4) (q : Nat) : State :=
  let p := s.safPort d k
  if p.degCauses.contains q then s.tripStop d k 12
  else
    let first := p.degCauses.isEmpty
    let s := s.updSaf d k (fun p => { p with degCauses := p.degCauses ++ [q] })
    if first then
      ((((s.wr d F.OXE_PORT_DERATE ((s.cfg d k).iRated * 500) k).wr d F.SAF_P_STAT_DEGRADED 1 k).wr d
        F.SAF_P_STAT_DEG_LEFT (s.cfg d k).degTime k).setBit d F.SAF_EVT_DEGRADED k).updSaf d k
        (fun p => { p with degEdges := 0 })
    else s

/-- A cause of degraded mode cleared by reinstatement (R409). -/
def undegrade (s : State) (d : Fin 8) (k : Fin 4) (q : Nat) : State :=
  let s := s.updSaf d k (fun p => { p with degCauses := p.degCauses.filter (· != q) })
  if (s.safPort d k).degCauses.isEmpty then
    ((s.wr d F.SAF_P_STAT_DEGRADED 0 k).wr d F.SAF_P_STAT_DEG_LEFT 0 k).updSaf d k (fun p => { p with degOut := false })
  else s

/-! ## The outputs of a state's row -/

/-- The rating a port's DERATE takes in CHARGING (R247, R409). -/
def ratingMa (s : State) (d : Fin 8) (k : Fin 4) : Nat :=
  if s.on d F.SAF_P_STAT_DEGRADED k then (s.cfg d k).iRated * 500 else (s.cfg d k).iRated * 1000

/-- The row of the present state (R247): SOUT0 to SOUT2, INH, DERATE and the override. While a trip stop runs, its own
steps hold (R399). -/
def applyRow (s : State) (d : Fin 8) (k : Fin 4) : State :=
  if (s.safPort d k).tripOpen.isSome then s
  else
    let st := s.psState d k
    let c := s.cfg d k
    let keep := s.rd d F.SAF_OUT_CMD k / 8 * 8
    let live := decide (3 ≤ st) && decide (st ≤ 6)
    let s := s.setInh (portOf d k) Inh.state (!live)
    if st = 6 then s.dropSout d k 4
    else if live then
      let s := s.setSout d k (keep + 3 + (if st = 4 ∧ c.preUsed then 4 else 0))
      let s := s.wr d F.OXE_PORT_DERATE (if st = 3 then c.ccIlim else if st = 4 then c.preIlim else s.ratingMa d k) k
      if s.rd d F.OXE_PORT_OVR_MODE k = 0 then s else s.overrideRelease d k
    else
      let s := (s.setSout d k keep).wr d F.OXE_PORT_DERATE 0 k
      if s.rd d F.OXE_PORT_OVR_MODE k = 2 then s else s.overrideStart d k none

/-! ## Roles and the claim -/

/-- A role change with its cause and log entry (R438, R439; code 0x000F). -/
def setRole (s : State) (r cause : Nat) : State :=
  let old := s.role
  let s := (s.wr 0 F.TWN_STAT_ROLE r).wr 0 F.TWN_STAT_HELD_CAUSE cause
  if old = r then s else s.info 0 0x000F 0x21 0xFF [old, r, cause]

/-- What a port's safety outputs drive while they are enabled: the commands, nothing while the rail has them off (R57). -/
def soutDrive (s : State) (d : Fin 8) (k : Fin 4) : Nat := if s.sup.soutOff then 0 else s.rd d F.SAF_OUT_CMD k

/-- Outputs on or off as the output-latch cells see them: disabled outputs hold their last state (R448). -/
def latchOutputs (s : State) : State :=
  let s := s.onDies (fun s d => s.onPorts (fun s k => s.wr d F.SAF_OUT_LATCHED (s.soutDrive d k) k))
  { s with twin := { s.twin with
      latchHold := true,
      inhLatch := (List.finRange 32).foldl
        (fun b p => if s.inhDriven p then b ||| BitVec.ofNat 32 (2 ^ p.val) else b) (0 : BitVec 32),
      lswLatch := Vector.ofFn (fun d => (List.range 12).foldl
        (fun b n => if s.on d.val F.LSW_CH_STAT_OUT n then b ||| BitVec.ofNat 12 (2 ^ n) else b) (0 : BitVec 12)) } }

/-- Outputs disabled: the claim is not held or not alone (R440, R448). -/
def outputsOff (s : State) : State := if s.outEn then (s.latchOutputs).wr 0 F.TWN_STAT_OUT_EN 0 else s

/-- Loss of the claim by a unit that was ACTIVE or SOLO (R440, R441). -/
def claimDrop (s : State) : State :=
  let s := if s.role ≤ 1 then { s with twin := { s.twin with cut := true } } else s
  (s.outputsOff).wr 0 F.TWN_STAT_CLAIM_OWN 0

/-- Own release of an active unit (R439): the claim falls and the unit is held with cause 8. -/
def ownRelease (s : State) : State := if s.role = 1 then (s.claimDrop).setRole 3 8 else s

end Sys2Proof.Machine.State
end

