-- ==== Sys2Proof/Machine/FaultOps.lean ====
section
/-!
DEFINITION. Shared operations of the fault hierarchy: counting a fault against its budget, retiring and reinstating an
element, and the responses of regions and of the chip (R458 to R465).
-/

namespace Sys2Proof.Machine.State

/-! ## Element addresses (R464) -/

/-- Key of an element: die, level, block code, index. -/
def faultKey (die level block index : Nat) : Nat := ((die * 8 + level) * 256 + block) * 1024 + index

/-- Fault times kept for a key. -/
def faultTimes (s : State) (key : Nat) : List Nat :=
  match s.faults.counts.find? (fun e => e.1 == key) with
  | some e => e.2
  | none => []

/-- Fault times of a key replaced; an empty list is not kept. -/
def setFaultTimes (s : State) (key : Nat) (l : List Nat) : State :=
  let rest := s.faults.counts.filter (fun e => e.1 != key)
  { s with faults := { s.faults with counts := if l.isEmpty then rest else rest ++ [(key, l)] } }

/-- A retirement record of the element stands (R463). -/
def isRetired (s : State) (die level block index : Nat) : Bool :=
  if level = 4 then s.faults.chipRetired
  else s.faults.retired.any (fun r => r.die == die && r.level == level && r.block == block && r.index == index)

/-- The region or chip that contains an element is in a fault response (R460). -/
def inResponse (s : State) (d : Fin 8) (level : Nat) : Bool :=
  s.faults.chipResp || (decide (level ≤ 3) && s.faults.regionResp.get d)

/-- Window of the budget in ns, and its retries (R458): the die's own for cells and blocks, the lead die's above. -/
def budgetWin (s : State) (d : Fin 8) (level : Nat) : Nat :=
  max 1 (s.rd (if level ≤ 2 then d.val else 0) F.DIE_BUDGET_BUDGET_WIN) * 1000000000

/-- Retries of the budget (R458). -/
def budgetRetry (s : State) (d : Fin 8) (level : Nat) : Nat :=
  s.rd (if level ≤ 2 then d.val else 0) F.DIE_BUDGET_BUDGET_RETRY

/-! ## Error registers -/

/-- DIE_ERR and PKG_ERR after a fault (R463, R466): the first code since clear, and whether it has been permanent. -/
def errRegs (s : State) (d : Fin 8) (level block code count : Nat) (perm : Bool) : State :=
  let s :=
    if level = 4 then s
    else
      let s := if s.rd d F.DIE_ERR_FIRST = 0 then (s.wr d F.DIE_ERR_FIRST code).wr d F.DIE_ERR_BLOCK block else s
      if perm && s.rd d F.DIE_ERR_FIRST == code && s.rd d F.DIE_ERR_BLOCK == block then s.wr d F.DIE_ERR_PERM 1 else s
  if level ≤ 2 then s
  else
    let s := if s.rd pkgDie F.PKG_ERR_FIRST = 0 then (s.wr pkgDie F.PKG_ERR_FIRST code).wr pkgDie F.PKG_ERR_DIE d else s
    if level = 4 then (s.wr pkgDie F.PKG_ERR_COUNT (min 15 count)).wrB pkgDie F.PKG_ERR_PERM
      (s.on pkgDie F.PKG_ERR_PERM || perm)
    else s

/-- DIE_FCNT after a counted fault. -/
def fcnt (s : State) (d : Fin 8) (level count : Nat) : State :=
  if level = 1 then s.satCnt d F.DIE_FCNT_CELL
  else if level = 2 then s.satCnt d F.DIE_FCNT_BLOCK
  else if level = 3 then s.wr d F.DIE_FCNT_REGION (min 255 count)
  else s

/-! ## Retirement -/

/-- A lost measuring cell of a port (R409): a shunt or Hall current cell, or one of the two voltage cells. -/
def cellLost (s : State) (d : Fin 8) (c : Nat) : State :=
  if h : c / 16 < 4 then
    let k : Fin 4 := ⟨c / 16, h⟩
    if c = s.mapCell d k F.ADC_MTRMAP_I_CELL ∨ (s.on d F.ADC_MTRMAP_H_EN k ∧ c = s.mapCell d k F.ADC_MTRMAP_H_CELL) then
      s.degrade d k 1
    else if c % 16 ≤ 1 then s.degrade d k 0
    else s
  else s

/-- A retired trip comparator: analog cover is lost, a trip stop where it stood in for the digital one (R406, R462). -/
def compLost (s : State) (d : Fin 8) (c : Nat) : State :=
  if h : c / 2 < 4 then
    if (s.safPort d ⟨c / 2, h⟩).degCauses.contains 2 then s.tripStop d ⟨c / 2, h⟩ 12 else s
  else s

/-- The port dies of a retired chip are kept in reset (R461). -/
def portDiesOff (s : State) : State :=
  s.onUsed (fun s d =>
    if d = 0 then s
    else
      let s := s.setInhDie d Inh.reset true
      { s with pkg := { s.pkg with die := s.pkg.die.set d .off } })

/-- The retired state shown in the element's own bit, and its first effects (R461, R463). -/
def retiredEffect (s : State) (d : Fin 8) (level block index : Nat) : State :=
  if level = 1 ∧ block = 0x04 ∧ index < 72 then (s.wr d F.ADC_CELL_RETIRED 1 index).cellLost d index
  else if level = 1 ∧ block = 0x04 then s.compLost d (index - 72)
  else if level = 2 ∧ block = 0x04 ∧ index < 3 then s.wr d F.ADC_LANE_CAL_RETIRED 1 index
  else if level = 1 ∧ block = 0x11 ∧ index < 12 then
    ((s.wr d F.LSW_CH_STAT_RETIRED 1 index).wr d F.LSW_CH_STAT_STATE 7 index).wr d F.LSW_CH_STAT_OUT 0 index
  else if level = 3 then
    let s := (s.setBit pkgDie F.PKG_DIES_RETIRED d.val).setInhDie d Inh.reset true
    { s with pkg := { s.pkg with die := s.pkg.die.set d .off },
             faults := { s.faults with regionResp := s.faults.regionResp.set d false,
                                       regionDue := s.faults.regionDue.set d false } }
  else if level = 4 then
    ({ s with faults := { s.faults with chipRetired := true, chipResp := false, chipDue := false } }).portDiesOff
  else s

/-- An element retired: its record first, then its retired state and the log entry (R463; codes 0x0020, 0x0021). -/
def retireElem (s : State) (d : Fin 8) (level block index code count : Nat) (byCommand : Bool) (extra : Nat) : State :=
  let r : RetRec := { die := d, level := level, block := block, index := index, code := code, tai := s.tai d,
                      count := count }
  let s := { s with faults := { s.faults with retired := s.faults.retired ++ [r] } }
  let s := (s.satCnt d F.DIE_FCNT_RETIRED).retiredEffect d level block index
  s.info d (if byCommand then 0x0021 else 0x0020) block index [level, extra]

/-! ## Counting a fault -/

/-- A fault of an element counted and logged (R458, R460); `true` when it is permanent and the element is retired.
A fault of a retired element leaves no trace, and one inside a response is logged with class 0. -/
def countFault (s : State) (d : Fin 8) (level block index code : Nat) (data : List Nat) : State × Bool :=
  if s.isRetired d level block index then (s, false)
  else if s.inResponse d level then (s.log d code 0 block index 0 data, false)
  else
    let key := faultKey (if level = 4 then 0 else d.val) level block index
    let times := ((s.faultTimes key).filter (fun t => s.now - t < s.budgetWin d level)) ++ [s.now]
    let n := times.length
    let perm := decide (s.budgetRetry d level < n)
    let s := (s.setFaultTimes key times).log d code (if perm then 2 else 1) block (if level ≤ 2 then index else 0xFF)
      (min 255 n) data
    let s := (s.errRegs d level block code n perm).fcnt d level n
    if perm then (s.retireElem d level block index code n false code, true) else (s, false)

/-- A counted cell or block fault. -/
def fault (s : State) (d : Fin 8) (level block index code : Nat) (data : List Nat) : State :=
  (s.countFault d level block index code data).1

/-- A chip fault and its response (R461): trip stop with cause 14 on every port, release of an active unit's claim, and
a PWR reset due unless a tamper caused it (R92) or the chip is retired. -/
def chipFault (s : State) (code : Nat) (data : List Nat) (tampered : Bool) : State :=
  if s.faults.chipRetired then s
  else if s.faults.chipResp then s.log 0 code 0 0 0xFF 0 data
  else
    let r := s.countFault 0 4 0 0 code data
    let s := (r.1.siteTrip 14).ownRelease
    if r.2 then (if s.role = 2 then s.setRole 3 8 else s)
    else { s with faults := { s.faults with chipResp := true, chipDue := !tampered } }

/-- A region fault and its response (R461, R414). A region fault of the lead die is a chip fault with code 0x4003. -/
def regionFault (s : State) (d : Fin 8) (code : Nat) (data : List Nat) : State :=
  if d = 0 then s.chipFault 0x4003 [code] false
  else if s.isRetired d 3 0 0 then s
  else if s.inResponse d 3 then s.log d code 0 0 0xFF 0 data
  else
    let r := s.countFault d 3 0 0 code data
    let s := (r.1.dieTrip d 14).ownRelease
    if r.2 then s
    else { s with faults := { s.faults with regionResp := s.faults.regionResp.set d true,
                                            regionDue := s.faults.regionDue.set d true } }

/-! ## A context fault -/

/-- A context faults (R172): it stops at once; the error is raised, the safety core stops the ports it owns with cause 8
(R401), and the fault counts against the context (R462). -/
def ctxFault (s : State) (d : Fin 8) (n : Fin 8) (cause : Nat) : State :=
  let s := ((s.wr d F.OXE_CTX_STAT_STATE 6 n).wr d F.OXE_CTX_STAT_CAUSE cause n).satCnt d F.OXE_CTX_STAT_FAULTS n
  let s := if s.rd d F.OXE_STAT_CUR_CTX = n.val then s.wr d F.OXE_STAT_IDLE 1 else s
  let s := s.wr d F.OXE_ERR_CTX_FAULT 1
  let s := if s.rd d F.OXE_ERR_FIRST = 0 then (s.wr d F.OXE_ERR_FIRST 6).wr d F.OXE_ERR_CTX n else s
  let s := s.onPorts (fun s k =>
    if s.rd d F.OXE_PORT_CFG_OWNER k = n.val then s.rampStop d k 8 (s.cfg d k).normalRamp else s)
  s.fault d 2 0x08 n 0x2004 [n, cause]

end Sys2Proof.Machine.State
end

