-- ==== Sys2Proof/Machine/ImageOps.lean ====
section
/-!
DEFINITION. Images, measurement registers and pairing certificates: the header of R68, verification (R69, R70),
coverage (R73) and the staged-set status (R83).
-/

namespace Sys2Proof.Machine

/-- `n` bytes of a list from offset `k`; bytes past its end read 0. -/
def slice (l : List Byte) (k n : Nat) : List Byte :=
  let x := (l.drop k).take n
  x ++ List.replicate (n - x.length) 0

/-- Little-endian number in `n` bytes from offset `k` (R9). -/
def field (l : List Byte) (k n : Nat) : Nat := leNat (slice l k n)

namespace State

/-! ## Measurement registers (R71) -/

/-- The 32 bytes of MREGn, first digest byte in the lowest byte of word 0. -/
def mreg (s : State) (n : Nat) : List Byte := (List.range 8).flatMap (fun k => leBytes 4 (s.rd 0 F.LCS_MREG n k))

/-- MREGn written with a digest. -/
def setMreg (s : State) (n : Nat) (l : List Byte) : State :=
  (List.range 8).foldl (fun s k => s.wr 0 F.LCS_MREG (field l (4 * k) 4) n k) s

/-! ## Image banks -/

/-- Key of an image: die, bank, class. -/
def imageKey (d b c : Nat) : Nat := d * 16 + b * 8 + c

/-- Bytes of an image, header then payload; none reads as the empty list. -/
def image (s : State) (d b c : Nat) : List Byte :=
  ((s.lcs.images.find? (fun e => e.1 == imageKey d b c)).map (·.2)).getD []

/-- An image replaced; the empty list removes it. -/
def setImage (s : State) (d b c : Nat) (l : List Byte) : State :=
  let rest := s.lcs.images.filter (fun e => e.1 != imageKey d b c)
  { s with lcs := { s.lcs with images := if l.isEmpty then rest else rest ++ [(imageKey d b c, l)] } }

/-- Certificate `i` of a bank of die `d`. -/
def certBytes (s : State) (d b i : Nat) : List Byte :=
  ((s.lcs.certs.find? (fun e => e.1 == imageKey d b i)).map (·.2)).getD []

/-- The certificates of a bank of die `d` replaced, at most eight. -/
def setCerts (s : State) (d b : Nat) (l : List (List Byte)) : State :=
  let new := l.mapIdx (fun i x => (imageKey d b i, x))
  { s with lcs := { s.lcs with certs := s.lcs.certs.filter (fun x => x.1 / 8 != 2 * d + b) ++ new } }

/-- A bank that a power cut during staging has left invalid (R83). -/
def bankTorn (s : State) (b : Nat) : Bool := s.lcs.staging.isNone && s.lcs.torn.any (fun x => x.1 == b)

/-- DECL_MEAS of an image (R68). -/
def declMeas (l : List Byte) : List Byte := slice l 0x38 32

/-- The measurement of R69. -/
def measure (l : List Byte) : List Byte :=
  (Config.sha256 (List.replicate 32 0 ++ (Config.sha256 (slice l 0 0x38)).toList)).toList

/-- VERSION, SEC_VER and IF_GEN of an image (R68). -/
def imgVersion (l : List Byte) : Nat := field l 0x08 4
def imgSecVer (l : List Byte) : Nat := field l 0x05 1
def imgIfGen (l : List Byte) : Nat := field l 0x10 4

/-- Why the boot ROM refuses an image of class `c`, in the codes of FAIL_WHY; 0 for none (R69, R70). The header form of
R68 is checked with the signature, and an absent image, or any of a bank that staging left invalid, fails its digest (log
entry 14). -/
def imageWhy (s : State) (d b c : Nat) : Nat :=
  let l := s.image d b c
  if l.isEmpty || s.bankTorn b then 1
  else if (Config.sha256 (l.drop 256)).toList ≠ slice l 0x18 32 ∨ field l 0x14 4 ≠ l.length - 256 then 1
  else if measure l ≠ declMeas l then 2
  else if field l 0 4 ≠ 0x4E44494D ∨ field l 4 1 ≠ c ∨ slice l 0xA0 96 ≠ List.replicate 96 0 ∨ field l 6 2 ≠ 0 ∨
      field l 0x0E 2 ≠ 0 ∨ 15 < imgSecVer l ∨
      (if c = 5 then s.lcs.ownerHash.isEmpty ||
         !Config.signatureOk s.lcs.ownerHash (slice l 0 0x60) (slice l 0x60 64)
       else !Config.signatureOk Config.vendorKeyHash (slice l 0 0x60) (slice l 0x60 64)) = true then 3
  else if s.rd pkgDie F.PKG_ID_STEPPING < field l 0x0C 1 ∨ field l 0x0D 1 < s.rd pkgDie F.PKG_ID_STEPPING then 4
  else if imgSecVer l < bitsOf (s.rd 0 F.LCS_FLOOR_FLOOR) (4 * c) 4 then 5
  else 0

/-- The image verifies (R69, R70). In BLANK a CFG image is not verified and counts as none (R70). -/
def verified (s : State) (d b c : Nat) : Bool :=
  if c = 5 ∧ s.lifeState = 0 then false else s.imageWhy d b c == 0

/-! ## Coverage (R73) -/

/-- A certificate covers the set of a bank, the METER image running or chosen being `meter`. -/
def certCovers (s : State) (b : Nat) (meter : List Byte) (c : Config.Cert) : Bool :=
  let names (i cls : Nat) : Bool :=
    match c.images[i]? with
    | some (v, m) => s.verified 0 b cls && v == imgVersion (s.image 0 b cls) && decide (m = measure (s.image 0 b cls))
    | none => false
  let step := s.rd pkgDie F.PKG_ID_STEPPING
  let cfgOk :=
    if s.verified 0 b 5 then c.schema == bitsOf (imgIfGen (s.image 0 b 5)) 24 8 else decide (s.lifeState ≤ 1)
  names 0 0 && names 1 1 && names 2 2 && names 3 4 && decide (c.stepMin ≤ step) && decide (step ≤ c.stepMax) && cfgOk &&
    c.winGen == bitsOf (imgIfGen meter) 0 8

/-- Index of the certificate that covers a bank's set; a bank without certificates has none. -/
def covering (s : State) (b : Nat) (meter : List Byte) : Option Nat :=
  (List.range 8).find? (fun i => !(s.certBytes 0 b i).isEmpty &&
    (match Config.certOf (s.certBytes 0 b i) with
     | some c => s.certCovers b meter c
     | none => false))

/-- The measurement of a certificate; the spec gives no form of its own, so its SHA-256 (log entry 14). -/
def certMeas (s : State) (b i : Nat) : List Byte := (Config.sha256 (s.certBytes 0 b i)).toList

/-- The bank that is not selected (R83); in a trial the pending bank is the selected one (log entry 49). -/
def otherBank (s : State) : Nat :=
  1 - s.rd 0 (if s.on 0 F.LCS_BOOT_TRIAL then F.LCS_BANK_PEND_BANK else F.LCS_BANK_ACTIVE)

/-- The running METER image. -/
def meterImage (s : State) : List Byte := s.image 0 (s.rd 0 F.LCS_BOOT_METER_BANK) 3

/-- LCS_STAGED.VALID and COVERED brought up to date (R83): a class whose check has not completed is not VALID, and no set is
covered while a check runs. COVERED is judged against METER_BANK's image whether or not a meter head runs (DESIGN CHOICE, log
entry 49). -/
def stagedCheck (s : State) : State :=
  let b := s.otherBank
  let s := (List.range 6).foldl (fun s c => if s.verified 0 b c && !s.lcs.checking.contains c then s.setBit 0 F.LCS_STAGED_VALID c
    else s.clrBit 0 F.LCS_STAGED_VALID c) s
  s.wrB 0 F.LCS_STAGED_COVERED (s.lcs.checking.isEmpty && (s.covering b s.meterImage).isSome)

/-- Every port of the site is IDLE, FAULT or RETIRED (R79, R84). -/
def portsQuiet (s : State) : Bool :=
  (List.finRange 8).all (fun d => !s.dieUsed d || (List.finRange 4).all (fun k =>
    s.psState d k == 0 || s.psState d k == 9 || s.psState d k == 10))

/-- The unit is solo, standby or held (R79, R84). -/
def roleQuiet (s : State) : Bool := s.role == 0 || s.role == 2 || s.role == 3

end State
end Sys2Proof.Machine
end

