-- ==== Sys2Proof/Machine/WinOps.lean ====
section
/-!
DEFINITION. Who asks for an access, and the shared window's slots and headers: accesses of the host view and of the device view, bulk
claims (R13, R24, R93, R106 to R113).
-/

namespace Sys2Proof.Machine

/-! ## Requesters -/

/-- Partition of a requester: 0 HOST, 1 METER, 2 SAFE (R93). -/
def partition : Requester → Option Nat
  | .app _ _ _ => some 0
  | .meter d => if d = 0 then some 1 else none
  | .safe _ => some 2
  | .loop _ => none
  | .hostPort => none
  | .debug _ => none

/-- Bank of a requester's operation registers. -/
def keyBank : Requester → Nat
  | .app d c _ => d.val * 2 + c.val
  | .meter _ => 16
  | .safe d => 17 + d.val
  | .loop d => 25 + d.val
  | .hostPort => 33
  | .debug d => 34 + d.val

/-- Die of a requester. -/
def whoDie : Requester → Fin 8
  | .app d _ _ => d
  | .loop d => d
  | .safe d => d
  | .meter d => d
  | .hostPort => 0
  | .debug d => d

/-- Number of a requester in access events (code 0x0001; log entry 15). -/
def whoCode : Requester → Nat
  | .app _ c u => c.val + 2 * b2n u
  | .loop _ => 4
  | .safe _ => 5
  | .meter _ => 6
  | .hostPort => 7
  | .debug _ => 8

/-- A machine-mode application core of the lead die. -/
def leadMachine : Requester → Bool
  | .app d _ u => decide (d = 0) && !u
  | _ => false

/-- The core an access fault goes to; the host port and the debug port are none (R24). -/
def faultCore : Requester → Bool
  | .hostPort => false
  | .debug _ => false
  | _ => true

/-! ## Layout (R106) -/

/-- Offset of a slot by its index in the SMW registers. -/
def slotBase (i : Nat) : Nat :=
  if i < 8 then 0x1000 + 0x400 * i else if i = 8 then 0x3000 else if i = 9 then 0x4000 else 0x8000 + 0x4000 * (i - 16)

/-- Bytes of a slot. -/
def slotSize (i : Nat) : Nat := if i < 9 then 0x400 else 0x4000

/-- Indices of the slots. -/
def slotIndices : List Nat := List.range 10 ++ (List.range 62).map (· + 16)

/-- The slot an offset lies in; none in the status block and the reserved regions. -/
def slotAt (off : Nat) : Option Nat :=
  if off < 0x1000 then none
  else if off < 0x3000 then some ((off - 0x1000) / 0x400)
  else if off < 0x3400 then some 8
  else if off < 0x4000 then none
  else if off < 0x8000 then some 9
  else some (16 + (off - 0x8000) / 0x4000)

/-- OWN, SEQ and LEN of a header; a header of its parts. -/
def hOwn (w : Word) : Nat := bitsOf w.toNat 0 2
def hSeq (w : Word) : Nat := bitsOf w.toNat 2 16
def hLen (w : Word) : Nat := bitsOf w.toNat 18 14
def mkHeader (own seq len : Nat) : Word := BitVec.ofNat 32 (own % 4 + 4 * (seq % 65536) + 262144 * (len % 16384))

/-- A requester that reaches the host view: the host port and every application core (R109). -/
def hostView : Requester → Bool
  | .app _ _ _ => true
  | .hostPort => true
  | _ => false

namespace State

/-- The debug port answers: in BLANK and MAINTENANCE (R78). -/
def debugOn (s : State) : Bool := s.lifeState == 0 || s.lifeState == 3

/-- An access of R24, R95 or R481 refused: the requesting core takes an access fault, and a die-level event is logged. -/
def accessFault (s : State) (r : Requester) (addr : Nat) : State :=
  { s.accessEvent (whoDie r) addr (whoCode r) with coreFault := if faultCore r then some (r, addr) else s.coreFault }


/-- Header of a slot. -/
def header (s : State) (i : Nat) : Word := s.mword (winKey (slotBase i))

/-- A header written. -/
def setHeader (s : State) (i : Nat) (w : Word) : State := s.setMword (winKey (slotBase i)) w

/-- OWN of a slot. -/
def own (s : State) (i : Nat) : Nat := hOwn (s.header i)

/-- Payload word `j` of a slot. -/
def slotWord (s : State) (i j : Nat) : Word := s.mword (winKey (slotBase i + 4 + 4 * j))

/-- Payload words of a slot written. -/
def putPayload (s : State) (i : Nat) (l : List Word) : State := s.setMwords (winKey (slotBase i + 4)) l

/-- A window error with the slot of the first one (SMW_ERR). -/
def smwErr (s : State) (f : Fld) (slot : Nat) : State :=
  let s := if s.rd 0 F.SMW_ERR_FIRST = 0 then s.wr 0 F.SMW_ERR_SLOT slot else s
  (s.raise 0 f F.SMW_ERR_FIRST).wr 0 F.SMW_EVT_ERR 1

/-! ## Host accesses -/

/-- Who may write the header of a command slot (R107; HPI_CTRL.CMD_EN). -/
def mayHeader (s : State) (r : Requester) (i : Nat) : Bool :=
  if i < 4 then (match r with
    | .hostPort => s.on 0 F.HPI_CTRL_CMD_EN
    | _ => false)
  else if i < 8 then (match r with
    | .app _ _ _ => true
    | _ => false)
  else true

/-- A host write of a header (R107, R109). -/
def hostHeader (s : State) (r : Requester) (i : Nat) (w : Word) : State :=
  if !s.mayHeader r i then s.smwErr F.SMW_ERR_ILLEGAL_OWN i
  else
    let h := s.header i
    if hOwn h = 3 ∧ hOwn w = 2 then s.setHeader i w
    else if hOwn h = 1 ∧ hOwn w = 3 then s.setHeader i (mkHeader 3 (hSeq h) (hLen h))
    else s.smwErr F.SMW_ERR_ILLEGAL_OWN i

/-- A host write of one window word (R108 to R110). -/
def hostWrite (s : State) (r : Requester) (off : Nat) (v : Word) : State :=
  match slotAt off with
  | none => s.smwErr F.SMW_ERR_STATUS_WRITE 0
  | some i =>
    if off = slotBase i then s.hostHeader r i v
    else if s.own i = 2 then s.smwErr F.SMW_ERR_PAYLOAD_DROP i
    else s.setMword (winKey off) v

/-- A block fault of what the table of elements does not name: logged and shown, counted in DIE_FCNT, against no budget (R462, R466,
R467; log entry 116). -/
def blockNote (s : State) (d : Fin 8) (block index code : Nat) (data : List Nat) : State :=
  if s.inResponse d 2 then s.log d code 0 block index 0 data
  else ((s.log d code 1 block index 1 data).errRegs d 2 block code 1 false).fcnt d 2 1

/-- The window meets the error of a word that is read: corrected, or left as the zero it reads (SMW_ERR, log entry 116). -/
def winEcc (s : State) (off : Nat) : State :=
  let i := (slotAt off).getD 0
  match s.eccAt (winKey off) with
  | none => s
  | some false => (s.eccMend (winKey off)).smwErr F.SMW_ERR_ECC_CORR i
  | some true => (s.smwErr F.SMW_ERR_ECC_UNCORR i).blockNote 0 0x22 i 0x2009 [i]

/-- A host read of one window word; a payload word of a device-owned slot counts as an early read (R111). -/
def hostRead (s : State) (r : Requester) (off : Nat) : Word × State :=
  let v := s.mword (winKey off)
  let s := s.winEcc off
  match slotAt off with
  | none => (v, s)
  | some i =>
    if off ≠ slotBase i ∧ s.own i = 2 then
      (v, ((s.satCnt 0 F.SMW_EARLY_READ_COUNT).wr 0 F.SMW_EARLY_READ_LAST_SLOT i).wrB 0 F.SMW_EARLY_READ_LAST_SRC
        (match r with
         | .hostPort => true
         | _ => false))
    else (v, s)

/-! ## The device's side (R109, R110, R113) -/

/-- A device-owned slot published: the submission's SEQ for a command slot, one more than before in a bulk slot or MBR. -/
def publish (s : State) (i seq len : Nat) : State :=
  if s.own i ≠ 2 then s
  else
    let q := if i < 8 then seq else (hSeq (s.header i) + 1) % 65536
    let s := s.setHeader i (mkHeader 1 q len)
    if i < 8 then s.setBit 0 F.SMW_EVT_CMD_DONE i
    else if i = 9 then s.wr 0 F.SMW_EVT_MBR_READY 1
    else if 16 ≤ i then s.wr 0 F.SMW_EVT_BULK 1
    else s

/-- A slot's submitted data taken: free, SEQ kept, LEN 0. -/
def takeSlot (s : State) (i : Nat) : State :=
  if s.own i = 2 then s.setHeader i (mkHeader 3 (hSeq (s.header i)) 0) else s

/-- A free slot claimed for a result. -/
def claimSlot (s : State) (i : Nat) : State :=
  let h := s.header i
  if hOwn h = 3 then s.setHeader i (mkHeader 2 (hSeq h) (hLen h)) else s

/-- SMW_RSV reserves a bulk slot. -/
def reserved (s : State) (k : Nat) : Bool :=
  if k < 32 then bitOf (s.rd 0 F.SMW_RSV 0) k else bitOf (s.rd 0 F.SMW_RSV 1) (k - 32)

/-- The bulk slot the device claims next, by its index (R113). -/
def nextBulk (s : State) : Option Nat :=
  ((List.range 62).find? (fun k => !s.reserved k && s.own (16 + k) == 3)).map (· + 16)

/-- A result delivered in a bulk slot: its index, none when no slot is free. -/
def bulkResult (s : State) (l : List Word) : Option Nat × State :=
  match s.nextBulk with
  | none => (none, s)
  | some i => (some i, (((s.claimSlot i).putPayload i l).publish i 0 l.length))

/-- A write through the device view, by a machine-mode core of the lead die (R109, R110). -/
def deviceWrite (s : State) (off : Nat) (v : Word) : State :=
  match slotAt off with
  | none => if off < 0x100 then s.setMword (winKey off) v else s.smwErr F.SMW_ERR_STATUS_WRITE 0
  | some i =>
    if off = slotBase i then
      if s.own i = 3 ∧ hOwn v = 2 then s.claimSlot i
      else if s.own i = 2 ∧ hOwn v = 1 then s.publish i (hSeq v) (hLen v)
      else if s.own i = 2 ∧ hOwn v = 3 then s.takeSlot i
      else s.smwErr F.SMW_ERR_ILLEGAL_OWN i
    else if s.own i = 2 then s.setMword (winKey off) v
    else s.smwErr F.SMW_ERR_PAYLOAD_DROP i

/-- A write of a window word by a requester, by its offset from the host view's base (R13, R24, R109, R481). A misaligned one of
the host port is ignored and shown. -/
def windowWrite (s : State) (r : Requester) (off : Nat) (v : Word) : State :=
  if r = .hostPort ∧ off % 4 ≠ 0 then s.wr 0 F.HPI_STAT_MISALIGN 1
  else if off % 4 ≠ 0 ∨ 0x200000 ≤ off then s.accessFault r (0x30000000 + off)
  else if off < 0x100000 then
    if hostView r then s.hostWrite r off v else s.accessEvent (whoDie r) (0x30000000 + off) (whoCode r)
  else if leadMachine r then s.deviceWrite (off - 0x100000) v
  else s.accessFault r (0x30000000 + off)

end State

end Sys2Proof.Machine
end

