-- ==== Sys2Proof/Machine/KeyOps.lean ====
section
/-!
DEFINITION. Operations of the key store: partitions, slots, derivation, blobs, the request queue and the engines
(R35, R86 to R105).
-/

namespace Sys2Proof.Machine

namespace State

/-! ## Slots -/

/-- Attribute word of a slot. -/
def slotAttr (s : State) (n : Nat) : Nat := (s.word (fldAddr 0 F.KEY_SLOT_ATTR_USE n 0)).toNat

/-- Attribute word written. -/
def setSlotAttr (s : State) (n v : Nat) : State := s.setWord (fldAddr 0 F.KEY_SLOT_ATTR_USE n 0) (BitVec.ofNat 32 v)

/-- A slot has been written: some key use stands in it. -/
def slotWritten (s : State) (n : Nat) : Bool := s.on 0 F.KEY_SLOT_ATTR_USE n

/-- OWNER that the first write gave a slot from 48 on, which outlasts an erase (R94). -/
def ownedBy (s : State) (n : Nat) : Option Nat := (s.keys.owned.find? (fun e => e.1 == n)).map (·.2)

/-- OWNER a write to a slot must have (R94): fixed by the map, or for slots 48 to 63 what the first write gave. -/
def slotOwner (s : State) (n ask : Nat) : Nat :=
  if n = 0 ∨ n = 2 ∨ n = 3 then 3
  else if 4 ≤ n ∧ n ≤ 7 then 1
  else if n < 48 then 0
  else (s.ownedBy n).getD ask

/-- The attribute word of an empty slot: nothing but the OWNER its first write gave (R94). -/
def emptyAttr (s : State) (n : Nat) : Nat := if 48 ≤ n then (s.ownedBy n).getD 0 * 16 else 0

/-- The key loaded in a slot. -/
def slotKey (s : State) (n : Nat) : Option (List Byte) :=
  if s.on 0 F.KEY_SLOT_ATTR_VALID n && s.keys.root.isSome then
    (s.keys.cache.find? (fun e => e.1 == n)).map (·.2)
  else none

/-- A slot's key in the cache replaced. -/
def setCache (s : State) (n : Nat) (v : Option (List Byte)) : State :=
  let rest := s.keys.cache.filter (fun e => e.1 != n)
  { s with keys := { s.keys with cache := match v with
      | some b => rest ++ [(n, b)]
      | none => rest } }

/-- Blob of a slot, current or pending. -/
def blobOf (l : List (Nat × Option Blob)) (n : Nat) : Option Blob := (l.find? (fun e => e.1 == n)).bind (·.2)

/-- A blob replaced. -/
def putBlob (l : List (Nat × Option Blob)) (n : Nat) (b : Option Blob) : List (Nat × Option Blob) :=
  let rest := l.filter (fun e => e.1 != n)
  match b with
  | some x => rest ++ [(n, some x)]
  | none => rest

/-- Key length in bytes of an ALG code (R93). -/
def algLen (alg : Nat) : Nat := if alg = 3 then 48 else 32

/-- The attribute bits a blob authenticates: USE, OWNER, MEAS_MASK, ALG, LC_MODE, STORED, SEALED (R99). -/
def blobAttr (a : Nat) : Nat := a &&& 0x800FFF37

/-! ## Derivation (R98) -/

/-- The construction of R98 over a key, for slot `n`. -/
def kdf (s : State) (ki : List Byte) (n attr label : Nat) (mr : Nat → List Byte) : List Byte :=
  let mask := bitsOf attr 8 8
  let lcs := s.lifeState
  let lc := if bitOf attr 18 then (if lcs = 0 then 0 else 1) else lcs
  let ctx := leBytes 1 n ++ leBytes 1 mask ++
    (List.range 8).flatMap (fun i => if bitOf mask i then mr i else []) ++ leBytes 1 lc
  (Config.hmacSha256 ki (beBytes 4 1 ++ beBytes 2 label ++ leBytes 1 0x4E ++ leBytes 1 0x44 ++ leBytes 1 0x5A ++
    leBytes 1 0x4B ++ leBytes 1 0 ++ ctx ++ beBytes 4 256)).toList

/-- The storage key of a slot under the present measurements. -/
def storageKey (s : State) (n attr label : Nat) : List Byte := s.kdf (s.keys.root.getD []) n attr label s.mreg

/-- The storage key of a slot under the staged set (R100). -/
def stagedKey (s : State) (n attr label : Nat) : List Byte :=
  let b := s.otherBank
  let cert := match s.covering b s.meterImage with
    | some i => s.certMeas b i
    | none => []
  s.kdf (s.keys.root.getD []) n attr label (fun i => if i ≤ 5 then declMeas (s.image 0 b i) else cert)

/-- Data authenticated with a blob (R99). -/
def blobAad (attr label : Nat) : List Byte := leBytes 4 (blobAttr attr) ++ leBytes 2 label

/-- A key wrapped under a storage key, with a fresh IV (R99). -/
def makeBlob (s : State) (k data : List Byte) (attr label : Nat) : Blob × State :=
  let r := s.freeBytes 12
  let ct := Config.gcmCrypt k r.1 data
  ({ iv := r.1, ct := ct, tag := (Config.gcmTag k r.1 (blobAad attr label) ct).toList,
     attr := BitVec.ofNat 32 (blobAttr attr), label := label }, r.2)

/-- A blob opened; none when its tag fails (R99). -/
def openBlob (k : List Byte) (b : Blob) : Option (List Byte) :=
  if (Config.gcmTag k b.iv (blobAad b.attr.toNat b.label) b.ct).toList = b.tag then some (Config.gcmCrypt k b.iv b.ct)
  else none

/-- Role index of a command-key slot, READER 0 to VENDOR 4 (R94, R116). -/
def roleOfSlot (n : Nat) : Option (Fin 5) :=
  match n with
  | 8 => some 4
  | 9 => some 2
  | 10 => some 3
  | 11 => some 1
  | 12 => some 0
  | _ => none

/-- Command-key slot of a role index. -/
def slotOfRole (r : Fin 5) : Nat :=
  match r.val with
  | 0 => 12
  | 1 => 11
  | 2 => 9
  | 3 => 10
  | _ => 8

/-- The key check value of R116. -/
def kcvOf (key : List Byte) : Word := BitVec.ofNat 32 (field (Config.aesCmac key (List.replicate 16 0)).toList 0 4)

/-- A new command key sets its KCV and resets the role's counter (R116). -/
def newRoleKey (s : State) (n : Nat) (key : List Byte) : State :=
  match roleOfSlot n with
  | none => s
  | some r =>
    let s := { s with keys := { s.keys with kcv := upd s.keys.kcv r (fun _ => kcvOf key) } }
    (s.wr 0 F.SMW_LASTCTR 0 r.val 0).wr 0 F.SMW_LASTCTR 0 r.val 1

/-- The first write of a slot from 48 on gives it its OWNER for good (R94). -/
def ownFirst (s : State) (n owner : Nat) : State :=
  if n < 48 ∨ (s.ownedBy n).isSome then s else { s with keys := { s.keys with owned := s.keys.owned ++ [(n, owner)] } }

/-- What a write leaves of a slot's blobs (R99, R101): the new blob of a STORED slot alone; during a trial the current position stands,
and the pending one is what a confirmation makes current (log entry 101). -/
def putBlobs (s : State) (n : Nat) (b : Option Blob) : State :=
  if s.on 0 F.LCS_BOOT_TRIAL then
    ({ s with keys := { s.keys with
        pend := putBlob s.keys.pend n b,
        fromPend := s.keys.fromPend.filter (fun x => x != n) ++ [n] } }).wrB 0 F.KEY_SLOT_ATTR_PENDING b.isSome n
  else
    ({ s with keys := { s.keys with current := putBlob s.keys.current n b,
                                    pend := putBlob s.keys.pend n none } }).wr 0 F.KEY_SLOT_ATTR_PENDING 0 n

/-- A key put into a slot with its attributes and label: cache, attribute word, and for a STORED slot its blob (R94, R99, R101). The
first key of slot 1 seals it, whatever operation brings it. -/
def putKey (s : State) (n attr label : Nat) (key : List Byte) : State :=
  let attr := if n = 1 then attr ||| 0x80000000 else attr
  let s := (s.ownFirst n (bitsOf attr 4 2)).setSlotAttr n (blobAttr attr ||| 0x80)
  let s := (s.wr 0 F.KEY_SLOT_LABEL_LABEL label n).setCache n (some key)
  let s :=
    if bitOf attr 19 then
      let r := s.makeBlob (s.storageKey n attr label) key attr label
      r.2.putBlobs n (some r.1)
    else s.putBlobs n none
  s.newRoleKey n key

/-- A slot emptied, with both of its blobs. -/
def clearSlot (s : State) (n : Nat) : State :=
  let s := ((s.setSlotAttr n (s.emptyAttr n)).wr 0 F.KEY_SLOT_LABEL_LABEL 0 n).setCache n none
  { s with keys := { s.keys with current := putBlob s.keys.current n none, pend := putBlob s.keys.pend n none } }

/-! ## Memory the engines reach -/

/-- Key of `n` bytes at a bus address in host SRAM of die `d`; none elsewhere. -/
def bufKey (d : Fin 8) (a n : Nat) : Option Nat :=
  if 0x10000000 ≤ a ∧ a + n ≤ 0x10200000 then some (sramKey d a) else none

/-- Bytes a DMA reads in host SRAM; none elsewhere. -/
def bufGet (s : State) (d : Fin 8) (a n : Nat) : Option (List Byte) := (bufKey d a n).map (fun k => s.bytes k n)

/-- Bytes a DMA writes in host SRAM. -/
def bufPut (s : State) (d : Fin 8) (a : Nat) (l : List Byte) : State :=
  match bufKey d a l.length with
  | some k => s.setBytes k l
  | none => s

/-- Window offset of `n` bytes a requester's operation reaches, and whether through the device view (R106, R109, R124): the host view for an
application core, the device view for a machine-mode core of the lead die, and MBQ and MBR alone for the meter head (log entry 16). -/
def winBuf (r : Requester) (a n : Nat) : Option (Bool × Nat) :=
  match r with
  | .app _ _ _ =>
    if 0x30000000 ≤ a ∧ a + n ≤ 0x30100000 then some (false, a - 0x30000000)
    else if leadMachine r ∧ 0x30100000 ≤ a ∧ a + n ≤ 0x30200000 then some (true, a - 0x30100000)
    else none
  | .meter _ =>
    if (0x30003000 ≤ a ∧ a + n ≤ 0x30003400) ∨ (0x30004000 ≤ a ∧ a + n ≤ 0x30008000) then some (true, a - 0x30000000) else none
  | _ => none

/-- Bytes an operation reads for its requester; none outside what it reaches. -/
def opGet (s : State) (r : Requester) (a n : Nat) : Option (List Byte) :=
  match bufKey (whoDie r) a n, winBuf r a n with
  | some k, _ => some (s.bytes k n)
  | none, some w => some (s.bytes (winKey w.2) n)
  | none, none => none

/-- An operation's output of `n` bytes is reached. -/
def opReach (r : Requester) (a n : Nat) : Bool := (bufKey (whoDie r) a n).isSome || (winBuf r a n).isSome

/-- Bytes written to the window word by word, each judged as a write of the requester's (R106 to R110). -/
def winPut (s : State) (r : Requester) (device : Bool) (off : Nat) (l : List Byte) : State :=
  let lo := off / 4
  let hi := (off + l.length + 3) / 4
  (List.range (hi - lo)).foldl (fun s i =>
    let w := 4 * (lo + i)
    let old := s.bytes (winKey w) 4
    let new := (List.range 4).map (fun j => if off ≤ w + j ∧ w + j < off + l.length then l.getD (w + j - off) 0 else old.getD j 0)
    let v : Word := BitVec.ofNat 32 (leNat new)
    if device then s.deviceWrite w v else s.hostWrite r w v) s

/-- Bytes an operation writes for its requester. -/
def opPut (s : State) (r : Requester) (a : Nat) (l : List Byte) : State :=
  match bufKey (whoDie r) a l.length, winBuf r a l.length with
  | some k, _ => s.setBytes k l
  | none, some w => s.winPut r w.1 w.2 l
  | none, none => s

/-- What an operation's read of a buffer leaves: early reads of the window through the host view are counted (R111). -/
def opNote (s : State) (r : Requester) (a n : Nat) : State :=
  match bufKey (whoDie r) a n, winBuf r a n with
  | none, some (false, off) =>
    (List.range ((off + n + 3) / 4 - off / 4)).foldl (fun s i => (s.hostRead r (4 * (off / 4 + i))).2) s
  | _, _ => s

/-! ## Requests -/

/-- Word `i` of a bank of operation registers: 0 OPC, 1 SRC, 2 DST, 3 AUX, 4 LEN, 5 RES. -/
def opReg (s : State) (b i : Nat) : Word := Sparse.get (fun _ => 0) s.keys.ops (b * 8 + i)

/-- An operation register written. -/
def setOpReg (s : State) (b i : Nat) (v : Word) : State :=
  { s with keys := { s.keys with ops := Sparse.set (fun _ => 0) s.keys.ops (b * 8 + i) v } }

/-- STATUS of a finished request, with DONE (KEY_OPRES). -/
def opFinish (s : State) (b status : Nat) : State := s.setOpReg b 5 (BitVec.ofNat 32 (status + 0x100))

/-- STATUS of a write or erase; DONE and QUEUED stay (KEY_OPRES). -/
def opStatus (s : State) (b status : Nat) : State :=
  s.setOpReg b 5 (((s.opReg b 5) &&& 0xFFFFFF00) ||| BitVec.ofNat 32 status)

/-- Slots a request names: its slot, and the target of ECDH, WRAP, UNWRAP and DERIVE. -/
def reqSlots (q : KeyReq) : List Nat :=
  (if q.op ≤ 0xB then [q.slot] else []) ++ (if 5 ≤ q.op ∧ q.op ≤ 8 then [q.target] else [])

/-- A slot is used by a running or queued operation (R97). -/
def slotInUse (s : State) (n : Nat) : Bool :=
  s.keys.queue.any (fun q => (reqSlots q).contains n) ||
    (match s.keys.running with
     | some (q, _) => (reqSlots q).contains n
     | none => false)

/-- Verdict on a write or erase of a slot by partition `p` (R92, R93, R94, R97). DESIGN CHOICE: an erase of a sealed slot answers LOCKED as a
write does (R94; log entry 16). -/
def slotVerdict (s : State) (p n ask : Nat) : Nat :=
  if s.keys.root.isNone then 3
  else if s.slotOwner n ask ≠ p then 5
  else if s.on 0 F.KEY_SLOT_ATTR_SEALED n && !(n == 1 && s.twin.repair) then 8
  else if s.slotInUse n then 6
  else 0

/-- Who may write a key in the clear (R95). -/
def mayWriteKey (r : Requester) (owner : Nat) : Bool :=
  match partition r with
  | some 0 => leadMachine r && owner == 0
  | some p => p == owner || owner == 3
  | none => false

/-- KEY_WDATA as bytes, most significant word first. -/
def keyData (s : State) (n : Nat) : List Byte :=
  (List.range (n / 4)).flatMap (fun i => beBytes 4 (s.word (fldAddr 0 F.KEY_WDATA i 0)).toNat)

/-- KEY_WDATA zeroed. -/
def zeroKeyData (s : State) : State := (List.range 12).foldl (fun s i => s.wr 0 F.KEY_WDATA 0 i) s

/-- A write of KEY_WCMD without ERASE (R95, R97). -/
def keyWrite (s : State) (r : Requester) (cmd : Nat) : State :=
  let n := bitsOf cmd 0 6
  let w := (s.word (fldAddr 0 F.KEY_WATTR 0 0)).toNat
  match partition r with
  | none => s.accessEvent (whoDie r) (fldAddr 0 F.KEY_WCMD_SLOT 0 0) (whoCode r)
  | some p =>
    if p = 0 ∧ !leadMachine r then s.accessEvent (whoDie r) (fldAddr 0 F.KEY_WCMD_SLOT 0 0) (whoCode r)
    else
      let ask := bitsOf w 4 2
      let v := s.slotVerdict p n ask
      let attr := (w &&& 0xFFF07) ||| (p * 16)
      let s' := if v = 0 then s.putKey n attr (bitsOf cmd 16 16) (s.keyData (algLen (bitsOf w 16 2))) else s
      let s' := if v = 0 ∧ n = 1 then { s' with twin := { s'.twin with repair := false } } else s'
      (s'.zeroKeyData).opStatus (keyBank r) v

/-- A write of KEY_WCMD with ERASE (R97). -/
def keyErase (s : State) (r : Requester) (cmd : Nat) : State :=
  let n := bitsOf cmd 0 6
  match partition r with
  | none => s.accessEvent (whoDie r) (fldAddr 0 F.KEY_WCMD_SLOT 0 0) (whoCode r)
  | some p =>
    if p = 0 ∧ !leadMachine r then s.accessEvent (whoDie r) (fldAddr 0 F.KEY_WCMD_SLOT 0 0) (whoCode r)
    else
      let v := s.slotVerdict p n 4
      let s' := if v = 0 then s.clearSlot n else s
      (s'.zeroKeyData).opStatus (keyBank r) v

/-- A request from the operation registers of a requester's bank, the operation being that of its command. -/
def keyReq (s : State) (r : Requester) (op opc : Nat) : KeyReq :=
  let b := keyBank r
  { who := r, op := op, slot := bitsOf opc 0 6, target := bitsOf opc 12 6, src := (s.opReg b 1).toNat,
    dst := (s.opReg b 2).toNat, aux := (s.opReg b 3).toNat, len := bitsOf (s.opReg b 4).toNat 0 20,
    aad := bitsOf (s.opReg b 4).toNat 20 12 }

/-- KEY_OPC written with GO (R35, R92, R93): the request is queued, or refused at once with BUSY when eight wait or
WRONG_STATE without a root secret. -/
def keyGo (s : State) (r : Requester) (op opc : Nat) : State :=
  match partition r with
  | none => s.accessEvent (whoDie r) (fldAddr 0 F.KEY_OPC_SLOT 0 0) (whoCode r)
  | some _ =>
    let b := keyBank r
    let s := s.setOpReg b 0 (BitVec.ofNat 32 (opc &&& 0x3F03F) ||| BitVec.ofNat 32 (op * 256))
    if s.keys.root.isNone then s.opFinish b 3
    else if 8 ≤ s.keys.queue.length then s.opFinish b 6
    else
      let q := s.keyReq r op opc
      ({ s with keys := { s.keys with queue := s.keys.queue ++ [q] } }).setOpReg b 5
        ((s.opReg b 5) ||| 0x200)

/-! ## Checks at the start -/

/-- USE an operation needs of its slot, none for the operations without a slot (R103). -/
def useOk (op use : Nat) : Bool :=
  match op with
  | 0x0 => use == 1
  | 0x1 => use == 2
  | 0x2 => use == 6
  | 0x3 => use == 6
  | 0x4 => use == 5
  | 0x5 => use == 4
  | 0x6 => use == 3
  | 0x7 => use == 3
  | 0x8 => use == 4
  | 0x9 => use != 0
  | 0xA => true
  | 0xB => use == 5 || use == 4
  | _ => true

/-- Attributes a result's target slot takes: its own when it has been written, else KEY_WATTR's with the requester's
OWNER (log entry 16). -/
def targetAttr (s : State) (p n : Nat) : Nat :=
  if s.slotWritten n then s.slotAttr n
  else ((s.word (fldAddr 0 F.KEY_WATTR 0 0)).toNat &&& 0xFFF07) ||| (p * 16)

/-- Verdict on a request when it is taken up (R92, R93, R96, R98, R100, R104). A slot whose key is not loaded answers
WRONG_STATE (log entry 16). -/
def reqVerdict (s : State) (q : KeyReq) : Nat :=
  let p := (partition q.who).getD 4
  if s.keys.root.isNone then 3
  else if 0xC ≤ q.op then (if q.op = 0xF ∧ !s.on 0 F.KEY_STAT_ENTROPY_OK then 6 else 0)
  else if q.op = 0xA then
    if s.slotOwner q.slot p ≠ p then 5
    else if s.on 0 F.KEY_SLOT_ATTR_SEALED q.slot then 8
    else if !s.on 0 F.KEY_STAT_ENTROPY_OK then 6
    else 0
  else if s.rd 0 F.KEY_SLOT_ATTR_OWNER q.slot ≠ p ∨ !s.slotWritten q.slot ∨
      !useOk q.op (s.rd 0 F.KEY_SLOT_ATTR_USE q.slot) then 5
  else if q.op = 9 ∧ s.bit 0 F.KEY_SLOT_ATTR_MEAS_MASK 7 q.slot then 5
  else if q.op = 9 ∧ !(s.on 0 F.LCS_STAGED_COVERED && s.on 0 F.LCS_STAGED_STAGE_DONE) then 3
  else if q.op = 6 ∧ s.rd 0 F.KEY_SLOT_ATTR_OWNER q.target ≠ p then 5
  else if (q.op = 5 ∨ q.op = 7 ∨ q.op = 8) ∧ s.slotOwner q.target p ≠ p then 5
  else if (q.op = 5 ∨ q.op = 7 ∨ q.op = 8) ∧ s.on 0 F.KEY_SLOT_ATTR_SEALED q.target then 8
  else if q.op = 8 ∧ !(bitsOf (s.targetAttr p q.target) 0 3 == 1 || bitsOf (s.targetAttr p q.target) 0 3 == 2 ||
      bitsOf (s.targetAttr p q.target) 0 3 == 3 || bitsOf (s.targetAttr p q.target) 0 3 == 6) then 5
  else if (s.slotKey q.slot).isNone ∨ (q.op = 6 ∧ (s.slotKey q.target).isNone) then 3
  else 0

/-- Order of the key store's queue: SAFE, METER, HOST (R35). -/
def keyRank (q : KeyReq) : Nat :=
  match partition q.who with
  | some 2 => 0
  | some 1 => 1
  | _ => 2

/-- The next waiting request: the first of the best partition (R35). -/
def nextReq (l : List KeyReq) : Option KeyReq :=
  match l.find? (fun q => keyRank q == 0), l.find? (fun q => keyRank q == 1) with
  | some q, _ => some q
  | none, some q => some q
  | none, none => l.head?

/-- An operation draws from the entropy source. -/
def draws (q : KeyReq) : Bool := q.op == 0xF || q.op == 0xA

/-- A draw asked for while ENTROPY_OK is clear makes the source run its test again, whose outcome is a free value (R104; log entry 17). -/
def entropyRetest (s : State) (q : KeyReq) : State :=
  if draws q && !s.on 0 F.KEY_STAT_ENTROPY_OK then
    let x := s.freeWord
    x.2.wrB 0 F.KEY_STAT_ENTROPY_OK (bitOf x.1.toNat 0)
  else s

/-- KEY_OP_START. -/
def keyStart (s : State) : State :=
  match s.keys.running, nextReq s.keys.queue with
  | none, some q =>
    let s := s.entropyRetest q
    let v := s.reqVerdict q
    let s := { s with keys := { s.keys with queue := s.keys.queue.erase q } }
    let b := keyBank q.who
    if v = 0 then
      ({ s with keys := { s.keys with running := some (q, (s.slotKey q.slot).getD []) } }).setOpReg b 5
        ((s.opReg b 5) &&& 0xFFFFFDFF)
    else s.opFinish b v
  | _, _ => s

/-! ## Engines (R103) -/

/-- Result of an engine: status and state. -/
abbrev KeyRes := Nat × State

/-- A result put at the destination; BAD_PARAM where an address lies outside what the requester reaches (log entry 16). -/
def putRes (s : State) (q : KeyReq) (l : List Byte) : KeyRes :=
  if opReach q.who q.dst l.length then (0, s.opPut q.who q.dst l) else (4, s)

/-- AES-256-GCM encryption: AADLEN bytes then LEN bytes at SRC, the IV at AUX; ciphertext to DST, the tag after the IV
at AUX + 12 (log entry 16). -/
def engEnc (s : State) (q : KeyReq) (key : List Byte) : KeyRes :=
  match s.opGet q.who q.src (q.aad + q.len), s.opGet q.who q.aux 28, opReach q.who q.dst q.len with
  | some l, some x, true =>
    let iv := x.take 12
    let ct := Config.gcmCrypt key iv (l.drop q.aad)
    (0, (s.opPut q.who q.dst ct).opPut q.who (q.aux + 12) (Config.gcmTag key iv (l.take q.aad) ct).toList)
  | _, _, _ => (4, s)

/-- AES-256-GCM decryption with its tag check; on failure the output is zeroed (R105). -/
def engDec (s : State) (q : KeyReq) (key : List Byte) : KeyRes :=
  match s.opGet q.who q.src (q.aad + q.len), s.opGet q.who q.aux 28, opReach q.who q.dst q.len with
  | some l, some x, true =>
    let iv := x.take 12
    let ct := l.drop q.aad
    if (Config.gcmTag key iv (l.take q.aad) ct).toList = x.drop 12 then (0, s.opPut q.who q.dst (Config.gcmCrypt key iv ct))
    else (1, s.opPut q.who q.dst (List.replicate q.len 0))
  | _, _, _ => (4, s)

/-- AES-CMAC of LEN bytes at SRC, to DST. -/
def engCmac (s : State) (q : KeyReq) (key : List Byte) : KeyRes :=
  match s.opGet q.who q.src q.len with
  | some l => s.putRes q (Config.aesCmac key l).toList
  | none => (4, s)

/-- AES-CMAC compared with the tag at AUX; a failure zeroes the output buffer, 16 bytes at DST (R105; DESIGN CHOICE: the spec does not
say what this operation's output buffer is, log entry 16). -/
def engCmacChk (s : State) (q : KeyReq) (key : List Byte) : KeyRes :=
  match s.opGet q.who q.src q.len, s.opGet q.who q.aux 16 with
  | some l, some t =>
    if (Config.aesCmac key l).toList = t then (0, s) else (1, s.opPut q.who q.dst (List.replicate 16 0))
  | _, _ => (4, s)

/-- ECDSA of the digest at SRC, to DST. -/
def engSign (s : State) (q : KeyReq) (key : List Byte) : KeyRes :=
  match s.opGet q.who q.src q.len with
  | some l =>
    let sg := Config.ecdsaSign (s.rd 0 F.KEY_SLOT_ATTR_ALG q.slot == 3) key l s.freeIdx
    ({ s with freeIdx := s.freeIdx + 1 }).putRes q sg
  | none => (4, s)

/-- ECDH with the public key at AUX, into the target slot. -/
def engEcdh (s : State) (q : KeyReq) (key : List Byte) : KeyRes :=
  let p := (partition q.who).getD 4
  let big := s.rd 0 F.KEY_SLOT_ATTR_ALG q.slot == 3
  let attr := s.targetAttr p q.target
  match s.opGet q.who q.aux (if big then 96 else 64) with
  | some pk =>
    (0, s.putKey q.target attr (s.rd 0 F.KEY_SLOT_LABEL_LABEL q.target)
      ((Config.ecdh big key pk).take (algLen (bitsOf attr 16 2))))
  | none => (4, s)

/-- The target slot wrapped into a blob at DST: attribute word, label, IV, ciphertext, tag (log entry 16). -/
def engWrap (s : State) (q : KeyReq) (key : List Byte) : KeyRes :=
  let attr := s.slotAttr q.target
  let label := s.rd 0 F.KEY_SLOT_LABEL_LABEL q.target
  let r := s.makeBlob key ((s.slotKey q.target).getD []) attr label
  r.2.putRes q (leBytes 4 (blobAttr attr) ++ leBytes 4 label ++ r.1.iv ++ r.1.ct ++ r.1.tag)

/-- A blob at SRC opened into the target slot. DESIGN CHOICE: a tag that fails answers BAD_TAG and leaves the target as it is (R103, R105
name no status for it; log entry 16). -/
def engUnwrap (s : State) (q : KeyReq) (key : List Byte) : KeyRes :=
  let p := (partition q.who).getD 4
  match s.opGet q.who q.src 8 with
  | none => (4, s)
  | some h =>
    let attr := field h 0 4
    let n := algLen (bitsOf attr 16 2)
    match s.opGet q.who q.src (8 + 12 + n + 16) with
    | none => (4, s)
    | some l =>
      let b : Blob := { iv := slice l 8 12, ct := slice l 20 n, tag := slice l (20 + n) 16, attr := BitVec.ofNat 32 attr,
                        label := field h 4 2 }
      match openBlob key b with
      | some k => (0, s.putKey q.target ((attr &&& 0xFFF07) ||| (p * 16)) b.label k)
      | none => (1, s)

/-- R98 with the slot's key, into the target slot. DESIGN CHOICE: the slot number, MEAS_MASK, LC_MODE and label of the construction are the
target slot's (R98 does not say whose; log entry 16). -/
def engDerive (s : State) (q : KeyReq) (key : List Byte) : KeyRes :=
  let attr := s.targetAttr ((partition q.who).getD 4) q.target
  let label := s.rd 0 F.KEY_SLOT_LABEL_LABEL q.target
  (0, s.putKey q.target attr label (s.kdf key q.target attr label s.mreg))

/-- A slot re-wrapped into its pending position for the staged set (R100). DESIGN CHOICE: a slot that is not STORED, which has no blob
positions, answers BAD_PARAM (log entry 16). -/
def engMigrate (s : State) (q : KeyReq) (key : List Byte) : KeyRes :=
  if !s.on 0 F.KEY_SLOT_ATTR_STORED q.slot then (4, s) else
  let attr := s.slotAttr q.slot
  let label := s.rd 0 F.KEY_SLOT_LABEL_LABEL q.slot
  let r := s.makeBlob (s.stagedKey q.slot attr label) key attr label
  let s := { r.2 with keys := { r.2.keys with pend := putBlob r.2.keys.pend q.slot (some r.1) } }
  (0, (s.wr 0 F.KEY_SLOT_ATTR_PENDING 1 q.slot).wr 0 F.KEY_STAT_PEND_OK 1)

/-- A fresh key from the entropy source (R103, R104). -/
def engGenkey (s : State) (q : KeyReq) (_key : List Byte) : KeyRes :=
  let attr := s.targetAttr ((partition q.who).getD 4) q.slot
  let r := s.freeBytes (algLen (bitsOf attr 16 2))
  (0, r.2.putKey q.slot attr (s.rd 0 F.KEY_SLOT_LABEL_LABEL q.slot) r.1)

/-- The public key of a P-256 or P-384 slot (R96). DESIGN CHOICE: a slot of ALG 0 or 1 answers BAD_PARAM (R103 names no status for it;
log entry 16). -/
def engPubkey (s : State) (q : KeyReq) (key : List Byte) : KeyRes :=
  let alg := s.rd 0 F.KEY_SLOT_ATTR_ALG q.slot
  if alg < 2 then (4, s) else s.putRes q (Config.ecPublic (alg == 3) key)

/-- SHA-256 of LEN bytes at SRC, to DST. -/
def engSha256 (s : State) (q : KeyReq) (_key : List Byte) : KeyRes :=
  match s.opGet q.who q.src q.len with
  | some l => s.putRes q (Config.sha256 l).toList
  | none => (4, s)

/-- SHA-384 of LEN bytes at SRC, to DST. -/
def engSha384 (s : State) (q : KeyReq) (_key : List Byte) : KeyRes :=
  match s.opGet q.who q.src q.len with
  | some l => s.putRes q (Config.sha384 l).toList
  | none => (4, s)

/-- ECDSA check of the LEN-byte digest at SRC, followed by the signature, with the public key at AUX; 48-byte digests
are P-384 (log entry 16). A failure zeroes the output buffer, LEN bytes at DST (R105; DESIGN CHOICE: the spec does not say what this
operation's output buffer is, log entry 16). -/
def engVerify (s : State) (q : KeyReq) (_key : List Byte) : KeyRes :=
  let big := q.len == 48
  let n := if big then 96 else 64
  match s.opGet q.who q.src (q.len + n), s.opGet q.who q.aux n with
  | some l, some pk =>
    if Config.ecdsaVerify big pk (l.take q.len) (l.drop q.len) then (0, s)
    else (1, s.opPut q.who q.dst (List.replicate q.len 0))
  | _, _ => (4, s)

/-- Buffers an operation reads: address and length. -/
def opIn (s : State) (q : KeyReq) : List (Nat × Nat) :=
  let big := s.rd 0 F.KEY_SLOT_ATTR_ALG q.slot == 3
  match q.op with
  | 0x0 | 0x1 => [(q.src, q.aad + q.len), (q.aux, 28)]
  | 0x3 => [(q.src, q.len), (q.aux, 16)]
  | 0x2 | 0x4 | 0xC | 0xD => [(q.src, q.len)]
  | 0x5 => [(q.aux, if big then 96 else 64)]
  | 0x7 => [(q.src, 8)]
  | 0xE => [(q.src, q.len + if q.len = 48 then 96 else 64), (q.aux, if q.len = 48 then 96 else 64)]
  | _ => []

/-- Buffers an operation writes: address and length. -/
def opOut (s : State) (q : KeyReq) : List (Nat × Nat) :=
  let big := s.rd 0 F.KEY_SLOT_ATTR_ALG q.slot == 3
  match q.op with
  | 0x0 => [(q.dst, q.len), (q.aux + 12, 16)]
  | 0x1 | 0xE | 0xF => [(q.dst, q.len)]
  | 0x2 | 0x3 => [(q.dst, 16)]
  | 0x4 | 0xB => [(q.dst, if big then 96 else 64)]
  | 0x6 => [(q.dst, 36 + algLen (s.rd 0 F.KEY_SLOT_ATTR_ALG q.target))]
  | 0xC => [(q.dst, 32)]
  | 0xD => [(q.dst, 48)]
  | _ => []

/-- LEN conditioned random bytes to DST (R104). -/
def engRandom (s : State) (q : KeyReq) (_key : List Byte) : KeyRes :=
  let r := s.freeBytes q.len
  r.2.putRes q r.1

/-- The running operation carried out. DESIGN CHOICE: an operation is carried out whatever the ALG of its slot, PUBKEY apart (R93 and R103
check USE and OWNER alone; log entry 16). -/
def engine (s : State) (q : KeyReq) (key : List Byte) : KeyRes :=
  match q.op with
  | 0x0 => s.engEnc q key
  | 0x1 => s.engDec q key
  | 0x2 => s.engCmac q key
  | 0x3 => s.engCmacChk q key
  | 0x4 => s.engSign q key
  | 0x5 => s.engEcdh q key
  | 0x6 => s.engWrap q key
  | 0x7 => s.engUnwrap q key
  | 0x8 => s.engDerive q key
  | 0x9 => s.engMigrate q key
  | 0xA => s.engGenkey q key
  | 0xB => s.engPubkey q key
  | 0xC => s.engSha256 q key
  | 0xD => s.engSha384 q key
  | 0xE => s.engVerify q key
  | _ => s.engRandom q key

/-- KEY_OP_DONE. -/
def keyDone (s : State) : State :=
  match s.keys.running with
  | none => s
  | some (q, key) =>
    let s := { s with keys := { s.keys with running := none } }
    let r := s.engine q key
    let t := if r.1 = 4 then r.2 else (s.opIn q).foldl (fun t b => t.opNote q.who b.1 b.2) r.2
    t.opFinish (keyBank q.who) r.1

/-! ## Start, tamper, confirmation -/

/-- The root secret drawn at the first start without one in BLANK, which clears the tamper causes (R86). -/
def drawRoot (s : State) : State :=
  if s.keys.root.isNone && s.lifeState == 0 then
    let r := s.freeBytes 32
    let s := { r.2 with keys := { r.2.keys with root := some r.1 } }
    ((((s.wr 0 F.KEY_TAMPER_MESH 0).wr 0 F.KEY_TAMPER_LIGHT 0).wr 0 F.KEY_TAMPER_TEMP 0).wr 0 F.KEY_TAMPER_VBAT 0).wr 0
      F.KEY_TAMPER_KEEP_LOSS 0
  else s

/-- One slot opened at start (R99, R101): the current blob, else the pending one, else STALE; STALE too without a root secret (R92). -/
def openSlot (s : State) (n : Nat) : State :=
  match blobOf s.keys.current n, blobOf s.keys.pend n with
  | none, none => s
  | cur, pen =>
    let a := match cur, pen with
      | some b, _ => (b.attr.toNat, b.label)
      | none, some b => (b.attr.toNat, b.label)
      | none, none => (0, 0)
    let root := s.keys.root.isSome
    let k1 := if root then cur.bind (openBlob (s.storageKey n a.1 a.2)) else none
    let k2 := if root then pen.bind (fun b => openBlob (s.storageKey n b.attr.toNat b.label) b) else none
    let pb := if pen.isSome then 0x100000 else 0
    let s := s.wr 0 F.KEY_SLOT_LABEL_LABEL a.2 n
    match k1, k2 with
    | some k, _ => (s.setSlotAttr n (a.1 ||| 0x80 ||| pb)).setCache n (some k)
    | none, some k =>
      let s := { s with keys := { s.keys with fromPend := s.keys.fromPend ++ [n] } }
      let b := match pen with
        | some b => (b.attr.toNat, b.label)
        | none => a
      ((s.wr 0 F.KEY_SLOT_LABEL_LABEL b.2 n).setSlotAttr n (b.1 ||| 0x80 ||| pb)).setCache n (some k)
    | none, none => (s.setSlotAttr n (a.1 ||| 0x40 ||| pb)).setCache n none

/-- A slot that is not stored is empty after a reset (R93). -/
def dropUnstored (s : State) (n : Nat) : State :=
  if (blobOf s.keys.current n).isSome || (blobOf s.keys.pend n).isSome then s
  else ((s.setSlotAttr n (s.emptyAttr n)).wr 0 F.KEY_SLOT_LABEL_LABEL 0 n).setCache n none

/-- Slot 0: the boot attestation key, generated at the first start with a root secret (R94). DESIGN CHOICE: its label is 0 (log entry 16). -/
def bootKey (s : State) : State :=
  if s.keys.root.isSome && (blobOf s.keys.current 0).isNone then
    let r := s.freeBytes 32
    r.2.putKey 0 0xE0035 0 r.1
  else s

/-- Slot 2: the encryption key of M3, derived at every start (R94). DESIGN CHOICE: its label is 0 and its USE 1 (log entry 16). -/
def m3Key (s : State) : State :=
  match s.keys.root with
  | none => s
  | some r => s.putKey 2 0x31 0 (s.kdf r 2 0x31 0 s.mreg)

/-- The key store at a start (R86, R94, R99, R104): after a PWR reset unstored slots are empty. -/
def keyStoreStart (s : State) (fresh : Bool) : State :=
  let s := (s.drawRoot).wr 0 F.KEY_STAT_ENTROPY_OK 1
  let s := { s with keys := { s.keys with fromPend := [] } }
  let s := if fresh then (List.range 64).foldl (fun s n => s.dropUnstored n) s else s
  (((List.range 64).foldl (fun s n => s.openSlot n) s).bootKey).m3Key

/-- Confirmation of a trial: the blob that opened becomes the current one (R101). -/
def keyConfirm (s : State) : State :=
  (List.range 64).foldl (fun s n =>
    let b := blobOf s.keys.pend n
    let s := if s.keys.fromPend.contains n then { s with keys := { s.keys with current := putBlob s.keys.current n b } } else s
    if b.isNone then s
    else ({ s with keys := { s.keys with pend := putBlob s.keys.pend n none } }).wr 0 F.KEY_SLOT_ATTR_PENDING 0 n) s

/-- Staging a class anew voids the pending blobs of slots that select its MREG (R102). -/
def voidPending (s : State) (c : Nat) : State :=
  (List.range 64).foldl (fun s n =>
    if s.bit 0 F.KEY_SLOT_ATTR_MEAS_MASK c n && (blobOf s.keys.pend n).isSome then
      (({ s with keys := { s.keys with pend := putBlob s.keys.pend n none } }).wr 0 F.KEY_SLOT_ATTR_PENDING 0 n).wr 0
        F.KEY_STAT_PEND_OK 0
    else s) s

/-- Running and queued requests end with WRONG_STATE; the running operation's output is zeroed (R90). -/
def keyAbort (s : State) : State :=
  let s : State := match s.keys.running with
    | some (q, _) =>
      ((s.opOut q).foldl (fun (s : State) b => s.opPut q.who b.1 (List.replicate b.2 0)) s).opFinish (keyBank q.who) 3
    | none => s
  let s : State := s.keys.queue.foldl (fun (s : State) q => s.opFinish (keyBank q.who) 3) s
  { s with keys := { s.keys with queue := [], running := none } }

/-- The root secret and the slot cache zeroed (R90). -/
def zeroRoot (s : State) : State :=
  let s := { s with keys := { s.keys with root := none, cache := [] } }
  (List.range 64).foldl (fun s n => if s.on 0 F.KEY_SLOT_ATTR_VALID n then s.wr 0 F.KEY_SLOT_ATTR_VALID 0 n else s) s

/-- ENTROPY_TEST_FAIL: ENTROPY_OK clears, and a draw under way is refused with BUSY; three failures within 1 s are a block fault of the key store, and the key store
retired is a chip fault (R104, R462; log entry 17 for its code). -/
def entropyFail (s : State) (test : Nat) : State :=
  let s := s.wr 0 F.KEY_STAT_ENTROPY_OK 0
  let s := match s.keys.running with
    | some (q, _) => if draws q then ({ s with keys := { s.keys with running := none } }).opFinish (keyBank q.who) 6 else s
    | none => s
  let l := s.keys.entropyFails.filter (fun t => s.now - t < 1000000000) ++ [s.now]
  let s := { s with keys := { s.keys with entropyFails := l } }
  if 3 ≤ l.length then
    let r := s.countFault 0 2 0x20 0 0x2008 [test]
    if r.2 then r.1.chipFault 0x4003 [0x2008] false else r.1
  else s

end State
end Sys2Proof.Machine
end

