-- ==== Sys2Proof/Machine/MeterOps.lean ====
section
/-!
DEFINITION. Operations of the meter: integration at the ports and the site point, increments and commits, logs, marks,
sessions and signed records (R341 to R362).
-/

namespace Sys2Proof.Machine

/-- Register ID of port `p` (R348). -/
def portReg (p item : Nat) : Nat := (p + 1) * 256 + item

/-- What a store of registers holds for an ID. -/
def eGet (l : List (Nat × Nat)) (id : Nat) : Nat := Sparse.get (fun _ => 0) l id

/-- An amount added to a register. -/
def eAdd (l : List (Nat × Nat)) (id n : Nat) : List (Nat × Nat) := Sparse.set (fun _ => 0) l id (eGet l id + n)

/-- A register set. -/
def ePut (l : List (Nat × Nat)) (id n : Nat) : List (Nat × Nat) := Sparse.set (fun _ => 0) l id n

/-- Whole mWh of a register kept in 2^-32 mWh (R342). -/
def mwh (l : List (Nat × Nat)) (id : Nat) : Nat := eGet l id / 2 ^ 32

/-- 10^-36 J as 2^-32 mWh, one mWh being 3.6 J; how an amount is brought to that resolution is not stated (R342; log entry
18). -/
def unitsOf (x : Nat) : Nat := (Config.divOpen 342 (Int.ofNat (x * 2 ^ 32)) (36 * 10 ^ 35)).toNat

/-- I_CREEP in nA: unless set, 0.05 % of the full scale of 32 768 codes (R363; log entry 36). -/
def creepNa (pp : PortParam) : Nat := pp.creep.getD (32768 * pp.iscale / 2000)

/-- A current of `i` nA lies below I_CREEP (R343). -/
def belowCreep (pp : PortParam) (i : Int) : Bool :=
  match pp.creep with
  | some c => decide (i.natAbs < c)
  | none => decide (i.natAbs * 2000 < 32768 * pp.iscale)

/-- Time from sample edge `t0` to `t` in the 48-bit device time, which wraps (R309, R342). -/
def devSpan (t0 t : Nat) : Nat := (t + 2 ^ 48 - t0) % 2 ^ 48

/-- One accepted current sample of a port (R342, R343): `code` at device time `t` ns, `late` when it falls at or after an
announced boundary (R378). -/
def PortMeter.current (m : PortMeter) (pp : PortParam) (code : Int) (t : Nat) (late : Bool) : PortMeter :=
  match m.u, m.last with
  | some u, some t0 =>
    let i : Int := code * pp.iscale
    let step := devSpan t0 t
    let span := min step 40000
    let loss : Int := i * i * pp.rCl
    let p : Int := (u * pp.vscale) * i * 1000000000 - loss
    let quiet := belowCreep pp i
    let e := if quiet then 0 else unitsOf (p.natAbs * span)
    let l := if quiet then 0 else unitsOf (loss.natAbs * span)
    let ap := if 0 ≤ p then e else 0
    let am := if 0 ≤ p then 0 else e
    let m := { m with last := some t, i := code, gap := m.gap || decide (40000 < step) }
    if late then { m with next := (m.next.1 + ap, m.next.2.1 + am, m.next.2.2 + l) }
    else { m with ap := m.ap + ap, am := m.am + am, l := m.l + l }
  | _, _ => { m with last := some t, i := code }

namespace State

/-! ## Time and conditions -/

/-- The meter changed. -/
def updMeter (s : State) (f : Meter → Meter) : State := { s with meter := f s.meter }

/-- A port's integration changed. -/
def updPm (s : State) (p : Fin 32) (f : PortMeter → PortMeter) : State :=
  s.updMeter (fun m => { m with port := upd m.port p f })

/-- UTC in ms by the meter head's own offset (R368, R369). -/
def utcMs (s : State) : Int := s.tai 0 / 1000000 - s.meter.utcOfs * 1000

/-- Time source code (R315). -/
def timeSrc (s : State) : Nat := s.rd 0 F.TSU_STAT_SRC

/-- STATUS bits whose condition holds now, apart from tampers (R352). -/
def levelBits (s : State) : Nat :=
  (if s.timeSrc = 2 ∨ s.timeSrc = 4 ∨ s.timeSrc = 5 then 8 else 0) + (if s.lifeState ≤ 1 then 1024 else 0) +
    (match s.meter.repeatTo with
     | some t => if s.utcMs < t then 4 else 0
     | none => 0)

/-- STATUS bits of the profiles' open entries now. -/
def profBits (s : State) : Nat := s.levelBits + (if s.meter.tampers.isEmpty then 0 else 256)

/-- Flags of an open session of a port now; lid and light concern every port (R361). -/
def sessBits (s : State) (p : Fin 32) : Nat :=
  s.levelBits + (if s.meter.tampers.any (fun t => t.2 == p.val || t.1 == 0x40 || t.1 == 0x41) then 256 else 0)

/-- Bits set in both open profile entries. -/
def markProf (s : State) (b : Nat) : State :=
  s.updMeter (fun m => { m with p1 := { m.p1 with status := m.p1.status ||| b },
                                p2 := { m.p2 with status := m.p2.status ||| b } })

/-- Bits set in a port's open session. -/
def markSess (s : State) (p : Fin 32) (b : Nat) : State :=
  s.updMeter (fun m => { m with session := upd m.session p (fun x =>
    x.map (fun v => { v with flags := v.flags ||| b })) })

/-- Bits set in the open entries and in a port's open record. -/
def markPort (s : State) (p : Fin 32) (b : Nat) : State := (s.markProf b).markSess p b

/-- Bits set in the open entries and every open record. -/
def markAll (s : State) (b : Nat) : State := (List.finRange 32).foldl (fun s p => s.markSess p b) (s.markProf b)

/-- The conditions that hold at this moment entered in the open entries and records (R352, R355). -/
def markNow (s : State) : State :=
  (List.finRange 32).foldl (fun s p => s.markSess p (s.sessBits p)) (s.markProf s.profBits)

/-! ## Logs (R362) -/

/-- An entry of the meter event log or, from code 0x40 on, of the tamper log with its count. -/
def meterLog (s : State) (code port : Nat) (data : List Int) : State :=
  let tp := decide (0x40 ≤ code)
  let e : MeterLogEntry := { no := if tp then s.meter.tpNext else s.meter.evNext, tai := s.tai 0, code := code,
                             port := port, src := s.timeSrc, data := data }
  if tp then
    let es := s.meter.tpLog ++ [e]
    s.updMeter (fun m => { m with tpLog := if 1024 < es.length then es.drop 1 else es, tpNext := m.tpNext + 1,
                                  tpCount := eAdd m.tpCount code 1 })
  else
    let es := s.meter.evLog ++ [e]
    s.updMeter (fun m => { m with evLog := if 8192 < es.length then es.drop 1 else es, evNext := m.evNext + 1 })

/-- An item of the change stream of the next handover records (R444); only an active unit sends them. -/
def stream (s : State) (i : ChangeItem) : State :=
  if s.role = 1 then { s with twin := { s.twin with stream := s.twin.stream ++ [i] } } else s

/-! ## Registers (R345, R348) -/

/-- The register of a rate that runs beside a register, where there is one (R348). -/
def rateReg (id rate : Nat) : Option Nat :=
  if id = 0 then some (12 + (rate - 1))
  else if id = 1 then some (20 + (rate - 1))
  else if 256 ≤ id ∧ id % 256 = 0 then some (id + 3 + (rate - 1))
  else if 256 ≤ id ∧ id % 256 = 1 then some (id + 10 + (rate - 1))
  else none

/-- Registers whose increments both units compare over 60 s (R359). -/
def windowReg (id : Nat) : Bool := decide (id ≤ 1) || (decide (256 ≤ id) && decide (id % 256 ≤ 1))

/-- An increment credited to its register and to the register of the rate in force. -/
def creditReg (m : Meter) (id n : Nat) : Meter :=
  let e := eAdd m.energy id n
  let r := rateReg id m.rate
  { m with energy := (match r with
             | some x => eAdd e x n
             | none => e),
           sinceRec := (match r with
             | some x => eAdd (eAdd m.sinceRec id n) x n
             | none => eAdd m.sinceRec id n),
           winOwn := if windowReg id then eAdd m.winOwn id n else m.winOwn }

/-- The three increments of a port credited. -/
def creditPort (m : Meter) (p : Nat) (x : Nat × Nat × Nat) : Meter :=
  creditReg (creditReg (creditReg m (portReg p 0) x.1) (portReg p 1) x.2.1) (portReg p 2) x.2.2

/-! ## Increments (R344) -/

/-- The core of die `d` sends its increments, words of class 2, when no message of its own is unacknowledged (R29, R344; log
entry 19). -/
def meterSend (s : State) (d : Fin 8) : State :=
  if d = 0 ∨ (s.meter.core.get d).inFlight.isSome then s
  else
    let q := (s.meter.core.get d).seq + 1
    let s := s.updMeter (fun m => { m with core := upd m.core d (fun _ => { inFlight := some q, seq := q }) })
    (s.onPorts (fun s k => s.updPm (portOf d k) (fun x => { x with sent := (x.ap, x.am, x.l) }))).xlkSent d 2
      (Config.xlkWords 0)

/-- The meter head receives the message of die `d`; a sequence it has committed or already received is discarded. -/
def meterReceive (s : State) (d : Fin 8) : State :=
  match (s.meter.core.get d).inFlight with
  | none => s
  | some q =>
    if !s.meter.running || s.meter.received.get d == q || s.meter.committed.get d == q then s
    else
      let s := s.onPorts (fun s k =>
        let p := portOf d k
        let x := (s.meter.port.get p).sent
        let g := (s.meter.port.get p).gap
        let s := s.updMeter (fun m => creditPort m p.val x)
        let s := if g then s.markPort p 32 else s
        s.updPm p (fun y => { y with gap := false }))
      s.updMeter (fun m => { m with received := m.received.set d q })

/-- The head's acknowledgement, words of class 2, reaches the core: what it has committed leaves the running sums (R29, R344). -/
def meterAck (s : State) (d : Fin 8) : State :=
  match (s.meter.core.get d).inFlight with
  | none => s
  | some q =>
    if s.meter.committed.get d = q then
      let s := s.onPorts (fun s k => s.updPm (portOf d k) (fun x =>
        { x with ap := x.ap - x.sent.1, am := x.am - x.sent.2.1, l := x.l - x.sent.2.2, sent := (0, 0, 0) }))
      (s.updMeter (fun m => { m with core := upd m.core d (fun c => { c with inFlight := none }) })).xlkSent 0 2
        (Config.xlkWords 1)
    else s

/-- The account event of account `a` with its balance now: raised in the meter status while the balance that fell stays at zero or
below (R386; log entry 118). -/
def accountEvent (s : State) (a : Nat) (fell : Bool) (bal : Int) : State :=
  let s := if fell then s.meterLog 0x07 0xFF [9, a, bal] else s
  s.updMeter (fun m =>
    let l := m.acctEvents.filter (fun x => x ≠ a)
    { m with acctEvents := if fell || (decide (bal ≤ 0) && m.acctEvents.contains a) then l ++ [a] else l })

/-- Debits of the bound sessions at a commit (R386): whole Wh of A+, event 9 when a balance falls to zero or below. -/
def debit (s : State) (b : Nat × Nat) : State :=
  match b with
  | (p, a) =>
    let now := mwh s.meter.energy (portReg p 0)
    let n : Int := Int.ofNat (now / 1000) - Int.ofNat (eGet s.meter.debited p / 1000)
    let old : Int := Sparse.get (fun _ => 0) s.meter.balance a
    let s := s.updMeter (fun m => { m with balance := Sparse.set (fun _ => 0) m.balance a (old - n),
                                           debited := ePut m.debited p now })
    let s := if n = 0 then s else s.stream (.account a (old - n) (eGet s.meter.high a))
    s.accountEvent a (decide (0 < old) && decide (old - n ≤ 0)) (old - n)

/-- Commit of the register set to Q0 (R345): the lead ports' sums, the debits, the copy and the sequences. -/
def meterCommit (s : State) : State :=
  if !s.meter.running then s
  else
    let s := s.onPorts (fun s k =>
      let p := portOf 0 k
      let x := s.meter.port.get p
      let s := s.updMeter (fun m => creditPort m p.val (x.ap, x.am, x.l))
      let s := if x.gap then s.markPort p 32 else s
      s.updPm p (fun y => { y with ap := 0, am := 0, l := 0, gap := false }))
    let s := s.meter.bound.foldl (fun s b => s.debit b) s
    let u := s.utcMs
    s.updMeter (fun m => { m with q0 := m.energy, committed := m.received, lastCommit := u })

/-- Every increment before a boundary brought to the meter head (R379 step 1). -/
def meterGather (s : State) : State :=
  let s := s.onUsed (fun s d => s.meterReceive d)
  let s := (s.meterCommit).onUsed (fun s d => ((s.meterAck d).meterSend d).meterReceive d)
  (s.meterCommit).onUsed (fun s d => s.meterAck d)

/-! ## Samples of the meter path -/

/-- The announced boundary as device time of the lead die, ns (R378). -/
def boundaryDev (s : State) : Option Int :=
  s.meter.announced.map (fun t => (t + s.meter.utcOfs * 1000) * 1000000 - Int.ofNat s.epoch)

/-- A sample falls at or after the announced boundary, in the device time that wraps (R309). -/
def isLate (s : State) (t : Nat) : Bool :=
  match s.boundaryDev with
  | some b => decide ((Int.ofNat t - b) % 2 ^ 48 < 2 ^ 47)
  | none => false

/-- An accepted voltage or current sample of port `p` (R342). No energy is registered after t_d (R381). -/
def meterVolt (s : State) (p : Fin 32) (code : Int) : State := s.updPm p (fun m => { m with u := some code })

def meterCurr (s : State) (p : Fin 32) (code : Int) (t : Nat) : State :=
  if s.pkg.pd ≠ .none then s
  else
  let late := s.isLate t
  s.updPm p (fun m => m.current (s.meter.params.get p) code t late)

/-- A site increment credited, or held aside past an announced boundary (R379); none after t_d (R381). -/
def creditSite (s : State) (id n : Nat) (late : Bool) : State :=
  if s.pkg.pd ≠ .none || !s.meter.running then s
  else if late then s.updMeter (fun m => { m with aside := eAdd m.aside id n })
  else s.updMeter (fun m => creditReg m id n)

/-- Active energy of phase `k` at an accepted current sample (R346). -/
def sitePhase (s : State) (k : Fin 3) (code : Int) (t : Nat) : State :=
  let late := s.isLate t
  match s.meter.siteCode.get ⟨k.val, by omega⟩, s.meter.siteCode.get 3, s.meter.siteLast.get k with
  | some ul, some un, some t0 =>
    let i : Int := code * s.meter.site.iscale
    let p : Int := ((ul - un) * s.meter.site.vscale) * i * 1000000000
    let e := if i.natAbs < s.meter.site.creep then 0 else unitsOf (p.natAbs * min (devSpan t0 t) 40000)
    let dir := if 0 ≤ p then 0 else 1
    let s := (s.creditSite dir e late).creditSite (2 + 2 * k.val + dir) e late
    let s := if 40000 < devSpan t0 t then s.markProf 32 else s
    s.updMeter (fun m => { m with siteLast := m.siteLast.set k (some t) })
  | _, _, _ => s.updMeter (fun m => { m with siteLast := m.siteLast.set k (some t) })

/-- An accepted sample of a site cell 64 + `c` (R346). -/
def siteSample (s : State) (c : Fin 8) (code : Int) (t : Nat) : State :=
  let s := s.updMeter (fun m => { m with siteCode := m.siteCode.set c (some code) })
  if h : 4 ≤ c.val ∧ c.val ≤ 6 then s.sitePhase ⟨c.val - 4, by omega⟩ code t else s

/-- Reactive energy of a half cycle, in 2^-32 mvarh, in the quadrant of the sign pair of P and Q (R346). -/
def reactive (s : State) (p q : Int) : State :=
  let id := if 0 ≤ p then (if 0 ≤ q then 8 else 11) else (if 0 ≤ q then 9 else 10)
  if s.meter.running then s.creditSite id q.natAbs (s.isLate (s.devTime 0)) else s

/-! ## Sessions and records (R353 to R357) -/

/-- Start values of a type 1 or type 2 port's record, on entry to CONNECTED (R353). -/
def sessionStart (s : State) (d : Fin 8) (k : Fin 4) : State :=
  let p := portOf d k
  let m := s.meter
  let v : Session := { ap := mwh m.energy (portReg p 0), am := mwh m.energy (portReg p 1),
                       l := mwh m.energy (portReg p 2), startUtc := s.utcMs, src := s.timeSrc, flags := 0,
                       bidir := s.on d F.STL_P_CFG_DIR k }
  let s := s.updMeter (fun m => { m with session := m.session.set p (some v),
                                         sessCount := upd m.sessCount p (fun n => (n + 1) % 2 ^ 32) })
  (s.markSess p (s.sessBits p)).stream (.sessionStart p v.ap v.am v.l v.startUtc v.src)

/-- A record from an open session, its stop values taken now; number, signer and signature come with the signing. -/
def sessionRecord (s : State) (p : Fin 32) (v : Session) (extra : Nat) : SessionRecord :=
  let m := s.meter
  let ap := mwh m.energy (portReg p 0)
  let am := mwh m.energy (portReg p 1)
  let l := mwh m.energy (portReg p 2)
  { port := p, kind := b2n v.bidir, recno := 0, session := m.sessCount.get p, unit := s.pkg.unitId, signer := 0,
    startSrc := v.src, stopSrc := s.timeSrc, lcs := s.lifeState, meterVer := BitVec.ofNat 32 (imgVersion s.meterImage),
    startUtc := v.startUtc, stopUtc := s.utcMs, startAp := v.ap, startAm := v.am, stopAp := ap, stopAm := am,
    energy := (Int.ofNat ap - Int.ofNat v.ap) - (Int.ofNat am - Int.ofNat v.am), loss := l - v.l,
    flags := v.flags ||| s.sessBits p ||| extra, rCl := (m.params.get p).rCl, meterMeas := s.mreg 3, prevDigest := [],
    signature := [] }

/-- Stop values taken: the record falls due (R353), and a bound account is debited and released (R386). -/
def sessionStop (s : State) (p : Fin 32) (extra : Nat) : State :=
  match s.meter.session.get p with
  | none => s
  | some v =>
    let r := s.sessionRecord p v extra
    let s := (s.meter.bound.filter (fun b => b.1 == p.val)).foldl (fun (s : State) (b : Nat × Nat) => s.debit b) s
    let s := s.updMeter (fun m => { m with bound := m.bound.filter (fun b => b.1 ≠ p.val) })
    s.updMeter (fun m => { m with session := m.session.set p none, due := m.due ++ [r] })

/-- The record of a port without an open session closed before RETIRED (R357). -/
def closingRecord (s : State) (p : Fin 32) : State :=
  match s.meter.session.get p with
  | some _ => s.sessionStop p 0
  | none =>
    match ((s.meter.records ++ s.meter.due).reverse.find? (fun r => r.port == p.val)) with
    | some r0 =>
      let v : Session := { ap := r0.stopAp, am := r0.stopAm, l := mwh s.meter.energy (portReg p 2),
                           startUtc := r0.stopUtc, src := r0.stopSrc, flags := 0, bidir := false }
      let r := { s.sessionRecord p v 0 with kind := 2 }
      s.updMeter (fun m => { m with due := m.due ++ [r] })
    | none =>
      let v : Session := { ap := 0, am := 0, l := 0, startUtc := 0, src := 0, flags := 0, bidir := false }
      let r := { s.sessionRecord p v 0 with kind := 2, loss := mwh s.meter.energy (portReg p 2) }
      s.updMeter (fun m => { m with due := m.due ++ [r] })

/-- Bytes 0x00 to 0xBF of a record (R354). -/
def recordHead (r : SessionRecord) : List Byte :=
  leBytes 4 0x4E445352 ++ leBytes 2 1 ++ leBytes 1 r.port ++ leBytes 1 r.kind ++ leBytes 4 r.recno ++
    leBytes 4 r.session ++ leBytes 8 r.unit.toNat ++ leBytes 1 r.signer ++ leBytes 1 r.startSrc ++
    leBytes 1 r.stopSrc ++ leBytes 1 r.lcs ++ leBytes 4 r.meterVer.toNat ++ leBytes 8 (uns 64 r.startUtc) ++
    leBytes 8 (uns 64 r.stopUtc) ++ leBytes 8 r.startAp ++ leBytes 8 r.startAm ++ leBytes 8 r.stopAp ++
    leBytes 8 r.stopAm ++ leBytes 8 (uns 64 r.energy) ++ leBytes 8 r.loss ++ leBytes 4 r.flags ++ leBytes 4 r.rCl ++
    slice r.meterMeas 0 32 ++ slice r.prevDigest 0 32 ++ List.replicate 24 0

/-- The 256 bytes of a record (R354). -/
def recordBytes (r : SessionRecord) : List Byte := recordHead r ++ slice r.signature 0 64

/-- A record stored in Q2: at most 8 192, the oldest overwritten (R353). -/
def storeRecord (s : State) (r : SessionRecord) : State :=
  let l := s.meter.records ++ [r]
  s.updMeter (fun m => { m with records := if 8192 < l.length then l.drop 1 else l, recno := r.recno + 1 })

/-- A due record numbered, chained, signed with slot 4 or closed unsigned, and written (R353 to R356). -/
def signRecord (s : State) (r : SessionRecord) : State :=
  let prev := match s.meter.records.getLast? with
    | some q => (Config.sha256 (recordBytes q)).toList
    | none => List.replicate 32 0
  let r := { r with recno := s.meter.recno, unit := s.pkg.unitId, prevDigest := prev,
                    signer := s.rd 0 F.TWN_STAT_UNIT + 2 * (s.role % 4) }
  match s.slotKey 4 with
  | some key =>
    if s.rd 0 F.KEY_SLOT_ATTR_USE 4 = 5 then
      let sg := Config.ecdsaSign false key (Config.sha256 (recordHead r)).toList s.freeIdx
      let r := { r with signature := slice sg 0 64 }
      (({ s with freeIdx := s.freeIdx + 1 }).storeRecord r).stream (.record r)
    else
      let r := { r with flags := r.flags ||| 2048, signature := List.replicate 64 0 }
      ((s.storeRecord r).stream (.record r)).meterLog 0x0E r.port [r.recno]
  | none =>
    let r := { r with flags := r.flags ||| 2048, signature := List.replicate 64 0 }
    ((s.storeRecord r).stream (.record r)).meterLog 0x0E r.port [r.recno]

/-- A record was stopped by a power-down: POWER_FAIL is set (R357). -/
def byPower (r : SessionRecord) : Bool := bitOf r.flags 0

/-- RECORD_SIGN of port `p`: its oldest due record, once the records of a power-down are signed (R356, R357). -/
def recordSign (s : State) (p : Fin 32) : State :=
  if !s.meter.running || s.meter.due.any byPower then s
  else
    match s.meter.due.find? (fun r => r.port == p.val) with
    | none => s
    | some r => (s.updMeter (fun m => { m with due := m.due.erase r })).signRecord r

/-- The records of the last power-down signed, in order (R357). -/
def powerfailSign (s : State) : State :=
  if !s.meter.running then s
  else
    let l := s.meter.due.filter byPower
    l.foldl (fun s r => s.signRecord r) (s.updMeter (fun m => { m with due := m.due.filter (fun r => !byPower r) }))

/-! ## Tampers (R361) -/

/-- A tamper declared: log, count, and TAMPER in the entries and open records concerned. -/
def tamperOn (s : State) (code port : Nat) (data : List Int) : State :=
  if s.meter.tampers.contains (code, port) then s
  else
    let s := s.updMeter (fun m => { m with tampers := m.tampers ++ [(code, port)] })
    (s.meterLog code port data).markNow

/-- A tamper ended. Lid and light tampers never end. -/
def tamperOff (s : State) (code port : Nat) : State :=
  if code = 0x40 ∨ code = 0x41 then s
  else s.updMeter (fun m => { m with tampers := m.tampers.filter (fun t => t ≠ (code, port)) })

/-! ## Twin metering (R358 to R360) -/

/-- Either unit has declared a tamper on port `p` that the other has not (R359). -/
def tampersDiffer (s : State) (peer : List (Nat × Nat)) (p : Nat) : Bool :=
  s.meter.tampers.any (fun t => t.2 == p && !peer.contains t) || peer.any (fun t => t.2 == p && !s.meter.tampers.contains t)

/-- A window's judgement of counter `id`: the third window in a row that disagrees is logged with both units' sums of register
`reg` (R359). -/
def windowJudge (s : State) (id reg : Nat) (own peer : List (Nat × Nat)) (bad : Bool) : State :=
  let n := if bad then eGet s.meter.winBad id + 1 else 0
  let s := s.updMeter (fun m => { m with winBad := ePut m.winBad id n })
  if n = 3 then s.meterLog 0x0C (if id < 256 then 0xFF else id / 256 - 1) [mwh peer reg, mwh own reg] else s

/-- The site's meter windows judged at the end of 60 s (R359): the registers, then the tampers of each port against those the last
record declared, counted under item 255.
TWIN_TOL is kept in tenths of a percent; 0 is the default of 1.0 %. -/
def twinWindow (s : State) : State :=
  if s.role ≠ 2 then s
  else
    let tol := if s.meter.site.twinTol = 0 then 10 else s.meter.site.twinTol
    let own := s.meter.winOwn
    let peer := s.meter.winPeer
    let bad (id : Nat) : Bool :=
      decide (tol * eGet peer id + 5000 * 2 ^ 32 * 1000 < (Int.ofNat (eGet peer id) - Int.ofNat (eGet own id)).natAbs * 1000)
    let s := ((own ++ peer).map (·.1)).eraseDups.foldl (fun (s : State) id => s.windowJudge id id own peer (bad id)) s
    let s := (List.range 32).foldl (fun (s : State) p =>
      s.windowJudge (portReg p 255) (portReg p 0) own peer (s.tampersDiffer s.meter.peerTampers p)) s
    s.updMeter (fun m => { m with winOwn := [], winPeer := [] })

end State
end Sys2Proof.Machine
end

