-- ==== Sys2Proof/Machine/AcqOps.lean ====
section
/-!
DEFINITION. Operations of the acquisition engine: streams, headers, arming, groups, gathered capture (R323 to R338).
-/

namespace Sys2Proof.Machine

namespace State

/-- The level trigger of R332 on a word of TCELL: the crossing's time, if there is one, and the unit primed anew: after a
crossing by that word alone. -/
def acqLevel (a : AcqUnit) (edge : Nat) (thresh hyst x1 : Int) (t1 : Nat) : Option Nat × AcqUnit :=
  let up := edge != 1
  let down := edge = 1 ∨ edge = 2
  let hit := match a.lvl with
    | some (x0, t0) =>
      let r := up && a.rising && decide (x0 < thresh) && decide (thresh ≤ x1)
      let f := decide down && a.falling && decide (thresh < x0) && decide (x1 ≤ thresh)
      if r || f then some (t0 + rhuNat ((thresh - x0).natAbs * (t1 - t0)) (x1 - x0).natAbs) else none
    | none => none
  let old := hit.isNone
  (hit, { a with lvl := some (x1, t1), rising := (old && a.rising) || decide (x1 ≤ thresh - hyst),
                 falling := (old && a.falling) || decide (thresh + hyst ≤ x1) })

/-- The end of a sequence entry, source 3 of a unit that names it (R331). -/
def acqEntry (s : State) (d u : Fin 8) (entry t : Nat) : State :=
  if entry = s.rd d F.ACQ_U_TRIG_TCELL u % 16 then s.acqFire d u 3 t else s

/-- A word of a unit's stream, after decimation recorded as a sample (R323, R327, R328, R332). -/
def acqWord (s : State) (d u : Fin 8) (w : Word) (t : Nat) (dec : Nat) (entryEnd : Bool) : State :=
  let st := s.acqSt d u
  if st = 2 ∨ st = 3 ∨ st = 4 then
    let a := s.acqU d u
    let keep := decide ((a.decim + 1) % dec = 0)
    let x : AcqSample := { word := w, t := t, chg := a.chg }
    let s := s.updAcq d u (fun a => { a with decim := a.decim + 1 })
    let s := if keep then s.updAcq d u (fun a => { a with line := (a.line ++ [x]).drop ((a.line.length + 1) - 64), chg := false })
      else s
    let s := if keep && ((st = 2 && decide (u.val < 2)) || (st = 3 && decide (a.left ≠ 0))) then s.acqPut d u x else s
    let cell := bitsOf w.toNat 16 7
    let s :=
      if s.rd d F.ACQ_U_TRIG_SRC u = 2 ∧ cell = s.rd d F.ACQ_U_TRIG_TCELL u then
        let r := acqLevel (s.acqU d u) (s.rd d F.ACQ_U_TRIG_EDGE u) (sext 16 (s.rd d F.ACQ_U_THR_THRESH u))
          (s.rd d F.ACQ_U_THR_HYST u) (sext 16 w.toNat) t
        let s := s.updAcq d u (fun _ => r.2)
        match r.1 with
        | some tt => (s.acqFire d u 2 tt).updAcq d u (fun a => { a with rising := r.2.rising, falling := r.2.falling })
        | none => s
      else s
    if entryEnd then s.acqEntry d u (bitsOf w.toNat 23 4) t else s
  else s

/-- A result word on the local capture wires (R323): every unit whose stream includes it records it; an entry's end triggers a unit of
its sequencer whether or not its stream includes the entry (R331). -/
def acqResult (s : State) (d : Fin 8) (q : Fin 2) (entry : Nat) (w : Word) (t : Nat) (entryEnd : Bool) : State :=
  (List.finRange 8).foldl (fun (s : State) (u : Fin 8) =>
    if s.on d F.ACQ_U_CFG_GATH u || s.rd d F.ACQ_U_CFG_SQ u != q.val then s
    else if s.bit d F.ACQ_U_ENT_ENTRY entry u then s.acqWord d u w t (s.rd d F.ACQ_U_CFG_DECM1 u + 1) entryEnd
    else if entryEnd then s.acqEntry d u entry t
    else s) s

/-- A sequence commit applied to the stream a unit records: the next sample shows it (R337, R340). -/
def acqSeqChg (s : State) (d : Fin 8) (q : Fin 2) : State :=
  s.onDies (fun s e => (List.finRange 8).foldl (fun (s : State) (u : Fin 8) =>
    let src := if s.on e F.ACQ_U_CFG_GATH u then s.rd e F.ACQ_U_CFG_SRC_DIE u else e.val
    if src = d.val ∧ s.rd e F.ACQ_U_CFG_SQ u = q.val ∧ 2 ≤ s.acqSt e u ∧ s.acqSt e u ≤ 4 then
      s.updAcq e u (fun a => { a with chg := true })
    else s) s)

/-! ## Headers (R337) -/

/-- Flags of a unit's record: SWAP, SAT, OW and INV of any sample, SEQCHG for a commit after the first one, OVF; and the first sample
with the lane-swap marker (R337, R338). -/
def acqFlags (a : AcqUnit) (circ : Bool) : BitVec 6 × Option Nat :=
  let f : BitVec 6 := a.flags ||| (if a.chg && a.left != 0 && a.n != 0 then 16 else 0)
  if circ then
    (((a.ring.drop 1).foldl (fun (f : BitVec 6) x => f ||| x.2) f) ||| ((a.ring.headD (0, 0)).2 &&& 0xF),
      a.ring.findIdx? (fun x => x.2.getLsbD 0))
  else (f, a.swapIdx)

/-- The eight words of a unit's header. -/
def acqHeader (s : State) (d u : Fin 8) : List Word :=
  let a := s.acqU d u
  let len := max 1 (s.rd d F.ACQ_U_LEN_LEN u)
  let circ := decide (u.val < 2)
  let nsamp := if circ then min len a.n else a.n
  let skip := if circ then a.n - nsamp else 0
  let gath := s.on d F.ACQ_U_CFG_GATH u
  let f := (acqFlags a circ).1.toNat
  let g := a.trig
  let src := (g.map (·.src)).getD 0
  let time := (g.map (·.time)).getD 0
  let pl := match a.place, a.before with
    | some p, _ => if p.1 < skip then (0, 0) else (p.1 - skip, p.2)
    | none, some b => (b.1 - skip, 0)
    | none, none => (0, 0)
  let grp := g.bind (·.group)
  let t0 := if circ then (a.ring.headD (a.t0, 0)).1 else a.t0
  let sw := (acqFlags a circ).2.getD 0xFFFFF
  [BitVec.ofNat 32 ((if circ then 0 else s.rd d F.ACQ_U_CNT_SEGDONE u) + u.val * 2 ^ 10 +
      (if gath then s.rd d F.ACQ_U_CFG_SRC_DIE u else d.val) * 2 ^ 13 + s.rd d F.ACQ_U_CFG_FMT u * 2 ^ 16 +
      b2n gath * 2 ^ 17 + f % 16 * 2 ^ 18 + b2n (bitOf f 5) * 2 ^ 22 + b2n grp.isSome * 2 ^ 23 +
      grp.getD 0 * 2 ^ 24 + src * 2 ^ 27 + 2 ^ 31),
   BitVec.ofNat 32 (nsamp + b2n (bitOf f 4) * 2 ^ 20),
   BitVec.ofNat 32 (pl.1 + pl.2 * 2 ^ 20 + (g.map (·.firerUnit)).getD 0 * 2 ^ 28),
   BitVec.ofNat 32 time,
   BitVec.ofNat 32 (time / 2 ^ 32 % 2 ^ 16 + (g.map (·.firerDie)).getD 0 * 2 ^ 16),
   BitVec.ofNat 32 t0, BitVec.ofNat 32 (t0 / 2 ^ 32 % 2 ^ 16), BitVec.ofNat 32 sw]

/-- The open segment's header written. -/
def acqWriteHead (s : State) (d u : Fin 8) : State := s.setMwords (capKey d (s.acqHead d u)) (s.acqHeader d u)

/-! ## Arming -/

/-- A copy of R339 reads part of a unit's region. -/
def acqBeingRead (s : State) (d u : Fin 8) : Bool :=
  let b := s.rd d F.ACQ_U_BASE_BASE u
  let src := s.rd d F.ACQ_RD_SRC_SRC
  s.on d F.ACQ_RD_CTRL_BUSY && decide (src < b + s.rd d F.ACQ_U_SIZE_SIZE u) &&
    decide (b < src + s.rd d F.ACQ_RD_LEN_LEN)

/-- Cells an entry word converts, in rising order, under the scan masks of a set (R133, R134). -/
def entryCells (e : Word) (scans : Vector (BitVec 16) 4) : List Nat :=
  let sel := bitsOf e.toNat 0 7
  if bitOf e.toNat 7 then
    if h : sel < 4 then
      ((List.range 16).filter (fun n => (scans.get ⟨sel, h⟩).getLsbD n)).map (fun n => 16 * sel + n)
    else []
  else [sel]

/-- The cell is converted by an entry of a unit's stream. -/
def acqHasCell (s : State) (d u : Fin 8) (cell : Nat) : Bool :=
  let src : Fin 8 := if s.on d F.ACQ_U_CFG_GATH u then ⟨s.rd d F.ACQ_U_CFG_SRC_DIE u % 8, Nat.mod_lt _ (by decide)⟩
    else d
  let q : Fin 2 := ⟨s.rd d F.ACQ_U_CFG_SQ u % 2, Nat.mod_lt _ (by decide)⟩
  match ((s.adc.get src).sq.get q).active with
  | none => false
  | some a => a.ents.zipIdx.any (fun x => s.bit d F.ACQ_U_ENT_ENTRY x.2 u && (entryCells x.1 a.scans).contains cell)

/-- A unit's region overlaps that of another enabled unit. -/
def acqOverlap (s : State) (d u : Fin 8) : Bool :=
  let b := s.rd d F.ACQ_U_BASE_BASE u
  let e := b + s.rd d F.ACQ_U_SIZE_SIZE u
  (List.finRange 8).any (fun v => v != u && s.on d F.ACQ_U_CTRL_EN v &&
    decide (s.rd d F.ACQ_U_BASE_BASE v < e) && decide (b < s.rd d F.ACQ_U_BASE_BASE v + s.rd d F.ACQ_U_SIZE_SIZE v))

/-- Status of an ARM (R330). -/
def acqArmVerdict (s : State) (d u : Fin 8) : Nat :=
  let st := s.acqSt d u
  let len := s.rd d F.ACQ_U_LEN_LEN u
  let segs := s.rd d F.ACQ_U_SEG_SEGS u
  let post := s.rd d F.ACQ_U_POST_POST u
  let src := s.rd d F.ACQ_U_TRIG_SRC u
  let base := s.rd d F.ACQ_U_BASE_BASE u
  let size := s.rd d F.ACQ_U_SIZE_SIZE u
  let circ := decide (u.val < 2)
  if st ≠ 1 ∧ st ≠ 5 ∧ st ≠ 6 then 3
  else if s.acqBeingRead d u then 6
  else if len < 16 ∨ (if circ then 262144 < len ∨ post = 0 ∨ len < post
      else 65536 < len ∨ segs = 0 ∨ 1024 < segs ∨ 64 < s.rd d F.ACQ_U_SEG_PRE u) then 4
  else if base % 32 ≠ 0 ∨ 0x400000 < base + size ∨ s.acqOverlap d u ∨ size < s.acqNeed d u then 4
  else if !circ ∧ 6 ≤ src ∧ src ≤ 10 then 4
  else if src = 2 ∧ !s.acqHasCell d u (s.rd d F.ACQ_U_TRIG_TCELL u) then 4
  else if s.on d F.ACQ_U_CFG_GATH u ∧ (d ≠ 0 ∨ !s.on d F.ACQ_U_CFG_FMT u ∨
      !s.present (s.rd d F.ACQ_U_CFG_SRC_DIE u)) then 4
  else 0

/-- VALID cleared in every header of a unit's region (R330). -/
def acqClearValid (s : State) (d u : Fin 8) : State :=
  let n := if 2 ≤ u.val then s.rd d F.ACQ_U_SEG_SEGS u else 1
  (List.range n).foldl (fun s i =>
    let k := capKey d (s.rd d F.ACQ_U_BASE_BASE u + i * s.acqSegBytes d u + 3)
    s.setByte k (s.byte k &&& 0x7F)) s

/-- ARM written (R330). -/
def acqArm (s : State) (d u : Fin 8) : State :=
  let v := s.acqArmVerdict d u
  let s := s.wr d F.ACQ_U_STAT_STATUS v u
  if v ≠ 0 then s
  else
    let s := ((s.acqClearValid d u).wr d F.ACQ_U_CNT_SEGDONE 0 u).wr d F.ACQ_U_STAT_WIDX 0 u
    (s.updAcq d u (fun _ => AcqUnit.init)).acqSetSt d u 2

/-- The unit stops, its open segment's header written first (R330, R336). -/
def acqHalt (s : State) (d u : Fin 8) (ovf : Bool) : State :=
  let st := s.acqSt d u
  if st = 2 ∨ st = 3 then
    let s := if ovf then s.updAcq d u (fun a => { a with flags := a.flags ||| 32 }) else s
    let s := if st = 3 then s.acqWriteHead d u else s
    (s.acqSetSt d u 6).setBit d F.ACQ_EVT_STOPPED u
  else s

/-- The last sample of a segment is written: header, then the next segment or DONE (R327, R330). -/
def acqSegDone (s : State) (d u : Fin 8) : State :=
  if 2 ≤ u.val ∧ s.acqSt d u = 3 ∧ (s.acqU d u).left = 0 then
    let s := (s.acqWriteHead d u).wr d F.ACQ_U_CNT_SEGDONE (s.rd d F.ACQ_U_CNT_SEGDONE u + 1) u
    let s := s.updAcq d u (fun a => { a with trig := none, place := none, before := none, n := 0, flags := 0,
                                             swapIdx := none })
    if s.rd d F.ACQ_U_CNT_SEGDONE u < s.rd d F.ACQ_U_SEG_SEGS u then s.acqSetSt d u 2
    else (s.acqSetSt d u 5).setBit d F.ACQ_EVT_DONE u
  else s

/-- The post count of a circular unit is reached (R328). -/
def acqPostDone (s : State) (d u : Fin 8) : State :=
  if u.val < 2 ∧ s.acqSt d u = 3 ∧ (s.acqU d u).left = 0 then
    ((s.acqWriteHead d u).acqSetSt d u 5).setBit d F.ACQ_EVT_DONE u
  else s

/-- Unit `v` of die `e` is a member of a group (R333). -/
def member (s : State) (g e v : Fin 8) : Bool := s.on e F.ACQ_U_TRIG_GRP_EN v && s.rd e F.ACQ_U_TRIG_GROUP v == g.val

/-- The requests of a group's members are gone: later fires of the same event are ignored (R334). -/
def groupClear (s : State) (g : Fin 8) : State :=
  s.onDies (fun s e => (List.finRange 8).foldl (fun (s : State) (v : Fin 8) =>
    if s.member g e v then s.updAcq e v (fun a => { a with own := none }) else s) s)

/-- A group fires at a time (R333, R334): the firing unit is an ARMED member whose source has fired, and the group is armed. -/
def groupFire (s : State) (g d u : Fin 8) (t : Nat) : State :=
  let src := s.rd d F.ACQ_U_TRIG_SRC u
  if (s.acqU d u).own == some t && s.on 0 F.ACQ_GRP_CTRL_ARMED g && s.member g d u && s.acqSt d u == 2 then
    let s := s.groupClear g
    let s := (((s.wr 0 F.ACQ_GRP_CTRL_ARMED 0 g).wrapCnt 0 F.ACQ_GRP_STAT_FIRES g).wr 0 F.ACQ_GRP_STAT_FIRER_UNIT u g).wr 0
      F.ACQ_GRP_STAT_FIRER_DIE d g
    let s := s.wr 0 F.ACQ_EVT_GRP_FIRE 1
    s.onUsed (fun s e => (List.finRange 8).foldl (fun (s : State) (v : Fin 8) =>
      if !s.member g e v then s
      else if s.acqSt e v = 2 then
        let s := { s with group := upd s.group g (fun x => { wait := x.wait ++ [e.val * 8 + v.val] }) }
        s.acqTrigger e v { time := t, src := src, group := some g, firerUnit := u, firerDie := d }
      else s.satCnt e F.ACQ_U_CNT_BUSY_TRIG v) s)
  else s

/-- XLK_ERR.FIRST keeps the first error code since clear. -/
def xlkFirst (s : State) (d code : Nat) : State :=
  if s.rd d F.XLK_ERR_FIRST = 0 then s.wr d F.XLK_ERR_FIRST code else s

/-- The port die whose stream a lead-die unit gathers (R335). -/
def gathDie (s : State) (u : Fin 8) : Fin 8 := ⟨s.rd 0 F.ACQ_U_CFG_SRC_DIE u % 8, Nat.mod_lt _ (by decide)⟩

/-- A unit of the lead die gathers: its port die sends while it is ARMED, RECORDING or in its post-trigger (R335). -/
def gathers (s : State) (u : Fin 8) : Bool :=
  s.on 0 F.ACQ_U_CFG_GATH u && decide (2 ≤ s.acqSt 0 u) && decide (s.acqSt 0 u ≤ 4)

/-- What a port die's stream needs of the drain in Mbit/s: 850 for a full stream, less by the decimation of its units (R335, R336). -/
def gathRate (s : State) (d : Fin 8) : Nat :=
  ((List.finRange 8).filter (fun v => s.gathers v && s.gathDie v == d)).foldl (fun (n : Nat) (v : Fin 8) =>
    max n (850 / (s.rd 0 F.ACQ_U_CFG_DECM1 v + 1))) 0

/-- A gathered stream can lose data: its link has lost a lane, or in NDZ-M8 the streams exceed the lead die's drain of 3.2 Gbit/s (R33,
R336). -/
def gathLoses (s : State) (u : Fin 8) : Bool :=
  s.rd (s.gathDie u) F.XLK_STAT_LANES_OK != 15 ||
    (decide (4 < (List.finRange 8).countP (fun d => s.present d)) &&
      decide (3200 < (List.finRange 8).foldl (fun (n : Nat) (d : Fin 8) => n + s.gathRate d) 0))

/-- A stream has lost a block: the unit ends its open segment with OVF and stops (R336, R340). -/
def gathLost (s : State) (u : Fin 8) : State :=
  let d := s.rd 0 F.ACQ_U_CFG_SRC_DIE u
  ((s.wr d F.XLK_ERR_CLS3_SHORT 1).xlkFirst d 3).acqHalt 0 u true

/-- What a die's reset means to acquisition elsewhere: a stream gathered from a port die stops as under R336, and no group waits for
the die's units (R334, R340). -/
def acqLeave (s : State) (d : Fin 8) : State :=
  let s := if d = 0 then { s with group := Vector.replicate 8 { wait := [] } }
    else (List.finRange 8).foldl (fun (s : State) (u : Fin 8) => if s.gathers u && s.gathDie u == d then s.gathLost u else s) s
  (List.finRange 8).foldl (fun (s : State) (u : Fin 8) => s.groupSettle d u) s

end State

/-! ## The commands -/

/-- ACQ_ARM (R330). -/
def execAcqArm (d : Die) (u : Fin 8) (s : State) : Host.Outcome State Fault Refusal := .next (s.acqArm d u)

/-- FORCE (R331): the trigger time is the device time of the write. -/
def execForce (d : Die) (u : Fin 8) (s : State) : Host.Outcome State Fault Refusal :=
  .next (s.acqFire d u 1 (s.devTime d))

/-- ACQ_STOP (R330). -/
def execAcqStop (d : Die) (u : Fin 8) (s : State) : Host.Outcome State Fault Refusal := .next (s.acqHalt d u false)

/-- ACQ_DISABLE (R330). -/
def execAcqDisable (d : Die) (u : Fin 8) (s : State) : Host.Outcome State Fault Refusal :=
  .next ((s.wr d F.ACQ_U_CTRL_EN 0 u).acqSetSt d u 0)

/-- ACQ_SEGMENT_COMPLETE (R327). -/
def execAcqSegmentComplete (d : Die) (u : Fin 8) (s : State) : Host.Outcome State Fault Refusal :=
  .next (s.acqSegDone d u)

/-- ACQ_POST_COMPLETE (R328). -/
def execAcqPostComplete (d : Die) (u : Fin 8) (s : State) : Host.Outcome State Fault Refusal :=
  .next (s.acqPostDone d u)

/-- GROUP_FIRE (R333, R334). -/
def execGroupFire (g : Fin 8) (d : Die) (u : Fin 8) (time : Nat) (s : State) : Host.Outcome State Fault Refusal :=
  .next (s.groupFire g d u time)

/-- GROUP_ARM (R334). -/
def execGroupArm (g : Fin 8) (s : State) : Host.Outcome State Fault Refusal :=
  .next (s.wr 0 F.ACQ_GRP_CTRL_ARMED 1 g)

/-- DISARM (R334). -/
def execDisarm (g : Fin 8) (s : State) : Host.Outcome State Fault Refusal :=
  .next ({ (s.groupClear g).wr 0 F.ACQ_GRP_CTRL_ARMED 0 g with group := upd s.group g (fun _ => { wait := [] }) })

/-- GATHER_BLOCK (R335): the words have been decimated by the port die; an entry-end trigger acts on each received word of
its entry (log entry 20). On the link it is a header of two XLINK words and two 16-bit samples a word (R29, R32). -/
def execGatherBlock (u : Fin 8) (samples : List (Word × Nat)) (s : State) : Host.Outcome State Fault Refusal :=
  .next (if s.gathers u then
      samples.foldl (fun s x => s.acqWord 0 u x.1 x.2 1 true) (s.xlkSent (s.gathDie u) 3 (2 + (samples.length + 1) / 2))
    else s)

/-- GATHER_OVERFLOW (R33, R336). -/
def execGatherOverflow (u : Fin 8) (s : State) : Host.Outcome State Fault Refusal :=
  .next (if s.gathers u && s.gathLoses u then s.gathLost u else s)

end Sys2Proof.Machine
end

