-- ==== Sys2Proof/Machine/Flags.lean ====
section
/-!
DEFINITION. The arithmetic rules of loop code and the sticky flags: saturation, rounding half up, coefficients as
numbers, and the flags SAT, INV and SWP (R174 to R176, R200).
-/

namespace Sys2Proof

/-- floor(a / b + 0.5) for a positive `b` (R175, R200). -/
def rhu (a b : Int) : Int := (2 * a + b) / (2 * b)

/-- y clamped to 32 bits (R174). -/
def sat32 (y : Int) : Int := clampI (-2147483648) 2147483647 y

/-- y clamped to 64 bits (R174). -/
def sat64 (y : Int) : Int := clampI (-9223372036854775808) 9223372036854775807 y

/-- rhu(x × M × 2^(S − 31)) for a mantissa and a shift of R175. -/
def coefMul (x m s : Int) : Int := rhu (x * m) (2 ^ (31 - s).toNat)

/-- rhu(x / 2^q). -/
def rhuShift (x : Int) (q : Nat) : Int := rhu x (2 ^ q)

/-- rhu(a / b) for a `b` of either sign other than 0. -/
def rhuDiv (a b : Int) : Int := if b < 0 then rhu (-a) (-b) else rhu a b

/-- clamp of R204: HI when y > HI or LO > HI, LO when y < LO, else y. -/
def clampLH (lo hi y : Int) : Int := if hi < y ∨ hi < lo then hi else if y < lo then lo else y

namespace Machine.State

/-- SAT set when `b` (R174). -/
def orSat (s : State) (d : Fin 8) (n : Fin 8) (b : Bool) : State := if b then s.wr d F.OXE_CTX_STAT_SAT 1 n else s

/-- INV set when `b` (R176). -/
def orInv (s : State) (d : Fin 8) (n : Fin 8) (b : Bool) : State := if b then s.wr d F.OXE_CTX_STAT_INV 1 n else s

/-- SWP set when `b` (R176). -/
def orSwp (s : State) (d : Fin 8) (n : Fin 8) (b : Bool) : State := if b then s.wr d F.OXE_CTX_STAT_SWP 1 n else s

/-- The flags a mask selects, bit 0 SAT, bit 1 INV, bit 2 SWP (R206). -/
def flagsOf (s : State) (d : Fin 8) (n : Fin 8) (mask : Nat) : Nat :=
  (b2n (s.on d F.OXE_CTX_STAT_SAT n) + 2 * b2n (s.on d F.OXE_CTX_STAT_INV n) + 4 * b2n (s.on d F.OXE_CTX_STAT_SWP n))
    &&& mask

/-- The flags a mask selects cleared (R206). -/
def clearFlags (s : State) (d : Fin 8) (n : Fin 8) (mask : Nat) : State :=
  let s := if bitOf mask 0 then s.wr d F.OXE_CTX_STAT_SAT 0 n else s
  let s := if bitOf mask 1 then s.wr d F.OXE_CTX_STAT_INV 0 n else s
  if bitOf mask 2 then s.wr d F.OXE_CTX_STAT_SWP 0 n else s

end Machine.State
end Sys2Proof
end

