-- ==== Sys2Proof/Machine/Operands.lean ====
section
/-!
DEFINITION. The operand forms of loop code: the fields of an instruction word, which fields each opcode uses, and the
operand spaces the instructions reach (R191 to R199, R212).
-/

namespace Sys2Proof.Machine

/-! ## Fields of the word (R191) -/

/-- Opcode. -/
def olcOp (w : Word) : Nat := bitsOf w.toNat 26 6

/-- Field D. -/
def olcD (w : Word) : Fin 16 := ⟨bitsOf w.toNat 22 4, Nat.mod_lt _ (by decide)⟩

/-- Field A. -/
def olcA (w : Word) : Fin 16 := ⟨bitsOf w.toNat 18 4, Nat.mod_lt _ (by decide)⟩

/-- Field B. -/
def olcB (w : Word) : Fin 16 := ⟨bitsOf w.toNat 14 4, Nat.mod_lt _ (by decide)⟩

/-- Field I. -/
def olcI (w : Word) : Nat := bitsOf w.toNat 0 14

/-- Field I as a signed immediate, −8192 to 8191 (R201). -/
def olcS (w : Word) : Int := sext 14 (olcI w)

/-- An accumulator named by a field that R198 restricts to 0 and 1. -/
def olcAcc (r : Fin 16) : Fin 2 := ⟨r.val % 2, Nat.mod_lt _ (by decide)⟩

/-- A port named by the low two bits of I. -/
def olcPort (w : Word) : Fin 4 := ⟨bitsOf w.toNat 0 2, Nat.mod_lt _ (by decide)⟩

/-- The bits of D, A, B and I an opcode uses (R201 to R206); an opcode without an entry is undefined. -/
def olcUsed (op : Nat) : Option Nat :=
  let dF := 0x03C00000
  let aF := 0x003C0000
  let bF := 0x0003C000
  match op with
  | 0x00 => some 0
  | 0x01 => some (dF + 0x3FFF)
  | 0x02 => some (dF + 0xFFF)
  | 0x03 => some (dF + aF)
  | 0x04 => some (dF + 0x7F)
  | 0x05 => some (dF + 0x1FF)
  | 0x06 => some (aF + 0x1FFF)
  | 0x07 => some (dF + aF + 0x27FF)
  | 0x08 => some (aF + bF + 0x27FF)
  | 0x09 => some (dF + aF)
  | 0x0A => some (dF + aF)
  | 0x0B => some dF
  | 0x0C => some (dF + 0xF)
  | 0x0D => some dF
  | 0x10 => some (dF + aF + bF)
  | 0x11 => some (dF + aF + bF)
  | 0x12 => some (dF + aF + 0x3FFF)
  | 0x13 => some (dF + aF)
  | 0x14 => some (dF + aF)
  | 0x15 => some (dF + aF + bF)
  | 0x16 => some (dF + aF + bF)
  | 0x17 => some (dF + aF + 0x1F)
  | 0x18 => some (dF + aF + 0x1F)
  | 0x19 => some (dF + aF + 0xFFF)
  | 0x1A => some (dF + aF + bF + 0x1F)
  | 0x1B => some (dF + aF + 0xFFF)
  | 0x1C => some (dF + aF + bF + 0x1F)
  | 0x1D => some (dF + aF + bF + 0x1F)
  | 0x1E => some (dF + aF + bF + 0x27FF)
  | 0x1F => some (dF + aF + bF)
  | 0x20 => some (dF + aF + 0xFFF)
  | 0x21 => some (dF + aF + 0xFFF)
  | 0x22 => some (dF + aF + 0xFFF)
  | 0x23 => some (dF + aF + bF + 0xFFF)
  | 0x24 => some (dF + aF + 0xF)
  | 0x25 => some (dF + aF + 0xF)
  | 0x28 => some (dF + aF + 0x1C000 + 0xFFF)
  | 0x29 => some (aF + 0xF)
  | 0x2A => some (aF + 0x7)
  | 0x2C => some (aF + 0x3)
  | 0x2D => some (aF + 0x3)
  | 0x2E => some 0x3FFF
  | 0x30 => some (0x1C000 + 0x1FFF)
  | 0x31 => some (0x1C000 + 0x1FFF)
  | 0x32 => some 0x1C000
  | 0x34 => some 0x1FFF
  | 0x35 => some (aF + bF + 0x1FFF)
  | 0x36 => some (aF + bF + 0x1FFF)
  | 0x37 => some (aF + bF + 0x1FFF)
  | 0x38 => some (aF + bF + 0x1FFF)
  | 0x39 => some (aF + 0x1FFF)
  | 0x3A => some 0x1FFF
  | 0x3B => some 0
  | 0x3C => some (dF + aF + bF + 0x3FFF)
  | 0x3F => some 0
  | _ => none

/-- The parameter bits of each WAIT event (R211). -/
def waitParam (ev : Nat) : Nat :=
  match ev with
  | 2 => 0x3
  | 3 => 0x1FF
  | 4 => 0x1F
  | _ => 0

/-- The further conditions of R212 on a word whose opcode is defined, apart from STR. -/
def olcOperandsOk (w : Word) : Bool :=
  let i := olcI w
  let a := (olcA w).val
  let n := i % 16
  match olcOp w with
  | 0x04 => decide (i ≤ 71)
  | 0x07 => bitOf i 13 || a == 0
  | 0x08 => bitOf i 13 || a == 0
  | 0x09 => decide ((olcD w).val ≤ 1)
  | 0x0A => decide (a ≤ 1)
  | 0x0B => decide ((olcD w).val ≤ 1)
  | 0x0C => decide (i / 4 % 4 ≠ 3)
  | 0x1B => decide ((olcD w).val ≤ 1)
  | 0x1C => decide ((olcD w).val ≤ 1)
  | 0x1E => decide ((olcD w).val ≤ 1)
  | 0x20 => decide (i + 2 ≤ 4095)
  | 0x22 => decide (i + 1 ≤ 4095)
  | 0x23 => decide (i + 2 ≤ 4095)
  | 0x24 => decide (a + n ≤ 15)
  | 0x25 => decide (a + n ≤ 15)
  | 0x28 => decide ((olcB w).val % 4 ≠ 3)
  | 0x29 => decide (a + n ≤ 15)
  | 0x3C => decide ((olcB w).val ≤ 4) && decide (i &&& waitParam (olcB w).val = i)
  | _ => true

/-! ## The cosine table (R205) -/

/-- Terms of a Taylor series in steps of 2^-40: terms left, the next divisor's first factor, the square, the last term, the sum. -/
def taylorSum : Nat → Int → Int → Int → Int → Int
  | 0, _, _, _, acc => acc
  | n + 1, k, x2, t, acc => taylorSum n (k + 2) x2 (-(t * x2) / 2 ^ 40 / (k * (k + 1))) (acc + -(t * x2) / 2 ^ 40 / (k * (k + 1)))

/-- Sine and cosine of a phase in steps of 2^-30 of full scale, to within one step: the quadrant, then the series over its quarter
turn. -/
def sinCosRef (ph : Word) : Int × Int :=
  let r : Int := Int.ofNat (ph.toNat % 2 ^ 30)
  let x := r * 1727108826179 / 2 ^ 30
  let x2 := x * x / 2 ^ 40
  let sn := rhu (taylorSum 10 2 x2 x x) (2 ^ 10)
  let cs := rhu (taylorSum 10 1 x2 (2 ^ 40) (2 ^ 40)) (2 ^ 10)
  match ph.toNat / 2 ^ 30 with
  | 0 => (sn, cs)
  | 1 => (cs, -sn)
  | 2 => (-sn, -cs)
  | _ => (-cs, sn)

/-- What CORR's table gives for cos φ and sin φ in steps of 2^-30: accurate to 2^-20, which is 2^10 steps, taken with the step to
which the reference is exact (R205; log entry 5). -/
def corCos (ph : Word) : Int := clampI ((sinCosRef ph).2 - 1025) ((sinCosRef ph).2 + 1025) (Config.cosTable ph)
def corSin (ph : Word) : Int := clampI ((sinCosRef ph).1 - 1025) ((sinCosRef ph).1 + 1025) (Config.sinTable ph)

namespace State

/-- R197's bounds on STR: a port die names die 0 and no broadcast; the lead die names a present die or broadcasts. -/
def strOk (s : State) (d : Fin 8) (w : Word) : Bool :=
  let i := olcI w
  if d = 0 then bitOf i 12 || s.present (bitsOf i 9 3) else !bitOf i 12 && bitsOf i 9 3 == 0

/-- Key of a program word. -/
def progKey (d : Fin 8) (pc : Nat) : Nat := regAddr d (0x090000 + 4 * pc)

/-- The word at a program address of R166; none beyond word 8191, for the program counter never wraps (R212). -/
def olcFetch (s : State) (d : Fin 8) (pc : Nat) : Option Word :=
  if pc ≤ 8191 then some (s.mword (progKey d pc)) else none

/-- A word that R212 does not call illegal on die `d`. -/
def olcLegal (s : State) (d : Fin 8) (w : Word) : Bool :=
  match olcUsed (olcOp w) with
  | none => false
  | some m =>
    decide (w.toNat % 0x4000000 &&& m = w.toNat % 0x4000000) && olcOperandsOk w && (olcOp w != 0x06 || s.strOk d w)

/-! ## Contexts -/

/-- Context `n` of die `d`. -/
def ctx (s : State) (d n : Fin 8) : CtxState := (s.oxe.get d).ctx.get n

/-- An engine's typed part changed. -/
def updOxe (s : State) (d : Fin 8) (f : Oxe → Oxe) : State := { s with oxe := upd s.oxe d f }

/-- A context's typed part changed. -/
def updCtx (s : State) (d n : Fin 8) (f : CtxState → CtxState) : State :=
  s.updOxe d (fun o => { o with ctx := upd o.ctx n f })

/-- State code of a context. -/
def ctxSt (s : State) (d n : Fin 8) : Nat := s.rd d F.OXE_CTX_STAT_STATE n

/-- The running context of an engine whose contexts have started (R188), if any. -/
def running (s : State) (d : Fin 8) : Option (Fin 8) :=
  if (s.oxe.get d).started then (List.finRange 8).find? (fun n => s.ctxSt d n == 3) else none

/-! ## Value registers and accumulators (R166, R193) -/

/-- A value register as a signed number (R174). -/
def vreg (s : State) (d n : Fin 8) (r : Fin 16) : Int := ((s.ctx d n).v.get r).toInt

/-- A value register written. -/
def setV (s : State) (d n : Fin 8) (r : Fin 16) (x : Int) : State :=
  s.updCtx d n (fun c => { c with v := upd c.v r (fun _ => BitVec.ofInt 32 x) })

/-- A value register written with sat32, which sets SAT when it clamps (R200). -/
def setVSat (s : State) (d n : Fin 8) (r : Fin 16) (y : Int) : State :=
  (s.setV d n r (sat32 y)).orSat d n (decide (sat32 y ≠ y))

/-- An accumulator as a signed number. -/
def accreg (s : State) (d n : Fin 8) (a : Fin 2) : Int := ((s.ctx d n).acc.get a).toInt

/-- An accumulator written. -/
def setAcc (s : State) (d n : Fin 8) (a : Fin 2) (x : Int) : State :=
  s.updCtx d n (fun c => { c with acc := upd c.acc a (fun _ => BitVec.ofInt 64 x) })

/-- An accumulator written with sat64, which sets SAT when it clamps (R200). -/
def setAccSat (s : State) (d n : Fin 8) (a : Fin 2) (y : Int) : State :=
  (s.setAcc d n a (sat64 y)).orSat d n (decide (sat64 y ≠ y))

/-! ## Coefficients, data memory, remote words, samples -/

/-- Mantissa of a coefficient entry (R175, R199). -/
def coefM (s : State) (d : Fin 8) (e : Nat) : Int := (s.mword (regAddr d (0x0A0000 + 8 * e))).toInt

/-- Shift of a coefficient entry, signed (R175). -/
def coefS (s : State) (d : Fin 8) (e : Nat) : Int := sext 6 (s.mword (regAddr d (0x0A0004 + 8 * e))).toNat

/-- rhu(x × c_e) (R175). -/
def coefTimes (s : State) (d : Fin 8) (x : Int) (e : Nat) : Int := coefMul x (s.coefM d e) (s.coefS d e)

/-- Key of a word of a die's data memory. -/
def dataKey (d : Fin 8) (i : Nat) : Nat := regAddr d (0x0A8000 + 4 * i)

/-- The data-memory word a context's offset names, where R194 lets the access happen. -/
def dataIdx (s : State) (d n : Fin 8) (off : Int) : Option Nat :=
  if 0 ≤ off ∧ off < s.rd d F.OXE_CTX_DWIN_DSIZE n ∧ s.rd d F.OXE_CTX_DWIN_DBASE n + off.toNat ≤ 2047 then
    some (s.rd d F.OXE_CTX_DWIN_DBASE n + off.toNat)
  else none

/-- The offset an LDD or STD names: I[10:0], plus the signed Va when I[13] is set (R194). -/
def dataOff (s : State) (d n : Fin 8) (w : Word) : Int :=
  (olcI w % 2048 : Nat) + (if bitOf (olcI w) 13 then s.vreg d n (olcA w) else 0)

/-- A data word as a signed number. -/
def dataGet (s : State) (d : Fin 8) (i : Nat) : Int := (s.mword (dataKey d i)).toInt

/-- A data word written. -/
def dataSet (s : State) (d : Fin 8) (i : Nat) (x : Int) : State := s.setMword (dataKey d i) (BitVec.ofInt 32 x)

/-- A remote receive word: value and the site tick of its last write; none after a DIE reset (R196). -/
def remoteGet (s : State) (d : Fin 8) (i : Nat) : Option (Word × Word) :=
  ((s.oxe.get d).remote.find? (fun e => e.1 == i)).map (·.2)

/-- The site tick of a die. -/
def tick (s : State) (d : Nat) : Word := BitVec.ofNat 32 (s.rd d F.TSU_TICK)

/-- LDR's INV: the word was written neither in the current site tick nor in the previous one (R196). -/
def remoteStale (s : State) (d : Fin 8) (i : Nat) : Bool :=
  match s.remoteGet d i with
  | none => true
  | some (_, t) => t != s.tick d && t + 1 != s.tick d

/-- A WAITING context's event has occurred: it becomes PENDING with 1 in Vd (R211). -/
def waitWake (s : State) (d n : Fin 8) (vd outcome : Nat) : State :=
  let s := s.updCtx d n (fun c => { c with waiting := none, resumed := true })
  let s := s.setV d n ⟨vd % 16, Nat.mod_lt _ (by decide)⟩ outcome
  s.wr d F.OXE_CTX_STAT_STATE 2 n

/-- An event of R211 on die `d`: every context that waits for it becomes PENDING. -/
def waitEvent (s : State) (d : Fin 8) (ev param : Nat) : State :=
  (List.finRange 8).foldl (fun s n =>
    match (s.ctx d n).waiting with
    | some (e, p, vd) => if e = ev ∧ p = param ∧ s.ctxSt d n = 5 then s.waitWake d n vd 1 else s
    | none => s) s

/-- A trigger the context has selected is recognised: PENDING from IDLE, an overrun while it is pending, running, preempted or
waiting (R169, R170). -/
def trigSelected (s : State) (d n : Fin 8) : State :=
  let st := s.ctxSt d n
  if st = 1 then s.wr d F.OXE_CTX_STAT_STATE 2 n
  else if 2 ≤ st ∧ st ≤ 5 then
    let s := s.satCnt d F.OXE_CTX_CNT_OVERRUNS n
    if n.val ≤ 4 then s.ctxFault d n 1 else s
  else s

/-- One event of source `src` for a context: counted from the start of the contexts (R168, R169). Whether it is one that the
context selects, every DIV-th, and the state after the count. -/
def trigCount (s : State) (d n : Fin 8) (src : Nat) : Bool × State :=
  if (s.oxe.get d).started ∧ src ≠ 0 ∧ s.rd d F.OXE_CTX_TRIG_SRC n = src then
    let e := (s.ctx d n).events
    let div := s.rd d F.OXE_CTX_TRIG_DIVM1 n + 1
    (e % div == s.rd d F.OXE_CTX_TRIG_PHASE n % div, s.updCtx d n (fun c => { c with events := c.events + 1 }))
  else (false, s)

/-- An event of source `src` for a context; a selected one waits for its recognition, CONTEXT_TRIGGER (R169, R170). -/
def trigEvent (s : State) (d n : Fin 8) (src : Nat) : State :=
  let x := s.trigCount d n src
  if x.1 then x.2.updCtx d n (fun c => { c with owed := c.owed + 1 }) else x.2

/-- An event of source `src` for the contexts of a die that name it (R168). -/
def trigAll (s : State) (d : Fin 8) (src : Nat) (p : Fin 8 → Bool) : State :=
  (List.finRange 8).foldl (fun s n => if p n then s.trigEvent d n src else s) s

/-- A trigger of an activation that the model takes whole (log entry 55): whether it starts now, else counted, an overrun or none. -/
def trigWhole (s : State) (d n : Fin 8) (src : Nat) : Bool × State :=
  let x := s.trigCount d n src
  if x.1 = false then (false, x.2)
  else if x.2.ctxSt d n = 1 then (true, (x.2.wrapCnt d F.OXE_CTX_CNT_ACT n).clrBit d F.OXE_SAFE_EVT_EVT n.val)
  else (false, x.2.trigSelected d n)

/-- A remote receive word written in the receiver's current site tick (R196, R197). -/
def remoteSet (s : State) (d : Fin 8) (i : Nat) (v : Word) : State :=
  let s := s.updOxe d (fun o => { o with remote := (o.remote.filter (fun e => e.1 != i)) ++ [(i, (v, s.tick d))] })
  s.waitEvent d 3 i

/-- A cell exists on a die (R129, R130; log entry 12): the site cells only on the lead die with ADC_SITE.EN, and then
without cells 14 and 15 of its ports. -/
def cellExists (s : State) (d : Fin 8) (c : Nat) : Bool :=
  if 72 ≤ c then false
  else if 64 ≤ c then decide (d = 0) && s.on 0 F.ADC_SITE_EN
  else !(decide (d = 0) && s.on 0 F.ADC_SITE_EN && decide (14 ≤ c % 16))

/-- A cell exists for LDS (R195): the lead die's cells 14 and 15 of a port do not while ADC_SITE.EN is 0, by R195's own words, nor
while it is 1 (R130; log entry 12). -/
def ldsExists (s : State) (d : Fin 8) (c : Nat) : Bool :=
  s.cellExists d c && !(decide (d = 0) && decide (c < 64) && decide (14 ≤ c % 16))

/-- A latest-sample register (R140, R176). -/
def sample (s : State) (d : Fin 8) (c : Nat) : Word := (s.oxe.get d).sample.toList.getD c 0

/-- A disabled or retired cell that has produced no result since RUN was set (R176). -/
def cellDead (s : State) (d : Fin 8) (c : Nat) : Bool :=
  (!s.on d F.ADC_CELL_EN c || s.on d F.ADC_CELL_RETIRED c) && !bitOf (s.oxe.get d).fresh.toNat c

/-- A load of the cell's sample sets INV (R176). -/
def sampleInv (s : State) (d : Fin 8) (c : Nat) : Bool := bitsOf (s.sample d c).toNat 27 2 == 3 || s.cellDead d c

/-! ## Engine errors and ECC (R187, R189, R190) -/

/-- An error bit of OXE_ERR raised, with FIRST (R187, R189). -/
def oxeErr (s : State) (d : Fin 8) (f : Fld) : State :=
  let s := s.wr d f 1
  if s.rd d F.OXE_ERR_FIRST = 0 then s.wr d F.OXE_ERR_FIRST (f.lo + 1) else s

/-- An error bit raised for a context: FIRST, and CTX with the first one. -/
def oxeErrCtx (s : State) (d n : Fin 8) (f : Fld) : State :=
  let s := s.wr d f 1
  if s.rd d F.OXE_ERR_FIRST = 0 then (s.wr d F.OXE_ERR_FIRST (f.lo + 1)).wr d F.OXE_ERR_CTX n else s

/-- The engine meets an ECC error for a context: a correctable one is corrected and counted (R190). -/
def eccSeen (s : State) (d n : Fin 8) (k : Nat) : State :=
  match s.eccAt k with
  | none => s
  | some false => ((s.eccMend k).updOxe d (fun o => { o with eccCorr := o.eccCorr + 1 })).oxeErrCtx d n F.OXE_ERR_ECC_CORR
  | some true => s.oxeErrCtx d n F.OXE_ERR_ECC_UNCORR

/-- Errors met for a context in order; an uncorrectable one faults it with cause 6 (R190). -/
def eccMeet (s : State) (d n : Fin 8) (ks : List Nat) : State :=
  let t := ks.foldl (fun (s : State) (k : Nat) => s.eccSeen d n k) s
  if ks.any (fun k => s.eccAt k == some true) then t.ctxFault d n 6 else t

/-- The words with an error in a context's window from offset 0, `n` words long, which an activation taken whole reads (R190). -/
def eccWindow (s : State) (d c : Fin 8) (n : Nat) : List Nat :=
  s.eccWithin (dataKey d (s.rd d F.OXE_CTX_DWIN_DBASE c)) (4 * n)

end State
end Sys2Proof.Machine
end

