-- ==== Sys2Proof/Machine/AdcOps.lean ====
section
/-!
DEFINITION. Operations of the measurement front end and of its live calibration: sequence sets and their commit checks,
calibrated results, trip windows, digital trip coverage, system calibration, lanes and rotation (R129 to R165).
-/

namespace Sys2Proof.Machine.State

/-! ## Access -/

/-- The typed part of a die's front end changed. -/
def updAdc (s : State) (d : Fin 8) (f : Adc → Adc) : State := { s with adc := upd s.adc d f }

/-- A sequencer's typed part. -/
def seqr (s : State) (d : Fin 8) (q : Fin 2) : Seqr := (s.adc.get d).sq.get q

/-- A sequencer's typed part changed. -/
def updSq (s : State) (d : Fin 8) (q : Fin 2) (f : Seqr → Seqr) : State :=
  s.updAdc d (fun a => { a with sq := upd a.sq q f })

/-- A lane's typed part. -/
def laneOf (s : State) (d : Fin 8) (k : Fin 3) : LaneState := (s.adc.get d).lane.get k

/-- A lane's typed part changed. -/
def updLane (s : State) (d : Fin 8) (k : Fin 3) (f : LaneState → LaneState) : State :=
  s.updAdc d (fun a => { a with lane := upd a.lane k f })

/-- Lane that serves a position (ADC_STAT). -/
def posLane (s : State) (d : Fin 8) (q : Fin 2) : Nat :=
  s.rd d (if q = 0 then F.ADC_STAT_SQ0_LANE else F.ADC_STAT_SQ1_LANE)

/-- Lane of a position written. -/
def setPosLane (s : State) (d : Fin 8) (q : Fin 2) (k : Nat) : State :=
  s.wr d (if q = 0 then F.ADC_STAT_SQ0_LANE else F.ADC_STAT_SQ1_LANE) k

/-- The calibration lane; none when ADC_STAT.CAL_LANE reads 3 (R132, R164). -/
def calLane (s : State) (d : Fin 8) : Option (Fin 3) :=
  let k := s.rd d F.ADC_STAT_CAL_LANE
  if h : k < 3 then some ⟨k, h⟩ else none

/-- A sequencer converts: RUN is set and its rounds have started. -/
def sqRuns (s : State) (d : Fin 8) (q : Fin 2) : Bool :=
  (s.seqr d q).run == .running || (s.seqr d q).run == .stopping

/-- ADC_STAT's run bit. -/
def setRunBit (s : State) (d : Fin 8) (q : Fin 2) (b : Bool) : State :=
  s.wrB d (if q = 0 then F.ADC_STAT_SQ0_RUN else F.ADC_STAT_SQ1_RUN) b

/-- An event of ADC_ROT_EVT. -/
def rotEvt (s : State) (d : Fin 8) (f : Fld) : State := s.raise d f F.ADC_ROT_EVT_FIRST

/-- An error of ADC_ERR. -/
def adcErr (s : State) (d : Fin 8) (f : Fld) : State := s.raise d f F.ADC_ERR_FIRST

/-! ## Sequence sets (R132 to R136) -/

/-- One conversion of a round: entry, cell, first cycle, sampling time, gain code. -/
structure ConvSlot where
  entry : Nat
  cell : Nat
  start : Nat
  ts : Nat
  gain : Nat
  deriving DecidableEq, Repr

/-- Sampling time of an entry in cycles. -/
def entTs (e : Word) : Nat := bitsOf e.toNat 8 5 + 1

/-- Gain code an entry converts a cell at, code 7 resolved by the set's gains (R133). -/
def entGain (e : Word) (gains : List Nat) (cell : Nat) : Nat :=
  let g := bitsOf e.toNat 13 3
  if g = 7 then gains.getD cell 0 else g

/-- An entry is diagnostic. -/
def entDiag (e : Word) : Bool := bitOf e.toNat 17

/-- The trip window an entry selects: 0 A, 1 B. -/
def entWin (e : Word) : Nat := bitsOf e.toNat 16 1

/-- The conversions of one round, in order (R132, R134). -/
def convSlots (a : SeqSet) : List ConvSlot :=
  (a.ents.zipIdx.foldl (fun (acc : List ConvSlot × Nat) x =>
    (entryCells x.1 a.scans).foldl (fun (acc : List ConvSlot × Nat) c =>
      (acc.1 ++ [{ entry := x.2, cell := c, start := acc.2, ts := entTs x.1, gain := entGain x.1 a.gains c }],
       acc.2 + entTs x.1)) acc) ([], 0)).1

/-- Length of a round in CONV cycles (R132). -/
def roundLen (a : SeqSet) : Nat :=
  a.ents.foldl (fun n e => n + entTs e * (entryCells e a.scans).length) 0

/-- Interval from one round start to the next. -/
def roundStep (a : SeqSet) : Nat := if a.period = 0 then roundLen a else a.period

/-- The shadow set as it stands, with the cell gains in force (R133, R136). -/
def shadowSet (s : State) (d : Fin 8) (q : Fin 2) : SeqSet :=
  { ents := (List.range (min 16 (s.rd d F.ADC_SQ_CFG_NENT q.val))).map (fun m => s.word (fldAddr d F.ADC_SQ_ENT q.val m)),
    period := s.rd d F.ADC_SQ_CFG_PERIOD q.val,
    scans := Vector.ofFn (fun k => BitVec.ofNat 16 (s.rd d F.ADC_SQ_SCAN_MASK q.val k.val)),
    gains := (List.range 72).map (fun c => s.rd d F.ADC_CELL_GAIN c) }

/-- Shortest sampling time at a gain code (R131). -/
def minTs (g : Nat) : Nat := if g = 3 then 2 else if g = 4 then 3 else if g = 5 then 4 else 1

/-- An enabled window of a cell (R143). -/
def winOn (s : State) (d : Fin 8) (cell w : Nat) : Bool :=
  decide (cell < 64) && bitOf (s.rd d F.ADC_TWEN w (cell / 32)) (cell % 32)

/-- Longest gap between successive sample edges of the given conversions, the gap across the round boundary included. -/
def maxGap (l : List ConvSlot) (step : Nat) : Nat :=
  match l.map (fun c => c.start + c.ts) with
  | [] => 0
  | t :: r =>
    let last := (t :: r).getLast (by simp)
    ((r.zip (t :: r)).foldl (fun (m : Nat) (x : Nat × Nat) => max m (x.1 - x.2)) 0).max (t + step - last)

/-- Non-diagnostic conversions of a cell whose entry selects an enabled window of it. -/
def winConvs (s : State) (d : Fin 8) (a : SeqSet) (cell : Nat) : List ConvSlot :=
  (convSlots a).filter (fun c =>
    let e := a.ents.getD c.entry 0
    c.cell == cell && !entDiag e && s.winOn d cell (entWin e))

/-- The first conversion of a cell at its gain that starts within 1 µs (25 cycles) after a diagnostic conversion of it, which the
meter path replaces (R142, R136). -/
def replacedConv (a : SeqSet) (c : ConvSlot) : Bool :=
  let step := roundStep a
  let all := (convSlots a).filter (fun x => x.cell == c.cell)
  all.any (fun x => entDiag (a.ents.getD x.entry 0) &&
    (let gap := (c.start + step - (x.start + x.ts)) % (max 1 step)
     decide (gap ≤ 25) && !all.any (fun y => !entDiag (a.ents.getD y.entry 0) && y.gain == c.gain && y != c &&
       decide ((y.start + step - (x.start + x.ts)) % (max 1 step) < gap))))

/-- A cell is converted at a gain by non-diagnostic entries at least every 20 µs (500 cycles) (R136 REASON 6, R142). -/
def meterCovered (a : SeqSet) (cell gain : Nat) : Bool :=
  let l := (convSlots a).filter (fun c =>
    c.cell == cell && c.gain == gain && !entDiag (a.ents.getD c.entry 0) && !replacedConv a c)
  !l.isEmpty && decide (maxGap l (roundStep a) ≤ 500)

/-- Meter cells of a port's map word: cell and gain (R142). -/
def mapCells (k : Nat) (w : Nat) : List (Nat × Nat) :=
  [(16 * k + bitsOf w 0 4, bitsOf w 13 3), (16 * k + bitsOf w 4 4, bitsOf w 16 3)] ++
    (if bitOf w 12 then [(16 * k + bitsOf w 8 4, bitsOf w 19 3)] else [])

/-- Meter cells fed by a sequencer of a die, with their meter gain (R142). -/
def meterCells (s : State) (d : Fin 8) (q : Fin 2) : List (Nat × Nat) :=
  (List.finRange 4).flatMap (fun k =>
    if (s.meter.params.get (portOf d k)).mapped && s.rd d F.ADC_MTRMAP_SQ k.val == q.val then
      mapCells k.val (s.rd d F.ADC_MTRMAP k.val)
    else []) ++
  (if d = 0 ∧ s.on 0 F.ADC_SITE_EN ∧ s.rd 0 F.ADC_SITE_SQ = q.val then
    (List.range 8).map (fun c => (64 + c, if c < 4 then s.rd 0 F.ADC_SITE_GAIN_U else s.rd 0 F.ADC_SITE_GAIN_I))
  else [])

/-- Whether a cell is a meter cell of R142 on a die. -/
def isMeterCell (s : State) (d : Fin 8) (cell : Nat) : Bool :=
  (s.meterCells d 0 ++ s.meterCells d 1).any (fun x => x.1 == cell)

/-- Lowest entry of a set that converts a cell; 0 when none does (R136). -/
def lowEntry (a : SeqSet) (cell : Nat) : Nat :=
  ((convSlots a).find? (fun c => c.cell == cell)).elim 0 (·.entry)

/-- Cells of diagnostic entries, cells of all entries, and the cells and windows of non-diagnostic entries of a set. -/
def diagCells (a : SeqSet) : List Nat :=
  ((convSlots a).filter (fun c => entDiag (a.ents.getD c.entry 0))).map (·.cell)
def allCells (a : SeqSet) : List Nat := (convSlots a).map (·.cell)
def winCells (a : SeqSet) : List (Nat × Nat) :=
  ((convSlots a).filter (fun c => decide (c.cell < 64) && !entDiag (a.ents.getD c.entry 0))).map (fun c =>
    (c.cell, entWin (a.ents.getD c.entry 0)))

/-- REASON 2 of an entry: for gain 7, of a cell it converts (R131, R133). -/
def shortTs (a : SeqSet) (e : Word) : Bool :=
  let g := bitsOf e.toNat 13 3
  if g = 7 then (entryCells e a.scans).any (fun c => decide (entTs e < minTs (a.gains.getD c 0))) else decide (entTs e < minTs g)

/-- The entry named for a check about cells: the lowest of those that convert a failing cell (R136). -/
def lowestOf (a : SeqSet) (cells : List Nat) : Option Nat := (cells.map (lowEntry a)).min?

/-- REASON 1 of an entry. -/
def badEntry (s : State) (d : Fin 8) (q : Fin 2) (a : SeqSet) (e : Word) : Bool :=
  let g := bitsOf e.toNat 13 3
  let sel := bitsOf e.toNat 0 7
  g == 6 || bitsOf e.toNat 20 2 == 3 ||
    (g == 7 && (entryCells e a.scans).any (fun c => decide (6 ≤ a.gains.getD c 0))) ||
    (if bitOf e.toNat 7 then decide (3 < sel) else !s.cellExists d sel) ||
    (bitOf e.toNat 24 && s.rd d F.ADC_RING_SIZE_SIZE (4 * q.val + bitsOf e.toNat 22 2) == 0)

/-- A cell is watched by an enabled analog comparator that is not retired (R145, R462). -/
def watched (s : State) (d : Fin 8) (cell : Nat) : Bool :=
  (List.range 8).any (fun k => s.on d F.ADC_TC_EN k && !s.isRetired d 1 0x04 (72 + k) && 16 * (k / 2) + s.rd d F.ADC_TC_CELL k == cell)

/-- The commit checks in the order of REASON: 0 for none, and the entry named (R136). -/
def commitVerdict (s : State) (d : Fin 8) (q : Fin 2) (a : SeqSet) : Nat × Nat :=
  let nent := s.rd d F.ADC_SQ_CFG_NENT q.val
  let others := [(s.seqr d (1 - q)).active, (s.seqr d (1 - q)).pend].filterMap id
  let firstEnt (p : Word → Bool) : Option Nat := a.ents.findIdx? p
  let firstCell (p : Nat → Bool) : Option Nat := lowestOf a ((allCells a).filter p)
  let r1 := firstEnt (s.badEntry d q a)
  let r2 := firstEnt (shortTs a)
  let r3 := if nent = 0 ∨ 16 < nent then some 0 else firstEnt (fun e => bitOf e.toNat 7 && (entryCells e a.scans).isEmpty)
  let r4 := if 0 < a.period ∧ a.period < roundLen a then some 0 else none
  let r5 := firstCell (fun c => !(s.winConvs d a c).isEmpty && decide (50 < maxGap (s.winConvs d a c) (roundStep a)))
  let r6 := lowestOf a (((s.meterCells d q).filter (fun x => !meterCovered a x.1 x.2)).map (·.1))
  let r7 := firstCell (fun c =>
    others.any (fun o => ((diagCells a).contains c && (allCells o).contains c) || (diagCells o).contains c))
  let r8 := lowestOf a (((winCells a).filter (fun x => others.any (fun o => (winCells o).contains x))).map (·.1))
  let r9 := firstEnt (fun e => entDiag e && bitsOf e.toNat 18 2 != 0 && (entryCells e a.scans).any (s.watched d))
  match r1, r2, r3, r4, r5, r6, r7, r8, r9 with
  | some e, _, _, _, _, _, _, _, _ => (1, e)
  | _, some e, _, _, _, _, _, _, _ => (2, e)
  | _, _, some e, _, _, _, _, _, _ => (3, e)
  | _, _, _, some e, _, _, _, _, _ => (4, e)
  | _, _, _, _, some e, _, _, _, _ => (5, e)
  | _, _, _, _, _, some e, _, _, _ => (6, e)
  | _, _, _, _, _, _, some e, _, _ => (7, e)
  | _, _, _, _, _, _, _, some e, _ => (8, e)
  | _, _, _, _, _, _, _, _, some e => (9, e)
  | _, _, _, _, _, _, _, _, _ => (0, 0)

/-- A set made active: the active entries and masks and LEN follow (R136, ADC_SQn_STAT). -/
def setActive (s : State) (d : Fin 8) (q : Fin 2) (a : SeqSet) : State :=
  let s := s.updSq d q (fun x => { x with active := some a })
  let s := (List.range 16).foldl (fun s m => s.setWord (fldAddr d F.ADC_SQ_AENT q.val m) (a.ents.getD m 0)) s
  let s := (List.finRange 4).foldl (fun s k => s.wr d F.ADC_SQ_ASCAN_MASK (a.scans.get k).toNat q.val k.val) s
  s.wr d F.ADC_SQ_STAT_LEN (roundLen a) q.val

/-- A first round waits for a grid edge: under SYNC, or because the position's lane shows no CORR_VALID yet (R135, R155). -/
def startWaits (s : State) (d : Fin 8) (q : Fin 2) : Bool :=
  s.on d F.ADC_SQ_CTRL_SYNC q.val || !s.on d F.ADC_LANE_CAL_CORR_VALID (s.posLane d q)

/-- An edge of the 10 µs grid lets the first round start that waits for it (R135, R155). -/
def sqEdge (s : State) (d : Fin 8) (q : Fin 2) : State :=
  let x := s.seqr d q
  if x.run == .starting && x.active.isSome && s.on d F.ADC_LANE_CAL_CORR_VALID (s.posLane d q) then
    s.updSq d q (fun x => { x with wait := false })
  else s

/-- COMMIT written (R136). -/
def seqCommit (s : State) (d : Fin 8) (q : Fin 2) : State :=
  let x := s.seqr d q
  if x.pend.isSome || x.checking.isSome then s.wr d F.ADC_SQ_STAT_STATUS 6 q.val
  else
    let a := s.shadowSet d q
    s.updSq d q (fun x => { x with checking := some (a, s.commitVerdict d q a) })

/-- The commit check ends (R136). -/
def commitDone (s : State) (d : Fin 8) (q : Fin 2) : State :=
  match (s.seqr d q).checking with
  | none => s
  | some (a, v) =>
    let s := s.updSq d q (fun x => { x with checking := none })
    let s := ((s.wr d F.ADC_SQ_STAT_STATUS (if v.1 = 0 then 0 else 4) q.val).wr d F.ADC_SQ_STAT_REASON v.1 q.val).wr d
      F.ADC_SQ_STAT_REJ_ENTRY v.2 q.val
    if v.1 ≠ 0 then s
    else if s.sqRuns d q then
      (s.updSq d q (fun x => { x with pend := some a })).wr d F.ADC_SQ_STAT_PENDING 1 q.val
    else
      let first := (s.seqr d q).active.isNone
      let s := s.setActive d q a
      if first then s.updSq d q (fun x => { x with wait := s.startWaits d q }) else s

/-- RUN set (R135, R137). -/
def sqRun (s : State) (d : Fin 8) (q : Fin 2) : State :=
  let s := s.wr d F.ADC_SQ_CTRL_RUN 1 q.val
  match (s.seqr d q).run with
  | .stopped => s.updSq d q (fun x => { x with run := .starting, wait := s.startWaits d q })
  | .stopping => s.updSq d q (fun x => { x with run := .running })
  | _ => s

/-- Ports with a cell whose window is selected in a sequencer's active set (R137). -/
def winPorts (s : State) (d : Fin 8) (q : Fin 2) : List (Fin 4) :=
  match (s.seqr d q).active with
  | none => []
  | some a => (List.finRange 4).filter (fun k => (winCells a).any (fun x => decide (x.1 < 64) && x.1 / 16 == k.val))

/-! ## Digital trip coverage (R406) -/

/-- Coverage lost on the given ports: with every enabled window of the port watched by an enabled comparator the port
enters degraded mode, otherwise it gets a trip stop with cause 12. Ports without an enabled window lose nothing. -/
def coverageLost (s : State) (d : Fin 8) (ks : List (Fin 4)) : State :=
  ks.foldl (fun s k =>
    let cells := (List.range 16).map (16 * k.val + ·) |>.filter (fun c => s.winOn d c 0 || s.winOn d c 1)
    if cells.isEmpty then s
    else
      let s := s.wr d F.SAF_P_STAT_TRIP_COV 0 k.val
      if cells.all (s.watched d) then s.degrade d k 2 else s.tripStop d k 12) s

/-- A position served again has delivered its first round: the ports with a window in its sequence are covered again, unless the
main reference or the other sequence's lane is missing, and R164's drive of their INH pins ends (R163). -/
def coverageBack (s : State) (d : Fin 8) (q : Fin 2) : State :=
  let other := if (s.seqr d (1 - q)).unserved then s.winPorts d (1 - q) else []
  (s.winPorts d q).foldl (fun s k =>
    if other.contains k then s
    else
      let s := s.setInh (portOf d k) Inh.unserved false
      if (s.adc.get d).refOk then s.wr d F.SAF_P_STAT_TRIP_COV 1 k.val else s) s

/-! ## Comparison of lanes (R157, R158) -/

/-- PHASE of ADC_ROT_STAT. -/
def phase (s : State) (d : Fin 8) : Nat := s.rd d F.ADC_ROT_STAT_PHASE

/-- PHASE written. -/
def setPhase (s : State) (d : Fin 8) (p : Nat) : State := s.wr d F.ADC_ROT_STAT_PHASE p

/-- The targeted position. -/
def target (s : State) (d : Fin 8) : Fin 2 := if s.on d F.ADC_ROT_STAT_TARGET then 1 else 0

/-- The position whose lane the newcomer runs beside: the target in an overlap, the other in a vote (R162). -/
def beside (s : State) (d : Fin 8) : Option (Fin 2) :=
  if s.phase d = 3 then some (s.target d) else if s.phase d = 4 then some (1 - s.target d) else none

/-- One pair added to the comparison of its cell and gain. -/
def addPair (l : List Pairs) (cell gain : Nat) (x : Int) : List Pairs :=
  if l.any (fun p => p.cell == cell && p.gain == gain) then
    l.map (fun p => if p.cell = cell ∧ p.gain = gain then
      { p with n := p.n + 1, sum := p.sum + x, peak := max p.peak x.natAbs } else p)
  else l ++ [{ cell := cell, gain := gain, n := 1, sum := x, peak := x.natAbs }]

/-- The lanes agree: every mean within LIM_MEAN and every peak within LIM_PEAK codes, over the cells and gains with at
least 16 valid pairs (R158). -/
def pairsAgree (s : State) (d : Fin 8) : Bool :=
  ((s.adc.get d).pairs.filter (fun p => decide (16 ≤ p.n))).all (fun p =>
    decide (p.sum.natAbs ≤ s.rd d F.ADC_ROT_LIM_LIM_MEAN * p.n) &&
      decide (p.peak ≤ 16 * s.rd d F.ADC_ROT_LIM_LIM_PEAK))

/-- Fewer than 64 pairs are valid in total (R158). -/
def pairsShort (s : State) (d : Fin 8) : Bool :=
  decide ((s.adc.get d).pairs.foldl (fun n p => n + p.n) 0 < 64)

/-- ADC_ROT_LAST: the largest mean and peak and the cell that holds the worst margin, the largest share of its limits
(log entry 21). -/
def rotLast (s : State) (d : Fin 8) (agree : Bool) : State :=
  let l := (s.adc.get d).pairs.filter (fun p => decide (16 ≤ p.n))
  let mean (p : Pairs) : Nat := p.sum.natAbs / p.n
  let score (p : Pairs) : Nat := max (mean p * 16 * s.rd d F.ADC_ROT_LIM_LIM_PEAK) (p.peak * s.rd d F.ADC_ROT_LIM_LIM_MEAN)
  let worst := l.foldl (fun (b : Nat × Nat) p => if b.1 < score p + 1 then (score p + 1, p.cell) else b) (0, 0)
  (((s.wr d F.ADC_ROT_LAST_MEAN (min 4095 (l.foldl (fun m p => max m (mean p)) 0))).wr d F.ADC_ROT_LAST_PEAK
    (min 255 (l.foldl (fun m p => max m (p.peak / 16)) 0))).wr d F.ADC_ROT_LAST_CELL worst.2).wrB d
    F.ADC_ROT_LAST_AGREE agree

/-- The comparison cleared, to count from the next rounds. -/
def clearPairs (s : State) (d : Fin 8) : State :=
  (s.updAdc d (fun a => { a with pairs := [], held := [], came := [] })).wr d F.ADC_ROT_STAT_ROUNDS 0

/-- One side's result of a conversion offered to the comparison (R158): paired with the other side's of the same entry, cell and
sample edge, or kept until that comes. -/
def compareResult (s : State) (d : Fin 8) (new : Bool) (entry cell gain t : Nat) (r : Int) (usable : Bool) : State :=
  let a := s.adc.get d
  let hit (x : Nat × Nat × Nat × Int × Bool) : Bool := x.1 == entry && x.2.1 == cell && x.2.2.1 == t
  match (if new then a.held else a.came).find? hit with
  | some x =>
    let s := s.updAdc d (fun a => if new then { a with held := a.held.filter (!hit ·) } else { a with came := a.came.filter (!hit ·) })
    if usable && x.2.2.2.2 then
      s.updAdc d (fun a => { a with pairs := addPair a.pairs cell gain (if new then r - x.2.2.2.1 else x.2.2.2.1 - r) })
    else s
  | none =>
    s.updAdc d (fun a => if new then { a with came := a.came ++ [(entry, cell, t, r, usable)] }
      else { a with held := a.held ++ [(entry, cell, t, r, usable)] })

/-! ## Lanes -/

/-- A lane's newest valid set. -/
def laneSet (s : State) (d : Fin 8) (k : Fin 3) : Option CorrSet := (s.laneOf d k).fresh.orElse (fun _ => (s.laneOf d k).working)

/-- A lane takes a position: its newest set becomes its working set, and the first round it converts whole carries the marker: with
`atBoundary`, the round under way if no result of it has been delivered (R152, R159, R162, R163, R165; log entry 111). -/
def laneServes (s : State) (d : Fin 8) (k : Fin 3) (q : Fin 2) (atBoundary : Bool) : State :=
  let l := s.laneOf d k
  let s := s.updLane d k (fun _ => { l with working := l.fresh.orElse (fun _ => l.working), fresh := none, calBusy := false,
                                            workAt := if l.fresh.isSome then l.freshAt else l.workAt })
  let s := s.updAdc d (fun a => { a with served := upd a.served k (fun _ => s.now) })
  (s.setPosLane d q k.val).updSq d q (fun x =>
    if atBoundary && x.atStart then { x with swap := true, unserved := false, relieve := false }
    else { x with swapNext := true, unserved := false, relieve := false })

/-- A lane begins a self-calibration (R153). -/
def laneCal (s : State) (d : Fin 8) (k : Fin 3) : State := s.updLane d k (fun l => { l with calBusy := true })

/-- Swaps counted by the die's meter core, per port (R349). -/
def countSwap (s : State) (d : Fin 8) : State :=
  s.onPorts (fun s k => s.updPm (portOf d k) (fun m => { m with swaps := m.swaps + 1 }))

/-- Rotation suspended: two lanes are left, which puts every port of the die into degraded mode (R164, R409). -/
def suspend (s : State) (d : Fin 8) : State :=
  let s := (((s.wr d F.ADC_STAT_CAL_LANE 3).setPhase d 7).rotEvt d F.ADC_ROT_EVT_SUSPEND).clearPairs d
  let s := (s.updAdc d (fun a => { a with rotDue := false })).wr d F.ADC_ROT_STAT_DEFER_SYSCAL 0
  s.onPorts (fun s k => s.degrade d k 3)

/-- Lanes that are not retired. -/
def lanesLeft (s : State) (d : Fin 8) : Nat :=
  ((List.range 3).filter (fun k => !s.on d F.ADC_LANE_CAL_RETIRED k)).length

/-- The position's holder is exchanged for the newcomer; the old holder becomes the calibration lane (R159). The rotation is made. -/
def swapLanes (s : State) (d : Fin 8) (q : Fin 2) (new : Fin 3) : State :=
  let old := s.posLane d q
  let s := ((s.laneServes d new q true).wr d F.ADC_STAT_CAL_LANE old).wr d F.ADC_ROT_STAT_NEWCOMER old
  s.updAdc d (fun a => { a with rotDue := false })

/-- A position has no lane (R163): its sequencer delivers no result, and its ports lose their digital trip coverage. -/
def leaveUnserved (s : State) (d : Fin 8) (q : Fin 2) : State :=
  let ports := s.winPorts d q
  (s.updSq d q (fun x => { x with unserved := true, relieve := false, lossy := false })).coverageLost d ports

/-- Every port with a window in an unserved sequence inhibited, and a region fault, when one lane is left (R164). -/
def oneLane (s : State) (d : Fin 8) : State :=
  if s.lanesLeft d ≤ 1 then
    let s := (List.finRange 2).foldl (fun s q =>
      if (s.seqr d q).unserved then (s.winPorts d q).foldl (fun s k => s.setInh (portOf d k) Inh.unserved true) s
      else s) s
    s.regionFault d 0x3004 []
  else s

/-- The calibration lane takes a position whose holder is gone, or leaves it unserved while it holds no set, self-calibrating at
once (R163, R165). -/
def relievePos (s : State) (d : Fin 8) (q : Fin 2) : State :=
  match s.calLane d with
  | none => s.leaveUnserved d q
  | some c =>
    if (s.laneSet d c).isSome then
      (((s.laneServes d c q false).satCnt d F.ADC_ROT_CNT_FORCED).countSwap d).suspend d
    else
      let s := s.leaveUnserved d q
      ((s.laneCal d c).setPhase d 1).clearPairs d

/-- A lane retired, of which the meter core is informed (R163 to R165). A lost holder is replaced at the next conversion slot; one
retired otherwise serves to the next round boundary, and any overlap ends without swap. -/
def laneOut (s : State) (d : Fin 8) (k : Fin 3) (byLoss : Bool) : State :=
  let s := (s.wr d F.ADC_LANE_CAL_CORR_VALID 0 k.val).updLane d k (fun l => { l with calBusy := false })
  let s := s.meterLog 0x0A 0xFF [d.val, k.val]
  let s :=
    if s.calLane d = some k then s.suspend d
    else if s.posLane d 0 ≠ k.val ∧ s.posLane d 1 ≠ k.val then s
    else
      let q : Fin 2 := if s.posLane d 0 = k.val then 0 else 1
      if byLoss then
        (s.updSq d q (fun x => { x with lossy := true })).relievePos d q
      else if s.sqRuns d q then
        let s := s.updSq d q (fun x => { x with relieve := true })
        if s.phase d = 7 then s else (s.clearPairs d).setPhase d 0
      else s.relievePos d q
  s.oneLane d

/-- A fault of a lane, counted against its budget and shown in FAULTS; it retires a lane whose budget is exhausted (R154, R162). -/
def laneFault (s : State) (d : Fin 8) (k : Fin 3) (code : Nat) (data : List Nat) : State :=
  let r := s.countFault d 2 0x04 k.val code data
  let s := r.1.wr d F.ADC_LANE_CAL_FAULTS (min 255 (r.1.faultTimes (faultKey d 2 0x04 k.val)).length) k.val
  if r.2 then s.laneOut d k false else s

/-- A lane suspected by a disagreement: SUSPECT until it has passed a self-calibration and an overlap (R162). -/
def suspectLane (s : State) (d : Fin 8) (k : Fin 3) : State :=
  ((s.wr d F.ADC_LANE_CAL_SUSPECT 1 k.val).updLane d k (fun l => { l with doubt := true })).laneCal d k

/-- The newcomer is suspect (R162): no swap; it self-calibrates and repeats the overlap at once. -/
def newcomerSuspect (s : State) (d : Fin 8) (k : Fin 3) : State :=
  let s := ((s.suspectLane d k).setPhase d 1).clearPairs d
  s.laneFault d k 0x2002 [k.val, s.rd d F.ADC_ROT_LAST_PEAK]

/-- A rotation aborted without judgment: self-calibrations end, and it restarts from self-calibration once REF_READY is 1 again
(R165). -/
def abortRotation (s : State) (d : Fin 8) : State :=
  let p := s.phase d
  let s := s.updAdc d (fun a => { a with lane := a.lane.map (fun l => { l with calBusy := false }) })
  if p = 0 ∨ p = 7 ∨ (p = 2 ∧ !(s.adc.get d).rotDue) then s
  else ((s.clearPairs d).setPhase d 1).wr d F.ADC_ROT_STAT_DEFER_SYSCAL 0

/-- REF_READY has risen: the calibration lane restarts in phase 1, and every lane in service without a set (R155, R165). -/
def calRestart (s : State) (d : Fin 8) : State :=
  (List.finRange 3).foldl (fun s k =>
    let l := s.laneOf d k
    if s.on d F.ADC_LANE_CAL_RETIRED k.val then s
    else if (s.calLane d = some k ∧ s.phase d = 1) ∨ (l.working.isNone ∧ l.fresh.isNone) then s.laneCal d k
    else s) s

/-- Positions of the lanes that are not retired, where the reset values name a retired one (R155, R164; log entry 113): two lanes
serve SQ0 and SQ1 with rotation suspended, one serves SQ0. -/
def placeLanes (s : State) (d : Fin 8) : State :=
  let good := (List.range 3).filter (fun k => !s.on d F.ADC_LANE_CAL_RETIRED k)
  if good.length = 3 then s
  else
    let s := (List.finRange 3).foldl (fun s k =>
      if good.contains k.val then s else s.updLane d k (fun l => { l with calBusy := false })) s
    let s := (((s.setPosLane d 0 (good.getD 0 3)).setPosLane d 1 (good.getD 1 3)).wr d F.ADC_STAT_CAL_LANE 3).setPhase d 7
    let s := s.updSq d 0 (fun x => { x with unserved := decide (good.length < 1) })
    s.updSq d 1 (fun x => { x with unserved := decide (good.length < 2) })

/-! ## System calibration (R149 to R151) -/

/-- Coefficient pair of a cell at a gain for a conversion sampled at `t`: the one before the last replaced where the sample edge
lies before the boundary at which the new one took effect (R149). -/
def coefOf (s : State) (d : Fin 8) (cell gain t : Nat) : Int × Nat :=
  let key := cell * 6 + gain
  let cur := (((s.adc.get d).coef.find? (fun e => e.1 == key)).map (·.2)).getD (0, 0x10000)
  match (s.adc.get d).oldPair with
  | some (k, p, t0) => if k = key ∧ t < t0 then p else cur
  | none => cur

/-- A pair replaced in a store. -/
def putPair (l : List (Nat × (Int × Nat))) (key : Nat) (p : Int × Nat) : List (Nat × (Int × Nat)) :=
  l.filter (fun e => e.1 != key) ++ [(key, p)]

/-- ADC_SYSCAL_STAT's flag for the held zero. -/
def zeroFlag (s : State) (d : Fin 8) : State :=
  let c := s.rd d F.ADC_SYSCAL_CELL
  let g := s.rd d F.ADC_SYSCAL_GAIN
  s.wrB d F.ADC_SYSCAL_STAT_ZERO_HELD (match (s.adc.get d).zero with
    | some z => z.1 == c && z.2.1 == g
    | none => false)

/-- A cell is converted at a gain by a running non-diagnostic entry (R150). -/
def convertedNow (s : State) (d : Fin 8) (cell gain : Nat) : Bool :=
  (List.finRange 2).any (fun q => s.sqRuns d q &&
    (match (s.seqr d q).active with
     | some a => (convSlots a).any (fun c => c.cell == cell && c.gain == gain && !entDiag (a.ents.getD c.entry 0))
     | none => false))

/-- A held zero is for a cell at a gain. -/
def zeroFor (z : Option (Nat × Nat × Int)) (cell gain : Nat) : Bool :=
  match z with
  | some z => z.1 == cell && z.2.1 == gain
  | none => false

/-- A field of a calibration step is invalid (R150). -/
def calBad (s : State) (d : Fin 8) (cell gain step navg : Nat) : Bool :=
  decide (step = 0) || decide (step = 3) || decide (5 < gain) || decide (8 < navg) || !s.cellExists d cell

/-- WRONG_STATE at GO, with the zero the port holds (R150). -/
def calWrong (s : State) (d : Fin 8) (cell gain step : Nat) (zero : Option (Nat × Nat × Int)) : Bool :=
  !s.convertedNow d cell gain || (decide (step = 2) && !zeroFor zero cell gain)

/-- What a zero step leaves of a held zero: that of the same cell and gain (R150). -/
def zeroKept (z : Option (Nat × Nat × Int)) (cell gain step : Nat) : Option (Nat × Nat × Int) :=
  if step ≠ 1 ∨ zeroFor z cell gain = true then z else none

/-- A calibration step begins to collect: by register, or through the meter head's port with its target code (R149, R151). -/
def calStart (s : State) (d : Fin 8) (cell gain step navg : Nat) (meter : Option Int) : State :=
  let t := s.devTime d
  let s := s.updAdc d (fun a =>
    let a := { a with coll := some { cell := cell, gain := gain, step := step, n := 2 ^ (navg + 8), sum := 0, count := 0,
                                     meter := meter, since := t } }
    if meter.isSome then { a with mcal := { zero := zeroKept a.mcal.zero cell gain step, status := 0, satAbort := false } }
    else { a with zero := zeroKept a.zero cell gain step })
  (s.wr d F.ADC_SYSCAL_STAT_BUSY 1).wr d F.ADC_SYSCAL_STAT_COUNT 0

/-- A step written by register (R149, R150): its status at GO, and the collection. The last step's SAT_ABORT falls. -/
def syscalGo (s : State) (d : Fin 8) (w : Word) : State :=
  let n := w.toNat
  let cell := bitsOf n 0 7
  let gain := bitsOf n 7 3
  let step := bitsOf n 10 2
  let navg := bitsOf n 12 4
  let s := ((((s.wr d F.ADC_SYSCAL_CELL cell).wr d F.ADC_SYSCAL_GAIN gain).wr d F.ADC_SYSCAL_STEP step).wr d
    F.ADC_SYSCAL_NAVG navg).wr d F.ADC_SYSCAL_STAT_SAT_ABORT 0
  let st := if (s.adc.get d).coll.isSome then 6
    else if s.calBad d cell gain step navg then 4
    else if s.isMeterCell d cell then 8
    else if s.calWrong d cell gain step (s.adc.get d).zero then 3
    else 0
  let s := if st = 0 then s.calStart d cell gain step navg none
    else s.updAdc d (fun a => { a with zero := zeroKept a.zero cell gain step })
  (s.wr d F.ADC_SYSCAL_STAT_STATUS st).zeroFlag d

/-- The collection ends with a status, at the port that began it (R150, R151). -/
def calEnd (s : State) (d : Fin 8) (st : Nat) : State :=
  match (s.adc.get d).coll with
  | none => s
  | some c =>
    let s := (s.updAdc d (fun a => { a with coll := none })).wr d F.ADC_SYSCAL_STAT_BUSY 0
    if c.meter.isSome then s.updAdc d (fun a => { a with mcal := { a.mcal with status := st } })
    else (s.wr d F.ADC_SYSCAL_STAT_STATUS st).zeroFlag d

/-- A collection whose cell no running entry converts any more at its gain ends with WRONG_STATE (R150). -/
def calGone (s : State) (d : Fin 8) : State :=
  match (s.adc.get d).coll with
  | none => s
  | some c => if s.convertedNow d c.cell c.gain then s else s.calEnd d 3

/-- rhu(a / b) for integers, b positive. -/
def rhuI (a : Int) (b : Nat) : Int := (2 * a + b) / (2 * b)

/-- A collection reaches N conversions (R149, R150): the held zero, or the new pair with M6 or Q3 updated. -/
def calComplete (s : State) (d : Fin 8) : State :=
  match (s.adc.get d).coll with
  | none => s
  | some c =>
    if c.count < c.n then s
    else
      let mean16 := rhuI c.sum c.n
      let m := c.meter.isSome
      if c.step = 1 then
        let z := some (c.cell, c.gain, mean16)
        (s.updAdc d (fun a => if m then { a with mcal := { a.mcal with zero := z } } else { a with zero := z })).calEnd d 0
      else
        let ofs := match (if m then (s.adc.get d).mcal.zero else (s.adc.get d).zero) with
          | some z => z.2.2
          | none => 0
        let d16 := mean16 - ofs
        let t : Int := c.meter.getD (sext 16 (s.rd d F.ADC_SYSCAL_TGT_TARGET))
        let gain := rhuI (t.natAbs * 2 ^ 20) d16.natAbs
        if d16.natAbs < 4096 ∨ decide (d16 < 0) ≠ decide (t < 0) ∨ 0x3FFFF < gain then s.calEnd d 4
        else
          let s := s.updAdc d (fun a => { a with newPair := some (c.cell, c.gain, ofs, gain.toNat),
                                                 m6 := putPair a.m6 (c.cell * 6 + c.gain) (ofs, gain.toNat) })
          s.calEnd d 0

/-- The new pair takes effect at a round boundary at device time `t` (R149). -/
def applyPair (s : State) (d : Fin 8) (t : Nat) : State :=
  match (s.adc.get d).newPair with
  | none => s
  | some p =>
    let old := s.coefOf d p.1 p.2.1 t
    s.updAdc d (fun a => { a with newPair := none, coef := putPair a.coef (p.1 * 6 + p.2.1) (p.2.2.1, p.2.2.2),
                                  oldPair := some (p.1 * 6 + p.2.1, old, t) })

/-! ## Rounds -/

/-- A round boundary's count of overlap or vote rounds; a commit that applied restarts the comparison (R158, R165). -/
def overlapRound (s : State) (d : Fin 8) (q : Fin 2) (committed : Bool) : State :=
  if s.beside d = some q then
    if committed then
      let n := s.rd d F.ADC_ROT_STAT_RESTARTS + 1
      let s := ((s.clearPairs d).wr d F.ADC_ROT_STAT_RESTARTS n).rotEvt d F.ADC_ROT_EVT_OVL_RESTART
      if 8 ≤ n then (s.updAdc d (fun a => { a with rotDue := false })).setPhase d 0 else s
    else s.wr d F.ADC_ROT_STAT_ROUNDS (min 64 (s.rd d F.ADC_ROT_STAT_ROUNDS + 1))
  else s

/-! ## Conversions lost with a lane (R163) -/

/-- A value given to the meter core: a port's voltage, current or Hall cell, or a site cell (R142, R341). -/
def meterFeed (s : State) (d : Fin 8) (cell gain : Nat) (x : Int) (t : Nat) : State :=
  if h : cell / 16 < 4 then
    let k : Fin 4 := ⟨cell / 16, h⟩
    let s := if cell = s.mapCell d k F.ADC_MTRMAP_V_CELL ∧ gain = s.rd d F.ADC_MTRMAP_V_GAIN k then
      s.meterVolt (portOf d k) x else s
    let s := if s.on d F.ADC_MTRMAP_H_EN k ∧ cell = s.mapCell d k F.ADC_MTRMAP_H_CELL ∧ gain = s.rd d F.ADC_MTRMAP_H_GAIN k then
      s.updPm (portOf d k) (fun m => { m with hall := some x }) else s
    if cell = s.mapCell d k F.ADC_MTRMAP_I_CELL ∧ gain = s.rd d F.ADC_MTRMAP_I_GAIN k then
      s.meterCurr (portOf d k) x t else s
  else if h : 64 ≤ cell ∧ cell < 72 then s.siteSample ⟨cell - 64, by omega⟩ x t
  else s

/-- Last value the meter path accepted of a cell; before the first a free value (log entry 114). -/
def meterLast (s : State) (d : Fin 8) (cell : Nat) : Int :=
  (((s.adc.get d).mtrLast.find? (fun e => e.1 == cell)).map (·.2.1)).getD (Config.meterNone d.val cell)

/-- The value last given for a cell kept, with its mark 'replaced' (R142). -/
def keepLast (s : State) (d : Fin 8) (cell : Nat) (x : Int) (replaced : Bool) : State :=
  s.updAdc d (fun a => { a with mtrLast := a.mtrLast.filter (fun e => e.1 != cell) ++ [(cell, x, replaced)] })

/-- Conversions of a round from slot `lo` to before `hi` lost with their lane: meter cells among them are given the last accepted
value, marked replaced. -/
def fillLost (s : State) (d : Fin 8) (q : Fin 2) (a : SeqSet) (lo hi : Nat) : State :=
  (((convSlots a).take hi).drop lo).foldl (fun s c =>
    if (s.meterCells d q).contains (c.cell, c.gain) && !entDiag (a.ents.getD c.entry 0) && s.cellExists d c.cell &&
        s.on d F.ADC_CELL_EN c.cell && !s.on d F.ADC_CELL_RETIRED c.cell then
      let x := s.meterLast d c.cell
      (s.keepLast d c.cell x true).meterFeed d c.cell c.gain x ((s.seqr d q).base + 40 * (c.start + c.ts))
    else s) s

/-- Conversion `i` of the round, sampled at `t`, is delivered by the holder: what a lost lane left open before it is filled. -/
def slotDone (s : State) (d : Fin 8) (q : Fin 2) (a : SeqSet) (i t : Nat) : State :=
  let s := if (s.seqr d q).lossy then s.fillLost d q a (s.seqr d q).slot i else s
  let off := ((convSlots a)[i]?).elim 0 (fun c => 40 * (c.start + c.ts))
  s.updSq d q (fun x => { x with atStart := false, lossy := false, slot := i + 1, base := t - off })

/-- A round ends: what a lost lane left open in it is filled, and the next begins one interval later. -/
def slotWrap (s : State) (d : Fin 8) (q : Fin 2) : State :=
  match (s.seqr d q).active with
  | none => s
  | some a =>
    let s := if (s.seqr d q).lossy then s.fillLost d q a (s.seqr d q).slot (convSlots a).length else s
    s.updSq d q (fun x => { x with slot := 0, base := x.base + 40 * roundStep a })

/-- The sequencer stands still: a pending set becomes active at once, a collection may lose its cell, and a vote its other position
(R137, R150, R162). -/
def sqHalt (s : State) (d : Fin 8) (q : Fin 2) : State :=
  let x := s.seqr d q
  let s := (s.updSq d q (fun x => { x with run := .stopped, pend := none, swap := false, atStart := false })).setRunBit d q false
  let s := match x.pend with
    | some a => (s.setActive d q a).wr d F.ADC_SQ_STAT_PENDING 0 q.val
    | none => s
  let s := s.calGone d
  if s.phase d = 4 ∧ s.target d ≠ q then (s.calLane d).elim s (fun k => s.newcomerSuspect d k) else s

/-- The marker of the round that starts: it is the first of a new holder. -/
def markRound (s : State) (d : Fin 8) (q : Fin 2) : State :=
  (s.updSq d q (fun x => { x with run := .running, swap := x.swapNext, swapNext := false, atStart := true })).wrapCnt d
    F.ADC_SQ_ROUND q.val

/-- A round starts, or the sequencer stops at the boundary (R135 to R137, R149, R159, R163, R165). -/
def roundStart (s : State) (d : Fin 8) (q : Fin 2) : State :=
  let x := s.seqr d q
  let laneOk := s.on d F.ADC_LANE_CAL_CORR_VALID (s.posLane d q)
  match x.run with
  | .stopped => s
  | .starting =>
    if x.active.isNone || !laneOk || x.unserved || x.wait then s
    else
      let t := s.devTime d
      let s := (s.updSq d q (fun x => { x with slot := 0, base := t })).setRunBit d q true
      (s.applyPair d t).markRound d q
  | .stopping =>
    let s := s.slotWrap d q
    let s := if x.relieve then s.relievePos d q else s
    (s.sqHalt d q).applyPair d (s.seqr d q).base
  | .running =>
    let s := s.slotWrap d q
    let s := match x.pend with
      | some a =>
        let s := (s.setActive d q a).updSq d q (fun x => { x with pend := none })
        ((s.wr d F.ADC_SQ_STAT_PENDING 0 q.val).acqSeqChg d q).calGone d
      | none => s
    let s := (s.overlapRound d q x.pend.isSome).applyPair d (s.seqr d q).base
    let s := if x.relieve then s.relievePos d q else s
    if (s.seqr d q).unserved then s
    else (if x.swap then s.coverageBack d q else s).markRound d q

/-- RUN cleared (R137, R165). -/
def sqStop (s : State) (d : Fin 8) (q : Fin 2) : State :=
  let x := s.seqr d q
  if (s.winPorts d q).all (fun k => s.inhDriven (portOf d k)) then
    let s := s.wr d F.ADC_SQ_CTRL_RUN 0 q.val
    match x.run with
    | .starting => s.updSq d q (fun x => { x with run := .stopped })
    | .running =>
      let s := s.updSq d q (fun x => { x with run := .stopping })
      if s.phase d = 3 ∧ s.target d = q then
        ((s.clearPairs d).updAdc d (fun a => { a with rotDue := false })).setPhase d 2 else s
    | _ => s
  else s.adcErr d F.ADC_ERR_STOP_REFUSED

end Sys2Proof.Machine.State
end

