-- ==== Sys2Proof/Machine/Adc.lean ====
section
/-!
DEFINITION. The commands of the measurement front end and of calibration while charging (R129 to R165).
-/

namespace Sys2Proof.Machine

namespace State

/-! ## Results -/

/-- A word written into a ring of host SRAM (R141): base, size, position and wraps are register fields. -/
def ringPut (s : State) (d : Fin 8) (base size wptr wrap : Fld) (i : Nat) (w : Word) : State :=
  let sz := s.rd d size i
  if sz = 0 then s
  else
    let len := 1024 * 2 ^ (sz - 1)
    let p := s.rd d wptr i
    let s := s.bufPut d (s.rd d base i + p) (leBytes 4 w.toNat)
    let s := s.wr d wptr ((p + 4) % len) i
    if (p + 4) % len = 0 then s.wrapCnt d wrap i else s

/-- A fast trip reaches the port: its INH pin and its halt (R37, R39, R260); both assert trigger sources 8 and 9 (R331). -/
def hwTrip (s : State) (d : Fin 8) (k : Fin 4) (t : Nat) : State :=
  let inh := s.inhDriven (portOf d k)
  let hlt := s.on d F.STL_P_HALT_HALTED k
  let s := (s.putInh (portOf d k) Inh.trip true).haltSet d k 2
  let s := if inh then s else s.acqEvent d 8 k.val t
  if hlt then s else s.acqEvent d 9 k.val t

/-- A value compared with the window its entry selects (R143). -/
def winCheck (s : State) (d : Fin 8) (cell w : Nat) (v : Int) (t : Nat) : State :=
  if h : cell / 16 < 4 then
    if s.winOn d cell w && (decide (v < s.rdI d F.ADC_TW_LOW cell w) || decide (s.rdI d F.ADC_TW_HIGH cell w < v)) then
      let old := s.bit d F.ADC_TRIP (cell % 32) (cell / 32)
      let s := (s.setBit d F.ADC_TRIP (cell % 32) (cell / 32)).hwTrip d ⟨cell / 16, h⟩ t
      if old then s else s.acqEvent d 6 cell t
    else s
  else s

/-- The value the meter path takes: the first conversion within 1 µs after a diagnostic one is replaced (R142). -/
def meterValue (s : State) (d : Fin 8) (cell : Nat) (v : Int) (start : Nat) : Int × State :=
  let de := ((s.adc.get d).diagEnd.find? (fun e => e.1 == cell)).bind (·.2)
  let repl := match de with
    | some e => decide (e ≤ start) && decide (start - e ≤ 1000)
    | none => false
  let x := if repl then s.meterLast d cell else v
  (x, (s.updAdc d (fun a => { a with diagEnd := a.diagEnd.filter (fun e => e.1 != cell) })).keepLast d cell x repl)

/-- A conversion offered to the meter path (R142, R341): voltage, current and Hall cell of a port, or a site cell. -/
def meterPath (s : State) (d : Fin 8) (q : Fin 2) (cell gain : Nat) (v : Int) (t ts : Nat) : State :=
  if !(s.meterCells d q).contains (cell, gain) then s
  else
    let r := s.meterValue d cell v (t - 40 * ts)
    r.2.meterFeed d cell gain r.1 t

/-- A conversion offered to the calibration collection: its sample edge at or after the write of GO (R149, R150). -/
def calSample (s : State) (d : Fin 8) (cell gain : Nat) (r : Int) (rail : Bool) (t : Nat) : State :=
  match (s.adc.get d).coll with
  | none => s
  | some c =>
    if c.cell ≠ cell ∨ c.gain ≠ gain ∨ t < c.since ∨ (s.beside d).isSome ∨ c.n ≤ c.count then s
    else if rail then
      (if c.meter.isSome then s.updAdc d (fun a => { a with mcal := { a.mcal with satAbort := true } })
        else s.wr d F.ADC_SYSCAL_STAT_SAT_ABORT 1).calEnd d 4
    else
      (s.updAdc d (fun a => { a with coll := some { c with sum := c.sum + r, count := c.count + 1 } })).wr d
        F.ADC_SYSCAL_STAT_COUNT (c.count + 1)

/-- A shunt result of a port, summed for the mean current of C5's activation (R263, R271). -/
def shuntSum (s : State) (d : Fin 8) (cell : Nat) (v : Int) : State :=
  if cell < 64 ∧ cell % 16 = 2 then
    let k : Fin 4 := ⟨cell / 16 % 4, Nat.mod_lt _ (by decide)⟩
    { s with cool := upd s.cool d (fun c => { c with port := upd c.port k (fun p => { p with iSum := p.iSum + v, iN := p.iN + 1 }) }) }
  else s

/-- A conversion started while REF_READY was 1 (R138, R147, R148). -/
def refAt (s : State) (d : Fin 8) (start : Nat) : Bool :=
  let a := s.adc.get d
  decide (a.refUp ≤ start) && (a.refOk || decide (start < a.refDown))

/-- A cell that yields results: it exists, is enabled and is not retired (R134). -/
def cellLive (s : State) (d : Fin 8) (cell : Nat) : Bool :=
  s.cellExists d cell && s.on d F.ADC_CELL_EN cell && !s.on d F.ADC_CELL_RETIRED cell

/-- The end of an entry with TRIG: contexts that wait for it and contexts that select it (R133, R168, R211). -/
def entryDone (s : State) (d : Fin 8) (q : Fin 2) (entry : Nat) : State :=
  (s.waitEvent d 4 (16 * q.val + entry)).trigAll d 1 (fun n =>
    s.rd d F.OXE_CTX_TRIG_SQ n == q.val && s.rd d F.OXE_CTX_TRIG_ENTRY n == entry)

/-- A conversion as it is judged: its entry's word and gain, the lane-corrected code in sixteenths, the calibrated value, SAT, and
whether it started with REF_READY. -/
structure ConvResult where
  ent : Word
  gain : Nat
  r : Int
  v : Int
  sat : Bool
  ok : Bool
  deriving DecidableEq, Repr

/-- The corrections of the lane and the system calibration applied to a code (R149, R152). -/
def convResult (s : State) (d : Fin 8) (a : SeqSet) (entry cell : Nat) (corr : Option CorrSet) (code : Int) (rail : Bool)
    (t : Nat) : ConvResult :=
  let e := a.ents.getD entry 0
  let gain := entGain e a.gains cell
  let r := Config.laneCorr corr gain code
  let p := s.coefOf d cell gain t
  let y := rhuI ((r - p.1) * p.2) (2 ^ 20)
  let v := clampI (-32768) 32767 y
  { ent := e, gain := gain, r := r, v := v, sat := rail || decide (v ≠ y), ok := s.refAt d (t - 40 * entTs e) }

/-- A result of the newcomer: trip windows and comparison only (R157, R158). -/
def newcomerResult (s : State) (d : Fin 8) (entry cell : Nat) (c : ConvResult) (t : Nat) : State :=
  let s := if !entDiag c.ent && c.ok then s.winCheck d cell (entWin c.ent) c.v t else s
  s.compareResult d true entry cell c.gain t c.r (!c.sat && c.ok)

/-- A result of a position's holder: every destination of R140. -/
def holderResult (s : State) (d : Fin 8) (q : Fin 2) (a : SeqSet) (entry cell : Nat) (c : ConvResult) (rail : Bool) (t : Nat) :
    State :=
  let e := c.ent
  let diag := entDiag e
  let s := (((convSlots a).findIdx? (fun x => x.entry == entry && x.cell == cell))).elim s (fun i => s.slotDone d q a i t)
  let ow := diag && bitsOf e.toNat 18 2 != 0 && s.holdsClaim
  let w : Word := BitVec.ofNat 32 (uns 16 c.v + cell * 2 ^ 16 + entry * 2 ^ 23 + (if c.ok then s.posLane d q else 3) * 2 ^ 27 +
    b2n c.sat * 2 ^ 29 + b2n ow * 2 ^ 30 + b2n (s.seqr d q).swap * 2 ^ 31)
  let trig := bitOf e.toNat 25 && ((entryCells e a.scans).filter (s.cellLive d)).getLast? == some cell
  let s := (s.setWord (fldAddr d F.ADC_LAST cell 0) w).updOxe d (fun o =>
    { o with fresh := o.fresh ||| BitVec.ofNat 72 (2 ^ cell), sample := o.sample.setIfInBounds cell w })
  let s := if c.ok then s.shuntSum d cell c.v else s
  let s := s.acqResult d q entry w t trig
  let s := if !diag && c.ok then s.winCheck d cell (entWin e) c.v t else s
  let s := if bitOf e.toNat 24 then
    s.ringPut d F.ADC_RING_BASE F.ADC_RING_SIZE_SIZE F.ADC_RING_WPTR_WPTR F.ADC_RING_WRAP_WRAP (4 * q.val + bitsOf e.toNat 22 2) w
    else s
  let s := if diag then s.updAdc d (fun x => { x with diagEnd := x.diagEnd.filter (fun y => y.1 != cell) ++ [(cell, some t)] })
    else if c.ok then (s.meterPath d q cell c.gain c.v t (entTs e)).calSample d cell c.gain c.r rail t
    else s
  let s := if s.beside d = some q then s.compareResult d false entry cell c.gain t c.r (!c.sat && c.ok) else s
  if trig then s.entryDone d q entry else s

/-- A conversion of an in-service position or of the newcomer (R134, R138 to R143, R146, R152). `code` is what the lane produced,
`t` the device time of the sample edge. -/
def conversion (s : State) (d : Fin 8) (q : Fin 2) (entry : Fin 16) (cell : Fin 72) (code : Int) (rail newcomer : Bool)
    (t : Nat) : State :=
  match (s.seqr d q).active with
  | none => s
  | some a =>
    let cells := entryCells (a.ents.getD entry.val 0) a.scans
    if !s.sqRuns d q || (s.seqr d q).unserved || decide (a.ents.length ≤ entry.val) || !cells.contains cell.val ||
        !s.cellLive d cell.val then s
    else if newcomer then
      match s.calLane d with
      | none => s
      | some k =>
        if s.beside d = some q then
          s.newcomerResult d entry.val cell.val (s.convResult d a entry.val cell.val (s.laneSet d k) code rail t) t
        else s
    else
      let k := s.posLane d q
      let corr := if h : k < 3 then (s.laneOf d ⟨k, h⟩).working else none
      s.holderResult d q a entry.val cell.val (s.convResult d a entry.val cell.val corr code rail t) rail t

/-! ## Block reset, references, comparators -/

/-- INH's trip cause follows the latched bits of each port (R37, R39). -/
def tripInh (s : State) (d : Fin 8) : State := s.onPorts (fun s k => s.setInh (portOf d k) Inh.trip (s.tripLatched d k))

/-- A reset of the ADC block (R137, R155, R165): the ports' INH, the safety core's trip stops, every DIE and BLK register,
the sequencers, and all lanes self-calibrating anew, with what M6 holds as coefficients (R149). INH follows what is still latched. -/
def adcReset (s : State) (d : Fin 8) : State :=
  let s := s.setInhDie d Inh.adcReset true
  let s := s.onPorts (fun s k => if 3 ≤ s.psState d k ∧ s.psState d k ≤ 6 then s.tripStop d k 12 else s)
  let s := s.resetRegs (dieOrBlk (regAddr d 0x040000) 0x10000)
  let old := s.adc.get d
  let s := { s with adc := upd s.adc d (fun _ => { Adc.init with coef := old.m6, m6 := old.m6 }) }
  (s.placeLanes d |>.tripInh d).setInhDie d Inh.adcReset false

/-- REF_READY no longer holds: conversions started from now on carry LANE = 0b11 (R138, R148). -/
def refDrop (s : State) (d : Fin 8) : State :=
  let t := s.devTime d
  s.updAdc d (fun a => if a.refOk then { a with refOk := false, refDown := t } else a)

/-- ADC_REF.SEL written (R148). -/
def refSelect (s : State) (d : Fin 8) (sel : Nat) : State :=
  if s.on d F.ADC_CTRL_LOCK then s
  else if (s.seqr d 0).run ≠ .stopped ∨ (s.seqr d 1).run ≠ .stopped then s.adcErr d F.ADC_ERR_CFG_BUSY
  else if 2 ≤ sel ∨ sel = s.rd d F.ADC_REF_SEL then s
  else
    let s := ((s.wr d F.ADC_REF_SEL sel).wr d F.ADC_REF_REF_READY 0).wr d F.ADC_REF_EXT_FAULT 0
    (s.refDrop d).abortRotation d

/-- REF_READY rises (R138, R147, R165). -/
def refReady (s : State) (d : Fin 8) : State :=
  let t := s.devTime d
  let s := ((s.wr d F.ADC_REF_REF_READY 1).wr d F.ADC_REF_VSUP_OK 1).updAdc d (fun a =>
    if a.refOk then a else { a with refOk := true, refUp := t })
  s.calRestart d

/-- REF_READY falls (R148, R165, R406). -/
def refLost (s : State) (d : Fin 8) : State :=
  let runs := s.sqRuns d 0 || s.sqRuns d 1
  let s := (s.wr d F.ADC_REF_REF_READY 0).refDrop d
  let s := s.abortRotation d
  if runs then (s.adcErr d F.ADC_ERR_REF_LOST).coverageLost d [0, 1, 2, 3] else s

/-- An active sequence converts a cell within 2 µs with the given window selected (R144). -/
def winCovered (s : State) (d : Fin 8) (cell w : Nat) : Bool :=
  (List.finRange 2).any (fun q =>
    match (s.seqr d q).active with
    | none => false
    | some a =>
      let l := (convSlots a).filter (fun c =>
        c.cell == cell && !entDiag (a.ents.getD c.entry 0) && entWin (a.ents.getD c.entry 0) == w)
      !l.isEmpty && decide (maxGap l (roundStep a) ≤ 50))

/-- A SAFE write of a window enable word (R144): bits cleared always apply; when a newly set bit is not covered no bit is
set. -/
def winEnable (s : State) (d : Fin 8) (w : Nat) (hi : Bool) (v : Nat) : State :=
  let i := b2n hi
  let old := s.rd d F.ADC_TWEN w i
  let bad := (List.range 32).any (fun b => bitOf v b && !bitOf old b && !s.winCovered d (32 * i + b) w)
  if bad then (s.wr d F.ADC_TWEN (old &&& v) w i).adcErr d F.ADC_ERR_TW_UNCOVERED else s.wr d F.ADC_TWEN v w i

/-- A comparator's output trips (R39, R145). -/
def compTrip (s : State) (d k : Fin 8) : State :=
  if s.on d F.ADC_TC_EN k then
    let old := s.bit d F.ADC_TC_STAT_TRIP k
    let t := s.devTime d
    let s := (s.setBit d F.ADC_TC_STAT_LEVEL k).setBit d F.ADC_TC_STAT_TRIP k
    let s := s.hwTrip d ⟨k.val / 2, by omega⟩ t
    if old then s else s.acqEvent d 7 k.val t
  else s

/-- Latched trip bits cleared; a comparator whose output still trips latches again (R145). -/
def latchClear (s : State) (d : Fin 8) (r : TripReg) (mask : Nat) : State :=
  let s := match r with
    | .lo => s.wr d F.ADC_TRIP (s.rd d F.ADC_TRIP 0 &&& (0xFFFFFFFF - mask % 2 ^ 32)) 0
    | .hi => s.wr d F.ADC_TRIP (s.rd d F.ADC_TRIP 1 &&& (0xFFFFFFFF - mask % 2 ^ 32)) 1
    | .comparators =>
      s.wr d F.ADC_TC_STAT_TRIP ((s.rd d F.ADC_TC_STAT_TRIP &&& (0xFF - mask % 256)) ||| s.rd d F.ADC_TC_STAT_LEVEL)
  s.tripInh d

/-- A cell's common-mode fault (R471): CM_ERR, ADC_ERR, and a counted cell fault. -/
def cellCm (s : State) (d : Fin 8) (c : Nat) : State :=
  let s := if s.on d F.ADC_ERR_CELL_CM then s else s.wr d F.ADC_ERR_CELL c
  ((s.wr d F.ADC_CELL_CM_ERR 1 c).adcErr d F.ADC_ERR_CELL_CM).fault d 1 0x04 c 0x1001 [c]

/-! ## Self-calibration and rotation -/

/-- The calibration lane starts self-calibration, deferred or not, while REF_READY is 1 (R153, R156, R165). -/
def selfcalStart (s : State) (d : Fin 8) : State :=
  match s.calLane d with
  | some k =>
    if s.phase d = 0 ∨ s.phase d = 2 ∨ s.phase d = 6 then
      let s := if (s.adc.get d).refOk then s.laneCal d k else s
      if s.phase d = 6 then s else s.setPhase d 1
    else s
  | none => s

/-- The limits of R154: offsets in sixteenths of a code, gains in ppm, residuals of the fit in codes. -/
def corrPasses (c : CorrSet) : Bool :=
  c.ofs.all (fun x => decide (x.natAbs ≤ 4096)) && c.gainPpm.all (fun x => decide (x.natAbs ≤ 20000)) &&
    c.residual.all (fun x => decide (x.natAbs ≤ 4))

/-- Longest-serving position, of the two lanes in service (R156). -/
def longest (s : State) (d : Fin 8) : Fin 2 :=
  let since (q : Fin 2) : Nat :=
    let k := s.posLane d q
    if h : k < 3 then (s.adc.get d).served.get ⟨k, h⟩ else 0
  if since 0 ≤ since 1 then 0 else 1

/-- With neither position running, a due rotation exchanges the calibration lane and the longest-serving lane at once, without overlap
and without marker, once the calibration lane holds a set (R156). -/
def quietExchange (s : State) (d : Fin 8) : State :=
  match s.calLane d with
  | none => s
  | some k =>
    if (s.adc.get d).rotDue && !s.sqRuns d 0 && !s.sqRuns d 1 && (s.laneSet d k).isSome && !(s.laneOf d k).calBusy then
      let q := s.longest d
      ((s.swapLanes d q k).updSq d q (fun x => { x with swap := false, swapNext := false })).setPhase d 0
    else s

/-- The calibration lane is ready: phase 2, or phase 6 while a collection defers the rotation that is due (R156, R165). -/
def calReady (s : State) (d : Fin 8) : State :=
  if (s.adc.get d).rotDue && (s.adc.get d).coll.isSome then (s.setPhase d 6).wr d F.ADC_ROT_STAT_DEFER_SYSCAL 1
  else (s.setPhase d 2).quietExchange d

/-- A self-calibration ends (R152 to R155). A lane in service without a working set takes the passed set at once. A pass clears
SUSPECT, unless a disagreement set it, which a passed overlap must clear (R162). -/
def selfcalDone (s : State) (d : Fin 8) (k : Fin 3) (c : CorrSet) : State :=
  if !(s.laneOf d k).calBusy || s.on d F.ADC_LANE_CAL_RETIRED k || !(s.adc.get d).refOk then s
  else if corrPasses c then
    let serving := s.posLane d 0 == k.val || s.posLane d 1 == k.val
    let s := s.updLane d k (fun l =>
      if serving ∧ l.working.isNone then { l with working := some c, calBusy := false, workAt := s.now }
      else { l with fresh := some c, calBusy := false, freshAt := s.now })
    let s := s.wr d F.ADC_LANE_CAL_CORR_VALID 1 k.val
    let s := if (s.laneOf d k).doubt then s else s.wr d F.ADC_LANE_CAL_SUSPECT 0 k.val
    if s.calLane d = some k ∧ s.phase d = 1 then s.calReady d else s
  else
    ((s.wr d F.ADC_LANE_CAL_SUSPECT 1 k.val).rotEvt d F.ADC_ROT_EVT_SELFCAL_FAIL).laneFault d k 0x2001 [k.val]

/-- The target of a rotation: the running position whose lane has served longest (R156). -/
def pickTarget (s : State) (d : Fin 8) : Option (Fin 2) :=
  match s.sqRuns d 0, s.sqRuns d 1 with
  | true, true => some (s.longest d)
  | true, false => some 0
  | false, true => some 1
  | false, false => none

/-- A rotation falls due (R156, R165): its target is picked, and a collection defers it. -/
def rotationDue (s : State) (d : Fin 8) : State :=
  match s.calLane d with
  | none => s
  | some k =>
    let p := s.phase d
    if !s.on d F.ADC_ROT_CFG_ROT_EN || p == 3 || p == 4 || p == 7 || p == 6 then s
    else
      let s := s.updAdc d (fun a => { a with rotDue := true })
      let s := (s.wr d F.ADC_ROT_STAT_NEWCOMER k.val).wr d F.ADC_ROT_STAT_RESTARTS 0
      match s.pickTarget d with
      | none => s.quietExchange d
      | some q =>
        let s := s.wr d F.ADC_ROT_STAT_TARGET q.val
        if (s.adc.get d).coll.isSome && p != 5 then (s.setPhase d 6).wr d F.ADC_ROT_STAT_DEFER_SYSCAL 1 else s

/-- The overlap of the due rotation begins at the target's round boundary, with a freshly calibrated lane and no collection under way
(R157, R165). -/
def overlapStart (s : State) (d : Fin 8) : State :=
  match s.calLane d with
  | none => s
  | some k =>
    let p := s.phase d
    if (p == 2 || p == 6) && (s.adc.get d).rotDue && (s.laneOf d k).fresh.isSome && !(s.laneOf d k).calBusy &&
        (s.adc.get d).coll.isNone && s.sqRuns d (s.target d) then
      ((s.setPhase d 3).wr d F.ADC_ROT_STAT_DEFER_SYSCAL 0).clearPairs d
    else s

/-- After 64 rounds the overlap is judged (R158, R159, R162). -/
def overlapEnd (s : State) (d : Fin 8) : State :=
  match s.calLane d with
  | none => s
  | some k =>
    if s.phase d ≠ 3 ∨ s.rd d F.ADC_ROT_STAT_ROUNDS ≠ 64 then s
    else
      let q := s.target d
      if s.pairsShort d then
        let s := ((s.rotLast d false).rotEvt d F.ADC_ROT_EVT_INCONCL).clearPairs d
        (s.updAdc d (fun a => { a with rotDue := false })).setPhase d 0
      else if s.pairsAgree d then
        let s := ((s.rotLast d true).wrapCnt d F.ADC_ROT_CNT_SWAPS).rotEvt d F.ADC_ROT_EVT_SWAP
        let s := (((s.swapLanes d q k).countSwap d).clearPairs d).wr d F.ADC_LANE_CAL_SUSPECT 0 k.val
        let s := s.updLane d k (fun l => { l with doubt := false })
        match s.calLane d with
        | some o => (s.laneCal d o).setPhase d 5
        | none => s
      else
        let s := ((s.rotLast d false).satCnt d F.ADC_ROT_CNT_REFUSED).rotEvt d F.ADC_ROT_EVT_REFUSED
        if s.sqRuns d (1 - q) && !(s.seqr d (1 - q)).unserved then (s.clearPairs d).setPhase d 4
        else s.newcomerSuspect d k

/-- After 64 rounds beside the other position, the vote names the suspect (R162). -/
def voteEnd (s : State) (d : Fin 8) : State :=
  match s.calLane d with
  | none => s
  | some k =>
    if s.phase d ≠ 4 ∨ s.rd d F.ADC_ROT_STAT_ROUNDS ≠ 64 ∨ s.on d F.ADC_ROT_LAST_AGREE then s
    else if !s.pairsShort d && s.pairsAgree d then s.rotLast d true
    else (s.rotLast d false).newcomerSuspect d k

/-- Entries and open records that overlap a period of service marked SUSPECT (R349). -/
def markSuspect (s : State) (d : Fin 8) (since : Nat) : State :=
  let from_ : Int := s.utcMs - Int.ofNat ((s.now - since) / 1000000)
  let f (e : ProfEntry) : ProfEntry := if from_ ≤ e.endUtc * 1000 then { e with status := e.status ||| 64 } else e
  let s := s.updMeter (fun m => { m with p1 := { m.p1 with entries := m.p1.entries.map f },
                                         p2 := { m.p2 with entries := m.p2.entries.map f } })
  s.onPorts (fun s k => s.markPort (portOf d k) 64)

/-- The newcomer replaces a holder found suspect (R162, R349). -/
def judgedSwap (s : State) (d : Fin 8) : State :=
  match s.calLane d with
  | none => s
  | some k =>
    if s.phase d = 4 ∧ s.rd d F.ADC_ROT_STAT_ROUNDS = 64 ∧ s.on d F.ADC_ROT_LAST_AGREE then
      let q := s.target d
      let s := (s.satCnt d F.ADC_ROT_CNT_FORCED).rotEvt d F.ADC_ROT_EVT_JUDGED
      let old := s.posLane d q
      let s := ((s.swapLanes d q k).countSwap d).clearPairs d
      if h : old < 3 then
        let since := (s.adc.get d).served.get ⟨old, h⟩
        let s := (s.suspectLane d ⟨old, h⟩).setPhase d 1
        let s := (s.meterLog 0x09 0xFF [d.val, old, Int.ofNat ((s.now - since) / 1000000)]).markSuspect d since
        s.laneFault d ⟨old, h⟩ 0x2002 [old, s.rd d F.ADC_ROT_LAST_PEAK]
      else s
    else s

/-- The exit check ends: its result against the working set the lane served with, at gain 1 (R161; log entry 115). -/
def exitCheck (s : State) (d : Fin 8) (ofs gainPpm : List Int) : State :=
  match s.calLane d with
  | none => s
  | some k =>
    if s.phase d ≠ 5 ∨ !(s.laneOf d k).calBusy then s
    else
      let w := (s.laneOf d k).working
      let dOfs := ofs.getD 0 0 - (w.map (·.ofs.getD 0 0)).getD 0
      let dGain := gainPpm.getD 0 0 - (w.map (·.gainPpm.getD 0 0)).getD 0
      let s := (s.wrI d F.ADC_LANE_DRIFT_OFS_DRIFT (clampI (-32768) 32767 dOfs) k.val).wrI d F.ADC_LANE_DRIFT_GAIN_DRIFT
        (clampI (-32768) 32767 dGain) k.val
      let s := (s.updLane d k (fun l => { l with fresh := none, calBusy := false })).setPhase d 0
      if s.rd d F.ADC_ROT_LIM_LIM_MEAN < dOfs.natAbs ∨ 500 < dGain.natAbs then
        (s.rotEvt d F.ADC_ROT_EVT_DRIFT).meterLog 0x08 0xFF [d.val, k.val, dOfs]
      else s

/-- An in-service lane is lost (R163, R349). -/
def laneLost (s : State) (d : Fin 8) (k : Fin 3) : State :=
  if (s.posLane d 0 = k.val ∨ s.posLane d 1 = k.val) ∧ !s.on d F.ADC_LANE_CAL_RETIRED k ∧ s.calLane d ≠ some k then
    let q := if s.posLane d 0 = k.val then 0 else 1
    let s := s.log d 0x2003 2 0x04 k.val 1 [k.val, q]
    let s := s.errRegs d 2 0x04 0x2003 1 true
    let s := (s.retireElem d 2 0x04 k.val 0x2003 1 false 0x2003).fcnt d 2 1
    (s.rotEvt d F.ADC_ROT_EVT_EMERGENCY).laneOut d k true
  else s

/-- The calibration lane takes an unserved position after its pass (R163). -/
def takeUnserved (s : State) (d : Fin 8) : State :=
  match s.calLane d with
  | none => s
  | some k =>
    let q : Fin 2 := if (s.seqr d 0).unserved then 0 else 1
    if (s.seqr d q).unserved && (s.laneOf d k).fresh.isSome && !(s.laneOf d k).calBusy then s.relievePos d q else s

end State

/-! ## The commands -/

/-- CONVERSION_RESULT (R140). -/
def execConversionResult (d : Die) (q : SqId) (entry : Fin 16) (cell : Fin 72) (code : Int) (rail newcomer : Bool) (t : Nat)
    (s : State) : Host.Outcome State Fault Refusal := .next (s.conversion d q entry cell code rail newcomer t)

/-- SEQUENCER_ROUND_START (R135). -/
def execSequencerRoundStart (d : Die) (q : SqId) (s : State) : Host.Outcome State Fault Refusal := .next (s.roundStart d q)

/-- SEQUENCE_COMMIT (R136). -/
def execSequenceCommit (d : Die) (q : SqId) (s : State) : Host.Outcome State Fault Refusal := .next (s.seqCommit d q)

/-- COMMIT_CHECK_DONE (R136). -/
def execCommitCheckDone (d : Die) (q : SqId) (s : State) : Host.Outcome State Fault Refusal := .next (s.commitDone d q)

/-- SEQUENCER_RUN (R135). -/
def execSequencerRun (d : Die) (q : SqId) (s : State) : Host.Outcome State Fault Refusal := .next (s.sqRun d q)

/-- SEQUENCER_STOP (R137). -/
def execSequencerStop (d : Die) (q : SqId) (s : State) : Host.Outcome State Fault Refusal := .next (s.sqStop d q)

/-- ADC_SOFT_RESET (R137). -/
def execAdcSoftReset (d : Die) (s : State) : Host.Outcome State Fault Refusal := .next (s.adcReset d)

/-- REF_SELECT (R148). -/
def execRefSelect (d : Die) (sel : Fin 4) (s : State) : Host.Outcome State Fault Refusal := .next (s.refSelect d sel.val)

/-- REF_READY_RISE (R147). -/
def execRefReadyRise (d : Die) (s : State) : Host.Outcome State Fault Refusal := .next (s.refReady d)

/-- REF_LOST (R148). -/
def execRefLost (d : Die) (s : State) : Host.Outcome State Fault Refusal := .next (s.refLost d)

/-- REFIN_TIMEOUT (R147). -/
def execRefinTimeout (d : Die) (s : State) : Host.Outcome State Fault Refusal :=
  .next (if s.rd d F.ADC_REF_SEL = 1 ∧ !(s.adc.get d).refOk then (s.wr d F.ADC_REF_EXT_FAULT 1).wr d F.ADC_REF_REF_READY 0 else s)

/-- TRIP_WINDOW_ENABLE (R144). -/
def execTripWindowEnable (d : Die) (win : WinSel) (hiWord : Bool) (value : Word) (s : State) :
    Host.Outcome State Fault Refusal :=
  .next (s.winEnable d (match win with | .a => 0 | .b => 1) hiWord value.toNat)

/-- COMPARATOR_TRIP (R145). -/
def execComparatorTrip (d : Die) (k : Fin 8) (s : State) : Host.Outcome State Fault Refusal := .next (s.compTrip d k)

/-- COMPARATOR_RELEASE (R145). -/
def execComparatorRelease (d : Die) (k : Fin 8) (s : State) : Host.Outcome State Fault Refusal :=
  .next (s.clrBit d F.ADC_TC_STAT_LEVEL k)

/-- TRIP_LATCH_CLEAR (R145). -/
def execTripLatchClear (d : Die) (reg : TripReg) (mask : Word) (s : State) : Host.Outcome State Fault Refusal :=
  .next (s.latchClear d reg mask.toNat)

/-- CELL_CM_FAULT (R471). -/
def execCellCmFault (d : Die) (cell : Fin 72) (s : State) : Host.Outcome State Fault Refusal :=
  .next (if s.cellExists d cell.val then s.cellCm d cell.val else s)

/-- SYSCAL_ZERO_STEP (R149). -/
def execSyscalZeroStep (d : Die) (value : Word) (s : State) : Host.Outcome State Fault Refusal :=
  .next (s.syscalGo d value)

/-- SYSCAL_FULL_STEP (R149). -/
def execSyscalFullStep (d : Die) (value : Word) (s : State) : Host.Outcome State Fault Refusal :=
  .next (s.syscalGo d value)

/-- SYSCAL_COMPLETE (R150). -/
def execSyscalComplete (d : Die) (s : State) : Host.Outcome State Fault Refusal := .next (s.calComplete d)

/-- SYSCAL_TIMEOUT (R150). -/
def execSyscalTimeout (d : Die) (s : State) : Host.Outcome State Fault Refusal :=
  .next (if (s.beside d).isNone then s.calEnd d 3 else s)

/-- SELFCAL_START (R156). -/
def execSelfcalStart (d : Die) (s : State) : Host.Outcome State Fault Refusal := .next (s.selfcalStart d)

/-- SELFCAL_DONE (R154). -/
def execSelfcalDone (d : Die) (lane : Lane) (result : CorrSet) (s : State) : Host.Outcome State Fault Refusal :=
  .next (s.selfcalDone d lane result)

/-- ROTATION_DUE (R156). -/
def execRotationDue (d : Die) (s : State) : Host.Outcome State Fault Refusal := .next (s.rotationDue d)

/-- NOW (R156): a rotation as if due, ignored while one runs; the self-calibration that goes before the overlap starts with it. -/
def execNow (d : Die) (s : State) : Host.Outcome State Fault Refusal :=
  .next (if s.phase d = 3 ∨ s.phase d = 4 ∨ s.phase d = 5 ∨ s.phase d = 6 then s
    else if s.phase d = 0 then (s.selfcalStart d).rotationDue d
    else s.rotationDue d)

/-- OVERLAP_START (R157). -/
def execOverlapStart (d : Die) (s : State) : Host.Outcome State Fault Refusal := .next (s.overlapStart d)

/-- OVERLAP_END (R158). -/
def execOverlapEnd (d : Die) (s : State) : Host.Outcome State Fault Refusal := .next (s.overlapEnd d)

/-- VOTE_END (R162). -/
def execVoteEnd (d : Die) (s : State) : Host.Outcome State Fault Refusal := .next (s.voteEnd d)

/-- JUDGED_SWAP (R162). -/
def execJudgedSwap (d : Die) (s : State) : Host.Outcome State Fault Refusal := .next (s.judgedSwap d)

/-- EXIT_CHECK_DONE (R161). -/
def execExitCheckDone (d : Die) (ofs gainPpm : List Int) (s : State) : Host.Outcome State Fault Refusal :=
  .next (s.exitCheck d ofs gainPpm)

/-- LANE_LOST (R163). -/
def execLaneLost (d : Die) (lane : Lane) (s : State) : Host.Outcome State Fault Refusal := .next (s.laneLost d lane)

/-- UNSERVED_POSITION_TAKEOVER (R163). -/
def execUnservedPositionTakeover (d : Die) (s : State) : Host.Outcome State Fault Refusal := .next (s.takeUnserved d)

end Sys2Proof.Machine
end

