-- ==== Sys2Proof/Machine/Olc.lean ====
section
/-!
DEFINITION. The instructions of Oryx loop code. Each runs the word at the running context's program counter, where that
word is the instruction and is legal (R191, R201 to R212; log entry 13).
-/

namespace Sys2Proof.Machine

/-- The next program address and call stack after the instruction at `pc`, the end-address test of R209 and R210: only
loop entries above the newest call entry are active. -/
def endTest : List StackEntry → Nat → List StackEntry × Nat
  | .loop f l n :: t, pc =>
    if pc = l then (if 1 < n then (.loop f l (n - 1) :: t, f) else endTest t pc) else (.loop f l n :: t, pc + 1)
  | .call r :: t, pc => (.call r :: t, pc + 1)
  | [], pc => ([], pc + 1)

/-- The call stack after a branch to `tgt`: every active loop whose body the target leaves is ended (R209). -/
def branchStack : List StackEntry → Nat → List StackEntry
  | .loop f l n :: t, tgt => if f ≤ tgt ∧ tgt ≤ l then .loop f l n :: t else branchStack t tgt
  | .call r :: t, _ => .call r :: t
  | [], _ => []

/-- RET: the loop entries above the newest call entry are popped, then that entry (R210). -/
def retStack : List StackEntry → Option (List StackEntry × Nat)
  | .loop _ _ _ :: t => retStack t
  | .call r :: t => some (t, r)
  | [] => none

namespace State

/-- The running context and its word, where the word has opcode `op`, is legal, and the budget holds (R171, R191). -/
def olcReady (s : State) (d : Fin 8) (op : Nat) : Option (Fin 8 × Word) :=
  match s.running d with
  | none => none
  | some n =>
    match s.olcFetch d (s.ctx d n).pc with
    | none => none
    | some w =>
      if olcOp w = op ∧ s.olcLegal d w = true ∧ (s.ctx d n).cyc ≤ s.rd d F.OXE_CTX_CFG_BUDGET n then some (n, w) else none

/-- The instruction has finished in `cyc` cycles; the next one follows (R192, R209). -/
def olcNext (s : State) (d n : Fin 8) (cyc : Nat) : State :=
  s.updCtx d n (fun c =>
    let r := endTest c.stack c.pc
    { c with stack := r.1, pc := r.2, cyc := c.cyc + cyc })

/-- The instruction has finished with a taken branch (R206, R209). -/
def olcJump (s : State) (d n : Fin 8) (cyc tgt : Nat) : State :=
  s.updCtx d n (fun c => { c with stack := branchStack c.stack tgt, pc := tgt, cyc := c.cyc + cyc })

/-- An instruction of fixed length that goes on to the next address. -/
def olcStep (s : State) (d : Fin 8) (op cyc : Nat) (f : State → Fin 8 → Word → State) : State :=
  match s.olcReady d op with
  | none => s
  | some (n, w) => (f s n w).olcNext d n cyc

/-- A conditional branch: 2 cycles taken, 1 not taken (R206). -/
def olcBranch (s : State) (d : Fin 8) (op : Nat) (f : Fin 8 → Word → Bool) : State :=
  match s.olcReady d op with
  | none => s
  | some (n, w) => if f n w then s.olcJump d n 2 (olcI w % 8192) else s.olcNext d n 1

/-- An instruction on two source registers that writes Vd without saturation. -/
def olcVab (s : State) (d : Fin 8) (op cyc : Nat) (f : Int → Int → Int) : State :=
  s.olcStep d op cyc (fun s n w => s.setV d n (olcD w) (f (s.vreg d n (olcA w)) (s.vreg d n (olcB w))))

/-- An instruction on two source registers that writes Vd with sat32. -/
def olcVabSat (s : State) (d : Fin 8) (op cyc : Nat) (f : Int → Int → Int) : State :=
  s.olcStep d op cyc (fun s n w => s.setVSat d n (olcD w) (f (s.vreg d n (olcA w)) (s.vreg d n (olcB w))))

/-- An instruction on Va and its word that writes Vd with sat32. -/
def olcVaSat (s : State) (d : Fin 8) (op cyc : Nat) (f : State → Word → Int → Int) : State :=
  s.olcStep d op cyc (fun s n w => s.setVSat d n (olcD w) (f s w (s.vreg d n (olcA w))))

/-- Values of the registers from Va, `m` of them (R204, R207). -/
def vrange (s : State) (d n : Fin 8) (a m : Nat) : List Int :=
  (List.range m).map (fun i => s.vreg d n ⟨(a + i) % 16, Nat.mod_lt _ (by decide)⟩)

/-- Position and value of the best of a list, the first position winning a tie (R177). -/
def bestOf (better : Int → Int → Bool) : List Int → Nat → Nat × Int → Nat × Int
  | [], _, r => r
  | x :: t, i, r => bestOf better t (i + 1) (if better x r.2 then (i, x) else r)

/-- MINSEL and MAXSEL: 2 + n cycles; WIN takes the position (R177, R204). -/
def olcSel (s : State) (d : Fin 8) (op : Nat) (better : Int → Int → Bool) : State :=
  match s.olcReady d op with
  | none => s
  | some (n, w) =>
    let m := olcI w % 16 + 1
    let l := s.vrange d n (olcA w).val m
    let r := bestOf better (l.drop 1) 1 (0, l.headD 0)
    ((s.setV d n (olcD w) r.2).wr d F.OXE_CTX_STAT_WIN r.1 n).olcNext d n (2 + m)

/-! ## ECC (R190) -/

/-- Coefficient entries an instruction reads. -/
def olcEntries (w : Word) : List Nat :=
  let e := olcI w % 4096
  match olcOp w with
  | 0x02 => [e]
  | 0x19 => [e]
  | 0x1B => [e]
  | 0x21 => [e]
  | 0x28 => [e]
  | 0x22 => [e, e + 1]
  | 0x20 => [e, e + 1, e + 2]
  | 0x23 => [e, e + 1, e + 2]
  | _ => []

/-- Data words an instruction reads: that of LDD, and W, LO and HI of FSUM's records, where the window holds them (R194, R203). -/
def olcData (s : State) (d n : Fin 8) (w : Word) : List Nat :=
  if olcOp w = 0x07 then (s.dataIdx d n (s.dataOff d n w)).toList
  else if olcOp w = 0x1E then
    let m := (olcB w).val + 1
    let base := olcI w % 2048
    match s.dataIdx d n base, s.dataIdx d n (base + 4 * m - 1 : Nat) with
    | some i, some _ => (List.range m).flatMap (fun j => [i + 4 * j, i + 4 * j + 1, i + 4 * j + 2])
    | _, _ => []
  else []

/-- The words with an ECC error that the running context's next instruction meets, its own first. -/
def olcErrors (s : State) (d : Fin 8) : List Nat :=
  if s.upsets.isEmpty then []
  else
    match s.running d with
    | none => []
    | some n =>
      let pc := (s.ctx d n).pc
      if s.rd d F.OXE_CTX_CFG_BUDGET n < (s.ctx d n).cyc then []
      else
        match s.olcFetch d pc with
        | none => []
        | some w =>
          (progKey d pc :: ((olcEntries w).flatMap (fun e => [regAddr d (0x0A0000 + 8 * e), regAddr d (0x0A0004 + 8 * e)]) ++
            (s.olcData d n w).map (fun i => dataKey d i))).filter (fun k => (s.eccAt k).isSome)

/-- An instruction run with the memory errors it meets (R190): an uncorrectable word at the program counter faults the context before
anything happens; one among the words read counts as zero in the result, and the context then faults. -/
def olcRun (s : State) (d : Fin 8) (op : Nat) (f : State → State) : State :=
  match s.olcErrors d, s.running d with
  | k :: ks, some n =>
    if s.eccAt (progKey d (s.ctx d n).pc) = some true then s.eccMeet d n [progKey d (s.ctx d n).pc]
    else if (s.olcReady d op).isSome then (f s).eccMeet d n (k :: ks)
    else s
  | _, _ => f s

/-! ## Loads and moves (R201) -/

/-- nop. -/
def olcNop (s : State) (d : Fin 8) : State := s.olcStep d 0x00 1 (fun s _ _ => s)

/-- ldi. -/
def olcLdi (s : State) (d : Fin 8) : State := s.olcStep d 0x01 1 (fun s n w => s.setV d n (olcD w) (olcS w))

/-- ldk. -/
def olcLdk (s : State) (d : Fin 8) : State :=
  s.olcStep d 0x02 1 (fun s n w => s.setV d n (olcD w) (s.coefM d (olcI w % 4096)))

/-- mov. -/
def olcMov (s : State) (d : Fin 8) : State :=
  s.olcStep d 0x03 1 (fun s n w => s.setV d n (olcD w) (s.vreg d n (olcA w)))

/-- lds: VALUE of the cell, and INV, SAT and SWP ORed in; a cell that does not exist gives 0 and INV (R176, R195). -/
def olcLds (s : State) (d : Fin 8) : State :=
  s.olcStep d 0x04 1 (fun s n w =>
    let c := olcI w % 128
    if !s.ldsExists d c then (s.setV d n (olcD w) 0).orInv d n true
    else
      let word := (s.sample d c).toNat
      (((s.setV d n (olcD w) (sext 16 word)).orInv d n (s.sampleInv d c)).orSat d n (bitOf word 29)).orSwp d n (bitOf word 31))

/-- ldr (R196). -/
def olcLdr (s : State) (d : Fin 8) : State :=
  s.olcStep d 0x05 1 (fun s n w =>
    let i := olcI w % 512
    let v := match s.remoteGet d i with
      | some (v, _) => v.toInt
      | none => 0
    (s.setV d n (olcD w) v).orInv d n (s.remoteStale d i))

/-- str: the message queued, or written at once where the lead die names itself (R197). -/
def olcStr (s : State) (d : Fin 8) : State :=
  s.olcStep d 0x06 1 (fun s n w =>
    let i := olcI w % 512
    let v := BitVec.ofInt 32 (s.vreg d n (olcA w))
    let send (s : State) (dst : Nat) : State :=
      if d.val = dst then s.remoteSet d i v
      else s.updOxe d (fun o => { o with sendq := o.sendq ++ [{ dst := dst, word := i, value := v }] })
    if d = 0 ∧ bitOf (olcI w) 12 = true then
      (List.range 8).foldl (fun s dst => if s.present dst then send s dst else s) s
    else send s (bitsOf (olcI w) 9 3))

/-- ldd; outside the window the context faults with cause 4 and nothing is read (R194). -/
def olcLdd (s : State) (d : Fin 8) : State :=
  match s.olcReady d 0x07 with
  | none => s
  | some (n, w) =>
    match s.dataIdx d n (s.dataOff d n w) with
    | none => s.ctxFault d n 4
    | some i => (s.setV d n (olcD w) (s.dataGet d i)).olcNext d n 1

/-- std; outside the window the context faults with cause 4 and nothing is written (R194). -/
def olcStd (s : State) (d : Fin 8) : State :=
  match s.olcReady d 0x08 with
  | none => s
  | some (n, w) =>
    match s.dataIdx d n (s.dataOff d n w) with
    | none => s.ctxFault d n 4
    | some i => (s.dataSet d i (s.vreg d n (olcB w))).olcNext d n 1

/-- lda. -/
def olcLda (s : State) (d : Fin 8) : State :=
  s.olcStep d 0x09 1 (fun s n w => s.setAcc d n (olcAcc (olcD w)) (s.vreg d n (olcA w)))

/-- mva. -/
def olcMva (s : State) (d : Fin 8) : State :=
  s.olcStep d 0x0A 1 (fun s n w => s.setVSat d n (olcD w) (s.accreg d n (olcAcc (olcA w))))

/-- clra. -/
def olcClra (s : State) (d : Fin 8) : State := s.olcStep d 0x0B 1 (fun s n w => s.setAcc d n (olcAcc (olcD w)) 0)

/-- ldp: applied value, derate, or override state (R201). -/
def olcLdp (s : State) (d : Fin 8) : State :=
  s.olcStep d 0x0C 1 (fun s n w =>
    let k := olcPort w
    let item := olcI w / 4 % 4
    s.setV d n (olcD w)
      (if item = 0 then s.rdI d F.OXE_PORT_OUT k
       else if item = 1 then s.rdI d F.OXE_PORT_DERATE k
       else (b2n (s.on d F.OXE_PORT_OVR_ACTIVE k) + 2 * b2n (s.on d F.OXE_PORT_OVR_AT_ZERO k) : Nat)))

/-- rdw. -/
def olcRdw (s : State) (d : Fin 8) : State :=
  s.olcStep d 0x0D 1 (fun s n w => s.setV d n (olcD w) (s.rd d F.OXE_CTX_STAT_WIN n))

/-! ## Arithmetic (R202) -/

/-- add. -/
def olcAdd (s : State) (d : Fin 8) : State := s.olcVabSat d 0x10 1 (fun a b => a + b)

/-- sub. -/
def olcSub (s : State) (d : Fin 8) : State := s.olcVabSat d 0x11 1 (fun a b => a - b)

/-- addi. -/
def olcAddi (s : State) (d : Fin 8) : State := s.olcVaSat d 0x12 1 (fun _ w a => a + olcS w)

/-- neg. -/
def olcNeg (s : State) (d : Fin 8) : State := s.olcVaSat d 0x13 1 (fun _ _ a => -a)

/-- abs. -/
def olcAbs (s : State) (d : Fin 8) : State := s.olcVaSat d 0x14 1 (fun _ _ a => a.natAbs)

/-- min. -/
def olcMin (s : State) (d : Fin 8) : State := s.olcVab d 0x15 1 (fun a b => if b < a then b else a)

/-- max. -/
def olcMax (s : State) (d : Fin 8) : State := s.olcVab d 0x16 1 (fun a b => if a < b then b else a)

/-- shl. -/
def olcShl (s : State) (d : Fin 8) : State := s.olcVaSat d 0x17 1 (fun _ w a => a * 2 ^ (olcI w % 32))

/-- shr. -/
def olcShr (s : State) (d : Fin 8) : State :=
  s.olcStep d 0x18 1 (fun s n w => s.setV d n (olcD w) (rhuShift (s.vreg d n (olcA w)) (olcI w % 32)))

/-- mul. -/
def olcMul (s : State) (d : Fin 8) : State := s.olcVaSat d 0x19 2 (fun s w a => s.coefTimes d a (olcI w % 4096))

/-- mulv. -/
def olcMulv (s : State) (d : Fin 8) : State :=
  s.olcStep d 0x1A 2 (fun s n w =>
    s.setVSat d n (olcD w) (rhuShift (s.vreg d n (olcA w) * s.vreg d n (olcB w)) (olcI w % 32)))

/-- mac. -/
def olcMac (s : State) (d : Fin 8) : State :=
  s.olcStep d 0x1B 2 (fun s n w =>
    let a := olcAcc (olcD w)
    s.setAccSat d n a (s.accreg d n a + s.coefTimes d (s.vreg d n (olcA w)) (olcI w % 4096)))

/-- macv. -/
def olcMacv (s : State) (d : Fin 8) : State :=
  s.olcStep d 0x1C 2 (fun s n w =>
    let a := olcAcc (olcD w)
    s.setAccSat d n a (s.accreg d n a + rhuShift (s.vreg d n (olcA w) * s.vreg d n (olcB w)) (olcI w % 32)))

/-- div: with Vb = 0 the result is 0, or the limit of Va's sign with SAT (R202). -/
def olcDiv (s : State) (d : Fin 8) : State :=
  s.olcStep d 0x1D 18 (fun s n w =>
    let a := s.vreg d n (olcA w)
    let b := s.vreg d n (olcB w)
    if b = 0 then
      (s.setV d n (olcD w) (if a = 0 then 0 else if 0 < a then 2147483647 else -2147483648)).orSat d n (decide (a ≠ 0))
    else s.setVSat d n (olcD w) (rhuDiv (a * 2 ^ (olcI w % 32)) b))

/-- One record of FSUM: its clamped weighted share (R203). -/
def fsumShare (l w lo hi : Int) : Int :=
  let x := sat32 (rhuShift (l * w) 16)
  let x := if x < lo then lo else x
  if hi < x then hi else x

/-- FSUM over the records from a data-memory index: the accumulator value, whether sat32 or sat64 clamped, and the
state after the write-backs (R203). -/
def fsumLoop (d : Fin 8) (l : Int) (back : Bool) : Nat → Nat → Int × Bool × State → Int × Bool × State
  | 0, _, r => r
  | m + 1, i, (acc, sat, s) =>
    let y := rhuShift (l * s.dataGet d i) 16
    let a := fsumShare l (s.dataGet d i) (s.dataGet d (i + 1)) (s.dataGet d (i + 2))
    let t := acc + a
    let s := if back then s.dataSet d (i + 3) a else s
    fsumLoop d l back m (i + 4) (sat64 t, sat || decide (sat32 y ≠ y) || decide (sat64 t ≠ t), s)

/-- fsum: 4 + n cycles; every word of the records must lie in the window (R194, R203). -/
def olcFsum (s : State) (d : Fin 8) : State :=
  match s.olcReady d 0x1E with
  | none => s
  | some (n, w) =>
    let m := (olcB w).val + 1
    let base := olcI w % 2048
    let a := olcAcc (olcD w)
    match s.dataIdx d n base, s.dataIdx d n (base + 4 * m - 1 : Nat) with
    | some i, some _ =>
      let r := fsumLoop d (s.vreg d n (olcA w)) (bitOf (olcI w) 13) m i (s.accreg d n a, false, s)
      ((r.2.2.setAcc d n a r.1).orSat d n r.2.1).olcNext d n (4 + m)
    | _, _ => s.ctxFault d n 4

/-- seln. -/
def olcSeln (s : State) (d : Fin 8) : State :=
  s.olcStep d 0x1F 1 (fun s n w =>
    s.setV d n (olcD w) (if s.vreg d n (olcD w) < 0 then s.vreg d n (olcA w) else s.vreg d n (olcB w)))

/-! ## Control law (R204) -/

/-- A limited integrator: Vd ← clamp(sat32(Vd + y)) with the limits of entries e + 1 and e + 2. -/
def limitedInto (s : State) (d n : Fin 8) (r : Fin 16) (e : Nat) (y : Int) : State :=
  let t := s.vreg d n r + y
  (s.setV d n r (clampLH (s.coefM d (e + 1)) (s.coefM d (e + 2)) (sat32 t))).orSat d n (decide (sat32 t ≠ t))

/-- intg. -/
def olcIntg (s : State) (d : Fin 8) : State :=
  s.olcStep d 0x20 2 (fun s n w =>
    let e := olcI w % 4096
    s.limitedInto d n (olcD w) e (s.coefTimes d (s.vreg d n (olcA w)) e))

/-- filt. -/
def olcFilt (s : State) (d : Fin 8) : State :=
  s.olcStep d 0x21 2 (fun s n w =>
    let v := s.vreg d n (olcD w)
    s.setVSat d n (olcD w) (v + s.coefTimes d (s.vreg d n (olcA w) - v) (olcI w % 4096)))

/-- lim. -/
def olcLim (s : State) (d : Fin 8) : State :=
  s.olcStep d 0x22 1 (fun s n w =>
    let e := olcI w % 4096
    s.setV d n (olcD w) (clampLH (s.coefM d e) (s.coefM d (e + 1)) (s.vreg d n (olcA w))))

/-- track. -/
def olcTrack (s : State) (d : Fin 8) : State :=
  s.olcStep d 0x23 2 (fun s n w =>
    let e := olcI w % 4096
    s.limitedInto d n (olcD w) e (s.coefTimes d (s.vreg d n (olcB w) - s.vreg d n (olcA w)) e))

/-- minsel. -/
def olcMinsel (s : State) (d : Fin 8) : State := s.olcSel d 0x24 (fun x y => decide (x < y))

/-- maxsel. -/
def olcMaxsel (s : State) (d : Fin 8) : State := s.olcSel d 0x25 (fun x y => decide (y < x))

/-! ## Injection, capture, correlation, output, events (R205, R207, R208) -/

/-- The generator's output as a signed number of full scale 2^31 − 1 (R182; log entry 5). -/
def genOut (s : State) (d : Fin 8) (src : Nat) : Int :=
  let o := s.oxe.get d
  if src = 0 then (Config.ddsSine o.dds).toInt
  else if src = 1 then (if bitOf o.prbs 14 = Config.prbsPositive then 2147483647 else -2147483647)
  else s.rdI d F.OXE_MS o.msIdx

/-- inj. -/
def olcInj (s : State) (d : Fin 8) : State :=
  s.olcStep d 0x28 2 (fun s n w =>
    let e := olcI w % 4096
    let a := s.vreg d n (olcA w)
    let g := s.genOut d ((olcB w).val % 4)
    let x := if bitOf (olcB w).val 2 then a * g else g
    s.setVSat d n (olcD w) (a + rhu (x * s.coefM d e) (2 ^ (62 - s.coefS d e).toNat)))

/-- Key of a word of capture buffer A or B (R166). -/
def capBufKey (d : Fin 8) (b : Bool) (i : Nat) : Nat := regAddr d ((if b then 0x0B4000 else 0x0B0000) + 4 * i)

/-- A buffer's FULL bit. -/
def capFull (b : Bool) : Fld := if b then F.OXE_CAP_STAT_FULL_B else F.OXE_CAP_STAT_FULL_A

/-- CAP of a list of words: into the active buffer, or after closing it into the other, or dropped (R184, R207). -/
def capWords (s : State) (d : Fin 8) (l : List Word) : State :=
  let act := s.on d F.OXE_CAP_STAT_ACT
  let fill := s.rd d F.OXE_CAP_STAT_FILL
  let m := l.length
  if s.on d (capFull act) then s.wr d F.OXE_CAP_OVF (min 0xFFFFFFFF (s.rd d F.OXE_CAP_OVF + m))
  else if fill + m ≤ 4096 then
    let s := (s.setMwords (capBufKey d act fill) l).wr d F.OXE_CAP_STAT_FILL (fill + m)
    if fill + m = 4096 then
      let s := s.wr d (capFull act) 1
      if s.on d (capFull (!act)) then s else (s.wrB d F.OXE_CAP_STAT_ACT (!act)).wr d F.OXE_CAP_STAT_FILL 0
    else s
  else if s.on d (capFull (!act)) then
    (s.wr d (capFull act) 1).wr d F.OXE_CAP_OVF (min 0xFFFFFFFF (s.rd d F.OXE_CAP_OVF + m))
  else
    (((s.wr d (capFull act) 1).wrB d F.OXE_CAP_STAT_ACT (!act)).setMwords (capBufKey d (!act) 0) l).wr d
      F.OXE_CAP_STAT_FILL m

/-- cap: n cycles. -/
def olcCap (s : State) (d : Fin 8) : State :=
  match s.olcReady d 0x29 with
  | none => s
  | some (n, w) =>
    let m := olcI w % 16 + 1
    (s.capWords d ((s.vrange d n (olcA w).val m).map (BitVec.ofInt 32))).olcNext d n m

/-- One sum of a correlator bin, reaching NTARGET or not (R183). -/
def corAdd (s : State) (d k : Fin 8) (x : Int) : State :=
  let b := (s.oxe.get d).bins.get k
  let nt := s.rd d F.OXE_COR_CTRL_NTARGET k
  let auto := s.on d F.OXE_COR_CTRL_AUTO k
  if nt ≠ 0 ∧ nt ≤ b.n ∧ ¬auto then s
  else
    let b' : CorBin :=
      { b with i := BitVec.ofInt 64 (sat64 (b.i.toInt + rhu (x * corCos b.phase) (2 ^ 30))),
               q := BitVec.ofInt 64 (sat64 (b.q.toInt + rhu (x * corSin b.phase) (2 ^ 30))), n := b.n + 1 }
    if nt ≠ 0 ∧ nt ≤ b'.n then
      let s := s.wr d F.OXE_COR_CTRL_DONE 1 k
      if auto then
        s.updOxe d (fun o => { o with bins := upd o.bins k (fun _ => { b' with i := 0, q := 0, n := 0, res := (b'.i, b'.q, b'.n) }) })
      else s.updOxe d (fun o => { o with bins := upd o.bins k (fun _ => b') })
    else s.updOxe d (fun o => { o with bins := upd o.bins k (fun _ => b') })

/-- corr. -/
def olcCorr (s : State) (d : Fin 8) : State :=
  s.olcStep d 0x2A 2 (fun s n w =>
    s.corAdd d ⟨olcI w % 8, Nat.mod_lt _ (by decide)⟩ (s.vreg d n (olcA w)))

/-- OUT and OUTU on the output path of port `k`: discarded from a context that does not own the port or under an
override, else clamped to 0 and DERATE; WIN is copied (R167, R177, R179, R180, R208). -/
def outPath (s : State) (d n : Fin 8) (k : Fin 4) (x : Int) (urgent : Bool) : State :=
  if s.rd d F.OXE_PORT_CFG_OWNER k ≠ n.val then s.satCnt d F.OXE_PORT_CNT_FOREIGN k
  else if s.on d F.OXE_PORT_OVR_ACTIVE k then s.satCnt d F.OXE_PORT_CNT_DISCARDED k
  else
    let y := clampI 0 (s.rdI d F.OXE_PORT_DERATE k) x
    let s := if y = x then s else (s.orSat d n true).satCnt d F.OXE_PORT_CNT_CLAMPS k
    let s := s.wrI d F.OXE_PORT_OUT y k
    let win := s.rd d F.OXE_CTX_STAT_WIN n
    let s := if s.rd d F.OXE_PORT_WIN_WIN k = win then s
      else (s.wr d F.OXE_PORT_WIN_WIN win k).wrapCnt d F.OXE_PORT_WIN_CHANGES k
    if urgent then s.queueUrgent d k (BitVec.ofInt 32 y) false else s

/-- out. -/
def olcOut (s : State) (d : Fin 8) : State :=
  s.olcStep d 0x2C 1 (fun s n w => s.outPath d n (olcPort w) (s.vreg d n (olcA w)) false)

/-- outu. -/
def olcOutu (s : State) (d : Fin 8) : State :=
  s.olcStep d 0x2D 1 (fun s n w => s.outPath d n (olcPort w) (s.vreg d n (olcA w)) true)

/-- An entry pushed to the HOST or SAFE event queue; a full queue drops it (R205). -/
def evtPush (s : State) (d n : Fin 8) (safe : Bool) (code : Nat) : State :=
  let q := if safe then (s.oxe.get d).evtSafe else (s.oxe.get d).evtHost
  if 16 ≤ q.length then s.oxeErrCtx d n F.OXE_ERR_EVTQ_OVF
  else s.updOxe d (fun o =>
    if safe then { o with evtSafe := o.evtSafe ++ [(code, n.val)] } else { o with evtHost := o.evtHost ++ [(code, n.val)] })

/-- evt. -/
def olcEvt (s : State) (d : Fin 8) : State :=
  s.olcStep d 0x2E 1 (fun s n w => s.evtPush d n (bitOf (olcI w) 13) (olcI w % 8192))

/-! ## Flags and flow (R206, R209 to R211) -/

/-- bfs. -/
def olcBfs (s : State) (d : Fin 8) : State :=
  s.olcBranch d 0x30 (fun n w => decide (s.flagsOf d n ((olcB w).val % 8) ≠ 0))

/-- bfc. -/
def olcBfc (s : State) (d : Fin 8) : State :=
  s.olcBranch d 0x31 (fun n w => decide (s.flagsOf d n ((olcB w).val % 8) = 0))

/-- clf. -/
def olcClf (s : State) (d : Fin 8) : State := s.olcStep d 0x32 1 (fun s n w => s.clearFlags d n (olcB w).val)

/-- br. -/
def olcBr (s : State) (d : Fin 8) : State := s.olcBranch d 0x34 (fun _ _ => true)

/-- beq. -/
def olcBeq (s : State) (d : Fin 8) : State :=
  s.olcBranch d 0x35 (fun n w => decide (s.vreg d n (olcA w) = s.vreg d n (olcB w)))

/-- bne. -/
def olcBne (s : State) (d : Fin 8) : State :=
  s.olcBranch d 0x36 (fun n w => decide (s.vreg d n (olcA w) ≠ s.vreg d n (olcB w)))

/-- blt. -/
def olcBlt (s : State) (d : Fin 8) : State :=
  s.olcBranch d 0x37 (fun n w => decide (s.vreg d n (olcA w) < s.vreg d n (olcB w)))

/-- bge. -/
def olcBge (s : State) (d : Fin 8) : State :=
  s.olcBranch d 0x38 (fun n w => decide (s.vreg d n (olcB w) ≤ s.vreg d n (olcA w)))

/-- loop: a body run Va times, or skipped in 2 cycles; an overflow of the stack faults with cause 5 (R209). -/
def olcLoop (s : State) (d : Fin 8) : State :=
  match s.olcReady d 0x39 with
  | none => s
  | some (n, w) =>
    let c := s.ctx d n
    let last := olcI w % 8192
    let v := s.vreg d n (olcA w)
    if v ≤ 0 then
      let r := endTest c.stack last
      s.updCtx d n (fun c => { c with stack := r.1, pc := r.2, cyc := c.cyc + 2 })
    else if 8 ≤ c.stack.length then s.ctxFault d n 5
    else s.updCtx d n (fun c =>
      { c with stack := .loop (c.pc + 1) last v.toNat :: c.stack, pc := c.pc + 1, cyc := c.cyc + 1 })

/-- call; an overflow of the stack faults with cause 5 (R209, R210). -/
def olcCall (s : State) (d : Fin 8) : State :=
  match s.olcReady d 0x3A with
  | none => s
  | some (n, w) =>
    if 8 ≤ (s.ctx d n).stack.length then s.ctxFault d n 5
    else s.updCtx d n (fun c =>
      { c with stack := .call (c.pc + 1) :: c.stack, pc := olcI w % 8192, cyc := c.cyc + 2 })

/-- ret; with no call entry the context faults with cause 5 (R210). Where the CALL was the last instruction of an active body, that
body's iteration ends with the return (R209). -/
def olcRet (s : State) (d : Fin 8) : State :=
  match s.olcReady d 0x3B with
  | none => s
  | some (n, _) =>
    match retStack (s.ctx d n).stack with
    | none => s.ctxFault d n 5
    | some (t, r) =>
      let x := endTest t (r - 1)
      s.updCtx d n (fun c => { c with stack := x.1, pc := x.2, cyc := c.cyc + 2 })

/-- wait: completes at once with 1 where event 3 already holds, with 0 where the timeout is 0, else yields (R211). -/
def olcWait (s : State) (d : Fin 8) : State :=
  match s.olcReady d 0x3C with
  | none => s
  | some (n, w) =>
    let ev := (olcB w).val
    let par := olcI w
    let here := match s.remoteGet d par with
      | some (_, t) => ev == 3 && t == s.tick d
      | none => false
    if here then (s.setV d n (olcD w) 1).olcNext d n 1
    else if s.vreg d n (olcA w) = 0 then (s.setV d n (olcD w) 0).olcNext d n 1
    else
      let s := s.olcNext d n 1
      let s := s.updCtx d n (fun c => { c with waiting := some (ev, par, (olcD w).val) })
      (s.wr d F.OXE_CTX_STAT_STATE 5 n).wr d F.OXE_STAT_IDLE 1

/-- end: the activation is over; its cycles are recorded and the context idles (R170, R171). -/
def olcEnd (s : State) (d : Fin 8) : State :=
  match s.olcReady d 0x3F with
  | none => s
  | some (n, _) =>
    let cyc := (s.ctx d n).cyc + 1
    let s := s.updCtx d n (fun c => { c with cyc := cyc, stack := [] })
    let s := s.wr d F.OXE_CTX_CYC_LAST (min cyc 16383) n
    let s := if s.rd d F.OXE_CTX_CYC_MAX n < cyc then s.wr d F.OXE_CTX_CYC_MAX (min cyc 16383) n else s
    (s.wr d F.OXE_CTX_STAT_STATE 1 n).wr d F.OXE_STAT_IDLE 1

end State

/-! ## The commands -/

/-- NOP (R201). -/
def execOlcNop (d : Die) (s : State) : Host.Outcome State Fault Refusal := .next (s.olcRun d 0x00 (fun s => s.olcNop d))

/-- LDI (R201). -/
def execOlcLdi (d : Die) (s : State) : Host.Outcome State Fault Refusal := .next (s.olcRun d 0x01 (fun s => s.olcLdi d))

/-- LDK (R201). -/
def execOlcLdk (d : Die) (s : State) : Host.Outcome State Fault Refusal := .next (s.olcRun d 0x02 (fun s => s.olcLdk d))

/-- MOV (R201). -/
def execOlcMov (d : Die) (s : State) : Host.Outcome State Fault Refusal := .next (s.olcRun d 0x03 (fun s => s.olcMov d))

/-- LDS (R176). -/
def execOlcLds (d : Die) (s : State) : Host.Outcome State Fault Refusal := .next (s.olcRun d 0x04 (fun s => s.olcLds d))

/-- LDR (R196). -/
def execOlcLdr (d : Die) (s : State) : Host.Outcome State Fault Refusal := .next (s.olcRun d 0x05 (fun s => s.olcLdr d))

/-- STR (R197). -/
def execOlcStr (d : Die) (s : State) : Host.Outcome State Fault Refusal := .next (s.olcRun d 0x06 (fun s => s.olcStr d))

/-- LDD (R194). -/
def execOlcLdd (d : Die) (s : State) : Host.Outcome State Fault Refusal := .next (s.olcRun d 0x07 (fun s => s.olcLdd d))

/-- STD (R194). -/
def execOlcStd (d : Die) (s : State) : Host.Outcome State Fault Refusal := .next (s.olcRun d 0x08 (fun s => s.olcStd d))

/-- LDA (R201). -/
def execOlcLda (d : Die) (s : State) : Host.Outcome State Fault Refusal := .next (s.olcRun d 0x09 (fun s => s.olcLda d))

/-- MVA (R201). -/
def execOlcMva (d : Die) (s : State) : Host.Outcome State Fault Refusal := .next (s.olcRun d 0x0A (fun s => s.olcMva d))

/-- CLRA (R201). -/
def execOlcClra (d : Die) (s : State) : Host.Outcome State Fault Refusal := .next (s.olcRun d 0x0B (fun s => s.olcClra d))

/-- LDP (R201). -/
def execOlcLdp (d : Die) (s : State) : Host.Outcome State Fault Refusal := .next (s.olcRun d 0x0C (fun s => s.olcLdp d))

/-- RDW (R201). -/
def execOlcRdw (d : Die) (s : State) : Host.Outcome State Fault Refusal := .next (s.olcRun d 0x0D (fun s => s.olcRdw d))

/-- ADD (R202). -/
def execOlcAdd (d : Die) (s : State) : Host.Outcome State Fault Refusal := .next (s.olcRun d 0x10 (fun s => s.olcAdd d))

/-- SUB (R202). -/
def execOlcSub (d : Die) (s : State) : Host.Outcome State Fault Refusal := .next (s.olcRun d 0x11 (fun s => s.olcSub d))

/-- ADDI (R202). -/
def execOlcAddi (d : Die) (s : State) : Host.Outcome State Fault Refusal := .next (s.olcRun d 0x12 (fun s => s.olcAddi d))

/-- NEG (R202). -/
def execOlcNeg (d : Die) (s : State) : Host.Outcome State Fault Refusal := .next (s.olcRun d 0x13 (fun s => s.olcNeg d))

/-- ABS (R202). -/
def execOlcAbs (d : Die) (s : State) : Host.Outcome State Fault Refusal := .next (s.olcRun d 0x14 (fun s => s.olcAbs d))

/-- MIN (R202). -/
def execOlcMin (d : Die) (s : State) : Host.Outcome State Fault Refusal := .next (s.olcRun d 0x15 (fun s => s.olcMin d))

/-- MAX (R202). -/
def execOlcMax (d : Die) (s : State) : Host.Outcome State Fault Refusal := .next (s.olcRun d 0x16 (fun s => s.olcMax d))

/-- SHL (R202). -/
def execOlcShl (d : Die) (s : State) : Host.Outcome State Fault Refusal := .next (s.olcRun d 0x17 (fun s => s.olcShl d))

/-- SHR (R202). -/
def execOlcShr (d : Die) (s : State) : Host.Outcome State Fault Refusal := .next (s.olcRun d 0x18 (fun s => s.olcShr d))

/-- MUL (R202). -/
def execOlcMul (d : Die) (s : State) : Host.Outcome State Fault Refusal := .next (s.olcRun d 0x19 (fun s => s.olcMul d))

/-- MULV (R202). -/
def execOlcMulv (d : Die) (s : State) : Host.Outcome State Fault Refusal := .next (s.olcRun d 0x1A (fun s => s.olcMulv d))

/-- MAC (R202). -/
def execOlcMac (d : Die) (s : State) : Host.Outcome State Fault Refusal := .next (s.olcRun d 0x1B (fun s => s.olcMac d))

/-- MACV (R202). -/
def execOlcMacv (d : Die) (s : State) : Host.Outcome State Fault Refusal := .next (s.olcRun d 0x1C (fun s => s.olcMacv d))

/-- DIV (R202). -/
def execOlcDiv (d : Die) (s : State) : Host.Outcome State Fault Refusal := .next (s.olcRun d 0x1D (fun s => s.olcDiv d))

/-- FSUM (R203). -/
def execOlcFsum (d : Die) (s : State) : Host.Outcome State Fault Refusal := .next (s.olcRun d 0x1E (fun s => s.olcFsum d))

/-- SELN (R202). -/
def execOlcSeln (d : Die) (s : State) : Host.Outcome State Fault Refusal := .next (s.olcRun d 0x1F (fun s => s.olcSeln d))

/-- INTG (R204). -/
def execOlcIntg (d : Die) (s : State) : Host.Outcome State Fault Refusal := .next (s.olcRun d 0x20 (fun s => s.olcIntg d))

/-- FILT (R204). -/
def execOlcFilt (d : Die) (s : State) : Host.Outcome State Fault Refusal := .next (s.olcRun d 0x21 (fun s => s.olcFilt d))

/-- LIM (R204). -/
def execOlcLim (d : Die) (s : State) : Host.Outcome State Fault Refusal := .next (s.olcRun d 0x22 (fun s => s.olcLim d))

/-- TRACK (R204). -/
def execOlcTrack (d : Die) (s : State) : Host.Outcome State Fault Refusal := .next (s.olcRun d 0x23 (fun s => s.olcTrack d))

/-- MINSEL (R177). -/
def execOlcMinsel (d : Die) (s : State) : Host.Outcome State Fault Refusal := .next (s.olcRun d 0x24 (fun s => s.olcMinsel d))

/-- MAXSEL (R177). -/
def execOlcMaxsel (d : Die) (s : State) : Host.Outcome State Fault Refusal := .next (s.olcRun d 0x25 (fun s => s.olcMaxsel d))

/-- INJ (R205). -/
def execOlcInj (d : Die) (s : State) : Host.Outcome State Fault Refusal := .next (s.olcRun d 0x28 (fun s => s.olcInj d))

/-- CAP (R207). -/
def execOlcCap (d : Die) (s : State) : Host.Outcome State Fault Refusal := .next (s.olcRun d 0x29 (fun s => s.olcCap d))

/-- CORR (R183). -/
def execOlcCorr (d : Die) (s : State) : Host.Outcome State Fault Refusal := .next (s.olcRun d 0x2A (fun s => s.olcCorr d))

/-- OUT (R208). -/
def execOlcOut (d : Die) (s : State) : Host.Outcome State Fault Refusal := .next (s.olcRun d 0x2C (fun s => s.olcOut d))

/-- OUTU (R208). -/
def execOlcOutu (d : Die) (s : State) : Host.Outcome State Fault Refusal := .next (s.olcRun d 0x2D (fun s => s.olcOutu d))

/-- EVT (R205). -/
def execOlcEvt (d : Die) (s : State) : Host.Outcome State Fault Refusal := .next (s.olcRun d 0x2E (fun s => s.olcEvt d))

/-- BFS (R206). -/
def execOlcBfs (d : Die) (s : State) : Host.Outcome State Fault Refusal := .next (s.olcRun d 0x30 (fun s => s.olcBfs d))

/-- BFC (R206). -/
def execOlcBfc (d : Die) (s : State) : Host.Outcome State Fault Refusal := .next (s.olcRun d 0x31 (fun s => s.olcBfc d))

/-- CLF (R206). -/
def execOlcClf (d : Die) (s : State) : Host.Outcome State Fault Refusal := .next (s.olcRun d 0x32 (fun s => s.olcClf d))

/-- BR (R206). -/
def execOlcBr (d : Die) (s : State) : Host.Outcome State Fault Refusal := .next (s.olcRun d 0x34 (fun s => s.olcBr d))

/-- BEQ (R206). -/
def execOlcBeq (d : Die) (s : State) : Host.Outcome State Fault Refusal := .next (s.olcRun d 0x35 (fun s => s.olcBeq d))

/-- BNE (R206). -/
def execOlcBne (d : Die) (s : State) : Host.Outcome State Fault Refusal := .next (s.olcRun d 0x36 (fun s => s.olcBne d))

/-- BLT (R206). -/
def execOlcBlt (d : Die) (s : State) : Host.Outcome State Fault Refusal := .next (s.olcRun d 0x37 (fun s => s.olcBlt d))

/-- BGE (R206). -/
def execOlcBge (d : Die) (s : State) : Host.Outcome State Fault Refusal := .next (s.olcRun d 0x38 (fun s => s.olcBge d))

/-- LOOP (R209). -/
def execOlcLoop (d : Die) (s : State) : Host.Outcome State Fault Refusal := .next (s.olcRun d 0x39 (fun s => s.olcLoop d))

/-- CALL (R210). -/
def execOlcCall (d : Die) (s : State) : Host.Outcome State Fault Refusal := .next (s.olcRun d 0x3A (fun s => s.olcCall d))

/-- RET (R210). -/
def execOlcRet (d : Die) (s : State) : Host.Outcome State Fault Refusal := .next (s.olcRun d 0x3B (fun s => s.olcRet d))

/-- WAIT (R211). -/
def execOlcWait (d : Die) (s : State) : Host.Outcome State Fault Refusal := .next (s.olcRun d 0x3C (fun s => s.olcWait d))

/-- END (R206). -/
def execOlcEnd (d : Die) (s : State) : Host.Outcome State Fault Refusal := .next (s.olcRun d 0x3F (fun s => s.olcEnd d))

end Sys2Proof.Machine
end

