-- ==== Sys2Proof/Machine/Engine.lean ====
section
/-!
DEFINITION. Commands of the loop engine outside its programs: triggers, dispatch, faults, start and stop, the safety
override, coefficients, generator, correlators, event queues and capture buffers (R166 to R190).
-/

namespace Sys2Proof.Machine

namespace State

/-- The engine shows no context executing. -/
def oxeIdle (s : State) (d : Fin 8) : State := s.wr d F.OXE_STAT_IDLE 1

/-- CONTEXT_TRIGGER: the engine recognises a selected trigger of source `src`, 2 CTL cycles after its event (R169, R170; log entry
112). -/
def trigTake (s : State) (d n : Fin 8) (src : Nat) : State :=
  if (s.oxe.get d).started ∧ s.rd d F.OXE_CTX_TRIG_SRC n = src ∧ 0 < (s.ctx d n).owed then
    (s.updCtx d n (fun c => { c with owed := c.owed - 1 })).trigSelected d n
  else s

/-- The context to dispatch next: the lowest number, highest priority first, in one of the given states (R170). -/
def bestCtx (s : State) (d : Fin 8) (p : Nat → Bool) : Option (Fin 8) :=
  (List.finRange 8).find? (fun n => p (s.ctxSt d n))

/-- A context takes the engine: a PREEMPTED one goes on, a PENDING one starts at ENTRY or resumes after WAIT (R170,
R171); its safety event is cleared. -/
def giveEngine (s : State) (d n : Fin 8) : State :=
  let fresh := decide (s.ctxSt d n = 2)
  let c := s.ctx d n
  let entry := s.rd d F.OXE_CTX_CFG_ENTRY n
  let s := ((s.wr d F.OXE_CTX_STAT_STATE 3 n).wr d F.OXE_STAT_CUR_CTX n).wr d F.OXE_STAT_IDLE 0
  if !fresh then s
  else if c.resumed then s.updCtx d n (fun c => { c with resumed := false, cyc := c.cyc + 4 })
  else
    let s := s.updCtx d n (fun c => { c with pc := entry, stack := [], cyc := 4 })
    (s.wrapCnt d F.OXE_CTX_CNT_ACT n).clrBit d F.OXE_SAFE_EVT_EVT n.val

/-- Dispatch at an instruction boundary (R170). -/
def dispatch (s : State) (d : Fin 8) : State :=
  match s.running d with
  | some r =>
    match s.bestCtx d (fun st => st == 2) with
    | some n => if n.val < r.val then (s.wr d F.OXE_CTX_STAT_STATE 4 r).giveEngine d n else s
    | none => s
  | none =>
    if (s.oxe.get d).started then
      match s.bestCtx d (fun st => st == 2 || st == 4) with
      | some n => s.giveEngine d n
      | none => s
    else s

/-- One CRC-32 step over a bit, least significant bit first (R188). -/
def crc32Bit (c : Nat) (b : Bool) : Nat := if bitOf c 0 != b then (c / 2) ^^^ 0xEDB88320 else c / 2

/-- CRC-32 over one word, least significant byte first (R188). -/
def crc32Word (c : Nat) (w : Word) : Nat := (List.range 32).foldl (fun c i => crc32Bit c (bitOf w.toNat i)) c

/-- CRC-32 of a list of words (R188). -/
def crc32 (l : List Word) : Nat := (l.foldl crc32Word 0xFFFFFFFF) ^^^ 0xFFFFFFFF

/-- The 8 224 words of R188: program memory, then CFG, TRIG, TIMER and DWIN of C0 to C7 (log entry 96). -/
def crcWords (s : State) (d : Fin 8) : List Word :=
  (List.range 8192).map (fun i => s.mword (progKey d i)) ++
    (List.range 8).flatMap (fun n =>
      [s.word (fldAddr d F.OXE_CTX_CFG n 0), s.word (fldAddr d F.OXE_CTX_TRIG n 0),
       s.word (fldAddr d F.OXE_CTX_TIMER n 0), s.word (fldAddr d F.OXE_CTX_DWIN n 0)])

/-- Each context that is not FAULTED reads IDLE with EN and DISABLED without (R188, R189). -/
def ctxRest (s : State) (d : Fin 8) : State :=
  (List.finRange 8).foldl (fun s n =>
    if s.ctxSt d n = 6 then s else s.wr d F.OXE_CTX_STAT_STATE (s.rd d F.OXE_CTX_CFG_EN n) n) s

/-- RUN set (R188). In HOLD the engine stays stopped (R76). -/
def engineRun (s : State) (d : Fin 8) : State :=
  if s.on d F.OXE_CTRL_RUN || s.hold then s
  else
    let s := (s.wr d F.OXE_CTRL_RUN 1).wr d F.OXE_STAT_CRC_DONE 0
    s.updOxe d (fun o => { o with crcBusy := true, started := false, fresh := 0 })

/-- The CRC is complete and the contexts start (R188, R169); the CRC reads every program word, so it meets their ECC errors (R190). -/
def engineCrcDone (s : State) (d : Fin 8) : State :=
  if (s.oxe.get d).crcBusy && !s.hold then
    let s := (s.eccWithin (progKey d 0) 0x8000).foldl (fun (s : State) (k : Nat) => s.eccSeen d 0 k) s
    let s := (s.wr d F.OXE_PROG_CRC (crc32 (s.crcWords d))).wr d F.OXE_STAT_CRC_DONE 1
    let s := (s.wr d F.OXE_STAT_RUNNING 1).ctxRest d
    s.updOxe d (fun o =>
      { o with crcBusy := false, started := true, edges := 0,
               ctx := o.ctx.map (fun c => { c with events := 0, owed := 0, waiting := none, resumed := false }) })
  else s

/-- Every port of the die has INH driven or an override at zero (R189). -/
def stopAllowed (s : State) (d : Fin 8) : Bool :=
  (List.finRange 4).all (fun k =>
    s.inhDriven (portOf d k) || (s.on d F.OXE_PORT_OVR_ACTIVE k && s.on d F.OXE_PORT_OVR_AT_ZERO k))

/-- A write that clears RUN (R189). -/
def engineStop (s : State) (d : Fin 8) : State :=
  if !s.on d F.OXE_CTRL_RUN then s
  else if s.stopAllowed d then
    let s := (((s.wr d F.OXE_CTRL_RUN 0).wr d F.OXE_STAT_RUNNING 0).oxeIdle d).ctxRest d
    s.updOxe d (fun o =>
      { o with crcBusy := false, started := false,
               ctx := o.ctx.map (fun c => { c with waiting := none, resumed := false, stack := [], owed := 0 }) })
  else s.oxeErr d F.OXE_ERR_STOP_REFUSED

/-- RESTART (R172, R462): only while FAULTED, and not once the context's budget is spent. -/
def ctxRestart (s : State) (d n : Fin 8) : State :=
  if s.ctxSt d n = 6 ∧ s.isRetired d 2 0x08 n = false then
    let s := (s.wr d F.OXE_CTX_STAT_STATE 1 n).wr d F.OXE_CTX_STAT_CAUSE 0 n
    s.updCtx d n (fun c => { c with waiting := none, resumed := false, stack := [] })
  else s

/-- The coefficient entry becomes the words written (R187). -/
def coefWrite (s : State) (d : Fin 8) (e : Nat) (w1 : Word) : State :=
  let low := ((s.oxe.get d).coefLow.find? (fun x => x.1 == e)).map (·.2)
  let s := match low with
    | some w0 => s.setMword (regAddr d (0x0A0000 + 8 * e)) w0
    | none => s
  let s := s.setMword (regAddr d (0x0A0004 + 8 * e)) (w1 &&& 0x3F)
  s.updOxe d (fun o => { o with coefLow := o.coefLow.filter (fun x => x.1 != e) })

/-- The five words of a bin latched for reading (R183). -/
def corStore (s : State) (d k : Fin 8) (b : DWord × DWord × Nat) : State :=
  ((((s.wr d F.OXE_COR_RES (b.1.toNat % 2 ^ 32) k 0).wr d F.OXE_COR_RES (b.1.toNat / 2 ^ 32) k 1).wr d F.OXE_COR_RES
    (b.2.1.toNat % 2 ^ 32) k 2).wr d F.OXE_COR_RES (b.2.1.toNat / 2 ^ 32) k 3).wr d F.OXE_COR_RES b.2.2 k 4

/-- What the five words of a bin show: with AUTO the set copied last, else the running sums (R183). -/
def corShown (s : State) (d k : Fin 8) : DWord × DWord × Nat :=
  let b := (s.oxe.get d).bins.get k
  if s.on d F.OXE_COR_CTRL_AUTO k then b.res else (b.i, b.q, b.n)

/-- A read of I_LO latches the bin's five words, so that they form one set (R183). -/
def corLatch (s : State) (d k : Fin 8) : State := s.corStore d k (s.corShown d k)

/-- FULL bits cleared (R184): a released active buffer restarts empty, and an active buffer that is still FULL hands
over to a free one. -/
def capRelease (s : State) (d : Fin 8) (a b : Bool) : State :=
  let act := s.on d F.OXE_CAP_STAT_ACT
  let wasFull := s.on d (capFull act)
  let s := if a then s.wr d F.OXE_CAP_STAT_FULL_A 0 else s
  let s := if b then s.wr d F.OXE_CAP_STAT_FULL_B 0 else s
  if !wasFull then s
  else if !s.on d (capFull act) then s.wr d F.OXE_CAP_STAT_FILL 0
  else if !s.on d (capFull (!act)) then (s.wrB d F.OXE_CAP_STAT_ACT (!act)).wr d F.OXE_CAP_STAT_FILL 0
  else s

/-- One entry popped from an event queue and returned to the reader (R205). -/
def evtPop (s : State) (d : Fin 8) (safe : Bool) : State :=
  let q := if safe then (s.oxe.get d).evtSafe else (s.oxe.get d).evtHost
  let word : Word := match q with
    | (code, c) :: _ => BitVec.ofNat 32 (code + c * 0x10000 + 0x80000000)
    | [] => 0
  let s := s.updOxe d (fun o => if safe then { o with evtSafe := o.evtSafe.drop 1 } else { o with evtHost := o.evtHost.drop 1 })
  { s with hpiOut := [word] }

/-- The test-signal generator and the bins at a grid edge (R182). -/
def genEdge (s : State) (d : Fin 8) : State :=
  let o := s.oxe.get d
  if o.sync then
    (s.updOxe d (fun o =>
      { o with sync := false, dds := 0, prbs := 0x7FFF, msIdx := 0, divCnt := 0,
               bins := o.bins.map (fun b => { b with phase := 0 }) }))
  else
    let ftw := BitVec.ofNat 32 (s.rd d F.OXE_DDS_FTW)
    let div := max 1 (s.rd d F.OXE_GEN_CTRL_DIV)
    let bump := decide (div ≤ o.divCnt + 1)
    let fb := b2n (bitOf o.prbs 14 != bitOf o.prbs 13)
    s.updOxe d (fun o =>
      { o with dds := o.dds + ftw, divCnt := if bump then 0 else o.divCnt + 1,
               prbs := if bump then (o.prbs * 2 + fb) % 32768 else o.prbs,
               msIdx := if bump then (o.msIdx + 1) % 64 else o.msIdx,
               bins := o.bins.mapFinIdx (fun i b _ => { b with phase := b.phase + BitVec.ofNat 32 (s.rd d F.OXE_COR_FTW i) }) })

end State

/-! ## The commands -/

/-- CONTEXT_TRIGGER (R169). -/
def execContextTrigger (d : Die) (n : Ctx) (src : Fin 8) (s : State) : Host.Outcome State Fault Refusal :=
  .next (s.trigTake d n src.val)

/-- CONTEXT_DISPATCH (R170). -/
def execContextDispatch (d : Die) (s : State) : Host.Outcome State Fault Refusal := .next (s.dispatch d)

/-- BUDGET_EXCEEDED (R171): the running context's cycles exceed its budget. -/
def execBudgetExceeded (d : Die) (s : State) : Host.Outcome State Fault Refusal :=
  .next (match s.running d with
    | some n => if s.rd d F.OXE_CTX_CFG_BUDGET n < (s.ctx d n).cyc then s.ctxFault d n 2 else s
    | none => s)

/-- ILLEGAL_INSTRUCTION (R212): the word at the program counter is illegal, or lies beyond program memory. -/
def execIllegalInstruction (d : Die) (s : State) : Host.Outcome State Fault Refusal :=
  .next (match s.running d with
    | some n =>
      match s.olcFetch d (s.ctx d n).pc with
      | some w => if s.olcLegal d w then s else s.ctxFault d n 3
      | none => s.ctxFault d n 3
    | none => s)

/-- WAIT_TIMEOUT (R211). -/
def execWaitTimeout (d : Die) (n : Ctx) (s : State) : Host.Outcome State Fault Refusal :=
  .next (match (s.ctx d n).waiting with
    | some (_, _, vd) => if s.ctxSt d n = 5 then s.waitWake d n vd 0 else s
    | none => s)

/-- ENGINE_RUN (R188). -/
def execEngineRun (d : Die) (s : State) : Host.Outcome State Fault Refusal := .next (s.engineRun d)

/-- ENGINE_CRC_DONE (R188). -/
def execEngineCrcDone (d : Die) (s : State) : Host.Outcome State Fault Refusal := .next (s.engineCrcDone d)

/-- ENGINE_STOP (R189). -/
def execEngineStop (d : Die) (s : State) : Host.Outcome State Fault Refusal := .next (s.engineStop d)

/-- CONTEXT_RESTART (R172). -/
def execContextRestart (d : Die) (n : Ctx) (s : State) : Host.Outcome State Fault Refusal := .next (s.ctxRestart d n)

/-- SWTRIG (R168). -/
def execSwtrig (d : Die) (n : Ctx) (s : State) : Host.Outcome State Fault Refusal := .next (s.trigEvent d n 6)

/-- CLR_FLAGS (R176). -/
def execClrFlags (d : Die) (n : Ctx) (s : State) : Host.Outcome State Fault Refusal := .next (s.clearFlags d n 7)

/-- CLR_MAX (R171). -/
def execClrMax (d : Die) (n : Ctx) (s : State) : Host.Outcome State Fault Refusal :=
  .next (s.wr d F.OXE_CTX_CYC_MAX 0 n)

/-- OVERRIDE_RAMP (R180). -/
def execOverrideRamp (d : Die) (k : LPort) (rampMs : Fin 64) (s : State) : Host.Outcome State Fault Refusal :=
  .next (s.overrideStart d k (some rampMs.val))

/-- OVERRIDE_ZERO (R180). -/
def execOverrideZero (d : Die) (k : LPort) (s : State) : Host.Outcome State Fault Refusal :=
  .next (s.overrideStart d k none)

/-- OVERRIDE_RELEASE (R181). -/
def execOverrideRelease (d : Die) (k : LPort) (s : State) : Host.Outcome State Fault Refusal :=
  .next (s.overrideRelease d k)

/-- COEF_ENTRY_WRITE (R187). -/
def execCoefEntryWrite (d : Die) (e : Fin 4096) (w1 : Word) (s : State) : Host.Outcome State Fault Refusal :=
  .next (s.coefWrite d e.val w1)

/-- GEN_SYNC (R182). -/
def execGenSync (d : Die) (s : State) : Host.Outcome State Fault Refusal :=
  .next ((s.updOxe d (fun o => { o with sync := true })).onPorts (fun s k =>
    { s with cool := upd s.cool d (fun c => { c with port := upd c.port k (fun p => { p with skip := true }) }) }))

/-- CORR_CLEAR (R183). -/
def execCorrClear (d : Die) (k : Fin 8) (s : State) : Host.Outcome State Fault Refusal :=
  .next ((s.wr d F.OXE_COR_CTRL_DONE 0 k).updOxe d (fun o =>
    { o with bins := upd o.bins k (fun b => { b with i := 0, q := 0, n := 0 }) }))

/-- CORR_READ_LATCH (R183). -/
def execCorrReadLatch (d : Die) (k : Fin 8) (s : State) : Host.Outcome State Fault Refusal := .next (s.corLatch d k)

/-- EVTQ_POP (R205). -/
def execEvtqPop (d : Die) (safe : Bool) (s : State) : Host.Outcome State Fault Refusal := .next (s.evtPop d safe)

/-- CAP_BUFFER_RELEASE (R184). -/
def execCapBufferRelease (d : Die) (a b : Bool) (s : State) : Host.Outcome State Fault Refusal :=
  .next (s.capRelease d a b)

end Sys2Proof.Machine
end

