-- ==== Sys2Proof/Machine/Ports.lean ====
section
/-!
DEFINITION. Commands of the ports (chapter 11): port state requests, pilot cells, 10BASE-T1S, Stage Links, cable check
and precharge (R242 to R261).
-/

namespace Sys2Proof.Machine

namespace State

/-! ## Port state requests (R248, R250, R353, R397) -/

/-- The trip windows and comparators of a port loaded from a safety configuration (R143 to R145, R405, R412): values, then
the enables. A window newly enabled that no active sequence covers is ignored and sets ADC_ERR.TW_UNCOVERED. -/
def loadWindows (s : State) (d : Fin 8) (k : Fin 4) : State :=
  match (s.saf.get d).stored with
  | none => s
  | some c =>
    let s := (c.windows.filter (fun (w : CellWin) => w.cell / 16 == k.val)).foldl (fun (s : State) (w : CellWin) =>
      let s := ((s.wrI d F.ADC_TW_LOW w.aLow w.cell 0).wrI d F.ADC_TW_HIGH w.aHigh w.cell 0)
      let s := ((s.wrI d F.ADC_TW_LOW w.bLow w.cell 1).wrI d F.ADC_TW_HIGH w.bHigh w.cell 1)
      let en (s : State) (win : Nat) (on : Bool) : State :=
        if !on then s.clrBit d F.ADC_TWEN (w.cell % 32) win (w.cell / 32)
        else if s.winOn d w.cell win || s.winCovered d w.cell win then s.setBit d F.ADC_TWEN (w.cell % 32) win (w.cell / 32)
        else s.adcErr d F.ADC_ERR_TW_UNCOVERED
      en (en s 0 w.aEn) 1 w.bEn) s
    [2 * k.val, 2 * k.val + 1].foldl (fun (s : State) i => s.setWord (fldAddr d F.ADC_TC_CELL i 0) (c.comps.toList.getD i 0)) s

/-- A request judged and, when it is applied, followed by what it brings: the session record's start and stop values, and
the ramp stop of a RAMP_DOWN. CC_PASS of an earlier session falls on entry to CABLE_CHECK (log entry 22). -/
def psRequest (s : State) (d : Fin 8) (k : Fin 4) (tgt : Nat) (w : PsWriter) : State :=
  if s.shadowing || !s.psAllowed d k tgt w then s.psJudge d k tgt w
  else
    let first := decide (s.psState d k = 0) && decide (tgt < 9)
    let s := s.psJudge d k tgt w
    let s := if first then s.loadWindows d k else s
    if tgt = 1 then s.sessionStart d k
    else if tgt = 3 then s.wr d F.STL_PSAFE_CC_PASS 0 k
    else if tgt = 6 then s.rampBegin d k 0 (s.cfg d k).normalRamp
    else if tgt = 0 ∨ tgt = 8 ∨ tgt = 10 then s.sessionStop (portOf d k) 0
    else s

/-! ## Pilot cells (R244, R245) -/

/-- State code of a plateau in steps of 10 mV (R244). -/
def pilotCode (h : Int) : Nat :=
  if 1100 ≤ h ∧ h ≤ 1300 then 0
  else if 800 ≤ h ∧ h ≤ 1000 then 1
  else if 500 ≤ h ∧ h ≤ 700 then 2
  else if 200 ≤ h ∧ h ≤ 400 then 3
  else if -100 ≤ h ∧ h ≤ 100 then 4
  else 6

/-- A vehicle link's typed part changed. -/
def updVeh (s : State) (d : Fin 8) (k : Fin 4) (f : VehLink → VehLink) : State :=
  { s with veh := upd s.veh d (fun v => upd v k f) }

/-- The connection of an energised port is lost: the safety core stops it with cause 6 and requests FAULT (R246, R401). -/
def connLost (s : State) (d : Fin 8) (k : Fin 4) : State :=
  if 3 ≤ s.psState d k ∧ s.psState d k ≤ 6 then s.tripStop d k 6 else s

/-- A new decoded state is taken; A, E, F or invalid is a lost connection of a type 1 port (R246). -/
def pilotSet (s : State) (d : Fin 8) (k : Fin 4) (code : Nat) : State :=
  if s.rd d F.PIL_P_STAT_STATE k = code then s
  else
    let s := (s.wr d F.PIL_P_STAT_STATE code k).wr d F.PIL_P_STAT_CHG 1 k
    if code = 0 ∨ 4 ≤ code then s.connLost d k else s

/-- A measurement's decoded state: taken when three in a row agree (R244). -/
def pilotTake (s : State) (d : Fin 8) (k : Fin 4) (code : Nat) : State :=
  let v := (s.veh.get d).get k
  let n := if v.cand = code then min 3 (v.agree + 1) else 1
  let s := s.updVeh d k (fun v => { v with cand := code, agree := n })
  if n = 3 then s.pilotSet d k code else s

/-- A measurement decoded as in PWM mode: both plateaus, and the diode check, which follows the last measurement (R244; log
entry 23). -/
def pilotPwm (s : State) (d : Fin 8) (k : Fin 4) (high low : Int) : State :=
  let c := pilotCode high
  let bad := decide (1 ≤ c) && decide (c ≤ 3) && decide (-1100 < low)
  let s := (s.wrI d F.PIL_P_MEAS_HIGH high k).wrI d F.PIL_P_MEAS_LOW low k
  (s.wrB d F.PIL_P_STAT_DIODE_FAIL bad k).pilotTake d k (if bad then 6 else c)

/-- A steady level measured; `minus` lets −13.0 to −11.0 V read F (R244, R245). -/
def pilotSteady (s : State) (d : Fin 8) (k : Fin 4) (level : Int) (minus : Bool) : State :=
  let s := s.wrI d F.PIL_P_MEAS_HIGH level k
  s.pilotTake d k (if minus && decide (-1300 ≤ level) && decide (level ≤ -1100) then 5 else pilotCode level)

/-- PILOT_MEASUREMENT: plateaus in steps of 10 mV, and whether the line carries the square wave. The unit that drives
the line decodes by its MODE; without the claim the cell decodes what it sees. -/
def pilotMeasure (s : State) (d : Fin 8) (k : Fin 4) (high low : Int) (square : Bool) : State :=
  if s.portType d k ≠ 1 then s
  else if s.outEn then
    let m := s.rd d F.PIL_P_CTRL_MODE k
    if m = 2 then s.pilotPwm d k high low else if m = 1 then s.pilotSteady d k high false else s
  else if square then s.pilotPwm d k high low
  else s.pilotSteady d k high true

/-- PIL_PkCTRL.MODE written: steady −12 V reads F at once on the unit that drives the line (R244). -/
def pilotMode (s : State) (d : Fin 8) (k : Fin 4) (mode : Nat) : State :=
  let s := s.wr d F.PIL_P_CTRL_MODE mode k
  if mode = 3 ∧ s.outEn ∧ s.portType d k = 1 then
    (s.updVeh d k (fun v => { v with cand := 5, agree := 3 })).pilotSet d k 5
  else s

/-! ## 10BASE-T1S (R242, R245, R246) -/

/-- The port's MAC works: TYPE 2 and EN. -/
def t1sOn (s : State) (d : Fin 8) (k : Fin 4) : Bool := s.portType d k == 2 && s.on d F.T1S_P_CTRL_EN k

/-- LOOPBACK is honoured: BLANK and MAINTENANCE only. -/
def t1sLoop (s : State) (d : Fin 8) (k : Fin 4) : Bool :=
  s.on d F.T1S_P_CTRL_LOOPBACK k && (s.lifeState == 0 || s.lifeState == 3)

/-- Bus address of descriptor `i` of a ring. -/
def descAddr (base i : Nat) : Nat := base + 8 * i

/-- A word of host SRAM of die `d`; 0 outside it. -/
def sramWord (s : State) (d : Fin 8) (a : Nat) : Nat := leNat ((s.bufGet d a 4).getD [])

/-- A descriptor given back: OWN cleared, with the length and the error bit. -/
def descDone (s : State) (d : Fin 8) (a len : Nat) (err : Bool) : State :=
  s.bufPut d (a + 4) (leBytes 4 (len % 2048 + (if err then 2 ^ 30 else 0)))

/-- Descriptors per ring. -/
def t1sRing (s : State) (d : Fin 8) (k : Fin 4) : Nat := 2 ^ (s.rd d F.T1S_P_LOG2N_LOG2N k + 2)

/-- A frame into the next receive descriptor, or dropped for lack of one; a bad FCS counts in RX_ERR and sets the
descriptor's error bit (log entry 24). -/
def t1sReceive (s : State) (d : Fin 8) (k : Fin 4) (frame : List Byte) (ok : Bool) : State :=
  if !s.t1sOn d k then s
  else
    let s := if ok then s else s.satCnt d F.T1S_P_STAT_RX_ERR k
    let h := s.rd d F.T1S_P_HEADS_RXHEAD k
    let a := descAddr (s.rd d F.T1S_P_RXBASE k) h
    if bitOf (s.sramWord d (a + 4)) 31 then
      let s := s.bufPut d (s.sramWord d a) (frame.take 1522)
      let s := s.descDone d a (min 1522 frame.length) (!ok || decide (1522 < frame.length))
      s.wr d F.T1S_P_HEADS_RXHEAD ((h + 1) % s.t1sRing d k) k
    else s.satCnt d F.T1S_P_STAT_RX_DROP k

/-- The next transmit descriptor with OWN taken; `cut` ends it with an error (R242). A transmitter at high impedance sends
nothing (R245). -/
def t1sSend (s : State) (d : Fin 8) (k : Fin 4) (cut : Bool) : State :=
  let h := s.rd d F.T1S_P_HEADS_TXHEAD k
  let a := descAddr (s.rd d F.T1S_P_TXBASE k) h
  let w := s.sramWord d (a + 4)
  if !s.t1sOn d k || !bitOf w 31 || !(s.outEn || s.t1sLoop d k) then s
  else
    let n := min 1522 (bitsOf w 0 11)
    let f := (s.bufGet d (s.sramWord d a) n).getD []
    let s := if s.t1sLoop d k then s.t1sReceive d k f true else s.updVeh d k (fun v => { v with t1sTx := f })
    let s := s.descDone d a (bitsOf w 0 11) cut
    let s := if cut then s.wr d F.T1S_P_STAT_JABBER 1 k else s
    s.wr d F.T1S_P_HEADS_TXHEAD ((h + 1) % s.t1sRing d k) k

/-- LINK follows the link of an enabled type 2 port. -/
def t1sLink (s : State) (d : Fin 8) (k : Fin 4) (up : Bool) : State :=
  s.wrB d F.T1S_P_STAT_LINK (up && s.t1sOn d k) k

/-- LINK down for 200 ms: HOST requests UNLOCK or RAMP_DOWN (R246). -/
def t1sDown (s : State) (d : Fin 8) (k : Fin 4) : State :=
  let st := s.psState d k
  if s.portType d k ≠ 2 ∨ s.on d F.T1S_P_STAT_LINK k then s
  else if st = 1 ∨ st = 2 ∨ st = 7 ∨ st = 8 then s.psRequest d k 8 .host
  else if 3 ≤ st ∧ st ≤ 6 then s.psRequest d k 6 .host
  else s

/-! ## Stage Links (R255, R259 to R261) -/

/-- A periodic frame leaves: a queued urgent frame due at the same boundary goes first (R255, R259, R260). -/
def periodicFrame (s : State) (d : Fin 8) (k : Fin 4) : State :=
  if !s.stlSends d k then s
  else
    let s := (s.updStl d k (fun l => { l with gap := false })).flushUrgent d k
    let seq := (s.rd d F.STL_P_STAT_TX_SEQ k + 1) % 65536
    let s := s.wr d F.STL_P_STAT_TX_SEQ seq k
    s.updStl d k (fun l => { l with lastPer := s.periodicBytes d k seq, answered := false, inPer := true })

/-- A return frame is valid (R254, R258, R261). -/
def returnValid (symbols : Nat) (b : List Byte) (lineError : Bool) : Bool :=
  decide (symbols = 34) && decide (b.length = 32) && decide (field b 0 1 = 0x13) &&
    decide (field b 30 2 = crc16 (b.take 30)) && !lineError

/-- ACK_SEQ names a frame sent after the release of the halt (R260). -/
def ackedRelease (s : State) (d : Fin 8) (k : Fin 4) (ack : Nat) : Bool :=
  let rel := (s.link d k).relSeq
  let a := (ack + 65536 - rel) % 65536
  decide (1 ≤ a) && decide (a ≤ (s.rd d F.STL_P_STAT_TX_SEQ k + 65536 - rel) % 65536)

/-- RETURN_FRAME (R261). -/
def returnFrame (s : State) (d : Fin 8) (k : Fin 4) (symbols : Nat) (b : List Byte) (lineError : Bool) : State :=
  if !returnValid symbols b lineError then s.satCnt d F.STL_P_CNT_RX_CRC k
  else
    let s := (List.range 8).foldl (fun (s : State) w =>
      let x : Word := BitVec.ofNat 32 (field b (4 * w) 4)
      (s.wr d F.STL_P_RX x.toNat k w).ringPut d F.STL_RING_BASE F.STL_RING_SIZE_SIZE F.STL_RING_WPTR_WPTR
        F.STL_RING_WRAP_WRAP k x) s
    let s := (s.wr d F.STL_P_STAT_RX_OK 1 k).wr d F.STL_P_STAT_FOLLOWED (field b 1 1 % 2) k
    let s := if s.on d F.STL_P_HALT_RESYNC_PEND k && s.ackedRelease d k (field b 4 2) then
      s.wr d F.STL_P_HALT_RESYNC_PEND 0 k else s
    let s := s.updStl d k (fun l => { l with absent := false, answered := true, inPer := false, lastRx := s.now })
    (s.trigAll d 3 (fun n => s.rd d F.OXE_CTX_TRIG_PORT n == k.val)).waitEvent d 2 k

/-- RETURN_FRAME_MISS: a periodic frame no valid return frame has answered counts once (R261). -/
def returnMiss (s : State) (d : Fin 8) (k : Fin 4) : State :=
  if (s.link d k).answered || (s.link d k).lastPer.isEmpty then s
  else (s.satCnt d F.STL_P_CNT_RX_MISS k).updStl d k (fun l => { l with answered := true })

/-- RXLOST: once for an absence; an energised port is stopped with cause 7 (R261, R401). -/
def rxLost (s : State) (d : Fin 8) (k : Fin 4) : State :=
  if (s.link d k).absent then s
  else
    let s := (s.setBit d F.STL_EVT_RXLOST k).wr d F.STL_P_STAT_RX_OK 0 k
    let s := s.updStl d k (fun l => { l with absent := true })
    if 3 ≤ s.psState d k ∧ s.psState d k ≤ 6 then s.tripStop d k 7 else s

/-! ## Cable check (R252) -/

/-- The insulation measured in CABLE_CHECK: CC_PASS, the warning, or a ramp stop with cause 2 (R252, R415). -/
def cableIso (s : State) (d : Fin 8) (k : Fin 4) (ohm : Nat) : State :=
  if s.psState d k ≠ 3 then s
  else
    let s := (s.wr d F.SAF_P_ISO_RISO (min 65535 ohm) k).wr d F.SAF_P_ISO_VALID 1 k
    let s := s.wrB d F.SAF_P_ISO_WARN (decide (ohm < 500)) k
    let s := s.wrB d F.SAF_P_ISO_FAULT (decide (ohm < 100)) k
    let s := if ohm < 500 then s.setBit d F.SAF_EVT_INSUL_WARN k else s
    if 100 ≤ ohm then s.wr d F.STL_PSAFE_CC_PASS 1 k else s.rampStop d k 2 (s.cfg d k).insulRamp

end State

/-! ## Port state rows -/

/-- PSREQ_IDLE (R248). -/
def execPsreqIdle (d : Die) (k : LPort) (w : PsWriter) (s : State) : Host.Outcome State Fault Refusal :=
  .next (s.psRequest d k 0 w)

/-- PSREQ_CONNECTED (R248, R353). -/
def execPsreqConnected (d : Die) (k : LPort) (w : PsWriter) (s : State) : Host.Outcome State Fault Refusal :=
  .next (s.psRequest d k 1 w)

/-- PSREQ_AUTHORISING (R248). -/
def execPsreqAuthorising (d : Die) (k : LPort) (w : PsWriter) (s : State) : Host.Outcome State Fault Refusal :=
  .next (s.psRequest d k 2 w)

/-- PSREQ_CABLE_CHECK (R248). -/
def execPsreqCableCheck (d : Die) (k : LPort) (w : PsWriter) (s : State) : Host.Outcome State Fault Refusal :=
  .next (s.psRequest d k 3 w)

/-- PSREQ_PRECHARGE (R248). -/
def execPsreqPrecharge (d : Die) (k : LPort) (w : PsWriter) (s : State) : Host.Outcome State Fault Refusal :=
  .next (s.psRequest d k 4 w)

/-- PSREQ_CHARGING (R248). -/
def execPsreqCharging (d : Die) (k : LPort) (w : PsWriter) (s : State) : Host.Outcome State Fault Refusal :=
  .next (s.psRequest d k 5 w)

/-- PSREQ_RAMP_DOWN (R248, R397, R401). -/
def execPsreqRampDown (d : Die) (k : LPort) (w : PsWriter) (s : State) : Host.Outcome State Fault Refusal :=
  .next (s.psRequest d k 6 w)

/-- PSREQ_WELD_CHECK (R248). -/
def execPsreqWeldCheck (d : Die) (k : LPort) (w : PsWriter) (s : State) : Host.Outcome State Fault Refusal :=
  .next (s.psRequest d k 7 w)

/-- PSREQ_UNLOCK (R248, R353). -/
def execPsreqUnlock (d : Die) (k : LPort) (w : PsWriter) (s : State) : Host.Outcome State Fault Refusal :=
  .next (s.psRequest d k 8 w)

/-- PSREQ_FAULT (R248, R401). -/
def execPsreqFault (d : Die) (k : LPort) (w : PsWriter) (s : State) : Host.Outcome State Fault Refusal :=
  .next (s.psRequest d k 9 w)

/-- PSREQ_RETIRED (R248, R353). -/
def execPsreqRetired (d : Die) (k : LPort) (w : PsWriter) (s : State) : Host.Outcome State Fault Refusal :=
  .next (s.psRequest d k 10 w)

/-! ## Vehicle links -/

/-- PILOT_MEASUREMENT (R244 to R246). -/
def execPilotMeasurement (d : Die) (k : LPort) (high low : Int) (square : Bool) (s : State) :
    Host.Outcome State Fault Refusal := .next (s.pilotMeasure d k high low square)

/-- PILOT_MODE_WRITE (R244). -/
def execPilotModeWrite (d : Die) (k : LPort) (mode : Fin 4) (s : State) : Host.Outcome State Fault Refusal :=
  .next (s.pilotMode d k mode)

/-- T1S_LINK_CHANGE (R246). -/
def execT1sLinkChange (d : Die) (k : LPort) (up : Bool) (s : State) : Host.Outcome State Fault Refusal :=
  .next (s.t1sLink d k up)

/-- T1S_LINK_DOWN_TIMEOUT (R246). -/
def execT1sLinkDownTimeout (d : Die) (k : LPort) (s : State) : Host.Outcome State Fault Refusal :=
  .next (s.t1sDown d k)

/-- T1S_TRANSMIT (R242). -/
def execT1sTransmit (d : Die) (k : LPort) (s : State) : Host.Outcome State Fault Refusal := .next (s.t1sSend d k false)

/-- T1S_RECEIVE (R242). -/
def execT1sReceive (d : Die) (k : LPort) (frame : List Byte) (fcsOk : Bool) (s : State) :
    Host.Outcome State Fault Refusal := .next (s.t1sReceive d k frame fcsOk)

/-- JABBER (R242). -/
def execJabber (d : Die) (k : LPort) (s : State) : Host.Outcome State Fault Refusal := .next (s.t1sSend d k true)

/-! ## Stage Links, cable check and precharge -/

/-- PERIODIC_FRAME (R255, R258, R259). -/
def execPeriodicFrame (d : Die) (k : LPort) (s : State) : Host.Outcome State Fault Refusal := .next (s.periodicFrame d k)

/-- RETURN_FRAME (R254, R258, R260, R261). -/
def execReturnFrame (d : Die) (k : LPort) (symbols : Nat) (bytes : List Byte) (lineError : Bool) (s : State) :
    Host.Outcome State Fault Refusal := .next (s.returnFrame d k symbols bytes lineError)

/-- RETURN_FRAME_MISS (R261). -/
def execReturnFrameMiss (d : Die) (k : LPort) (s : State) : Host.Outcome State Fault Refusal := .next (s.returnMiss d k)

/-- RXLOST (R261). -/
def execRxlost (d : Die) (k : LPort) (s : State) : Host.Outcome State Fault Refusal := .next (s.rxLost d k)

/-- HALT (R260): a SAFE write. -/
def execHalt (d : Die) (k : LPort) (s : State) : Host.Outcome State Fault Refusal := .next (s.haltAssert d k 1)

/-- RELEASE (R260). -/
def execRelease (d : Die) (k : LPort) (s : State) : Host.Outcome State Fault Refusal := .next (s.haltRelease d k)

/-- CABLE_CHECK_INSULATION (R252). -/
def execCableCheckInsulation (d : Die) (k : LPort) (ohmPerV : Nat) (s : State) : Host.Outcome State Fault Refusal :=
  .next (s.cableIso d k ohmPerV)

/-- CABLE_CHECK_TIMEOUT (R252). -/
def execCableCheckTimeout (d : Die) (k : LPort) (s : State) : Host.Outcome State Fault Refusal :=
  .next (if s.psState d k = 3 then s.reqFault d k else s)

/-- PRECHARGE_TIMEOUT (R253). -/
def execPrechargeTimeout (d : Die) (k : LPort) (s : State) : Host.Outcome State Fault Refusal :=
  .next (if s.psState d k = 4 then s.psRequest d k 6 .host else s)

end Sys2Proof.Machine
end

