-- ==== Sys2Proof/Machine/Safety.lean ====
section
/-!
DEFINITION. Commands of the safety core (chapter 19): the scan with every function it evaluates, the timers of stops,
contactors, insulation and temperature, and the diagnostics (R392 to R415).
-/

namespace Sys2Proof.Machine

namespace State

/-- The port is energised: CABLE_CHECK to RAMP_DOWN. -/
def energised (s : State) (d : Fin 8) (k : Fin 4) : Bool := decide (3 ≤ s.psState d k) && decide (s.psState d k ≤ 6)

/-- A filtered demand of a used input (SAF_INk.DEMAND). -/
def demand (s : State) (d : Fin 8) (k : Fin 4) (n : Nat) : Bool := s.bit d F.SAF_IN_DEMAND n k

/-- A safety diagnostic has failed: the hardware of R414 holds the outputs and the program's scans have no effect. -/
def diagFail (s : State) (d : Fin 8) : Bool :=
  s.on d F.SAF_DIAG_ECC_UNCORR || s.on d F.SAF_DIAG_SIG_FAIL || s.on d F.SAF_DIAG_FLOW_FAIL || s.on d F.SAF_DIAG_CLK_FAIL
    || s.on d F.SAF_DIAG_SELFTEST_FAIL

/-! ## Inputs (R394) -/

/-- An input's filtered level and demand. -/
def setFilt (s : State) (d : Fin 8) (k : Fin 4) (n : Nat) (level : Bool) : State :=
  let used := bitOf (s.cfg d k).used.toNat n
  let s := if level then s.setBit d F.SAF_IN_FILT n k else s.clrBit d F.SAF_IN_FILT n k
  if !level && used then s.setBit d F.SAF_IN_DEMAND n k else s.clrBit d F.SAF_IN_DEMAND n k

/-- A mirror contact reads what its drive asks for: the check ends, an opening's time goes to CONTACT_MS (R396, R407). -/
def contactSeen (s : State) (d : Fin 8) (k : Fin 4) (n : Fin 2) (level : Bool) : State :=
  match (s.safPort d k).contact.get n with
  | none => s
  | some scans =>
    let drive := s.bit d F.SAF_OUT_CMD n.val k
    if level == !drive then
      let s := if drive then s else s.wr d F.SAF_P_TIME_CONTACT_MS (min 65535 (scans / 100)) k
      s.updSaf d k (fun p => { p with contact := p.contact.set n none })
    else s

/-! ## Output readback (R396) -/

/-- One output's readback compared with its command. -/
def readbackOut (s : State) (d : Fin 8) (k : Fin 4) (n : Fin 4) : State :=
  let bad := s.bit d F.SAF_OUT_CMD n.val k != s.bit d F.SAF_OUT_READBACK n.val k
  let c := (s.safPort d k).mism.get n
  let c' := if bad then min 4 (c + 1) else 0
  let s := s.updSaf d k (fun p => { p with mism := p.mism.set n c' })
  if c' = 3 then
    let s := (s.setBit d F.SAF_OUT_MISMATCH n.val k).fault d 1 0x0C (32 + 4 * k.val + n.val) 0x1006
      [(portOf d k).val, n.val]
    if n.val ≤ 1 then s.tripStop d k 13 else s
  else s

/-- Readback of the four outputs. -/
def readback (s : State) (d : Fin 8) (k : Fin 4) (rb : Nat) : State :=
  (List.finRange 4).foldl (fun (s : State) n => s.readbackOut d k n) (s.wr d F.SAF_OUT_READBACK rb k)

/-! ## Ramp monitoring (R398) -/

/-- A current in nA is above the envelope `n` scans of 10 µs into a ramp of `ms` ms from `i0` nA. -/
def aboveEnvelope (c : PortCfg) (i0 na : Int) (ms n : Nat) : Bool :=
  let tol : Int := c.iRated * c.monTol * 10000000
  let lag := c.monLag * 10
  let ramp := ms * 100
  if n ≤ lag then decide (i0 + tol < na)
  else decide (i0 * (max 0 ((ramp : Int) - (n - lag : Nat))) < (na - tol) * ramp)

/-- One scan of a ramp stop's monitoring; the third scan in a row above the envelope is a trip stop with cause 9. A scan without a
valid current word judges nothing (R139). -/
def rampMonitor (s : State) (d : Fin 8) (k : Fin 4) : State :=
  match (s.safPort d k).ramp with
  | none => s
  | some (c, ms, i0, n) =>
    let n := n + 1
    let above := (s.safPort d k).above
    let a := (s.portNa d k).elim above (fun na => if aboveEnvelope (s.cfg d k) i0 na ms n then above + 1 else 0)
    let s := s.updSaf d k (fun p => { p with ramp := some (c, ms, i0, n), above := a })
    if 3 ≤ a then (s.wr d F.SAF_P_STAT_RAMP_MON_FAIL 1 k).tripStop d k 9 else s

/-! ## Lost cells and trip coverage (R406, R409) -/

/-- A measuring cell whose results carry INV for 10 ms is lost. -/
def invWatch (s : State) (d : Fin 8) (k : Fin 4) (i : Fin 4) (cell q : Nat) (used : Bool) : State :=
  let n := if used && s.cellInv d cell then min 1001 ((s.safPort d k).inv.get i + 1) else 0
  let s := s.updSaf d k (fun p => { p with inv := p.inv.set i n })
  if n = 1000 then s.degrade d k q else s

/-- The four measuring cells of a port. -/
def cellWatch (s : State) (d : Fin 8) (k : Fin 4) : State :=
  let s := s.invWatch d k 0 (s.mapCell d k F.ADC_MTRMAP_I_CELL) 1 true
  let s := s.invWatch d k 1 (s.mapCell d k F.ADC_MTRMAP_H_CELL) 1 (s.on d F.ADC_MTRMAP_H_EN k)
  (s.invWatch d k 2 (16 * k.val) 0 true).invWatch d k 3 (16 * k.val + 1) 0 true

/-- Every enabled window of the port is covered by a sequence that runs, with the main reference ready (R148). -/
def covIntact (s : State) (d : Fin 8) (k : Fin 4) : Bool :=
  (s.adc.get d).refOk && (s.sqRuns d 0 || s.sqRuns d 1) &&
    ((List.range 16).map (16 * k.val + ·)).all (fun c =>
      (!s.winOn d c 0 || s.winCovered d c 0) && (!s.winOn d c 1 || s.winCovered d c 1))

/-! ## Causes in a scan -/

/-- The stop a cause brings when its condition begins (R401). -/
def causeStart (s : State) (d : Fin 8) (k : Fin 4) (c : Nat) : State :=
  let g := s.cfg d k
  if bitOf (s.safPort d k).active.toNat c then s
  else if c = 1 ∨ c = 11 then s.rampStop d k c g.estopRamp
  else if c = 2 then s.rampStop d k c g.insulRamp
  else if c = 4 then s.rampStop d k c g.tempRamp
  else if c = 8 ∨ c = 10 then s.rampStop d k c g.normalRamp
  else s.tripStop d k c

/-- A fast trip counted: the third within 10 min sets TRIP_LATCH (R405). -/
def countTrip (s : State) (d : Fin 8) (k : Fin 4) : State :=
  let l := ((s.safPort d k).trips.filter (fun t => s.now - t < 600000000000)) ++ [s.now]
  let s := s.updSaf d k (fun p => { p with trips := l })
  if 3 ≤ l.length then s.wr d F.SAF_P_STAT_TRIP_LATCH 1 k else s

/-- OXE_PROG_CRC against the configuration's engine CRC (R188, R414). -/
def crcOk (s : State) (d : Fin 8) : Bool :=
  match (s.saf.get d).stored with
  | some c => s.on d F.OXE_STAT_CRC_DONE && decide (s.rd d F.OXE_PROG_CRC = c.engineCrc.toNat)
  | none => false

/-- The engine's CRC is complete and wrong. -/
def crcBad (s : State) (d : Fin 8) : Bool :=
  match (s.saf.get d).stored with
  | some c => s.on d F.OXE_STAT_CRC_DONE && decide (s.rd d F.OXE_PROG_CRC ≠ c.engineCrc.toNat)
  | none => false

/-- A temperature of R404 stands above its limit: a pin cell or the outlet cell at 0.01 °C per code, or its INV (log
entry 29). -/
def tempHot (s : State) (d : Fin 8) (k : Fin 4) : Bool :=
  let g := s.cfg d k
  let hot (c lim : Nat) : Bool := s.cellInv d (16 * k.val + c) || decide ((100 * lim : Int) < s.cellCode d (16 * k.val + c))
  hot 8 g.tPinStop || hot 9 g.tPinStop || hot 7 g.tOutStop

/-- The pilot of a type 1 port decodes A, E, F or invalid: no vehicle is connected (R246). -/
def pilotGone (s : State) (d : Fin 8) (k : Fin 4) : Bool :=
  s.portType d k == 1 && (s.rd d F.PIL_P_STAT_STATE k == 0 || decide (4 ≤ s.rd d F.PIL_P_STAT_STATE k))

/-- Conditions that begin a stop by themselves in a scan, in the order of their codes (R402 to R405, R415, R246, R188). -/
def scanCauses (s : State) (d : Fin 8) (k : Fin 4) : List Nat :=
  let veh := s.portType d k == 1 || s.portType d k == 2
  (if s.demand d (s.cfg d k).estopSrc 0 then [1] else []) ++ (if s.demand d k 5 then [2] else []) ++
    (if s.tripLatched d k then [3] else []) ++
    (if s.energised d k && (veh && s.demand d k 1 || s.pilotGone d k) then [6] else []) ++
    (if s.crcBad d then [8] else []) ++ (if s.demand d k 2 then [11] else [])

/-- The cause an input's demand brings: emergency stop, connection lost, door, insulation alarm (R402, R246, R401, R403). -/
def inputCause (n : Nat) : Nat := if n = 0 then 1 else if n = 1 then 6 else if n = 2 then 11 else if n = 5 then 2 else 0

/-- The stop that input `n` of port `k` brings at its filtered change, to every port it serves: the site emergency stop to those that
name it (R402). -/
def inputStops (s : State) (d : Fin 8) (k : Fin 4) (n : Nat) : State :=
  if s.pkg.die.get d ≠ .running || s.diagFail d || s.hold || !s.on d F.SAF_STAT_SELFTEST_OK then s
  else
    s.onPorts (fun s j =>
      let serves := if n = 0 then decide ((s.cfg d j).estopSrc = k) else decide (j = k)
      if serves && s.portType d j != 0 && (s.scanCauses d j).contains (inputCause n) then s.causeStart d j (inputCause n) else s)

/-- SAFETY_INPUT_FILTER. -/
def inputFilter (s : State) (d : Fin 8) (k : Fin 4) (n : Fin 8) (level : Bool) : State :=
  let s := s.setFilt d k n.val level
  if n = 3 then s.contactSeen d k 0 level else if n = 4 then s.contactSeen d k 1 level else s.inputStops d k n.val

/-- Conditions that have ended (R401; log entry 27). -/
def endedCauses (s : State) (d : Fin 8) (k : Fin 4) : List Nat :=
  let p := s.safPort d k
  let e := s.energised d k
  let own : Fin 8 := ⟨s.rd d F.OXE_PORT_CFG_OWNER k % 8, Nat.mod_lt _ (by decide)⟩
  (if s.demand d (s.cfg d k).estopSrc 0 then [] else [1]) ++ (if s.demand d k 5 || e then [] else [2]) ++
    (if s.tempHot d k || (e && s.demand d k 6) then [] else [4]) ++
    (if s.on d F.STL_PSAFE_UNLOCK_OK k then [5] else []) ++ (if e then [] else [6, 9]) ++
    (if (s.link d k).absent then [] else [7]) ++
    (if s.crcBad d || s.ctxSt d own == 6 then [] else [8]) ++ (if p.degOut then [] else [10]) ++
    (if s.demand d k 2 then [] else [11]) ++
    (if s.on d F.SAF_P_STAT_TRIP_COV k && p.degCauses.isEmpty then [12] else []) ++
    (if p.tripOpen.isNone && decide (p.mism.get 0 < 3) && decide (p.mism.get 1 < 3) then [13] else []) ++
    (if s.pkg.pd = .none && s.pkg.rootLock && !s.faults.chipResp && !s.faults.regionResp.get d then [14] else [])

/-! ## Consents -/

/-- PERMIT is withheld (R252, R396, R401, R402, R405, R407, R409, R413, R414); the life-cycle states without sessions give
none (R77). -/
def permitHeld (s : State) (d : Fin 8) (k : Fin 4) : Bool :=
  s.on d F.STL_PSAFE_FAULT_ACT k || s.demand d (s.cfg d k).estopSrc 0 || s.on d F.SAF_P_STAT_WELD_LATCH k ||
    s.on d F.SAF_P_STAT_TRIP_LATCH k || s.bit d F.SAF_OUT_MISMATCH 2 k || s.bit d F.SAF_OUT_MISMATCH 3 k ||
    (s.safPort d k).degOut || !s.on d F.SAF_STAT_CFG_VALID || !s.on d F.SAF_STAT_SELFTEST_OK || !s.on d F.SAF_STAT_CRC_OK
    || s.portType d k == 0 || s.psState d k == 10 || s.lifeState == 0 || decide (3 ≤ s.lifeState)

/-- What PERMIT needs to be set: the connector latched, and both contactor feedbacks open (R252). A buffer port has no
connector (log entry 26); for the insulation measurement see log entry 97. -/
def permitReady (s : State) (d : Fin 8) (k : Fin 4) : Bool :=
  (s.portType d k == 3 || s.bit d F.SAF_IN_FILT 1 k) && s.bit d F.SAF_IN_FILT 3 k && s.bit d F.SAF_IN_FILT 4 k

/-- PERMIT after a scan: withdrawn, set, or kept (R249, R252). -/
def permitScan (s : State) (d : Fin 8) (k : Fin 4) : State :=
  if s.permitHeld d k then s.wr d F.STL_PSAFE_PERMIT 0 k
  else if s.permitReady d k then s.wr d F.STL_PSAFE_PERMIT 1 k
  else s

/-- Both voltage cells read below 60 V and SOUT0 to SOUT2 are released (R408). -/
def unlockHolds (s : State) (d : Fin 8) (k : Fin 4) : Bool :=
  let low (c : Nat) : Bool := (s.portNv d k c).any (fun v => decide (v < 60000000000))
  low 0 && low 1 && s.rd d F.SAF_OUT_CMD k % 8 == 0

/-- A condition of UNLOCK_OK fails: a valid voltage at or above 60 V, or an output driven (R139, R408; log entry 113). -/
def unlockFails (s : State) (d : Fin 8) (k : Fin 4) : Bool :=
  let high (c : Nat) : Bool := (s.portNv d k c).any (fun v => decide (60000000000 ≤ v))
  high 0 || high 1 || s.rd d F.SAF_OUT_CMD k % 8 != 0

/-- The enable of the lock channel follows UNLOCK_OK (R408). -/
def lockEnable (s : State) (d : Fin 8) (k : Fin 4) : State :=
  let n := 3 * k.val + (s.cfg d k).lockChan
  if s.on d F.STL_PSAFE_UNLOCK_OK k then s.setBit d F.LSW_SAFE_EN_EN n else s.clrBit d F.LSW_SAFE_EN_EN n

/-- UNLOCK_OK falls as soon as a condition fails (R408); in WELD_CHECK, with the contacts' checks passed, it leads to
UNLOCK, or IDLE for a buffer port (R407, R248). -/
def unlockScan (s : State) (d : Fin 8) (k : Fin 4) : State :=
  let s := if s.unlockFails d k then s.wr d F.STL_PSAFE_UNLOCK_OK 0 k else s
  let s := s.lockEnable d k
  let p := s.safPort d k
  if s.psState d k = 7 ∧ s.on d F.STL_PSAFE_UNLOCK_OK k ∧ (p.contact.get 0).isNone ∧ (p.contact.get 1).isNone ∧
      !s.on d F.SAF_P_STAT_WELD_LATCH k then
    s.psRequest d k (if s.portType d k = 3 then 0 else 8) .safe
  else s

/-! ## The scan -/

/-- Timers of stops and contact checks moved on by one scan. -/
def scanTimers (s : State) (d : Fin 8) (k : Fin 4) : State :=
  s.updSaf d k (fun p => { p with tripOpen := p.tripOpen.map (· + 1), contact := p.contact.map (fun c => c.map (· + 1)) })

/-- Of several causes that begin in one scan the lowest is recorded (R415): CAUSE was free and `old` held. -/
def firstCause (s : State) (d : Fin 8) (k : Fin 4) (free : Bool) (old : BitVec 16) : State :=
  match (List.range 16).find? (fun c => bitOf ((s.safPort d k).active &&& ~~~old).toNat c) with
  | some c => if free then s.wr d F.STL_PSAFE_CAUSE c k else s
  | none => s

/-- One port's scan (R394 to R409): readback, monitoring, causes, consents, and the outputs of its state's row. -/
def scanPort (s : State) (d : Fin 8) (k : Fin 4) (raw rb : Nat) : State :=
  let s := s.wr d F.SAF_IN_RAW raw k
  if s.portType d k = 0 then (s.readback d k rb).applyRow d k
  else
    let free := s.rd d F.STL_PSAFE_CAUSE k == 0
    let old := (s.safPort d k).active
    let s := ((s.scanTimers d k).readback d k rb).rampMonitor d k
    let s := s.cellWatch d k
    let s := if s.covIntact d k then s.wr d F.SAF_P_STAT_TRIP_COV 1 k else s
    let s := if s.on d F.SAF_STAT_SELFTEST_OK then
        let s := if s.tripLatched d k && !bitOf (s.safPort d k).active.toNat 3 then s.countTrip d k else s
        (s.scanCauses d k).foldl (fun (s : State) c => s.causeStart d k c) s
      else s
    let s := s.firstCause d k free old
    let s := (s.endedCauses d k).foldl (fun (s : State) c =>
      if bitOf (s.safPort d k).active.toNat c then s.causeOff d k c else s) s
    ((s.permitScan d k).unlockScan d k).applyRow d k

/-- SAFETY_SCAN of a die whose safety core runs. -/
def safetyScan (s : State) (d : Fin 8) (inputs : Vector Byte 4) (rb : Vector (BitVec 4) 4) : State :=
  if s.pkg.die.get d ≠ .running ∨ s.diagFail d ∨ s.hold then s
  else
    let s := s.wrB d F.SAF_STAT_CRC_OK (s.crcOk d)
    s.onPorts (fun s k => s.scanPort d k (inputs.get k).toNat (rb.get k).toNat)

/-! ## Timers -/

/-- CONTACT_TIMEOUT (R396, R407). -/
def contactTimeout (s : State) (d : Fin 8) (k : Fin 4) (n : Fin 2) : State :=
  match (s.safPort d k).contact.get n with
  | none => s
  | some scans =>
    let drive := s.bit d F.SAF_OUT_CMD n.val k
    let openNow := s.bit d F.SAF_IN_FILT (3 + n.val) k
    let s := s.updSaf d k (fun p => { p with contact := p.contact.set n none })
    if drive then (if openNow then s.tripStop d k 13 else s)
    else if openNow then s
    else
      let s := (s.wr d F.SAF_P_STAT_WELD_LATCH 1 k).setBit d F.SAF_EVT_WELD k
      let s := (s.wr d F.SAF_P_TIME_CONTACT_MS (min 65535 (scans / 100)) k).causeOn d k 5
      if s.psState d k = 7 then s.reqFault d k else s

/-- INSULATION_WINDOW (R403): averages in mV at the end of a window. The window with SOUT3 open is kept; the one with
SOUT3 closed gives r_iso = R_M (p1 m2 − m1 p2) / (p2 (p1 + m1)). -/
def insulation (s : State) (d : Fin 8) (k : Fin 4) (up um : Nat) : State :=
  if !s.energised d k then s
  else if !s.bit d F.SAF_OUT_CMD 3 k then
    (s.updSaf d k (fun p => { p with isoA := some (up, um) })).setSout d k (s.rd d F.SAF_OUT_CMD k + 8)
  else
    let g := s.cfg d k
    let s := s.setSout d k (s.rd d F.SAF_OUT_CMD k % 8)
    match (s.safPort d k).isoA with
    | none => s
    | some (p1, m1) =>
      let s := s.updSaf d k (fun p => { p with isoA := none })
      let low (x : Nat) : Bool := decide (x < 50 * g.uRated)
      if low p1 || low m1 || low up || low um || decide (g.uRated = 0) then s.wr d F.SAF_P_ISO_VALID 0 k
      else
        let num := g.rM * 1000 * (p1 * um - m1 * up)
        let den := up * (p1 + m1) * g.uRated
        let shown := (Config.divOpen 403 num den).toNat
        let warn := decide (num < g.isoWarn * den)
        let bad := decide (num < g.isoFault * den)
        let s := (s.wr d F.SAF_P_ISO_RISO (min 65535 shown) k).wr d F.SAF_P_ISO_VALID 1 k
        let s := (s.wrB d F.SAF_P_ISO_WARN warn k).wrB d F.SAF_P_ISO_FAULT bad k
        let s := if warn then s.setBit d F.SAF_EVT_INSUL_WARN k else s
        let n := if bad then min 2 ((s.safPort d k).isoLow + 1) else 0
        let s := s.updSaf d k (fun p => { p with isoLow := n })
        if n = 2 ∧ s.psState d k ≠ 3 then s.causeStart d k 2 else s

/-- TRIP_CLEAR (R405): the port's latched trip bits and FAULT_ACT's cause 3, unless a comparator of it still trips. -/
def tripClear (s : State) (d : Fin 8) (k : Fin 4) : State :=
  if bitsOf (s.rd d F.ADC_TC_STAT_LEVEL) (2 * k.val) 2 ≠ 0 ∨ !s.tripLatched d k then s
  else
    let s := s.latchClear d (if k.val < 2 then .lo else .hi) (0xFFFF * 2 ^ (16 * (k.val % 2)))
    (s.latchClear d .comparators (3 * 2 ^ (2 * k.val))).causeOff d k 3

/-- DEGRADED_TIME_EXPIRY (R409, R415). -/
def degradedOut (s : State) (d : Fin 8) (k : Fin 4) : State :=
  let p := s.safPort d k
  if !s.on d F.SAF_P_STAT_DEGRADED k || p.degOut then s
  else
    let s := (s.wr d F.SAF_P_STAT_DEG_LEFT 0 k).updSaf d k (fun p => { p with degOut := true })
    if p.ramp.isSome || p.tripOpen.isSome then s else s.causeStart d k 10

/-- UNLOCK_OK_SET (R408): both voltages below 60 V for 100 ms with the drives released. -/
def unlockSet (s : State) (d : Fin 8) (k : Fin 4) : State :=
  if s.unlockHolds d k then
    let s := (s.wr d F.STL_PSAFE_UNLOCK_OK 1 k).lockEnable d k
    if bitOf (s.safPort d k).active.toNat 5 then s.causeOff d k 5 else s
  else s

/-- A word of the safety core's SRAM corrected and counted (R414). -/
def safetyCorr (s : State) (d : Fin 8) : State :=
  ({ s with saf := upd s.saf d (fun c => { c with eccCorr := c.eccCorr + 1 }) }.wr d F.SAF_DIAG_ECC_CORR 1).wr d F.SAF_EVT_DIAG 1

/-- A failed safety diagnostic, SAF_DIAG bit `b` (R414): INH, halt and every SOUT through hardware, cause 15, and a region
fault of the die. -/
def safetyDiag (s : State) (d : Fin 8) (b : Nat) : State :=
  let a := fldAddr d F.SAF_DIAG_FIRST 0 0
  let s := s.setWord a (s.word a ||| BitVec.ofNat 32 (2 ^ b))
  let s := if s.rd d F.SAF_DIAG_FIRST = 0 then s.wr d F.SAF_DIAG_FIRST (b + 1) else s
  let s := ((s.wr d F.SAF_EVT_DIAG 1).setInhDie d Inh.diag true).haltDie d 1
  let s := s.onPorts (fun s k => ((s.tripStop d k 15).dropSout d k 15).reqFault d k)
  s.regionFault d 0x3003 [(s.word (fldAddr d F.SAF_DIAG_FIRST 0 0)).toNat]

/-- The cells that fail the start-up self-test, cell faults of R462: trip comparators, pilot cells, safety inputs (codes 0x1003 to
0x1005). -/
def cellTests (s : State) (d : Fin 8) (comps : BitVec 8) (pilots : BitVec 4) (inputs : BitVec 32) : State :=
  let s := (List.range 8).foldl (fun (s : State) i =>
    if bitOf comps.toNat i then s.fault d 1 0x04 (72 + i) 0x1003 [i] else s) s
  let s := (List.finRange 4).foldl (fun (s : State) k =>
    if bitOf pilots.toNat k.val then s.fault d 1 0x12 k.val 0x1004 [(portOf d k).val] else s) s
  (List.range 32).foldl (fun (s : State) i =>
    if bitOf inputs.toNat i then s.fault d 1 0x0C i 0x1005 [4 * d.val + i / 8, i % 8] else s) s

/-- SELFTEST_DONE (R414): the configuration is loaded and its windows set (R405, R412). -/
def selftestDone (s : State) (d : Fin 8) (r : SelfTest) : State :=
  if s.pkg.die.get d ≠ .running then s
  else
  let s := s.cellTests d r.comps r.pilots r.inputs
  if !r.passed then (s.wr d F.SAF_STAT_SELFTEST_OK 0).safetyDiag d 5
  else
    let s := (s.wr d F.SAF_STAT_SELFTEST_OK 1).wrB d F.SAF_STAT_CFG_VALID (s.saf.get d).stored.isSome
    let s := s.wrB d F.SAF_STAT_CRC_OK (s.crcOk d)
    s.onPorts (fun s k => s.loadWindows d k)

end State

/-- SAFETY_SCAN (R394 to R409). -/
def execSafetyScan (d : Die) (inputs : Vector Byte 4) (rb : Vector (BitVec 4) 4) (s : State) :
    Host.Outcome State Fault Refusal := .next (s.safetyScan d inputs rb)

/-- SAFETY_INPUT_FILTER (R394, R402, R403, R407). -/
def execSafetyInputFilter (d : Die) (k : LPort) (n : Fin 8) (level : Bool) (s : State) :
    Host.Outcome State Fault Refusal := .next (s.inputFilter d k n level)

/-- TRIP_OPEN_EXPIRY (R399). -/
def execTripOpenExpiry (d : Die) (k : LPort) (s : State) : Host.Outcome State Fault Refusal :=
  .next (if (s.safPort d k).tripOpen.isSome then s.tripEnd d k else s)

/-- RAMP_DEADLINE (R397): at AT_ZERO or at the deadline. -/
def execRampDeadline (d : Die) (k : LPort) (s : State) : Host.Outcome State Fault Refusal :=
  .next (if (s.safPort d k).ramp.isSome then s.rampEnd d k else s)

/-- CONTACT_TIMEOUT (R396, R407). -/
def execContactTimeout (d : Die) (k : LPort) (n : Fin 2) (s : State) : Host.Outcome State Fault Refusal :=
  .next (s.contactTimeout d k n)

/-- INSULATION_WINDOW (R403). -/
def execInsulationWindow (d : Die) (k : LPort) (uPlus uMinus : Nat) (s : State) : Host.Outcome State Fault Refusal :=
  .next (s.insulation d k uPlus uMinus)

/-- TEMPERATURE_STOP_TIMER (R404). -/
def execTemperatureStopTimer (d : Die) (k : LPort) (s : State) : Host.Outcome State Fault Refusal :=
  .next (if s.tempHot d k then s.causeStart d k 4 else s)

/-- FLOW_TIMEOUT (R404). -/
def execFlowTimeout (d : Die) (k : LPort) (s : State) : Host.Outcome State Fault Refusal :=
  .next (if s.energised d k && s.demand d k 6 then s.causeStart d k 4 else s)

/-- TRIP_CLEAR (R405). -/
def execTripClear (d : Die) (k : LPort) (s : State) : Host.Outcome State Fault Refusal := .next (s.tripClear d k)

/-- DEGRADED_TIME_EXPIRY (R409). -/
def execDegradedTimeExpiry (d : Die) (k : LPort) (s : State) : Host.Outcome State Fault Refusal :=
  .next (s.degradedOut d k)

/-- UNLOCK_OK_SET (R408). -/
def execUnlockOkSet (d : Die) (k : LPort) (s : State) : Host.Outcome State Fault Refusal := .next (s.unlockSet d k)

/-- SAFETY_PASSWORD_LOCKOUT_END (R412). -/
def execSafetyPasswordLockoutEnd (d : Die) (s : State) : Host.Outcome State Fault Refusal :=
  .next ({ s with saf := upd s.saf d (fun c => { c with wrong := [] }) }.wr d F.SAF_STAT_CFG_LOCKED 0)

/-- SAFETY_DIAGNOSTIC_FAULT (R414): the SAF_DIAG bit; bit 0 is a corrected word, no fault. -/
def execSafetyDiagnosticFault (d : Die) (bit : Fin 6) (s : State) : Host.Outcome State Fault Refusal :=
  .next (if bit = 0 then s.safetyCorr d else s.safetyDiag d bit.val)

/-- SELFTEST_DONE (R414). -/
def execSelftestDone (d : Die) (result : SelfTest) (s : State) : Host.Outcome State Fault Refusal :=
  .next (s.selftestDone d result)

end Sys2Proof.Machine
end

