-- ==== Sys2Proof/Machine/Lsw.lean ====
section
/-!
DEFINITION. Commands of the load switches and of the thermal block (chapter 20): channels, groups, the 24 V rail's effect
on them, die temperature, thermal shut-down and compensation (R416 to R434).
-/

namespace Sys2Proof.Machine

/-- A 16-bit sensor word as a temperature in 1/16 °C. -/
def sens (t : BitVec 16) : Int := t.toInt

namespace State

/-! ## Channels -/

/-- A channel's typed part. -/
def lswChan (s : State) (d : Fin 8) (n : Fin 12) : LswChan := (s.lsw.get d).chan.get n

/-- A channel's typed part changed. -/
def updLsw (s : State) (d : Fin 8) (n : Fin 12) (f : LswChan → LswChan) : State :=
  { s with lsw := upd s.lsw d (fun l => { l with chan := upd l.chan n f }) }

/-- State code of a channel. -/
def lswSt (s : State) (d : Fin 8) (n : Fin 12) : Nat := s.rd d F.LSW_CH_STAT_STATE n

/-- The duty comes from an engine data word of C5 or C6 (R417). -/
def lswEngine (s : State) (d : Fin 8) (n : Fin 12) : Bool :=
  s.on d F.LSW_CH_DSRC_EN n && (s.rd d F.LSW_CH_DSRC_CTX n == 5 || s.rd d F.LSW_CH_DSRC_CTX n == 6)

/-- The duty as read at the start of a period (R264, R418). -/
def lswDuty (s : State) (d : Fin 8) (n : Fin 12) : Nat :=
  if s.lswEngine d n then
    let c := s.rd d F.LSW_CH_DSRC_CTX n
    let i := (s.rd d F.OXE_CTX_DWIN_DBASE c + s.rd d F.LSW_CH_DSRC_OFFSET n) % 2048
    (clampI 0 10000 (s.dataGet d i)).toNat
  else s.rd d F.LSW_CH_CMD_DUTY n

/-- The channel is requested (R417). -/
def lswReq (s : State) (d : Fin 8) (n : Fin 12) : Bool :=
  s.on d F.LSW_CH_CMD_ON n || (s.lswEngine d n && decide (0 < s.lswDuty d n))

/-- A rail condition of R428 holds the die's channels off. -/
def railBad (s : State) (d : Fin 8) : Bool :=
  !s.on d F.LSW_RAIL_V24_OK || s.on d F.LSW_RAIL_OV || s.on d F.LSW_RAIL_UV || s.on d F.LSW_RAIL_GND_LOST ||
    s.on d F.LSW_RAIL_REVERSE

/-- Group of a channel. -/
def lswGroup (n : Fin 12) : Nat := n.val / 3

/-- OUT brought up to date (R417); with PWM it shows the period's on phase (log entry 30). -/
def lswOut (s : State) (d : Fin 8) (n : Fin 12) : State :=
  let c := s.lswChan d n
  let st := s.lswSt d n
  let duty := if s.rd d F.LSW_CH_CFG_PWM_HZ n = 0 then s.on d F.LSW_CH_CMD_ON n || decide (0 < s.lswDuty d n)
    else decide (0 < c.duty)
  let on := s.bit d F.LSW_SAFE_EN_EN n && s.lswReq d n && (st == 1 || st == 2) && !c.gap && !s.railBad d &&
    !s.on d F.LSW_CH_STAT_GROUP_OFF n && !s.hold && decide (s.pkg.die.get d = .running) && decide (s.pkg.pd = .none ∨ s.pkg.pd = .asserted)
  s.wrB d F.LSW_CH_STAT_OUT (on && duty) n

/-- A state code written, with FAULT of LSW_EVT where the code calls for it. -/
def lswSet (s : State) (d : Fin 8) (n : Fin 12) (st : Nat) : State :=
  let s := s.wr d F.LSW_CH_STAT_STATE st n
  let s := if 4 ≤ st then s.setBit d F.LSW_EVT_FAULT n else s
  s.lswOut d n

/-- A fresh inrush window (R420). -/
def inrush (s : State) (d : Fin 8) (n : Fin 12) : State :=
  let s := s.updLsw d n (fun c => { c with window := some s.now, held := 0, since := none, gap := false, duty := s.lswDuty d n })
  ((s.wr d F.LSW_CH_STAT_INRUSH_USED 0 n).wr d F.LSW_CH_STAT_PAUSED 0 n).lswSet d n 1

/-- Faults of a channel in the restart window (R422). -/
def lswCounted (s : State) (d : Fin 8) (n : Fin 12) : List Nat :=
  let win := max 1 (s.rd d F.LSW_CFG_RESTART_WIN) * 1000000000
  (s.lswChan d n).shorts.filter (fun t => decide (s.now - t < win))

/-- A fault under a channel's own budget: logged, and permanent past RESTART_MAX (R422, R458); counted nowhere within a fault
response (R460). `next` is the state code of a retry. -/
def lswFault (s : State) (d : Fin 8) (n : Fin 12) (code next x : Nat) : State :=
  if s.isRetired d 1 0x11 n then s
  else
    let within := s.inResponse d 1
    let l := if within then s.lswCounted d n else s.lswCounted d n ++ [s.now]
    let s := s.updLsw d n (fun c => { c with shorts := l, gap := false, window := none, since := none })
    let s := (s.wr d F.LSW_CH_STAT_RESTARTS (min 15 l.length) n).wr d F.LSW_CH_STAT_PAUSED 0 n
    let perm := decide (s.rd d F.LSW_CFG_RESTART_MAX < l.length)
    if within then (s.log d code 0 0x11 n 0 [n, x]).lswSet d n next
    else
      let s := (s.log d code (if perm then 2 else 1) 0x11 n (min 255 l.length) [n, x]).errRegs d 1 0x11 code l.length perm
      let s := s.fcnt d 1 l.length
      if perm then (s.lswSet d n 7).retireElem d 1 0x11 n code l.length false code else s.lswSet d n next

/-- A short (R422). -/
def lswShort (s : State) (d : Fin 8) (n : Fin 12) : State :=
  s.lswFault d n 0x1007 4 ((s.lswCounted d n).length + 1)

/-- LSW_REQUEST (R417, R420). -/
def lswRequest (s : State) (d : Fin 8) (n : Fin 12) : State :=
  if !s.lswReq d n || (s.lswChan d n).req then s
  else
    let s := s.updLsw d n (fun c => { c with req := true })
    if s.lswSt d n = 0 then s.inrush d n else s

/-- LSW_REQUEST_WITHDRAW (R426). -/
def lswWithdraw (s : State) (d : Fin 8) (n : Fin 12) : State :=
  if s.lswReq d n then s
  else
    let s := s.updLsw d n (fun c => { c with req := false })
    let st := s.lswSt d n
    if st = 1 ∨ st = 2 ∨ st = 4 ∨ st = 5 then
      let s := s.updLsw d n (fun c => { c with window := none, gap := false, since := none })
      (s.wr d F.LSW_CH_STAT_PAUSED 0 n).lswSet d n 0
    else s

/-- LSW_PWM_PERIOD (R264, R418). -/
def lswPeriod (s : State) (d : Fin 8) (n : Fin 12) : State :=
  if s.rd d F.LSW_CH_CFG_PWM_HZ n = 0 then s
  else
    let duty := s.lswDuty d n
    (s.updLsw d n (fun c => { c with duty := duty })).lswOut d n

/-- LSW_LIMIT_OFF: an inrush retry while retries are left in the window, else a short (R419, R420). -/
def lswLimit (s : State) (d : Fin 8) (n : Fin 12) : State :=
  if !s.on d F.LSW_CH_STAT_OUT n then s
  else if s.lswSt d n = 1 ∧ s.rd d F.LSW_CH_STAT_INRUSH_USED n < s.rd d F.LSW_CH_CFG_INRUSH_RETRY n then
    let s := s.wr d F.LSW_CH_STAT_INRUSH_USED (s.rd d F.LSW_CH_STAT_INRUSH_USED n + 1) n
    (s.updLsw d n (fun c => { c with gap := true })).lswOut d n
  else s.lswShort d n

/-- LSW_RETRY_DUE: held while the group is throttled (R420, R421). -/
def lswRetry (s : State) (d : Fin 8) (n : Fin 12) : State :=
  let c := s.lswChan d n
  if !c.gap || c.since.isSome then s
  else if s.on d F.LSW_GRP_THROTTLE (lswGroup n) then
    (s.updLsw d n (fun c => { c with since := some s.now })).wr d F.LSW_CH_STAT_PAUSED 1 n
  else (s.updLsw d n (fun c => { c with gap := false })).lswOut d n

/-- A held retry is made as the throttle ends (R421). -/
def lswUnhold (s : State) (d : Fin 8) (n : Fin 12) : State :=
  match (s.lswChan d n).since with
  | none => s
  | some t =>
    let s := s.updLsw d n (fun c => { c with held := c.held + (s.now - t), since := none, gap := false })
    (s.wr d F.LSW_CH_STAT_PAUSED 0 n).lswOut d n

/-- LSW_INRUSH_WINDOW_END: a held retry extends the window up to 100 ms in total, and is a short then (R420, R421). -/
def lswWindowEnd (s : State) (d : Fin 8) (n : Fin 12) : State :=
  if s.lswSt d n ≠ 1 then s
  else if (s.lswChan d n).since.isSome then
    if (s.lswChan d n).window.any (fun w => decide (s.now < w + 100000000)) then s else s.lswShort d n
  else (s.updLsw d n (fun c => { c with window := none })).lswSet d n 2

/-- A channel latches: its count is frozen (R423 to R425). -/
def lswLatch (s : State) (d : Fin 8) (n : Fin 12) (byGroup : Bool) : State :=
  let s := s.updLsw d n (fun c => { c with frozen := some s.now, groupOff := byGroup, window := none, gap := false, since := none })
  (s.wr d F.LSW_CH_STAT_PAUSED 0 n).lswSet d n 6

/-- LSW_THERMAL_OFF: the sensor has reached 150 °C (R423, R434; log entry 32). -/
def lswHot (s : State) (d : Fin 8) (n : Fin 12) (temp : BitVec 16) : State :=
  let s := s.wr d F.LSW_CH_MEAS_TEMP temp.toNat n
  let st := s.lswSt d n
  if sens temp < 2400 ∨ st = 6 ∨ st = 7 then s
  else if s.on d F.LSW_CH_CFG_TMODE n then (s.lswLatch d n false).log d 0x1008 0 0x11 n 0 [n, 1]
  else if st = 0 ∨ st = 5 then s
  else s.lswFault d n 0x1008 5 0

/-- LSW_THERMAL_RESTART: below 135 °C (R423). -/
def lswCool (s : State) (d : Fin 8) (n : Fin 12) (temp : BitVec 16) : State :=
  let s := s.wr d F.LSW_CH_MEAS_TEMP temp.toNat n
  if s.lswSt d n = 5 ∧ sens temp < 2160 then s.inrush d n else s

/-- The group sensor reads below its restart threshold (R424, R425). -/
def groupCool (s : State) (d : Fin 8) (k : Nat) : Bool :=
  decide (s.rdI d F.LSW_GRP_TEMP k < (s.rd d F.LSW_GRP_CFG_TGRP_OFF : Int) * 16 - (s.rd d F.LSW_GRP_CFG_TGRP_HYST : Int) * 16)

/-- The channel sensor reads below its restart threshold. -/
def chanCool (s : State) (d : Fin 8) (n : Fin 12) : Bool := decide (s.rdI d F.LSW_CH_MEAS_TEMP n < 2160)

/-- CLR_LATCH (R424, R434): the frozen count goes on from where it stood. -/
def clrLatch (s : State) (d : Fin 8) (n : Fin 12) : State :=
  let c := s.lswChan d n
  let g := lswGroup n
  let needGroup := c.groupOff || s.on d F.LSW_GRP_LATCHED g || s.on d F.LSW_GRP_OFF g
  if s.lswSt d n = 6 ∧ s.chanCool d n ∧ (!needGroup ∨ s.groupCool d g) then
    let pause := s.now - c.frozen.getD s.now
    let s := s.updLsw d n (fun c => { c with frozen := none, groupOff := false, shorts := c.shorts.map (· + pause) })
    (s.wr d F.LSW_CH_STAT_STATUS 0 n).lswSet d n 0
  else (s.wr d F.LSW_CH_STAT_STATUS 3 n).wr d F.LSW_EVT_CLR_REFUSED 1

/-! ## Groups -/

/-- The three channels of a group. -/
def onGroup (s : State) (k : Fin 4) (f : State → Fin 12 → State) : State :=
  (List.finRange 12).foldl (fun (s : State) (n : Fin 12) => if lswGroup n = k.val then f s n else s) s

/-- GROUP_THROTTLE (R425). -/
def groupThrottle (s : State) (d : Fin 8) (k : Fin 4) (temp : BitVec 16) : State :=
  let s := s.wr d F.LSW_GRP_TEMP temp.toNat k
  if (s.rd d F.LSW_GRP_CFG_TGRP_THR : Int) * 16 ≤ sens temp then
    (s.wr d F.LSW_GRP_THROTTLE 1 k).setBit d F.LSW_EVT_GROUP k
  else s

/-- GROUP_THROTTLE_END (R421, R425). -/
def groupThrottleEnd (s : State) (d : Fin 8) (k : Fin 4) (temp : BitVec 16) : State :=
  let s := s.wr d F.LSW_GRP_TEMP temp.toNat k
  if sens temp < (s.rd d F.LSW_GRP_CFG_TGRP_THR : Int) * 16 - 80 then
    (s.wr d F.LSW_GRP_THROTTLE 0 k).onGroup k (fun s n => s.lswUnhold d n)
  else s

/-- GROUP_OFF (R425). -/
def groupOff (s : State) (d : Fin 8) (k : Fin 4) (temp : BitVec 16) : State :=
  let s := s.wr d F.LSW_GRP_TEMP temp.toNat k
  if sens temp < (s.rd d F.LSW_GRP_CFG_TGRP_OFF : Int) * 16 then s
  else
    let latch := s.on d F.LSW_GRP_CFG_GMODE
    let s := (s.wr d F.LSW_GRP_OFF 1 k).setBit d F.LSW_EVT_GROUP k
    let s := if latch then s.wr d F.LSW_GRP_LATCHED 1 k else s
    s.onGroup k (fun s n =>
      let was := s.on d F.LSW_CH_STAT_OUT n
      let s := s.wr d F.LSW_CH_STAT_GROUP_OFF 1 n
      if latch && was then s.lswLatch d n true else s.lswOut d n)

/-- The group no longer holds its channels off. -/
def groupFree (s : State) (d : Fin 8) (k : Fin 4) : State :=
  ((s.wr d F.LSW_GRP_OFF 0 k).wr d F.LSW_GRP_LATCHED 0 k).onGroup k (fun s n =>
    (s.wr d F.LSW_CH_STAT_GROUP_OFF 0 n).lswOut d n)

/-- GROUP_RESUME under GMODE 0 (R425). -/
def groupResume (s : State) (d : Fin 8) (k : Fin 4) (temp : BitVec 16) : State :=
  let s := s.wr d F.LSW_GRP_TEMP temp.toNat k
  if s.on d F.LSW_GRP_OFF k && !s.on d F.LSW_GRP_LATCHED k && s.groupCool d k then s.groupFree d k else s

/-- GROUP_LATCH_CLR (R424, R425). -/
def groupClr (s : State) (d : Fin 8) (k : Fin 4) : State :=
  if s.on d F.LSW_GRP_LATCHED k && s.groupCool d k then s.groupFree d k else s.wr d F.LSW_EVT_CLR_REFUSED 1

/-- OPEN_LOAD (R427). -/
def openLoad (s : State) (d : Fin 8) (n : Fin 12) : State :=
  if s.on d F.LSW_CH_STAT_OUT n && s.lswSt d n == 2 && s.on d F.LSW_CH_CFG_OL_THR n then
    ((s.wr d F.LSW_CH_STAT_OPEN_LOAD 1 n).wr d F.LSW_EVT_OPEN_LOAD 1).info d 0x0012 0x11 n [n]
  else s

/-! ## The rail (R428) -/

/-- Every channel of a die brought up to date. -/
def lswOuts (s : State) (d : Fin 8) : State := (List.finRange 12).foldl (fun (s : State) (n : Fin 12) => s.lswOut d n) s

/-- A rail condition begins on a die: RAIL_OFF, and windows abandoned (R428, R434). -/
def railOff (s : State) (d : Fin 8) : State :=
  (List.finRange 12).foldl (fun (s : State) (n : Fin 12) =>
    let s := s.updLsw d n (fun c => { c with window := none, gap := false, since := none })
    ((s.wr d F.LSW_CH_STAT_RAIL_OFF 1 n).wr d F.LSW_CH_STAT_PAUSED 0 n).lswOut d n) (s.wr d F.LSW_EVT_RAIL 1)

/-- The rail is good again: channels still requested in INRUSH or ON restart with a fresh window (R428). -/
def railOn (s : State) (d : Fin 8) : State :=
  (List.finRange 12).foldl (fun (s : State) (n : Fin 12) =>
    let s := s.wr d F.LSW_CH_STAT_RAIL_OFF 0 n
    if s.lswReq d n && (s.lswSt d n == 1 || s.lswSt d n == 2) then s.inrush d n else s.lswOut d n) (s.wr d F.LSW_EVT_RAIL 1)

/-- Every channel of a die released, whatever its state (R52, R76, R430). -/
def lswRelease (s : State) (d : Fin 8) : State := (List.finRange 12).foldl (fun (s : State) (n : Fin 12) => s.wr d F.LSW_CH_STAT_OUT 0 n) s

/-! ## Die temperature (R429 to R433) -/

/-- The sensor readings taken into THM_Sk and THM_TEMP. -/
def takeTemps (s : State) (d : Fin 8) (v : Vector (BitVec 16) 4) : State :=
  let s := (List.finRange 4).foldl (fun (s : State) (k : Fin 4) => s.wr d F.THM_S_TEMP (v.get k).toNat k.val) s
  let best := (List.finRange 4).foldl (fun b k => if sens (v.get b) < sens (v.get k) then k else b) (0 : Fin 4)
  (s.wr d F.THM_TEMP_MAX (v.get best).toNat).wr d F.THM_TEMP_SENSOR best

/-- Level and hysteresis of threshold `i` (0 warning, 1 throttle, 2 shut-down) in 1/16 °C. -/
def thmLevel (s : State) (d : Fin 8) (i : Nat) : Int := s.rd d F.THM_LVL_LEVEL i * 16
def thmHyst (s : State) (d : Fin 8) (i : Nat) : Int := s.rd d F.THM_LVL_HYST i * 16

/-- The shut-down of R430 runs on the die. -/
def thermalDown (s : State) (d : Fin 8) : Bool :=
  bitOf (s.pkg.inh.get (portOf d 0)).toNat Inh.thermal.val || decide (s.pkg.die.get d = .thermal)

/-- Warning or throttle entered or ended, with the event and the log entry. -/
def thmBand (s : State) (d : Fin 8) (i : Nat) (t : Int) (st ev : Fld) (code : Nat) : State :=
  if s.on d st then (if t < s.thmLevel d i - s.thmHyst d i then s.wr d st 0 else s)
  else if s.thmLevel d i ≤ t then
    ((s.wr d st 1).wr d ev 1).info d code 0x02 0xFF [(s.word (fldAddr d F.THM_TEMP_MAX 0 0)).toNat]
  else s

/-- A thermal shut-down begins (R430, R431): INH and halt through hardware, trip stops, the meter core's or head's last
increments, the claim, and the record in M2. -/
def thermalBegin (s : State) (d : Fin 8) (t : Int) : State :=
  let s := ((s.setInhDie d Inh.thermal true).haltDie d 1).dieTrip d 14
  let s := { s with lsw := upd s.lsw d (fun l => { l with downs := l.downs.filter (fun x => decide (s.now - x < 3600000000000)) ++ [s.now] }) }
  let s := s.wr d F.THM_STAT_SD_HOUR (min 3 (s.lsw.get d).downs.length)
  let s := if d = 0 then ((s.meterCommit).siteTrip 14).log 0 0x4004 0 0 0xFF 0 [uns 16 t]
    else (s.meterSend d).log d 0x3006 0 0 0xFF 0 [s.rd d F.THM_TEMP_SENSOR, uns 16 t]
  if d = 0 ∧ s.role = 0 then s.claimDrop else s.ownRelease

/-- DIE_TEMP_SAMPLE: the shut-down decides over the throttle (R429, R434). -/
def tempSample (s : State) (d : Fin 8) (v : Vector (BitVec 16) 4) : State :=
  if s.pkg.die.get d ≠ .running then s
  else
    let s := s.takeTemps d v
    let s := { s with lsw := upd s.lsw d (fun l => { l with t0sum := l.t0sum + sens (v.get 0), t0n := l.t0n + 1 }) }
    let t := s.rdI d F.THM_TEMP_MAX
    if s.thermalDown d then s
    else if s.thmLevel d 2 ≤ t then s.thermalBegin d t
    else
      (s.thmBand d 0 t F.THM_STAT_WARN F.THM_EVT_WARN 0x0006).thmBand d 1 t F.THM_STAT_THROTTLE F.THM_EVT_THROTTLE 0x0007

/-- SHUTDOWN_OUTPUT_RELEASE (R430). -/
def thermalRelease (s : State) (d : Fin 8) : State :=
  if s.thermalDown d then (s.onPorts (fun s k => s.dropSout d k 15)).lswRelease d else s

/-- SHUTDOWN_CLOCK_STOP (R430, R431). -/
def thermalStop (s : State) (d : Fin 8) : State :=
  if s.thermalDown d && decide (s.pkg.die.get d = .running) then
    let s := { s with pkg := { s.pkg with die := s.pkg.die.set d .thermal } }
    if d = 0 then (s.updMeter (fun m => { m with running := false })).wr 0 F.LCS_BOOT_METER_RUN 0 else s
  else s

/-- The cubic of R433 over x = T − 25 °C, T being `num` / `den` °C. -/
def cubic (c : Nat → Int) (num den : Int) (rule : Nat) : Int :=
  let x := num - 25 * den
  Config.divOpen rule (c 0 * 1000 * den ^ 3 + c 1 * x * 1000 * den ^ 2 + c 2 * x ^ 2 * den + c 3 * x ^ 3) (1000 * den ^ 3)

/-- The crystal compensation of a site tick (R433): from the mean of sensor 0 over the tick. -/
def tcomp (s : State) : State :=
  let l := s.lsw.get 0
  if l.t0n = 0 then s
  else
    let y := cubic (fun i => sext 32 (s.rd 0 F.THM_XO_C i)) l.t0sum (16 * l.t0n) 433
    let s := s.wrI 0 F.TSU_TCOMP (clampI (-200000000) 200000000 y)
    { s with lsw := upd s.lsw 0 (fun l => { l with t0sum := 0, t0n := 0 }) }

/-- REFERENCE_COMPENSATION (R433). -/
def refCompensate (s : State) (d : Fin 8) (temp : BitVec 16) : State :=
  if s.rd d F.ADC_REF_SEL = 0 then
    let y := clampI (-500000) 500000 (cubic (fun i => sext 32 (s.rd d F.THM_REF_C i)) (sens temp) 16 433)
    { s with lsw := upd s.lsw d (fun l => { l with refComp := y }) }
  else s

end State

/-! ## Channels and groups -/

/-- LSW_REQUEST (R417, R420). -/
def execLswRequest (d : Die) (n : Fin 12) (s : State) : Host.Outcome State Fault Refusal := .next (s.lswRequest d n)

/-- LSW_REQUEST_WITHDRAW (R426). -/
def execLswRequestWithdraw (d : Die) (n : Fin 12) (s : State) : Host.Outcome State Fault Refusal := .next (s.lswWithdraw d n)

/-- LSW_PWM_PERIOD (R264, R418). -/
def execLswPwmPeriod (d : Die) (n : Fin 12) (s : State) : Host.Outcome State Fault Refusal := .next (s.lswPeriod d n)

/-- LSW_LIMIT_OFF (R419, R420, R422). -/
def execLswLimitOff (d : Die) (n : Fin 12) (s : State) : Host.Outcome State Fault Refusal := .next (s.lswLimit d n)

/-- LSW_RETRY_DUE (R420, R421). -/
def execLswRetryDue (d : Die) (n : Fin 12) (s : State) : Host.Outcome State Fault Refusal := .next (s.lswRetry d n)

/-- LSW_INRUSH_WINDOW_END (R420, R421). -/
def execLswInrushWindowEnd (d : Die) (n : Fin 12) (s : State) : Host.Outcome State Fault Refusal :=
  .next (s.lswWindowEnd d n)

/-- LSW_RESTART_DELAY_END (R422). -/
def execLswRestartDelayEnd (d : Die) (n : Fin 12) (s : State) : Host.Outcome State Fault Refusal :=
  .next (if s.lswSt d n = 4 then s.inrush d n else s)

/-- LSW_THERMAL_OFF (R423). -/
def execLswThermalOff (d : Die) (n : Fin 12) (temp : BitVec 16) (s : State) : Host.Outcome State Fault Refusal :=
  .next (s.lswHot d n temp)

/-- LSW_THERMAL_RESTART (R423). -/
def execLswThermalRestart (d : Die) (n : Fin 12) (temp : BitVec 16) (s : State) : Host.Outcome State Fault Refusal :=
  .next (s.lswCool d n temp)

/-- CLR_LATCH (R424). -/
def execClrLatch (d : Die) (n : Fin 12) (s : State) : Host.Outcome State Fault Refusal := .next (s.clrLatch d n)

/-- GROUP_THROTTLE (R425). -/
def execGroupThrottle (d : Die) (k : LPort) (temp : BitVec 16) (s : State) : Host.Outcome State Fault Refusal :=
  .next (s.groupThrottle d k temp)

/-- GROUP_THROTTLE_END (R421, R425). -/
def execGroupThrottleEnd (d : Die) (k : LPort) (temp : BitVec 16) (s : State) : Host.Outcome State Fault Refusal :=
  .next (s.groupThrottleEnd d k temp)

/-- GROUP_OFF (R425). -/
def execGroupOff (d : Die) (k : LPort) (temp : BitVec 16) (s : State) : Host.Outcome State Fault Refusal :=
  .next (s.groupOff d k temp)

/-- GROUP_RESUME (R425). -/
def execGroupResume (d : Die) (k : LPort) (temp : BitVec 16) (s : State) : Host.Outcome State Fault Refusal :=
  .next (s.groupResume d k temp)

/-- GROUP_LATCH_CLR (R424, R425). -/
def execGroupLatchClr (d : Die) (k : LPort) (s : State) : Host.Outcome State Fault Refusal := .next (s.groupClr d k)

/-- OPEN_LOAD (R427). -/
def execOpenLoad (d : Die) (n : Fin 12) (s : State) : Host.Outcome State Fault Refusal := .next (s.openLoad d n)

/-! ## Thermal block -/

/-- DIE_TEMP_SAMPLE (R429 to R432). -/
def execDieTempSample (d : Die) (sensors : Vector (BitVec 16) 4) (s : State) : Host.Outcome State Fault Refusal :=
  .next (s.tempSample d sensors)

/-- SHUTDOWN_OUTPUT_RELEASE (R430). -/
def execShutdownOutputRelease (d : Die) (s : State) : Host.Outcome State Fault Refusal := .next (s.thermalRelease d)

/-- SHUTDOWN_CLOCK_STOP (R430, R431). -/
def execShutdownClockStop (d : Die) (s : State) : Host.Outcome State Fault Refusal := .next (s.thermalStop d)

/-- REFERENCE_COMPENSATION (R433). -/
def execReferenceCompensation (d : Die) (temp : BitVec 16) (s : State) : Host.Outcome State Fault Refusal :=
  .next (s.refCompensate d temp)

end Sys2Proof.Machine
end

