-- ==== Sys2Proof/Machine/CalOps.lean ====
section
/-!
DEFINITION. Calendar arithmetic: dates, the calendar image and its checks, the rate in force, boundaries, billing ends
(R368 to R377).
-/

namespace Sys2Proof.Machine

/-! ## Dates -/

/-- Year, month and day of a count of days since 1970-01-01. -/
def civil (n : Int) : Int × Nat × Nat :=
  let z := n + 719468
  let era := z / 146097
  let doe := (z % 146097).toNat
  let yoe := (doe - doe / 1460 + doe / 36524 - doe / 146096) / 365
  let doy := doe - (365 * yoe + yoe / 4 - yoe / 100)
  let mp := (5 * doy + 2) / 153
  let m := if mp < 10 then mp + 3 else mp - 9
  (Int.ofNat yoe + era * 400 + (if m ≤ 2 then 1 else 0), m, doy - (153 * mp + 2) / 5 + 1)

/-- Weekday of a day count, Monday 0 (R368). -/
def weekday (n : Int) : Nat := ((n + 3) % 7).toNat

/-- A leap year. -/
def leapYear (y : Nat) : Bool := y % 4 == 0 && (y % 100 != 0 || y % 400 == 0)

/-- Days of a month; 0 for a month that does not exist. -/
def monthDays (leap : Bool) (m : Nat) : Nat :=
  if m = 0 ∨ 12 < m then 0
  else if m = 2 then (if leap then 29 else 28)
  else if m = 4 ∨ m = 6 ∨ m = 9 ∨ m = 11 then 30
  else 31

/-- A date of the year exists (log entry 35). -/
def dateOk (leap : Bool) (m d : Nat) : Bool := decide (1 ≤ d) && decide (d ≤ monthDays leap m)

/-! ## The image (R371) -/

/-- Switch point of a 2-byte entry. -/
def switchOf (w : Nat) : SwitchPoint := { minute := bitsOf w 0 11, rate := bitsOf w 11 4, valid := bitOf w 15 }

/-- A calendar image's bytes read into fields. -/
def parseCal (l : List Byte) : Calendar :=
  { magic := BitVec.ofNat 32 (field l 0 4), calId := BitVec.ofNat 32 (field l 4 4), actTime := field l 8 8,
    localOfs := sext 16 (field l 0x10 2), demandInt := field l 0x12 1, billDay := field l 0x13 1,
    nSeason := field l 0x14 1, nFest := field l 0x15 1,
    seasons := (List.range 4).map (fun i =>
      { month := field l (0x20 + 4 * i) 1, day := field l (0x21 + 4 * i) 1, week := field l (0x22 + 4 * i) 1 }),
    weeks := (List.range 8).map (fun i => (List.range 7).map (fun j => field l (0x30 + 7 * i + j) 1)),
    days := (List.range 16).map (fun i => (List.range 16).map (fun j => switchOf (field l (0x70 + 32 * i + 2 * j) 2))),
    fests := (List.range 64).map (fun i =>
      { month := field l (0x270 + 4 * i) 1, day := field l (0x271 + 4 * i) 1, profile := field l (0x272 + 4 * i) 1,
        year := field l (0x273 + 4 * i) 1 }),
    zeroOk := field l 0x16 10 == 0 && field l 0x68 8 == 0 &&
      (List.range 4).all (fun i => field l (0x23 + 4 * i) 1 == 0) }

/-- The bytes of a calendar image. -/
def calBytes (c : Calendar) : List Byte :=
  leBytes 4 c.magic.toNat ++ leBytes 4 c.calId.toNat ++ leBytes 8 c.actTime ++ leBytes 2 (uns 16 c.localOfs) ++
    leBytes 1 c.demandInt ++ leBytes 1 c.billDay ++ leBytes 1 c.nSeason ++ leBytes 1 c.nFest ++ List.replicate 10 0 ++
    c.seasons.flatMap (fun x => leBytes 1 x.month ++ leBytes 1 x.day ++ leBytes 1 x.week ++ [0]) ++
    c.weeks.flatMap (fun w => w.flatMap (leBytes 1)) ++ List.replicate 8 0 ++
    c.days.flatMap (fun p => p.flatMap (fun x => leBytes 2 (x.minute + 2048 * x.rate + 32768 * b2n x.valid))) ++
    c.fests.flatMap (fun x => leBytes 1 x.month ++ leBytes 1 x.day ++ leBytes 1 x.profile ++ leBytes 1 x.year)

/-- Seasons and festivals in use. -/
def calSeasons (c : Calendar) : List Season := c.seasons.take c.nSeason
def calFests (c : Calendar) : List Festival := c.fests.take c.nFest

/-- A week profile, and a day profile. -/
def calWeek (c : Calendar) (i : Nat) : List Nat := c.weeks.getD i []
def calDay (c : Calendar) (i : Nat) : List SwitchPoint := c.days.getD i []

/-- Day profiles that a season entry or a festival entry names. -/
def namedDays (c : Calendar) : List Nat :=
  ((calSeasons c).flatMap (fun x => calWeek c x.week) ++ (calFests c).map (·.profile)).eraseDups

/-- Valid switch points of a day profile. -/
def validPoints (c : Calendar) (i : Nat) : List SwitchPoint := (calDay c i).filter (·.valid)

/-- The valid points strictly rise. -/
def rising : List Nat → Bool
  | a :: b :: t => decide (a < b) && rising (b :: t)
  | _ => true

/-- No valid point follows an unused one. -/
def packedPoints : List SwitchPoint → Bool
  | [] => true
  | p :: t => if p.valid then packedPoints t else t.all (fun x => !x.valid)

/-- A day profile has the form of reason 6 (R372). -/
def dayOk (c : Calendar) (i : Nat) : Bool :=
  let v := validPoints c i
  (match v.head? with
   | some p => p.minute == 0
   | none => false) &&
    rising (v.map (·.minute)) && packedPoints (calDay c i) && v.all (fun p => decide (1 ≤ p.rate) && decide (p.rate ≤ 8))

/-- The valid switch points of the named day profiles are multiples of `g` minutes. -/
def onGrid (c : Calendar) (g : Nat) : Bool :=
  (namedDays c).all (fun i => (validPoints c i).all (fun p => p.minute % max 1 g == 0))

/-- G of R372. -/
def gridG (demInt p2Int : Nat) : Nat := Nat.lcm (Nat.lcm demInt 15) p2Int

/-- Some entry of a list occurs twice. -/
def repeats : List (Nat × Nat) → Bool
  | [] => false
  | a :: t => t.contains a || repeats t

/-- Why a calendar image is refused (R372): its first reason in the order of the table, 0 for none. `cur` is the almanac,
`now` the UTC second. -/
def calWhy (cur : Option Calendar) (p2Int : Nat) (now : Int) (c : Calendar) : Nat :=
  if c.magic ≠ 0x4E44434C ∨ !c.zeroOk then 1
  else if c.localOfs < -720 ∨ 840 < c.localOfs ∨ c.localOfs % 15 ≠ 0 ∨
      (match cur with
       | some a => decide ((c.localOfs - a.localOfs) % 60 ≠ 0)
       | none => false) = true then 2
  else if !([5, 10, 15, 30, 60].contains c.demandInt) ∨ 28 < c.billDay then 3
  else if c.nSeason = 0 ∨ 4 < c.nSeason ∨ (calSeasons c).any (fun x => !dateOk true x.month x.day) ∨
      repeats ((calSeasons c).map (fun x => (x.month, x.day))) ∨ (calSeasons c).any (fun x => decide (7 < x.week)) then 4
  else if c.weeks.any (fun w => w.any (fun i => decide (15 < i))) ∨
      (calFests c).any (fun x => decide (15 < x.profile)) then 5
  else if (namedDays c).any (fun i => !dayOk c i) then 6
  else if !onGrid c (gridG c.demandInt p2Int) then 7
  else if 64 < c.nFest ∨
      (calFests c).any (fun x => !dateOk (x.year == 0xFF || leapYear (2000 + x.year)) x.month x.day) then 8
  else if c.actTime ≠ 0 ∧ ((Int.ofNat c.actTime + c.localOfs * 60) % 3600 ≠ 0 ∨ Int.ofNat c.actTime ≤ now) then 9
  else 0

/-! ## Rates (R370) -/

/-- The season in force at a date of the year. -/
def seasonAt (c : Calendar) (m d : Nat) : Option Season :=
  let key (x : Season) : Nat := x.month * 32 + x.day
  let best (l : List Season) : Option Season :=
    l.foldl (fun (b : Option Season) (x : Season) => match b with
      | some y => if key y < key x then some x else b
      | none => some x) none
  match best ((calSeasons c).filter (fun x => decide (key x ≤ m * 32 + d))) with
  | some x => some x
  | none => best (calSeasons c)

/-- The day profile of a calendar day. -/
def profileAt (c : Calendar) (n : Int) : Nat :=
  let (y, m, d) := civil n
  match (calFests c).find? (fun x => x.month == m && x.day == d && (x.year == 0xFF || decide (Int.ofNat (2000 + x.year) = y))) with
  | some f => f.profile
  | none =>
    match seasonAt c m d with
    | some x => (calWeek c x.week).getD (weekday n) 0
    | none => 0

/-- The last switch point at or before calendar second `t` since 1970: its UTC-free calendar second and its rate. -/
def switchAt (c : Calendar) (t : Int) : Int × Nat :=
  let n := t / 86400
  let mn := (t % 86400 / 60).toNat
  match ((validPoints c (profileAt c n)).filter (fun p => decide (p.minute ≤ mn))).getLast? with
  | some p => (n * 86400 + Int.ofNat p.minute * 60, p.rate)
  | none => (n * 86400, 1)

/-! ## Boundaries (R375 to R377) -/

/-- LOCAL_OFS in seconds and DEMAND_INT in force; without an almanac 0 and 15 (log entry 36). -/
def ofsSec (c : Option Calendar) : Int := match c with
  | some c => c.localOfs * 60
  | none => 0
def demInt (c : Option Calendar) : Nat := match c with
  | some c => max 1 c.demandInt
  | none => 15

/-- UTC second `t` is a multiple of `mins` minutes from 00:00 of calendar time (R375). -/
def onInterval (c : Option Calendar) (mins : Nat) (t : Int) : Bool := decide ((t + ofsSec c) % (Int.ofNat mins * 60) = 0)

/-- UTC second `t` is a boundary (R375). -/
def isBoundary (c : Option Calendar) (p2Int : Nat) (t : Int) : Bool :=
  onInterval c (demInt c) t || onInterval c 15 t || onInterval c p2Int t

/-- The first interval end after UTC second `t`. -/
def nextEnd (c : Option Calendar) (mins : Nat) (t : Int) : Int :=
  ((t + ofsSec c) / (Int.ofNat mins * 60) + 1) * (Int.ofNat mins * 60) - ofsSec c

/-- A billing period ends at UTC second `t` (R377). -/
def isBillEnd (c : Option Calendar) (t : Int) : Bool :=
  match c with
  | none => false
  | some a =>
    let l := t + ofsSec c
    decide (a.billDay ≠ 0) && decide (l % 86400 = 0) && decide ((civil (l / 86400)).2.2 = a.billDay)

/-- The billing ends in (a, b], UTC seconds, in order. -/
def billEnds (c : Option Calendar) (a b : Int) : List Int :=
  let d0 := (a + ofsSec c) / 86400 + 1
  ((List.range ((b + ofsSec c) / 86400 - d0 + 1).toNat).map (fun i => (d0 + Int.ofNat i) * 86400 - ofsSec c)).filter
    (fun t => isBillEnd c t)

/-- The last `cap` interval ends in (a, b], `a` itself an interval end, UTC seconds, in order. -/
def endsBetween (mins cap : Nat) (a b : Int) : List Int :=
  let n := ((b - a) / (Int.ofNat mins * 60)).toNat
  let k := min n cap
  (List.range k).map (fun i => a + (Int.ofNat (n - k + i) + 1) * (Int.ofNat mins * 60))

end Sys2Proof.Machine
end

