-- ==== Sys2Proof/Machine/Bounds.lean ====
section
/-!
DEFINITION. Boundaries: profile entries, demand, billing sets, the boundary commit, restoration after a power cut and the
step of the clock (R350, R351, R369, R374 to R385).
-/

namespace Sys2Proof.Machine

/-- Entry `i` of the maximum demands, total then T1 to T8. -/
def maxAt (l : List (Nat × Int)) (i : Nat) : Nat × Int := l.getD i (0, 0)

/-- A demand enters a maximum when it exceeds it (R376). -/
def putMax (l : List (Nat × Int)) (i w : Nat) (t : Int) : List (Nat × Int) :=
  (List.range 9).map (fun j => if j = i ∧ (maxAt l j).1 < w then (w, t) else maxAt l j)

/-- The last `n` entries of a list. -/
def lastN {α : Type} (n : Nat) (l : List α) : List α := l.drop (l.length - n)

namespace State

/-! ## Profiles (R350, R351) -/

/-- Channels of P1 or P2; the defaults of R363: of P2, A+ of the present ports, as many as a profile has channels (log entry 36). -/
def profChan (s : State) (two : Bool) : List Nat :=
  if two then
    (if s.meter.site.p2Chan.isEmpty then
      (((List.finRange 32).filter (fun p => s.present (Port.die p))).map (fun (p : Fin 32) => portReg p.val 0)).take 16
    else s.meter.site.p2Chan)
  else if s.meter.site.p1Chan.isEmpty then [0, 1] else s.meter.site.p1Chan

/-- P1 or P2, and a change of it. -/
def prof (s : State) (two : Bool) : Profile := if two then s.meter.p2 else s.meter.p1
def updProf (s : State) (two : Bool) (f : Profile → Profile) : State :=
  s.updMeter (fun m => if two then { m with p2 := f m.p2 } else { m with p1 := f m.p1 })

/-- Interval of P1 or P2 in minutes: P2's default is 5 (R350). -/
def p2Mins (s : State) : Nat := if s.meter.site.p2Int = 0 then 5 else s.meter.site.p2Int
def profMins (s : State) (two : Bool) : Nat := if two then s.p2Mins else 15

/-- Depth of P1 or P2 (R350). -/
def profCap (two : Bool) : Nat := if two then 115200 else 38400

/-- Register values by channel, mWh. -/
def chVals (s : State) (l : List Nat) : List Nat := l.map (fun id => mwh s.meter.energy id)

/-- An entry appended with the next number; the oldest is overwritten when the profile is full. -/
def addProf (s : State) (two : Bool) (e : ProfEntry) : State :=
  s.updProf two (fun p => { p with entries := lastN (profCap two) (p.entries ++ [{ e with no := p.next }]),
                                   next := p.next + 1 })

/-- The open interval closed at UTC second `t` with `dur` seconds covered and status bits added. -/
def closeProf (s : State) (two : Bool) (t : Int) (dur : Nat) (extra : Nat) : State :=
  let p := s.prof two
  if p.base.isEmpty then s
  else
    let ch := (s.chVals (s.profChan two)).zipWith (fun a b => a / 1000 - b / 1000) p.base
    (s.addProf two { no := 0, endUtc := t, status := p.status ||| extra, rate := s.meter.rate, duration := dur,
                     ch := ch }).updProf two (fun p => { p with base := [] })

/-- An interval opened at UTC ms `t` with status bits. -/
def openProf (s : State) (two : Bool) (t : Int) (extra : Nat) : State :=
  let base := s.chVals (s.profChan two)
  let st := s.profBits ||| extra
  s.updProf two (fun p => { p with start := t, base := base, status := st })

/-- Zero entries of intervals that end at the given UTC seconds (R382, R385), under the almanac's rates (log entry 37). -/
def zeroEntries (s : State) (two : Bool) (ends : List Int) (bits : Nat) : State :=
  let n := (s.profChan two).length
  let mins := s.profMins two
  ends.foldl (fun (s : State) (t : Int) =>
    let rate := match s.meter.almanac with
      | some c => (switchAt c (t - Int.ofNat mins * 60 + c.localOfs * 60)).2
      | none => s.meter.rate
    s.addProf two { no := 0, endUtc := t, status := bits, rate := rate, duration := 0, ch := List.replicate n 0 }) s

/-- Seconds covered by the open interval up to UTC ms `t`. -/
def covered (s : State) (two : Bool) (t : Int) : Nat := ((t - (s.prof two).start) / 1000).toNat

/-! ## Demand and billing (R376, R377) -/

/-- The open demand interval closed, its end at UTC second `t`: demand and maxima under the rate in force. -/
def closeDemand (s : State) (t : Int) : State :=
  let e := mwh s.meter.energy 0 - s.meter.demBase
  let w := (Config.divOpen 376 (Int.ofNat e * 60) (Int.ofNat (demInt s.meter.almanac) * 1000)).toNat
  s.updMeter (fun m => { m with demand := w, maxDem := putMax (putMax m.maxDem 0 w t) m.rate w t })

/-- A demand interval opened at UTC ms `t`. -/
def openDemand (s : State) (t : Int) : State :=
  s.updMeter (fun m => { m with demStart := t, demBase := mwh m.energy 0 })

/-- The register IDs of the site and of the ports present, rising (R348, R377). -/
def regIds (s : State) : List Nat :=
  List.range 28 ++ ((List.finRange 32).filter (fun p => s.present (Port.die p))).flatMap (fun (p : Fin 32) =>
    (List.range 19).map (fun i => portReg p.val i))

/-- A billing period closed with its nominal end and cause. -/
def billClose (s : State) (t : Int) (cause : Nat) : State :=
  let cause := cause + (if bitOf s.levelBits 3 then 8 else 0)
  let m := s.meter
  let b : BillSet :=
    { bpc := m.bpc, startUtc := m.billStart, endUtc := t, cause := cause,
      calId := match m.almanac with
        | some c => c.calId
        | none => 0,
      maxDem := (List.range 9).map (maxAt m.maxDem), regs := s.regIds.map (fun id => (id, mwh m.energy id)) }
  let s := s.updMeter (fun m => { m with bills := lastN 24 (m.bills ++ [b]), bpc := (m.bpc + 1) % 2 ^ 32, billStart := t,
                                         lastBill := t, maxDem := [] })
  s.meterLog 0x07 0xFF [3, t]

/-! ## Activation and rate (R370, R374) -/

/-- The passive calendar falls due by UTC second `t`. -/
def actDue (s : State) (t : Int) (boundary : Bool) : Bool :=
  match s.meter.passive with
  | none => false
  | some c => (s.meter.actNext && boundary) || (decide (c.actTime ≠ 0) && decide (Int.ofNat c.actTime ≤ t))

/-- The passive calendar becomes the almanac; the entry is logged with time `t`. -/
def activate (s : State) (t : Int) : State :=
  match s.meter.passive with
  | none => s
  | some c =>
    let s := s.updMeter (fun m => { m with almanac := some c, passive := none, actNext := false })
    (s.meterLog 0x07 0xFF [2, t]).stream (.calendar false c)

/-- The rate found for UTC second `t`; a change is logged with the time given by `nominal`, its switch point or `t`. -/
def setRate (s : State) (t : Int) (nominal : Bool) : State :=
  match s.meter.almanac with
  | none => s
  | some c =>
    let x := switchAt c (t + c.localOfs * 60)
    if x.2 = s.meter.rate then s
    else (s.updMeter (fun m => { m with rate := x.2 })).meterLog 0x07 0xFF [1, if nominal then x.1 - c.localOfs * 60 else t]

/-- What was held aside past the boundary is credited, or goes into the running sums (R379). -/
def foldHeld (s : State) : State :=
  let s := s.updMeter (fun m => m.aside.foldl (fun (m : Meter) (e : Nat × Nat) => creditReg m e.1 e.2) { m with aside := [] })
  s.updMeter (fun m => { m with port := m.port.map (fun x =>
    { x with ap := x.ap + x.next.1, am := x.am + x.next.2.1, l := x.l + x.next.2.2, next := (0, 0, 0) }) })

/-- The working set copied to Q0 at the end of a transaction. -/
def toQ0 (s : State) : State :=
  let u := s.utcMs
  s.updMeter (fun m => { m with q0 := m.energy, lastCommit := u })

/-! ## The commands' transactions -/

/-- The announcement to the meter cores of the port dies, words of class 2 (R29, R378; log entry 105). -/
def announceWords (s : State) : State :=
  s.onUsed (fun s d => if d = 0 then s else s.xlkSent 0 2 (Config.xlkWords 3))

/-- BOUNDARY_ANNOUNCE of UTC second `t`, at least 1 s ahead (R378). -/
def announce (s : State) (t : Int) : State :=
  if s.meter.running && !s.meter.restoring && isBoundary s.meter.almanac s.p2Mins t && decide (s.utcMs + 1000 ≤ t * 1000) &&
      s.meter.announced.isNone then
    (s.updMeter (fun m => { m with announced := some (t * 1000) })).announceWords
  else s

/-- Profile `two` at boundary `t`: the entry that ends there and the next interval. -/
def boundaryProf (s : State) (two : Bool) (t : Int) : State :=
  if onInterval s.meter.almanac (s.profMins two) t then
    (s.closeProf two t (s.covered two (t * 1000)) 0).openProf two (t * 1000) 0
  else s

/-- The boundary commit of R379. A boundary after the power-down instant is left to the restoration (R381). -/
def boundaryCommit (s : State) : State :=
  match s.meter.announced with
  | none => s
  | some tm =>
    let late := match s.meter.td with
      | some td => decide (td < tm)
      | none => false
    if !s.meter.running || s.meter.restoring || late || decide (s.utcMs < tm) then s
    else
      let t := tm / 1000
      let cal := s.meter.almanac
      let s := (s.meterGather).markNow
      let s := if onInterval cal (demInt cal) t then (s.closeDemand t).openDemand tm else s
      let s := (s.boundaryProf false t).boundaryProf true t
      let s := if isBillEnd cal t && decide (s.meter.lastBill < t) then s.billClose t 1 else s
      let s := if s.actDue t true then s.activate t else s
      let s := ((s.setRate t false).updMeter (fun m => { m with announced := none })).foldHeld
      s.toQ0

/-- A profile at restoration (R382), between UTC ms `td` and `tr`; `doubt` is the TIME_DOUBT bit of the interval left open. -/
def restoreProf (s : State) (two : Bool) (td tr : Int) (doubt : Nat) : State :=
  let mins := s.profMins two
  let t1 := nextEnd s.meter.almanac mins (td / 1000)
  if tr < t1 * 1000 then
    s.updProf two (fun p => { p with start := p.start + (tr - td), status := p.status ||| 1 ||| doubt })
  else
    let s := s.closeProf two t1 (s.covered two td) 1
    (s.zeroEntries two (endsBetween mins (profCap two) t1 (tr / 1000)) 2).openProf two tr (1 ||| doubt)

/-- The restoration transaction (R382), the registers standing as at t_d while it closes and opens intervals: what the head registered
since, before a time was adopted, goes to the intervals it leaves open, flagged TIME_DOUBT (log entry 118). -/
def restored (s : State) : State :=
    let now := s.utcMs
    let doubt := if s.meter.doubt then 8 else 0
    match s.meter.td with
    | none =>
      let s := (((s.openProf false now doubt).openProf true now doubt).openDemand now).setRate (now / 1000) false
      (s.updMeter (fun m => { m with restoring := false, billStart := if m.billStart = 0 then now / 1000 else m.billStart }))
    | some td =>
      let tr := if now < td then td else now
      let cal := s.meter.almanac
      let s := s.meterLog 0x02 0xFF [tr - td]
      let t1 := nextEnd cal (demInt cal) (td / 1000)
      let s :=
        if tr < t1 * 1000 then s
        else
          let s := s.closeDemand t1
          let s := if (endsBetween (demInt cal) 1 t1 (tr / 1000)).isEmpty then s
            else s.updMeter (fun m => { m with demand := 0 })
          s.openDemand tr
      let s := (s.restoreProf false td tr doubt).restoreProf true td tr doubt
      let s := (billEnds cal (td / 1000) (tr / 1000)).foldl (fun (s : State) (t : Int) =>
        if s.meter.lastBill < t then s.billClose t 2 else s) s
      let passed := decide (min t1 (min (nextEnd cal 15 (td / 1000)) (nextEnd cal s.p2Mins (td / 1000))) * 1000 ≤ tr)
      let at_ := match s.meter.passive with
        | some c => if c.actTime ≠ 0 then Int.ofNat c.actTime else tr / 1000
        | none => 0
      let s := if s.actDue (tr / 1000) passed then s.activate at_ else s
      let s := s.setRate (tr / 1000) true
      s.updMeter (fun m => { m with td := none, restoring := false, announced := none })

/-- RESTORATION: deferred while the time source is 4, the head integrating meanwhile (R382). -/
def restoration (s : State) : State :=
  if !s.meter.running || !s.meter.restoring then s
  else if s.timeSrc = 4 then s.updMeter (fun m => { m with doubt := true })
  else
    let e := s.meter.energy
    let s := (s.updMeter (fun m => { m with energy := m.tdRegs })).restored
    (s.updMeter (fun m => { m with energy := e, doubt := false })).toQ0

/-- A profile at a step of the clock from UTC ms `told` to `tnew` (R385). -/
def stepProf (s : State) (two : Bool) (told tnew : Int) : State :=
  let mins := s.profMins two
  let t1 := nextEnd s.meter.almanac mins (told / 1000)
  let s := s.closeProf two (told / 1000) (s.covered two told) 4
  let s := if told < tnew then s.zeroEntries two (endsBetween mins (profCap two) t1 (tnew / 1000)) 4 else s
  s.openProf two tnew 4

/-- The transaction of a step, old and new time in UTC ms, once the new time is set (R385). -/
def stepTransaction (s : State) (told tnew : Int) : State :=
  let s := (s.meterGather).markAll 4
  let cal := s.meter.almanac
  let s := (s.closeDemand (told / 1000)).openDemand tnew
  let s := if tnew < told then
      s.updMeter (fun m => { m with repeatTo := some (match m.repeatTo with
        | some r => if r < told then told else r
        | none => told) })
    else s
  let s := (s.stepProf false told tnew).stepProf true told tnew
  let s := (billEnds cal (told / 1000) (tnew / 1000)).foldl (fun (s : State) (t : Int) =>
    if s.meter.lastBill < t then s.billClose t 4 else s) s
  let s := if told < tnew && s.actDue (tnew / 1000) false then s.activate (tnew / 1000) else s
  let s := s.setRate (tnew / 1000) false
  ((s.updMeter (fun m => { m with announced := none })).foldHeld).toQ0

/-- The meter head learns of a step or a first adoption, old and new TAI ns (R317 step 4, R383). -/
def meterStep (s : State) (told tnew : Int) : State :=
  if !s.meter.running then s
  else
    let s := s.meterLog 0x03 0xFF [told, tnew]
    if s.meter.restoring then s
    else s.stepTransaction (told / 1000000 - s.meter.utcOfs * 1000) (tnew / 1000000 - s.meter.utcOfs * 1000)

/-! ## The UTC offset (R369) -/

/-- UTC second `t` is the last of a month. -/
def monthEnd (t : Int) : Bool := decide ((t + 1) % 86400 = 0) && decide ((civil ((t + 1) / 86400)).2.2 = 1)

/-- A change of TSU_UTC.OFS: adopted as a leap second at a month end, else ignored; both are logged. A positive leap second
lengthens the open intervals by 1 s, a negative one shortens them. -/
def utcChange (s : State) : State :=
  let new := s.rdI 0 F.TSU_UTC_OFS
  let old := s.meter.utcOfs
  if new = old then s
  else if (new - old).natAbs = 1 ∧ monthEnd (s.utcMs / 1000) = true then
    let d := (new - old) * 1000
    let s := s.updMeter (fun m => { m with utcOfs := new, p1 := { m.p1 with start := m.p1.start - d },
                                           p2 := { m.p2 with start := m.p2.start - d } })
    s.meterLog 0x07 0xFF [5, new]
  else s.meterLog 0x07 0xFF [6, new]

end State
end Sys2Proof.Machine
end

