-- ==== Sys2Proof/Machine/MeterParam.lean ====
section
/-!
DEFINITION. Meter parameters, the clock set, calendar commands and credit tokens (R363, R372 to R374, R384, R386 to
R390). The numbers of the parameters and the order of their words are the model's (log entry 38).
-/

namespace Sys2Proof.Machine.State

/-! ## Writing a parameter -/

/-- Cells of a meter map word are converted as R142 asks, by the committed set of the named sequencer. -/
def mapCovered (s : State) (p : Fin 32) (w : Nat) : Bool :=
  let q : Fin 2 := if bitOf w 22 then 1 else 0
  let sq := s.seqr (Port.die p) q
  let cells := mapCells (Port.loc p).val w
  match (match sq.pend with
    | some a => some a
    | none => sq.active) with
  | some a => cells.all (fun x => meterCovered a x.1 x.2)
  | none => false

/-- A register ID of R348. -/
def regIdOk (id : Nat) : Bool := decide (id < 28) || (decide (256 ≤ id) && decide (id < 33 * 256) && decide (id % 256 ≤ 18))

/-- The channels of a profile: 1 to 16 register IDs (R350). -/
def chanOk (l : List Nat) : Bool := decide (1 ≤ l.length) && decide (l.length ≤ 16) && l.all regIdOk

/-- The calendars stay on the grid under a P2 interval (R373). -/
def p2Ok (s : State) (n : Nat) : Bool :=
  let fits (c : Option Calendar) : Bool := match c with
    | some c => onGrid c (gridG (max 1 c.demandInt) n)
    | none => true
  decide (1 ≤ n) && decide (n ≤ 60) && 60 % n == 0 && fits s.meter.almanac && fits s.meter.passive

/-- An account at or above `n` holds a balance or a bound session (R386). -/
def accountUsed (s : State) (n : Nat) : Bool :=
  s.meter.balance.any (fun e => decide (n ≤ e.1) && decide (e.2 ≠ 0)) || s.meter.bound.any (fun e => decide (n ≤ e.2))

/-- Status of a step of a meter cell's calibration: the word of ADC_SYSCAL, and for a full step the target code (R151; log entry 38),
in the order of R117. -/
def meterCalWhy (s : State) (d : Fin 8) (v : List Nat) : Nat :=
  let w := v.getD 0 0
  let cell := bitsOf w 0 7
  let gain := bitsOf w 7 3
  let step := bitsOf w 10 2
  if !s.present d || v.length != step || s.calBad d cell gain step (bitsOf w 12 4) || !s.isMeterCell d cell then 4
  else if s.calWrong d cell gain step (s.adc.get d).mcal.zero then 3
  else if (s.adc.get d).coll.isSome then 6
  else 0

/-- Status of a parameter write: scope is a port, a die for the calibration step, or 0xFF the site. -/
def paramWhy (s : State) (id scope : Nat) (v : List Nat) : Nat :=
  let bad : Nat := 4
  let range (lo hi : Nat) : Nat := match v with
    | [n] => if lo ≤ n ∧ n ≤ hi then 0 else bad
    | _ => bad
  if id = 7 then
    if h : scope < 8 then s.meterCalWhy ⟨scope, h⟩ v else bad
  else if id ≤ 6 then
    if h : scope < 32 then
      if !s.present (Port.die ⟨scope, h⟩) then bad
      else if id = 1 then
        match v with
        | [] => 0
        | [w] => if s.mapCovered ⟨scope, h⟩ w then 0 else bad
        | _ => bad
      else if 2 ≤ id ∧ id ≤ 4 then range 1 0xFFFFFFFF
      else if id = 5 then range 0 50000000
      else if id = 6 then range 0 0xFFFFFFFF
      else bad
    else bad
  else if scope ≠ 0xFF then bad
  else if id = 16 then (if v.length = 4 ∧ v.getD 0 0 < 256 ∧ v.getD 1 0 ≠ 0 ∧ v.getD 2 0 ≠ 0 then 0 else bad)
  else if id = 17 then (if chanOk v then 0 else bad)
  else if id = 18 then (if s.p2Ok (v.getD 0 0) && chanOk (v.drop 1) then 0 else bad)
  else if id = 19 then range 2 50
  else if id = 20 then range 3 30
  else if id = 21 then range 0x10 0x3FFF
  else if id = 22 then range 9600 115200
  else if id = 23 then
    match v with
    | [n] => if n = 0 ∨ 256 < n then bad else if n < s.meter.site.nacc && s.accountUsed n then 3 else 0
    | _ => bad
  else if id = 24 then (if v.length = 10 then 0 else bad)
  else if id = 25 then range 48 63
  else bad

/-- The parameter is logged and marked (R363). -/
def paramMark (s : State) (id role : Nat) : State := (s.meterLog 0x06 0xFF [id, role]).markAll 512

/-- A meter parameter write under role code `role`: its status, and the change waiting for the next site tick or the
next start. Parameter 7 runs a step of a meter cell's calibration (R151). -/
def paramWrite (s : State) (role id scope : Nat) (v : List Nat) : Nat × State :=
  let st := s.paramWhy id scope v
  if st ≠ 0 then (st, s)
  else if id = 7 then
    let w := v.getD 0 0
    if h : scope < 8 then
      (0, (s.calStart ⟨scope, h⟩ (bitsOf w 0 7) (bitsOf w 7 3) (bitsOf w 10 2) (bitsOf w 12 4)
        (some (sext 16 (v.getD 1 0 % 65536)))).paramMark id role)
    else (4, s)
  else
    let key := id * 256 + scope
    let w := v.map (fun n => BitVec.ofNat 32 n)
    let s := s.paramMark id role
    let s := s.stream (.meterParam key w)
    if id = 16 ∧ v.getD 0 0 ≠ s.meter.site.site.toNat then
      (0, s.updMeter (fun m => { m with pendSite := m.pendSite.filter (fun e => e.1 ≠ key) ++ [(key, w)] }))
    else (0, s.updMeter (fun m =>
      { m with pendSite := m.pendSite.filter (fun e => e.1 ≠ key), pendParam := m.pendParam.filter (fun e => e.1 ≠ key) ++ [(key, w)] }))

/-! ## Applying a parameter -/

/-- A port's parameters changed. -/
def updParam (s : State) (p : Nat) (f : PortParam → PortParam) : State :=
  if h : p < 32 then s.updMeter (fun m => { m with params := upd m.params ⟨p, h⟩ f }) else s

/-- The site's parameters changed. -/
def updSite (s : State) (f : SiteParam → SiteParam) : State := s.updMeter (fun m => { m with site := f m.site })

/-- The meter map of a port shown by its ADC block (R142). -/
def loadMap (s : State) (p : Fin 32) : State :=
  s.wr (Port.die p) F.ADC_MTRMAP (if (s.meter.params.get p).mapped then (s.meter.params.get p).map.toNat else 0) (Port.loc p).val

/-- A profile cleared; its next entry begins at the next boundary (R350). -/
def clearProf (s : State) (two : Bool) : State := s.updProf two (fun p => { p with entries := [], base := [], status := 0 })

/-- A parameter takes its value. -/
def paramApply (s : State) (key : Nat) (w : List Word) : State :=
  let id := key / 256
  let p := key % 256
  let v := w.map (·.toNat)
  let n := v.getD 0 0
  match id with
  | 1 =>
    let s := s.updParam p (fun x => { x with mapped := !v.isEmpty, map := w.getD 0 0 })
    if h : p < 32 then s.loadMap ⟨p, h⟩ else s
  | 2 => s.updParam p (fun x => { x with vscale := n })
  | 3 => s.updParam p (fun x => { x with iscale := n })
  | 4 => s.updParam p (fun x => { x with hscale := n })
  | 5 => s.updParam p (fun x => { x with rCl := n })
  | 6 => s.updParam p (fun x => { x with creep := some (n * 1000000) })
  | 16 => s.updSite (fun x => { x with site := w.getD 0 0, vscale := v.getD 1 0, iscale := v.getD 2 0,
                                       creep := v.getD 3 0 * 1000000 })
  | 17 => (if v = s.profChan false then s else s.clearProf false).updSite (fun x => { x with p1Chan := v })
  | 18 =>
    (if n = s.p2Mins ∧ v.drop 1 = s.profChan true then s else s.clearProf true).updSite
      (fun x => { x with p2Int := n, p2Chan := v.drop 1 })
  | 19 => s.updSite (fun x => { x with twinTol := n })
  | 20 => s.updSite (fun x => { x with slacMargin := n })
  | 21 => s.updSite (fun x => { x with hdlcAddr := n })
  | 22 => s.updSite (fun x => { x with baud := n })
  | 23 => s.updSite (fun x => { x with nacc := n })
  | 24 => s.updSite (fun x => { x with amounts := v })
  | 25 =>
    let s := if n = s.meter.site.tokenSlot then s else s.updMeter (fun m => { m with high := [], spent := [] })
    s.updSite (fun x => { x with tokenSlot := n })
  | _ => s

/-- Changes that wait for a site tick (R363). -/
def paramTick (s : State) : State :=
  if s.meter.running then
    let l := s.meter.pendParam
    l.foldl (fun (s : State) (e : Nat × List Word) => s.paramApply e.1 e.2) (s.updMeter (fun m => { m with pendParam := [] }))
  else s

/-- A life-cycle restart or PWR reset: changes of the site's enable, gains and sequencer take effect with the scales written with
them, and ADC_SITE shows them (R130, R363). -/
def siteApply (s : State) : State :=
  let l := s.meter.pendSite
  let s := l.foldl (fun (s : State) (e : Nat × List Word) => s.paramApply e.1 e.2) (s.updMeter (fun m => { m with pendSite := [] }))
  s.wr 0 F.ADC_SITE s.meter.site.site.toNat

/-- The maps and ADC_SITE loaded from Q3 at a start (R130, R142, R363). -/
def paramStart (s : State) : State :=
  let s := (List.finRange 32).foldl (fun (s : State) (p : Fin 32) => s.loadMap p) s
  s.wr 0 F.ADC_SITE s.meter.site.site.toNat

/-! ## The clock set (R384) -/

/-- The KEEP real-time clock set to a TAI time in ns (R318). -/
def setRtc (s : State) (t : Int) : State :=
  let n := t.toNat
  (({ s with servo := { s.servo with rtcFrac := 0 } }).wr 0 F.TSU_RTC_SEC (n / 1000000000 % 2 ^ 32)).wr 0 F.TSU_RTC_SUB
    (n % 1000000000 * 32768 / 1000000000 + 2 ^ 31)

/-- A new time within 20 s of the present one is refused, except in source 3. -/
def timeNear (s : State) (t : Int) : Bool := decide ((t - s.tai 0).natAbs ≤ 20000000000) && s.timeSrc != 3

/-- "Time set beyond the slew limit" naming PTP-timescale ns `t`. -/
def timeSet (s : State) (t : Int) : Nat × State :=
  if s.timeNear t then (4, s)
  else if (t - s.tai 0).natAbs ≤ 20000000000 then (0, s.setRtc t)
  else if s.timeSrc ≤ 1 then (3, s)
  else (0, { s with servo := { s.servo with step := some t } })

/-! ## Calendar commands (R372, R374) -/

/-- The reason a calendar image is refused for, 0 for none. -/
def calRefuses (s : State) (l : List Byte) : Nat :=
  if l.length = 880 then calWhy s.meter.almanac s.p2Mins (s.utcMs / 1000) (parseCal l) else 1

/-- A calendar image loaded as the passive calendar. -/
def calLoad (s : State) (l : List Byte) : Nat × State :=
  let c := parseCal l
  let why := s.calRefuses l
  if why ≠ 0 then (4, (s.updMeter (fun m => { m with calReason := why })).meterLog 0x07 0xFF [4, why])
  else (0, (s.updMeter (fun m => { m with passive := some c, actNext := false })).stream (.calendar true c))

/-- The passive calendar activated at the next boundary. -/
def calActivate (s : State) : Nat × State :=
  if s.meter.passive.isNone then (3, s) else (0, s.updMeter (fun m => { m with actNext := true }))

/-- The passive calendar discarded. -/
def calDiscard (s : State) : Nat × State :=
  if s.meter.passive.isNone then (3, s) else (0, s.updMeter (fun m => { m with passive := none, actNext := false }))

/-! ## Tokens (R387 to R390) -/

/-- The decimal number of a list of digits. -/
def decimal (l : List Nat) : Nat := l.foldl (fun (a : Nat) (d : Nat) => a * 10 + d) 0

/-- CHECK of R388. -/
def tokenCheck (key : List Byte) (account cls amount expiry bpc id : Nat) : Nat :=
  let msg := [0x4E, 0x44, 0x54, 0x4B] ++ leBytes 1 account ++ leBytes 1 cls ++ leBytes 1 amount ++ leBytes 1 expiry ++
    beBytes 4 bpc ++ beBytes 3 id ++ [0]
  leNat ((Config.aesCmac key msg).toList.take 4).reverse

/-- The key of TOKEN_SLOT: OWNER METER and USE 6 (R388). -/
def tokenKey (s : State) : Option (List Byte) :=
  let n := s.meter.site.tokenSlot
  if s.rd 0 F.KEY_SLOT_ATTR_OWNER n = 1 ∧ s.rd 0 F.KEY_SLOT_ATTR_USE n = 6 ∧ 48 ≤ n ∧ n ≤ 63 then s.slotKey n else none

/-- Account and how many periods ago the token was issued: the first match (R388). -/
def tokenMatch (s : State) (cls amount expiry id check : Nat) : Option (Nat × Nat) :=
  match s.tokenKey with
  | none => none
  | some key =>
    ((List.range s.meter.site.nacc).flatMap (fun a => (List.range 10).map (fun k => (a, k)))).find? (fun x =>
      decide (x.2 ≤ s.meter.bpc) && tokenCheck key x.1 cls amount expiry (s.meter.bpc - x.2) id == check)

/-- A token judged (R389): its result, and for a credit token that passed the account, ID and AMOUNT index. -/
def tokenJudge (s : State) (digits : List Nat) : Nat × Option (Nat × Nat × Nat) :=
  let cls := digits.getD 0 0
  let amount := digits.getD 1 0
  let expiry := digits.getD 2 0
  let body := decimal (digits.drop 3)
  if digits.length ≠ 20 ∨ digits.any (fun d => decide (9 < d)) ∨ (cls ≠ 1 ∧ cls ≠ 5) ∨ 2 ^ 56 ≤ body then (1, none)
  else
    let id := body / 2 ^ 32
    match s.tokenMatch cls amount expiry id (body % 2 ^ 32) with
    | none => (2, none)
    | some (a, k) =>
      if expiry < k then (3, none)
      else if Int.ofNat id ≤ Int.ofNat (eGet s.meter.high a) - 65536 then (4, none)
      else if (s.meter.spent.any (fun e => e.1 == a && e.2.contains id)) then (5, none)
      else if cls = 5 then (6, none)
      else (0, some (a, id, amount))

/-- A token entered: its result is answered; a refusal is logged, an accepted one waits for its transaction (R389). A token
entered while one waits is answered BUSY, with no result (log entry 39). -/
def tokenEnter (s : State) (digits : List Nat) : Nat × State :=
  if s.meter.token.isSome then (6, s)
  else
    let r := s.tokenJudge digits
    let s := s.updMeter (fun m => { m with tokenResult := some r.1, token := r.2 })
    (0, if r.1 = 0 then s else s.meterLog 0x07 0xFF [8, r.1])

/-- The transaction of an accepted token (R389, R390). -/
def tokenApply (s : State) : State :=
  match s.meter.token with
  | none => s
  | some (a, id, amount) =>
    let bal : Int := Sparse.get (fun _ => 0) s.meter.balance a + Int.ofNat (s.meter.site.amounts.getD amount 0)
    let high := max (eGet s.meter.high a) id
    let old := match s.meter.spent.find? (fun e => e.1 == a) with
      | some e => e.2
      | none => []
    let win := (old ++ [id]).filter (fun x => decide (high < x + 65536))
    let s := s.updMeter (fun m =>
      { m with token := none, balance := Sparse.set (fun _ => 0) m.balance a bal, high := ePut m.high a high,
               spent := m.spent.filter (fun e => e.1 ≠ a) ++ [(a, win)] })
    (((s.accountEvent a false bal).meterLog 0x07 0xFF [7, a, id]).stream (.account a bal high)).stream (.tokenWindow a win)

/-- A session bound to an account (R386). -/
def bindAccount (s : State) (p a : Nat) : Nat × State :=
  if h : p < 32 then
    if s.meter.site.nacc ≤ a then (4, s)
    else if (s.meter.session.get ⟨p, h⟩).isNone then (3, s)
    else
      let now := mwh s.meter.energy (portReg p 0)
      (0, s.updMeter (fun m => { m with bound := m.bound.filter (fun e => e.1 ≠ p) ++ [(p, a)], debited := ePut m.debited p now }))
  else (4, s)

/-- A session released from its account, its debits made first (R386). -/
def releaseAccount (s : State) (p : Nat) : Nat × State :=
  if s.meter.bound.any (fun e => e.1 == p) then
    (0, ((s.meter.bound.filter (fun b => b.1 == p)).foldl (fun (s : State) (b : Nat × Nat) => s.debit b) s).updMeter (fun m => { m with bound := m.bound.filter (fun e => e.1 ≠ p) }))
  else (3, s)

end Sys2Proof.Machine.State
end

