-- ==== Sys2Proof/Machine/Apdu.lean ====
section
/-!
DEFINITION. Readout of the meter: entries as bytes, pages, and the objects of R367 with their rights (R351, R354, R362,
R364 to R367, R377). How an object's value stands in words is the model's where R367 does not say (log entry 40).
-/

namespace Sys2Proof.Machine

/-! ## Bytes and words -/

/-- The little-endian words of a list of bytes; a last word cut short is filled with zeros (R9). -/
def wordsOf : List Byte → List Word
  | a :: b :: c :: d :: t => BitVec.ofNat 32 (leNat [a, b, c, d]) :: wordsOf t
  | [] => []
  | l => [BitVec.ofNat 32 (leNat l)]

/-- Two words of a 64-bit number, low word first. -/
def words64 (n : Nat) : List Word := [BitVec.ofNat 32 n, BitVec.ofNat 32 (n / 2 ^ 32)]

/-- The bytes of a list of words (R9). -/
def bytesOf (l : List Word) : List Byte := l.flatMap (fun w => leBytes 4 w.toNat)

/-- The 80 bytes of a profile entry (R351). -/
def profBytes (e : ProfEntry) : List Byte :=
  let head := leBytes 4 e.no ++ leBytes 4 (uns 32 e.endUtc) ++ leBytes 2 e.status ++ leBytes 1 e.ch.length ++
    leBytes 1 e.rate ++ leBytes 2 e.duration
  let tail := (List.range 16).flatMap (fun i => leBytes 4 (e.ch.getD i 0))
  head ++ leBytes 2 (State.crc16 (head ++ tail)) ++ tail

/-- The 32 bytes of a meter log entry (R362): DATA as two 8-byte or up to four 4-byte numbers (log entry 40). -/
def meterLogBytes (e : MeterLogEntry) : List Byte :=
  let data := if e.data.length ≤ 2 then e.data.flatMap (fun x => leBytes 8 (uns 64 x))
    else (e.data.take 4).flatMap (fun x => leBytes 4 (uns 32 x))
  leBytes 4 e.no ++ leBytes 8 (uns 64 e.tai) ++ leBytes 1 e.code ++ leBytes 1 e.port ++ leBytes 1 e.src ++ [0] ++
    slice data 0 16

/-- The bytes of a billing set (R377). -/
def billBytes (b : BillSet) : List Byte :=
  leBytes 4 0x4E444253 ++ leBytes 4 b.bpc ++ leBytes 4 (uns 32 b.startUtc) ++ leBytes 4 (uns 32 b.endUtc) ++
    leBytes 2 b.cause ++ leBytes 2 b.regs.length ++ leBytes 4 b.calId.toNat ++ List.replicate 8 0 ++
    b.maxDem.flatMap (fun x => leBytes 4 x.1 ++ leBytes 4 (uns 32 x.2)) ++ List.replicate 8 0 ++
    b.regs.flatMap (fun x => leBytes 2 x.1 ++ leBytes 8 x.2)

/-- A block reply (R364): total pages, page index, items in the page, the first item's number, then the items. -/
def pageReply (items : List (Nat × List Word)) (per page : Nat) : List Word :=
  let total := (items.length + per - 1) / per
  let here := (items.drop (page * per)).take per
  let first := match here.head? with
    | some e => e.1
    | none => 0
  [BitVec.ofNat 32 total, BitVec.ofNat 32 page, BitVec.ofNat 32 here.length, BitVec.ofNat 32 first] ++
    here.flatMap (·.2)

/-- A page of a reply that is no block (R125): the page count, then up to 4 094 words of it. -/
def pageWords (l : List Word) (page : Nat) : List Word :=
  BitVec.ofNat 32 (max 1 ((l.length + 4093) / 4094)) :: (l.drop (page * 4094)).take 4094

/-- The role code of R115. -/
def roleCode : Role → Nat
  | .pub => 0
  | .reader => 1
  | .billing => 2
  | .site => 3
  | .service => 4
  | .vendor => 5

/-- An answer: status code of R122 and words. -/
abbrev Answer := Nat × List Word

namespace State

/-! ## Pages (R364) -/

/-- Session records from a RECNO. -/
def recordsPage (s : State) (recno page : Nat) : List Word :=
  pageReply ((s.meter.records.filter (fun r => decide (recno ≤ r.recno))).map (fun r => (r.recno, wordsOf (recordBytes r)))) 63 page

/-- P1 or P2 entries from an ENTRY_NO. -/
def profilePage (s : State) (two : Bool) (no page : Nat) : List Word :=
  pageReply (((s.prof two).entries.filter (fun e => decide (no ≤ e.no))).map (fun e => (e.no, wordsOf (profBytes e)))) 200 page

/-- Event or tamper log entries from an ENTRY_NO. -/
def meterLogPage (s : State) (tamper : Bool) (no page : Nat) : List Word :=
  let l := if tamper then s.meter.tpLog else s.meter.evLog
  pageReply ((l.filter (fun e => decide (no ≤ e.no))).map (fun e => (e.no, wordsOf (meterLogBytes e)))) 511 page

/-- The meter status (R364, R372): time source, METER version, reason of the last refused calendar, last token result,
tamper counts, registers. -/
def statusWords (s : State) : List Word :=
  let n := fun (x : Nat) => BitVec.ofNat 32 x
  [n s.timeSrc, n (imgVersion s.meterImage), n s.meter.calReason, n (s.meter.tokenResult.getD 0xFF),
    n s.meter.tpCount.length] ++ s.meter.tpCount.flatMap (fun e => [n e.1, n e.2]) ++
    n s.meter.acctEvents.length :: s.meter.acctEvents.map n ++ n s.regIds.length ::
    s.regIds.flatMap (fun id => n id :: words64 (mwh s.meter.energy id))

/-! ## Objects (R367) -/

/-- Logical name of an object. -/
def logicalName : CosemObject → List Nat
  | .deviceName => [0, 0, 42, 0, 0, 255]
  | .clock => [0, 0, 1, 0, 0, 255]
  | .meterVersion => [1, 0, 0, 2, 0, 255]
  | .portPlus p e => [1, p.val + 1, 1, 8, e.val, 255]
  | .portMinus p e => [1, p.val + 1, 2, 8, e.val, 255]
  | .portLoss p => [1, p.val + 1, 83, 8, 0, 255]
  | .siteTotal x e => [1, 0, if x then 2 else 1, 8, e.val, 255]
  | .phase i => [1, 0, 21 + 20 * (i.val / 2) + i.val % 2, 8, 0, 255]
  | .reactive q => [1, 0, 5 + q.val, 8, 0, 255]
  | .demand m => [1, 0, 1, if m then 6 else 4, 0, 255]
  | .profile two => [1, 0, 99, if two then 2 else 1, 0, 255]
  | .billingSets => [1, 0, 98, 1, 0, 255]
  | .sessionRecords => [0, 0, 128, 0, 0, 255]
  | .recordKey p => [0, 0, 128, 1, if p then 1 else 0, 255]
  | .portParams p => [1, p.val + 1, 128, 0, 0, 255]
  | .meterLog => [0, 0, 99, 98, 0, 255]
  | .tamperLog => [0, 0, 99, 98, 1, 255]
  | .calendarObj => [0, 0, 13, 0, 0, 255]
  | .account => [0, 0, 19, 0, 0, 255]
  | .tokenGateway => [0, 0, 19, 40, 0, 255]
  | .association r => [0, 0, 40, 0, roleCode r + 1, 255]
  | .securitySetup r => [0, 0, 43, 0, roleCode r + 1, 255]

/-- Role `r` may read an object (R367). -/
def mayRead (r : Role) : CosemObject → Bool
  | .deviceName => true
  | .clock => true
  | .meterVersion => true
  | .recordKey _ => true
  | .meterLog => decide (2 ≤ roleCode r)
  | .association o => decide (o = r)
  | .securitySetup o => decide (o = r) && decide (1 ≤ roleCode r)
  | _ => decide (1 ≤ roleCode r)

/-- Role `r` may write an attribute of an object (R367): of the profiles the capture objects (3) and period (4). -/
def mayWrite (r : Role) (attr : Nat) : CosemObject → Bool
  | .clock => decide (r = .billing) && decide (attr = 2)
  | .profile _ => decide (r = .billing) && (attr == 3 || attr == 4)
  | .portParams _ => decide (r = .billing) && decide (2 ≤ attr)
  | .calendarObj => decide (r = .billing) && decide (attr = 2)
  | _ => false

/-- Role `r` may use an object's methods (R367). -/
def mayAct (r : Role) : CosemObject → Bool
  | .clock => decide (r = .billing)
  | .calendarObj => decide (r = .billing)
  | .tokenGateway => decide (r = .site)
  | .securitySetup o => decide (o = r) && decide (1 ≤ roleCode r)
  | _ => false

/-- The register behind a register object. -/
def cosemReg : CosemObject → Option Nat
  | .portPlus p e => some (portReg p.val (if e.val = 0 then 0 else 2 + e.val))
  | .portMinus p e => some (portReg p.val (if e.val = 0 then 1 else 10 + e.val))
  | .portLoss p => some (portReg p.val 2)
  | .siteTotal x e => some (if e.val = 0 then b2n x else (if x then 19 else 11) + e.val)
  | .phase i => some (2 + i.val)
  | .reactive q => some (8 + q.val)
  | _ => none

/-- The value of an object, attribute 2 and on, and the state after the reading (a peer's key is a free value). -/
def cosemValue (s : State) (r : Role) (o : CosemObject) (attr : Nat) : List Word × State :=
  let n := fun (x : Nat) => BitVec.ofNat 32 x
  match cosemReg o with
  | some id => (words64 (mwh s.meter.energy id), s)
  | none =>
    match o with
    | .deviceName => (words64 s.pkg.unitId.toNat, s)
    | .clock => (words64 (uns 64 s.utcMs), s)
    | .meterVersion => (n (imgVersion s.meterImage) :: wordsOf (s.mreg 3), s)
    | .demand m =>
      if m then ((List.range 9).flatMap (fun i => [n (maxAt s.meter.maxDem i).1, n (uns 32 (maxAt s.meter.maxDem i).2)]), s)
      else ([n s.meter.demand], s)
    | .profile two =>
      if attr = 3 then ((s.profChan two).map n, s)
      else if attr = 4 then ([n (s.profMins two)], s)
      else ((s.prof two).entries.flatMap (fun e => wordsOf (profBytes e)), s)
    | .billingSets => (s.meter.bills.flatMap (fun b => wordsOf (billBytes b)), s)
    | .sessionRecords => (s.meter.records.flatMap (fun x => wordsOf (recordBytes x)), s)
    | .recordKey peer =>
      if peer then
        let x := s.freeBytes 72
        (wordsOf x.1, x.2)
      else
        ((match s.slotKey 4 with
          | some k => wordsOf (Config.ecPublic false k)
          | none => []) ++ words64 s.pkg.unitId.toNat, s)
    | .portParams p =>
      let x := s.meter.params.get p
      ([x.map, n x.vscale, n x.iscale, n x.hscale, n x.rCl, n (creepNa x / 1000000)], s)
    | .meterLog => (s.meter.evLog.flatMap (fun e => wordsOf (meterLogBytes e)), s)
    | .tamperLog => (s.meter.tpLog.flatMap (fun e => wordsOf (meterLogBytes e)), s)
    | .calendarObj =>
      ((match (if attr = 3 then s.meter.passive else s.meter.almanac) with
        | some c => wordsOf (calBytes c)
        | none => []), s)
    | .account => (s.meter.balance.flatMap (fun e => n e.1 :: words64 (uns 64 e.2)), s)
    | .tokenGateway => ([n (s.meter.tokenResult.getD 0xFF)], s)
    | .association _ => ((s.meter.assoc.filter (fun a => a.2 == roleCode r)).map (fun a => n a.1), s)
    | _ => ([], s)

/-! ## Services -/

/-- The port an object names. -/
def objPort : CosemObject → Option (Fin 32)
  | .portPlus p _ => some p
  | .portMinus p _ => some p
  | .portLoss p => some p
  | .portParams p => some p
  | _ => none

/-- An object of a port that the module does not have (R5). -/
def objAbsent (s : State) (o : CosemObject) : Bool := match objPort o with
  | some p => !s.present (Port.die p)
  | none => false

/-- An attribute whose value is kept in Q3: parameters, calendars and accounts (R81). -/
def inQ3 (o : CosemObject) (attr : Nat) : Bool := match o with
  | .profile _ => attr == 3 || attr == 4
  | .portParams _ => true
  | .calendarObj => true
  | .account => true
  | .tokenGateway => true
  | _ => false

/-- GET (R367). A port that does not exist is answered BAD_PARAM (R5), what Q3 holds WRONG_STATE in RETIRED (R82), and a profile
readout BUSY until the restoration is done (R382). -/
def cosemGet (s : State) (r : Role) (o : CosemObject) (attr : Nat) : Answer × State :=
  if s.objAbsent o then ((4, []), s)
  else if attr = 1 then ((0, (logicalName o).map (fun x => BitVec.ofNat 32 x)), s)
  else if !mayRead r o then ((5, []), s)
  else if s.lifeState == 4 && inQ3 o attr then ((3, []), s)
  else if (match o with
      | .profile _ => attr == 2 && s.meter.restoring
      | _ => false) then ((6, []), s)
  else
    let x := s.cosemValue r o attr
    ((0, x.1), x.2)

/-- A standby or held unit takes no token, calendar, clock or parameter change (R121, R391). -/
def standing (s : State) : Bool := s.role == 2 || s.role == 3

/-- A 64-bit number in two words, low first. -/
def num64 (l : List Word) : Nat := (l.getD 0 0).toNat + (l.getD 1 0).toNat * 2 ^ 32

/-- SET, executed as the corresponding critical command (R366). -/
def cosemSet (s : State) (r : Role) (o : CosemObject) (attr : Nat) (v : List Word) : Answer × State :=
  let ans (x : Nat × State) : Answer × State := ((x.1, []), x.2)
  let nums := v.map (·.toNat)
  if !mayWrite r attr o then ((5, []), s)
  else if s.standing then ((3, []), s)
  else
    match o with
    | .clock => if v.length = 2 then ans (s.timeSet (Int.ofNat (num64 v))) else ((4, []), s)
    | .profile two =>
      if two then
        (if attr = 4 then ans (s.paramWrite 2 18 0xFF (nums ++ s.profChan true))
         else ans (s.paramWrite 2 18 0xFF (s.p2Mins :: nums)))
      else if attr = 3 then ans (s.paramWrite 2 17 0xFF nums)
      else ((4, []), s)
    | .portParams p => if 2 ≤ attr ∧ attr ≤ 7 then ans (s.paramWrite 2 (attr - 1) p.val nums) else ((4, []), s)
    | .calendarObj => ans (s.calLoad (bytesOf v))
    | _ => ((4, []), s)

/-- ACTION. Token gateway: 1 enters a token, 2 binds a port's session to an account, 3 releases it (R386, R389). Calendar: 1
activates, 2 discards (R374). Clock: 1 sets the time (R384). No method of the security setup has a stated effect. -/
def cosemAct (s : State) (r : Role) (o : CosemObject) (method : Nat) (v : List Word) : Answer × State :=
  let ans (x : Nat × State) : Answer × State := ((x.1, []), x.2)
  let nums := v.map (·.toNat)
  if !mayAct r o then ((5, []), s)
  else
    match o with
    | .securitySetup _ => ((0, []), s)
    | .clock =>
      if s.standing then ((3, []), s)
      else if method = 1 ∧ v.length = 2 then ans (s.timeSet (Int.ofNat (num64 v))) else ((4, []), s)
    | .calendarObj =>
      if s.standing then ((3, []), s)
      else if method = 1 then ans s.calActivate
      else if method = 2 then ans s.calDiscard
      else ((4, []), s)
    | .tokenGateway =>
      if s.standing then ((3, []), s)
      else if method = 1 then
        let x := s.tokenEnter nums
        ((x.1, if x.1 = 0 then [BitVec.ofNat 32 (x.2.meter.tokenResult.getD 0xFF)] else []), x.2)
      else if method = 2 then ans (s.bindAccount (nums.getD 0 0xFF) (nums.getD 1 0))
      else if method = 3 then ans (s.releaseAccount (nums.getD 0 0xFF))
      else ((4, []), s)
    | _ => ((4, []), s)

/-- One APDU executed with a role's rights; only GET is taken in HOLD and in RETIRED (R82, R364). -/
def apdu (s : State) (r : Role) (a : Apdu) : Answer × State :=
  match a.op with
  | .get => s.cosemGet r a.obj a.attr
  | .set v => if s.hold || s.lifeState == 4 then ((3, []), s) else s.cosemSet r a.obj a.attr v
  | .action m v => if s.hold || s.lifeState == 4 then ((3, []), s) else s.cosemAct r a.obj m v

/-! ## Associations (R365, R366) -/

/-- Code of an interface. -/
def ifCode : DlmsIf → Nat
  | .tcp => 0
  | .hdlc => 1

/-- An interface answers: on the RS-485 bus, which both units of a pair share, the unit without the claim keeps its driver
off (R63). -/
def speaks (s : State) (i : DlmsIf) : Bool := match i with
  | .tcp => true
  | .hdlc => s.holdsClaim

/-- An association opened: at most one per interface and client SAP; every role but PUBLIC authenticates with keys from
METER slot 5. -/
def assocOpen (s : State) (i : DlmsIf) (r : Role) (authenticated : Bool) : State :=
  let key := (ifCode i, roleCode r)
  if !s.meter.running || !s.speaks i || s.meter.assoc.contains key then s
  else if r = .pub || (authenticated && (s.slotKey 5).isSome) then
    s.updMeter (fun m => { m with assoc := m.assoc ++ [key] })
  else s

/-- An APDU that changes something: the invocation counter stands in for the command counter (R366). -/
def changes (a : Apdu) : Bool := match a.op with
  | .get => false
  | _ => true

/-- An APDU on an association; without one it finds no server. The reply is kept with its status first. -/
def dlmsApdu (s : State) (i : DlmsIf) (r : Role) (a : Apdu) : State :=
  if !s.meter.running || !s.speaks i || !s.meter.assoc.contains (ifCode i, roleCode r) then s
  else if changes a && r ≠ .pub && decide (a.counter.toNat ≤ eGet s.meter.invoc (roleCode r)) then
    s.updMeter (fun m => { m with reply := [2] })
  else
    let s := if changes a && r ≠ .pub then
        s.updMeter (fun m => { m with invoc := ePut m.invoc (roleCode r) a.counter.toNat })
      else s
    let x := s.apdu r a
    x.2.updMeter (fun m => { m with reply := BitVec.ofNat 32 x.1.1 :: x.1.2 })

end State
end Sys2Proof.Machine
end

