-- ==== Sys2Proof/Machine/Window.lean ====
section
/-!
DEFINITION. The shared window: slots, headers, accesses of the host view and of the device view, bulk claims, the device
status block (R61, R106 to R114).
-/

namespace Sys2Proof.Machine

namespace State

/-! ## Status code and status block (R61, R114) -/

/-- A tamper cause is recorded. -/
def tampered (s : State) : Bool :=
  s.on 0 F.KEY_TAMPER_MESH || s.on 0 F.KEY_TAMPER_LIGHT || s.on 0 F.KEY_TAMPER_TEMP || s.on 0 F.KEY_TAMPER_VBAT ||
    s.on 0 F.KEY_TAMPER_KEEP_LOSS

/-- The lead die runs its set. -/
def leadRuns (s : State) : Bool := decide (s.pkg.die.get 0 = .running) && s.pkg.booted && !s.hold

/-- A retired element or die, or a port in degraded mode (R61). -/
def degradedUnit (s : State) : Bool :=
  !s.faults.retired.isEmpty || s.on pkgDie F.PKG_DIES_RETIRED ||
    (List.finRange 8).any (fun d => s.dieUsed d && (List.finRange 4).any (fun k => s.on d F.SAF_P_STAT_DEGRADED k))

/-- The conditions of R61 by code. -/
def statCond (s : State) (c : Nat) : Bool :=
  let active := decide (s.role ≤ 1)
  match c with
  | 0 => s.faults.chipResp || s.faults.chipRetired || decide (s.pkg.die.get 0 = .thermal) ||
      s.bit pkgDie F.PKG_DIES_LATCHED_OFF 0
  | 1 => s.tampered || (s.keys.root.isNone && s.lifeState != 0)
  | 2 => s.hold
  | 3 => s.lifeState == 3
  | 4 => s.leadRuns && active && s.degradedUnit
  | 5 => s.leadRuns && !active
  | 6 => s.leadRuns && active && !s.degradedUnit
  | _ => !s.leadRuns && !s.hold

/-- PKG_STAT.CODE: the lowest code whose condition holds. -/
def statCode (s : State) : Nat := ((List.range 8).find? (fun c => s.statCond c)).getD 7

/-- PKG_STAT.HELD. -/
def statHeld (s : State) : Nat := (List.range 8).foldl (fun (n : Nat) (c : Nat) => if s.statCond c then n + 2 ^ c else n) 0

/-- The certificate that covers the running set (R73). -/
def runningCert (s : State) : Option Config.Cert :=
  Config.certOf (s.certBytes 0 (s.rd 0 F.LCS_BOOT_SET_BANK) (s.rd 0 F.LCS_BOOT_CERT_IDX))

/-- Mode of status word 2. -/
def bootMode (s : State) : Nat :=
  if s.lcs.restart.isSome then 3
  else if s.hold then 2
  else if s.lifeState = 4 ∧ s.pkg.booted then 4
  else if s.leadRuns then 1
  else 0

/-- Words 0 to 5 and 7 to 17 of the status block (R114); word 6 keeps its heartbeat. -/
def statusBlock (s : State) : List Word :=
  let n := fun (x : Nat) => BitVec.ofNat 32 x
  let cert := s.runningCert
  let ports := (List.finRange 32).foldl (fun (m : Nat) (p : Fin 32) =>
    if s.dieUsed (Port.die p) && s.psState (Port.die p) (Port.loc p) != 0 then m + 2 ^ p.val else m) 0
  let ctr := fun (r : Nat) => [s.word (fldAddr 0 F.SMW_LASTCTR r 0), s.word (fldAddr 0 F.SMW_LASTCTR r 1)]
  [n 0x4E445357,
   n ((cert.map (·.winGen)).getD 0 + 256 * (cert.map (·.recGen)).getD 0),
   n (s.bootMode + 16 * s.lifeState + 256 * s.statCode + 2048 * s.role),
   s.word (fldAddr 0 F.LCS_BOOT_SET_BANK 0 0), s.word (fldAddr pkgDie F.PKG_DIES_PRESENT 0 0), n ports,
   s.mword (winKey 24), n (s.logs.get 0).next] ++ ctr 4 ++ ctr 2 ++ ctr 3 ++ ctr 1 ++ ctr 0

/-- The status block rewritten; a change of words 2 to 5 raises STATUS_CHG. -/
def statusUpdate (s : State) : State :=
  let new := s.statusBlock
  let chg := (List.range 4).any (fun i => s.mword (winKey (4 * (i + 2))) != new.getD (i + 2) 0)
  let s := s.setMwords (winKey 0) new
  if chg then s.wr 0 F.SMW_EVT_STATUS_CHG 1 else s

/-- The lead die executes: HOST firmware, or the recovery service in HOLD (R76, R114). -/
def leadAlive (s : State) : Bool :=
  decide (s.pkg.die.get 0 = .running) || (decide (s.pkg.die.get 0 = .boot) && s.pkg.booted)

end State

/-- SLOT_SUBMIT (R109). -/
def execSlotSubmit (r : Requester) (slot : Nat) (header : Word) (s : State) : Host.Outcome State Fault Refusal :=
  .next (s.windowWrite r (slotBase slot) header)

/-- SLOT_CONSUME (R109, R112). -/
def execSlotConsume (r : Requester) (slot : Nat) (header : Word) (s : State) : Host.Outcome State Fault Refusal :=
  .next (s.windowWrite r (slotBase slot) header)

/-- SLOT_CLAIM (R113). -/
def execSlotClaim (s : State) : Host.Outcome State Fault Refusal :=
  .next (match s.nextBulk with
    | some i => s.claimSlot i
    | none => s)

/-- SLOT_PUBLISH (R109): of a slot that is not device-owned it is ignored and sets ILLEGAL_OWN. -/
def execSlotPublish (slot : Nat) (header : Word) (s : State) : Host.Outcome State Fault Refusal :=
  .next (if s.own slot = 2 then s.publish slot (hSeq header) (hLen header) else s.smwErr F.SMW_ERR_ILLEGAL_OWN slot)

/-- SLOT_TAKE (R109): of a slot that is not device-owned it is ignored and sets ILLEGAL_OWN. -/
def execSlotTake (slot : Nat) (s : State) : Host.Outcome State Fault Refusal :=
  .next (if s.own slot = 2 then s.takeSlot slot else s.smwErr F.SMW_ERR_ILLEGAL_OWN slot)

/-- PAYLOAD_WRITE (R110). -/
def execPayloadWrite (r : Requester) (offset : Nat) (value : Word) (s : State) : Host.Outcome State Fault Refusal :=
  .next (s.windowWrite r offset value)

/-- EARLY_READ (R111): the word read is the last the host got. A core's read at an address that is no multiple of 4 is a byte or
halfword access, which takes the word's bytes from there (R481); through the device view nothing counts as early. The host port's
is ignored and reads zero. -/
def execEarlyRead (r : Requester) (offset : Nat) (s : State) : Host.Outcome State Fault Refusal :=
  .next (if r = .hostPort ∧ offset % 4 ≠ 0 then { s.wr 0 F.HPI_STAT_MISALIGN 1 with hpiOut := [0] }
  else if hostView r ∧ offset < 0x100000 then
    let x := s.hostRead r (offset - offset % 4)
    { x.2 with hpiOut := [x.1 >>> (8 * (offset % 4))] }
  else if leadMachine r ∧ 0x100000 ≤ offset ∧ offset < 0x200000 then
    let o := (offset - offset % 4) % 0x100000
    { s.winEcc o with hpiOut := [s.mword (State.winKey o) >>> (8 * (offset % 4))] }
  else if offset < 0x100000 then { s with hpiOut := [0] }
  else { s.accessFault r (0x30000000 + offset) with hpiOut := [] })

/-- STATUS_BLOCK_UPDATE (R114). -/
def execStatusBlockUpdate (s : State) : Host.Outcome State Fault Refusal :=
  .next (if s.leadAlive then s.statusUpdate else s)

/-- STATUS_HEARTBEAT (R114). -/
def execStatusHeartbeat (s : State) : Host.Outcome State Fault Refusal :=
  .next (if s.leadAlive then s.setMword (State.winKey 24) (s.mword (State.winKey 24) + 1) else s)

end Sys2Proof.Machine
end

