-- ==== Sys2Proof/Machine/Twin.lean ====
section
/-!
DEFINITION. Twin operation: link, heartbeats, roles, the claim, handover records, takeover, planned handover and
resynchronisation (R435 to R457).
-/

namespace Sys2Proof.Machine.State

/-! ## Small operations -/

/-- The twin's typed part changed. -/
def updTwin (s : State) (f : Twin → Twin) : State := { s with twin := f s.twin }

/-- A twin event with the first one since clear (TWN_EVT). -/
def twnEvt (s : State) (f : Fld) : State := s.raise 0 f F.TWN_EVT_FIRST

/-- The link is trained. -/
def linkUp (s : State) : Bool := s.on 0 F.TWN_STAT_LINK_UP

/-- This unit may never claim: strap clash, tamper, MAINTENANCE, HOLD, RETIRED or a retired chip (R82, R92, R438, R443, R461). -/
def neverClaims (s : State) : Bool := s.twin.clash || s.keys.root.isNone || decide (3 ≤ s.lifeState) || s.hold || s.faults.chipRetired

/-- The unit becomes or stays HELD with a cause; a resynchronisation stops. -/
def toHeld (s : State) (cause : Nat) : State :=
  let s := (s.setRole 3 cause).wr 0 F.TWN_STAT_SYNCED 0
  (s.wr 0 F.TWN_RESYNC_BUSY 0).updTwin (fun t => { t with starting := false, planned := 0, detect := 0, discards := 0,
                                                          good := 0 })

/-- Outputs enabled: the latch cells follow them (R440, R448). -/
def outputsOn (s : State) : State := (s.wr 0 F.TWN_STAT_OUT_EN 1).updTwin (fun t => { t with latchHold := false, enabling := false })

/-- The claim raised; the outputs follow 5 µs later (R440, R447). -/
def claimRaise (s : State) : State := (s.wr 0 F.TWN_STAT_CLAIM_OWN 1).updTwin (fun t => { t with enabling := true, cut := false })

/-- "Ports available": a starting unit claims, a SOLO unit without its claim claims (R439). -/
def portsAvailable (s : State) : State :=
  if s.neverClaims || s.on 0 F.TWN_STAT_CLAIM_OWN || decide (2 ≤ s.role) then s
  else if s.twin.starting then
    if s.linkUp then ((s.setRole 1 0).updTwin (fun t => { t with starting := false })).claimRaise else s
  else s.claimRaise

/-! ## Compatibility (R456) -/

/-- The own and the peer's set are compatible. -/
def compatible (s : State) : Bool :=
  let own := s.rd 0 F.TWN_GEN_OWN
  let acc := s.rd 0 F.TWN_GEN_ACC
  let peer := s.rd 0 F.TWN_GEN_PEER
  own == peer || (acc != 0 && acc == peer) || (s.twin.peerAcc.toNat != 0 && s.twin.peerAcc.toNat == own)

/-- The words of SAF_CFG_DIGEST of all dies. -/
def cfgDigests (s : State) : List Word :=
  (List.range 8).flatMap (fun d => (List.range 8).map (fun i => s.word (fldAddr d F.SAF_CFG_DIGEST i 0)))

/-- CAL_ID of the almanac, 0 without one. -/
def almanacId (s : State) : Word := match s.meter.almanac with
  | some c => c.calId
  | none => 0

/-- A resynchronisation begun: its steps 1 and 2, then the region copies (R454). -/
def resyncStart (s : State) : State :=
  if !s.linkUp || s.role != 3 || s.neverClaims then s
  else
    let s := ((s.setRole 3 1).wr 0 F.TWN_RESYNC_PROGRESS 0).updTwin (fun t => { t with copied := [], good := 0, discards := 0 })
    if !s.compatible then (s.wr 0 F.TWN_RESYNC_STEP 1).setRole 3 2
    else if s.cfgDigests ≠ s.twin.peerCfg ∨ s.almanacId ≠ s.twin.peerCal then
      ((s.wr 0 F.TWN_RESYNC_STEP 2).twnEvt F.TWN_EVT_CFG_MISMATCH).setRole 3 3
    else (s.wr 0 F.TWN_RESYNC_STEP 3).wr 0 F.TWN_RESYNC_BUSY 1

/-! ## The link (R435, R439, R443) -/

/-- Lanes of the twin link that are not retired (R435). -/
def twinLanes (s : State) : Nat :=
  (List.range 4).foldl (fun (n : Nat) (l : Nat) => if s.isRetired 0 1 0x21 l then n else n + 2 ^ l) 0

/-- The roles settled after a training. -/
def settle (s : State) (p : PeerHello) : State :=
  let peer := p.role.val
  let s := s.updTwin (fun t => { t with clash := false })
  if s.twin.starting then
    if !p.starting ∧ peer ≤ 1 then (s.toHeld 1).resyncStart else s
  else if s.role = 0 then
    if !p.starting ∧ peer ≤ 1 then
      let s := s.twnEvt F.TWN_EVT_DUAL_ACTIVE
      if p.claimedLater then s.setRole 1 0 else (s.claimDrop).toHeld 11
    else s.setRole 1 0
  else s

/-- TWIN_LINK_TRAINED. The session key of slot 3 comes from the pairing key and both nonces (log entry 41). -/
def linkTrained (s : State) (p : PeerHello) : State :=
  if !s.on 0 F.TWN_CTRL_EN || s.linkUp then s
  else
    let x := s.freeWord
    let s := x.2.updTwin (fun t => { t with nonce := x.1.toNat })
    match s.slotKey 1 with
    | none => s.twnEvt F.TWN_EVT_AUTH_FAIL
    | some k =>
      if !p.keyConfirmed then s.twnEvt F.TWN_EVT_AUTH_FAIL
      else
        let key := (Config.hmacSha256 k (leBytes 4 s.twin.nonce ++ leBytes 4 p.nonce)).toList
        let s := (s.setSlotAttr 3 0xB1).setCache 3 (some key)
        let s := ((s.wr 0 F.TWN_STAT_LINK_UP 1).wr 0 F.TWN_STAT_LANES_OK s.twinLanes).twnEvt F.TWN_EVT_LINK_UP
        let s := ((s.wr 0 F.TWN_STAT_PEER_ROLE p.role).wr 0 F.TWN_GEN_PEER p.gen.toNat).updTwin (fun t =>
          { t with missed := 0, peerCfg := p.safDigests, peerCal := p.calId, peerAcc := p.acc })
        if p.strapB = s.on 0 F.TWN_STAT_UNIT then
          let s := (s.wr 0 F.TWN_EVT_STRAP_CLASH 1).updTwin (fun t => { t with clash := true })
          if s.on 0 F.TWN_STAT_CLAIM_OWN then s else s.toHeld 10
        else s.settle p

/-- TWIN_LINK_TRAIN_TIMEOUT: a starting unit runs SOLO and claims when its ports are available (R64, R439). -/
def trainTimeout (s : State) : State :=
  if s.linkUp || !s.twin.starting then s
  else
    let s := (s.setRole 0 0).updTwin (fun t => { t with starting := false })
    if s.leadRuns && s.on pkgDie F.PKG_DIES_LEAD_OK && s.on pkgDie F.PKG_PWR_HOLDUP_READY && s.on pkgDie F.PKG_PWR_V24_OK then
      s.portsAvailable
    else s

/-- What the link's fall takes with it: the session key, the peer's flags, a resynchronisation. -/
def linkFall (s : State) : State :=
  let s := ((s.wr 0 F.TWN_STAT_LINK_UP 0).wr 0 F.TWN_STAT_LANES_OK 0).twnEvt F.TWN_EVT_LINK_DOWN
  let s := (s.setCache 3 none).setSlotAttr 3 0
  let s : State := { s with servo := { s.servo with peer := none } }
  let s := s.updTwin (fun t => { t with peerFlags := (false, false, false), planned := 0 })
  if s.on 0 F.TWN_RESYNC_BUSY then s.toHeld 4 else s

/-- TWIN_LINK_DOWN (R439). -/
def linkDown (s : State) : State :=
  if !s.linkUp then s
  else
    let s := s.linkFall
    if s.role = 1 then s.setRole 0 0
    else if s.role = 2 && s.on 0 F.TWN_STAT_CLAIM_PEER then s.toHeld 4
    else s

/-! ## Heartbeats (R437, R455) -/

/-- A signed difference of two 32-bit counts. -/
def diff32 (a b : Nat) : Int := sext 32 (uns 32 (Int.ofNat a - Int.ofNat b))

/-- HEARTBEAT_RECEIVE. -/
def heartbeat (s : State) (h : Heartbeat) : State :=
  if !s.linkUp then s
  else
    let had := s.on 0 F.TWN_STAT_PEER_MAINS_LOST
    let s := ((s.wr 0 F.TWN_STAT_PEER_ROLE h.role).wrB 0 F.TWN_STAT_PEER_MAINS_LOST h.mainsLost).wr 0 F.TWN_GEN_PEER h.gen.toNat
    let s := if h.mainsLost && !had then s.twnEvt F.TWN_EVT_PEER_MAINS else s
    let s := s.updTwin (fun t => { t with missed := 0, peerFlags := (h.healthy, h.releasing, h.synced),
                                          peerSrc := h.src })
    let s := if h.releasing && s.role == 2 && s.twin.detect == 0 then s.updTwin (fun t => { t with detect := 3 }) else s
    if 2 ≤ s.role ∧ !s.twin.clash then
      let r : Int := diff32 h.ns.toNat (s.rd 0 F.TSU_NS) * 10000000
      let s := { s with servo := { s.servo with peer := some r } }
      let t := if s.servo.tickDue ∧ h.grid ≠ 9 then h.tick - 1 else h.tick
      s.onUsed (fun s d => s.wr d F.TSU_TICK t.toNat)
    else s

/-- HEARTBEAT_MISS. -/
def heartbeatMiss (s : State) : State :=
  if !s.linkUp then s
  else
    let n := s.twin.missed + 1
    let s := (s.satCnt 0 F.TWN_CNT_HB_MISS).updTwin (fun t => { t with missed := n })
    if n = 3 then
      let s := s.twnEvt F.TWN_EVT_HB_LOST
      if s.role = 2 ∧ s.twin.detect = 0 then s.updTwin (fun t => { t with detect := 1 }) else s
    else s

/-- The heartbeat sent at a grid edge. -/
def ownHeartbeat (s : State) (releasing : Bool) : Heartbeat :=
  { tick := s.word (fldAddr 0 F.TSU_TICK 0 0) + (if s.servo.tickDue then 1 else 0), grid := ⟨s.rd 0 F.TSU_GRID % 10, Nat.mod_lt _ (by decide)⟩,
    role := ⟨s.role % 4, Nat.mod_lt _ (by decide)⟩, healthy := s.leadRuns && !s.faults.chipResp, releasing := releasing,
    mainsLost := s.on pkgDie F.PKG_PWR_MAINS_LOST, synced := s.on 0 F.TWN_STAT_SYNCED,
    ns := s.word (fldAddr 0 F.TSU_NS 0 0), rseq := s.twin.rseq, gen := BitVec.ofNat 8 (s.rd 0 F.TWN_GEN_OWN),
    src := ⟨s.timeSrc % 6, Nat.mod_lt _ (by decide)⟩ }

/-- A grid edge: a heartbeat leaves while the twin block runs, on hold-up too (R52). -/
def twinEdge (s : State) : State :=
  if s.linkUp && (s.leadAlive || decide (s.pkg.pd = .removed)) then
    let h := s.ownHeartbeat false
    s.updTwin (fun t => { t with sentHb := some h })
  else s

/-! ## The antler line (R440, R441, R448) -/

/-- CLAIM_KEEPER_EXPIRY: the claim falls with its refreshes. -/
def keeperExpiry (s : State) : State :=
  if !s.on 0 F.TWN_STAT_CLAIM_OWN then s
  else if s.role = 1 then s.ownRelease
  else (s.claimDrop).updTwin (fun t => { t with enabling := false })

/-- ANTL_IN_CHANGE. -/
def antlIn (s : State) (level : Bool) : State :=
  let s := s.wrB 0 F.TWN_STAT_CLAIM_PEER level
  if level then
    let s := s.outputsOff
    if s.twin.starting && s.linkUp && !s.on 0 F.TWN_STAT_CLAIM_OWN then (s.toHeld 1).resyncStart else s
  else
    let s := if s.on 0 F.TWN_STAT_CLAIM_OWN && !s.twin.enabling then s.outputsOn else s
    if s.role = 2 ∧ s.twin.detect = 0 then s.updTwin (fun t => { t with detect := 2 }) else s

/-- CLAIM_WITHDRAW: a claim raised against the peer's; in a settling window only unit B yields. -/
def claimWithdraw (s : State) (settling : Bool) : State :=
  if !s.on 0 F.TWN_STAT_CLAIM_OWN || s.outEn || (settling && !s.on 0 F.TWN_STAT_UNIT) || (!settling && !s.on 0 F.TWN_STAT_CLAIM_PEER) then s
  else
    let s := ((s.wr 0 F.TWN_STAT_CLAIM_OWN 0).updTwin (fun t => { t with enabling := false, cut := true })).toHeld 1
    if s.linkUp then s.resyncStart else s

/-- OUTPUT_ENABLE: 5 µs after the claim, unless the peer's stands. -/
def outputEnable (s : State) (gap : Nat) : State :=
  if !s.twin.enabling || !s.on 0 F.TWN_STAT_CLAIM_OWN then s
  else
    let s := s.updTwin (fun t => { t with enabling := false })
    if s.on 0 F.TWN_STAT_CLAIM_PEER then s
    else
      let s := s.outputsOn
      if s.rd 0 F.TWN_GAP_DETECT = 0 then s else s.wr 0 F.TWN_GAP_LAST_GAP gap

/-- LATCH_RELEASE: the cells of disabled outputs release, safety outputs and channels to off, INH to driven. -/
def latchRelease (s : State) : State :=
  if !s.twin.latchHold || s.outEn || !s.on 0 F.TWN_STAT_CLAIM_PEER then s
  else
    let s := s.onDies (fun s d => s.onPorts (fun s k => s.wr d F.SAF_OUT_LATCHED 0 k))
    s.updTwin (fun t => { t with latchHold := false, inhLatch := BitVec.allOnes 32, lswLatch := Vector.replicate 8 0 })

/-! ## Records sent (R444, R445) -/

/-- The entry of a port. -/
def portEntry (s : State) (d : Fin 8) (k : Fin 4) : PortEntry :=
  let o := s.ovr d k
  let w := fun (f : Fld) => s.word (fldAddr d f k.val 0)
  { port := portOf d k, state := ⟨s.psState d k % 16, Nat.mod_lt _ (by decide)⟩, permit := s.on d F.STL_PSAFE_PERMIT k,
    ccPass := s.on d F.STL_PSAFE_CC_PASS k, unlockOk := s.on d F.STL_PSAFE_UNLOCK_OK k,
    faultAct := s.on d F.STL_PSAFE_FAULT_ACT k, weldLatch := s.on d F.SAF_P_STAT_WELD_LATCH k,
    tripLatch := s.on d F.SAF_P_STAT_TRIP_LATCH k, degraded := s.on d F.SAF_P_STAT_DEGRADED k,
    cause := ⟨s.rd d F.STL_PSAFE_CAUSE k % 16, Nat.mod_lt _ (by decide)⟩, dir := s.on d F.STL_P_CFG_DIR k,
    session := BitVec.ofNat 32 (s.meter.sessCount.get (portOf d k)), held := w F.OXE_PORT_OUT, derate := w F.OXE_PORT_DERATE,
    vhi := w F.STL_P_VHI, vlo := w F.STL_P_VLO, plim := w F.STL_P_PLIM,
    ovrMode := ⟨s.rd d F.OXE_PORT_OVR_MODE k % 4, Nat.mod_lt _ (by decide)⟩,
    rampMs := ⟨s.rd d F.OXE_PORT_OVR_RAMP_MS k % 64, Nat.mod_lt _ (by decide)⟩, v0 := BitVec.ofNat 32 o.v0, edges := o.edges,
    degLeft := BitVec.ofNat 16 (s.rd d F.SAF_P_STAT_DEG_LEFT k) }

/-- The outputs of a die. -/
def outEntry (s : State) (d : Fin 8) : OutEntry :=
  { die := d, sout := (List.range 4).map (fun k => BitVec.ofNat 4 (s.rd d F.SAF_OUT_CMD k)),
    lswSafeEn := BitVec.ofNat 12 (s.rd d F.LSW_SAFE_EN_EN),
    lsw := (List.range 12).map (fun n => (s.on d F.LSW_CH_CMD_ON n, BitVec.ofNat 14 (s.rd d F.LSW_CH_CMD_DUTY n),
      ⟨s.rd d F.LSW_CH_STAT_STATE n % 8, Nat.mod_lt _ (by decide)⟩)) }

/-- Bytes of a change-stream item with its type and length. -/
def itemSize : ChangeItem → Nat
  | .record _ => 259
  | .sessionStart _ _ _ _ _ _ => 43
  | .calendar _ _ => 883
  | .account _ _ _ => 15
  | .tokenWindow _ _ => 1029
  | .herdModes _ _ => 67
  | .meterParam _ v => 3 + max 16 (min 256 (4 + 4 * v.length))

/-- The items that fit a record, whole and in order, and those that wait. -/
def fitItems (room : Nat) : List ChangeItem → List ChangeItem × List ChangeItem
  | [] => ([], [])
  | i :: t =>
    if itemSize i ≤ room then
      let x := fitItems (room - itemSize i) t
      (i :: x.1, x.2)
    else ([], i :: t)

/-- Register IDs of the deltas, and of a slice. -/
def deltaIds : List Nat := (List.range 32).flatMap (fun p => [portReg p 0, portReg p 1, portReg p 2]) ++ List.range 28
def sliceIds (n : Nat) : List Nat := if n < 32 then (List.range 19).map (portReg n) else List.range 28

/-- Data words of a die that a record carries, at most 80: those of R275, T_EST, CU_INT and CU_LIM of each port, and those that the LOOP
image's context table marks (R444; log entry 41). -/
def markedWords (s : State) (d : Fin 8) (img : List Byte) : List Nat :=
  let cool := (List.range 4).flatMap (fun k =>
    [s.rd d F.OXE_CTX_DWIN_DBASE 5 + 16 * k + 8, s.rd d F.OXE_CTX_DWIN_DBASE 5 + 16 * k + 9, s.rd d F.OXE_CTX_DWIN_DBASE k + 3])
  ((cool.map (· % 2048)) ++ Config.handoverWords img).eraseDups.take 80

/-- The record of the tick just ended. -/
def makeRecord (s : State) : HandoverRec :=
  let m := s.meter
  let own := s.rd 0 F.TWN_GEN_OWN
  let acc := s.rd 0 F.TWN_GEN_ACC
  let img := s.image 0 (s.rd 0 F.LCS_BOOT_SET_BANK) 1
  { tagOk := true, gen := BitVec.ofNat 8 (if acc ≠ 0 ∧ s.rd 0 F.TWN_GEN_PEER = acc then acc else own),
    planned := s.twin.planned == 1, mainsLost := s.on pkgDie F.PKG_PWR_MAINS_LOST, tick := s.word (fldAddr 0 F.TSU_TICK 0 0),
    rseq := s.twin.rseq + 1, tai := (s.tai 0).toNat, slice := s.twin.slice,
    ports := (List.finRange 32).map (fun p => s.portEntry (Port.die p) (Port.loc p)),
    engine := (List.finRange 8).flatMap (fun d => (s.markedWords d img).map (fun i =>
      (d, i, BitVec.ofInt 32 (s.dataGet d (i % 2048))))),
    allocWords := (List.range 24).map (fun i => (0x28 + i, BitVec.ofInt 32 (s.dataGet 0 (s.rd 0 F.OXE_CTX_DWIN_DBASE 4 + 0x28 + i)))),
    allocs := s.alloc.last.toList.map (fun n => BitVec.ofNat 32 n),
    setpoints := s.alloc.setp.toList.map (fun n => BitVec.ofInt 32 n),
    hold := s.alloc.hold.toList, seqs := s.alloc.seq.toList, fans := s.cool.toList.map (fun c => c.fanInt), tampers := m.tampers,
    outputs := (List.finRange 8).map (fun d => s.outEntry d),
    deltas := deltaIds.filterMap (fun id =>
      let x := eGet m.sinceRec id
      let dm := eGet m.energy id / 2 ^ 32 - (eGet m.energy id - x) / 2 ^ 32
      if dm = 0 then none else some (id, dm)),
    sliceRegs := (sliceIds s.twin.slice).map (fun id => (id, mwh m.energy id)),
    counters := [(Role.reader, 0), (.billing, 1), (.site, 2), (.service, 3), (.vendor, 4)].map (fun (x : Role × Fin 5) =>
      (x.1, s.keys.kcv.get x.2, BitVec.ofNat 64 (s.rd 0 F.SMW_LASTCTR x.2.val 0 + s.rd 0 F.SMW_LASTCTR x.2.val 1 * 2 ^ 32))),
    changes := (fitItems 2304 s.twin.stream).1 }

/-- A record sent at a site tick edge by an active unit (R444). -/
def sendRecord (s : State) : State :=
  let r := s.makeRecord
  let rest := (fitItems 2304 s.twin.stream).2
  let s := s.updTwin (fun t => { t with rseq := r.rseq, slice := (t.slice + 1) % 33, stream := rest, sentRec := some r,
                                        planned := if t.planned = 1 then 2 else t.planned })
  let s := s.updMeter (fun m => { m with sinceRec := [] })
  (s.wr 0 F.TWN_REC_RSEQ (r.rseq.toNat % 65536)).wr 0 F.TWN_REC_AGE 0

/-- Accepted counters sent to the peer, each with its KCV (R118). -/
def sendCounters (s : State) : State :=
  let sent := s.gate.twinQueue.map (fun i =>
    (i, s.keys.kcv.toList.getD i 0, BitVec.ofNat 64 (s.rd 0 F.SMW_LASTCTR i 0 + s.rd 0 F.SMW_LASTCTR i 1 * 2 ^ 32)))
  ({ s with gate := { s.gate with twinQueue := [] } }).updTwin (fun t => { t with sentCtr := sent })

/-- The twin's part of a site tick; counters queued for the twin leave with it, whatever the role (R118). -/
def twinTick (s : State) : State :=
  let s := s.satCnt 0 F.TWN_REC_AGE
  let s := if s.linkUp then s.sendCounters else s
  if s.role = 1 ∧ s.linkUp then
    let n := if s.twin.peerFlags.2.2 then s.twin.syncedTicks + 1 else 0
    (s.updTwin (fun t => { t with syncedTicks := n })).sendRecord
  else if s.role = 2 then s.updTwin (fun t => { t with syncedTicks := t.syncedTicks + 1 })
  else s

/-! ## Records received (R446, R358) -/

/-- A role's counter adopted from the peer under the same KCV (R118). -/
def adoptCounter (s : State) (r : Role) (kcv : Word) (ctr : DWord) : State :=
  match r with
  | .pub => s
  | _ =>
    let i := (roleCode r + 4) % 5
    let own := s.rd 0 F.SMW_LASTCTR i 0 + s.rd 0 F.SMW_LASTCTR i 1 * 2 ^ 32
    if (s.keys.kcv.toList.getD i 0) = kcv ∧ own < ctr.toNat then
      (s.wr 0 F.SMW_LASTCTR (ctr.toNat % 2 ^ 32) i 0).wr 0 F.SMW_LASTCTR (ctr.toNat / 2 ^ 32) i 1
    else s

/-- A port's entry loaded into the shadow (R251, R445). -/
def loadPort (s : State) (e : PortEntry) : State :=
  let d := Port.die e.port
  let k := Port.loc e.port
  let old := s.psState d k
  let s := (((((s.wr d F.STL_PSTATE_STATE e.state k).wrB d F.STL_PSAFE_PERMIT e.permit k).wrB d F.STL_PSAFE_CC_PASS e.ccPass
    k).wrB d F.STL_PSAFE_UNLOCK_OK e.unlockOk k).wrB d F.STL_PSAFE_FAULT_ACT e.faultAct k).wr d F.STL_PSAFE_CAUSE e.cause k
  let s := (((s.wrB d F.SAF_P_STAT_WELD_LATCH e.weldLatch k).wrB d F.SAF_P_STAT_TRIP_LATCH e.tripLatch k).wrB d
    F.SAF_P_STAT_DEGRADED e.degraded k).wr d F.SAF_P_STAT_DEG_LEFT e.degLeft.toNat k
  let s := (((((s.wrB d F.STL_P_CFG_DIR e.dir k).wr d F.OXE_PORT_OUT e.held.toNat k).wr d F.OXE_PORT_DERATE e.derate.toNat k).wr d
    F.STL_P_VHI e.vhi.toNat k).wr d F.STL_P_VLO e.vlo.toNat k).wr d F.STL_P_PLIM e.plim.toNat k
  let s := (((s.wr d F.OXE_PORT_OVR_MODE e.ovrMode k).wr d F.OXE_PORT_OVR_RAMP_MS e.rampMs k).wrB d F.OXE_PORT_OVR_ACTIVE
    (decide (e.ovrMode ≠ 0)) k).wrB d F.OXE_PORT_OVR_AT_ZERO (decide (e.ovrMode ≠ 0) && decide (e.held = 0)) k
  let s := s.updOvr d k (fun o => { o with v0 := e.v0.toNat, edges := e.edges })
  let s := s.updMeter (fun m => { m with sessCount := m.sessCount.set e.port e.session.toNat })
  let ramp := if e.state = 6 ∧ e.ovrMode = 1 then some (e.cause.val, e.rampMs.val, Int.ofNat e.v0.toNat, e.edges) else none
  let s := s.updSaf d k (fun p => { p with ramp := ramp })
  if old = 0 ∧ e.state ≠ 0 then
    let cfg := (s.saf.get d).stored.map (fun c => c.ports.get k)
    s.updSaf d k (fun p => { p with cfg := cfg })
  else s

/-- A die's outputs loaded into the shadow. -/
def loadOut (s : State) (e : OutEntry) : State :=
  let d := e.die
  let s := (List.finRange 4).foldl (fun (s : State) (k : Fin 4) => s.wr d F.SAF_OUT_CMD (e.sout.getD k.val 0).toNat k) s
  let s := s.wr d F.LSW_SAFE_EN_EN e.lswSafeEn.toNat
  (List.range 12).foldl (fun (s : State) (n : Nat) =>
    match e.lsw[n]? with
    | some x => ((s.wrB d F.LSW_CH_CMD_ON x.1 n).wr d F.LSW_CH_CMD_DUTY x.2.1.toNat n).wr d F.LSW_CH_STAT_STATE x.2.2 n
    | none => s) s

/-- The meter realigned at a record (R358 steps 1 and 2). -/
def realign (s : State) (r : HandoverRec) : State :=
  s.updMeter (fun m =>
    let base := m.sinceRec.foldl (fun (e : List (Nat × Nat)) (x : Nat × Nat) => ePut e x.1 (eGet e x.1 - x.2)) m.energy
    let e := r.deltas.foldl (fun (e : List (Nat × Nat)) (x : Nat × Nat) => eAdd e x.1 (x.2 * 2 ^ 32)) base
    let e := r.sliceRegs.foldl (fun (e : List (Nat × Nat)) (x : Nat × Nat) => ePut e x.1 (x.2 * 2 ^ 32)) e
    { m with energy := e, sinceRec := [],
             winPeer := r.deltas.foldl (fun (w : List (Nat × Nat)) (x : Nat × Nat) =>
               if windowReg x.1 then eAdd w x.1 (x.2 * 2 ^ 32) else w) m.winPeer })

/-- One item of the change stream applied (R444, R358 step 3). -/
def applyItem (s : State) (i : ChangeItem) : State :=
  match i with
  | .record r =>
    let s := s.storeRecord r
    if h : r.port < 32 then s.updMeter (fun m => { m with session := m.session.set r.port none h,
                                                          due := m.due.filter (fun x => x.port ≠ r.port) })
    else s
  | .sessionStart p ap am l t src =>
    let b := s.on (Port.die p) F.STL_P_CFG_DIR (Port.loc p).val
    s.updMeter (fun m => { m with session := m.session.set p (some
      { ap := ap, am := am, l := l, startUtc := t, src := src, flags := 0, bidir := b }) })
  | .calendar passive c =>
    if passive then s.updMeter (fun m => { m with passive := some c })
    else s.updMeter (fun m => { m with almanac := some c, passive := none, actNext := false })
  | .account a b h =>
    (s.updMeter (fun m => { m with balance := Sparse.set (fun _ => 0) m.balance a b, high := ePut m.high a h })).accountEvent a false b
  | .tokenWindow a l => s.updMeter (fun m => { m with spent := m.spent.filter (fun e => e.1 ≠ a) ++ [(a, l)] })
  | .herdModes modes _ => modes.foldl (fun (s : State) (x : Nat × Nat) => if x.1 = 0 ∨ 30 < x.1 then s else s.wr 0 F.HLM_NODE_MODE x.2 (x.1 - 1)) s
  | .meterParam key v => s.paramApply key v

/-- An accepted record loaded (R446). -/
def loadRecord (s : State) (r : HandoverRec) : State :=
  let s := r.ports.foldl (fun (s : State) (e : PortEntry) => s.loadPort e) s
  let s := r.engine.foldl (fun (s : State) (e : Die × Nat × Word) => s.dataSet e.1 (e.2.1 % 2048) e.2.2.toInt) s
  let base := s.rd 0 F.OXE_CTX_DWIN_DBASE 4
  let s := r.allocWords.foldl (fun (s : State) (e : Nat × Word) => s.dataSet 0 ((base + e.1) % 2048) e.2.toInt) s
  let alloc := { s.alloc with
    last := s.alloc.last.mapFinIdx (fun i x _ => match r.allocs[i]? with
      | some w => w.toNat
      | none => x),
    setp := s.alloc.setp.mapFinIdx (fun i x _ => match r.setpoints[i]? with
      | some w => w.toInt
      | none => x),
    hold := s.alloc.hold.mapFinIdx (fun i x _ => r.hold.getD i x), seq := s.alloc.seq.mapFinIdx (fun i x _ => r.seqs.getD i x),
    lastTick := some r.tick.toNat }
  let s := { s with alloc := alloc, cool := s.cool.mapFinIdx (fun i c _ => { c with fanInt := r.fans.getD i c.fanInt }) }
  let s := s.updMeter (fun m => { m with peerTampers := r.tampers })
  let s := r.outputs.foldl (fun (s : State) (e : OutEntry) => s.loadOut e) s
  let s := r.counters.foldl (fun (s : State) (c : Role × Word × DWord) => s.adoptCounter c.1 c.2.1 c.2.2) s
  let s := r.changes.foldl (fun (s : State) (i : ChangeItem) => s.applyItem i) (s.realign r)
  let s := s.updTwin (fun t => { t with shadow := some r, rseq := r.rseq, slice := (r.slice + 1) % 33, discards := 0, cut := false })
  (s.wr 0 F.TWN_REC_RSEQ (r.rseq.toNat % 65536)).wr 0 F.TWN_REC_AGE 0

/-- A record discarded (R446). -/
def discardRecord (s : State) (rseq : Word) : State :=
  let n := s.twin.discards + 1
  let s := (((s.satCnt 0 F.TWN_CNT_REC_BAD).twnEvt F.TWN_EVT_REC_BAD).wr 0 F.TWN_STAT_SYNCED 0).updTwin (fun t =>
    { t with discards := n, good := 0, rseq := rseq, syncedTicks := 0 })
  if 10 ≤ n ∧ s.role = 2 then s.toHeld 9 else s

/-- The resynchronisation is complete (R454 step 6). -/
def resyncDone (s : State) : State :=
  let s := ((s.wr 0 F.TWN_STAT_SYNCED 1).twnEvt F.TWN_EVT_RESYNC_DONE).setRole 2 0
  (((s.wr 0 F.TWN_RESYNC_BUSY 0).wr 0 F.TWN_RESYNC_STEP 6).wr 0 F.TWN_RESYNC_PROGRESS 100).updTwin (fun t =>
    { t with syncedTicks := 0, cut := false, detect := 0 })

/-- HANDOVER_RECORD_RECEIVE (R446; log entry 42 for "the next"). -/
def recordReceive (s : State) (r : HandoverRec) : State :=
  let resync := s.on 0 F.TWN_RESYNC_BUSY && s.rd 0 F.TWN_RESYNC_STEP == 5
  if !s.linkUp || !(s.role == 2 || (s.role == 3 && resync)) then s
  else if !r.tagOk then s.discardRecord (s.twin.rseq + 1)
  else if r.rseq ≠ s.twin.rseq + 1 ∧ !(resync && s.twin.good == 0) then s.discardRecord r.rseq
  else
    let g := r.gen.toNat
    let acc := s.rd 0 F.TWN_GEN_ACC
    if g ≠ s.rd 0 F.TWN_GEN_OWN ∧ !(acc != 0 && g == acc) then (s.twnEvt F.TWN_EVT_GEN_MISMATCH).toHeld 2
    else
      let s := s.loadRecord r
      if resync then
        let n := s.twin.good + 1
        let s := s.updTwin (fun t => { t with good := n })
        if 33 ≤ n then s.resyncDone else s
      else s.wr 0 F.TWN_STAT_SYNCED 1

/-- RESYNC_REGION_COPY_DONE (R454 steps 3 and 4): the copy replaces the region; after the fifth, records are applied. -/
def regionCopy (s : State) (c : RegionCopy) : State :=
  if !s.on 0 F.TWN_RESYNC_BUSY || s.rd 0 F.TWN_RESYNC_STEP != 3 then s
  else
    let next (l : List Nat) : Nat := match l.getLast? with
      | some n => n + 1
      | none => 0
    let (n, s) : Nat × State := match c with
      | .q0 regs =>
        let e := regs.foldl (fun (e : List (Nat × Nat)) (x : Nat × Nat) => ePut e x.1 (x.2 * 2 ^ 32)) []
        (0, s.updMeter (fun m => { m with energy := e, q0 := e, sinceRec := [] }))
      | .q1 p1 p2 bills bpc =>
        (1, s.updMeter (fun m => { m with p1 := { m.p1 with entries := p1, next := next (p1.map (·.no)) },
                                          p2 := { m.p2 with entries := p2, next := next (p2.map (·.no)) },
                                          bills := bills, bpc := bpc }))
      | .q2 l => (2, s.updMeter (fun m => { m with records := l, recno := next (l.map (·.recno)) }))
      | .q3 ports site al pa acc =>
        let s := s.updMeter (fun m => { m with
          params := m.params.mapFinIdx (fun i x _ => (ports[i]?).getD x), site := site, almanac := al, passive := pa,
          balance := acc.foldl (fun (b : List (Nat × Int)) (x : Nat × Int × Nat × List Nat) => Sparse.set (fun _ => 0) b x.1 x.2.1) [],
          high := acc.foldl (fun (b : List (Nat × Nat)) (x : Nat × Int × Nat × List Nat) => ePut b x.1 x.2.2.1) [],
          spent := acc.map (fun x => (x.1, x.2.2.2)) })
        (3, (List.finRange 32).foldl (fun (s : State) (p : Fin 32) => s.loadMap p) s)
      | .q4 ev tp =>
        (4, s.updMeter (fun m => { m with evLog := ev, evNext := next (ev.map (·.no)), tpLog := tp, tpNext := next (tp.map (·.no)) }))
    let done := if s.twin.copied.contains n then s.twin.copied else s.twin.copied ++ [n]
    let s := (s.updTwin (fun t => { t with copied := done })).wr 0 F.TWN_RESYNC_PROGRESS (16 * done.length)
    if done.length = 5 then (s.wr 0 F.TWN_RESYNC_STEP 5).updTwin (fun t => { t with good := 0 }) else s

/-! ## Takeover (R447, R450, R451, R360) -/

/-- The meter continues on the new active unit, with the marks given (R360, R450). -/
def meterTakeover (s : State) (bits : Nat) : State :=
  let tick : Nat := match s.twin.shadow with
    | some r => r.tick.toNat
    | none => 0
  let s := s.updMeter (fun m => { m with sinceRec := [], winOwn := [], winPeer := [], winBad := [] })
  (s.meterLog 0x0B 0xFF [s.rd 0 F.TWN_STAT_UNIT, tick]).markAll bits

/-- A new active unit's correlator bins restart, and each port's first thermometry result is rejected (R275). -/
def binsRestart (s : State) (d : Fin 8) : State :=
  let s := s.updOxe d (fun o => { o with bins := o.bins.map (fun b => { b with i := 0, q := 0, n := 0 }) })
  { s with cool := upd s.cool d (fun c => { c with port := c.port.map (fun p => { p with skip := true }) }) }

/-- The claim raised by takeover: role, counters, the cause of detection. -/
def takeClaim (s : State) (detect : Nat) : State :=
  let s := (s.setRole 1 0).claimRaise
  let s := ((s.twnEvt F.TWN_EVT_TAKEOVER).satCnt 0 F.TWN_CNT_TAKEOVERS).wr 0 F.TWN_GAP_DETECT detect
  let s := s.onDies (fun s d => s.binsRestart d)
  (s.wr 0 F.TWN_STAT_SYNCED 0).updTwin (fun t => { t with detect := 0, syncedTicks := 0, planned := 0 })

/-- TAKEOVER. -/
def takeover (s : State) : State :=
  if s.role ≠ 2 ∨ s.twin.detect = 0 then s
  else if s.on 0 F.TWN_STAT_CLAIM_PEER then s.toHeld 4
  else if s.neverClaims then s.toHeld 6
  else
    let check := !s.linkUp
    ((s.takeClaim s.twin.detect).updTwin (fun t => { t with checking := check })).meterTakeover 128

/-- HELD_CLAIM. -/
def heldClaim (s : State) : State :=
  if s.role ≠ 3 ∨ s.on 0 F.TWN_STAT_CLAIM_PEER ∨ s.neverClaims ∨ !s.leadRuns then s
  else
    let live (p : Fin 32) : Bool := match s.twin.shadow with
      | some r => r.ports.any (fun e => decide (e.port = p) && decide (3 ≤ e.state.val) && decide (e.state.val ≤ 6))
      | none => decide (3 ≤ s.psState (Port.die p) (Port.loc p)) && decide (s.psState (Port.die p) (Port.loc p) ≤ 6)
    let stop := (List.finRange 32).filter live
    let s := (s.wr 0 F.TWN_RESYNC_BUSY 0).takeClaim 2
    let s := (s.updTwin (fun t => { t with checking := true })).meterTakeover (128 + 32)
    stop.foldl (fun (s : State) (p : Fin 32) =>
      if s.dieUsed (Port.die p) then s.tripStop (Port.die p) (Port.loc p) 14 else s) s

/-- FOLLOWING_CHECK (R442). -/
def followingCheck (s : State) : State :=
  if !s.twin.checking ∨ !s.outEn then s
  else
    let links := (List.finRange 32).filter (fun p =>
      let l := s.link (Port.die p) (Port.loc p)
      s.dieUsed (Port.die p) && decide (s.now - l.lastRx ≤ 30000) && l.lastRx != 0)
    if links.isEmpty then s
    else if links.all (fun p => !s.on (Port.die p) F.STL_P_STAT_FOLLOWED (Port.loc p).val) then
      (((s.claimDrop).toHeld 11).twnEvt F.TWN_EVT_DUAL_ACTIVE).updTwin (fun t => { t with checking := false })
    else s.updTwin (fun t => { t with checking := false })

/-- A planned handover may start (R451). -/
def plannedOk (s : State) : Bool :=
  s.linkUp && s.compatible && decide (10000 ≤ s.twin.syncedTicks) &&
    (if s.role = 1 then s.twin.peerFlags.2.2 else s.role == 2 && s.on 0 F.TWN_STAT_SYNCED)

/-- A planned handover asked; an active unit marks its next record. -/
def plannedAsk (s : State) (thenHeld : Bool) : State := s.updTwin (fun t => { t with planned := 1, thenHeld := thenHeld })

/-- PLANNED_RELEASE. -/
def plannedRelease (s : State) : State :=
  if s.role ≠ 1 ∨ s.twin.planned ≠ 2 then s
  else
    let h := s.ownHeartbeat true
    let held := s.twin.thenHeld
    let s := (s.claimDrop).updTwin (fun t => { t with sentHb := some h, planned := 0, thenHeld := false, syncedTicks := 0 })
    let s := (s.twnEvt F.TWN_EVT_HANDED).satCnt 0 F.TWN_CNT_HANDOVERS
    if held then s.toHeld 5 else (s.setRole 2 0).wr 0 F.TWN_STAT_SYNCED 1

/-- TWIN_MAINS_NOTICE (R453). -/
def mainsNotice (s : State) : State :=
  if s.role = 1 ∧ s.on 0 F.TWN_CTRL_MAINS_HO ∧ s.on pkgDie F.PKG_PWR_MAINS_LOST ∧
      !s.on 0 F.TWN_STAT_PEER_MAINS_LOST ∧ s.plannedOk then s.plannedAsk false
  else s

/-- The forced twin role command (R436, R452): status and state. -/
def forcedRole (s : State) (n : Nat) : Nat × State :=
  match n with
  | 0 => if s.plannedOk then (0, s.plannedAsk false) else (3, s)
  | 1 =>
    if s.role = 1 then (if s.twin.peerFlags.2.2 && s.linkUp then (0, s.plannedAsk true) else (3, s))
    else if s.role = 0 then (0, (s.claimDrop).toHeld 5)
    else (0, s.toHeld 5)
  | 2 => if s.role = 3 ∧ s.lifeState ≠ 3 ∧ !s.hold then (0, s.resyncStart) else (3, s)
  | 3 => if s.role = 0 ∧ !s.linkUp then (0, s.updTwin (fun t => { t with repair := true })) else (3, s)
  | _ => (4, s)

end Sys2Proof.Machine.State

namespace Sys2Proof.Machine

/-- TWIN_LINK_TRAINED (R435, R439, R443). -/
def execTwinLinkTrained (p : PeerHello) (s : State) : Host.Outcome State Fault Refusal := .next (s.linkTrained p)

/-- TWIN_LINK_TRAIN_TIMEOUT (R64). -/
def execTwinLinkTrainTimeout (s : State) : Host.Outcome State Fault Refusal := .next s.trainTimeout

/-- TWIN_LINK_DOWN (R439). -/
def execTwinLinkDown (s : State) : Host.Outcome State Fault Refusal := .next s.linkDown

/-- HEARTBEAT_RECEIVE (R437). -/
def execHeartbeatReceive (h : Heartbeat) (s : State) : Host.Outcome State Fault Refusal := .next (s.heartbeat h)

/-- HEARTBEAT_MISS (R437, R447). -/
def execHeartbeatMiss (s : State) : Host.Outcome State Fault Refusal := .next s.heartbeatMiss

/-- CLAIM_KEEPER_EXPIRY (R440). -/
def execClaimKeeperExpiry (s : State) : Host.Outcome State Fault Refusal := .next s.keeperExpiry

/-- ANTL_IN_CHANGE (R440). -/
def execAntlInChange (level : Bool) (s : State) : Host.Outcome State Fault Refusal := .next (s.antlIn level)

/-- CLAIM_WITHDRAW (R440). -/
def execClaimWithdraw (settling : Bool) (s : State) : Host.Outcome State Fault Refusal := .next (s.claimWithdraw settling)

/-- HANDOVER_RECORD_RECEIVE (R446). -/
def execHandoverRecordReceive (r : HandoverRec) (s : State) : Host.Outcome State Fault Refusal := .next (s.recordReceive r)

/-- TAKEOVER (R447). -/
def execTakeover (s : State) : Host.Outcome State Fault Refusal := .next s.takeover

/-- OUTPUT_ENABLE (R447). -/
def execOutputEnable (gapUs : BitVec 16) (s : State) : Host.Outcome State Fault Refusal := .next (s.outputEnable gapUs.toNat)

/-- LATCH_RELEASE (R448). -/
def execLatchRelease (s : State) : Host.Outcome State Fault Refusal := .next s.latchRelease

/-- HELD_CLAIM (R450). -/
def execHeldClaim (s : State) : Host.Outcome State Fault Refusal := .next s.heldClaim

/-- FOLLOWING_CHECK (R442). -/
def execFollowingCheck (s : State) : Host.Outcome State Fault Refusal := .next s.followingCheck

/-- PLANNED_RELEASE (R451). -/
def execPlannedRelease (s : State) : Host.Outcome State Fault Refusal := .next s.plannedRelease

/-- TWIN_MAINS_NOTICE (R453). -/
def execTwinMainsNotice (s : State) : Host.Outcome State Fault Refusal := .next s.mainsNotice

/-- RESYNC_REGION_COPY_DONE (R454). -/
def execResyncRegionCopyDone (c : RegionCopy) (s : State) : Host.Outcome State Fault Refusal := .next (s.regionCopy c)

/-- TWIN_COUNTER_MESSAGE (R118). -/
def execTwinCounterMessage (r : Role) (kcv : Word) (ctr : DWord) (s : State) : Host.Outcome State Fault Refusal :=
  .next (if s.linkUp then s.adoptCounter r kcv ctr else s)

end Sys2Proof.Machine
end

