-- ==== Sys2Proof/Machine/Resets.lean ====
section
/-!
DEFINITION. Resets (R20, R21), the wipe of MRAM regions (R81), a life-cycle restart (R80), the supply sequences (R50 to R58,
R428), root lock loss (R18) and tamper (R90, R91).
-/

namespace Sys2Proof.Machine

namespace State

/-! ## Parts of a DIE reset (R20, R21) -/

/-- Fault counts of the cells and blocks of a die cleared (R459). -/
def clearCounts (s : State) (d : Nat) : State :=
  { s with faults := { s.faults with counts := s.faults.counts.filter (fun e =>
      let lvl := e.1 / 262144 % 8
      !(e.1 / 2097152 == d && (lvl == 1 || lvl == 2))) } }

/-- INH of a die's ports after its reset: the reset cause, beside what a reset does not end (R37, R52, R76, R77, R18). -/
def resetInh (s : State) (d : Fin 8) : State :=
  { s with pkg := { s.pkg with inh := s.pkg.inh.mapFinIdx (fun p x _ =>
      if p / 4 = d.val then (x &&& BitVec.ofNat 12 (2 ^ 2 + 2 ^ 3 + 2 ^ 5 + 2 ^ 11)) ||| BitVec.ofNat 12 (2 ^ 4) else x) } }

/-- The memories of a die zeroed by the wipe engine (R21): host SRAM, capture SRAM, the memories of its blocks, and on the
lead die the shared window. -/
def wipeSram (s : State) (d : Fin 8) : State :=
  let s := ((s.zeroRange (sramKey d 0x10000000) 0x200000).zeroRange (capKey d 0) 0x400000).zeroRange (regAddr d 0) 0x1000000
  if d = 0 then s.zeroRange 0x30000000 0x100000 else s

/-- A register of the meter sample path, which a life-cycle restart does not reset (R80): those of the front end but the rings, the
trip windows, the comparators with what they have latched, and the calibration step (log entry 110). -/
def samplePath (a : Nat) : Bool :=
  let off := a % 0x1000000
  decide (0x040000 ≤ off) && decide (off < 0x050000) &&
    !((decide (0x040400 ≤ off) && decide (off < 0x040480)) || (decide (0x041380 ≤ off) && decide (off < 0x041398)) ||
      (decide (0x041400 ≤ off) && decide (off < 0x041600)) || (decide (0x041800 ≤ off) && decide (off < 0x041824)) ||
      (decide (0x041900 ≤ off) && decide (off < 0x04190C)))

/-- What the blocks of a die hold beside their registers, after its reset; the meter sample path goes on in a life-cycle restart. -/
def dieParts (s : State) (d : Fin 8) (keepMeter : Bool) : State :=
  let a := s.adc.get d
  let f := s.saf.get d
  { s with
    oxe := s.oxe.set d Oxe.init
    stl := s.stl.set d (Vector.replicate 4 StlPort.init)
    veh := s.veh.set d (Vector.replicate 4 { cand := 7, agree := 0, t1sTx := [] })
    can := s.can.set d (Vector.replicate 2 Can.init)
    acq := s.acq.set d { unit := Vector.replicate 8 AcqUnit.init }
    plc := s.plc.set d Plc.init
    adc := s.adc.set d (if keepMeter then { a with coll := none, zero := none, mcal := Adc.init.mcal } else { Adc.init with coef := a.m6, m6 := a.m6 })
    saf := s.saf.set d { Saf.init with
      stored := f.stored, raw := f.raw, logNext := f.logNext, log := f.log,
      port := f.port.map (fun p => { SafPort.init with degCauses := p.degCauses }) }
    lsw := s.lsw.set d { Lsw.init with downs := (s.lsw.get d).downs }
    cool := upd s.cool d (fun c => { Cooling.init with port := c.port.map (fun p => { Copper.init with ref := p.ref, refCable := p.refCable }) })
    tsu := upd s.tsu d (fun t => { t with corr := 0, queue := [], msgs := [], latch := [], po := Tsu.init.po }) }

/-- What the lead die's own machines hold, after its reset: allocation, herd line, trigger groups, servo, command gate. -/
def leadParts (s : State) : State :=
  { s with
    alloc := Alloc.init, herd := Herd.init, group := Vector.replicate 8 { wait := [] }, slac := []
    servo := { s.servo with resid := Vector.replicate 2 0, pend := Vector.replicate 2 none, rateLast := 0, step := none,
                            tsq := Vector.replicate 2 [], ethRx := Vector.replicate 2 none }
    gate := { s.gate with meterSlot := none, meterReply := [] }
    lcs := { s.lcs with staging := none, staged := [], checking := [] }
    pkg := { s.pkg with booted := false } }

/-- Last power of a die's ports in W, for meter log code 0x05 (log entry 28). -/
def diePower (s : State) (d : Fin 8) : Int :=
  Config.divOpen 362 ((List.finRange 4).foldl (fun (a : Int) (k : Fin 4) =>
    let m := s.meter.port.get (portOf d k)
    let p := s.meter.params.get (portOf d k)
    a + (m.u.getD 0) * Int.ofNat p.vscale * (m.i * Int.ofNat p.iscale)) 0) (10 ^ 18)

/-- The meter core of a die stops with its reset: its uncommitted sums are lost, the entries and records concerned carry
METER_GAP (R345), and the message in flight is withdrawn. -/
def coreReset (s : State) (d : Fin 8) : State :=
  let w := s.diePower d
  let t := s.now
  let s := s.onPorts (fun s k => (s.markPort (portOf d k) 32).updPm (portOf d k) (fun _ => PortMeter.init))
  s.updMeter (fun m => { m with core := upd m.core d (fun c => { c with inFlight := none }),
                                down := upd m.down d (fun x => x.orElse (fun _ => some (t, w))) })

/-- The meter head stops without the commit of a power-down: what is not in Q0 is lost, and the outage begins at the last
commit (R345, R381; log entry 44). -/
def headReset (s : State) : State :=
  (s.updMeter (fun m => { m with
    running := false, energy := m.q0, received := m.committed, aside := [], siteCode := Meter.init.siteCode,
    siteLast := Meter.init.siteLast, announced := none, token := none, assoc := [], sinceRec := [], winOwn := [],
    winPeer := [], winBad := [], reply := [],
    td := if m.td.isNone && m.lastCommit != 0 then some m.lastCommit else m.td })).wr 0 F.LCS_BOOT_METER_RUN 0

/-- A reset that finds the meter head running may cut a commit short: whether it does, and whether the commit marker is
written by then, are free values (R55, R380; log entry 69). -/
def journalCut (s : State) : State :=
  if !s.meter.running then s
  else
    let x := s.freeWord
    let u := x.2.utcMs
    x.2.updMeter (fun m => if bitOf x.1.toNat 0 then
      { m with journal := some { marked := bitOf x.1.toNat 1, regs := m.energy, seqs := m.received, time := u } } else m)

/-- Where a die goes at a reset: into the wipe, or off where it is absent, retired or latched off, or a port die of a
retired chip (R5, R432, R461). -/
def afterReset (s : State) (d : Fin 8) : DieRun :=
  if !s.dieUsed d || s.bit pkgDie F.PKG_DIES_LATCHED_OFF d || (s.faults.chipRetired && decide (d ≠ 0)) then .off else .wiping

/-- A DIE reset (R20, R21). `keepMeter` is the exception of a life-cycle restart (R80). THM_EVT.SD shows that it follows a
thermal shut-down. An open session on the die ends, since
its ports fall to IDLE (R353; log entry 45), and a stream gathered from it stops (R340). -/
def dieReset (s : State) (d : Fin 8) (keepMeter : Bool) : State :=
  let s := if keepMeter then s else s.coreReset d
  let s := if d = 0 ∧ !keepMeter then (s.journalCut).headReset else s
  let s := s.onPorts (fun s k => if (s.meter.session.get (portOf d k)).isSome then s.sessionStop (portOf d k) 0 else s)
  let down := s.thermalDown d
  let s := s.acqLeave d
  let s := s.resetRegs (fun a r => dieOrBlk (regAddr d 0) 0x1000000 a r && !(keepMeter && samplePath a))
  let s := s.wrB d F.THM_EVT_SD down
  let s := (((s.wipeSram d).dieParts d keepMeter).clearCounts d).resetInh d
  let s := if keepMeter then s else s.placeLanes d
  let s := if d = 0 then s.leadParts else s
  { s with pkg := { s.pkg with die := s.pkg.die.set d (s.afterReset d) },
           faults := { s.faults with regionDue := s.faults.regionDue.set d false } }

/-! ## Reinstatement (R465) -/

/-- The retirement record of an element erased and its fault count cleared. -/
def eraseRetired (s : State) (d : Fin 8) (level block index : Nat) : State :=
  let s := { s with faults := { s.faults with retired := s.faults.retired.filter (fun r =>
      !(r.die == d.val && r.level == level && r.block == block && r.index == index)) } }
  let n := s.rd d F.DIE_FCNT_RETIRED
  (s.setFaultTimes (faultKey (if level = 4 then 0 else d.val) level block index) []).wr d F.DIE_FCNT_RETIRED (n - 1)

/-- The chip returned to service by the PWR reset that follows an accepted command. -/
def chipBack (s : State) : State :=
  if s.faults.chipReinstate then
    let s := s.eraseRetired 0 4 0 0
    let s := { s with faults := { s.faults with chipReinstate := false, chipRetired := false } }
    s.info 0 0x0022 0 0 [4, 0]
  else s

/-! ## PWR reset (R20) -/

/-- A field of PKG_PWR's low half as the supply monitors find it: what they read, and the register that shows it. -/
def setPwr (s : State) (f : Fld) (v : Nat) : State :=
  let m : Word := BitVec.ofNat 32 (2 ^ f.w - 1)
  { s.wr pkgDie f v with
    sup := { s.sup with reads := (s.sup.reads &&& ~~~(m <<< f.lo)) ||| ((BitVec.ofNat 32 v &&& m) <<< f.lo) } }

/-- A PWR reset: every die, every register listed PWR, DIE or BLK, and what they hold beside them. KEEP and MRAM keep theirs.
The outputs go to their latch cells (R448), and the strap is sampled (R64). -/
def pwrReset (s : State) : State :=
  let s := s.outputsOff
  let s := (s.onDies (fun s d => s.dieReset d false)).chipBack
  let s := ((s.resetRegs (fun _ r => r.dom != .keep)).onDies (fun s d => s.placeLanes d)).siteApply
  let s := s.wrB 0 F.TWN_STAT_UNIT s.sup.strapB
  let tw := s.twin
  let s := { s with
    twin := { Twin.init with latchHold := tw.latchHold, inhLatch := tw.inhLatch, lswLatch := tw.lswLatch }
    tsu := Vector.replicate 8 Tsu.init
    servo := { s.servo with peer := none, tickDue := false }
    gate := { State.reset.gate with twinQueue := [] }
    keys := { s.keys with queue := [], running := none, ops := [], entropyFails := [], fromPend := [] }
    lcs := { s.lcs with restart := none }
    faults := { s.faults with chipResp := s.faults.chipResp && s.faults.chipDue, chipDue := false,
                              dieRelease := Vector.replicate 8 false }
    pkg := { s.pkg with pd := .none, mainsBack := false, rootLock := true, fresh := true,
                        inh := Vector.replicate 32 (BitVec.ofNat 12 (2 ^ 4)) } }
  s.onDies (fun s d => { s with pkg := { s.pkg with die := s.pkg.die.set d (s.afterReset d) } })

/-! ## KEEP (R20, R90, R91, R318) -/

/-- The KEEP real-time clock moved on by 1/32 768 s steps while it runs. -/
def rtcAdd (s : State) (n : Nat) : State :=
  if s.on 0 F.TSU_RTC_SUB_SET then
    let t := s.rd 0 F.TSU_RTC_SUB_SUB + n
    (s.wr 0 F.TSU_RTC_SUB_SUB (t % 32768)).wr 0 F.TSU_RTC_SEC ((s.rd 0 F.TSU_RTC_SEC + t / 32768) % 2 ^ 32)
  else s

/-- The KEEP domain reset: root secret, slot cache, real-time clock (R20). KEY_TAMPER keeps the causes. -/
def keepReset (s : State) : State :=
  let s := { (s.zeroRoot) with servo := { s.servo with rtcFrac := 0 } }
  (s.wr 0 F.TSU_RTC_SEC 0).setWord (fldAddr 0 F.TSU_RTC_SUB 0 0) 0

/-- KEY_TAMPER's bit of a cause; loss of both cells has none of its own among the sensors. -/
def tamperFld : Option TamperCause → Fld
  | some .mesh => F.KEY_TAMPER_MESH
  | some .light => F.KEY_TAMPER_LIGHT
  | some .temp => F.KEY_TAMPER_TEMP
  | some .vbat => F.KEY_TAMPER_VBAT
  | none => F.KEY_TAMPER_KEEP_LOSS

/-- The entry in the meter's tamper log (R90, R361, R362). A temperature or supply tamper has no code of its own among those
of the tamper log: its code there is a free value (log entry 46). -/
def meterTamper (s : State) (c : Option TamperCause) : State :=
  let kt : Int := (s.word (fldAddr 0 F.KEY_TAMPER 0 0)).toNat
  match c with
  | some .mesh => s.tamperOn 0x40 0xFF [kt]
  | some .light => s.tamperOn 0x41 0xFF [kt]
  | none => s.meterLog 0x46 0xFF []
  | some _ =>
    let x := s.freeWord
    x.2.meterLog (64 + x.1.toNat % 192) 0xFF [kt]

/-- What a powered module does at a tamper (R90, R460, R461): key operations aborted, every port stopped, the claim released,
the events written; a standby becomes HELD with cause 7 (R457). -/
def tamperAct (s : State) (c : Option TamperCause) : State :=
  let s := s.keyAbort
  let causes := [(s.word (fldAddr 0 F.KEY_TAMPER 0 0)).toNat]
  let s := if s.faults.chipRetired then s.log 0 0x4002 0 0 0xFF 0 causes else s.chipFault 0x4002 causes true
  let s := if s.on 0 F.TWN_STAT_CLAIM_OWN then s.claimDrop else s
  let s := if s.role = 2 then s.toHeld 7 else s
  s.meterTamper c

/-- TAMPER: the root secret and the slot cache are zeroed and the cause set; the rest waits for power (R90). -/
def tamper (s : State) (c : TamperCause) : State :=
  let s := ((s.keepReset).wr 0 (tamperFld (some c)) 1).satCnt 0 F.KEY_TAMPER_COUNT
  if s.pkg.die.get 0 = .off then { s with pkg := { s.pkg with tamperPend := s.pkg.tamperPend ++ [some c] } }
  else s.tamperAct (some c)

/-- Loss of both cells, found at the start that follows: KEEP powers up anew (R91). -/
def keepLoss (s : State) : State :=
  let s := (s.keepReset).setWord (fldAddr 0 F.KEY_TAMPER 0 0) 0
  let s := (s.wr 0 F.KEY_TAMPER_KEEP_LOSS 1).satCnt 0 F.KEY_TAMPER_COUNT
  { s with pkg := { s.pkg with tamperPend := s.pkg.tamperPend ++ [none] } }

/-! ## Power-on and supply resets -/

/-- POWER_ON: the PWR reset released into the wipe; the KEEP clock ran on through the outage, given in 1/32 768 s; the
strap is sampled (R50, R64, R91). -/
def powerOn (s : State) (lost ac strapB : Bool) (outage : Nat) : State :=
  let s := (({ s with sup := { s.sup with strapB := strapB } }).rtcAdd outage).pwrReset
  let s := if lost then s.keepLoss else s
  let s := (s.setPwr F.PKG_PWR_MAINS_OK 1).setPwr F.PKG_PWR_AC_INPUT (b2n ac)
  (s.setPwr F.PKG_PWR_MAINS_LOST 0).setPwr F.PKG_PWR_HOLDUP_READY 0

/-! ## MRAM regions (R80, R81) -/

/-- The bytes of region `r` of every die's MRAM zeroed (R81). -/
def zeroMram (s : State) (r : Nat) : State :=
  { s with mem := Sparse.drop (fun k => decide (k / 0x100000000 < 8) && decide (0x20000000 ≤ k % 0x100000000) &&
      decide (k % 0x100000000 < 0x20800000) && Config.mramRegion (k % 0x100000000 - 0x20000000) == r) s.mem }

/-- One M region wiped: HOST data (0), stored slots (1), event logs (2), coefficients (3), scratch (4), with the bytes that cores
have written there (log entry 33); the numbers of the logs run on, since none is reused (R466). -/
def wipeM (s : State) (i : Nat) : State :=
  match i with
  | 0 =>
    let s := s.zeroMram 3
    { s with cool := s.cool.map (fun c => { c with port := c.port.map (fun p => { p with ref := none }) }) }
  | 1 =>
    let s := s.zeroMram 4
    let s := (List.range 64).foldl (fun (s : State) (n : Nat) =>
      if (blobOf s.keys.current n).isSome || (blobOf s.keys.pend n).isSome then s.clearSlot n else s) s
    { s with keys := { s.keys with current := [], pend := [], owned := [] } }
  | 2 => { s.zeroMram 5 with logs := s.logs.map (fun l => { l with entries := [] }) }
  | 3 => { s.zeroMram 6 with adc := s.adc.map (fun a => { a with m6 := [] }) }
  | _ => s.zeroMram 7

/-- One Q region wiped: registers (0), profiles and billing (1), records (2), parameters, accounts and the sealed coefficients
of the meter cells (3; log entry 103), logs (4). -/
def wipeQ (s : State) (i : Nat) : State :=
  match i with
  | 0 => s.updMeter (fun m => { m with energy := [], q0 := [], aside := [], sinceRec := [], debited := [] })
  | 1 => s.updMeter (fun m => { m with
      p1 := { Profile.init with next := m.p1.next }, p2 := { Profile.init with next := m.p2.next }, maxDem := [],
      demand := 0, bpc := 0, billStart := 0, bills := [], lastBill := 0 })
  | 2 => s.updMeter (fun m => { m with records := [], due := [] })
  | 3 =>
    let s := s.onDies (fun s d => { s with adc := upd s.adc d (fun a =>
      { a with m6 := a.m6.filter (fun e => !s.isMeterCell d (e.1 / 6)) }) })
    let s := s.updMeter (fun m => { m with
      params := Meter.init.params, site := SiteParam.init, pendParam := [], pendSite := [], almanac := none, passive := none,
      actNext := false, balance := [], high := [], spent := [], bound := [], debited := [], acctEvents := [], token := none })
    let s := (List.finRange 32).foldl (fun (s : State) (p : Fin 32) => s.loadMap p) s
    s.wr 0 F.ADC_SITE 0
  | _ => s.updMeter (fun m => { m with evLog := [], tpLog := [], tpCount := [] })

/-- The regions of a wipe-pending mask wiped and the mask cleared: M3 to M7, Q0 to Q4, root secret. A running meter opens its
intervals anew when their registers are gone. -/
def wipeRegions (s : State) (mask : Nat) : State :=
  let s := (List.range 5).foldl (fun (s : State) (i : Nat) => if bitOf mask i then s.wipeM i else s) s
  let s := (List.range 5).foldl (fun (s : State) (i : Nat) => if bitOf mask (5 + i) then s.wipeQ i else s) s
  let s := if bitOf mask 10 then s.zeroRoot else s
  let s := if s.meter.running && (bitOf mask 5 || bitOf mask 6) then
    ((s.openProf false s.utcMs 0).openProf true s.utcMs 0).openDemand s.utcMs else s
  ({ s with lcs := { s.lcs with wipeMask := 0 } }).wr 0 F.LCS_STATE_WIPE_PEND 0

/-! ## Life-cycle restart (R80, R84, R85) -/

/-- Banked operation registers of application and safety cores returned to their reset values, and their queued requests
refused with WRONG_STATE (R80). -/
def keyRestart (s : State) : State :=
  let gone (q : KeyReq) : Bool := partition q.who != some 1
  let s := { s with keys := { s.keys with queue := s.keys.queue.filter (fun q => !gone q) } }
  { s with keys := { s.keys with ops := s.keys.ops.filter (fun e => e.1 / 8 == 16) } }

/-- LIFE_CYCLE_RESTART: the new state and the wipe mask written, the wipes, the mask cleared, the restart; the meter head is
restarted too when its image changes (R80, R84; code 0x000C). -/
def lifeRestart (s : State) : State :=
  match s.lcs.restart with
  | none => s
  | some r =>
    let s := { s with lcs := { s.lcs with restart := none } }
    let s := match r.newState with
      | none => s
      | some n =>
        let old := s.lifeState
        let s := ((s.wr 0 F.LCS_STATE_STATE n).satCnt 0 F.LCS_STATE_TRANS_CNT).wrB 0 F.LCS_STATE_WIPE_PEND (decide (r.mask ≠ 0))
        let s := if n = 1 then { s with lcs := { s.lcs with ownerHash := r.ownerHash } } else s
        (({ s with lcs := { s.lcs with wipeMask := r.mask } }).wipeRegions r.mask).info 0 0x000C 0x25 0xFF [old, n]
    let s := if r.meterToo then
      let s := (s.meterCommit).markAll 16
      let s := s.updMeter (fun m => { m with down := m.down.map (fun x => x.orElse (fun _ => some (s.now, s.diePower 0))) })
      (s.headReset).updMeter (fun m => { m with td := none })
    else if r.newState = some 4 then (s.updMeter (fun m => { m with running := false })).wr 0 F.LCS_BOOT_METER_RUN 0
    else s
    ((s.keyRestart).onDies (fun s d => if s.pkg.die.get d = .off then s else s.dieReset d true)).siteApply

/-! ## Mains (R50 to R55) -/

/-- A notice sent to a paired unit over the twin link (R51, R53). -/
def twinNotice (s : State) (last : Bool) : State :=
  if s.linkUp then
    s.updTwin (fun t => if last then { t with finalNotice := true } else { t with lossNotice := true })
  else s

/-- MAINS_LOSS: MAINS_LOST, the event and its entry, and the notice to a paired unit (R50, R51). -/
def mainsLoss (s : State) : State :=
  if s.pkg.pd ≠ .none || s.on pkgDie F.PKG_PWR_MAINS_LOST then s
  else
    ((((s.setPwr F.PKG_PWR_MAINS_LOST 1).wr pkgDie F.PKG_PWR_MAINS_LOSS_EVT 1).setPwr F.PKG_PWR_MAINS_OK 0).info 0
      0x0002 0 0xFF []).twinNotice false

/-- PWR_DOWN (R52, R357, R381): INH and halt, trip stops with cause 14, final increments, the sessions' stop values, t_d. -/
def pwrDown (s : State) (level : Nat) : State :=
  if s.pkg.pd ≠ .none then s
  else
    let s := { s with pkg := { s.pkg with pd := .asserted } }
    let s := ((s.setPwr F.PKG_PWR_HOLDUP_LVL level).setPwr F.PKG_PWR_MAINS_LOST 0).setPwr F.PKG_PWR_MAINS_OK 0
    let s := s.onUsed (fun s d => ((s.setInhDie d Inh.pwrDown true).haltDie d 3).dieTrip d 14)
    let s := s.meterGather
    let s := (List.finRange 32).foldl (fun (s : State) (p : Fin 32) =>
      if (s.meter.session.get p).isSome then s.sessionStop p 1 else s) s
    let t := s.utcMs
    let s := if s.meter.running then (s.updMeter (fun m => { m with td := if m.restoring && m.td.isSome then m.td else some t })).meterLog 0x01 0xFF [level] else s
    (s.info 0 0x0004 0 0xFF [level]).ownRelease

/-- PWR_DOWN_OUTPUT_RELEASE (R52). -/
def pwrDownRelease (s : State) : State :=
  if s.pkg.pd ≠ .asserted then s
  else
    let s := { s with pkg := { s.pkg with pd := .released } }
    s.onUsed (fun s d => (s.onPorts (fun s k => s.dropSout d k 15)).lswRelease d)

/-- PWR_DOWN_POWER_REMOVAL (R52): the meter head, its MRAM, the twin link, the clock root and KEEP stay on hold-up: the lead
die's counter runs on and heartbeats leave (tsuRuns, twinEdge). -/
def pwrDownRemove (s : State) : State :=
  if s.pkg.pd ≠ .released then s
  else { (s.outputsOff) with pkg := { s.pkg with pd := .removed, die := Vector.replicate 8 .off } }

/-- The PWR reset after a power-down: the start is as from cold, with the hold-up store to be charged anew (R54, R55; log entry 102). -/
def coldStart (s : State) : State :=
  ((s.pwrReset).setPwr F.PKG_PWR_MAINS_OK 1).setPwr F.PKG_PWR_HOLDUP_READY 0

/-- HOLDUP_COMMIT (R53, R54): the commit and the final notice to the twin, then the lead die is powered down; a return of the
input meanwhile starts anew. -/
def holdupCommit (s : State) : State :=
  if s.pkg.pd ≠ .removed then s
  else
    let s := ((s.meterCommit).twinNotice true).updMeter (fun m => { m with running := false })
    let s := { s with pkg := { s.pkg with pd := .committed } }
    if s.pkg.mainsBack then s.coldStart else s

/-- MAINS_RETURN (R54). -/
def mainsReturn (s : State) : State :=
  match s.pkg.pd with
  | .none =>
    if s.on pkgDie F.PKG_PWR_MAINS_LOST then
      let s := s.updTwin (fun t => { t with lossNotice := false })
      (((s.wr pkgDie F.PKG_PWR_MAINS_RETURN_EVT 1).setPwr F.PKG_PWR_MAINS_LOST 0).setPwr F.PKG_PWR_MAINS_OK 1).info 0
        0x0003 0 0xFF []
    else s
  | .committed => s.coldStart
  | _ => { s with pkg := { s.pkg with mainsBack := true } }

/-! ## Ports released (R55, R65) -/

/-- The port dies and the lead die have their ports released once the hold-up store is ready, the rail is good and LEAD_OK
is set; IDLE drives INH by its own row from then on (R55, R247, R439). -/
def releasePorts (s : State) : State :=
  if s.leadRuns && s.on pkgDie F.PKG_DIES_LEAD_OK && s.on pkgDie F.PKG_PWR_HOLDUP_READY && s.on pkgDie F.PKG_PWR_V24_OK then
    let s := s.onUsed (fun s d =>
      if s.pkg.die.get d = .running then s.onPorts (fun s k =>
        if bitOf (s.pkg.inh.get (portOf d k)).toNat Inh.reset.val then
          (s.setInh (portOf d k) Inh.reset false).setInh (portOf d k) Inh.state true else s)
      else s)
    s.portsAvailable
  else s

/-- HOLDUP_READY (R55). -/
def holdupReady (s : State) (level : Nat) : State :=
  if s.pkg.pd ≠ .none || s.pkg.die.get 0 = .off then s
  else ((s.setPwr F.PKG_PWR_HOLDUP_READY 1).setPwr F.PKG_PWR_HOLDUP_LVL level).releasePorts

/-- HOLDUP_TIMEOUT: a chip fault (R462). -/
def holdupTimeout (s : State) : State :=
  if s.on pkgDie F.PKG_PWR_HOLDUP_READY || s.pkg.die.get 0 = .off then s
  else s.chipFault 0x4005 [s.rd pkgDie F.PKG_PWR_HOLDUP_LVL] false

/-- BATTERY_MEASUREMENT: 20 mV per step, low below 2.5 V (PKG_BAT). -/
def battery (s : State) (v1 v2 : Byte) : State :=
  (((s.wr pkgDie F.PKG_BAT_VBAT1 v1.toNat).wr pkgDie F.PKG_BAT_VBAT2 v2.toNat).wrB pkgDie F.PKG_BAT_BAT1_LOW
    (decide (v1.toNat < 125))).wrB pkgDie F.PKG_BAT_BAT2_LOW (decide (v2.toNat < 125))

/-! ## The 24 V rail (R57, R428) -/

/-- A change of the rail noted: V24_OK follows the other two bits, and with it the safety outputs are switched; event and
entry; the same bits in each die's LSW_RAIL (R57). -/
def railNote (s : State) (ok : Bool) : State :=
  let s := (s.setPwr F.PKG_PWR_V24_OK (b2n ok)).wr pkgDie F.PKG_PWR_V24_EVT 1
  let s := { s with sup := { s.sup with soutOff := !ok } }
  let s := s.onUsed (fun s d => ((s.wrB d F.LSW_RAIL_V24_OK ok).wr d F.LSW_RAIL_OV (s.rd pkgDie F.PKG_PWR_V24_OV)).wr d
    F.LSW_RAIL_UV (s.rd pkgDie F.PKG_PWR_V24_UV))
  s.info 0 0x0005 0 0xFF [(s.word (fldAddr pkgDie F.PKG_PWR 0 0)).toNat]

/-- RAIL_UNDERVOLTAGE and RAIL_OVERVOLTAGE. -/
def railBegin (s : State) (f : Fld) : State :=
  if s.on pkgDie f then s else ((s.setPwr f 1).railNote false).onUsed (fun s d => s.railOff d)

/-- Output-latch cells whose V24 falls below 12 V lose what they hold: what they hold then is free (R57, R448; log entry
104). Cells of enabled outputs follow these. -/
def latchLost (s : State) : State :=
  if s.outEn then s
  else
    let x := s.freeWord
    let s := x.2.updTwin (fun t => { t with inhLatch := x.1 })
    s.onUsed (fun s d =>
      let y := s.freeWord
      let s := y.2.updTwin (fun t => { t with lswLatch := t.lswLatch.set d (y.1.setWidth 12) })
      s.onPorts (fun s k => s.wr d F.SAF_OUT_LATCHED (bitsOf y.1.toNat (12 + 4 * k.val) 4) k))

/-- RAIL_UNDERVOLTAGE: how low the rail falls is a free value, in mV (R57; log entry 104). -/
def railLow (s : State) : State :=
  let lowest := s.freeWord
  let s := lowest.2.railBegin F.PKG_PWR_V24_UV
  if lowest.1.toNat < 12000 then s.latchLost else s

/-- The end of an undervoltage, a reversed rail or a lost ground included (log entry 31). -/
def railUvEnd (s : State) : State :=
  let s := s.setPwr F.PKG_PWR_V24_UV 0
  let s := { s with sup := { s.sup with feed := Vector.replicate 8 0 } }
  let s := s.onUsed (fun s d => (s.wr d F.LSW_RAIL_REVERSE 0).wr d F.LSW_RAIL_GND_LOST 0)
  let ok := !s.on pkgDie F.PKG_PWR_V24_OV
  let s := s.railNote ok
  if ok then (s.onUsed (fun s d => s.railOn d)).releasePorts else s

/-- The end of an overvoltage. -/
def railOvEnd (s : State) : State :=
  let s := s.setPwr F.PKG_PWR_V24_OV 0
  let ok := !s.on pkgDie F.PKG_PWR_V24_UV
  let s := s.railNote ok
  if ok then (s.onUsed (fun s d => if s.railBad d then s else s.railOn d)).releasePorts else s

/-- REVERSE_POLARITY and GND_LOST on every die's feed. -/
def railFault (s : State) (f : Fld) : State :=
  let m : BitVec 2 := if f = F.LSW_RAIL_REVERSE then 1 else 2
  let s := { s with sup := { s.sup with feed := s.sup.feed.map (fun x => x ||| m) } }
  s.onUsed (fun s d => (s.wr d f 1).railOff d)

/-! ## Root lock (R18) -/

/-- ROOT_LOCK_LOSS: every die's clock monitor inhibits its ports and drives their halt symbols; a chip fault. -/
def rootLockLoss (s : State) : State :=
  let s := { s with pkg := { s.pkg with rootLock := false } }
  let s := s.onUsed (fun s d => (s.setInhDie d Inh.rootLock true).haltDie d 1)
  s.chipFault 0x4001 [] false

end State

/-- POWER_ON (R20, R50, R64, R91). -/
def execPowerOn (keepLost ac strapB : Bool) (outage : Nat) (s : State) : Host.Outcome State Fault Refusal :=
  .next (s.powerOn keepLost ac strapB outage)

/-- NRESET_IN (R62). -/
def execNresetIn (s : State) : Host.Outcome State Fault Refusal := .next s.pwrReset

/-- SUPPLY_RESET (R20). -/
def execSupplyReset (s : State) : Host.Outcome State Fault Refusal := .next s.pwrReset

/-- SOFTWARE_DIE_RESET (R20): of a die that is powered and in service. -/
def execSoftwareDieReset (d : Die) (s : State) : Host.Outcome State Fault Refusal :=
  .next (if s.pkg.die.get d = .off then s else s.dieReset d false)

/-- LIFE_CYCLE_RESTART (R80). -/
def execLifeCycleRestart (s : State) : Host.Outcome State Fault Refusal := .next s.lifeRestart

/-- MAINS_LOSS (R50, R51). -/
def execMainsLoss (s : State) : Host.Outcome State Fault Refusal := .next s.mainsLoss

/-- MAINS_RETURN (R54). -/
def execMainsReturn (s : State) : Host.Outcome State Fault Refusal := .next s.mainsReturn

/-- PWR_DOWN (R52). -/
def execPwrDown (level : Byte) (s : State) : Host.Outcome State Fault Refusal := .next (s.pwrDown level.toNat)

/-- PWR_DOWN_OUTPUT_RELEASE (R52). -/
def execPwrDownOutputRelease (s : State) : Host.Outcome State Fault Refusal := .next s.pwrDownRelease

/-- PWR_DOWN_POWER_REMOVAL (R52). -/
def execPwrDownPowerRemoval (s : State) : Host.Outcome State Fault Refusal := .next s.pwrDownRemove

/-- HOLDUP_COMMIT (R53). -/
def execHoldupCommit (s : State) : Host.Outcome State Fault Refusal := .next s.holdupCommit

/-- HOLDUP_READY (R55). -/
def execHoldupReady (level : Byte) (s : State) : Host.Outcome State Fault Refusal := .next (s.holdupReady level.toNat)

/-- HOLDUP_TIMEOUT (R462). -/
def execHoldupTimeout (s : State) : Host.Outcome State Fault Refusal := .next s.holdupTimeout

/-- BATTERY_MEASUREMENT (R58). -/
def execBatteryMeasurement (v1 v2 : Byte) (s : State) : Host.Outcome State Fault Refusal := .next (s.battery v1 v2)

/-- RAIL_UNDERVOLTAGE (R57). -/
def execRailUndervoltage (s : State) : Host.Outcome State Fault Refusal := .next s.railLow

/-- RAIL_UNDERVOLTAGE_END (R57, R428). -/
def execRailUndervoltageEnd (s : State) : Host.Outcome State Fault Refusal := .next s.railUvEnd

/-- RAIL_OVERVOLTAGE (R428). -/
def execRailOvervoltage (s : State) : Host.Outcome State Fault Refusal := .next (s.railBegin F.PKG_PWR_V24_OV)

/-- RAIL_OVERVOLTAGE_END (R428). -/
def execRailOvervoltageEnd (s : State) : Host.Outcome State Fault Refusal := .next s.railOvEnd

/-- REVERSE_POLARITY (R428). -/
def execReversePolarity (s : State) : Host.Outcome State Fault Refusal := .next (s.railFault F.LSW_RAIL_REVERSE)

/-- GND_LOST (R428). -/
def execGndLost (s : State) : Host.Outcome State Fault Refusal := .next (s.railFault F.LSW_RAIL_GND_LOST)

/-- ROOT_LOCK_LOSS (R18). -/
def execRootLockLoss (s : State) : Host.Outcome State Fault Refusal := .next s.rootLockLoss

/-- TAMPER (R90). -/
def execTamper (c : TamperCause) (s : State) : Host.Outcome State Fault Refusal := .next (s.tamper c)

end Sys2Proof.Machine
end

