-- ==== Sys2Proof/Machine/Boot.lean ====
section
/-!
DEFINITION. Start-up (R65 to R76, R99, R318), the trial of a pending bank (R85), staging checks (R83), MREG7 (R71), and the
recovery from a thermal shut-down (R430 to R432).
-/

namespace Sys2Proof.Machine

namespace State

/-! ## Release from the wipe (R21, R65 step 3) -/

/-- The KEEP real-time clock in ns of TAI, rounded down (R318). -/
def rtcNs (s : State) : Nat := s.rd 0 F.TSU_RTC_SEC * 1000000000 + s.rd 0 F.TSU_RTC_SUB_SUB * 1000000000 / 32768

/-- EPOCH written. -/
def setEpoch (s : State) (n : Nat) : State := (s.wr 0 F.TSU_EPOCH (n % 2 ^ 32) 0).wr 0 F.TSU_EPOCH (n / 2 ^ 32 % 2 ^ 32) 1

/-- Time at a start: EPOCH from KEEP after a PWR reset, and source 3, or 4 when KEEP holds no time (R315, R318). -/
def startTime (s : State) : State :=
  let valid := s.on 0 F.TSU_RTC_SUB_SET
  let s := if s.pkg.fresh && valid then s.setEpoch (s.rtcNs - s.devTime 0) else s
  s.wr 0 F.TSU_STAT_SRC (if valid then 3 else 4)

/-- The trial at a start: a bank that was on trial before is given up (code 0x000A), a new one is recorded (R85). -/
def startTrial (s : State) : State :=
  let s := s.setWord (fldAddr 0 F.LCS_BOOT 0 0) ((s.word (fldAddr 0 F.LCS_BOOT 0 0) &&& 0x6) ||| 0xFF0F00)
  if !s.on 0 F.LCS_BANK_PENDING then s
  else if s.lcs.trialRec then
    (({ s with lcs := { s.lcs with trialRec := false } }).wr 0 F.LCS_BANK_PENDING 0).info 0 0x000A 0x25 0xFF
      [s.rd 0 F.LCS_BANK_PEND_BANK]
  else ({ s with lcs := { s.lcs with trialRec := true } }).wr 0 F.LCS_BOOT_TRIAL 1

/-- Every window slot free (log entry 34). -/
def freeSlots (s : State) : State :=
  slotIndices.foldl (fun (s : State) (i : Nat) => s.setHeader i (mkHeader 3 0 0)) s

/-- Tampers of the time without power written to the logs (R90, R91). -/
def pendTampers (s : State) : State :=
  let l := s.pkg.tamperPend
  let s := { s with pkg := { s.pkg with tamperPend := [] } }
  l.foldl (fun (s : State) (c : Option TamperCause) =>
    (s.log 0 0x4002 0 0 0xFF 0 [(s.word (fldAddr 0 F.KEY_TAMPER 0 0)).toNat]).meterTamper c) s

/-- The lead die's boot ROM starts: wipes named in the mask are completed first (R80). -/
def bootBegin (s : State) : State :=
  let s := if s.lcs.wipeMask ≠ 0 then s.wipeRegions s.lcs.wipeMask else s
  let s := (((s.startTime).startTrial).freeSlots).wr pkgDie F.PKG_DIES_LEAD_OK 0
  let s := s.setMreg 7 (List.replicate 32 0)
  let s := { s with lcs := { s.lcs with mismatches := Vector.replicate 8 0, reported := Vector.replicate 8 false } }
  let s := s.onDies (fun s d => s.setInhDie d Inh.hold false)
  s.pendTampers

/-- Lanes of a port die's XLINK that are not retired (R34). -/
def xlkLanes (s : State) (d : Fin 8) : Nat :=
  (List.range 4).foldl (fun (n : Nat) (l : Nat) => if s.isRetired d 1 0x14 l then n else n + 2 ^ l) 0

/-- Lanes in a mask of four. -/
def laneCount (m : Nat) : Nat := (List.range 4).foldl (fun (n : Nat) (l : Nat) => if bitOf m l then n + 1 else n) 0

/-- The lanes of a port die's link shown: it runs on four, three or two (R34). -/
def xlkShow (s : State) (d : Fin 8) : State :=
  let l := s.xlkLanes d
  (s.wr d F.XLK_STAT_LANES_OK l).wrB d F.XLK_STAT_DEGRADED (decide (laneCount l = 2 ∨ laneCount l = 3))

/-- The registers that show the supply monitors do so again once their die is out of reset (log entry 104). -/
def supplyShow (s : State) (d : Fin 8) : State :=
  let s := if d = 0 then
    let a := fldAddr pkgDie F.PKG_PWR_MAINS_OK 0 0
    s.setWord a ((s.word a &&& 0xFFFF0000) ||| (s.sup.reads &&& 0xFFFF)) else s
  let b (f : Fld) : Nat := bitsOf s.sup.reads.toNat f.lo 1
  let x := (s.sup.feed.get d).toNat
  ((((s.wr d F.LSW_RAIL_V24_OK (b F.PKG_PWR_V24_OK)).wr d F.LSW_RAIL_OV (b F.PKG_PWR_V24_OV)).wr d F.LSW_RAIL_UV
    (b F.PKG_PWR_V24_UV)).wr d F.LSW_RAIL_REVERSE (bitsOf x 0 1)).wr d F.LSW_RAIL_GND_LOST (bitsOf x 1 1)

/-- RESET_WIPE_DONE: the SRAM stands at zero, whatever was offered to it meanwhile, and the reset is released (R21). A port
die whose link has fewer than two lanes does not train: a region fault (R34). -/
def wipeDone (s : State) (d : Fin 8) : State :=
  if s.pkg.die.get d ≠ .wiping then s
  else
    let s := s.wipeSram d
    let s := { s with pkg := { s.pkg with die := s.pkg.die.set d .boot },
                      lcs := { s.lcs with reported := s.lcs.reported.set d false } }
    let s := s.supplyShow d
    if d = 0 then s.bootBegin
    else if laneCount (s.xlkLanes d) < 2 then s.regionFault d 0x3001 [s.xlkLanes d]
    else s

/-! ## Meter head (R66, R74, R75) -/

/-- The bank this start selects: the pending one in a trial (R85). -/
def selBank (s : State) : Nat :=
  if s.on 0 F.LCS_BOOT_TRIAL then s.rd 0 F.LCS_BANK_PEND_BANK else s.rd 0 F.LCS_BANK_ACTIVE

/-- The first refused image of a start noted in LCS_BOOT. -/
def bootFail (s : State) (cls why : Nat) : State :=
  if s.rd 0 F.LCS_BOOT_FAIL_CLASS = 0xF then (s.wr 0 F.LCS_BOOT_FAIL_CLASS cls).wr 0 F.LCS_BOOT_FAIL_WHY why else s

/-- Restarts of meter cores logged with their duration in µs and last power (code 0x05), for the dies that `p` picks. -/
def coreBack (s : State) (p : Fin 8 → Bool) : State :=
  s.onDies (fun s d =>
    if p d then
      match s.meter.down.get d with
      | some (t, w) =>
        (s.updMeter (fun m => { m with down := m.down.set d none })).meterLog 0x05 0xFF [d.val, (s.now - t) / 1000, w]
      | none => s
    else s)

/-- Journal replay: a transaction whose marker is written is completed, any other rolled back, the instant of the last commit
being then the power-down instant (R55, R380; code 0x0F with 1 completed, 0 rolled back: log entry 69). -/
def journalReplay (s : State) : State :=
  match s.meter.journal with
  | none => s
  | some j =>
    let s := s.updMeter (fun m =>
      if j.marked then { m with journal := none, q0 := j.regs, committed := j.seqs, received := j.seqs, lastCommit := j.time,
                                td := some j.time }
      else { m with journal := none, td := some m.lastCommit })
    s.meterLog 0x0F 0xFF [b2n j.marked]

/-- The meter head started from a bank: the journal replayed, Q0 restored, parameters loaded, the restoration due after an
outage (R345, R363, R380, R382). -/
def meterBegin (s : State) (b : Nat) : State :=
  let s := (s.wr 0 F.LCS_BOOT_METER_BANK b).wr 0 F.LCS_BOOT_METER_RUN 1
  let s := (s.setMreg 3 (measure (s.image 0 b 3))).journalReplay
  let s := s.updMeter (fun m => { m with
    running := true, energy := m.q0, restoring := m.td.isSome || m.lastCommit == 0,
    tdRegs := if m.restoring then m.tdRegs else m.q0 })
  (s.paramStart).coreBack (fun d => decide (d = 0))

/-- METER_HEAD_START: the selected bank's METER image, else the other's, else none; never in RETIRED (R74, R75, R77). -/
def meterStart (s : State) : State :=
  if s.pkg.die.get 0 ≠ .boot || s.pkg.booted || s.meter.running || s.lifeState == 4 then s
  else
    let b := s.selBank
    if s.verified 0 b 3 then s.meterBegin b
    else
      let s := s.bootFail 3 (s.imageWhy 0 b 3)
      if s.verified 0 (1 - b) 3 then s.meterBegin (1 - b) else s

/-! ## Choice of the set (R73, R74, R76) -/

/-- Image classes of a bank refused in the order the boot ROM verifies them. A CFG image that a bank may be without is no
refusal where it is absent (R70, R73). -/
def refusedOf (s : State) (b : Nat) : Option (Nat × Nat) :=
  let bad := [0, 1, 2, 4, 5].filter (fun c => !s.verified 0 b c && !(c == 5 && decide (s.lifeState ≤ 1) && (s.image 0 b 5).isEmpty))
  match bad with
  | c :: _ => if c = 5 ∧ s.lifeState = 0 then none else some (c, s.imageWhy 0 b c)
  | [] => none

/-- Certificate that covers a bank's set while the meter head runs. -/
def coverOf (s : State) (b : Nat) : Option Nat := if s.meter.running then s.covering b s.meterImage else none

/-- Why a bank is passed over. -/
def passOver (s : State) (b : Nat) : State :=
  match s.refusedOf b with
  | some (c, w) => s.bootFail c w
  | none => s.bootFail 6 6

/-- Measurements of a bank's images in MREG0 to MREG2, MREG4 and MREG5; an image that does not verify leaves zero. -/
def setMregs (s : State) (b : Nat) : State :=
  [(0, 0), (1, 1), (2, 2), (4, 4), (5, 5)].foldl (fun (s : State) (x : Nat × Nat) =>
    s.setMreg x.1 (if s.verified 0 b x.2 then measure (s.image 0 b x.2) else List.replicate 32 0)) s

/-- The trial given up within the start that carries it (R85). -/
def trialDrop (s : State) : State :=
  if s.on 0 F.LCS_BOOT_TRIAL then
    ((({ s with lcs := { s.lcs with trialRec := false } }).wr 0 F.LCS_BANK_PENDING 0).wr 0 F.LCS_BOOT_TRIAL 0).info 0 0x000A 0x25
      0xFF [s.rd 0 F.LCS_BANK_PEND_BANK]
  else s

/-- The initial safety configurations of a CFG image, for the dies that hold none (R412, R413). -/
def firstSafety (s : State) (b : Nat) : State :=
  if s.lifeState = 0 || !s.verified 0 b 5 then s
  else s.onDies (fun s d =>
    if (s.saf.get d).stored.isSome then s
    else match Config.cfgSafety ((s.image 0 b 5).drop 256) d with
      | none => s
      | some (raw, c) =>
        let s := { s with saf := upd s.saf d (fun f => { f with stored := some c, raw := raw }) }
        let h := (Config.sha256 raw).toList
        (List.range 8).foldl (fun (s : State) (i : Nat) => s.wr d F.SAF_CFG_DIGEST (field h (4 * i) 4) i) s)

/-- The unit's role after a start: MAINTENANCE and HOLD keep it from claiming, a standby resynchronises (R80, R438, R439). -/
def startRole (s : State) : State :=
  if s.hold || s.lifeState == 3 then (s.claimDrop).toHeld 6
  else if s.role = 2 then (s.setRole 3 1).resyncStart
  else s

/-- INH in the states and conditions that keep every port inhibited (R77, R92). -/
def startInh (s : State) : State :=
  let b := s.lifeState == 0 || s.lifeState == 4 || s.keys.root.isNone
  s.onDies (fun s d => s.setInhDie d Inh.lifeCycle b)

/-- The status of the staged set rewritten, no check being under way. -/
def startStaged (s : State) : State := (s.stagedCheck).wr 0 F.LCS_STAGED_STAGE_DONE 1

/-- A covered set runs (R74). -/
def runSet (s : State) (b cert : Nat) : State :=
  let s := ((s.wr 0 F.LCS_BOOT_SET_BANK b).wr 0 F.LCS_BOOT_CERT_IDX cert).wrB 0 F.LCS_BOOT_CFG_ABSENT (!s.verified 0 b 5)
  let s := (s.setMregs b).setMreg 6 (s.certMeas b cert)
  let s := { s with pkg := { s.pkg with die := s.pkg.die.set 0 .running, booted := true } }
  let s := match s.runningCert with
    | some c => s.wr 0 F.TWN_GEN_OWN c.recGen
    | none => s
  ((((s.firstSafety b).startStaged).startInh).startRole)

/-- HOLD (R76): ports inhibited and halted, outputs released, the recovery service in place of HOST. -/
def holdEnter (s : State) : State :=
  let s := ((s.setMregs s.selBank).setMreg 6 (List.replicate 32 0)).wr 0 F.LCS_BOOT_HOLD 1
  let s := s.onUsed (fun s d =>
    (((s.setInhDie d Inh.hold true).haltDie d 4).onPorts (fun s k => s.dropSout d k 15)).lswRelease d)
  let s := { s with pkg := { s.pkg with booted := true }, faults := { s.faults with chipResp := false } }
  let s := s.info 0 0x0009 0x25 0xFF [(s.word (fldAddr 0 F.LCS_BOOT 0 0)).toNat]
  ((s.startStaged).startInh).startRole

/-- The recovery service alone: in RETIRED, and on a retired chip (R82, R461). The boot ROM has measured the selected bank, and
no certificate covers a set (R71, R80). -/
def recoveryOnly (s : State) : State :=
  let s := (s.setMregs s.selBank).setMreg 6 (List.replicate 32 0)
  let s := { s with pkg := { s.pkg with booted := true }, faults := { s.faults with chipResp := false } }
  let s := (s.startStaged).startInh
  if s.faults.chipRetired then (s.claimDrop).toHeld 8 else s.claimDrop

/-- BOOT_SET_CHOICE (R74). -/
def bootChoice (s : State) : State :=
  if s.pkg.die.get 0 ≠ .boot || s.pkg.booted then s
  else
    let s := s.meterStart
    if s.faults.chipRetired || s.lifeState == 4 then s.recoveryOnly
    else
      let b := s.selBank
      match s.coverOf b with
      | some i =>
        let s := s.runSet b i
        if s.rd 0 F.LCS_BOOT_FAIL_CLASS = 0xF then s
        else s.info 0 0x0008 0x25 0xFF [(s.word (fldAddr 0 F.LCS_BOOT 0 0)).toNat]
      | none =>
        let s := s.passOver b
        match s.coverOf (1 - b) with
        | some i =>
          let s := (s.trialDrop).wr 0 F.LCS_BOOT_FALLBACK 1
          let s := { s with lcs := { s.lcs with reported := Vector.replicate 8 false } }
          let s := s.runSet (1 - b) i
          s.info 0 0x0008 0x25 0xFF [(s.word (fldAddr 0 F.LCS_BOOT 0 0)).toNat]
        | none =>
          let s := (s.holdEnter).info 0 0x0008 0x25 0xFF [(s.word (fldAddr 0 F.LCS_BOOT 0 0)).toNat]
          s.trialDrop

/-! ## Port dies (R65 step 6, R72, R308) -/

/-- What a port die's boot ROM reports of an image: its measurement and the digest it computed. -/
def reportOf (l : List Byte) : List Byte := measure l ++ (Config.sha256 (l.drop 256)).toList

/-- Bank the lead die has port dies measure: the running set's, or the selected one before the choice. -/
def measBank (s : State) : Nat := if s.pkg.booted && !s.hold then s.rd 0 F.LCS_BOOT_SET_BANK else s.selBank

/-- PORT_DIE_MEASUREMENT_REPORT (R72). -/
def measReport (s : State) (d : Fin 8) : State :=
  if d = 0 || s.pkg.die.get d ≠ .boot || (s.pkg.die.get 0 ≠ .boot && s.pkg.die.get 0 ≠ .running) ||
    decide (laneCount (s.xlkLanes d) < 2) then s
  else
    let b := s.measBank
    match (List.range 6).find? (fun c => reportOf (s.image d b c) != reportOf (s.image 0 b c)) with
    | none => { s with lcs := { s.lcs with reported := s.lcs.reported.set d true } }
    | some c =>
      if s.lcs.mismatches.get d = 0 then
        let s := (List.range 6).foldl (fun (s : State) (c : Nat) => s.setImage d b c (s.image 0 b c)) s
        let s := s.setCerts d b (((List.range 8).map (fun i => s.certBytes 0 b i)).filter (fun x => !x.isEmpty))
        { s with lcs := { s.lcs with mismatches := s.lcs.mismatches.set d 1 } }
      else ((s.bootFail c 7).regionFault d 0x3002 [c])

/-- A port die released: its link runs, it takes the lead die's time (R311), its response ends (R460). -/
def dieStart (s : State) (d : Fin 8) : State :=
  let s := { s with pkg := { s.pkg with die := s.pkg.die.set d .running },
                    faults := { s.faults with regionResp := s.faults.regionResp.set d false } }
  let s := (s.wrB d F.XLK_STAT_UP (decide (2 ≤ laneCount (s.xlkLanes d)))).xlkShow d
  let s := [F.TSU_NS, F.TSU_TALLY, F.TSU_TICK, F.TSU_GRID, F.TSU_TCOMP, F.TSU_APPLIED].foldl
    (fun (s : State) (f : Fld) => s.wr d f (s.rd 0 f)) s
  let t0 := s.tsu.get 0
  { s with tsu := upd s.tsu d (fun t => { t with frac := t0.frac, corr := t0.corr, queue := t0.queue }) }

/-- PORT_DIE_RELEASE (R65, R308): at a site tick, once every port die that starts has reported. -/
def portDies (s : State) : State :=
  if !s.leadRuns || s.rd 0 F.TSU_GRID ≠ 0 then s
  else
    let waits := (List.finRange 8).any (fun d => decide (d ≠ 0) && s.dieUsed d && !s.faults.regionResp.get d &&
      (decide (s.pkg.die.get d = .wiping) || (decide (s.pkg.die.get d = .boot) && !s.lcs.reported.get d)))
    if !s.on pkgDie F.PKG_DIES_LEAD_OK && waits then s
    else
      let ready (d : Fin 8) : Bool := decide (d ≠ 0) && s.dieUsed d && decide (s.pkg.die.get d = .boot) && s.lcs.reported.get d
      let s := s.onDies (fun s d => if ready d then s.dieStart d else s)
      let s := s.wr pkgDie F.PKG_DIES_LEAD_OK 1
      let s := { s with faults := { s.faults with chipResp := false } }
      (s.coreBack ready).releasePorts

/-! ## Slots (R99) -/

/-- SLOT_OPEN: once the set choice has written MREG6. -/
def slotOpen (s : State) : State :=
  if s.pkg.booted then
    let s := s.keyStoreStart s.pkg.fresh
    { s with pkg := { s.pkg with fresh := false } }
  else s

/-! ## Trial and confirmation (R85), MREG7 (R71), staging (R83) -/

/-- LCS_CONFIRM written: within the window, a trial is confirmed; once a restart is due it has ended (R85). -/
def lcsConfirm (s : State) (r : Requester) (v : Word) : State :=
  match r with
  | .app _ _ _ =>
    if v = 0x434F4E46 ∧ s.on 0 F.LCS_BOOT_TRIAL ∧ s.leadRuns ∧ s.lcs.restart = none then
      let b := s.rd 0 F.LCS_BANK_PEND_BANK
      let s := ((s.wr 0 F.LCS_BANK_ACTIVE b).wr 0 F.LCS_BANK_PENDING 0).wr 0 F.LCS_BOOT_TRIAL 0
      let s := { s with lcs := { s.lcs with trialRec := false } }
      let fl := (List.range 6).foldl (fun (n : Nat) (c : Nat) =>
        let old := bitsOf (s.rd 0 F.LCS_FLOOR_FLOOR) (4 * c) 4
        n + 2 ^ (4 * c) * max old (if s.verified 0 b c then imgSecVer (s.image 0 b c) % 16 else 0)) 0
      ((s.wr 0 F.LCS_FLOOR_FLOOR fl).keyConfirm).stagedCheck
    else s.info 0 0x000B 0x25 0xFF [v.toNat]
  | _ => s.accessEvent (whoDie r) (regAddr 0 F.LCS_CONFIRM.off) (whoCode r)

/-- TRIAL_WINDOW_EXPIRY: a life-cycle restart into the previous bank falls due (R85). Its start gives the trial up. -/
def trialExpiry (s : State) : State :=
  if s.on 0 F.LCS_BOOT_TRIAL && s.leadRuns && s.lcs.restart.isNone then
    let same := measure (s.image 0 (s.rd 0 F.LCS_BANK_ACTIVE) 3) == measure s.meterImage
    { s with lcs := { s.lcs with restart := some { meterToo := !same, newState := none, mask := 0, ownerHash := [] } } }
  else s

/-- MREG7 extended with the eight words of LCS_MREG7_EXT, the last just written (R71). The words read zero, being write only,
and are zeroed for the next value (DESIGN CHOICE, log entry 106). -/
def mreg7Ext (s : State) (r : Requester) (v : Word) : State :=
  if leadMachine r then
    let s := s.wr 0 F.LCS_MREG7_EXT v.toNat 7
    let ext := (List.range 8).flatMap (fun k => leBytes 4 (s.rd 0 F.LCS_MREG7_EXT k))
    let s := s.setMreg 7 (Config.sha256 (s.mreg 7 ++ ext)).toList
    (List.range 8).foldl (fun (s : State) (k : Nat) => s.wr 0 F.LCS_MREG7_EXT 0 k) s
  else s.accessEvent (whoDie r) (regAddr 0 (F.LCS_MREG7_EXT.off + 28)) (whoCode r)

/-- STAGE_CHECK_DONE: LCS_STAGED reports what the checks found (R83). -/
def stageChecked (s : State) : State :=
  if s.lcs.checking.isEmpty then s
  else ((({ s with lcs := { s.lcs with checking := [] } }).stagedCheck)).wr 0 F.LCS_STAGED_STAGE_DONE 1

/-! ## Recovery from a thermal shut-down (R430 to R432) -/

/-- SHUTDOWN_RECOVERY. -/
def shutRecover (s : State) (d : Fin 8) (v : Vector (BitVec 16) 4) : State :=
  if s.pkg.die.get d ≠ .thermal then s
  else
    let s := s.takeTemps d v
    if (List.finRange 4).all (fun k => decide (sens (v.get k) < s.thmLevel d 2 - s.thmHyst d 2)) then
      if 3 ≤ (s.lsw.get d).downs.length then
        let s := { (s.setBit pkgDie F.PKG_DIES_LATCHED_OFF d.val) with pkg := { s.pkg with die := s.pkg.die.set d .off } }
        s.log d 0x3007 0 0 0xFF 0 []
      else s.dieReset d false
    else s

end State

/-- RESET_WIPE_DONE (R21). -/
def execResetWipeDone (d : Die) (s : State) : Host.Outcome State Fault Refusal := .next (s.wipeDone d)

/-- METER_HEAD_START (R66). -/
def execMeterHeadStart (s : State) : Host.Outcome State Fault Refusal := .next s.meterStart

/-- PORT_DIE_MEASUREMENT_REPORT (R72). -/
def execPortDieMeasurementReport (d : Die) (s : State) : Host.Outcome State Fault Refusal := .next (s.measReport d)

/-- BOOT_SET_CHOICE (R74). -/
def execBootSetChoice (s : State) : Host.Outcome State Fault Refusal := .next s.bootChoice

/-- PORT_DIE_RELEASE (R308). -/
def execPortDieRelease (s : State) : Host.Outcome State Fault Refusal := .next s.portDies

/-- SLOT_OPEN (R99). -/
def execSlotOpen (s : State) : Host.Outcome State Fault Refusal := .next s.slotOpen

/-- STAGE_CHECK_DONE (R83). -/
def execStageCheckDone (s : State) : Host.Outcome State Fault Refusal := .next s.stageChecked

/-- LCS_CONFIRM (R85). -/
def execLcsConfirm (r : Requester) (value : Word) (s : State) : Host.Outcome State Fault Refusal := .next (s.lcsConfirm r value)

/-- TRIAL_WINDOW_EXPIRY (R85). -/
def execTrialWindowExpiry (s : State) : Host.Outcome State Fault Refusal := .next s.trialExpiry

/-- MREG7_EXTENSION (R71). -/
def execMreg7Extension (r : Requester) (value : Word) (s : State) : Host.Outcome State Fault Refusal := .next (s.mreg7Ext r value)

/-- SHUTDOWN_RECOVERY (R430, R432). -/
def execShutdownRecovery (d : Die) (sensors : Vector (BitVec 16) 4) (s : State) : Host.Outcome State Fault Refusal :=
  .next (s.shutRecover d sensors)

end Sys2Proof.Machine
end

