-- ==== Sys2Proof/Machine/Faults.lean ====
section
/-!
DEFINITION. The fault hierarchy's own commands: delayed resets, watchdogs, link lanes, XLINK words (R29 to R34, R197, R435),
and the retire and reinstate commands' effects (R461 to R465).
-/

namespace Sys2Proof.Machine

namespace State

/-! ## Delayed resets (R461) and the watchdog (R462) -/

/-- REGION_RESET_DELAY. -/
def regionReset (s : State) (d : Fin 8) : State := if s.faults.regionDue.get d then s.dieReset d false else s

/-- CHIP_RESET_DELAY. -/
def chipReset (s : State) : State := if s.faults.chipDue then s.pwrReset else s

/-- DIE_WATCHDOG: a region fault, whose DIE reset follows at once (R20, R462). The lead die's is a chip fault. -/
def dieWatchdog (s : State) (d : Fin 8) : State :=
  if s.pkg.die.get d ≠ .running then s
  else
    let s := s.regionFault d 0x3005 []
    if d = 0 ∨ s.isRetired d 3 0 0 then s else s.dieReset d false

/-! ## Link lanes (R34, R435, R462) -/

/-- A link lane that failed and is retired (code 0x100A). -/
def laneGone (s : State) (d : Fin 8) (block lane link : Nat) : State :=
  let quiet := s.inResponse d 1
  let s := s.log d 0x100A (if quiet then 0 else 2) block lane (if quiet then 0 else 1) [link, lane]
  let s := if quiet then s else (s.errRegs d 1 block 0x100A 1 true).fcnt d 1 1
  s.retireElem d 1 block lane 0x100A 1 false 0x100A

/-- XLINK_LANE_FAIL: the link goes on with two lanes at least, else it is down and the die a region fault (R34). -/
def xlkLaneFail (s : State) (d : Fin 8) (lane : Nat) : State :=
  if d = 0 || s.isRetired d 1 0x14 lane then s
  else
    let s := ((s.setBit d F.XLK_ERR_LANE_FAIL lane).xlkFirst d 2).laneGone d 0x14 lane d.val
    let l := s.xlkLanes d
    let s := s.xlkShow d
    if laneCount l < 2 then ((s.wr d F.XLK_STAT_UP 0).xlkFirst d 4).regionFault d 0x3001 [l] else s

/-- TWIN_LINK_LANE_FAIL (R34, R435): link number 8 in the entry, the XLINK links having the die numbers (log entry 47). -/
def twinLaneFail (s : State) (lane : Nat) : State :=
  if s.isRetired 0 1 0x21 lane then s
  else
    let s := s.laneGone 0 0x21 lane 8
    let l := s.twinLanes
    let s := if s.linkUp then s.wr 0 F.TWN_STAT_LANES_OK l else s
    if laneCount l < 2 then s.linkDown else s

/-! ## XLINK words (R31, R32, R197) -/

/-- The link of a port die is trained. -/
def xlkUp (s : State) (d : Fin 8) : Bool := s.on d F.XLK_STAT_UP && s.on d F.XLK_CTRL_EN

/-- XLINK_STATE_WORD: the receiver takes the new state, or discards a bad word and shows it (R31). -/
def xlkState (s : State) (d : Fin 8) (toLead : Bool) (w : Word) (bad : Bool) : State :=
  if d = 0 || !s.xlkUp d then s
  else
    let rx : Fin 8 := if toLead then 0 else d
    let s := s.xlkSent (if toLead then d else 0) 0 1
    if bad then (s.wr rx F.XLK_ERR_UNCORR 1).xlkFirst rx 1
    else { s with pkg := { s.pkg with link0 := upd s.pkg.link0 d (fun x => if toLead then (w, x.2) else (x.1, w)) } }

/-- XLINK_WORD_ERROR on the link of die `d`, class `cls` + 1 (R32). -/
def xlkError (s : State) (d : Fin 8) (cls : Nat) : State :=
  if d = 0 || !s.xlkUp d then s
  else (((s.wr d F.XLK_ERR_UNCORR 1).xlkFirst d 1).satCnt d F.XLK_CRC_CNT_RETX).xlkSent d (cls + 1) 1

/-- REMOTE_WORD_WRITE: the oldest message of die `src` to die `dst`, two class 1 words, arrives (R197); over a link that is
down it waits (R34). -/
def remoteWrite (s : State) (src dst : Fin 8) : State :=
  match ((s.oxe.get src).sendq.find? (fun m => m.dst == dst.val)) with
  | none => s
  | some m =>
    if !s.xlkUp (if src = 0 then dst else src) then s
    else
      let s := s.updOxe src (fun o => { o with sendq := o.sendq.erase m })
      if s.pkg.die.get dst = .running then (s.xlkSent src 1 2).remoteSet dst m.word m.value else s.xlkSent src 1 2

/-! ## Retire and reinstate (R463 to R465) -/

/-- The element exists (R464). The site cells, the key store, the herd line modem and the twin link are the lead die's. -/
def elemExists (s : State) (d : Fin 8) (level block index : Nat) : Bool :=
  s.present d &&
  (match level, block with
   | 1, 0x04 => decide (index < 80) && (decide (index < 64 ∨ 72 ≤ index) || decide (d = 0))
   | 1, 0x12 => decide (index < 4)
   | 1, 0x0C => decide (index < 48)
   | 1, 0x11 => decide (index < 12)
   | 1, 0x0D => decide (index < 256)
   | 1, 0x14 => decide (index < 4) && decide (d ≠ 0)
   | 1, 0x21 => decide (index < 4) && decide (d = 0)
   | 2, 0x04 => decide (index < 3)
   | 2, 0x0D => decide (index < 2)
   | 2, 0x08 => decide (index < 8)
   | 2, 0x0E => decide (index < 4)
   | 2, 0x24 => decide (index = 0) && decide (d = 0)
   | 2, 0x20 => decide (index = 0) && decide (d = 0)
   | 3, 0 => decide (index = 0)
   | 4, 0 => decide (index = 0)
   | _, _ => false)

/-- Local port k of die `e` uses an element of die `d` (R464). -/
def elemUses (s : State) (d : Fin 8) (level block index : Nat) (e : Fin 8) (k : Fin 4) : Bool :=
  let here := decide (e = d)
  match level, block with
  | 1, 0x04 => here && (if index < 64 then k.val == index / 16 else if index < 72 then false else k.val == (index - 72) / 2)
  | 1, 0x12 => here && k.val == index
  | 1, 0x0C => here && (if index < 32 then k.val == index / 8 else k.val == (index - 32) / 4)
  | 1, 0x11 => here && k.val == index / 3
  | 1, _ => false
  | 2, 0x04 => here
  | 2, 0x0D => false
  | 2, 0x08 =>
    if index = 7 then false
    else if index = 5 then here
    else if index = 4 then (if d = 0 then true else here)
    else here && s.rd d F.OXE_PORT_CFG_OWNER k == index
  | 2, 0x0E => here && k.val == index
  | 2, _ => false
  | 3, _ => here
  | _, _ => true

/-- A port that uses the element is not IDLE, FAULT or RETIRED. -/
def elemBusy (s : State) (d : Fin 8) (level block index : Nat) : Bool :=
  (List.finRange 8).any (fun e => s.dieUsed e && (List.finRange 4).any (fun k =>
    s.elemUses d level block index e k && !(s.psState e k == 0 || s.psState e k == 9 || s.psState e k == 10)))

/-- Status of a retire command (R464): 0, 3 WRONG_STATE or 4 BAD_PARAM. -/
def retireWhy (s : State) (d : Fin 8) (level block index : Nat) : Nat :=
  if !s.elemExists d level block index || decide (level = 4) || (decide (level = 3) && decide (d = 0)) ||
    (decide (level = 2) && decide (block = 0x20)) then 4
  else if s.isRetired d level block index || s.elemBusy d level block index then 3
  else 0

/-- An element retired by command (R463; code 0x0021). A lane's position goes over as R165 says; a port die is reset. -/
def retireCmd (s : State) (d : Fin 8) (level block index counter : Nat) : State :=
  let s := s.retireElem d level block index 0x0021 0 true counter
  if h : level = 2 ∧ block = 0x04 ∧ index < 3 then s.laneOut d ⟨index, h.2.2⟩ false
  else if level = 3 then s.dieReset d false
  else s

/-- The die's temperature keeps its latch-off (R432). -/
def tooWarm (s : State) (d : Fin 8) : Bool := decide (s.thmLevel d 0 ≤ s.rdI d F.THM_TEMP_MAX)

/-- A die is latched off (R432). -/
def latchedOff (s : State) (d : Fin 8) : Bool := s.bit pkgDie F.PKG_DIES_LATCHED_OFF d

/-- Status of a reinstate command (R464): a die that is latched off is reinstated too (R432). -/
def reinstateWhy (s : State) (d : Fin 8) (level block index : Nat) : Nat :=
  let off := decide (level = 3) && s.latchedOff d
  if !s.elemExists d level block index then 4
  else if (!s.isRetired d level block index && !off) || s.elemBusy d level block index || (off && s.tooWarm d) then 3
  else 0

/-- A quantity of degraded mode that no retired cell of the port holds any more (R409). -/
def cellBack (s : State) (d : Fin 8) (c : Nat) : State :=
  if h : c / 16 < 4 then
    let k : Fin 4 := ⟨c / 16, h⟩
    let cur (c : Nat) : Bool := c == s.mapCell d k F.ADC_MTRMAP_I_CELL || (s.on d F.ADC_MTRMAP_H_EN k && c == s.mapCell d k
      F.ADC_MTRMAP_H_CELL)
    let left (p : Nat → Bool) : Bool := (List.range 16).any (fun i => p (16 * k.val + i) && s.isRetired d 1 0x04 (16 * k.val + i))
    if cur c then (if left cur then s else s.undegrade d k 1)
    else if c % 16 ≤ 1 then (if left (fun x => decide (x % 16 ≤ 1) && !cur x) then s else s.undegrade d k 0)
    else s
  else s

/-- A reinstated lane self-calibrates and becomes the calibration lane; rotation resumes (R164). -/
def laneBack (s : State) (d : Fin 8) (k : Fin 3) : State :=
  let s := (s.wr d F.ADC_LANE_CAL_RETIRED 0 k).wr d F.ADC_LANE_CAL_FAULTS 0 k
  let s := s.updLane d k (fun l => { l with working := none, fresh := none, doubt := false })
  let s := if s.rd d F.ADC_STAT_CAL_LANE = 3 then
    let s := ((s.wr d F.ADC_STAT_CAL_LANE k).setPhase d 1).clearPairs d
    if (s.adc.get d).refOk then s.laneCal d k else s
  else s
  s.onPorts (fun s j => s.undegrade d j 3)

/-- An element reinstated (R465; code 0x0022): record and count erased, the self-test run, back in service. The self-test
passes (log entry 48). -/
def reinstateCmd (s : State) (d : Fin 8) (level block index : Nat) : State :=
  if level = 4 then { s with faults := { s.faults with chipReinstate := true } }
  else
    let s := if s.isRetired d level block index then s.eraseRetired d level block index else s
    let s := s.info d 0x0022 block index [level, 0]
    if level = 1 ∧ block = 0x04 then (if index < 72 then (s.wr d F.ADC_CELL_RETIRED 0 index).cellBack d index else s)
    else if h : level = 2 ∧ block = 0x04 ∧ index < 3 then s.laneBack d ⟨index, h.2.2⟩
    else if level = 1 ∧ block = 0x11 then (s.wr d F.LSW_CH_STAT_RETIRED 0 index).wr d F.LSW_CH_STAT_STATE 0 index
    else if level = 1 ∧ block = 0x14 then s.xlkShow d
    else if level = 1 ∧ block = 0x21 then (if s.linkUp then s.wr 0 F.TWN_STAT_LANES_OK s.twinLanes else s)
    else if level = 3 then
      let s := (s.clrBit pkgDie F.PKG_DIES_RETIRED d).clrBit pkgDie F.PKG_DIES_LATCHED_OFF d
      { s with faults := { s.faults with dieRelease := s.faults.dieRelease.set d true } }
    else s

/-- A reinstated die released from reset at a site tick (R465). -/
def releaseDies (s : State) : State :=
  s.onDies (fun s d =>
    if s.faults.dieRelease.get d then
      (({ s with faults := { s.faults with dieRelease := s.faults.dieRelease.set d false } }).dieReset d false)
    else s)

end State

/-- REGION_RESET_DELAY (R461). -/
def execRegionResetDelay (d : Die) (s : State) : Host.Outcome State Fault Refusal := .next (s.regionReset d)

/-- CHIP_RESET_DELAY (R461). -/
def execChipResetDelay (s : State) : Host.Outcome State Fault Refusal := .next s.chipReset

/-- DIE_WATCHDOG (R462). -/
def execDieWatchdog (d : Die) (s : State) : Host.Outcome State Fault Refusal := .next (s.dieWatchdog d)

/-- XLINK_STATE_WORD (R31). -/
def execXlinkStateWord (d : Die) (toLead : Bool) (w : Word) (bad : Bool) (s : State) : Host.Outcome State Fault Refusal :=
  .next (s.xlkState d toLead w bad)

/-- XLINK_WORD_ERROR (R32). -/
def execXlinkWordError (d : Die) (cls : Fin 3) (s : State) : Host.Outcome State Fault Refusal := .next (s.xlkError d cls)

/-- REMOTE_WORD_WRITE (R197). -/
def execRemoteWordWrite (src dst : Die) (s : State) : Host.Outcome State Fault Refusal := .next (s.remoteWrite src dst)

/-- XLINK_LANE_FAIL (R34). -/
def execXlinkLaneFail (d : Die) (lane : Fin 4) (s : State) : Host.Outcome State Fault Refusal := .next (s.xlkLaneFail d lane)

/-- TWIN_LINK_LANE_FAIL (R435). -/
def execTwinLinkLaneFail (lane : Fin 4) (s : State) : Host.Outcome State Fault Refusal := .next (s.twinLaneFail lane)

end Sys2Proof.Machine
end

