-- ==== Sys2Proof/Machine/Alloc.lean ====
section
/-!
DEFINITION. Site power allocation: what contexts C4 do at each site tick and at the grid edge after it (R215 to R241, R482,
R483). The program itself is part of the LOOP image; its effect is modelled whole at those two moments (log entry 55).
-/

namespace Sys2Proof.Machine.State

/-! ## Contexts and windows -/

/-- Context C4 of a die takes the site tick: started, enabled, not faulted, triggered by the tick (R168, R215). -/
def c4Runs (s : State) (d : Fin 8) : Bool :=
  decide (s.pkg.die.get d = .running) && (s.oxe.get d).started && decide (s.ctxSt d 4 ≠ 0) && decide (s.ctxSt d 4 ≠ 6) &&
    decide (s.rd d F.OXE_CTX_TRIG_SRC 4 = 2)

/-- C4's activation at a site tick starts: the die runs, the trigger selects it, and no memory error of the words it reads faults it
(R169, R190; log entry 55). -/
def c4Start (s : State) (d : Fin 8) (read : State → List Nat) : Bool × State :=
  if s.pkg.die.get d ≠ .running then (false, s)
  else
    let x := s.trigWhole d 4 2
    if x.1 = false then (false, x.2)
    else
      let t := x.2.eccMeet d 4 (read x.2)
      (decide (t.ctxSt d 4 ≠ 6), t)

/-- Executed cycles of an activation recorded (R171, R215). -/
def setCyc (s : State) (d n : Fin 8) (c : Nat) : State :=
  let s := s.wr d F.OXE_CTX_CYC_LAST c n
  if s.rd d F.OXE_CTX_CYC_MAX n < c then s.wr d F.OXE_CTX_CYC_MAX c n else s

/-- Index of a word of the lead die's C4 window (R221). -/
def allocIdx (s : State) (off : Nat) : Nat := (s.rd 0 F.OXE_CTX_DWIN_DBASE 4 + off) % 2048

/-- A word of the lead die's C4 window. -/
def aw (s : State) (off : Nat) : Int := s.dataGet 0 (s.allocIdx off)

/-- A word of the lead die's C4 window written; a result outside 32 bits is clamped (R174). -/
def awSet (s : State) (off : Nat) (x : Int) : State := s.dataSet 0 (s.allocIdx off) (sat32 x)

/-- Consecutive words of the window written. -/
def awSets (s : State) (off : Nat) : List Int → State
  | [] => s
  | x :: t => (s.awSet off x).awSets (off + 1) t

/-- The window holds all 0x300 words (R194, R221). -/
def allocFits (s : State) : Bool :=
  decide (0x300 ≤ s.rd 0 F.OXE_CTX_DWIN_DSIZE 4) && decide (s.rd 0 F.OXE_CTX_DWIN_DBASE 4 + 0x300 ≤ 2048)

/-- Default of a word of a parameter block (R221). -/
def blockDefault (off : Nat) : Int :=
  if off = 0x03 then 1
  else if off = 0x06 ∨ off = 0x07 then -1
  else if off = 0x08 then 16384
  else if off = 0x09 then 600
  else if off = 0x0A then 2000
  else if off = 0x0B then 400
  else if off = 0x0C then 5000
  else if off = 0x0D then 4096
  else if 0x10 ≤ off ∧ off ≤ 0x1F then (if off % 2 = 1 then 65536 else 0)
  else if off = 0x20 then 262144
  else if off = 0x21 then 131072
  else if off = 0x22 then 65536
  else if off = 0x23 then 32768
  else if 0x48 ≤ off ∧ off ≤ 0x67 then 32
  else if off = 0xA0 then 0x7FFFFFFF
  else 0

/-- What the LOOP image loads into the window: both blocks' defaults and RECIP (R221; log entry 54). -/
def allocDefaults (s : State) : State :=
  let blk := (List.range 192).map blockDefault
  let recip := (List.range 33).map (fun n => if n = 0 then (0 : Int) else 65536 / Int.ofNat n)
  ((s.awSets 0x100 blk).awSets 0x1C0 blk).awSets 0x2C0 recip

/-! ## Reports (R218, R219, R483) -/

/-- The report words of a local port, converted from the shared words of its context (R218, R483). -/
def portReport (s : State) (d : Fin 8) (k : Fin 4) : List Int :=
  let w (off : Nat) : Int := s.dataGet d ((s.rd d F.OXE_CTX_DWIN_DBASE k + off) % 2048)
  [rhu (w 0x10 * w 0x12) 1000000, rhu (w 0x11 * w 0x12) 1000000, w 0x15, w 0x16, w 0x14, w 0x13]

/-- A class 1 message queued by a die. -/
def sendWord (s : State) (d : Fin 8) (dst word : Nat) (v : Int) : State :=
  s.updOxe d (fun o => { o with sendq := o.sendq ++ [{ dst := dst, word := word, value := BitVec.ofInt 32 v }] })

/-- The words with an error among those a port's report is formed from (R190, R483). -/
def eccReport (s : State) (d : Fin 8) : List Nat :=
  (List.finRange 4).flatMap (fun k => s.eccWithin (dataKey d (s.rd d F.OXE_CTX_DWIN_DBASE k + 0x10)) 28)

/-- C4 of a port die at a site tick: 24 report words, then the die word (R219). -/
def sendReport (s : State) (d : Fin 8) : State :=
  if d = 0 then s
  else
    let x := s.c4Start d (fun t => t.eccReport d)
    if x.1 = false then x.2
    else
    let s := x.2
    let s := (List.finRange 4).foldl (fun (s : State) (k : Fin 4) =>
      ((s.portReport d k).mapIdx (fun j v => (j, v))).foldl (fun (s : State) (x : Nat × Int) =>
        s.sendWord d 0 (8 * (4 * d.val + k.val) + x.1) x.2) s) s
    (s.sendWord d 0 (256 + d.val) (Int.ofNat (s.rd d F.TSU_TICK))).setCyc d 4 92

/-! ## Grid and buffers (R222 to R228) -/

/-- A quotient of the allocation: rounded half up, and with divisor 0 what DIV gives (R202, R482). -/
def quot (a b : Int) : Int :=
  if b = 0 then (if a = 0 then 0 else if 0 < a then 2147483647 else -2147483648) else rhuDiv a b

/-- A word of a parameter block. -/
def par (s : State) (blk off : Nat) : Int := s.aw (blk + off)

/-- MARGIN or E_MAX: 0xFFFF_FFFF stands for a share of PLIM0 (R221). -/
def parShare (s : State) (blk off : Nat) (den : Int) : Int :=
  if s.par blk off = -1 then rhu (s.par blk 0) den else s.par blk off

/-- The block PSEL names (R222). -/
def blockOf (s : State) : Nat := if bitOf (BitVec.ofInt 32 (s.aw 0)).toNat 0 then 0x1C0 else 0x100

/-- Interpolation between EFF points `j` upward; past the last one its value holds (R223). -/
def effFrom (s : State) (blk : Nat) (x : Int) : Nat → Nat → Int
  | 0, j => s.par blk (0x11 + 2 * j)
  | n + 1, j =>
    let p0 := s.par blk (0x10 + 2 * j)
    let k0 := s.par blk (0x11 + 2 * j)
    let p1 := s.par blk (0x12 + 2 * j)
    let k1 := s.par blk (0x13 + 2 * j)
    if p0 ≤ x ∧ x < p1 then k0 + rhu ((k1 - k0) * (x - p0)) (p1 - p0) else effFrom s blk x n (j + 1)

/-- eff of R223: linear between the points, held beyond the ends. -/
def eff (s : State) (blk : Nat) (x : Int) : Int :=
  if x ≤ s.par blk 0x10 then s.par blk 0x11 else s.effFrom blk x 7 0

/-- A buffer's live SEQ and measured power taken in: its age, its last power, and how long it has been lost (R227, R238). -/
def takeBuffer (s : State) (blk : Nat) (b : Fin 4) : State :=
  let seq := BitVec.ofInt 32 (s.aw (0x0C + 8 * b.val))
  let inv := s.remoteStale 0 (264 + b.val)
  let a := s.alloc
  let age := if seq = a.bufSeq.get b then a.bufAge.get b + 1 else 0
  let p : Int := if inv then a.bufP.get b
    else match s.remoteGet 0 (264 + b.val) with
      | some (v, _) => v.toInt
      | none => 0
  let lost := inv || decide (s.par blk 0x0A ≤ Int.ofNat age)
  { s with alloc := { a with bufSeq := a.bufSeq.set b seq, bufAge := a.bufAge.set b age, bufP := a.bufP.set b p,
                             bufInv := a.bufInv.set b (if lost then a.bufInv.get b + 1 else 0) } }

/-- What the fast path counts for a buffer: a lost one's last power for 500 ticks (R223, R238). -/
def bufPower (s : State) (b : Fin 4) : Int := if s.alloc.bufInv.get b ≤ 500 then s.alloc.bufP.get b else 0

/-- Grid measurements: SEQ seen, ages, losses. Answers the state, whether a value is new, and whether one has returned (R224,
R238). -/
def takeGrid (s : State) (blk : Nat) (first : Bool) : State × Bool × Bool :=
  let a := s.alloc
  let two := decide (s.par blk 3 = 2)
  let q0 := BitVec.ofInt 32 (s.aw 4)
  let q1 := BitVec.ofInt 32 (s.aw 2)
  let ch0 := !first && decide (q0 ≠ a.seq.get 0)
  let ch1 := two && !first && decide (q1 ≠ a.seq.get 1)
  let g0 := if q0 = a.seq.get 0 then a.age.get 0 + 1 else 0
  let g1 := if q1 = a.seq.get 1 then a.age.get 1 + 1 else 0
  let l0 := decide (s.par blk 0x0B ≤ Int.ofNat g0) || decide (s.aw 5 = 1) || (a.lost.get 0 && !ch0)
  let l1 := two && (decide (s.par blk 0x0C ≤ Int.ofNat g1) || (a.lost.get 1 && !ch1))
  let back := (a.lost.get 0 && !l0) || (a.lost.get 1 && !l1)
  ({ s with alloc := { a with seq := #v[q0, q1], age := #v[g0, g1], lost := #v[l0, l1] } }, ch0 || ch1, back)

/-- F_SUM, F_CNT, E and the shares of a tick whose fast estimate is `f` (R223 to R225, R238). -/
def slowUpdate (s : State) (blk : Nat) (f : Int) (first changed back : Bool) : State :=
  let two := decide (s.par blk 3 = 2)
  let sum := s.aw 0x29 + f
  let cnt := s.aw 0x2A + 1
  let s := if two then s else s.awSet 0x2B 65536
  if s.alloc.lost.get 0 || s.alloc.lost.get 1 || first || back then s.awSets 0x29 [0, 0]
  else if changed then
    let e := s.aw 0x28
    let g0 := s.aw 3
    let pm := g0 + (if two then s.aw 1 else 0)
    let em := s.parShare blk 7 10
    let e1 := clampI (-em) em (e + rhuShift (s.par blk 8 * (pm - quot sum cnt - e)) 16)
    let s := (s.awSet 0x28 e1).awSets 0x29 [0, 0]
    if two ∧ 0 < pm then
      let lo := s.par blk 0x0D
      let sh := clampI lo (65536 - lo) (quot (g0 * 65536) pm)
      s.awSets 0x2B [sh, 65536 - sh]
    else s
  else s.awSets 0x29 [sum, cnt]

/-- The effective import limit (R225). -/
def plimEff (s : State) (blk : Nat) : Int :=
  let two := decide (s.par blk 3 = 2)
  let n : Int := Int.ofNat (b2n (s.alloc.lost.get 0) + b2n (s.alloc.lost.get 1))
  let a := quot (s.par blk 0 * 65536) (s.aw 0x2B)
  let b := if two then quot (s.par blk 1 * 65536) (s.aw 0x2C) else a
  min a b - s.parShare blk 6 20 * n

/-- up and down of a buffer (R227). -/
def socFactors (s : State) (blk : Nat) (b : Fin 4) : Int × Int :=
  let soc := s.aw (0x08 + 8 * b.val)
  (clampI 0 65536 (rhu ((soc - s.par blk (0x68 + 6 * b.val + 2)) * 65536) 500),
   clampI 0 65536 (rhu ((s.par blk (0x68 + 6 * b.val + 3) - soc) * 65536) 500))

/-- dis and chg of a buffer (R227). -/
def bufLimits (s : State) (blk : Nat) (b : Fin 4) : Int × Int :=
  let base := 0x68 + 6 * b.val
  let live (i : Nat) : Int := s.aw (0x08 + 8 * b.val + i)
  let x := s.socFactors blk b
  if s.alloc.bufInv.get b ≠ 0 then (0, 0)
  else
    (min (live 1) (rhuShift (s.par blk base * x.1) 16),
     if live 3 = 1 ∧ live 0 < s.par blk (base + 4) then min (live 2) (rhuShift (s.par blk (base + 1) * x.2) 16) else 0)

/-- Sum of a list. -/
def sumI (l : List Int) : Int := l.foldl (fun (a b : Int) => a + b) 0

/-- The first half of a solve: grid and buffer phases at the site tick, after which C4 is WAITING (R217 step 1). While PLIM0 is 0 the site allocates no
power (R221). -/
def allocFirst (s : State) : State :=
  let x := s.c4Start 0 (fun t => t.eccWindow 0 4 0x300)
  let s := x.2
  if x.1 = false then s
  else if !s.allocFits then s.ctxFault 0 4 4
  else
    let psel := BitVec.ofInt 32 (s.aw 0)
    let blk := s.blockOf
    let t := s.rd 0 F.TSU_TICK
    let first := match s.alloc.lastTick with
      | some x => decide ((x + 1) % 2 ^ 32 ≠ t)
      | none => true
    let s := (List.finRange 4).foldl (fun (s : State) (b : Fin 4) => s.takeBuffer blk b) s
    let pdc := sumI s.alloc.pmeas.toList - sumI ((List.finRange 4).map (fun b => s.bufPower b))
    let kg := s.eff blk (Int.ofNat pdc.natAbs)
    let paux := s.par blk 4
    let f := (if 0 ≤ pdc then rhuShift (pdc * kg) 16 else quot (pdc * 65536) kg) + paux
    let g := s.takeGrid blk first
    let s := g.1.slowUpdate blk f first g.2.1 g.2.2
    let e := s.aw 0x28
    let lim := s.plimEff blk
    let ramp := s.par blk 5
    let tt := if 0 < ramp then min lim (f + e + ramp) else lim
    let dead := decide (s.par blk 0 = 0)
    let cg := if dead then 0 else max 0 (quot ((tt - paux - e) * 65536) kg)
    let lims := (List.finRange 4).map (fun b => if dead then ((0, 0) : Int × Int) else s.bufLimits blk b)
    let facs := (List.finRange 4).map (fun b => s.socFactors blk b)
    let ph : AllocPhase :=
      { blk := blk, psel := psel, f := f, kg := kg, t := tt, cGrid := cg, dis := lims.map (·.1), chg := lims.map (·.2),
        up := facs.map (·.1), down := facs.map (·.2), bufLost := (List.finRange 4).map (fun b => decide (s.alloc.bufInv.get b ≠ 0)),
        lost := b2n (s.alloc.lost.get 0) + 2 * b2n (s.alloc.lost.get 1) }
    ({ s with alloc := { s.alloc with due := some ph } }).wr 0 F.OXE_CTX_STAT_STATE 5 4

/-! ## Intake and records (R219, R229, R238) -/

/-- How a port's report stands in this tick: 0 this tick's, 1 late, 2 held, 3 released, 5 absent die (R219, R238, R240). -/
def reportKind (s : State) (blk : Nat) (p : Fin 32) : Nat :=
  let d := Port.die p
  if !s.present d then 5
  else if d = 0 then 0
  else if s.remoteStale 0 (256 + d.val) then (if s.par blk 9 ≤ Int.ofNat (s.alloc.hold.get p) then 3 else 2)
  else match s.remoteGet 0 (256 + d.val) with
    | some (_, t) => if t = s.tick 0 then 0 else 1
    | none => 2

/-- A port at intake: its kind, report words, and record W, LO, HI. -/
structure Intake where
  kind : Nat
  demand : Int
  minP : Int
  cls : Nat
  p : Int
  i : Int
  w : Int
  lo : Int
  hi : Int
  deriving DecidableEq, Repr

/-- The report words of a port as the lead die's C4 has them (R483). -/
def reportWords (s : State) (p : Fin 32) : List Int :=
  if Port.die p = 0 then s.portReport 0 (Port.loc p)
  else (List.range 6).map (fun j => match s.remoteGet 0 (8 * p.val + j) with
    | some (v, _) => v.toInt
    | none => 0)

/-- Intake of a port. The weight word of a record that holds no consuming port is not stated: `fw` (R229; log entry 56). -/
def intake (s : State) (blk : Nat) (fw : Word) (p : Fin 32) : Intake :=
  let kind := s.reportKind blk p
  if 3 ≤ kind then { kind := kind, demand := 0, minP := 0, cls := 8, p := 0, i := 0, w := 0, lo := 0, hi := 0 }
  else
    let r := s.reportWords p
    let c := r.getD 2 8
    let cls := if 0 ≤ c ∧ c ≤ 8 then c.toNat else 8
    let cons := decide (cls ≤ 3)
    let w := clampI 32768 524288 (if cons then rhuShift (r.getD 3 0 * s.par blk (0x20 + cls)) 16 else fw.toInt)
    let hi := if cons then min (r.getD 0 0) (s.par blk (0x28 + p.val)) else 0
    let lo := if cons then min (r.getD 1 0) hi else 0
    let held := decide (kind = 2)
    let l := Int.ofNat (s.alloc.last.get p)
    { kind := kind, demand := r.getD 0 0, minP := r.getD 1 0, cls := cls,
      p := if held then s.alloc.pmeas.get p else r.getD 4 0,
      i := if held then Int.ofNat (s.alloc.imeas.get p) else r.getD 5 0,
      w := w, lo := if held then l else lo, hi := if held then l else hi }

/-- The class a port's minimum counts in: a held port's is 0 (R229, R230). -/
def Intake.minClass (x : Intake) : Nat := if x.kind = 2 then 0 else if x.cls ≤ 3 then x.cls else 0

/-- Sum of the minima of a class; only consuming and held ports have one (R229). -/
def classMin (l : List Intake) (c : Nat) : Int := sumI (l.map (fun x => if x.minClass = c then x.lo else 0))

/-- f of each class in turn, and what remains (R230). -/
def classFactors (l : List Intake) : Nat → Nat → Int → List Int
  | 0, _, _ => []
  | n + 1, c, avail =>
    let m := classMin l c
    let f := if m = 0 then 65536 else min 65536 (avail * 65536 / m)
    f :: classFactors l n (c + 1) (max 0 (avail - m * f / 65536))

/-! ## The fill (R231, R232) -/

/-- fsum over records given as W, LO, HI. -/
def fillTotal (l : Int) (recs : List (Int × Int × Int)) : Int := sumI (recs.map (fun r => fsumShare l r.1 r.2.1 r.2.2))

/-- Bisection steps over lo and hi. -/
def bisect (recs : List (Int × Int × Int)) (cf : Int) : Nat → Int → Int → Int
  | 0, lo, _ => lo
  | n + 1, lo, hi =>
    let mid := rhu (lo + hi) 2
    if cf < fillTotal mid recs then bisect recs cf n lo mid else bisect recs cf n mid hi

/-- The two recharge records of a buffer (R231). -/
def rechargeRecs (wr chg : Int) : List (Int × Int × Int) := [(wr, 0, chg + wr * 128), (-wr, -wr * 128, 0)]

/-! ## Results (R234 to R240) -/

/-- An output of the lead die's C4 to a word of a die: its own at once, another's by message (R197, R234). -/
def allocOut (s : State) (d : Fin 8) (word : Nat) (v : Int) : State :=
  if !s.present d then s else if d = 0 then s.remoteSet 0 word (BitVec.ofInt 32 v) else s.sendWord 0 d.val word v

/-- Stage group of a port (R221). -/
def groupOf (s : State) (blk : Nat) (p : Nat) : Nat :=
  let g := s.par blk (0x48 + p)
  if 0 ≤ g ∧ g ≤ 32 then g.toNat else if g < 0 then 0 else 32

/-- Stage-group current candidate of a port (R236). -/
def groupLimit (s : State) (blk : Nat) (l : List (Nat × Intake)) (p : Nat) (i : Int) : Int :=
  let g := s.groupOf blk p
  if g = 32 then 2147483647
  else
    let mem := l.filter (fun x => s.groupOf blk x.1 == g)
    let isum := sumI (mem.map (fun x => x.2.i))
    let n := (mem.map (fun x => (min (max x.2.demand 0) 1).toNat)).foldl (fun (a b : Nat) => a + b) 0
    sat32 (i + max 0 (s.par blk (0x80 + g) - isum) * s.aw (0x2C0 + n) / 65536)

/-- Status of a buffer (R240). -/
def bufStatus (lost : Bool) (up down setp : Int) : Nat :=
  let fac := if 0 < setp then up else if setp < 0 then down else min up down
  if lost then 3 else if fac < 65536 then 4 else if 0 < setp then 1 else if setp < 0 then 2 else 0

/-- Status of a port (R240): LO scaled below the reported MIN is shed. -/
def portStatus (x : Intake) (scaled : Int) : Nat :=
  if x.kind ≤ 1 ∧ scaled < x.lo ∧ scaled < x.minP then (if 2 ≤ x.kind then x.kind else 4) else x.kind

/-- What a port of a solve gets: its intake, scaled LO, allocation, permission or allocation sent. -/
structure Grant where
  x : Intake
  lo : Int
  out : Int
  sent : Int
  deriving DecidableEq, Repr

/-- Power a discharging port's permission starts from (R235). -/
def ddem (s : State) (blk : Nat) (p : Nat) (x : Intake) : Int :=
  if x.kind ≤ 1 ∧ 4 ≤ x.cls ∧ x.cls ≤ 7 then min x.demand (s.par blk (0x28 + p)) else 0

/-- Records and their outputs written back (R221, R232). -/
def writeRecords (s : State) (off : Nat) (l : List (Int × Int × Int × Int)) : State :=
  s.awSets off (l.flatMap (fun r => [r.1, r.2.1, r.2.2.1, r.2.2.2]))

/-- The state words a solve leaves for the next one: hold counters, last allocations, last measurements (R221, R238). -/
def keepPorts (s : State) (l : List (Nat × Grant)) : State :=
  l.foldl (fun (s : State) (e : Nat × Grant) =>
    if h : e.1 < 32 then
      let p : Fin 32 := ⟨e.1, h⟩
      let a := s.alloc
      let x := e.2.x
      { s with alloc := { a with hold := a.hold.set p (if x.kind = 2 ∨ x.kind = 3 then a.hold.get p + 1 else 0),
                                 last := a.last.set p e.2.out.toNat, pmeas := a.pmeas.set p x.p,
                                 imeas := a.imeas.set p x.i.toNat } }
    else s) s

/-- Port outputs of a solve: allocation or permission, and the group candidate (R234 to R236). -/
def sendPorts (s : State) (blk : Nat) (l : List (Nat × Grant)) : State :=
  let xs := l.map (fun e => (e.1, e.2.x))
  let outs := l.map (fun e => (e.1, e.2.sent, s.groupLimit blk xs e.1 e.2.x.i))
  outs.foldl (fun (s : State) (e : Nat × Int × Int) =>
    let d : Fin 8 := ⟨e.1 / 4 % 8, Nat.mod_lt _ (by decide)⟩
    (s.allocOut d (384 + 2 * (e.1 % 4)) e.2.1).allocOut d (385 + 2 * (e.1 % 4)) e.2.2) s

/-- `n` window words written with what the spec does not state: how hold counters and last allocations lie in the state words, and what
the working words hold (R221; log entry 54). -/
def openWords (s : State) (off n : Nat) : State :=
  let i := s.freeIdx
  ({ s with freeIdx := i + n }).awSets off ((List.range n).map (fun j => (Config.freeWord (i + j)).toInt))

/-- The second half of a solve: intake, fill and results at the grid edge after the tick (R217 steps 4 and 5). -/
def allocSolve (s : State) (ph : AllocPhase) : State :=
  let blk := ph.blk
  let idx := s.freeIdx
  let ins := (List.finRange 32).map (fun p => s.intake blk (Config.freeWord (idx + p.val)) p)
  let s := { s with freeIdx := idx + 32 }
  let sumHi := sumI (ins.map (fun x => x.hi))
  let sdis := sumI ph.dis
  let cf := max ph.cGrid (min sumHi (ph.cGrid + sdis))
  let fs := classFactors ins 4 0 cf
  let los := ins.map (fun x => x.lo * fs.getD x.minClass 65536 / 65536)
  let recs := (ins.zip los).map (fun e => (e.1.w, e.2, e.1.hi))
  let rech := (List.range 4).flatMap (fun b => rechargeRecs (s.par blk (0x68 + 6 * b + 5)) (ph.chg.getD b 0))
  let lvl := bisect (recs ++ rech) cf 24 0 16777216
  let outs := recs.map (fun r => fsumShare lvl r.1 r.2.1 r.2.2)
  let routs := rech.map (fun r => fsumShare lvl r.1 r.2.1 r.2.2)
  let acons := sumI outs
  let btot := clampI 0 sdis (acons - ph.cGrid)
  let rtot := sumI routs
  let sets := (List.range 4).map (fun b =>
    (if 0 < sdis then btot * ph.dis.getD b 0 / sdis else 0) - (routs.getD (2 * b) 0 + routs.getD (2 * b + 1) 0))
  let dd := ins.mapIdx (fun p x => s.ddem blk p x)
  let xcap := acons + rtot - btot + quot ((s.par blk 2 + s.par blk 4) * 65536) ph.kg
  let sd := sumI dd
  let g := if sd = 0 then 65536 else min 65536 (xcap * 65536 / sd)
  let grants := (List.range 32).map (fun p =>
    let x := ins.getD p { kind := 5, demand := 0, minP := 0, cls := 8, p := 0, i := 0, w := 0, lo := 0, hi := 0 }
    let o := outs.getD p 0
    let dis := decide (x.kind ≤ 1) && decide (4 ≤ x.cls) && decide (x.cls ≤ 7)
    (p, Grant.mk x (los.getD p 0) o (if dis then dd.getD p 0 * g / 65536 else o)))
  let s := s.writeRecords 0x40 ((recs.zip outs).map (fun e => (e.1.1, e.1.2.1, e.1.2.2, e.2)))
  let s := s.writeRecords 0xC0 ((rech.zip routs).map (fun e => (e.1.1, e.1.2.1, e.1.2.2, e.2)))
  let s := s.sendPorts blk grants
  let s := (sets.mapIdx (fun b v => (b, v))).foldl (fun (s : State) (e : Nat × Int) =>
    s.onDies (fun s d => s.allocOut d (392 + e.1) e.2)) s
  let s := s.keepPorts grants
  let s := s.awSets 0x280 [s.aw 0x280 + 1, lvl, ph.cGrid, cf, ph.t, s.aw 0x28, ph.f, btot, rtot, ph.psel.toInt, Int.ofNat ph.lost]
  let s := s.awSets 0x290 (grants.map (fun e => Int.ofNat (portStatus e.2.x e.2.lo)))
  let s := s.awSets 0x2B0 ((List.range 4).map (fun b =>
    Int.ofNat (bufStatus (ph.bufLost.getD b true) (ph.up.getD b 0) (ph.down.getD b 0) (sets.getD b 0))))
  let t := s.rd 0 F.TSU_TICK
  let s := { s with alloc := { s.alloc with lastTick := some t, setp := s.alloc.setp.mapFinIdx (fun b _ _ => sets.getD b 0) } }
  (s.openWords 0x2D 19).openWords 0xE0 32 |>.setCyc 0 4 3500

/-- The second half where C4 still waits with it: PENDING and RUNNING are passed within the edge, then END (R170, R217 step 4; log entry
55). -/
def allocSecond (s : State) : State :=
  match s.alloc.due with
  | none => s
  | some ph =>
    let s := { s with alloc := { s.alloc with due := none } }
    if s.ctxSt 0 4 = 5 then (s.allocSolve ph).wr 0 F.OXE_CTX_STAT_STATE 1 4 else s

/-! ## Rows of R238 and R239 -/

/-- PORT_HOLD_EXPIRY: a held port's record is zeroed with status released. -/
def portRelease (s : State) (p : Fin 32) : State :=
  if s.c4Runs 0 && decide (2 ≤ s.reportKind s.blockOf p) && decide (s.reportKind s.blockOf p ≤ 3) then
    let a := s.alloc
    let h := max (a.hold.get p) (s.par s.blockOf 9).toNat
    let s := { s with alloc := { a with hold := a.hold.set p h, last := a.last.set p 0, pmeas := a.pmeas.set p 0, imeas := a.imeas.set p 0 } }
    let s := (s.awSets (0x40 + 4 * p.val) [0, 0, 0, 0]).awSet (0x290 + p.val) 3
    s.allocOut (Port.die p) (384 + 2 * (Port.loc p).val) 0
  else s

/-- BUFFER_LIVE_TIMEOUT: limits and setpoint of a buffer become 0. -/
def bufferLost (s : State) (b : Fin 4) : State :=
  if s.c4Runs 0 then
    let a := s.alloc
    let age := max (a.bufAge.get b) (s.par s.blockOf 0x0A).toNat
    let cut (ph : AllocPhase) : AllocPhase :=
      { ph with dis := ph.dis.set b.val 0, chg := ph.chg.set b.val 0, bufLost := ph.bufLost.set b.val true }
    let s := { s with alloc := { a with bufAge := a.bufAge.set b age, bufInv := a.bufInv.set b (max 1 (a.bufInv.get b)),
                                        setp := a.setp.set b 0, due := a.due.map cut } }
    (s.awSet (0x2B0 + b.val) 3).onDies (fun s d => s.allocOut d (392 + b.val) 0)
  else s

/-- The second half that is due solves with the loss: MARGIN, T, C_GRID and LOST anew (R225, R226, R238). -/
def phaseLost (s : State) (ph : AllocPhase) (lost : Vector Bool 2) : AllocPhase :=
  let blk := ph.blk
  let e := s.aw 0x28
  let paux := s.par blk 4
  let ramp := s.par blk 5
  let lim := ({ s with alloc := { s.alloc with lost := lost } }).plimEff blk
  let tt := if 0 < ramp then min lim (ph.f + e + ramp) else lim
  let cg := if s.par blk 0 = 0 then 0 else max 0 (quot ((tt - paux - e) * 65536) ph.kg)
  { ph with t := tt, cGrid := cg, lost := b2n (lost.get 0) + 2 * b2n (lost.get 1) }

/-- G0_MEASUREMENT_LOST and G1_MEASUREMENT_LOST: the response falls in the tick of detection (R238). -/
def gridLost (s : State) (i : Fin 2) : State :=
  if s.c4Runs 0 && (i == 0 || decide (s.par s.blockOf 3 = 2)) then
    let a := s.alloc
    let age := max (a.age.get i) (s.par s.blockOf (0x0B + i.val)).toNat
    let lost := a.lost.set i true
    let due := a.due.map (fun ph => s.phaseLost ph lost)
    let s := { s with alloc := { a with age := a.age.set i age, lost := lost, due := due } }
    (s.awSets 0x29 [0, 0]).awSet 0x28A (Int.ofNat (b2n (s.alloc.lost.get 0) + 2 * b2n (s.alloc.lost.get 1)))
  else s

/-- ALLOCATION_HOLD_EXPIRY: the port program whose allocation word is INV takes candidate 1 as 0 (R177, R239). -/
def candidateZero (s : State) (d : Fin 8) (k : Fin 4) : State :=
  if (s.oxe.get d).started && s.remoteStale d (384 + 2 * k.val) then
    let n : Fin 8 := ⟨s.rd d F.OXE_PORT_CFG_OWNER k % 8, Nat.mod_lt _ (by decide)⟩
    (s.wr d F.OXE_CTX_STAT_WIN 1 n).outPath d n k 0 false
  else s

end Sys2Proof.Machine.State

namespace Sys2Proof.Machine

/-- PORT_HOLD_EXPIRY (R238). -/
def execPortHoldExpiry (p : Port) (s : State) : Host.Outcome State Fault Refusal := .next (s.portRelease p)

/-- BUFFER_LIVE_TIMEOUT (R238). -/
def execBufferLiveTimeout (b : Fin 4) (s : State) : Host.Outcome State Fault Refusal := .next (s.bufferLost b)

/-- G0_MEASUREMENT_LOST (R238). -/
def execG0MeasurementLost (s : State) : Host.Outcome State Fault Refusal := .next (s.gridLost 0)

/-- G1_MEASUREMENT_LOST (R238). -/
def execG1MeasurementLost (s : State) : Host.Outcome State Fault Refusal := .next (s.gridLost 1)

/-- ALLOCATION_HOLD_EXPIRY (R239). -/
def execAllocationHoldExpiry (d : Die) (k : LPort) (s : State) : Host.Outcome State Fault Refusal := .next (s.candidateZero d k)

end Sys2Proof.Machine
end

