-- ==== Sys2Proof/Machine/CanBus.lean ====
section
/-!
DEFINITION. CAN FD controllers: bit timing, filters, receive queues, transmit buffers, error confinement, clashes, bit-rate
detection, time master (R292 to R307). Error counting and confinement follow ISO 11898-1:2015, as R301 has it (log entry 59).
-/

namespace Sys2Proof.Machine.State

/-! ## Controller and message RAM (R295 to R297) -/

/-- A controller changed. -/
def updCan (s : State) (d : Fin 8) (j : Fin 2) (f : Can → Can) : State := { s with can := upd s.can d (fun v => upd v j f) }

/-- A controller. -/
def canC (s : State) (d : Fin 8) (j : Fin 2) : Can := (s.can.get d).get j

/-- Key of a byte of a controller's message RAM. -/
def canKey (d : Fin 8) (j : Fin 2) (off : Nat) : Nat := regAddr d (0x0D0000 + 0x4000 * j.val + off)

/-- A word of message RAM. -/
def canWord (s : State) (d : Fin 8) (j : Fin 2) (off : Nat) : Nat := (s.mword (canKey d j off)).toNat

/-- Offset of receive buffer R`i` and transmit buffer T`i`, and of element `i` of a receive queue. -/
def canRx (i : Nat) : Nat := 0x2D00 + 76 * i
def canTx (i : Nat) : Nat := 0x3680 + 76 * i
def canQ (q i : Nat) : Nat := (if q = 0 then 0x0700 else 0x1A00) + 76 * i

/-- The controller is in use: its die runs and the block is not retired (R464). -/
def canUsed (s : State) (d : Fin 8) (j : Fin 2) : Bool := decide (s.pkg.die.get d = .running) && !s.isRetired d 2 0x0D j

/-- The controller takes part in the bus: in use, INIT clear, not waiting to recover from bus-off (R294, R301). -/
def canOnBus (s : State) (d : Fin 8) (j : Fin 2) : Bool :=
  s.canUsed d j && !s.on d F.CAN_CTRL_INIT j && !(s.canC d j).recover

/-- Listen-only mode, set or forced by the missing antler claim (R293). -/
def canListens (s : State) (d : Fin 8) (j : Fin 2) : Bool := s.on d F.CAN_CTRL_LISTEN j || !s.outEn

/-- An event bit of the controller. -/
def canEvt (s : State) (d : Fin 8) (j : Fin 2) (f : Fld) : State := s.wr d f 1 j

/-! ## Error counting (R301; ISO 11898-1) -/

/-- State code by the counters: error passive from 128 on; EPASS on entering it. -/
def canConfine (s : State) (d : Fin 8) (j : Fin 2) : State :=
  let passive := decide (128 ≤ s.rd d F.CAN_STAT_TEC j) || s.on d F.CAN_STAT_RX_PASSIVE j
  if s.rd d F.CAN_STAT_STATE j = 2 then s
  else
    let s := if passive && s.rd d F.CAN_STAT_STATE j != 1 then s.canEvt d j F.CAN_EVT_EPASS else s
    s.wr d F.CAN_STAT_STATE (b2n passive) j

/-- A transmit error: TEC + 8; past 255 the controller goes bus-off. What TEC reads then is not stated: a free value. -/
def canTxError (s : State) (d : Fin 8) (j : Fin 2) : State :=
  let n := s.rd d F.CAN_STAT_TEC j + 8
  if n ≤ 255 then (s.wr d F.CAN_STAT_TEC n j).canConfine d j
  else
    let x := s.freeWord
    let s := (x.2.wr d F.CAN_STAT_TEC (x.1.toNat % 256) j).wr d F.CAN_STAT_STATE 2 j
    ((s.wr d F.CAN_CTRL_INIT 1 j).wr d F.CAN_STAT_SYNC 0 j).canEvt d j F.CAN_EVT_BUS_OFF

/-- A receive error: REC + 1, passive from 128 on. -/
def canRxError (s : State) (d : Fin 8) (j : Fin 2) : State :=
  let n := s.rd d F.CAN_STAT_REC j
  (if n < 127 then s.wr d F.CAN_STAT_REC (n + 1) j else s.wr d F.CAN_STAT_RX_PASSIVE 1 j).canConfine d j

/-- A frame received without error: REC − 1; from the passive range to a value from 119 to 127 that the standard leaves open. -/
def canRxGood (s : State) (d : Fin 8) (j : Fin 2) : State :=
  if s.on d F.CAN_STAT_RX_PASSIVE j then
    let x := s.freeWord
    ((x.2.wr d F.CAN_STAT_RX_PASSIVE 0 j).wr d F.CAN_STAT_REC (119 + x.1.toNat % 9) j).canConfine d j
  else (s.wr d F.CAN_STAT_REC (s.rd d F.CAN_STAT_REC j - 1) j).canConfine d j

/-- The last error of a phase. -/
def canErrCode (s : State) (d : Fin 8) (j : Fin 2) (code : Nat) (dataPhase : Bool) : State :=
  if dataPhase then s.wr d F.CAN_STAT_ERR_DATA code j else s.wr d F.CAN_STAT_ERR_NOM code j

/-! ## Joining the bus (R294, R301) -/

/-- The bit-timing settings pass the check of R294. -/
def canTimingOk (s : State) (d : Fin 8) (j : Fin 2) : Bool :=
  let r (f : Fld) : Nat := s.rd d f j + 1
  decide (r F.CAN_TIM_NOM_SJW ≤ r F.CAN_TIM_NOM_TSEG2) && decide (r F.CAN_TIM_DATA_DSJW ≤ r F.CAN_TIM_DATA_DTSEG2) &&
    decide (125 ≤ r F.CAN_TIM_NOM_BRP * (1 + r F.CAN_TIM_NOM_TSEG1 + r F.CAN_TIM_NOM_TSEG2)) &&
    decide (25 ≤ r F.CAN_TIM_DATA_DBRP * (1 + r F.CAN_TIM_DATA_DTSEG1 + r F.CAN_TIM_DATA_DTSEG2))

/-- CAN_INIT_CLEAR. -/
def canInitClear (s : State) (d : Fin 8) (j : Fin 2) : State :=
  if !s.canUsed d j || !s.on d F.CAN_CTRL_INIT j then s
  else if !s.canTimingOk d j then s.canEvt d j F.CAN_EVT_BAD_TIMING
  else
    let off := decide (s.rd d F.CAN_STAT_STATE j = 2)
    let s := (s.wr d F.CAN_CTRL_INIT 0 j).wr d F.CAN_ABD_STAT_BUSY 0 j
    if off then s.updCan d j (fun c => { c with recover := true })
    else ((s.wr d F.CAN_STAT_STATE 0 j).wr d F.CAN_STAT_SYNC 1 j).canConfine d j

/-- CAN_BUS_OFF_RECOVERY. -/
def canRecover (s : State) (d : Fin 8) (j : Fin 2) : State :=
  if (s.canC d j).recover && !s.on d F.CAN_CTRL_INIT j then
    let s := ((s.wr d F.CAN_STAT_TEC 0 j).wr d F.CAN_STAT_REC 0 j).wr d F.CAN_STAT_RX_PASSIVE 0 j
    ((s.wr d F.CAN_STAT_STATE 0 j).wr d F.CAN_STAT_SYNC 1 j).updCan d j (fun c => { c with recover := false })
  else s

/-! ## Errors of the message RAM (R306) -/

/-- A word of the element of `n` bytes from `off` has an uncorrectable error. -/
def canBad (s : State) (d : Fin 8) (j : Fin 2) (off n : Nat) : Bool :=
  (s.eccWithin (canKey d j off) n).any (fun k => s.eccAt k == some true)

/-- An uncorrectable error in a buffer: ECC_UNCORR and a fault of the controller (R459). -/
def canUncorr (s : State) (d : Fin 8) (j : Fin 2) (buf : Nat) : State :=
  (s.canEvt d j F.CAN_EVT_ECC_UNCORR).fault d 2 0x0D j.val 0x2007 [j.val, buf]

/-- Attempts of a buffer forgotten. -/
def canForget (s : State) (d : Fin 8) (j : Fin 2) (b : Nat) : State :=
  s.updCan d j (fun c => { c with tries := c.tries.filter (fun e => e.1 != b) })

/-- A request dropped: DROP and TX_DROP (R299). -/
def canDrop (s : State) (d : Fin 8) (j : Fin 2) (b : Nat) : State :=
  (((s.clrBit d F.CAN_TX_PEND b j).setBit d F.CAN_TX_DROP b j).canEvt d j F.CAN_EVT_TX_DROP).canForget d j b

/-- A receive element whose word at `o` is lost: ECC_BAD set, its data zeroed (R297, R306). -/
def canRxBad (s : State) (d : Fin 8) (j : Fin 2) (o : Nat) : State :=
  let base := 0x0700 + 76 * ((o - 0x0700) / 76)
  let w2 := s.mword (canKey d j (base + 8))
  let s := (s.setMword (canKey d j (base + 8)) (w2 ||| 0x80)).zeroRange (canKey d j (base + 12)) 64
  (s.eccMend (canKey d j o)).canUncorr d j ((o - 0x0700) / 76)

/-- An error has arisen in the word at offset `o` of a controller's message RAM. A filter element's error shows at the frames it is
held against, a transmit element's when it is to be sent (log entry 116). -/
def canUpsetAt (s : State) (d : Fin 8) (j : Fin 2) (o : Nat) : State :=
  match s.eccAt (canKey d j o) with
  | none => s
  | some false => (s.eccMend (canKey d j o)).canEvt d j F.CAN_EVT_ECC_CORR
  | some true =>
    if o < 0x0700 then s
    else if o < 0x3680 then s.canRxBad d j o
    else
      let b := (o - 0x3680) / 76
      if s.bit d F.CAN_TX_PEND b j && decide (4 ≤ (o - 0x3680) % 76) then (s.canUncorr d j b).canDrop d j b else s

/-- An error has arisen at a key: the message RAMs of a running die's controllers handle theirs (R306). -/
def canUpset (s : State) (k : Nat) : State :=
  let off := (k - 0x40000000) % 0x1000000 / 4 * 4
  let d : Fin 8 := ⟨(k - 0x40000000) / 0x1000000 % 8, Nat.mod_lt _ (by decide)⟩
  if k < 0x40000000 ∨ off < 0x0D0100 ∨ 0x0D8000 ≤ off then s
  else if off < 0x0D4000 then s.canUpsetAt d 0 (off - 0x0D0000)
  else if 0x0D4100 ≤ off then s.canUpsetAt d 1 (off - 0x0D4000)
  else s

/-! ## Filters and reception (R296 to R298) -/

/-- Filter element `e` matches a frame (R296). -/
def canMatches (s : State) (d : Fin 8) (j : Fin 2) (id : Nat) (ext remote : Bool) (e : Nat) : Bool :=
  let w := s.canWord d j (0x0100 + 12 * e)
  let a := s.canWord d j (0x0104 + 12 * e) % 2 ^ 29
  let b := s.canWord d j (0x0108 + 12 * e) % 2 ^ 29
  let form := w % 4
  let dest := bitsOf w 4 3
  let hit := if dest = 3 then id == a
    else if form = 1 then decide (a ≤ id) && decide (id ≤ b)
    else if form = 2 then id == a || id == b
    else decide ((id ^^^ a) &&& b = 0)
  !s.isRetired d 1 0x0D (128 * j.val + e) && !s.canBad d j (0x0100 + 12 * e) 12 && (bitOf w 2 == ext) && (!remote || bitOf w 3) && decide (form ≠ 0) &&
    decide (dest ≤ 3) && hit

/-- The first matching element below NFLT. -/
def canFilter (s : State) (d : Fin 8) (j : Fin 2) (id : Nat) (ext remote : Bool) : Option Nat :=
  (List.range (min 128 (s.rd d F.CAN_SIEVE_NFLT j))).find? (fun e => s.canMatches d j id ext remote e)

/-- The filter elements with an uncorrectable error that a frame is held against before it matches: each matches nothing for it and
counts a cell fault (R306, R459). -/
def canFilterErrs (s : State) (d : Fin 8) (j : Fin 2) (last : Option Nat) : State :=
  (List.range (min 128 (s.rd d F.CAN_SIEVE_NFLT j))).foldl (fun (s : State) (e : Nat) =>
    if s.canBad d j (0x0100 + 12 * e) 12 && !s.isRetired d 1 0x0D (128 * j.val + e) && (last.all (fun m => decide (e < m))) then
      (s.canEvt d j F.CAN_EVT_ECC_UNCORR).fault d 1 0x0D (128 * j.val + e) 0x1009 [j.val, e]
    else s) s

/-- The bytes of a message written in whole words keep what stands beyond NBYTES (R297). -/
def canStore (s : State) (d : Fin 8) (j : Fin 2) (off : Nat) (f : CanFrame) (sieve : Nat) (unmatched : Bool) : State :=
  let w1 := f.id % 2 ^ 29 + b2n f.ext * 2 ^ 29 + b2n f.remote * 2 ^ 30
  let w2 := f.dlc.val + b2n f.fd * 16 + b2n f.brs * 32 + b2n f.esi * 64 + sieve * 256 + b2n unmatched * 32768 +
    min 64 f.data.length * 65536
  let s := ((s.setMword (canKey d j off) f.sof).setMword (canKey d j (off + 4)) (BitVec.ofNat 32 w1)).setMword
    (canKey d j (off + 8)) (BitVec.ofNat 32 w2)
  s.setBytes (canKey d j (off + 12)) (f.data.take 64)

/-- A frame for a receive queue (R297). -/
def canQueue (s : State) (d : Fin 8) (j : Fin 2) (q : Nat) (f : CanFrame) (sieve : Nat) (unmatched : Bool) : State :=
  let new := if q = 0 then F.CAN_EVT_Q0_NEW else F.CAN_EVT_Q1_NEW
  let level := if q = 0 then F.CAN_EVT_Q0_LEVEL else F.CAN_EVT_Q1_LEVEL
  let lost := if q = 0 then F.CAN_EVT_Q0_LOST else F.CAN_EVT_Q1_LOST
  let fill := s.rd d F.CAN_Q_STAT_FILL j q
  let head := s.rd d F.CAN_Q_STAT_HEAD j q
  let put (s : State) : State :=
    ((s.canStore d j (canQ q head) f sieve unmatched).wr d F.CAN_Q_STAT_HEAD ((head + 1) % 64) j q).canEvt d j new
  if fill < 64 then
    let s := ((put s).wr d F.CAN_Q_STAT_FILL (fill + 1) j q).wrB d F.CAN_Q_STAT_FULL (decide (fill + 1 = 64)) j q
    if fill + 1 = s.rd d F.CAN_Q_CFG_LEVEL j q then s.canEvt d j level else s
  else
    let s := (s.satCnt d F.CAN_Q_STAT_LOST j q).canEvt d j lost
    if s.on d F.CAN_Q_CFG_KEEP_NEW j q then
      (put s).wr d F.CAN_Q_STAT_TAIL ((s.rd d F.CAN_Q_STAT_TAIL j q + 1) % 64) j q
    else s

/-- A frame for a dedicated buffer (R298). -/
def canSlot (s : State) (d : Fin 8) (j : Fin 2) (slot : Nat) (f : CanFrame) (sieve : Nat) : State :=
  let s := if s.bit d F.CAN_SLOT_NEW slot j then s.canEvt d j F.CAN_EVT_SLOT_OVR else s
  ((s.canStore d j (canRx slot) f sieve false).setBit d F.CAN_SLOT_NEW slot j).canEvt d j F.CAN_EVT_SLOT_NEW

/-- A frame filtered and stored, or discarded (R296). -/
def canFiltered (s : State) (d : Fin 8) (j : Fin 2) (f : CanFrame) : State :=
  if f.remote && s.on d F.CAN_SIEVE_NO_REMOTE j then s
  else
    let hit := s.canFilter d j f.id f.ext f.remote
    let s := s.canFilterErrs d j hit
    match hit with
    | some e =>
      let w := s.canWord d j (0x0100 + 12 * e)
      match bitsOf w 4 3 with
      | 1 => s.canQueue d j 0 f e false
      | 2 => s.canQueue d j 1 f e false
      | 3 => s.canSlot d j (bitsOf w 8 5) f e
      | _ => s
    | none =>
      match s.rd d F.CAN_SIEVE_UNMATCHED j with
      | 1 => s.canQueue d j 0 f 0x7F true
      | 2 => s.canQueue d j 1 f 0x7F true
      | _ => s

/-! ## Bit-rate detection (R304) -/

/-- Detection runs. -/
def abdBusy (s : State) (d : Fin 8) (j : Fin 2) : Bool :=
  s.on d F.CAN_ABD_STAT_BUSY j && s.on d F.CAN_CTRL_INIT j && s.on d F.CAN_CTRL_LISTEN j

/-- The next candidate; after the last one a new pass or the end. -/
def abdNext (s : State) (d : Fin 8) (j : Fin 2) : State :=
  let s := s.updCan d j (fun c => { c with good := 0 })
  let i := s.rd d F.CAN_ABD_STAT_INDEX j
  if i < s.rd d F.CAN_ABD_CTRL_NCAND j then s.wr d F.CAN_ABD_STAT_INDEX (i + 1) j
  else
    let s := s.satCnt d F.CAN_ABD_STAT_PASSES j
    if s.on d F.CAN_ABD_CTRL_LOOP j then s.wr d F.CAN_ABD_STAT_INDEX 0 j
    else (s.wr d F.CAN_ABD_STAT_BUSY 0 j).canEvt d j F.CAN_EVT_ABD_FAIL

/-- Address of word `w` of candidate `i`. -/
def candAddr (d : Fin 8) (j : Fin 2) (i w : Nat) : Nat := regAddr d (0x0D00A0 + 0x4000 * j.val + 8 * i + 4 * w)

/-- A frame whose CRC checks, heard during detection. -/
def abdGood (s : State) (d : Fin 8) (j : Fin 2) : State :=
  let n := (s.canC d j).good + 1
  if n < max 2 (s.rd d F.CAN_ABD_CTRL_NGOOD j) then s.updCan d j (fun c => { c with good := n })
  else
    let i := s.rd d F.CAN_ABD_STAT_INDEX j
    let nom := s.word (candAddr d j i 0) &&& 0x1F7F7FFF
    let dat := s.word (candAddr d j i 1) &&& 0x1F0F0F1F
    let s := (s.setWord (fldAddr d F.CAN_TIM_NOM_TSEG1 j 0) nom).setWord (fldAddr d F.CAN_TIM_DATA_DTSEG1 j 0) dat
    let s := (s.wr d F.CAN_ABD_STAT_FOUND 1 j).wr d F.CAN_ABD_STAT_BUSY 0 j
    (s.updCan d j (fun c => { c with good := 0 })).canEvt d j F.CAN_EVT_ABD_DONE

/-- CAN_ABD_START. -/
def abdStart (s : State) (d : Fin 8) (j : Fin 2) : State :=
  if s.canUsed d j && s.on d F.CAN_CTRL_INIT j && s.on d F.CAN_CTRL_LISTEN j then
    (((s.wr d F.CAN_ABD_STAT_BUSY 1 j).wr d F.CAN_ABD_STAT_INDEX 0 j).wr d F.CAN_ABD_STAT_FOUND 0 j).updCan d j
      (fun c => { c with good := 0 })
  else s

/-! ## Frames and errors on the bus (R296, R303, R304) -/

/-- CAN_FRAME_RECEIVE. -/
def canReceive (s : State) (d : Fin 8) (j : Fin 2) (f : CanFrame) : State :=
  if s.abdBusy d j then s.abdGood d j
  else if !s.canOnBus d j then s
  else
    let s := if s.canListens d j then s else s.canRxGood d j
    let s := s.updCan d j (fun c => { c with run := match c.run with
      | some (id, ext, pos, n) => if id = f.id ∧ ext = f.ext then none else some (id, ext, pos, n)
      | none => none })
    s.canFiltered d j f

/-- A receiver clash reported (R303). -/
def canClashRx (s : State) (d : Fin 8) (j : Fin 2) (id : Nat) (ext : Bool) (pos : Nat) : State :=
  let e := (s.canFilter d j id ext false).getD 0x7F
  let s := (s.wr d F.CAN_CLASH_RX_ELEM e j).wr d F.CAN_CLASH_RX_POS pos j
  let s := ((s.wr d F.CAN_CLASH_RXID_ID id j).wrB d F.CAN_CLASH_RXID_XTD ext j).canEvt d j F.CAN_EVT_CLASH_RX
  s.info d 0x0011 0x0D j.val [id, pos]

/-- CAN_BUS_ERROR: after a CRC that checked, detection counts the frame as good whatever follows it (R304). -/
def canBusError (s : State) (d : Fin 8) (j : Fin 2) (id : Nat) (ext : Bool) (pos code : Nat) (place : CanErrAt) : State :=
  if s.abdBusy d j then (if place = .afterCrc then s.abdGood d j else s.abdNext d j)
  else if !s.canOnBus d j then s
  else
    let s := s.canErrCode d j code (place == .data)
    let s := if s.canListens d j then s else s.canRxError d j
    let n := match (s.canC d j).run with
      | some (i, e, p, n) => if i = id ∧ e = ext ∧ p = pos then n + 1 else 1
      | none => 1
    if n < max 2 (s.rd d F.CAN_SIEVE_CLASH_N j) then s.updCan d j (fun c => { c with run := some (id, ext, pos, n) })
    else (s.updCan d j (fun c => { c with run := none })).canClashRx d j id ext pos

/-- CAN_ABD_DWELL_EXPIRY. -/
def abdDwell (s : State) (d : Fin 8) (j : Fin 2) : State := if s.abdBusy d j then s.abdNext d j else s

/-- CAN_QUEUE_RELEASE; a LAST that names no held element frees nothing (log entry 59). -/
def canRelease (s : State) (d : Fin 8) (j : Fin 2) (q last : Nat) : State :=
  let tail := s.rd d F.CAN_Q_STAT_TAIL j q
  let fill := s.rd d F.CAN_Q_STAT_FILL j q
  let n := (last + 64 - tail) % 64 + 1
  if fill < n then s
  else ((s.wr d F.CAN_Q_STAT_FILL (fill - n) j q).wr d F.CAN_Q_STAT_FULL 0 j q).wr d F.CAN_Q_STAT_TAIL ((last + 1) % 64) j q

/-! ## Transmission (R299, R300, R302, R305) -/

/-- One buffer requested (R299, R306, R307). -/
def canRequestOne (s : State) (d : Fin 8) (j : Fin 2) (b : Nat) : State :=
  if s.bit d F.CAN_TX_PEND b j then s
  else if bitOf (s.canWord d j (canTx b + 8)) 4 && !s.on d F.CAN_CTRL_FD_EN j then s.canDrop d j b
  else if s.canBad d j (canTx b + 4) 72 then (s.canUncorr d j b).canDrop d j b
  else
    let s := (s.setBit d F.CAN_TX_PEND b j).canForget d j b
    if s.outEn then s else s.canEvt d j F.CAN_EVT_TX_NOCLAIM

/-- CAN_TX_REQUEST. -/
def canRequest (s : State) (d : Fin 8) (j : Fin 2) (mask : Nat) : State :=
  if !s.canUsed d j then s
  else (List.range 32).foldl (fun (s : State) (b : Nat) => if bitOf mask b then s.canRequestOne d j b else s) s

/-- CAN_TX_ABORT. -/
def canAbort (s : State) (d : Fin 8) (j : Fin 2) (mask : Nat) : State :=
  (List.range 32).foldl (fun (s : State) (b : Nat) =>
    if bitOf mask b then (s.clrBit d F.CAN_TX_PEND b j).canForget d j b else s) s

/-- Arbitration rank of a transmit buffer: the 11 most significant identifier bits, standard before extended, the rest (R299). -/
def canRank (s : State) (d : Fin 8) (j : Fin 2) (b : Nat) : Nat :=
  let w := s.canWord d j (canTx b + 4)
  let id := w % 2 ^ 29
  if bitOf w 29 then (id / 2 ^ 18) * 2 ^ 19 + 2 ^ 18 + id % 2 ^ 18 else (id % 2 ^ 11) * 2 ^ 19

/-- The buffer that enters arbitration (R299). -/
def canWinner (s : State) (d : Fin 8) (j : Fin 2) : Option Nat :=
  ((List.range 32).filter (fun b => s.bit d F.CAN_TX_PEND b j)).foldl (fun (a : Option Nat) (b : Nat) =>
    match a with
    | none => some b
    | some x => if s.canRank d j b < s.canRank d j x then some b else some x) none

/-- The attempts of a frame classed as a clash (R302). -/
def tryClash (t : CanTry) : Bool := decide (2 ≤ t.tries) && t.clash

/-- A failed attempt of a buffer: retried, or dropped at the limit, with its clash reported (R300, R302). `bit` is the position
of a bit error after arbitration that sent recessive and read dominant. -/
def canFailed (s : State) (d : Fin 8) (j : Fin 2) (b : Nat) (bit : Option Nat) : State :=
  let old := ((s.canC d j).tries.find? (fun e => e.1 == b)).map (·.2)
  let t : CanTry := match old with
    | none => { tries := 1, pos := bit, clash := bit.isSome }
    | some t => { t with tries := t.tries + 1, clash := t.clash && bit.isSome && t.pos == bit }
  if t.tries ≤ s.rd d F.CAN_CTRL_RETRY j then
    s.updCan d j (fun c => { c with tries := c.tries.filter (fun e => e.1 != b) ++ [(b, t)] })
  else
    let w := s.canWord d j (canTx b + 4)
    let s := s.canDrop d j b
    if tryClash t then
      let s := (s.wr d F.CAN_CLASH_TX_ID (w % 2 ^ 29) j).wrB d F.CAN_CLASH_TX_XTD (bitOf w 29) j
      (s.canEvt d j F.CAN_EVT_CLASH_TX).info d 0x0011 0x0D j.val [w % 2 ^ 29, t.pos.getD 0]
    else s

/-- The counters after an attempt (R301). -/
def canCount (s : State) (d : Fin 8) (j : Fin 2) (e : CanTxEnd) : State :=
  match e with
  | .success _ => (s.wr d F.CAN_STAT_TEC (s.rd d F.CAN_STAT_TEC j - 1) j).canConfine d j
  | .lostArbitration => s
  | .bitError _ _ rec dp => (s.canErrCode d j (if rec then 1 else 2) dp).canTxError d j
  | .otherError code dp => (s.canErrCode d j code.val dp).canTxError d j

/-- The frame of a buffer after an attempt. -/
def canBuffer (s : State) (d : Fin 8) (j : Fin 2) (b : Nat) (e : CanTxEnd) : State :=
  match e with
  | .success sof =>
    let s := (s.setMword (canKey d j (canTx b)) sof).clrBit d F.CAN_TX_PEND b j
    ((s.setBit d F.CAN_TX_SENT b j).canEvt d j F.CAN_EVT_TX_SENT).canForget d j b
  | .bitError pos after rec _ => s.canFailed d j b (if after && rec then some pos else none)
  | _ => s.canFailed d j b none

/-- The reference message after an attempt: it retries without limit (R305, R307). -/
def canReference (s : State) (d : Fin 8) (j : Fin 2) (e : CanTxEnd) : State :=
  match e with
  | .success sof =>
    let s := (s.wr d F.CAN_REF_CFG_CYCLE ((s.rd d F.CAN_REF_CFG_CYCLE j + 1) % 64) j).wr d F.CAN_REF_TS sof.toNat j
    s.updCan d j (fun c => { c with refDue := false })
  | _ => s

/-- CAN_TX_ATTEMPT_END: of the reference message, else of the buffer in arbitration. -/
def canAttempt (s : State) (d : Fin 8) (j : Fin 2) (e : CanTxEnd) : State :=
  if !s.canOnBus d j || s.canListens d j then s
  else if (s.canC d j).refDue then (s.canReference d j e).canCount d j e
  else
    match s.canWinner d j with
    | none => s
    | some b => (s.canBuffer d j b e).canCount d j e

/-- CAN_REFERENCE_DUE. -/
def canRefDue (s : State) (d : Fin 8) (j : Fin 2) : State :=
  if !s.canUsed d j || !s.on d F.CAN_REF_CFG_EN j then s
  else
    let s := if (s.canC d j).refDue then s.canEvt d j F.CAN_EVT_REF_MISS else s
    let own := s.outEn
    s.updCan d j (fun c => { c with refDue := own })

end Sys2Proof.Machine.State

namespace Sys2Proof.Machine

/-- CAN_INIT_CLEAR (R294, R301). -/
def execCanInitClear (d : Die) (j : Fin 2) (s : State) : Host.Outcome State Fault Refusal := .next (s.canInitClear d j)

/-- CAN_FRAME_RECEIVE (R296 to R298, R304). -/
def execCanFrameReceive (d : Die) (j : Fin 2) (f : CanFrame) (s : State) : Host.Outcome State Fault Refusal :=
  .next (s.canReceive d j f)

/-- CAN_TX_REQUEST (R299). -/
def execCanTxRequest (d : Die) (j : Fin 2) (mask : Word) (s : State) : Host.Outcome State Fault Refusal :=
  .next (s.canRequest d j mask.toNat)

/-- CAN_TX_ATTEMPT_END (R300, R302). -/
def execCanTxAttemptEnd (d : Die) (j : Fin 2) (e : CanTxEnd) (s : State) : Host.Outcome State Fault Refusal :=
  .next (s.canAttempt d j e)

/-- CAN_BUS_OFF_RECOVERY (R301). -/
def execCanBusOffRecovery (d : Die) (j : Fin 2) (s : State) : Host.Outcome State Fault Refusal := .next (s.canRecover d j)

/-- CAN_TX_ABORT (R299). -/
def execCanTxAbort (d : Die) (j : Fin 2) (mask : Word) (s : State) : Host.Outcome State Fault Refusal :=
  .next (s.canAbort d j mask.toNat)

/-- CAN_BUS_ERROR (R303, R304). -/
def execCanBusError (d : Die) (j : Fin 2) (id : Nat) (ext : Bool) (pos : Nat) (code : Fin 8) (place : CanErrAt)
    (s : State) : Host.Outcome State Fault Refusal := .next (s.canBusError d j id ext pos code.val place)

/-- CAN_QUEUE_RELEASE (R297). -/
def execCanQueueRelease (d : Die) (j : Fin 2) (q : Fin 2) (last : Fin 64) (s : State) : Host.Outcome State Fault Refusal :=
  .next (s.canRelease d j q.val last.val)

/-- CAN_ABD_START (R304). -/
def execCanAbdStart (d : Die) (j : Fin 2) (s : State) : Host.Outcome State Fault Refusal := .next (s.abdStart d j)

/-- CAN_ABD_DWELL_EXPIRY (R304). -/
def execCanAbdDwellExpiry (d : Die) (j : Fin 2) (s : State) : Host.Outcome State Fault Refusal := .next (s.abdDwell d j)

/-- CAN_REFERENCE_DUE (R305). -/
def execCanReferenceDue (d : Die) (j : Fin 2) (s : State) : Host.Outcome State Fault Refusal := .next (s.canRefDue d j)

end Sys2Proof.Machine
end

