-- ==== Sys2Proof/Machine/Cooling.lean ====
section
/-!
DEFINITION. Coolant loop, thermal model and copper thermometry (R263 to R276). C5's program is part of the LOOP image; its
effect is modelled whole at each of its activations (log entries 55, 57).
-/

namespace Sys2Proof.Machine.State

/-! ## C5's window (R276) -/

/-- Index of a word of C5's window. -/
def coolIdx (s : State) (d : Fin 8) (off : Nat) : Nat := (s.rd d F.OXE_CTX_DWIN_DBASE 5 + off) % 2048

/-- A word of C5's window. -/
def cw (s : State) (d : Fin 8) (off : Nat) : Int := s.dataGet d (s.coolIdx d off)

/-- A word of C5's window written. -/
def cwSet (s : State) (d : Fin 8) (off : Nat) (x : Int) : State := s.dataSet d (s.coolIdx d off) x

/-- The window holds all its words (R194, R276). -/
def coolFits (s : State) (d : Fin 8) : Bool :=
  decide (0x49 ≤ s.rd d F.OXE_CTX_DWIN_DSIZE 5) && decide (s.rd d F.OXE_CTX_DWIN_DBASE 5 + 0x49 ≤ 2048)

/-- Code of a cell's sample as C5 loads it (R140). -/
def loaded (s : State) (d : Fin 8) (c : Nat) : Int := sext 16 (s.sample d c).toNat

/-- C5 of a die runs: started, enabled, not faulted, triggered by the timer (R168). -/
def c5Runs (s : State) (d : Fin 8) : Bool :=
  decide (s.pkg.die.get d = .running) && (s.oxe.get d).started && decide (s.ctxSt d 5 ≠ 0) && decide (s.ctxSt d 5 ≠ 6) &&
    decide (s.rd d F.OXE_CTX_TRIG_SRC 5 = 4) && s.coolFits d

/-- Thermometry of a port changed. -/
def updCopper (s : State) (d : Fin 8) (k : Fin 4) (f : Copper → Copper) : State :=
  { s with cool := upd s.cool d (fun c => { c with port := upd c.port k f }) }

/-- Thermometry of a port. -/
def copper (s : State) (d : Fin 8) (k : Fin 4) : Copper := (s.cool.get d).port.get k

/-- The defaults of the window, loaded with the LOOP image (R276; log entry 54). -/
def coolDefaults (s : State) (d : Fin 8) : State :=
  let s := (List.finRange 4).foldl (fun (s : State) (k : Fin 4) =>
    let o := 16 * k.val
    ((((s.cwSet d (o + 3) 2500).cwSet d (o + 4) 90000).cwSet d (o + 5) 9000).cwSet d (o + 6) 16384).cwSet d (o + 7)
      (Int.ofNat ((s.cfg d k).iRated * 200))) s
  (((((((s.cwSet d 0x42 3000).cwSet d 0x43 5000).cwSet d 0x44 7000).cwSet d 0x45 3500).cwSet d 0x46 800).cwSet d 0x47 6000).cwSet d
    0x48 600000)

/-! ## One activation (R265, R271, R272) -/

/-- The port stands between CABLE_CHECK and WELD_CHECK (R265). -/
def portEnergised (s : State) (d : Fin 8) (k : Fin 4) : Bool := decide (3 ≤ s.psState d k) && decide (s.psState d k ≤ 7)

/-- The sense pair is fitted and neither cell is retired (R263, R273; log entry 57). -/
def pairFitted (s : State) (d : Fin 8) (k : Fin 4) : Bool :=
  let good (c : Nat) : Bool := s.on d F.ADC_CELL_EN c && !s.isRetired d 1 0x04 c
  good (16 * k.val) && good (16 * k.val + 1)

/-- The identity of the cable that the running set's configuration names for a port (R269; log entry 57). -/
def cableNow (s : State) (d : Fin 8) (k : Fin 4) : Word :=
  Config.cableId (s.image 0 (s.rd 0 F.LCS_BOOT_SET_BANK) 5) (portOf d k).val

/-- The port runs the fallback (R269, R273). -/
def inFallback (s : State) (d : Fin 8) (k : Fin 4) : Bool :=
  let c := s.copper d k
  c.fallback || c.senseBad || c.ref.isNone || decide (s.cw d (16 * k.val + 2) = 0) || !s.pairFitted d k ||
    decide (c.refCable ≠ s.cableNow d k)

/-- One of R267's conditions keeps the injection of a port suspended: outside CHARGING, an override, the selected value above
0.99 × DERATE, or the mean current below I_MEAS_MIN. -/
def injBlocked (s : State) (d : Fin 8) (k : Fin 4) : Bool :=
  decide (s.psState d k ≠ 5) || s.on d F.OXE_PORT_OVR_ACTIVE k ||
    decide (99 * Int.ofNat (s.rd d F.OXE_PORT_DERATE k) < 100 * s.dataGet d (Config.selWord (portOf d k).val % 2048)) ||
    decide (Int.ofNat (s.copper d k).mean < s.cw d 0x48)

/-- The port program holds DEPTH at 0 (R267, R273). -/
def injSuspends (s : State) (d : Fin 8) (k : Fin 4) : Bool := s.injBlocked d k || s.inFallback d k

/-- DEPTH of a port's program, in percent (R266). -/
def depthOf (s : State) (d : Fin 8) (k : Fin 4) : Int := s.coefTimes d 100 (Config.depthEntry (portOf d k).val % 4096)

/-- A port activation's part at a grid edge: a suspension is recorded in INJ_OFF (R267). A fallback for want of accepted results ends
with the CHARGING it arose in (log entry 57). -/
def copperEdge (s : State) (d : Fin 8) (k : Fin 4) : State :=
  let off := s.injSuspends d k
  s.updCopper d k (fun c => { c with injOff := c.injOff || off, fallback := c.fallback && decide (s.psState d k = 5) })

/-- Mean shunt current of the activation, mA (R271). -/
def meanMa (s : State) (d : Fin 8) (k : Fin 4) : Int :=
  let c := s.copper d k
  let sc : Int := Int.ofNat (s.meter.params.get (portOf d k)).iscale
  if c.iN = 0 then Config.divOpen 271 (Int.ofNat (s.loaded d (16 * k.val + 2)).natAbs * sc) 1000000
  else Config.divOpen 271 (Int.ofNat c.iSum.natAbs * sc) (1000000 * Int.ofNat c.iN)

/-- One 1 ms step of the model, in 2^-32 of 0.01 °C: estimate, current in mA, R20 in nΩ, R_TH in quarter µK/W, TAU in ms, sum of
inlet and outlet in 0.01 °C. What lies below that step is rounded in a way the spec does not state (log entry 57). -/
def modelStep (x i r20 rth4 tau tio : Int) : Int :=
  let one : Int := 2 ^ 32
  let g := 10 ^ 7 * one + 393 * (x - 2000 * one)
  x + Config.divOpen 271 (i * i * r20 * rth4 * g - 4 * 10 ^ 26 * (x - tio * 2 ^ 31)) (4 * 10 ^ 26 * max 1 tau)

/-- The thermal model of a port (R271). -/
def modelPort (s : State) (d : Fin 8) (k : Fin 4) : State :=
  let o := 16 * k.val
  let c := s.copper d k
  let one : Int := 2 ^ 32
  let tout := s.loaded d (o + 7)
  let fb := s.inFallback d k
  let mean := s.meanMa d k
  let x0 := if c.warm then s.cw d (o + 8) * one + c.tFrac else tout * one
  let x1 := modelStep x0 mean (s.cw d (o + 2)) (s.cw d (o + 3) * (if fb then 5 else 4)) (s.cw d (o + 4))
    (s.loaded d (o + 6) + tout)
  let seq := s.cw d (o + 1)
  let x2 := if seq ≠ c.seqSeen ∧ !fb then x1 + rhuShift (s.cw d (o + 6) * (s.cw d o - rhu x1 one)) 16 * one else x1
  let x3 := max x2 (tout * one)
  let w := rhu x3 one
  (s.cwSet d (o + 8) w).updCopper d k (fun c =>
    { c with warm := true, tFrac := x3 - w * one, seqSeen := seq, iSum := 0, iN := 0, mean := mean.toNat })

/-- The limit of a loss of cooling falls by 10 % of the rating per second to I_NOCOOL; a lower one stands (R265, R275). -/
def capStep (cap rating nocool : Nat) : Nat := if cap ≤ nocool * 10000 then cap else max (nocool * 10000) (cap - rating)

/-- Candidate 2 of a port (R272). -/
def copperLoop (s : State) (d : Fin 8) (k : Fin 4) : State :=
  let o := 16 * k.val
  let p := (portOf d k).val
  let rating := (s.cfg d k).iRated * 1000
  let dst := (s.rd d F.OXE_CTX_DWIN_DBASE k + 3) % 2048
  let fb := s.inFallback d k
  let s := s.cwSet d (o + 10) (if fb then 1 else if (s.cool.get d).loss then 2 else 0)
  let s := s.updCopper d k (fun c => { c with cap := c.cap.map (fun x => capStep x rating (s.cw d (o + 7)).toNat) })
  if s.sampleInv d (o + 2) || s.sampleInv d (o + 6) || s.sampleInv d (o + 7) then s
  else
    let margin := s.cw d (o + 5) - s.cw d (o + 8)
    let int := s.cw d (o + 9)
    let lim := clampI 0 (Int.ofNat rating) (Config.cuProp p margin + int)
    let lim := match (s.copper d k).cap with
      | some c => min lim (Config.divOpen 265 (Int.ofNat c) 10000)
      | none => lim
    let step := if s.rd d F.OXE_PORT_WIN_WIN k = 2 then Config.cuInt p margin
      else Config.cuTrack p (s.dataGet d (Config.selWord p % 2048) - lim)
    (s.cwSet d (o + 9) (sat32 (int + step))).dataSet d dst lim

/-- Pump duty in 0.01 %: its base, rising to 100 % with the hottest estimate (R265). -/
def pumpDuty (s : State) (d : Fin 8) : Int :=
  if (s.cool.get d).loss then 10000
  else
    let base : Int := if (s.cool.get d).idle then 0 else s.cw d 0x42
    let hot := (List.finRange 4).foldl (fun (a : Int) (k : Fin 4) => max a (s.cw d (16 * k.val + 8))) (s.cw d 8)
    let lo := s.cw d 0x43
    let hi := s.cw d 0x44
    if hot ≤ lo then base else if hi ≤ hot then 10000 else base + rhu ((10000 - base) * (hot - lo)) (hi - lo)

/-- C5's activation: models, candidate 2, pump, fan. -/
def c5Step (s : State) (d : Fin 8) : State :=
  let s := s.onPorts (fun s k => (s.modelPort d k).copperLoop d k)
  let busy := (List.finRange 4).any (fun k => s.portEnergised d k)
  let s := if busy then { s with cool := upd s.cool d (fun c => { c with idle := false }) } else s
  let s := s.cwSet d 0x40 (s.pumpDuty d)
  let inlet := rhu (sumI ((List.finRange 4).map (fun k => s.loaded d (16 * k.val + 6)))) 4
  let err := inlet - s.cw d 0x45
  let i := (s.cool.get d).fanInt + Config.fanInt err
  let s := { s with cool := upd s.cool d (fun c => { c with fanInt := i }) }
  s.cwSet d 0x41 (clampI 0 10000 (Config.fanProp err + i))

/-- A timer event at C5: its activation, taken whole, unless an access of it faults (R169, R190, R194; log entry 55). How many cycles it
takes is left open, within its budget. -/
def c5Fire (s : State) (d : Fin 8) : State :=
  let x := s.trigWhole d 5 4
  if x.1 = false then x.2
  else if !x.2.coolFits d then x.2.ctxFault d 5 4
  else
    let t := x.2.eccMeet d 5 (x.2.eccWindow d 5 0x49)
    if t.ctxSt d 5 = 6 then t
    else
      let f := t.freeWord
      (f.2.c5Step d).setCyc d 5 (f.1.toNat % (t.rd d F.OXE_CTX_CFG_BUDGET 5 + 1))

/-- The timer of a context reaches an event at edge `e` after the start (R168, R169). -/
def timerHits (s : State) (d n : Fin 8) (e : Nat) : Bool :=
  decide (s.rd d F.OXE_CTX_TIMER_OFFSET n ≤ e) &&
    decide ((e - s.rd d F.OXE_CTX_TIMER_OFFSET n) % max 1 (s.rd d F.OXE_CTX_TIMER_PERIOD n) = 0)

/-- A grid edge at a die whose contexts have started: the timers of its contexts (R168, R169). -/
def timerEdge (s : State) (d : Fin 8) : State :=
  if !(s.oxe.get d).started then s
  else
    let e := (s.oxe.get d).edges
    let s := s.updOxe d (fun o => { o with edges := o.edges + 1 })
    (List.finRange 8).foldl (fun (s : State) (n : Fin 8) =>
      if !s.timerHits d n e then s else if n = 5 then s.c5Fire d else s.trigEvent d n 4) s

/-! ## Rows of R265 -/

/-- The coolant pressure at one of the die's pressure cells in use lies below P_MIN or above P_MAX (R263, R265; log entry 57). -/
def pressureBad (s : State) (d : Fin 8) : Bool :=
  (List.finRange 4).any (fun k =>
    let c := 16 * k.val + 10
    s.on d F.ADC_CELL_EN c && !s.on d F.ADC_CELL_RETIRED c && !s.sampleInv d c &&
      (decide (s.loaded d c < s.cw d 0x46) || decide (s.cw d 0x47 < s.loaded d c)))

/-- COOLING_LOSS: the pressure has been out of range for 1 s. -/
def coolLoss (s : State) (d : Fin 8) : State :=
  if !s.c5Runs d || (s.cool.get d).loss || !s.pressureBad d then s
  else
    let s := s.onPorts (fun s k =>
      let lim := (s.dataGet d ((s.rd d F.OXE_CTX_DWIN_DBASE k + 3) % 2048)).toNat
      (s.updCopper d k (fun c => { c with cap := some (lim * 10000) })).cwSet d (16 * k.val + 10) (if s.inFallback d k then 1 else 2))
    let s := ({ s with cool := upd s.cool d (fun c => { c with loss := true }) }).cwSet d 0x40 10000
    (s.evtPush d 5 false 0x501).evtPush d 5 true 0x501

/-- COOLING_RESTORE: the pressure has been within range for 10 s. -/
def coolRestore (s : State) (d : Fin 8) : State :=
  if !s.c5Runs d || s.pressureBad d then s
  else
    let s := s.onPorts (fun s k => s.updCopper d k (fun c => { c with cap := none }))
    { s with cool := upd s.cool d (fun c => { c with loss := false }) }

/-- PUMP_IDLE_TIMEOUT. -/
def pumpIdle (s : State) (d : Fin 8) : State :=
  if !s.c5Runs d || (List.finRange 4).any (fun k => s.portEnergised d k) then s
  else
    let s := { s with cool := upd s.cool d (fun c => { c with idle := true }) }
    s.cwSet d 0x40 (s.pumpDuty d)

/-! ## Thermometry by HOST (R268 to R273) -/

/-- The two bins of a port: the drop's and the current's (R266). -/
def binV (k : Fin 4) : Fin 8 := ⟨2 * k.val, by omega⟩
def binI (k : Fin 4) : Fin 8 := ⟨2 * k.val + 1, by omega⟩

/-- Sums and N of a correlator bin as a read of its five words gives them (R183). -/
def binResult (s : State) (d b : Fin 8) : Int × Int × Nat :=
  let c := s.corShown d b
  (c.1.toInt, c.2.1.toInt, c.2.2)

/-- t_meas in 0.01 °C of a port's bins, kv in pV and ki in pA per code, R20 in nΩ; none where a divisor is 0 (R268). -/
def tMeas (s : State) (d : Fin 8) (k : Fin 4) (kv ki : Nat) : Option Int :=
  let v := s.binResult d (binV k)
  let i := s.binResult d (binI k)
  let num := (v.1 * i.1 + v.2.1 * i.2.1) * Int.ofNat kv * 10 ^ 9
  let den := (i.1 * i.1 + i.2.1 * i.2.1) * Int.ofNat ki * s.cw d (16 * k.val + 2)
  if den ≤ 0 then none else some (2000 + Config.divOpen 268 ((num - den) * 10 ^ 7) (den * 393))

/-- The current amplitude lies within ±20 % of DEPTH × the mean current, DEPTH in percent, ki in pA per code (R266, R268). -/
def amplitudeOk (depth ii iq : Int) (n ki meanMa : Nat) : Bool :=
  let a : Int := 100 * Int.ofNat ki ^ 2 * (ii * ii + iq * iq)
  let b : Int := (depth * Int.ofNat meanMa * 10 ^ 7 * Int.ofNat n) ^ 2
  decide (0 < n) && decide (16 * b ≤ a) && decide (a ≤ 36 * b)

/-- A rejected result: counted, and after five whose conditions were met SENSE_BAD with an event against the sense pair
(R268; log entry 57). -/
def copperReject (s : State) (d : Fin 8) (k : Fin 4) (met : Bool) : State :=
  let o := 16 * k.val
  let s := s.cwSet d (o + 11) (s.cw d (o + 11) + 1)
  let n := (s.copper d k).rejects + 1
  if !met then s
  else if n < 5 then s.updCopper d k (fun c => { c with rejects := n })
  else
    let bad := (s.copper d k).senseBad
    let s := s.updCopper d k (fun c => { c with rejects := 0, senseBad := true })
    if bad then s else s.fault d 1 0x04 o 0x1002 [(portOf d k).val]

/-- HOST reads both bins of a port, which latches them, and takes note of INJ_OFF for the second that has ended (R183, R268). -/
def copperRead (s : State) (d : Fin 8) (k : Fin 4) : State :=
  ((s.corLatch d (binV k)).corLatch d (binI k)).updCopper d k (fun c => { c with skip := false, injOff := false })

/-- The conditions of R268 on a result of a port, its t_meas among them. -/
def copperOk (s : State) (d : Fin 8) (k : Fin 4) (ki : Nat) (t : Int) : Bool :=
  let o := 16 * k.val
  let v := s.binResult d (binV k)
  let i := s.binResult d (binI k)
  let c := s.copper d k
  !c.skip && !c.injOff && !s.injSuspends d k && decide (v.2.2 = i.2.2) &&
    amplitudeOk (s.depthOf d k) i.1 i.2.1 i.2.2 ki c.mean &&
    decide (s.cellCode d (o + 7) - 500 ≤ t) && decide (t ≤ s.cw d (o + 8) + 3000)

/-- COPPER_RESULT, with kv in pV and ki in pA per code. -/
def copperResult (s : State) (d : Fin 8) (k : Fin 4) (kv ki : Nat) : State :=
  let o := 16 * k.val
  let met := !(s.copper d k).injOff && !s.injSuspends d k
  let r := s.copperRead d k
  match s.tMeas d k kv ki with
  | none => r.copperReject d k met
  | some t =>
    if s.copperOk d k ki t then
      ((r.cwSet d o t).cwSet d (o + 1) (s.cw d (o + 1) + 1)).updCopper d k (fun c => { c with rejects := 0, fallback := false })
    else r.copperReject d k met

/-- COPPER_REFERENCE in a commissioning session, DEPTH 0.10: 30 results in nΩ within 0.2 % and T0, which is C5's T_EST, give R20
(R269, R270; log entry 57). -/
def copperReference (s : State) (d : Fin 8) (k : Fin 4) (results : List Nat) : State :=
  let t0 := s.cw d (16 * k.val + 8)
  let sum := results.foldl (fun (a b : Nat) => a + b) 0
  let hi := results.foldl max 0
  let lo := results.foldl min hi
  let f := 10 ^ 7 + 393 * (t0 - 2000)
  if (s.lifeState = 1 ∨ s.lifeState = 2) ∧ s.psState d k = 5 ∧ s.depthOf d k = 10 ∧ results.length = 30 ∧
      (hi - lo) * 15000 ≤ sum ∧ 0 < f then
    let r0 := Config.divOpen 270 (Int.ofNat sum) 30
    let r20 := Config.divOpen 269 (Int.ofNat sum * 10 ^ 7) (30 * f)
    (s.updCopper d k (fun c => { c with ref := some (r0.toNat, r20.toNat, t0), refCable := s.cableNow d k })).cwSet d (16 * k.val + 2) r20
  else s

/-- THERMOMETRY_FALLBACK: 30 s of CHARGING with R267's conditions met and no result accepted. -/
def thermoFallback (s : State) (d : Fin 8) (k : Fin 4) : State :=
  if !s.injBlocked d k then (s.updCopper d k (fun c => { c with fallback := true })).cwSet d (16 * k.val + 10) 1 else s

end Sys2Proof.Machine.State

namespace Sys2Proof.Machine

/-- COOLING_LOSS (R265). -/
def execCoolingLoss (d : Die) (s : State) : Host.Outcome State Fault Refusal := .next (s.coolLoss d)

/-- COOLING_RESTORE (R265). -/
def execCoolingRestore (d : Die) (s : State) : Host.Outcome State Fault Refusal := .next (s.coolRestore d)

/-- PUMP_IDLE_TIMEOUT (R265). -/
def execPumpIdleTimeout (d : Die) (s : State) : Host.Outcome State Fault Refusal := .next (s.pumpIdle d)

/-- COPPER_RESULT (R268): kv in nV and pV per code, ki in nA and pA. -/
def execCopperResult (d : Die) (k : LPort) (kvNv : Nat) (kvPv : Fin 1000) (kiNa : Nat) (kiPa : Fin 1000) (s : State) :
    Host.Outcome State Fault Refusal := .next (s.copperResult d k (kvNv * 1000 + kvPv.val) (kiNa * 1000 + kiPa.val))

/-- COPPER_REFERENCE (R270). -/
def execCopperReference (d : Die) (k : LPort) (first : Nat) (rest : List Nat) (s : State) : Host.Outcome State Fault Refusal :=
  .next (s.copperReference d k (first :: rest))

/-- THERMOMETRY_FALLBACK (R273). -/
def execThermometryFallback (d : Die) (k : LPort) (s : State) : Host.Outcome State Fault Refusal := .next (s.thermoFallback d k)

end Sys2Proof.Machine
end

