-- ==== Sys2Proof/Machine/Gate.lean ====
section
/-!
DEFINITION. The command gate: envelopes, the checks of R117, lockouts, states that turn a command away, responses (R76, R82,
R115 to R124).
-/

namespace Sys2Proof.Machine

/-- A submitted envelope (R115): its fields, its parameter words, and every payload word the header announces. -/
structure Envelope where
  slot : Fin 8
  seq : Nat
  words : List Word
  code : Nat
  role : Nat
  auth : Bool
  counter : Nat
  target : Nat
  n : Nat
  params : List Word
  deriving DecidableEq, Repr

/-- The state a response reports: state code, KIND, OBJECT (R122). -/
structure Report where
  state : Nat
  kind : Nat
  object : Nat
  deriving DecidableEq, Repr

/-- An executed command: status code of R122, the state that failed, and result words. -/
structure Verdict where
  status : Nat
  report : Option Report
  data : List Word
  deriving DecidableEq, Repr

/-- Verdicts: accepted with data; refused with a status; refused because of a state. -/
def okWith (l : List Word) : Verdict := { status := 0, report := none, data := l }
def refusedWith (n : Nat) : Verdict := { status := n, report := none, data := [] }
def wrongState (state kind object : Nat) : Verdict :=
  { status := 3, report := some { state := state, kind := kind, object := object }, data := [] }

/-- The commands the gate knows (R120, R364). -/
def knownCodes : List Nat :=
  [0x0001, 0x0002, 0x0010, 0x0011, 0x0012, 0x0101, 0x0102, 0x0201, 0x0301, 0x0401, 0x0402, 0x0501, 0x0601, 0x0701, 0x0801,
   0x0802, 0x4001, 0x4002, 0x4003, 0x4004, 0x4005]

/-- A meter mailbox request (R120). -/
def isMeterCode (c : Nat) : Bool := decide (0x4000 ≤ c) && decide (c ≤ 0x40FF)

/-- A critical command (R120). -/
def isCritical (c : Nat) : Bool := decide (0x0101 ≤ c) && decide (c ≤ 0x0802)

/-- Roles of the transition from one life-cycle state to another; none for a transition that is not listed (R79). -/
def transRoles (old new : Nat) : Option (List Nat) :=
  match old, new with
  | 0, 1 => some [5]
  | 0, 4 => some [5]
  | 1, 2 => some [3]
  | 1, 4 => some [5, 3]
  | 2, 3 => some [4]
  | 3, 2 => some [4]
  | 2, 4 => some [3]
  | 3, 4 => some [3]
  | _, _ => none

/-- Regions a transition wipes, as bits of the wipe-pending mask: M3 to M7, Q0 to Q4, root secret (R81). -/
def transMask (old new : Nat) : Nat :=
  match old, new with
  | 0, 1 => 0x3F7
  | 0, 4 => 0x7F3
  | 1, 2 => 0x2E0
  | 1, 4 => 0x513
  | 3, 2 => 0x010
  | 2, 4 => 0x513
  | 3, 4 => 0x513
  | _, _ => 0

namespace State

/-! ## The envelope -/

/-- Payload words of a slot. -/
def payload (s : State) (i n : Nat) : List Word := (List.range n).map (fun j => s.slotWord i j)

/-- The envelope submitted in a command slot. Fields stand at their places whatever LEN says; LEN is judged at step 7 of R117. -/
def envelope (s : State) (k : Fin 8) : Envelope :=
  let h := s.header k
  let w0 := (s.slotWord k 0).toNat
  let w3 := (s.slotWord k 3).toNat
  let n := bitsOf w3 8 24
  { slot := k, seq := hSeq h, words := s.payload k (min 255 (hLen h)), code := bitsOf w0 0 16, role := bitsOf w0 16 3,
    auth := bitOf w0 19, counter := num64 [s.slotWord k 1, s.slotWord k 2], target := bitsOf w3 0 8, n := n,
    params := if n ≤ 251 then (List.range n).map (fun j => s.slotWord k (4 + j)) else [] }

/-- The form of an envelope: reserved bits zero, and the length that AUTH and N give (R9, R115). -/
def formOk (s : State) (e : Envelope) : Bool :=
  bitsOf (s.slotWord e.slot 0).toNat 20 12 == 0 && hLen (s.header e.slot) == 4 + e.n + (if e.auth then 4 else 0) &&
    decide (hLen (s.header e.slot) ≤ 255)

/-- Index of a role with a key, READER 0 to VENDOR 4 (R116). -/
def roleIdx (r : Nat) : Fin 5 := ⟨(r + 4) % 5, Nat.mod_lt _ (by omega)⟩

/-- The tag of an authenticated envelope is right (R115): AES-CMAC under the role's key over UNIT and the words before the
tag. An N that puts the tag past the slot fails. -/
def tagOk (s : State) (e : Envelope) : Bool :=
  match s.slotKey (slotOfRole (roleIdx e.role)) with
  | none => false
  | some key =>
    decide (8 + e.n ≤ 255) &&
      decide ((Config.aesCmac key (leBytes 8 s.pkg.unitId.toNat ++ bytesOf (s.payload e.slot (4 + e.n)))).toList =
        bytesOf ((List.range 4).map (fun j => s.slotWord e.slot (4 + e.n + j))))

/-! ## Counters and lockouts (R116, R119) -/

/-- Last accepted counter of a role index. -/
def lastCounter (s : State) (i : Fin 5) : Nat := s.rd 0 F.SMW_LASTCTR i 0 + s.rd 0 F.SMW_LASTCTR i 1 * 2 ^ 32

/-- A role's lockout state changed. -/
def updLock (s : State) (i : Fin 5) (f : Lockout → Lockout) : State :=
  { s with gate := { s.gate with lock := upd s.gate.lock i f } }

/-- A BAD_TAG of a role: the fourth in a row locks it out for 60 s, the first after a lockout for twice the last one's length, at
most 3 600 s (R119; code 0x000D). -/
def badTag (s : State) (i : Fin 5) : State :=
  let l := s.gate.lock.get i
  let fails := l.fails + 1
  let span := if l.span ≠ 0 then min (2 * l.span) 3600 else if 4 ≤ fails then 60 else 0
  let s := s.updLock i (fun _ => { fails := fails, ends := s.now + span * 1000000000, span := span })
  if span = 0 then s else (s.setBit 0 F.SMW_LOCKOUT_LOCKED i).info 0 0x000D 0x22 0xFF [i.val + 1, span]

/-- Step 6 of R117: the counter consumed and queued for the twin; the run of failures is cleared (R119). -/
def consume (s : State) (i : Fin 5) (c : Nat) : State :=
  let s := (s.wr 0 F.SMW_LASTCTR (c % 2 ^ 32) i 0).wr 0 F.SMW_LASTCTR (c / 2 ^ 32) i 1
  { s with gate := { s.gate with twinQueue := s.gate.twinQueue.filter (fun x => x != i.val) ++ [i.val] } }

/-- A lockout's end (R119). -/
def lockEnd (s : State) (r : Role) : State :=
  match r with
  | .pub => s
  | _ => s.clrBit 0 F.SMW_LOCKOUT_LOCKED (roleIdx (roleCode r))

/-! ## Steps 2 to 6 of R117 -/

/-- A readout of the meter needs READER at least, the event log BILLING (R367). -/
def readable (e : Envelope) (least : Nat) : Bool := decide (least ≤ e.role)

/-- Step 2: the role is not in the command's row, or the command must be authenticated and is not (R79, R120). A critical
command and a role's meter request need AUTH; PUBLIC has no key to authenticate with (log entry 50). -/
def notPermitted (s : State) (e : Envelope) : Bool :=
  decide (5 < e.role) || (e.role == 0 && e.auth) || (isCritical e.code && !e.auth) || (isMeterCode e.code && e.role != 0 && !e.auth) ||
    (match e.code with
     | 0x0101 => e.role != 4
     | 0x0102 => e.role != 4
     | 0x0201 => e.role != 2
     | 0x0301 => e.role != 2
     | 0x0401 => e.role != 2
     | 0x0402 => e.role != 2
     | 0x0501 => e.role != 3 && e.role != 4
     | 0x0601 => match e.params.head? with
       | some w => match transRoles s.lifeState w.toNat with
         | some l => !l.contains e.role
         | none => false
       | none => false
     | 0x0701 => e.role != 4
     | 0x0801 => e.role != 4
     | 0x0802 => e.role != 4
     | 0x4002 => !readable e 1
     | 0x4003 => !readable e 1
     | 0x4004 => !readable e (if (e.params.getD 0 0).toNat = 1 then 1 else 2)
     | 0x4005 => !readable e 1
     | _ => false)

/-- Step 3: the role is locked out, or the target die's safety core refuses writes (R119, R412). -/
def gateLocked (s : State) (e : Envelope) : Bool :=
  (e.role != 0 && s.bit 0 F.SMW_LOCKOUT_LOCKED (roleIdx e.role)) ||
    ((e.code == 0x0101 || e.code == 0x0102) && decide (e.target < 8) && s.present e.target && s.on e.target F.SAF_STAT_CFG_LOCKED)

/-- Steps 2 to 6: a status, 0 when the command goes on, and the state after them. -/
def gateCheck (s : State) (e : Envelope) : Nat × State :=
  if s.notPermitted e then (5, s)
  else if s.gateLocked e then (8, s)
  else if !e.auth then (0, s)
  else
    let i := roleIdx e.role
    if !s.tagOk e then (1, s.badTag i)
    else
      let s := s.updLock i (fun _ => { fails := 0, ends := 0, span := 0 })
      if e.counter ≤ s.lastCounter i then (2, s) else (0, s.consume i e.counter)

/-! ## Step 7 of R117: parameters -/

/-- The die a command names; none for a die that is absent (R5). -/
def targetDie (s : State) (e : Envelope) : Option (Fin 8) :=
  if h : e.target < 8 then (if s.present e.target then some ⟨e.target, h⟩ else none) else none

/-- A byte string in parameter words: its length, then its words; and the words after it. -/
def takeString (p : List Word) : Option (List Byte × List Word) :=
  match p with
  | [] => none
  | n :: t =>
    let k := (n.toNat + 3) / 4
    if 8 ≤ n.toNat ∧ n.toNat ≤ 32 ∧ k ≤ t.length then some ((bytesOf (t.take k)).take n.toNat, t.drop k) else none

/-- A die's safety part changed. -/
def updSafCore (s : State) (d : Fin 8) (f : Saf → Saf) : State := { s with saf := upd s.saf d f }

/-- A wrong password: the fifth in 10 min locks the die for 600 s. -/
def wrongPassword (s : State) (d : Fin 8) : State :=
  let l := ((s.saf.get d).wrong.filter (fun t => decide (s.now - t < 600000000000))) ++ [s.now]
  let s := s.updSafCore d (fun f => { f with wrong := l })
  if 5 ≤ l.length then s.wr d F.SAF_STAT_CFG_LOCKED 1 else s

/-- A password against the stored hash. -/
def passwordOk (s : State) (d : Fin 8) (p : List Byte) : Bool :=
  match (s.saf.get d).stored with
  | some c => decide ((Config.sha256 (c.salt ++ p)).toList = c.hash)
  | none => false

/-- Every window a configuration enables is covered (R144). -/
def windowsOk (s : State) (d : Fin 8) (c : SafetyCfg) : Bool :=
  c.windows.all (fun w => (!w.aEn || s.winCovered d w.cell 0) && (!w.bEn || s.winCovered d w.cell 1))

/-- Step 7 of command 0x0101: the die, the password's form and the password, the configuration's encoding and its windows (R412). -/
def safetyBad (s : State) (e : Envelope) : Bool := match s.targetDie e, takeString e.params with
  | some d, some (p, rest) => !s.passwordOk d p || (match Config.safetyWrite (bytesOf rest), (s.saf.get d).stored with
    | some (_, c, _), some _ => !s.windowsOk d c
    | _, _ => true)
  | _, _ => true

/-- Step 7 of command 0x0102: the die, and the old and the new password. -/
def passwordBad (s : State) (e : Envelope) : Bool := match s.targetDie e, takeString e.params with
  | some d, some (p, rest) => !s.passwordOk d p || (match takeString rest with
    | some (_, t) => !t.isEmpty
    | none => true)
  | _, _ => true

/-- Parameter number and values of command 0x0201. -/
def paramId (e : Envelope) : Nat := (e.params.getD 0 0).toNat
def paramVals (e : Envelope) : List Nat := (e.params.drop 1).map (·.toNat)

/-- Step 7 of commands 0x0201, 0x0301 and 0x0401 (R151, R363, R372, R384). -/
def paramBad (s : State) (e : Envelope) : Bool := e.params.isEmpty || s.paramWhy (paramId e) e.target (paramVals e) == 4
def timeBad (s : State) (e : Envelope) : Bool := e.params.length != 2 || s.timeNear (Int.ofNat (num64 e.params))
def calendarBad (s : State) (e : Envelope) : Bool := e.params.length != 220 || s.calRefuses (bytesOf e.params) != 0

/-- What refused parameters leave behind: a wrong password is counted by the die's safety core (R412), and the running meter head
keeps the reason of a refused calendar (R372). Nothing else does. -/
def blame (s : State) (e : Envelope) : State :=
  if !s.formOk e then s
  else if e.code = 0x0101 ∨ e.code = 0x0102 then
    match s.targetDie e, takeString e.params with
    | some d, some (p, _) => if s.passwordOk d p then s else s.wrongPassword d
    | _, _ => s
  else if e.code = 0x0401 ∧ e.params.length = 220 ∧ s.meter.running then (s.calLoad (bytesOf e.params)).2
  else s

/-! ## Step 8: states that turn commands away (R76, R82, R121) -/

/-- The state that turns a command away whatever its parameters. A retired chip's recovery service also takes the reinstatement that
ends it (R76, R461, R465). -/
def turnedAway (s : State) (e : Envelope) : Option Verdict :=
  let meter := isMeterCode e.code
  let always := e.code == 0x0001 || e.code == 0x0002
  let update := e.code == 0x0010 || e.code == 0x0011 || e.code == 0x0012 || e.code == 0x0501
  if s.standing && !(always || update || meter || e.code == 0x0601 || e.code == 0x0701) then some (wrongState s.role 2 0xFF)
  else if s.hold && !(always || update || meter) then some (wrongState 2 4 0xFF)
  else if s.lifeState == 4 && !(always || meter) then some (wrongState 4 0 0xFF)
  else if s.faults.chipRetired && !(always || update || meter || e.code == 0x0802) then some (wrongState s.bootMode 4 0xFF)
  else if !s.meter.running && s.lifeState != 4 &&
      (meter || e.code == 0x0201 || e.code == 0x0301 || e.code == 0x0401 || e.code == 0x0402) then some (wrongState 0 3 0xFF)
  else none

/-- The state a meter request that is no readout is turned away for: the twin role, HOLD, RETIRED, else the meter head's. -/
def meterTurned (s : State) : Verdict :=
  if s.standing then wrongState s.role 2 0xFF
  else if s.hold then wrongState 2 4 0xFF
  else if s.lifeState == 4 then wrongState 4 0 0xFF
  else wrongState (b2n s.meter.running) 3 0xFF

/-! ## The response (R122) -/

/-- The response in the command's slot: its four words, with OK the data, and the counts of SMW_CMD_CNT. -/
def respond (s : State) (e : Envelope) (v : Verdict) : State :=
  let r : Report := match v.report with
    | some r => r
    | none => { state := s.lifeState, kind := 0, object := 0xFF }
  let c := if e.role = 0 ∨ 5 < e.role then 0 else s.lastCounter (roleIdx e.role)
  let l := [BitVec.ofNat 32 (e.code + 65536 * v.status), BitVec.ofNat 32 (r.state % 256 + 256 * r.kind + 4096 * r.object)] ++
    words64 c ++ (if v.status = 0 then v.data else [])
  let s := (s.putPayload e.slot l).publish e.slot e.seq l.length
  if v.status = 0 then s.wrapCnt 0 F.SMW_CMD_CNT_OK else s.wrapCnt 0 F.SMW_CMD_CNT_REFUSED

/-- A command waits in the slot: it is device-owned, the gate runs, and no meter request of it is under way. -/
def waiting (s : State) (k : Fin 8) : Bool := s.own k == 2 && s.leadAlive && s.gate.meterSlot != some k

/-- A command in slot `k` taken through R117. `mine` says that the row is the one for this envelope; `bad` is step 7's judgement of
the parameters; `run` does the rest of steps 8 and 9 and the effect. A code the gate does not know is answered UNKNOWN_CMD. -/
def gateRun (s : State) (k : Fin 8) (code : Nat) (mine : List Word → Bool) (bad : State → Envelope → Bool)
    (run : State → Envelope → Verdict × State) : State :=
  let e := s.envelope k
  if !s.waiting k then s
  else if !knownCodes.contains e.code then s.respond e (refusedWith 7)
  else if e.code ≠ code || !mine e.params then s
  else
    let x := s.gateCheck e
    if x.1 ≠ 0 then x.2.respond e (refusedWith x.1)
    else if !x.2.formOk e || bad x.2 e then (x.2.blame e).respond e (refusedWith 4)
    else match x.2.turnedAway e with
      | some v => x.2.respond e v
      | none =>
        let y := run x.2 e
        y.2.respond e y.1

/-! ## Meter requests (R124) -/

/-- A meter request: `turned` says that a state turns it away as no readout; BUSY unless MBQ and MBR are free; the envelope goes to MBQ
and the meter head executes it. Its answer waits for METER_REPLY; a refusal is published at once, and nothing stays in MBQ. -/
def meterRun (s : State) (k : Fin 8) (code : Nat) (bad turned : State → Envelope → Bool)
    (ask : State → Envelope → Answer × State) : State :=
  let e := s.envelope k
  if !s.waiting k then s
  else if !knownCodes.contains e.code then s.respond e (refusedWith 7)
  else if e.code ≠ code then s
  else
    let x := s.gateCheck e
    let s := x.2
    if x.1 ≠ 0 then s.respond e (refusedWith x.1)
    else if !s.formOk e || bad s e then s.respond e (refusedWith 4)
    else match s.turnedAway e with
      | some v => s.respond e v
      | none =>
        if turned s e then s.respond e s.meterTurned
        else if s.own 8 ≠ 3 || s.own 9 ≠ 3 || s.gate.meterSlot.isSome then s.respond e (refusedWith 6)
        else
          let y := ask s e
          if y.1.1 ≠ 0 then y.2.respond e (refusedWith y.1.1)
          else
            let s := ((y.2.setHeader 8 (mkHeader 2 e.seq e.words.length)).putPayload 8 e.words)
            { s with gate := { s.gate with meterSlot := some k, meterReply := y.1.2 } }

/-- METER_REPLY: the reply published in MBR, the request slot freed, and the command slot published with MBR's SEQ and LEN. -/
def meterAnswer (s : State) : State :=
  match s.gate.meterSlot with
  | none => s
  | some k =>
    let l := s.gate.meterReply.take 4095
    let s := { s with gate := { s.gate with meterSlot := none, meterReply := [] } }
    let s := (((s.claimSlot 9).putPayload 9 l).publish 9 0 l.length).takeSlot 8
    s.respond (s.envelope k) (okWith [BitVec.ofNat 32 (hSeq (s.header 9)), BitVec.ofNat 32 l.length])

end State
end Sys2Proof.Machine
end

