-- ==== Sys2Proof/Machine/GateCmd.lean ====
section
/-!
DEFINITION. The commands of the gate: status and log reads, staging, safety configuration, meter commands, activation, life cycle,
twin role, retirement, meter requests (R79 to R84, R120, R364, R412, R413, R436, R452, R463 to R466). Parameter layouts that no
rule gives are the model's (log entry 50).
-/

namespace Sys2Proof.Machine.State

/-- A verdict from the status of an operation of the meter head. -/
def meterVerdict (s : State) (st : Nat) : Verdict :=
  if st = 0 then okWith [] else if st = 3 then wrongState (b2n s.meter.running) 3 0xFF else refusedWith st

/-! ## Status and logs -/

/-- LCS_STATE as it reads: DBG_EN in BLANK and MAINTENANCE (R78). -/
def lcsStateWord (s : State) : Word :=
  s.word (fldAddr 0 F.LCS_STATE_STATE 0 0) ||| (if s.lifeState = 0 ∨ s.lifeState = 3 then BitVec.ofNat 32 (2 ^ 16) else 0)

/-- Command 0x0001: the device status block and the LCS registers. -/
def statusRun (s : State) (_e : Envelope) : Verdict × State :=
  (okWith ((List.range 18).map (fun i => s.mword (winKey (4 * i))) ++
    [s.lcsStateWord, s.word (fldAddr 0 F.LCS_BOOT_SET_BANK 0 0), s.word (fldAddr 0 F.LCS_BANK_ACTIVE 0 0),
     s.word (fldAddr 0 F.LCS_STAGED_VALID 0 0), s.word (fldAddr 0 F.LCS_CTRL_TRIAL_WIN 0 0), s.word (fldAddr 0 F.LCS_FLOOR_FLOOR 0 0)]), s)

/-- The 32 bytes of an event log entry (R466). -/
def logBytes (e : LogEntry) : List Byte :=
  leBytes 4 e.no ++ leBytes 8 (uns 64 e.tai) ++ leBytes 2 e.code ++ leBytes 1 e.cls ++ leBytes 1 e.die ++ leBytes 1 e.block ++
    leBytes 1 e.index ++ leBytes 1 e.count ++ [0] ++ (List.range 3).flatMap (fun i => leBytes 4 (e.data.getD i 0))

/-- The 96 bytes of a change log entry (R413). -/
def changeBytes (e : ChangeEntry) : List Byte :=
  leBytes 4 e.no ++ leBytes 8 (uns 64 e.tai) ++ leBytes 1 e.kind ++ [0, 0, 0] ++ leBytes 8 e.counter.toNat ++ slice e.digest 0 32 ++
    slice e.prev 0 32 ++ List.replicate 8 0

/-- The 24 bytes of a retirement record (R463; log entry 50). -/
def retBytes (r : RetRec) : List Byte :=
  leBytes 1 r.level ++ leBytes 1 r.block ++ leBytes 2 r.index ++ leBytes 2 r.code ++ [0, 0] ++ leBytes 8 (uns 64 r.tai) ++
    leBytes 4 r.count ++ [0, 0, 0, 0]

/-- The items of a log from an index: 0 package log, 1 die log, 2 change log, 3 retirement records. -/
def logItems (s : State) (kind : Nat) (d : Fin 8) (index : Nat) : List (List Byte) :=
  match kind with
  | 0 => ((s.logs.get 0).entries.filter (fun e => decide (index ≤ e.no))).map logBytes
  | 1 => ((s.logs.get d).entries.filter (fun e => decide (index ≤ e.no))).map logBytes
  | 2 => ((s.saf.get d).log.filter (fun e => decide (index ≤ e.no))).map changeBytes
  | _ => ((s.faults.retired.filter (fun r => r.die == d.val)).drop index).map retBytes

/-- Items that fit a bulk slot. -/
def logFit (kind : Nat) : Nat := if kind ≤ 1 then 511 else if kind = 2 then 170 else 682

/-- Command 0x0002 takes the row of its selector; an invalid selector is any row's. -/
def logMine (kind : Nat) (p : List Word) : Bool := p.length != 2 || decide (3 < (p.getD 1 0).toNat) || (p.getD 1 0).toNat == kind

/-- Step 7 of command 0x0002. -/
def logBad (s : State) (e : Envelope) : Bool :=
  e.params.length != 2 || decide (3 < (e.params.getD 1 0).toNat) || ((e.params.getD 1 0).toNat != 0 && (s.targetDie e).isNone)

/-- Command 0x0002: items copied into a bulk slot; BUSY when none is free. -/
def logRun (s : State) (e : Envelope) : Verdict × State :=
  let kind := (e.params.getD 1 0).toNat
  let l := (s.logItems kind ((s.targetDie e).getD 0) (e.params.getD 0 0).toNat).take (logFit kind)
  match s.bulkResult (wordsOf l.flatten) with
  | (none, _) => (refusedWith 6, s)
  | (some i, s) => (okWith [BitVec.ofNat 32 i, BitVec.ofNat 32 l.length], s)

/-! ## Staging (R67, R83, R102) -/

/-- The largest image of a class, header included (R67); a certificate's length is limited by the bank alone (log entry 14). -/
def stageMax (c : Nat) : Nat :=
  match c with
  | 0 => 1536 * 1024 + 256
  | 1 => 128 * 1024 + 256
  | 2 => 128 * 1024 + 256
  | 3 => 256 * 1024 + 256
  | 4 => 512 * 1024 + 256
  | 5 => 256 * 1024 + 256
  | _ => 2 ^ 32

/-- Bytes that a bank holds beside class `c`: its other images, and its certificates but the oldest of eight when one more
joins them. -/
def bankUsed (s : State) (b c : Nat) : Nat :=
  let l := (List.range 8).map (fun i => (s.certBytes 0 b i).length)
  let certs := (if c = 6 ∧ l.all (0 < ·) then l.drop 1 else l).sum
  certs + ((List.range 6).map (fun x => if x = c then 0 else (s.image 0 b x).length)).sum

/-- Step 7 of command 0x0010: class and length, within the class's limit and the bank's 3 MiB (R67; log entry 14). -/
def beginBad (s : State) (e : Envelope) : Bool :=
  let c := (e.params.getD 0 0).toNat
  let n := (e.params.getD 1 0).toNat
  e.params.length != 2 || decide (6 < c) || decide (stageMax c < n) || decide (3 * 1024 * 1024 < s.bankUsed s.otherBank c + n)

/-- Command 0x0010: the class of the unselected bank is replaced, on every die; its VALID bit falls and migrated keys of it are
void. A certificate joins the ones the bank holds. -/
def beginRun (s : State) (e : Envelope) : Verdict × State :=
  let c := (e.params.getD 0 0).toNat
  let b := s.otherBank
  let s := if c < 6 then s.onDies (fun s d => s.setImage d b c []) else s
  let given (x : Nat × Nat) : Bool := match s.lcs.staging with
    | some g => x == (b, g.cls)
    | none => false
  let s := { s with lcs := { s.lcs with
    staging := some { cls := c, len := (e.params.getD 1 0).toNat }, staged := [],
    torn := s.lcs.torn.filter (fun x => !given x && x != (b, c)) ++ [(b, c)],
    checking := s.lcs.checking.filter (· != c) } }
  (okWith [], (s.voidPending c).stagedCheck)

/-- Step 7 of command 0x0011: one bulk slot whose data the announced length still takes. -/
def dataBad (s : State) (e : Envelope) : Bool :=
  let i := (e.params.getD 0 0).toNat
  e.params.length != 1 || decide (i < 16) || decide (77 < i) ||
    (match s.lcs.staging with
     | some g => decide (g.len + 3 < s.lcs.staged.length + 4 * hLen (s.header i))
     | none => false)

/-- Command 0x0011: the submitted words of a bulk slot taken (R109). -/
def dataRun (s : State) (e : Envelope) : Verdict × State :=
  let i := (e.params.getD 0 0).toNat
  if s.lcs.staging.isNone || s.own i != 2 then (wrongState s.bootMode 4 0xFF, s)
  else
    let l := bytesOf (s.payload i (hLen (s.header i)))
    (okWith [], { (s.takeSlot i) with lcs := { s.lcs with staged := s.lcs.staged ++ l } })

/-- Certificates of a bank with one more, on every die; the oldest of eight makes room (R83; log entry 14). -/
def addCert (s : State) (b : Nat) (l : List Byte) : State :=
  s.onDies (fun s d =>
    let have_ := (List.range 8).map (fun i => s.certBytes d b i)
    let full := have_.all (fun x => !x.isEmpty)
    s.setCerts d b (if full then have_.drop 1 ++ [l] else (have_.filter (fun x => !x.isEmpty)) ++ [l]))

/-- Step 7 of command 0x0012. -/
def endBad (s : State) (e : Envelope) : Bool :=
  !e.params.isEmpty || (match s.lcs.staging with
    | some g => decide (s.lcs.staged.length < g.len)
    | none => false)

/-- Command 0x0012: the class stands in the unselected bank of every die, and its check begins. -/
def endRun (s : State) (_e : Envelope) : Verdict × State :=
  match s.lcs.staging with
  | none => (wrongState s.bootMode 4 0xFF, s)
  | some g =>
    let l := s.lcs.staged.take g.len
    let b := s.otherBank
    let s := if g.cls < 6 then s.onDies (fun s d => s.setImage d b g.cls l) else s.addCert b l
    let torn := s.lcs.torn.filter (fun x => x != (b, g.cls))
    let s := { s with lcs := { s.lcs with staging := none, staged := [], checking := s.lcs.checking ++ [g.cls], torn := torn } }
    (okWith [], (s.stagedCheck).wr 0 F.LCS_STAGED_STAGE_DONE 0)

/-! ## Safety configuration (R412, R413) -/

/-- An entry of the change log: 256 entries, the oldest overwritten, each chained to the one before. -/
def changeLog (s : State) (d : Fin 8) (kind : Nat) (counter : Nat) : State :=
  let f := s.saf.get d
  let prev := match f.log.getLast? with
    | some e => (Config.sha256 (changeBytes e)).toList
    | none => List.replicate 32 0
  let e : ChangeEntry := { no := f.logNext, tai := s.tai d, kind := kind, counter := BitVec.ofNat 64 counter,
                           digest := (Config.sha256 f.raw).toList, prev := prev }
  let l := f.log ++ [e]
  (s.updSafCore d (fun f => { f with log := if 256 < l.length then l.drop 1 else l, logNext := f.logNext + 1 })).wr d F.SAF_STAT_LOG_HEAD
    (f.logNext % 65536)

/-- SAF_CFG_DIGEST follows the stored configuration. -/
def digestOut (s : State) (d : Fin 8) : State :=
  let h := (Config.sha256 (s.saf.get d).raw).toList
  (List.range 8).foldl (fun (s : State) (i : Nat) => s.wr d F.SAF_CFG_DIGEST (field h (4 * i) 4) i) s

/-- Latches of the acknowledged ports cleared: a weld only while both mirror contacts read open (R405, R407). -/
def acknowledge (s : State) (d : Fin 8) (m : BitVec 4) : State :=
  s.onPorts (fun s k =>
    if bitOf m.toNat k then
      let s := s.wr d F.SAF_P_STAT_TRIP_LATCH 0 k
      if s.bit d F.SAF_IN_FILT 3 k && s.bit d F.SAF_IN_FILT 4 k then s.wr d F.SAF_P_STAT_WELD_LATCH 0 k else s
    else s)

/-- Command 0x0101, its parameters judged (safetyBad): BUSY while the die's safety core does not run. -/
def safetyRun (s : State) (e : Envelope) : Verdict × State :=
  match s.targetDie e, takeString e.params with
  | some d, some (_, rest) =>
    if s.pkg.die.get d ≠ .running then (refusedWith 6, s)
    else match Config.safetyWrite (bytesOf rest), (s.saf.get d).stored with
      | some (raw, c, ack), some old =>
        let c := { c with salt := old.salt, hash := old.hash }
        let s := (s.updSafCore d (fun f => { f with stored := some c, raw := Config.cfgSalted raw old.salt old.hash })).digestOut d
        let s := s.changeLog d 0 e.counter
        (okWith [], if ack = 0 then s else (s.acknowledge d ack).changeLog d 2 e.counter)
      | _, _ => (refusedWith 4, s)
  | _, _ => (refusedWith 4, s)

/-- Command 0x0102, its parameters judged (passwordBad): a fresh salt from the entropy source. -/
def passwordRun (s : State) (e : Envelope) : Verdict × State :=
  match s.targetDie e, takeString e.params with
  | some d, some (_, rest) =>
    if s.pkg.die.get d ≠ .running then (refusedWith 6, s)
    else match takeString rest, (s.saf.get d).stored with
      | some (q, _), some c =>
        let x := s.freeBytes 16
        let h := (Config.sha256 (x.1 ++ q)).toList
        let c2 : SafetyCfg := { c with salt := x.1, hash := h }
        let s := (x.2.updSafCore d (fun f => { f with stored := some c2, raw := Config.cfgSalted f.raw x.1 h })).digestOut d
        (okWith [], s.changeLog d 1 e.counter)
      | _, _ => (refusedWith 4, s)
  | _, _ => (refusedWith 4, s)

/-! ## Meter commands -/

/-- Command 0x0201: parameter number, then its values; TARGET is its scope. -/
def paramRun (s : State) (e : Envelope) : Verdict × State :=
  let x := s.paramWrite 2 (paramId e) e.target (paramVals e)
  (s.meterVerdict x.1, x.2)

/-- Command 0x0301: the time named, ns, low word first. -/
def timeRun (s : State) (e : Envelope) : Verdict × State :=
  let x := s.timeSet (Int.ofNat (num64 e.params))
  (s.meterVerdict x.1, x.2)

/-- Command 0x0401: the 880 bytes of a calendar image. -/
def calRun (s : State) (e : Envelope) : Verdict × State :=
  let x := s.calLoad (bytesOf e.params)
  (s.meterVerdict x.1, x.2)

/-- Command 0x0402, parameter 0 and 1. -/
def actRun (s : State) (_e : Envelope) : Verdict × State := (s.meterVerdict s.calActivate.1, s.calActivate.2)
def discardRun (s : State) (_e : Envelope) : Verdict × State := (s.meterVerdict s.calDiscard.1, s.calDiscard.2)

/-- A command with one selector word below `n` takes the row of its selector; an invalid selector is any row's. -/
def oneMine (n v : Nat) (p : List Word) : Bool := p.length != 1 || decide (n ≤ (p.getD 0 0).toNat) || (p.getD 0 0).toNat == v

/-- Step 7 of such a command. -/
def oneBad (n : Nat) (_s : State) (e : Envelope) : Bool := e.params.length != 1 || decide (n ≤ (e.params.getD 0 0).toNat)

/-! ## Activation and life cycle (R79 to R84) -/

/-- The first port that is not IDLE, FAULT or RETIRED. -/
def busyPort (s : State) (p : Fin 8 → Fin 4 → Bool) : Option Verdict :=
  (List.finRange 32).findSome? (fun q =>
    let d := Port.die q
    let k := Port.loc q
    if s.dieUsed d && p d k && !(s.psState d k == 0 || s.psState d k == 9 || s.psState d k == 10) then
      some (wrongState (s.psState d k) 1 q.val)
    else none)

/-- What R84 asks, in its order. -/
def activateWhy (s : State) (b : Nat) : Option Verdict :=
  if b ≠ s.otherBank || !s.on 0 F.LCS_STAGED_COVERED then some (wrongState s.bootMode 4 0xFF)
  else match s.busyPort (fun _ _ => true) with
    | some v => some v
    | none => if s.roleQuiet then none else some (wrongState s.role 2 0xFF)

/-- Command 0x0501: PENDING set, and a life-cycle restart due. -/
def activateRun (s : State) (e : Envelope) : Verdict × State :=
  let b := (e.params.getD 0 0).toNat
  match s.activateWhy b with
  | some v => (v, s)
  | none =>
    let new := s.verified 0 b 3 && measure (s.image 0 b 3) != measure s.meterImage
    let s := (s.wr 0 F.LCS_BANK_PENDING 1).wr 0 F.LCS_BANK_PEND_BANK b
    (okWith [], { s with lcs := { s.lcs with restart := some { meterToo := new, newState := none, mask := 0, ownerHash := [] } } })

/-- Step 7 of command 0x0601: a transition of R79 with its words: the owner key hash, or the two numbers of R82. -/
def lifeBad (s : State) (e : Envelope) : Bool :=
  let new := (e.params.getD 0 0).toNat
  (transRoles s.lifeState new).isNone ||
    e.params.length != (if new = 1 then 9 else if new = 4 ∧ 2 ≤ s.lifeState then 3 else 1)

/-- The readout condition of R82. DESIGN CHOICE: the two numbers are compared as they stand before the closing billing set and
records are made, and a number is 0 where none exists yet (log entry 50). -/
def readOut (s : State) (e : Envelope) : Bool :=
  let bill := match s.meter.bills.getLast? with
    | some b => b.bpc
    | none => 0
  let rec_ := match s.meter.records.getLast? with
    | some r => r.recno
    | none => 0
  (e.params.getD 1 0).toNat == bill && (e.params.getD 2 0).toNat == rec_

/-- The condition of a transition (R79). -/
def lifeWhy (s : State) (e : Envelope) : Option Verdict :=
  let old := s.lifeState
  let quiet (s : State) : Option Verdict :=
    if !s.roleQuiet then some (wrongState s.role 2 0xFF) else s.busyPort (fun _ _ => true)
  let read (s : State) : Option Verdict := if s.readOut e then none else some (wrongState (b2n s.meter.running) 3 0xFF)
  match old, (e.params.getD 0 0).toNat with
  | 1, 2 =>
    if !s.leadRuns || s.on 0 F.LCS_BOOT_CFG_ABSENT then some (wrongState s.bootMode 4 0xFF)
    else if s.slotWritten 9 && s.slotWritten 10 && s.slotWritten 11 then none else some (wrongState old 0 0xFF)
  | 1, 4 => s.busyPort (fun _ _ => true)
  | 2, 3 => quiet s
  | 3, 2 => if s.leadRuns then none else some (wrongState s.bootMode 4 0xFF)
  | 2, 4 => match quiet s with
    | some v => some v
    | none => read s
  | 3, 4 => read s
  | _, _ => none

/-- The meter closed before RETIRED: a final billing set, and a closing record for every port, all signed (R82, R357). -/
def closeMeter (s : State) : State :=
  if !s.meter.running then s
  else
    let s := s.billClose (s.utcMs / 1000) 0
    let s := (List.finRange 32).foldl (fun (s : State) (p : Fin 32) => if s.present (Port.die p) then s.closingRecord p else s) s
    let l := s.meter.due
    l.foldl (fun (s : State) (r : SessionRecord) => s.signRecord r) (s.updMeter (fun m => { m with due := [] }))

/-- Command 0x0601: an accepted transition waits for its restart (R80, R123). -/
def lifeRun (s : State) (e : Envelope) : Verdict × State :=
  match s.lifeWhy e with
  | some v => (v, s)
  | none =>
    let new := (e.params.getD 0 0).toNat
    let mask := transMask s.lifeState new
    let s := if new = 4 then s.closeMeter else s
    let r : Restart :=
      { meterToo := false, newState := some new, mask := mask, ownerHash := if new = 1 then bytesOf (e.params.drop 1) else [] }
    (okWith [], { s with lcs := { s.lcs with restart := some r } })

/-! ## Twin role, retirement -/

/-- Command 0x0701. -/
def roleRun (s : State) (e : Envelope) : Verdict × State :=
  let x := s.forcedRole (e.params.getD 0 0).toNat
  (if x.1 = 0 then okWith [] else if x.1 = 3 then wrongState s.role 2 0xFF else refusedWith x.1, x.2)

/-- Die, level, block and index of an element address; none where TARGET and level do not agree (R464). -/
def elemOf (e : Envelope) : Option (Fin 8 × Nat × Nat × Nat) :=
  let lv := (e.params.getD 0 0).toNat
  let x := (lv, (e.params.getD 1 0).toNat, (e.params.getD 2 0).toNat)
  if e.params.length ≠ 3 then none
  else if lv = 4 then (if e.target = 0xFF then some (0, x) else none)
  else if h : e.target < 8 then some (⟨e.target, h⟩, x)
  else none

/-- The verdict of a refused retire or reinstate: a busy port's state, else the life cycle's. -/
def elemVerdict (s : State) (d : Fin 8) (level block index why : Nat) : Verdict :=
  if why = 3 then (s.busyPort (fun e k => s.elemUses d level block index e k)).getD (wrongState s.lifeState 0 0xFF)
  else refusedWith why

/-- Step 7 of commands 0x0801 and 0x0802. -/
def retireBad (s : State) (e : Envelope) : Bool := match elemOf e with
  | some (d, l, b, i) => s.retireWhy d l b i == 4
  | none => true
def reinstateBad (s : State) (e : Envelope) : Bool := match elemOf e with
  | some (d, l, b, i) => s.reinstateWhy d l b i == 4
  | none => true

/-- Command 0x0801. -/
def retireRun (s : State) (e : Envelope) : Verdict × State := match elemOf e with
  | some (d, l, b, i) =>
    if s.retireWhy d l b i ≠ 0 then (s.elemVerdict d l b i (s.retireWhy d l b i), s)
    else (okWith [], s.retireCmd d l b i e.counter)
  | none => (refusedWith 4, s)

/-- Command 0x0802. -/
def reinstateRun (s : State) (e : Envelope) : Verdict × State := match elemOf e with
  | some (d, l, b, i) =>
    if s.reinstateWhy d l b i ≠ 0 then (s.elemVerdict d l b i (s.reinstateWhy d l b i), s)
    else (okWith [], s.reinstateCmd d l b i)
  | none => (refusedWith 4, s)

/-! ## Meter requests (R364) -/

/-- The role a code names. -/
def roleOf (n : Nat) : Role :=
  match n with
  | 1 => .reader
  | 2 => .billing
  | 3 => .site
  | 4 => .service
  | 5 => .vendor
  | _ => .pub

/-- A standby or held unit, HOLD and RETIRED take only readout (R76, R82, R121). -/
def apduTurned (a : Apdu) (s : State) (_e : Envelope) : Bool := changes a && (s.standing || s.hold || s.lifeState == 4)

/-- Request 0x4001: the page that its first word names of the reply APDU, which begins with its status (R125, R364; log entry
40). -/
def apduAsk (a : Apdu) (s : State) (e : Envelope) : Answer × State :=
  let x := s.apdu (roleOf e.role) a
  ((0, pageWords (BitVec.ofNat 32 x.1.1 :: x.1.2) (e.params.getD 0 0).toNat), x.2)

/-- Requests 0x4002 to 0x4005: RECNO and page; profile, ENTRY_NO and page; log, ENTRY_NO and page; page. -/
def recordsAsk (s : State) (e : Envelope) : Answer × State :=
  ((0, s.recordsPage (e.params.getD 0 0).toNat (e.params.getD 1 0).toNat), s)
def profileAsk (s : State) (e : Envelope) : Answer × State :=
  if s.meter.restoring then ((6, []), s)
  else ((0, s.profilePage ((e.params.getD 0 0).toNat == 1) (e.params.getD 1 0).toNat (e.params.getD 2 0).toNat), s)
def meterLogAsk (s : State) (e : Envelope) : Answer × State :=
  ((0, s.meterLogPage ((e.params.getD 0 0).toNat == 1) (e.params.getD 1 0).toNat (e.params.getD 2 0).toNat), s)
def meterStatusAsk (s : State) (e : Envelope) : Answer × State := ((0, pageWords s.statusWords (e.params.getD 0 0).toNat), s)

end Sys2Proof.Machine.State

namespace Sys2Proof.Machine
open State


/-- STATUS (0x0001). -/
def execStatus (k : Fin 8) (s : State) : Host.Outcome State Fault Refusal :=
  .next (s.gateRun k 0x0001 (fun _ => true) (fun _ e => !e.params.isEmpty) statusRun)

/-- EVENT_LOG_READ (0x0002, 0). -/
def execEventLogRead (k : Fin 8) (s : State) : Host.Outcome State Fault Refusal := .next (s.gateRun k 0x0002 (logMine 0) logBad logRun)

/-- DIE_LOG_READ (0x0002, 1). -/
def execDieLogRead (k : Fin 8) (s : State) : Host.Outcome State Fault Refusal := .next (s.gateRun k 0x0002 (logMine 1) logBad logRun)

/-- CHANGE_LOG_READ (0x0002, 2). -/
def execChangeLogRead (k : Fin 8) (s : State) : Host.Outcome State Fault Refusal :=
  .next (s.gateRun k 0x0002 (logMine 2) logBad logRun)

/-- RETIREMENT_RECORDS_READ (0x0002, 3). -/
def execRetirementRecordsRead (k : Fin 8) (s : State) : Host.Outcome State Fault Refusal :=
  .next (s.gateRun k 0x0002 (logMine 3) logBad logRun)

/-- IMAGE_STAGING_BEGIN (0x0010). -/
def execImageStagingBegin (k : Fin 8) (s : State) : Host.Outcome State Fault Refusal :=
  .next (s.gateRun k 0x0010 (fun _ => true) beginBad beginRun)

/-- IMAGE_STAGING_DATA (0x0011). -/
def execImageStagingData (k : Fin 8) (s : State) : Host.Outcome State Fault Refusal :=
  .next (s.gateRun k 0x0011 (fun _ => true) dataBad dataRun)

/-- IMAGE_STAGING_END (0x0012). -/
def execImageStagingEnd (k : Fin 8) (s : State) : Host.Outcome State Fault Refusal :=
  .next (s.gateRun k 0x0012 (fun _ => true) endBad endRun)

/-- SAFETY_CONFIGURATION_WRITE (0x0101). -/
def execSafetyConfigurationWrite (k : Fin 8) (s : State) : Host.Outcome State Fault Refusal :=
  .next (s.gateRun k 0x0101 (fun _ => true) safetyBad safetyRun)

/-- SAFETY_PASSWORD_CHANGE (0x0102). -/
def execSafetyPasswordChange (k : Fin 8) (s : State) : Host.Outcome State Fault Refusal :=
  .next (s.gateRun k 0x0102 (fun _ => true) passwordBad passwordRun)

/-- METER_PARAMETER_WRITE (0x0201). -/
def execMeterParameterWrite (k : Fin 8) (s : State) : Host.Outcome State Fault Refusal :=
  .next (s.gateRun k 0x0201 (fun _ => true) paramBad paramRun)

/-- TIME_SET_BEYOND_SLEW_LIMIT (0x0301). -/
def execTimeSetBeyondSlewLimit (k : Fin 8) (s : State) : Host.Outcome State Fault Refusal :=
  .next (s.gateRun k 0x0301 (fun _ => true) timeBad timeRun)

/-- PASSIVE_CALENDAR_LOAD (0x0401). -/
def execPassiveCalendarLoad (k : Fin 8) (s : State) : Host.Outcome State Fault Refusal :=
  .next (s.gateRun k 0x0401 (fun _ => true) calendarBad calRun)

/-- CALENDAR_ACTIVATION (0x0402, 0). -/
def execCalendarActivation (k : Fin 8) (s : State) : Host.Outcome State Fault Refusal :=
  .next (s.gateRun k 0x0402 (oneMine 2 0) (oneBad 2) actRun)

/-- CALENDAR_DISCARD (0x0402, 1). -/
def execCalendarDiscard (k : Fin 8) (s : State) : Host.Outcome State Fault Refusal :=
  .next (s.gateRun k 0x0402 (oneMine 2 1) (oneBad 2) discardRun)

/-- IMAGE_ACTIVATION (0x0501). -/
def execImageActivation (k : Fin 8) (s : State) : Host.Outcome State Fault Refusal :=
  .next (s.gateRun k 0x0501 (fun _ => true) (oneBad 2) activateRun)

/-- LIFE_CYCLE_CHANGE (0x0601). -/
def execLifeCycleChange (k : Fin 8) (s : State) : Host.Outcome State Fault Refusal :=
  .next (s.gateRun k 0x0601 (fun _ => true) lifeBad lifeRun)

/-- FORCED_PLANNED_HANDOVER (0x0701, 0). -/
def execForcedPlannedHandover (k : Fin 8) (s : State) : Host.Outcome State Fault Refusal :=
  .next (s.gateRun k 0x0701 (oneMine 4 0) (oneBad 4) roleRun)

/-- FORCED_HELD (0x0701, 1). -/
def execForcedHeld (k : Fin 8) (s : State) : Host.Outcome State Fault Refusal := .next (s.gateRun k 0x0701 (oneMine 4 1) (oneBad 4) roleRun)

/-- FORCED_RESYNC (0x0701, 2). -/
def execForcedResync (k : Fin 8) (s : State) : Host.Outcome State Fault Refusal :=
  .next (s.gateRun k 0x0701 (oneMine 4 2) (oneBad 4) roleRun)

/-- FORCED_REPAIR (0x0701, 3). -/
def execForcedRepair (k : Fin 8) (s : State) : Host.Outcome State Fault Refusal :=
  .next (s.gateRun k 0x0701 (oneMine 4 3) (oneBad 4) roleRun)

/-- RETIRE (0x0801). -/
def execRetire (k : Fin 8) (s : State) : Host.Outcome State Fault Refusal :=
  .next (s.gateRun k 0x0801 (fun _ => true) retireBad retireRun)

/-- REINSTATE (0x0802). -/
def execReinstate (k : Fin 8) (s : State) : Host.Outcome State Fault Refusal :=
  .next (s.gateRun k 0x0802 (fun _ => true) reinstateBad reinstateRun)

/-- XDLMS_APDU (0x4001). -/
def execXdlmsApdu (k : Fin 8) (a : Apdu) (s : State) : Host.Outcome State Fault Refusal :=
  .next (s.meterRun k 0x4001 (fun _ _ => false) (apduTurned a) (apduAsk a))

/-- SESSION_RECORDS_READ (0x4002). -/
def execSessionRecordsRead (k : Fin 8) (s : State) : Host.Outcome State Fault Refusal :=
  .next (s.meterRun k 0x4002 (fun _ e => e.params.length != 2) (fun _ _ => false) recordsAsk)

/-- PROFILE_ENTRIES_READ (0x4003). -/
def execProfileEntriesRead (k : Fin 8) (s : State) : Host.Outcome State Fault Refusal :=
  .next (s.meterRun k 0x4003 (fun _ e => e.params.length != 3 || decide (1 < (e.params.getD 0 0).toNat)) (fun _ _ => false) profileAsk)

/-- METER_LOG_READ (0x4004). -/
def execMeterLogRead (k : Fin 8) (s : State) : Host.Outcome State Fault Refusal :=
  .next (s.meterRun k 0x4004 (fun _ e => e.params.length != 3 || decide (1 < (e.params.getD 0 0).toNat)) (fun _ _ => false) meterLogAsk)

/-- METER_STATUS (0x4005). -/
def execMeterStatus (k : Fin 8) (s : State) : Host.Outcome State Fault Refusal :=
  .next (s.meterRun k 0x4005 (fun _ e => decide (1 < e.params.length)) (fun _ _ => false) meterStatusAsk)

/-- METER_REPLY (R124). -/
def execMeterReply (s : State) : Host.Outcome State Fault Refusal := .next s.meterAnswer

/-- LOCKOUT_END (R119). -/
def execLockoutEnd (r : Role) (s : State) : Host.Outcome State Fault Refusal := .next (s.lockEnd r)

end Sys2Proof.Machine
end

