-- ==== Sys2Proof/Machine/Plc.lean ====
section
/-!
DEFINITION. Power-line links: the modem image, vehicle modems, SLAC across the site, and the herd line (R277 to R291).
-/

namespace Sys2Proof.Machine.State

/-! ## Modem image and vehicle modems (R278 to R282) -/

/-- The power-line block of a die changed. -/
def updPlc (s : State) (d : Fin 8) (f : Plc → Plc) : State := { s with plc := upd s.plc d f }

/-- Modem `k` of a die is not retired (R464). -/
def modemUsed (s : State) (d : Fin 8) (k : Fin 4) : Bool := !s.isRetired d 2 0x0E k

/-- LOAD. -/
def plcLoad (s : State) (d : Fin 8) : State :=
  if s.on d F.PLC_CTRL_RUN || s.rd d F.PLC_LOAD_STAT_STATUS == 1 then s
  else (s.wr d F.PLC_LOAD_STAT_STATUS 1).wr d F.PLC_LOAD_STAT_IMG_OK 0

/-- MODEM_LOAD_DONE: the copy's digest against PAYLOAD_DIGEST of the MODEM header. A wrong source address leaves a copy that
does not match (R279; log entry 58). -/
def plcLoadDone (s : State) (d : Fin 8) : State :=
  if s.rd d F.PLC_LOAD_STAT_STATUS ≠ 1 then s
  else
    let bank := s.rd 0 F.LCS_BOOT_SET_BANK
    let img := s.image d bank 4
    let pay := img.drop 256
    let ok := !img.isEmpty && Config.modemSrc d bank (s.rd d F.PLC_LOAD) && decide ((Config.sha256 pay).toList = slice img 0x18 32) &&
      decide (s.mreg 4 = declMeas img)
    if ok then ((s.wr d F.PLC_LOAD_STAT_STATUS 2).wr d F.PLC_LOAD_STAT_IMG_OK 1).updPlc d (fun p => { p with prog := pay })
    else
      let s := ((s.wr d F.PLC_LOAD_STAT_STATUS 3).wr d F.PLC_LOAD_STAT_IMG_OK 0).updPlc d (fun p => { p with prog := [] })
      s.onPorts (fun s k => s.fault d 2 0x0E k 0x2006 [])

/-- The herd line master changed. -/
def updHerd (s : State) (f : Herd → Herd) : State := { s with herd := f s.herd }

/-- A vehicle modem restarts as a block and has lost its association (R280). -/
def modemRestart (s : State) (d : Fin 8) (k : Fin 4) : State :=
  let s := ((s.wr d F.PLC_M_STAT_ENGINE_FAULT 1 k).wr d F.PLC_M_STAT_MATCHED 0 k).wr d F.PLC_M_STAT_MODE 0 k
  s.updPlc d (fun p => { p with tone := p.tone.set k [], rms := p.rms.set k 0, ext := p.ext.set k 0, nack := p.nack.set k false })

/-- The herd line modem restarts as a block: what it had under way is lost (R280; log entry 58). -/
def herdRestart (s : State) : State :=
  (s.updPlc 0 (fun p => { p with rms := p.rms.set 4 0, ext := p.ext.set 4 0 })).updHerd (fun h => { h with poll := none, bcast := none })

/-- MODEM_WATCHDOG: of a vehicle modem, or on the lead die of the herd line modem, number 4 (R280, R459). -/
def modemWatchdog (s : State) (d : Fin 8) (m : Fin 5) : State :=
  if !s.on d F.PLC_CTRL_RUN then s
  else if h : m.val < 4 then
    let k : Fin 4 := ⟨m.val, h⟩
    if s.modemUsed d k then (s.modemRestart d k).fault d 2 0x0E k.val 0x2005 [k.val] else s
  else if d = 0 ∧ s.isRetired 0 2 0x24 0 = false then s.herdRestart.fault 0 2 0x24 0 0x2005 [4]
  else s

/-- A modem receives: its engine runs, it is enabled and in use. -/
def modemOn (s : State) (d : Fin 8) (k : Fin 4) : Bool :=
  s.on d F.PLC_CTRL_RUN && s.on d F.PLC_M_CTRL_EN k && s.modemUsed d k && !s.hold

/-! ## Blanking (R281, R282) -/

/-- A receiver over one sample: mean square, samples still to blank, whether the symbol is blanked. A sample beyond K × the running RMS
is zeroed with the E samples after it; a blanked sample does not enter the average. Nothing is blanked before the average has begun (log
entry 58). -/
def blankSample (kk e : Nat) (a : Nat × Nat × Bool) (x : Int) : Nat × Nat × Bool :=
  let q := x.natAbs ^ 2 * 2 ^ 20
  if a.1 ≠ 0 ∧ kk ^ 2 * a.1 < q then (a.1, e, true)
  else if a.2.1 ≠ 0 then (a.1, a.2.1 - 1, true)
  else
    let n := a.1 * 4095 + q
    (n / 4096 + b2n (decide (n % 4096 ≠ 0) && Config.rmsUp a.1 x), 0, a.2.2)

/-- A receiver over the symbols of a frame: mean square, samples still to blank, blanked symbols. -/
def blankFrame (kk e : Nat) (symbols : List (List Int)) (a : Nat × Nat × Nat) : Nat × Nat × Nat :=
  symbols.foldl (fun (a : Nat × Nat × Nat) (l : List Int) =>
    let r := l.foldl (blankSample kk e) (a.1, a.2.1, false)
    (r.1, r.2.1, a.2.2 + b2n r.2.2)) a

/-- Receiver `m` of a die hears a frame: its blanked symbols, and the state after. -/
def blankRun (s : State) (d : Fin 8) (m : Fin 5) (kk e : Nat) (symbols : List (List Int)) : Nat × State :=
  let p := s.plc.get d
  let r := blankFrame kk e symbols (p.rms.get m, p.ext.get m, 0)
  (r.2.2, s.updPlc d (fun p => { p with rms := p.rms.set m r.1, ext := p.ext.set m r.2.1 }))

/-- A frame of `symbols` symbols after its preamble is impulse-hit (R282). -/
def impulseHit (symbols blanked : Nat) : Bool := decide (symbols < 4 * blanked)

/-- A frame into the next receive descriptor of a modem's ring, laid out as that of T1S; without a free one it is lost. -/
def modemRing (s : State) (d : Fin 8) (base head log2n : Fld) (k : Nat) (frame : List Byte) : State :=
  let h := s.rd d head k
  let a := descAddr (s.rd d base k) h
  if bitOf (s.sramWord d (a + 4)) 31 then
    let s := (s.bufPut d (s.sramWord d a) (frame.take 1522)).descDone d a (min 1522 frame.length) (decide (1522 < frame.length))
    s.wr d head ((h + 1) % 2 ^ (s.rd d log2n k + 2)) k
  else s

/-- Tone-map entry of a modem for a destination: mode and consecutive failures; a new destination starts in mini-ROBO (R278; log entry
58). -/
def toneGet (s : State) (d : Fin 8) (k : Fin 4) (peer : Nat) : Nat × Nat :=
  (((s.plc.get d).tone.get k).find? (fun e => e.1 == peer)).elim (0, 0) (·.2)

/-- A tone-map entry written; MODE shows it (R278). -/
def toneSet (s : State) (d : Fin 8) (k : Fin 4) (peer mode fails : Nat) : State :=
  (s.updPlc d (fun p => { p with tone := upd p.tone k (fun l => l.filter (fun e => e.1 != peer) ++ [(peer, mode, fails)]) })).wr d
    F.PLC_M_STAT_MODE mode k

/-- A frame of a destination that failed and is not impulse-hit: the third in a row steps one mode down (R278). -/
def toneFail (s : State) (d : Fin 8) (k : Fin 4) (peer : Nat) : State :=
  let e := s.toneGet d k peer
  if e.2 + 1 < 3 then s.toneSet d k peer e.1 (e.2 + 1) else s.toneSet d k peer (e.1 - 1) 0

/-- Whether the acknowledgement of the last frame reports every block as failed (R282). -/
def setNack (s : State) (d : Fin 8) (k : Fin 4) (b : Bool) : State := s.updPlc d (fun p => { p with nack := p.nack.set k b })

/-- VEHICLE_FRAME_RECEIVE of a peer, by the samples of its symbols after the preamble. The command does not carry the frame's bytes:
their number and values are free (log entry 58). -/
def vehicleFrame (s : State) (d : Fin 8) (k : Fin 4) (peer : Nat) (symbols : List (List Int)) (failed : Bool) : State :=
  if !s.modemOn d k then s
  else
    let r := s.blankRun d ⟨k.val, by omega⟩ (max 4 (s.rd d F.PLC_M_CTRL_BLANK_K k)) (s.rd d F.PLC_M_CTRL_BLANK_EXT k) symbols
    let s := r.2.wr d F.PLC_M_CNT_BLANKED ((s.rd d F.PLC_M_CNT_BLANKED k + r.1) % 65536) k
    if impulseHit symbols.length r.1 then (s.wrapCnt d F.PLC_M_CNT_IH_FRAMES k).setNack d k true
    else if failed then (s.toneFail d k peer).setNack d k false
    else
      let x := s.freeWord
      let y := x.2.freeBytes (x.1.toNat % 1523)
      let s := (y.2.toneSet d k peer (s.toneGet d k peer).1 0).setNack d k false
      s.modemRing d F.PLC_M_RXBASE F.PLC_M_HEADS_RXHEAD F.PLC_M_LOG2N_LOG2N k y.1

/-- ROBO_MODE_STEP_UP toward a peer: the run of failures stays (R278). -/
def roboUp (s : State) (d : Fin 8) (k : Fin 4) (peer : Nat) : State :=
  if !s.modemOn d k then s
  else
    let e := s.toneGet d k peer
    s.toneSet d k peer (min 2 (e.1 + 1)) e.2

/-! ## SLAC (R283, R284) -/

/-- Herd node modes and a SLAC run in progress for the peer of a twin pair (R291, R444). -/
def shareHerd (s : State) (run : Option Nat) : State :=
  s.stream (.herdModes ((List.range 30).map (fun i => (i + 1, s.rd 0 F.HLM_NODE_MODE i))) run)

/-- SLAC_SET_SEND: a set with the profile of attenuations in dB, whether or not the port awaits a vehicle (R283). -/
def slacSet (s : State) (d : Fin 8) (k : Fin 4) (run : Nat) (profile : List Nat) : State :=
  if s.modemOn d k && s.on d F.PLC_LOAD_STAT_IMG_OK && s.on d F.PLC_M_CTRL_SLAC_EN k then
    let s := if s.slac.any (fun x => x.run == run) then s else s.shareHerd (some run)
    { s with slac := s.slac ++ [{ run := run, port := (portOf d k).val, profile := profile }] }
  else s

/-- A port awaits a vehicle (R284). -/
def awaiting (s : State) (p : Fin 32) : Bool :=
  let d := Port.die p
  let k := Port.loc p
  let st := s.psState d k
  let pil := s.rd d F.PIL_P_STAT_STATE k
  decide (s.portType d k = 1) && decide (st = 1 ∨ st = 2) && decide (pil = 1 ∨ pil = 2) && !s.on d F.PLC_M_STAT_MATCHED k

/-- A set's mean attenuation as a sum and a count; of an empty profile 0 (log entry 58). -/
def setSum (x : SlacSet) : Int := Int.ofNat (x.profile.foldl (fun (a b : Nat) => a + b) 0)
def setLen (x : SlacSet) : Int := Int.ofNat (max 1 x.profile.length)

/-- How much the mean of `b` exceeds that of `a`, times the product of their counts. -/
def meanGap (a b : SlacSet) : Int := setSum b * setLen a - setSum a * setLen b

/-- The set with the lower mean; of equal ones the first. -/
def lowerSet (a b : SlacSet) : SlacSet := if meanGap a b < 0 then b else a

/-- The best set of a run and the best of the others (R284). -/
def slacBest (l : List SlacSet) : Option (SlacSet × Option SlacSet) :=
  match l with
  | [] => none
  | a :: t =>
    let best := t.foldl lowerSet a
    match l.erase best with
    | [] => some (best, none)
    | b :: u => some (best, some (u.foldl lowerSet b))

/-- The SLAC word of a port that heard the run (R284). An ambiguous run chooses no port and leaves WINNER (log entry 58). -/
def slacWrite (s : State) (x : SlacSet) (best : Option Nat) (gap : Nat) : State :=
  let d : Fin 8 := ⟨x.port / 4 % 8, Nat.mod_lt _ (by decide)⟩
  let k := x.port % 4
  let s := (s.wr d F.PLC_M_SLAC_MEAN (min 255 (Config.divOpen 284 (setSum x) (setLen x)).toNat) k).wr d F.PLC_M_SLAC_GAP gap k
  match best with
  | none => s.wr d F.PLC_M_SLAC_RESULT 2 k
  | some p =>
    let s := (s.wr d F.PLC_M_SLAC_RESULT (if p = x.port then 1 else 3) k).wr d F.PLC_M_SLAC_WINNER p k
    if p = x.port then s.wr d F.PLC_M_STAT_MATCHED 1 k else s

/-- SLAC_DECISION by the meter head; sets of a unit without the antler claim are not used (R283, R284). GAP of a run with one set is not
stated: a free value (log entry 58). -/
def slacDecision (s : State) (run : Nat) : State :=
  let l := s.slac.filter (fun x => x.run == run)
  match slacBest l with
  | none => s
  | some (best, second) =>
    if !s.meter.running then s
    else if !s.outEn then { s with slac := s.slac.filter (fun x => x.run != run) }
    else
      let p : Fin 32 := ⟨best.port % 32, Nat.mod_lt _ (by decide)⟩
      let wide := match second with
        | some b => decide (Int.ofNat s.meter.site.slacMargin * setLen best * setLen b ≤ meanGap best b)
        | none => true
      let g : Nat × State := match second with
        | some b => (min 255 (Config.divOpen 284 (meanGap best b) (setLen best * setLen b)).toNat, s)
        | none => ((s.freeWord.1.toNat) % 256, s.freeWord.2)
      let s := g.2
      let win : Option Nat := if s.awaiting p && wide then some best.port else none
      let s := { s with slac := s.slac.filter (fun x => x.run != run) }
      let s := l.foldl (fun (s : State) (x : SlacSet) => s.slacWrite x win g.1) s
      s.meterLog 0x0D (win.getD 0xFF) [Int.ofNat run, Int.ofNat (win.getD 0xFF), Int.ofNat g.1]

/-! ## Herd line (R286 to R290) -/

/-- The link runs: enabled, on AC, its modem loaded and in use (R49, R279, R286). -/
def herdUp (s : State) : Bool :=
  s.on 0 F.HLM_CTRL_EN && s.on pkgDie F.PKG_PWR_AC_INPUT && s.on 0 F.PLC_CTRL_RUN && !s.hold && !s.isRetired 0 2 0x24 0 &&
    decide (s.pkg.die.get 0 = .running)

/-- The master may transmit: the link runs and the unit holds the antler claim (R245). -/
def herdSends (s : State) : Bool := s.herdUp && s.outEn

/-- One bit into a CRC-8 with polynomial 0x07, most significant bit first or its reflection. -/
def crc8Bit (msb : Bool) (c : Nat) (b : Bool) : Nat :=
  if msb then (if bitOf c 7 != b then (c * 2 % 256) ^^^ 0x07 else c * 2 % 256)
  else if bitOf c 0 != b then (c / 2) ^^^ 0xE0 else c / 2

/-- CRC-8 over bits [23:0] of a herd header (R287; log entry 58). -/
def crc8 (low : Nat) : Nat :=
  let bit (i : Nat) : Bool := bitOf low (if Config.herdCrcMsbFirst then 23 - i else i)
  ((List.range 24).foldl (fun (c i : Nat) => crc8Bit Config.herdCrcMsbFirst c (bit i)) (Config.herdCrcStart % 256)) ^^^
    (Config.herdCrcXor % 256)

/-- Data bits of a symbol in a payload mode (R286). -/
def herdBits (mode : Nat) : Nat := if mode = 0 then 24 else if mode = 1 then 6 else 4

/-- Whole symbols of a payload with its CRC (R287). -/
def herdSymbols (mode len : Nat) : Nat := if len = 0 then 0 else (8 * (len + 2) + herdBits mode - 1) / herdBits mode

/-- The header word of a master frame (R287). A payload of 128 bytes does not fit field L: its value there is free (log entry
58). -/
def herdHeader (dest mode len seq free : Nat) : Word :=
  let l := if len < 128 then len else free % 128
  let low := dest + mode * 1024 + l * 16384 + seq * 2097152
  BitVec.ofNat 32 (low + crc8 low * 16777216)

/-- A frame leaves the master. -/
def herdSend (s : State) (dest mode : Nat) (payload : List Byte) (seq : Nat) : State :=
  let x := s.freeWord
  let s := if payload.length < 128 then s else x.2
  let w := herdHeader dest mode payload.length seq x.1.toNat
  s.updHerd (fun h =>
    { h with sent := some (w, if payload.isEmpty then [] else withCrc payload, herdSymbols mode payload.length) })

/-- Copy of a node's frame on its way (R288). -/
def herdTransmit (s : State) (p : HerdPoll) : State :=
  (s.herdSend p.node (s.rd 0 F.HLM_NODE_MODE (p.node - 1)) p.payload p.seq).updHerd (fun h => { h with poll := some p })

/-- A new frame to a node, when nothing else is under way (R288, R289). -/
def herdStart (s : State) (node : Nat) (payload : List Byte) : State :=
  if node = 0 ∨ 30 < node ∨ 128 < payload.length ∨ !s.herdSends ∨ s.herd.poll.isSome ∨ s.herd.bcast.isSome then s
  else
    let q := s.herd.seq
    (s.updHerd (fun h => { h with seq := (q + 1) % 8 })).herdTransmit
      { node := node, seq := q, payload := payload, retries := 0, counted := false, answered := false }

/-- A node's mode changed (R290). -/
def herdMode (s : State) (node mode : Nat) : State :=
  if s.rd 0 F.HLM_NODE_MODE (node - 1) = mode then s
  else ((s.wr 0 F.HLM_NODE_MODE mode (node - 1)).wr 0 F.HLM_EVT_MODE_CHG 1).shareHerd none

/-- The quiet time of a node begins anew. -/
def herdNoise (s : State) (node : Nat) : State :=
  if h : node - 1 < 30 then s.updHerd (fun x => { x with quiet := x.quiet.set (node - 1) s.now h }) else s

/-- An impulse-hit frame of a node: the run, and fourfold or sixfold from the next frame (R290). -/
def herdImpulse (s : State) (node : Nat) : State :=
  let i := node - 1
  let s := (s.wrapCnt 0 F.HLM_CNT_IH_FRAMES).satCnt 0 F.HLM_NODE_IH_RUN i
  let n := s.rd 0 F.HLM_NODE_IH_RUN i
  let m := s.rd 0 F.HLM_NODE_MODE i
  let s := if 6 ≤ n ∧ m = 1 then s.herdMode node 2 else if 4 ≤ n ∧ m = 0 then s.herdMode node 1 else s
  s.herdNoise node

/-- A frame that failed without impulse hit: after three one mode lower (R290). -/
def herdFail (s : State) (node : Nat) : State :=
  let i := node - 1
  let n := s.rd 0 F.HLM_NODE_FAIL_RUN i + 1
  let s := if n < 3 then s.wr 0 F.HLM_NODE_FAIL_RUN n i
    else (s.wr 0 F.HLM_NODE_FAIL_RUN 0 i).herdMode node (min 2 (s.rd 0 F.HLM_NODE_MODE i + 1))
  s.herdNoise node

/-- Unanswered polls of a node. -/
def herdMissed (s : State) (node n : Nat) : State :=
  if h : node - 1 < 30 then s.updHerd (fun x => { x with missed := x.missed.set (node - 1) n h }) else s

/-- The frame is dropped; a node that answered none of 10 consecutive polls is lost (R288, R290). -/
def herdDrop (s : State) (p : HerdPoll) : State :=
  let s := ((s.satCnt 0 F.HLM_CNT_DROPPED).wr 0 F.HLM_EVT_DROP 1).updHerd (fun h => { h with poll := none })
  if p.answered then s
  else
    let n := s.herd.missed.toList.getD (p.node - 1) 0 + 1
    let s := s.herdMissed p.node n
    if 10 ≤ n ∧ s.on 0 F.HLM_NODE_PRESENT (p.node - 1) then
      (s.wr 0 F.HLM_NODE_PRESENT 0 (p.node - 1)).wr 0 F.HLM_EVT_NODE_LOST 1
    else s

/-- Retransmission, or the drop after RETRY_MAX of them (R288). -/
def herdRetry (s : State) (p : HerdPoll) : State :=
  if s.rd 0 F.HLM_CTRL_RETRY_MAX ≤ p.retries ∨ !s.herdSends then s.herdDrop p
  else s.herdTransmit { p with retries := p.retries + 1, counted := false }

/-- A node has answered: it is present and its missed polls restart. -/
def herdPresent (s : State) (node : Nat) : State := (s.wr 0 F.HLM_NODE_PRESENT 1 (node - 1)).herdMissed node 0

/-- The header of a node's frame to the master checks: its CRC-8, destination 0, the node as source (R287). -/
def herdHeaderOk (node : Nat) (w : Word) : Bool :=
  decide (crc8 (w.toNat % 16777216) = bitsOf w.toNat 24 8) && decide (bitsOf w.toNat 0 5 = 0) && decide (bitsOf w.toNat 5 5 = node)

/-- The payload of a node's frame: none where its CRC or length is wrong. A payload of 128 bytes has no value of L that the spec
states (log entry 58). -/
def herdPayload (f : HerdFrame) : Option (List Byte) :=
  let l := bitsOf f.header.toNat 14 7
  let pay := f.payload.take (f.payload.length - 2)
  if l = 0 then some []
  else if (f.payload.length = l + 2 ∨ f.payload.length = 130) ∧ withCrc pay = f.payload then some pay
  else none

/-- A reply that the master takes: NAK with and without IH, or a good frame (R288, R290). -/
def herdTaken (s : State) (p : HerdPoll) (f : HerdFrame) : State :=
  let node := p.node
  if bitOf f.header.toNat 12 then
    let s := s.herdPresent node
    (if bitOf f.header.toNat 13 then s.herdImpulse node else s.herdFail node).herdRetry { p with answered := true }
  else
    match herdPayload f with
    | none => (s.herdFail node).updHerd (fun h => { h with poll := some { p with counted := true } })
    | some reply =>
      let s := s.modemRing 0 F.HLM_RXBASE F.HLM_HEADS_RXHEAD F.HLM_LOG2N_LOG2N 0 reply
      let s := (s.wr 0 F.HLM_NODE_IH_RUN 0 (node - 1)).wr 0 F.HLM_NODE_FAIL_RUN 0 (node - 1)
      (s.herdPresent node).updHerd (fun h => { h with poll := none })

/-- HERD_REPLY. A frame whose header fails is a lost frame, and an impulse-hit one is treated as not received (R282, R291): the poll
then waits for its timeout. -/
def herdReply (s : State) (node : Nat) (f : HerdFrame) : State :=
  match s.herd.poll with
  | none => s
  | some p =>
    if p.node ≠ node ∨ !s.herdUp then s
    else
      let r := s.blankRun 0 4 8 2 f.symbols
      let s := r.2
      if !herdHeaderOk node f.header then s
      else if impulseHit f.symbols.length r.1 then
        (s.herdImpulse node).updHerd (fun h => { h with poll := some { p with counted := true } })
      else s.herdTaken p f

/-- HERD_REPLY_TIMEOUT. -/
def herdTimeout (s : State) (node : Nat) : State :=
  match s.herd.poll with
  | none => s
  | some p => if p.node ≠ node then s else (if p.counted then s else s.herdFail node).herdRetry p

/-- The most robust mode kept for any present node (R289). -/
def herdWorst (s : State) : Nat :=
  (List.range 30).foldl (fun (a i : Nat) => if s.on 0 F.HLM_NODE_PRESENT i then max a (s.rd 0 F.HLM_NODE_MODE i) else a) 0

/-- HERD_BROADCAST: the first copy. -/
def herdBroadcast (s : State) (payload : List Byte) : State :=
  if 128 < payload.length ∨ !s.herdSends ∨ s.herd.poll.isSome ∨ s.herd.bcast.isSome then s
  else
    let q := s.herd.seq
    let n := max 1 (s.rd 0 F.HLM_CTRL_BCAST_REP) - 1
    (s.herdSend 31 s.herdWorst payload q).updHerd (fun h =>
      { h with seq := (q + 1) % 8, bcast := if n = 0 then none else some (payload, q, n) })

/-- HERD_BROADCAST_COPY. -/
def herdCopy (s : State) : State :=
  match s.herd.bcast with
  | none => s
  | some (payload, q, n) =>
    if !s.herdSends then s.updHerd (fun h => { h with bcast := none })
    else (s.herdSend 31 s.herdWorst payload q).updHerd (fun h => { h with bcast := if n ≤ 1 then none else some (payload, q, n - 1) })

/-- HERD_QUIET_RESTORE. -/
def herdQuiet (s : State) (node : Nat) : State := if node = 0 then s else s.herdMode node 0

end Sys2Proof.Machine.State

namespace Sys2Proof.Machine

/-- LOAD (R279). -/
def execLoad (d : Die) (s : State) : Host.Outcome State Fault Refusal := .next (s.plcLoad d)

/-- MODEM_LOAD_DONE (R279). -/
def execModemLoadDone (d : Die) (s : State) : Host.Outcome State Fault Refusal := .next (s.plcLoadDone d)

/-- MODEM_WATCHDOG (R280). -/
def execModemWatchdog (d : Die) (k : Fin 5) (s : State) : Host.Outcome State Fault Refusal := .next (s.modemWatchdog d k)

/-- VEHICLE_FRAME_RECEIVE (R278, R282). -/
def execVehicleFrameReceive (d : Die) (k : LPort) (peer : Nat) (symbols : List (List Int)) (failed : Bool) (s : State) :
    Host.Outcome State Fault Refusal := .next (s.vehicleFrame d k peer symbols failed)

/-- ROBO_MODE_STEP_UP (R278). -/
def execRoboModeStepUp (d : Die) (dest : ModemPeer) (s : State) : Host.Outcome State Fault Refusal :=
  .next (s.roboUp d dest.port dest.peer)

/-- SLAC_SET_SEND (R283). -/
def execSlacSetSend (d : Die) (k : LPort) (run : Nat) (profile : List Nat) (s : State) : Host.Outcome State Fault Refusal :=
  .next (s.slacSet d k run profile)

/-- SLAC_DECISION (R284). -/
def execSlacDecision (run : Nat) (s : State) : Host.Outcome State Fault Refusal := .next (s.slacDecision run)

/-- HERD_POLL (R288): of a present node. -/
def execHerdPoll (node : Fin 31) (payload : List Byte) (s : State) : Host.Outcome State Fault Refusal :=
  .next (if s.on 0 F.HLM_NODE_PRESENT (node.val - 1) then s.herdStart node.val payload else s)

/-- HERD_REPLY (R288, R290). -/
def execHerdReply (node : Fin 31) (f : HerdFrame) (s : State) : Host.Outcome State Fault Refusal :=
  .next (s.herdReply node.val f)

/-- HERD_REPLY_TIMEOUT (R288). -/
def execHerdReplyTimeout (node : Fin 31) (s : State) : Host.Outcome State Fault Refusal := .next (s.herdTimeout node.val)

/-- HERD_BROADCAST (R289). -/
def execHerdBroadcast (payload : List Byte) (s : State) : Host.Outcome State Fault Refusal := .next (s.herdBroadcast payload)

/-- HERD_BROADCAST_COPY (R289). -/
def execHerdBroadcastCopy (s : State) : Host.Outcome State Fault Refusal := .next s.herdCopy

/-- HERD_LOST_NODE_POLL (R290): a node not present is polled with a frame without payload. -/
def execHerdLostNodePoll (node : Fin 31) (s : State) : Host.Outcome State Fault Refusal :=
  .next (if s.on 0 F.HLM_NODE_PRESENT (node.val - 1) then s else s.herdStart node.val [])

/-- HERD_QUIET_RESTORE (R290). -/
def execHerdQuietRestore (node : Fin 31) (s : State) : Host.Outcome State Fault Refusal := .next (s.herdQuiet node.val)

end Sys2Proof.Machine
end

