-- ==== Sys2Proof/Machine/TimeUnit.lean ====
section
/-!
DEFINITION. The time unit: the counter, sources and servo, steps, the real-time clock, Ethernet timestamps, pulse outputs,
captures (R308 to R322, R383, R384, R455).
-/

namespace Sys2Proof.Machine.State

/-- The time unit of a die changed. -/
def updTsu (s : State) (d : Fin 8) (f : Tsu → Tsu) : State := { s with tsu := upd s.tsu d f }

/-- The time discipline changed. -/
def updServo (s : State) (f : Servo → Servo) : State := { s with servo := f s.servo }

/-! ## The counter (R309, R311) -/

/-- The counter of a die runs: the lead die's unless its clocks stop, on hold-up too (R52), a port die's once it is out of the
wipe (R80, R308). -/
def tsuRuns (s : State) (d : Fin 8) : Bool :=
  match s.pkg.die.get d with
  | .boot => true
  | .running => true
  | .wiping => decide (d = 0)
  | .off => decide (d = 0) && decide (s.pkg.pd = .removed)
  | .thermal => false

/-- What the counter gains in a TIME cycle, in 2^-32 ns, under correction `c` in ppt; the rounding of a remainder below that is
not stated (log entry 28). -/
def cycleGain (c : Int) : Int := Config.divOpen 311 (8 * 2 ^ 32 * (10 ^ 12 + c)) (10 ^ 12)

/-- The counter of a die after a grid edge's 1 250 TIME cycles: wraps of TSU_NS go to TSU_TALLY with WRAP, and a wrap of TSU_TALLY
adds 2^48 to the device's EPOCH. -/
def counterEdge (s : State) (d : Fin 8) : State :=
  let t := s.tsu.get d
  let total : Int := Int.ofNat (s.devTime d) * 2 ^ 32 + Int.ofNat t.frac + 1250 * cycleGain t.corr
  let n := total.toNat
  let ns := n / 2 ^ 32
  let wrapped := decide (s.rd d F.TSU_TALLY ≠ ns / 2 ^ 32)
  let s := (s.updTsu d (fun t => { t with frac := n % 2 ^ 32 })).wr d F.TSU_NS (ns % 2 ^ 32)
  let s := s.wr d F.TSU_TALLY (ns / 2 ^ 32 % 65536)
  let s := if wrapped then s.wr d F.TSU_EVT_WRAP 1 else s
  if d = 0 ∧ 2 ^ 48 ≤ ns then s.setEpoch (s.epoch + 2 ^ 48) else s

/-- INCREMENT_APPLY at a die: the increments whose tick has come. -/
def applyIncrement (s : State) (d : Fin 8) : State :=
  let now := s.rd d F.TSU_TICK
  let due := (s.tsu.get d).queue.filter (fun e => decide (e.1 ≤ now))
  match due.getLast? with
  | none => s
  | some e => s.updTsu d (fun t => { t with corr := e.2.1 + e.2.2, queue := t.queue.filter (fun e => decide (now < e.1)) })

/-- TIME_INCREMENT_MESSAGE: the oldest message of the lead die arrives. Its increment waits for its tick; a counter that differs
is copied at the next tick (R311). -/
def incrementMessage (s : State) (d : Fin 8) : State :=
  match (s.tsu.get d).msgs with
  | [] => s
  | (tick, lead, own, tc, ap) :: rest =>
    let s := s.updTsu d (fun t => { t with msgs := rest, queue := t.queue ++ [(tick, tc, ap)], resync := t.resync || decide (lead ≠ own) })
    (s.wrI d F.TSU_TCOMP tc).wrI d F.TSU_APPLIED ap

/-- A port die's part of a site tick: XSYNC_OK, and the copy that a difference asked for. -/
def resyncTick (s : State) (d : Fin 8) : State :=
  if d = 0 || !s.tsuRuns d then s
  else if (s.tsu.get d).resync then
    let s := (s.wr d F.TSU_NS (s.rd 0 F.TSU_NS)).wr d F.TSU_TALLY (s.rd 0 F.TSU_TALLY)
    let f := (s.tsu.get 0).frac
    ((s.updTsu d (fun t => { t with frac := f, resync := false })).wr d F.TSU_STAT_XSYNC_OK 0).wr d F.TSU_EVT_XSYNC 1
  else s.wr d F.TSU_STAT_XSYNC_OK 1

/-! ## Sources and servo (R314 to R316, R455) -/

/-- 20 s and 1 µs as residuals, in 10^-7 ns. -/
def farResid : Int := 200000000000000000
def slewResid : Int := 10000000000

/-- The residual of a domain lies within 20 s. -/
def nearDom (s : State) (d : Fin 2) : Bool := decide ((s.servo.resid.get d).natAbs ≤ farResid.natAbs)

/-- A domain is valid: its VALID bit, which a residual timeout clears. -/
def domValid (s : State) (d : Fin 2) : Bool := s.on 0 F.TSU_DOM_CFG_VALID d

/-- The selected domain. -/
def selDom (s : State) : Fin 2 := if s.on 0 F.TSU_CTRL_SEL then 1 else 0

/-- A time source entered: SRC_CHG, STEP_HELD on entering source 5; the meter head logs it and marks what holds (R315, R352). -/
def setSource (s : State) (n : Nat) : State :=
  let old := s.timeSrc
  if old = n then s
  else
    let s := (s.wr 0 F.TSU_STAT_SRC n).wr 0 F.TSU_EVT_SRC_CHG 1
    let s := if n = 5 then s.wr 0 F.TSU_EVT_STEP_HELD 1 else s
    if s.meter.running then (s.meterLog 0x04 0xFF [Int.ofNat old, Int.ofNat n]).markNow else s

/-- Residual writes of the tick just ended take effect (R314). -/
def takeResiduals (s : State) : State :=
  (List.finRange 2).foldl (fun (s : State) (d : Fin 2) =>
    match s.servo.pend.get d with
    | some v => s.updServo (fun x => { x with resid := x.resid.set d (v * 10000000), pend := x.pend.set d none })
    | none => s) s

/-- EPOCH set so that the present time is `t` ns; both residuals are lowered by the amount (R316, R317). -/
def stepTo (s : State) (t : Int) : State :=
  let told := s.tai 0
  let s := s.setEpoch (t - Int.ofNat (s.devTime 0)).toNat
  let s := s.updServo (fun x => { x with resid := x.resid.map (fun r => r - (t - told) * 10000000) })
  s.meterStep told t

/-- AUTO: the other domain at the tick in which the selected one is lost (R316; log entry 52). -/
def autoSelect (s : State) : State :=
  let sel := s.selDom
  let other : Fin 2 := 1 - sel
  let had := s.bit 0 F.TSU_STAT_VALID sel
  if s.on 0 F.TSU_CTRL_AUTO && had && !s.domValid sel && s.domValid other && s.nearDom other then s.wr 0 F.TSU_CTRL_SEL other else s

/-- The first valid domain of a device without a time is adopted (R316): the selected one where both are. -/
def adopt (s : State) : State :=
  let sel := s.selDom
  let d : Option (Fin 2) := if s.domValid sel then some sel else if s.domValid (1 - sel) then some (1 - sel) else none
  match d with
  | none => s
  | some d =>
    let s := s.wr 0 F.TSU_CTRL_SEL d
    (s.stepTo (s.tai 0 + s.servo.resid.get d / 10000000)).setSource d

/-- The source of a tick (R315). -/
def nextSource (s : State) : Nat :=
  if s.domValid s.selDom then (if s.nearDom s.selDom then s.selDom else 5)
  else if s.timeSrc = 3 ∨ s.timeSrc = 4 then s.timeSrc
  else 2

/-- A slew toward a residual, ppt: R × 1000 / TAU within SLEW_MAX; its rounding is not stated (log entry 28). -/
def slewOf (s : State) (r : Int) : Int :=
  let m : Int := Int.ofNat (s.rd 0 F.TSU_SERVO_SLEW_MAX) * 1000000
  clampI (-m) m (Config.divOpen 314 r (Int.ofNat (max 1 (s.rd 0 F.TSU_SERVO_TAU)) * 10000))

/-- Rate estimate of a domain, ppt. -/
def domRate (s : State) (d : Fin 2) : Int := sext 32 (s.rd 0 F.TSU_DOM_RATE d)

/-- Residual to the KEEP real-time clock, 10^-7 ns. -/
def rtcResid (s : State) : Int := (Int.ofNat s.rtcNs - s.tai 0) * 10000000

/-- The correction of a tick, ppt, and the rate it leaves for holdover. -/
def correction (s : State) (follow : Bool) : Int × Int :=
  if follow then (s.slewOf (s.servo.peer.getD 0), s.servo.rateLast)
  else
    match s.timeSrc with
    | 0 => (s.domRate 0 + s.slewOf (s.servo.resid.get 0), s.domRate 0)
    | 1 => (s.domRate 1 + s.slewOf (s.servo.resid.get 1), s.domRate 1)
    | 3 => (s.slewOf s.rtcResid, s.servo.rateLast)
    | _ => (s.servo.rateLast, s.servo.rateLast)

/-- A standby or held unit with its link up follows its peer (R455). -/
def follows (s : State) : Bool := decide (2 ≤ s.role) && s.linkUp

/-- The servo of a site tick: validity, selection, source, correction, residuals (R314 to R316). -/
def servoTick (s : State) : State :=
  let s := s.takeResiduals
  let follow := s.follows
  let s :=
    if follow then s.setSource s.twin.peerSrc
    else
      let s := s.autoSelect
      let s := if s.timeSrc = 4 then s.adopt else s
      s.setSource s.nextSource
  let s := s.wr 0 F.TSU_STAT_VALID (b2n (s.domValid 0) + 2 * b2n (s.domValid 1))
  let c := s.correction follow
  let r0 := s.domRate 0
  let r1 := s.domRate 1
  let s := s.updServo (fun x =>
    { x with rateLast := c.2, peer := x.peer.map (fun p => p - c.1),
             resid := (x.resid.set (0 : Fin 2) (x.resid.get 0 - (c.1 - r0))).set (1 : Fin 2) (x.resid.get 1 - (c.1 - r1)) })
  let s := s.wrI 0 F.TSU_APPLIED c.1
  s.wrB 0 F.TSU_STAT_SLEWING (decide (slewResid.natAbs ≤ (s.servo.resid.get s.selDom).natAbs))

/-- The increment of a tick on its way: to the lead die's own unit, and in a message to every port die (R311). -/
def sendIncrement (s : State) : State :=
  let at_ := s.rd 0 F.TSU_TICK + 2
  let tc := s.rdI 0 F.TSU_TCOMP
  let ap := s.rdI 0 F.TSU_APPLIED
  let count (s : State) (d : Fin 8) : Nat := s.devTime d * 2 ^ 32 + (s.tsu.get d).frac
  let lead := count s 0
  let s := s.updTsu 0 (fun t => { t with queue := t.queue ++ [(at_, tc, ap)] })
  s.onDies (fun s d =>
    if d ≠ 0 && decide (s.pkg.die.get d = .running) then
      let own := count s d
      (s.updTsu d (fun t => { t with msgs := t.msgs ++ [(at_, lead, own, tc, ap)] })).xlkSent 0 1 (Config.xlkWords 2)
    else s)

/-! ## Commands of the servo -/

/-- RESIDUAL_WRITE: OFS_HI written over the low word written before. -/
def residualWrite (s : State) (d : Fin 2) (hi : Word) : State :=
  let lo := s.rd 0 F.TSU_DOM_OFS d 0
  let v := sext 64 (lo + hi.toNat * 2 ^ 32)
  (s.updServo (fun x => { x with pend := x.pend.set d (some v) })).wr 0 F.TSU_DOM_OFS hi.toNat d 1

/-- DOMAIN_TIMEOUT; TSU_STAT.VALID and the selection follow at the next tick (R316, log entry 52). -/
def domTimeout (s : State) (d : Fin 2) : State := s.wr 0 F.TSU_DOM_CFG_VALID 0 d

/-- HOLDOVER_EXPIRY: the real-time clock, or unset where it holds no time. -/
def holdoverEnd (s : State) : State :=
  if s.timeSrc = 2 then s.setSource (if s.on 0 F.TSU_RTC_SUB_SET then 3 else 4) else s

/-- DOMAIN_SELECT. -/
def domSelect (s : State) (r : Requester) (sel : Fin 2) : State :=
  match r with
  | .app _ _ false =>
    if s.domValid sel && s.nearDom sel then s.wr 0 F.TSU_CTRL_SEL sel else s.wr 0 F.TSU_EVT_SEL_REFUSED 1
  | _ => s.accessEvent (whoDie r) (regAddr 0 F.TSU_CTRL_SEL.off) (whoCode r)

/-- STEP_APPLY, at a site tick after an accepted step. -/
def stepApply (s : State) : State :=
  match s.servo.step with
  | some t =>
    if s.rd 0 F.TSU_GRID = 0 ∧ s.servo.tickDue = false then
      ((s.updServo (fun x => { x with step := none })).stepTo t).wr 0 F.TSU_EVT_EPOCH_STEP 1
    else s
  | none => s

/-- RTC_REWRITE: at a whole TAI second, in source 0 or 1. -/
def rtcRewrite (s : State) : State := if s.timeSrc ≤ 1 then s.setRtc (s.tai 0) else s

/-- Who may read the counter of die `d` (R13, R310): machine-mode cores and the host port, the safety core on its own die, and
the debug port while it answers; user mode is granted nothing (log entry 15). -/
def mayReadTime (s : State) (r : Requester) (d : Fin 8) : Bool :=
  match r with
  | .app _ _ user => !user
  | .hostPort => true
  | .safe e => e == d
  | .debug _ => s.debugOn
  | .loop _ => false
  | .meter _ => false

/-- TSU_NS_READ: the reader's own latch takes TALLY and EPOCH, and the counter is returned (R310). An absent die is
an access fault and returns nothing (R24); a read outside the reader's rights returns zero (R13). -/
def nsRead (s : State) (r : Requester) (d : Fin 8) : State :=
  if !s.present d then { s.accessFault r (regAddr d F.TSU_NS.off) with hpiOut := [] }
  else if !s.mayReadTime r d then { s with hpiOut := [0] }
  else
    let b := keyBank r
    let v : BitVec 16 × DWord := (BitVec.ofNat 16 (s.rd d F.TSU_TALLY), BitVec.ofNat 64 s.epoch)
    { s.updTsu d (fun t => { t with latch := t.latch.filter (fun e => e.1 != b) ++ [(b, v)] }) with
      hpiOut := [s.word (fldAddr d F.TSU_NS 0 0)] }

/-! ## Ethernet timestamps (R313, R319) -/

/-- ETH_FRAME_RECEIVE. -/
def ethReceive (s : State) (m : Fin 2) (frame : List Byte) (sfd : Nat) : State :=
  let t := uns 48 (Int.ofNat sfd - Int.ofNat (s.rd 0 F.ETH_LAT_INGRESS m))
  s.updServo (fun x => { x with ethRx := x.ethRx.set m (some (frame, t)) })

/-- ETH_TX_TIMESTAMP. -/
def ethStamp (s : State) (m : Fin 2) (id : BitVec 16) (dom : Bool) (sfd : Nat) : State :=
  let q := s.servo.tsq.get m
  if 16 ≤ q.length then (s.wr 0 F.ETH_TSQ_STAT_OVF 1 m).satCnt 0 F.ETH_TSQ_STAT_DROPPED m
  else
    let e : TsEntry := { id := id, dom := dom, ts := (sfd + s.rd 0 F.ETH_LAT_EGRESS m) % 2 ^ 48 }
    (s.updServo (fun x => { x with tsq := x.tsq.set m (q ++ [e]) })).wr 0 F.ETH_TSQ_STAT_FILL (q.length + 1) m

/-- ETH_TSQ_POP. -/
def ethPop (s : State) (m : Fin 2) : State :=
  match s.servo.tsq.get m with
  | [] => { s with hpiOut := [0] }
  | e :: t =>
    let s := (s.updServo (fun x => { x with tsq := x.tsq.set m t })).wr 0 F.ETH_TSQ_STAT_FILL t.length m
    let s := (s.wr 0 F.ETH_TSQ_TS (e.ts % 2 ^ 32) m 0).wr 0 F.ETH_TSQ_TS (e.ts / 2 ^ 32) m 1
    { s with hpiOut := [BitVec.ofNat 32 (e.id.toNat + 65536 * b2n e.dom + 2 ^ 31)] }

/-! ## Pulse outputs (R320) -/

/-- PERIOD and WIDTH of an output, rounded down to 8 ns; values outside their ranges give times the spec does not state (log
entry 53). -/
def poTimes (s : State) (d n : Fin 8) : (Nat × Nat) × State :=
  let p := s.rd d F.TSU_PO_PW n 0 / 8 * 8
  let w := s.rd d F.TSU_PO_PW n 1 / 8 * 8
  let periodic := decide (s.rd d F.TSU_PO_CTRL_MODE n = 2)
  if (!periodic || decide (16 ≤ p)) && decide (8 ≤ w) && (!periodic || decide (w + 8 ≤ p)) then ((p, w), s)
  else
    let x := s.freeWord
    let y := x.2.freeWord
    ((x.1.toNat, y.1.toNat), y.2)

/-- A pulse output changed. -/
def setPo (s : State) (d n : Fin 8) (p : PulseOut) : State := s.updTsu d (fun t => { t with po := t.po.set n p })

/-- An output that is off, or has finished. -/
def poEnd (s : State) (d n : Fin 8) : State := (s.wr d F.TSU_PO_CTRL_ACTIVE 0 n).wr d F.TSU_PO_CTRL_ARM 0 n

/-- ARM written. -/
def poArm (s : State) (d n : Fin 8) : State :=
  let mode := s.rd d F.TSU_PO_CTRL_MODE n
  if mode = 0 ∨ mode = 3 then s
  else
    let start := s.rd d F.TSU_PO_START_LO n + s.rd d F.TSU_PO_START_HI_TALLY n * 2 ^ 32
    let now := s.devTime d
    let pol := s.on d F.TSU_PO_CTRL_POL n
    let missed := decide (start < now)
    let s := if missed then (s.wr d F.TSU_PO_CTRL_MISSED 1 n).wr d F.TSU_EVT_PO_MISSED 1 else s
    if missed ∧ mode = 1 then (s.poEnd d n).setPo d n { due := 0, rise := false, level := pol }
    else
      let x := s.poTimes d n
      let per := max 1 x.1.1
      let due := if missed then start + ((now - start) / per + 1) * per else start
      ((x.2.wr d F.TSU_PO_CTRL_ACTIVE 1 n).wr d F.TSU_PO_CTRL_ARM 1 n).setPo d n { due := due % 2 ^ 48, rise := true, level := pol }

/-- PULSE_EDGE: the edge that is due falls, trigger source 4 of the acquisition units (R331). -/
def poEdge (s : State) (d n : Fin 8) : State :=
  if !s.on d F.TSU_PO_CTRL_ACTIVE n then s
  else
    let o := (s.tsu.get d).po.get n
    let pol := s.on d F.TSU_PO_CTRL_POL n
    let x := s.poTimes d n
    let s := x.2.acqEvent d 4 n.val o.due
    if o.rise then s.setPo d n { due := (o.due + x.1.2) % 2 ^ 48, rise := false, level := !pol }
    else if s.rd d F.TSU_PO_CTRL_MODE n = 2 then
      s.setPo d n { due := (o.due + x.1.1 - x.1.2) % 2 ^ 48, rise := true, level := pol }
    else (s.poEnd d n).setPo d n { due := 0, rise := false, level := pol }

/-! ## Event capture (R321) -/

/-- CAPTURE_EVENT: every unit that selects the event latches device time. -/
def capture (s : State) (d : Fin 8) (src param : Nat) : State :=
  (List.finRange 8).foldl (fun (s : State) (n : Fin 8) =>
    let same := s.rd d F.TSU_CAP_CFG_SRC n == src && (src == 4 || src == 5 || s.rd d F.TSU_CAP_CFG_PARAM n == param)
    if src = 0 || !same then s
    else
      let t := s.devTime d
      let s := if s.on d F.TSU_CAP_TALLY_NEW n then s.wr d F.TSU_CAP_TALLY_OVR 1 n else s
      (((s.wr d F.TSU_CAP_NS (t % 2 ^ 32) n).wr d F.TSU_CAP_TALLY_TALLY (t / 2 ^ 32) n).wr d F.TSU_CAP_TALLY_NEW 1 n).wr d
        F.TSU_EVT_CAP 1) s

end Sys2Proof.Machine.State

namespace Sys2Proof.Machine

/-- INCREMENT_APPLY (R311). -/
def execIncrementApply (s : State) : Host.Outcome State Fault Refusal := .next (s.onDies (fun s d => s.applyIncrement d))

/-- TIME_INCREMENT_MESSAGE (R311). -/
def execTimeIncrementMessage (d : Die) (s : State) : Host.Outcome State Fault Refusal := .next (s.incrementMessage d)

/-- TSU_NS_READ (R310). -/
def execTsuNsRead (r : Requester) (d : Die) (s : State) : Host.Outcome State Fault Refusal := .next (s.nsRead r d)

/-- RESIDUAL_WRITE (R314). -/
def execResidualWrite (dom : Fin 2) (hi : Word) (s : State) : Host.Outcome State Fault Refusal := .next (s.residualWrite dom hi)

/-- DOMAIN_TIMEOUT (R315). -/
def execDomainTimeout (dom : Fin 2) (s : State) : Host.Outcome State Fault Refusal := .next (s.domTimeout dom)

/-- HOLDOVER_EXPIRY (R315). -/
def execHoldoverExpiry (s : State) : Host.Outcome State Fault Refusal := .next s.holdoverEnd

/-- DOMAIN_SELECT (R316). -/
def execDomainSelect (r : Requester) (sel : Fin 2) (s : State) : Host.Outcome State Fault Refusal := .next (s.domSelect r sel)

/-- STEP_APPLY (R317). -/
def execStepApply (s : State) : Host.Outcome State Fault Refusal := .next s.stepApply

/-- RTC_REWRITE (R318). -/
def execRtcRewrite (s : State) : Host.Outcome State Fault Refusal := .next s.rtcRewrite

/-- ETH_TX_TIMESTAMP (R319). -/
def execEthTxTimestamp (mac : Fin 2) (id : BitVec 16) (dom : Bool) (sfd : Nat) (s : State) : Host.Outcome State Fault Refusal :=
  .next (s.ethStamp mac id dom sfd)

/-- ETH_TSQ_POP (R319). -/
def execEthTsqPop (mac : Fin 2) (s : State) : Host.Outcome State Fault Refusal := .next (s.ethPop mac)

/-- ETH_FRAME_RECEIVE (R313). -/
def execEthFrameReceive (mac : Fin 2) (frame : List Byte) (sfd : Nat) (s : State) : Host.Outcome State Fault Refusal :=
  .next (s.ethReceive mac frame sfd)

/-- ARM (R320). -/
def execArm (d : Die) (n : Fin 8) (s : State) : Host.Outcome State Fault Refusal := .next (s.poArm d n)

/-- PULSE_EDGE (R320). -/
def execPulseEdge (d : Die) (n : Fin 8) (s : State) : Host.Outcome State Fault Refusal := .next (s.poEdge d n)

/-- CAPTURE_EVENT (R321). -/
def execCaptureEvent (d : Die) (src : Fin 7) (param : Fin 32) (s : State) : Host.Outcome State Fault Refusal :=
  .next (s.capture d src.val param.val)

end Sys2Proof.Machine
end

