-- ==== Sys2Proof/Machine/Tick.lean ====
section
/-!
DEFINITION. The 10 µs grid edge and the site tick: everything that advances with them (R168, R180, R182, R217, R265, R308,
R309, R314, R344, R409, R437, R444, R465).
-/

namespace Sys2Proof.Machine.State

/-- The minute count of a degraded port; at zero its stop (R409). -/
def degEdge (s : State) (d : Fin 8) (k : Fin 4) : State :=
  if s.on d F.SAF_P_STAT_DEGRADED k && s.on d F.SAF_P_STAT_DEG_LEFT k then
    if (s.safPort d k).degEdges + 1 < 6000000 then s.updSaf d k (fun p => { p with degEdges := p.degEdges + 1 })
    else
      let n := s.rd d F.SAF_P_STAT_DEG_LEFT k - 1
      let s := (s.wr d F.SAF_P_STAT_DEG_LEFT n k).updSaf d k (fun p => { p with degEdges := 0 })
      if n = 0 then s.degradedOut d k else s
  else s

/-- One port at a grid edge: frames of the period before have ended (log entry 8), and INJ_OFF is recorded (R267). -/
def portEdge (s : State) (d : Fin 8) (k : Fin 4) : State :=
  let s := (s.flushUrgent d k).updStl d k (fun l => { l with inPer := false })
  let s := (s.copperEdge d k)
  let s := if s.on d F.OXE_PORT_OVR_ACTIVE k then s.rampStep d k else s
  s.degEdge d k

/-- One running die at a grid edge: overrides, degraded time, generator, the timer source, contexts that wait for the edge (R180, R182,
R211). -/
def dieEdge (s : State) (d : Fin 8) : State :=
  if s.pkg.die.get d ≠ .running then s
  else
    let s := (s.onPorts (fun s k => s.portEdge d k)).sqEdge d 0 |>.sqEdge d 1
    let s := (s.genEdge d).timerEdge d
    s.waitEvent d 0 0

/-- The real-time clock over 10 µs: 0.32768 of its 1/32 768 s steps (R318). -/
def rtcEdge (s : State) : State :=
  let n := s.servo.rtcFrac + 327680
  if !s.on 0 F.TSU_RTC_SUB_SET then s
  else if n < 1000000 then s.updServo (fun x => { x with rtcFrac := n })
  else (s.updServo (fun x => { x with rtcFrac := n - 1000000 })).rtcAdd 1

/-- A grid edge at the counter of a die: device time and grid position (R308, R309). -/
def clockEdge (s : State) (d : Fin 8) : State :=
  if s.tsuRuns d then (s.counterEdge d).wr d F.TSU_GRID ((s.rd d F.TSU_GRID + 1) % 10) else s

/-- The tenth edge makes the site tick due (log entry 51). -/
def tickFalls (s : State) : State :=
  if s.rd 0 F.TSU_GRID = 0 ∧ s.tsuRuns 0 = true then s.updServo (fun x => { x with tickDue := true }) else s

/-- Memory errors that have arisen since the last edge (R190, R306): in a receive element of CAN the controller zeroes the data and
marks the element at once (log entry 116). -/
def upsetsIn (s : State) (l : List (Nat × Bool)) : State := l.foldl (fun (s : State) e => (s.upset e.1 e.2).canUpset e.1) s

/-- GRID_EDGE. With a tenth edge whose tick is still to come no time has passed (log entry 51). -/
def gridEdge (s : State) : State :=
  if s.servo.tickDue then s
  else
    let s := ({ s with freeIdx := s.freeIdx + 1 } : State).upsetsIn (Config.upsets s.freeIdx)
    let s := ({ s with now := s.now + 10000 } : State)
    let s := ((s.onDies (fun s d => s.clockEdge d)).rtcEdge).tickFalls
    ((s.onDies (fun s d => s.dieEdge d)).allocSecond).twinEdge

/-- A site tick at the counter of a die (R308, R311). -/
def clockTick (s : State) (d : Fin 8) : State := if s.tsuRuns d then (s.wrapCnt d F.TSU_TICK).resyncTick d else s

/-- A site tick at a running die: the meter core's message, contexts that the tick triggers or that wait for it (R168, R211, R344); C4's
activation is taken whole (log entry 55). -/
def dieTick (s : State) (d : Fin 8) : State := if s.pkg.die.get d = .running then ((s.meterSend d).trigAll d 2 (fun n => n != 4)).waitEvent d 1 0 else s

/-- SITE_TICK. -/
def siteTick (s : State) : State :=
  if !s.servo.tickDue then s
  else
    let s := s.updServo (fun x => { x with tickDue := false })
    let s := ((s.onDies (fun s d => s.clockTick d)).servoTick.tcomp).sendIncrement
    let s := (s.paramTick.twinTick).releaseDies
    ((s.onDies (fun s d => s.dieTick d)).onDies (fun s d => s.sendReport d)).allocFirst

end Sys2Proof.Machine.State

namespace Sys2Proof.Machine

/-- GRID_EDGE (R308). -/
def execGridEdge (s : State) : Host.Outcome State Fault Refusal := .next s.gridEdge

/-- SITE_TICK (R308). -/
def execSiteTick (s : State) : Host.Outcome State Fault Refusal := .next s.siteTick

end Sys2Proof.Machine
end

