-- ==== Sys2Proof/Machine/RegWrite.lean ====
section
/-!
DEFINITION. REGISTER_WRITE: a write on the bus, by where its address lies, who writes, the access codes of the register's
fields, and what a field's description says of the value taken and of what the write does (R9, R10, R13, R22 to R24, R480,
R481). A field whose write has a row of its own is left to that row.
-/

namespace Sys2Proof.Machine

/-! ## The map (R22, R23, R480) -/

/-- An offset of a die's region lies within the span of a block present there. -/
def occupied (d off : Nat) : Bool :=
  let b := off / 0x10000
  if b < 0x15 then b != 3 && b != 5 && b != 7 else decide (0x20 ≤ b) && decide (b < 0x26) && decide (d = 0)

/-- The LOCK bit of the block an offset lies in. -/
def lockOf (off : Nat) : Option Fld :=
  [F.XLK_CTRL_LOCK, F.LCS_CTRL_LOCK, F.HPI_CTRL_LOCK, F.ADC_CTRL_LOCK, F.OXE_CTRL_LOCK, F.STL_CTRL_LOCK, F.PIL_CTRL_LOCK,
   F.T1S_CTRL_LOCK, F.PLC_CTRL_LOCK, F.HLM_CTRL_LOCK, F.TSU_CTRL_LOCK, F.ACQ_CTRL_LOCK, F.LSW_CTRL_LOCK, F.THM_CTRL_LOCK,
   F.TWN_CTRL_LOCK, F.DIE_BUDGET_LOCK].find? (fun f => f.off / 0x10000 == off / 0x10000)

/-! ## Values taken -/

/-- Fields whose description says what an out-of-range write is taken as: the value taken, by copy and value written. -/
def takenTable : List (Fld × (Nat → Nat → Nat)) :=
  [(F.LCS_CTRL_TRIAL_WIN, fun _ v => max 60 v), (F.ADC_ROT_CFG_INTERVAL, fun _ v => max 3 v),
   (F.ADC_ROT_CFG_LEAD, fun _ v => max 60 v), (F.ADC_ROT_LIM_LIM_MEAN, fun _ v => clampN 8 64 v),
   (F.ADC_ROT_LIM_LIM_PEAK, fun _ v => clampN 16 128 v), (F.STL_P_CFG_OFFSET, fun _ v => min 124 v),
   (F.PLC_M_CTRL_BLANK_K, fun _ v => max 4 v), (F.HLM_CTRL_LEVEL, fun _ v => min 16 v),
   (F.HLM_CTRL_BCAST_REP, fun _ v => max 1 v), (F.CAN_SIEVE_UNMATCHED, fun _ v => if v = 3 then 0 else v),
   (F.CAN_SIEVE_CLASH_N, fun _ v => max 2 v), (F.CAN_REF_CFG_PERIOD, fun _ v => max 1 v),
   (F.CAN_ABD_CTRL_DWELL, fun _ v => max 1 v), (F.CAN_ABD_CTRL_NGOOD, fun _ v => max 2 v),
   (F.TSU_SERVO_SLEW_MAX, fun _ v => clampN 10 1000 v), (F.TSU_SERVO_TAU, fun _ v => max 1 v),
   (F.TSU_PO_CTRL_MODE, fun _ v => if v = 3 then 0 else v), (F.TSU_CAP_CFG_SRC, fun _ v => if v = 7 then 0 else v)]

/-- The same for the loop engine, acquisition, load switches, the fault budget and the pulse outputs. -/
def takenTable2 : List (Fld × (Nat → Nat → Nat)) :=
  [(F.OXE_CTX_TIMER_PERIOD, fun _ v => max 1 v), (F.OXE_GEN_CTRL_DIV, fun _ v => max 1 v),
   (F.OXE_PORT_DERATE, fun _ v => if 2 ^ 31 ≤ v then 0 else v), (F.ACQ_U_TRIG_SRC, fun _ v => if 11 ≤ v then 0 else v),
   (F.ACQ_U_TRIG_EDGE, fun _ v => if v = 3 then 0 else v), (F.LSW_CFG_RESTART_WIN, fun _ v => max 1 v),
   (F.LSW_CFG_RESTART_DLY, fun _ v => max 1 v), (F.LSW_CFG_LIM_T, fun _ v => clampN 1 20 v),
   (F.LSW_CH_CFG_ROLE, fun _ v => min 6 v), (F.LSW_CH_CFG_ILIM, fun _ v => min 10 v),
   (F.LSW_CH_CFG_INRUSH_RETRY, fun _ v => min 8 v), (F.LSW_CH_CFG_OL_THR, fun _ v => min 40 v),
   (F.LSW_CH_CFG_PWM_HZ, fun _ v => min 1000 v), (F.LSW_CH_CMD_DUTY, fun _ v => min 10000 v),
   (F.THM_LVL_HYST, fun i v => if i = 2 then clampN 10 40 v else clampN 1 30 v), (F.DIE_BUDGET_BUDGET_WIN, fun _ v => max 1 v),
   (F.TSU_PO_PW, fun _ v => v / 8 * 8)]

/-- The value a field takes from a write. -/
def takenAs (off lo i v : Nat) : Nat :=
  match (takenTable ++ takenTable2).find? (fun e => e.1.off == off && e.1.lo == lo) with
  | some e => e.2 i v
  | none => v

/-! ## Fields left to rows of their own -/

/-- RW and W1C fields whose write is a row of the table. -/
def rowFields : List Fld :=
  [F.ADC_REF_SEL, F.ADC_SQ_CTRL_RUN, F.ADC_TWEN, F.ADC_TRIP, F.ADC_TC_STAT_TRIP, F.OXE_CTRL_RUN, F.OXE_PORT_OVR_MODE,
   F.OXE_PORT_OVR_RAMP_MS, F.OXE_CAP_STAT_FULL_A, F.OXE_CAP_STAT_FULL_B, F.PIL_P_CTRL_MODE, F.TSU_CTRL_SEL]

/-- W1S and WO fields without a row of their own: the LOCK bits, the safety events, the words KEY_WDATA and LCS_MREG7_EXT. -/
def plainW1 (off lo : Nat) : Bool :=
  (match lockOf off with
   | some f => f.off == off && f.lo == lo
   | none => false) ||
  off == F.OXE_SAFE_EVT_EVT.off || off == F.KEY_WDATA.off || off == F.LCS_MREG7_EXT.off

/-- The write of a field's copy is a row of the table: OFS_HI (R314), the last word of LCS_MREG7_EXT (R71), and the above. -/
def hasRow (off lo i j : Nat) : Bool :=
  rowFields.any (fun f => f.off == off && f.lo == lo) || (off == F.TSU_DOM_OFS.off && j == 1) ||
    (off == F.LCS_MREG7_EXT.off && i == 7)

/-! ## First error since clear -/

/-- FIRST of an event register. -/
def firstOf (off : Nat) : Option Fld :=
  [F.ADC_ERR_FIRST, F.ADC_ROT_EVT_FIRST, F.OXE_ERR_FIRST, F.SMW_ERR_FIRST, F.TWN_EVT_FIRST, F.XLK_ERR_FIRST].find?
    (fun f => f.off == off)

namespace State

/-- The block's LOCK bit is set. -/
def locked (s : State) (d off : Nat) : Bool :=
  match lockOf off with
  | some f => s.on d f
  | none => false

/-! ## Rights (R13, R95) -/

/-- A key-store register that a processor of any partition writes: key words, attributes and the operation registers. -/
def keyOffset (off : Nat) : Bool := decide (0x200040 ≤ off) && decide (off < 0x2000A0)

/-- A key word register: only the lead die's machine-mode cores, the meter head and the safety cores write one (R95). -/
def keyWords (off : Nat) : Bool := decide (0x200040 ≤ off) && decide (off < 0x200080)

/-- A word of LCS_MREG7_EXT: only the lead die's machine-mode cores write one (R71). -/
def extWords (off : Nat) : Bool := decide (F.LCS_MREG7_EXT.off ≤ off) && decide (off < F.LCS_MREG7_EXT.off + 0x20)

/-- A requester may write registers of die `d` at an offset; `safeOnly` says that the register is named for SAFE. User mode is
granted nothing (log entry 15). The debug port reaches, while it answers, what no rule keeps from it: neither SAFE- and METR-owned
registers nor the key store (R77, R78; log entry 107). -/
def mayStore (s : State) (r : Requester) (d off : Nat) (safeOnly : Bool) : Bool :=
  match r with
  | .app e _ user => !user && !safeOnly && (decide (e = 0) || !(keyWords off || extWords off))
  | .safe e => (safeOnly && decide (d = e.val)) || keyOffset off
  | .meter e => keyOffset off && decide (e = 0)
  | .loop _ => false
  | .hostPort => decide (0x220000 ≤ off) && decide (off < 0x222000)
  | .debug _ => s.debugOn && !safeOnly && !(decide (0x200000 ≤ off) && decide (off < 0x210000)) &&
      !(decide (0x0C0000 ≤ off) && decide (off < 0x0D0000))

/-! ## Conditions on a field -/

/-- A write of a field is applied now, apart from LOCK: `i` the copy, `v` the value. -/
def fieldFree (s : State) (d : Fin 8) (off lo i v : Nat) : Bool :=
  let is (f : Fld) : Bool := f.off == off && f.lo == lo
  let k : Fin 4 := ⟨i % 4, Nat.mod_lt _ (by decide)⟩
  if is F.ADC_ROT_CFG_ROT_EN then v == 1 || s.lifeState == 0 || s.lifeState == 3
  else if is F.OXE_PORT_CFG_OWNER then s.psState d k == 0
  else if is F.STL_P_CFG_DIR then
    decide (s.psState d k ≤ 2) || (s.portType d k == 3 && s.word (fldAddr d F.OXE_PORT_OUT i 0) == 0)
  else if is F.STL_RING_SIZE_SIZE then s.psState d k == 0
  else if is F.T1S_P_LOG2N_LOG2N then !s.on d F.T1S_P_CTRL_EN i
  else if is F.PLC_M_LOG2N_LOG2N then !s.on d F.PLC_M_CTRL_EN i
  else if is F.HLM_LOG2N_LOG2N then !s.on d F.HLM_CTRL_EN
  else if off = F.CAN_TIM_NOM_TSEG1.off ∨ off = F.CAN_TIM_DATA_DTSEG1.off then s.on d F.CAN_CTRL_INIT i
  else if is F.CAN_CTRL_INIT || is F.ACQ_U_CTRL_EN then v == 1
  else if is F.PLC_CTRL_RUN then v == 0 || s.on d F.PLC_LOAD_STAT_IMG_OK
  else true

/-- The bits of a field after a write of `x` over `old`, by its access code (R10). -/
def fieldNext (s : State) (d : Fin 8) (r : RegD) (i j : Nat) (f : FieldD) (old x : Nat) : Nat :=
  if hasRow r.off f.lo i j then old
  else
    let put := if s.fieldFree d r.off f.lo i x then takenAs r.off f.lo i x else old
    match f.acc with
    | .ro => old
    | .rw => put
    | .rwl => if s.locked d r.off then old else put
    | .rwu => if i < 2 && s.locked d r.off then old else put
    | .w1c => old &&& (2 ^ f.w - 1 - x)
    | .w1s => if plainW1 r.off f.lo then old ||| x else old
    | .wo => if plainW1 r.off f.lo then x else old

/-- A register's word after a write, field by field; reserved bits read zero (R9). -/
def regNext (s : State) (d : Fin 8) (r : RegD) (i j : Nat) (old v : Word) : Word :=
  BitVec.ofNat 32 (r.fields.foldl (fun (n : Nat) (f : FieldD) =>
    n + s.fieldNext d r i j f (bitsOf old.toNat f.lo f.w) (bitsOf v.toNat f.lo f.w) * 2 ^ f.lo) 0)

/-! ## What a write does beside -/

/-- FIRST clears with the last of its event bits. -/
def firstClear (s : State) (d : Nat) (r : RegD) (w : Word) : State :=
  match firstOf r.off with
  | none => s
  | some f =>
    if r.fields.all (fun x => x.acc != .w1c || bitsOf w.toNat x.lo x.w == 0) then s.wr d f 0 else s

/-- The CLR bits of SMW_EARLY_READ, DIE_ERR and PKG_ERR. -/
def clrBits (s : State) (d : Nat) (off : Nat) (v : Word) : State :=
  if !bitOf v.toNat 31 then s
  else if d = pkgDie ∧ off = F.PKG_ERR_CLR.off then
    ((s.wr d F.PKG_ERR_FIRST 0).wr d F.PKG_ERR_DIE 0).wr d F.PKG_ERR_PERM 0
  else if d < 8 ∧ off = F.DIE_ERR_CLR.off then
    ((s.wr d F.DIE_ERR_FIRST 0).wr d F.DIE_ERR_BLOCK 0).wr d F.DIE_ERR_PERM 0
  else if off = F.SMW_EARLY_READ_CLR.off then
    ((s.wr 0 F.SMW_EARLY_READ_COUNT 0).wr 0 F.SMW_EARLY_READ_LAST_SLOT 0).wr 0 F.SMW_EARLY_READ_LAST_SRC 0
  else s

/-- TWN_CTRL.EN cleared: the link falls and the unit is SOLO, unless it is always held (R438, R439). -/
def twinDisable (s : State) : State :=
  let s := s.linkDown
  if s.lifeState = 3 ∨ s.hold then s
  else
    let s := (s.setRole 0 0).updTwin (fun t => { t with starting := false })
    if s.leadRuns && s.on pkgDie F.PKG_DIES_LEAD_OK && s.on pkgDie F.PKG_PWR_HOLDUP_READY && s.on pkgDie F.PKG_PWR_V24_OK then
      s.portsAvailable
    else s

/-- A data window written: the loop image's default words fill C4's and C5's window once it fits (log entry 54). -/
def windowSet (s : State) (d : Fin 8) (n : Nat) : State :=
  if n = 4 ∧ d = 0 ∧ s.allocFits then s.allocDefaults
  else if n = 5 ∧ s.coolFits d then s.coolDefaults d
  else s

/-- Safety events newly set: trigger source 5 of their contexts (R168). -/
def safeEvents (s : State) (d : Fin 8) (old new : Word) : State :=
  (List.finRange 8).foldl (fun (s : State) (n : Fin 8) =>
    if bitOf new.toNat n.val && !bitOf old.toNat n.val then s.trigEvent d n 5 else s) s

/-- A pulse output turned off. -/
def pulseOff (s : State) (d : Fin 8) (i : Nat) : State :=
  let n : Fin 8 := ⟨i % 8, Nat.mod_lt _ (by decide)⟩
  if s.rd d F.TSU_PO_CTRL_MODE n = 0 ∧ s.on d F.TSU_PO_CTRL_ACTIVE n then
    (s.poEnd d n).setPo d n { due := 0, rise := false, level := s.on d F.TSU_PO_CTRL_POL n }
  else s

/-- EN of a context written: cleared, the context reads DISABLED whatever its state; set, a DISABLED one reads IDLE (R170). A
context whose budget is spent stays FAULTED (R462). -/
def ctxEnable (s : State) (d n : Fin 8) : State :=
  if s.on d F.OXE_CTX_CFG_EN n then (if s.ctxSt d n = 0 then s.wr d F.OXE_CTX_STAT_STATE 1 n else s)
  else if s.ctxSt d n = 6 ∧ s.isRetired d 2 0x08 n = true then s
  else s.wr d F.OXE_CTX_STAT_STATE 0 n

/-- The control word of a pulse output written: a change of POL inverts the level it drives (R320). -/
def pulseCtrl (s : State) (d : Fin 8) (i : Nat) (old new : Word) : State :=
  let n : Fin 8 := ⟨i % 8, Nat.mod_lt _ (by decide)⟩
  let o := (s.tsu.get d).po.get n
  (if bitOf old.toNat 2 = bitOf new.toNat 2 then s else s.setPo d n { o with level := !o.level }).pulseOff d i

/-- A ring configured: its positions count from there (R141, R261; log entry 99). -/
def ringRestart (s : State) (d : Fin 8) (wptr wrap : Fld) (i : Nat) : State := (s.wr d wptr 0 i).wr d wrap 0 i

/-- Pending requests for FD frames while FD_EN is 0 make no attempt and are dropped (R299). -/
def canFdOff (s : State) (d : Fin 8) (j : Fin 2) : State :=
  if s.on d F.CAN_CTRL_FD_EN j then s
  else (List.range 32).foldl (fun (s : State) (b : Nat) =>
    if s.bit d F.CAN_TX_PEND b j && bitOf (s.canWord d j (canTx b + 8)) 4 then s.canDrop d j b else s) s

/-- CAN_CTRL written: INIT newly set takes the controller off the bus, and one that is bus-off stays so (R301); detection ends
without LISTEN (R304; log entry 100). -/
def canControl (s : State) (d : Fin 8) (j : Fin 2) (init : Bool) : State :=
  let s := if s.on d F.CAN_CTRL_LISTEN j then s else s.wr d F.CAN_ABD_STAT_BUSY 0 j
  let s := s.canFdOff d j
  if !init then s
  else
    let s := (s.wr d F.CAN_STAT_SYNC 0 j).updCan d j (fun c => { c with recover := false })
    if s.rd d F.CAN_STAT_STATE j = 2 then s else s.wr d F.CAN_STAT_STATE 3 j

/-- The effect of a write of copy `i` of a register on the rest of the block. -/
def afterWrite (s : State) (d : Fin 8) (off i : Nat) (old new : Word) : State :=
  let k : Fin 4 := ⟨i % 4, Nat.mod_lt _ (by decide)⟩
  let j : Fin 2 := ⟨i % 2, Nat.mod_lt _ (by decide)⟩
  if off = F.OXE_CTX_CFG_EN.off then s.ctxEnable d ⟨i % 8, Nat.mod_lt _ (by decide)⟩
  else if off = F.ADC_RING_BASE.off ∨ off = F.ADC_RING_SIZE_SIZE.off then
    s.ringRestart d F.ADC_RING_WPTR_WPTR F.ADC_RING_WRAP_WRAP i
  else if off = F.STL_RING_SIZE_SIZE.off then
    (if s.psState d k = 0 then s.ringRestart d F.STL_RING_WPTR_WPTR F.STL_RING_WRAP_WRAP i else s)
  else if off = F.OXE_CTX_DWIN_DBASE.off then s.windowSet d i
  else if off = F.OXE_SAFE_EVT_EVT.off then s.safeEvents d old new
  else if off = F.TWN_CTRL_EN.off then (if bitOf old.toNat 0 && !bitOf new.toNat 0 then s.twinDisable else s)
  else if off = F.CAN_CTRL_INIT.off then s.canControl d j (bitOf new.toNat 0 && !bitOf old.toNat 0)
  else if off = F.ACQ_U_CTRL_EN.off then
    (if bitOf new.toNat 0 && s.rd d F.ACQ_U_STAT_STATE i == 0 then s.wr d F.ACQ_U_STAT_STATE 1 i else s)
  else if off = F.SAF_OUT_CMD.off then
    ((s.wr d F.SAF_OUT_CMD (bitsOf old.toNat 0 4) k).setSout d k (bitsOf new.toNat 0 4))
  else if off = F.TSU_PO_CTRL_MODE.off then s.pulseCtrl d i old new
  else if off = F.LSW_SAFE_EN_EN.off then (List.finRange 12).foldl (fun (s : State) (n : Fin 12) => s.lswOut d n) s
  else s

/-! ## Registers -/

/-- The levels of R429 with copy `i` replaced stay in order. -/
def levelsOk (s : State) (d i v : Nat) : Bool :=
  let l (k : Nat) : Nat := if k = i then v % 256 else s.rd d F.THM_LVL_LEVEL k
  decide (l 0 < l 1) && decide (l 1 < l 2)

/-- A refusal that covers a whole register: ring registers of a running sequencer (R141), the loop engine's configuration
(R187), a threshold out of order (R429). -/
def regRefused (s : State) (d : Fin 8) (off i : Nat) (v : Word) : Option State :=
  let q : Fin 2 := ⟨i / 4 % 2, Nat.mod_lt _ (by decide)⟩
  if off = F.ADC_RING_BASE.off ∨ off = F.ADC_RING_SIZE_SIZE.off then
    (if (s.seqr d q).run != .stopped then some (s.adcErr d F.ADC_ERR_CFG_BUSY) else none)
  else if F.OXE_CTX_CFG_EN.off ≤ off ∧ off ≤ F.OXE_CTX_DWIN_DBASE.off then
    (if s.on d F.OXE_CTRL_RUN || s.on d F.OXE_CTRL_LOCK then some (s.oxeErr d F.OXE_ERR_LOAD_REFUSED) else none)
  else if off = F.THM_LVL_LEVEL.off then
    (if s.locked d off || s.levelsOk d i v.toNat then none else some (s.wr d F.THM_EVT_CFG_REFUSED 1))
  else none

/-- STL_PSREQ written with a code that names no state: the request fails (R248). The codes 0 to 10 have rows of their own (log entry
62). -/
def badRequest (s : State) (d : Fin 8) (off i : Nat) (v : Word) : State :=
  if off = F.STL_PSREQ.off ∧ 11 ≤ v.toNat % 16 ∧ s.shadowing = false then
    s.psRefuse d ⟨i % 4, Nat.mod_lt _ (by decide)⟩ (v.toNat % 16)
  else s

/-- A write to copy `i`, `j` of a register. -/
def regWrite (s : State) (d : Fin 8) (a : Nat) (r : RegD) (i j : Nat) (v : Word) : State :=
  match s.regRefused d r.off i v with
  | some s => s
  | none =>
    let old := s.word a
    let new := s.regNext d r i j old v
    ((((s.setWord a new).firstClear d r new).clrBits d r.off v).afterWrite d r.off i old new).badRequest d r.off i v

/-- A write to a package-global register. -/
def pkgWrite (s : State) (a : Nat) (r : RegD) (i j : Nat) (v : Word) : State :=
  (s.setWord a (s.regNext 0 r i j (s.word a) v)).clrBits pkgDie r.off v

/-- The SLOT, OP and TARGET fields of KEY_OPC (R103). -/
def opcMask : Word := 0x3FF3F

/-- The banked operation registers of the key store: OPC without GO, SRC, DST, AUX, LEN, and DONE of the result (R10, R35, R103).
OPC with GO starts an operation, which is a row of its own; reserved bits and GO itself read zero. -/
def opWrite (s : State) (r : Requester) (off : Nat) (v : Word) : State :=
  let b := keyBank r
  let i := (off - 0x200080) / 4
  if i = 0 then (if bitOf v.toNat 31 then s else s.setOpReg b 0 (v &&& opcMask))
  else if i ≤ 4 then s.setOpReg b i v
  else s.setOpReg b 5 (if bitOf v.toNat 8 then s.opReg b 5 &&& ~~~(BitVec.ofNat 32 256) else s.opReg b 5)

/-- A word of the loop engine's memories (R187): program words under the load rule, the first word of a coefficient entry held
until its second is written, data words. The capture buffers are read only. -/
def oxeMemWrite (s : State) (d : Fin 8) (off : Nat) (v : Word) : State :=
  if off < 0x098000 then
    if s.on d F.OXE_CTRL_RUN || s.on d F.OXE_CTRL_LOCK then s.oxeErr d F.OXE_ERR_LOAD_REFUSED
    else s.setMword (regAddr d off) v
  else if 0x0A0000 ≤ off ∧ off < 0x0A8000 then
    if off % 8 = 0 then
      let e := (off - 0x0A0000) / 8
      s.updOxe d (fun o => { o with coefLow := o.coefLow.filter (fun x => x.1 != e) ++ [(e, v)] })
    else s
  else if 0x0A8000 ≤ off ∧ off < 0x0AA000 then s.setMword (regAddr d off) v
  else s

/-- A word of CAN message RAM (R295). -/
def canRam (off : Nat) : Bool :=
  decide (0x0D0000 ≤ off) && decide (off < 0x0D8000) && decide (0x100 ≤ (off - 0x0D0000) % 0x4000)

/-- A word of message RAM written; an element of a transmit buffer whose PEND bit is set discards it (R299). -/
def canRamWrite (s : State) (d : Fin 8) (off : Nat) (v : Word) : State :=
  let j := (off - 0x0D0000) / 0x4000
  let o := (off - 0x0D0000) % 0x4000
  if 0x3680 ≤ o ∧ s.bit d F.CAN_TX_PEND ((o - 0x3680) / 76) j then s else s.setMword (regAddr d off) v

/-- A word written in the region of die `d`, which is present and whose span holds the offset. -/
def regionWrite (s : State) (r : Requester) (d : Fin 8) (a off : Nat) (v : Word) : State :=
  let deny := if keyWords off then s.accessFault r a else s.accessEvent (whoDie r) a (whoCode r)
  if 0x090000 ≤ off ∧ off < 0x0C0000 then
    if s.mayStore r d off false then s.oxeMemWrite d off v else deny
  else if canRam off then
    if s.mayStore r d off false then s.canRamWrite d off v else deny
  else if 0x200080 ≤ off ∧ off < 0x200098 then
    if s.mayStore r d off false then s.opWrite r off v else deny
  else
    match findReg a with
    | some (reg, i, j) =>
      if s.mayStore r d off (reg.fields.any (fun f => f.safe)) then s.regWrite d a reg i j v else deny
    | none => if s.mayStore r d off false then s else deny

/-- A word written to the package-global range. -/
def globalWrite (s : State) (r : Requester) (a : Nat) (v : Word) : State :=
  if s.mayStore r 0 0 false then
    match findReg a with
    | some (reg, i, j) => s.pkgWrite a reg i j v
    | none => s
  else s.accessEvent (whoDie r) a (whoCode r)

/-! ## The bus -/

/-- `n` bytes of a word replaced from byte `o`. -/
def mergeWord (old : Word) (o n : Nat) (v : Word) : Word :=
  let b := leBytes 4 old.toNat
  BitVec.ofNat 32 (leNat (b.take o ++ leBytes n v.toNat ++ b.drop (o + n)))

/-- A byte, halfword or word written to the window (R481): the host port moves only whole words. -/
def windowStore (s : State) (r : Requester) (off n : Nat) (v : Word) : State :=
  if n = 4 then s.windowWrite r off v
  else
    let o := off % 0x100000
    let base := o - o % 4
    if off < 0x100000 ∧ !hostView r then s.accessEvent (whoDie r) (0x30000000 + off) (whoCode r)
    else if 0x100000 ≤ off ∧ !leadMachine r then s.accessFault r (0x30000000 + off)
    else
      match slotAt base with
      | some i =>
        if base = slotBase i then s.smwErr F.SMW_ERR_ILLEGAL_OWN i
        else s.windowWrite r (off - off % 4) (mergeWord (s.mword (winKey base)) (o % 4) n v)
      | none => s.windowWrite r (off - off % 4) (mergeWord (s.mword (winKey base)) (o % 4) n v)

/-- A machine-mode application core, and the debug port in its place; only these reach host SRAM and MRAM (R13, R22, R77). -/
def machineCore (r : Requester) : Bool :=
  match r with
  | .app _ _ user => !user
  | .debug _ => true
  | _ => false

/-- A die without power, or held in reset while the wipe engine runs: nothing is written there (R21; log entry 64). -/
def dieShut (s : State) (d : Fin 8) : Bool :=
  match s.pkg.die.get d with
  | .off => true
  | .thermal => true
  | .wiping => true
  | .boot => false
  | .running => false

/-- A write to a register or a word of a die's peripheral region. A write to a die that its boot ROM still starts is taken as on a
running one (DESIGN CHOICE, log entry 64). -/
def peripheralWrite (s : State) (r : Requester) (a n : Nat) (v : Word) : State :=
  let off := (a - 0x40000000) % 0x1000000
  if h : (a - 0x40000000) / 0x1000000 < 8 then
    let d : Fin 8 := ⟨(a - 0x40000000) / 0x1000000, h⟩
    if n ≠ 4 ∨ !s.present d ∨ !occupied d off then s.accessFault r a
    else if s.dieShut d then s
    else s.regionWrite r d a off v
  else s.accessFault r a

/-- Bytes written to the MRAM of a requester's die. Its scratch region M7 takes a write in MAINTENANCE only (R81). -/
def mramWrite (s : State) (d : Fin 8) (a n : Nat) (v : Word) : State :=
  if Config.mramRegion (a - 0x20000000) = 7 ∧ s.lifeState ≠ 3 then s
  else s.setBytes (sramKey d a) (leBytes n v.toNat)

/-- A write of `n` bytes at a bus address (R22, R24, R481). A write to the boot ROM is no forbidden access and changes nothing
(DESIGN CHOICE, log entry 108); a debug port that does not answer writes nothing (R78). -/
def busWrite (s : State) (r : Requester) (a n : Nat) (v : Word) : State :=
  if faultCore r = false ∧ r ≠ .hostPort ∧ s.debugOn = false then s
  else if r = .hostPort ∧ (n ≠ 4 ∨ a % 4 ≠ 0) then s.wr 0 F.HPI_STAT_MISALIGN 1
  else if (n ≠ 1 ∧ n ≠ 2 ∧ n ≠ 4) ∨ a % n ≠ 0 then s.accessFault r a
  else if a < 0x100000 then s
  else if 0x10000000 ≤ a ∧ a < 0x10200000 then
    if !machineCore r then s.accessEvent (whoDie r) a (whoCode r)
    else if s.dieShut (whoDie r) then s
    else s.setBytes (sramKey (whoDie r) a) (leBytes n v.toNat)
  else if 0x20000000 ≤ a ∧ a < 0x20800000 then
    if machineCore r then s.mramWrite (whoDie r) a n v else s.accessEvent (whoDie r) a (whoCode r)
  else if 0x30000000 ≤ a ∧ a < 0x30200000 then (if s.dieShut 0 then s else s.windowStore r (a - 0x30000000) n v)
  else if 0x40000000 ≤ a ∧ a < 0x48000000 then s.peripheralWrite r a n v
  else if 0x60000000 ≤ a ∧ a < 0x60010000 then (if n = 4 then s.globalWrite r a v else s.accessFault r a)
  else s.accessFault r a

end State

/-- REGISTER_WRITE (R10, R13, R24, R480, R481). -/
def execRegisterWrite (r : Requester) (addr : Nat) (width : Nat) (value : Word) (s : State) :
    Host.Outcome State Fault Refusal := .next (s.busWrite r addr width value)

end Sys2Proof.Machine
end

