-- ==== Sys2Proof/Machine/Hpi.lean ====
section
/-!
DEFINITION. Reads of registers, with the bits that show the state of the block as it stands, and the transactions of the host
port (R10, R126, R127, R481).
-/

namespace Sys2Proof.Machine

namespace State

/-! ## Register reads -/

/-- Restart count of a channel in its window, frozen while LATCHED (R422, R424). -/
def restartsNow (s : State) (d : Fin 8) (n : Fin 12) : Nat :=
  let win := max 1 (s.rd d F.LSW_CFG_RESTART_WIN) * 1000000000
  let c := s.lswChan d n
  min 15 (c.shorts.filter (fun t => decide (c.frozen.getD s.now - t < win))).length

/-- Bits of a die's registers that follow the state: the field and its value for copy `i` of the register. -/
def liveDie (s : State) (d : Fin 8) (i : Nat) : List (Fld × Nat) :=
  let k : Fin 4 := ⟨i % 4, Nat.mod_lt _ (by decide)⟩
  let n : Fin 8 := ⟨i % 8, Nat.mod_lt _ (by decide)⟩
  let cal : LaneState := (s.adc.get d).lane.get ⟨i % 3, Nat.mod_lt _ (by decide)⟩
  let pair := Sparse.get (fun _ => ((0 : Int), 0x10000)) (s.adc.get d).coef
    (s.rd d F.ADC_COEF_SEL_CELL * 6 + s.rd d F.ADC_COEF_SEL_GAIN)
  [(F.ADC_LANE_CAL_AGE, if cal.working.isSome then min 65535 ((s.now - cal.workAt) / 1000000000) else 0),
   (F.ADC_COEF_OFS_OFS, uns 20 pair.1), (F.ADC_COEF_GAIN_GAIN, pair.2),
   (F.OXE_CTX_STAT_OVR, b2n ((List.finRange 4).any (fun p =>
      s.rd d F.OXE_PORT_CFG_OWNER p == n.val && s.on d F.OXE_PORT_OVR_ACTIVE p))),
   (F.STL_P_STAT_ACTIVE, bitsOf (s.frameFlags d k) 0 1), (F.STL_P_STAT_ENABLE, b2n (s.frameEnable d k)),
   (F.STL_P_STAT_RX_OK, b2n (s.on d F.STL_P_STAT_RX_OK i && decide (s.now - (s.link d k).lastRx ≤ 30000))),
   (F.LSW_CH_STAT_RESTARTS, s.restartsNow d ⟨i % 12, Nat.mod_lt _ (by decide)⟩),
   (F.THM_STAT_SD_HOUR, min 3 ((s.lsw.get d).downs.filter (fun t => decide (s.now - t < 3600000000000))).length),
   (F.PIL_P_STAT_HIZ, b2n (!s.outEn)), (F.T1S_P_STAT_TX_HIZ, b2n (!s.outEn)),
   (F.PLC_M_STAT_TX_OFF, b2n (!s.outEn || s.portType d k != 1)), (F.CAN_STAT_LISTEN_HW, b2n (!s.outEn))]

/-- Head of an event queue as OXE_EVTQ reads it (R205). -/
def evtqWord (s : State) (d : Fin 8) (safe : Bool) : Word :=
  match (if safe then (s.oxe.get d).evtSafe else (s.oxe.get d).evtHost) with
  | (code, c) :: _ => BitVec.ofNat 32 (code + c * 0x10000 + 0x80000000)
  | [] => 0

/-- Longest lockout that runs, in seconds, rounded up (SMW_LOCKOUT). -/
def lockRemain (s : State) : Nat :=
  (List.finRange 5).foldl (fun (m : Nat) (r : Fin 5) =>
    if s.bit 0 F.SMW_LOCKOUT_LOCKED r then max m (((s.gate.lock.get r).ends - s.now + 999999999) / 1000000000) else m) 0

/-- Level on HPI_IRQ_N (R128). -/
def hpiIrq (s : State) : Bool := s.word (fldAddr 0 F.SMW_EVT_ERR 0 0) &&& s.word (fldAddr 0 F.SMW_IEN_EN 0 0) != 0

/-- Bits of the lead die's registers that follow the state. -/
def liveLead (s : State) (i : Nat) : List (Fld × Nat) :=
  [(F.LCS_STATE_DBG_EN, b2n (s.lifeState == 0 || s.lifeState == 3)), (F.KEY_STAT_ROOT_VALID, b2n s.keys.root.isSome),
   (F.KEY_STAT_TAMPERED, b2n s.tampered), (F.KEY_STAT_QDEPTH, s.keys.queue.length), (F.HPI_STAT_IRQ, b2n s.hpiIrq),
   (F.SMW_LOCKOUT_REMAIN, s.lockRemain), (F.HLM_STAT_UP, b2n s.herdUp), (F.HLM_STAT_AC, s.rd pkgDie F.PKG_PWR_AC_INPUT),
   (F.HLM_STAT_TX_OFF, b2n (!s.outEn)),
   (F.HLM_NODE_QUIET, min 65535 ((s.now - s.herd.quiet.toList.getD i 0) / 1000000000))]

/-- A word with the live fields of its register put in. -/
def overlay (off : Nat) (w : Word) (l : List (Fld × Nat)) : Word :=
  l.foldl (fun (w : Word) (e : Fld × Nat) =>
    if e.1.off = off then
      let m : Word := BitVec.ofNat 32 (2 ^ e.1.w - 1)
      (w &&& ~~~(m <<< e.1.lo)) ||| ((BitVec.ofNat 32 e.2 &&& m) <<< e.1.lo)
    else w) w

/-- WO fields read zero (R10). -/
def hideWo (r : RegD) (w : Word) : Word :=
  r.fields.foldl (fun (w : Word) (f : FieldD) =>
    if f.acc = .wo then w &&& ~~~(BitVec.ofNat 32 (2 ^ f.w - 1) <<< f.lo) else w) w

/-- The latched set of TALLY and EPOCH of a requester (R310). -/
def tsuLatch (s : State) (r : Requester) (d : Fin 8) : BitVec 16 × DWord :=
  (((s.tsu.get d).latch.find? (fun e => e.1 == keyBank r)).map (·.2)).getD (0, 0)

/-- Residual of a domain in ns as TSU_DOM_OFS returns it (R314). -/
def residWord (s : State) (i j : Nat) : Word :=
  let v := uns 64 (s.servo.resid.get ⟨i % 2, Nat.mod_lt _ (by decide)⟩ / 10000000)
  BitVec.ofNat 32 (if j = 0 then v else v / 2 ^ 32)

/-- A register as requester `r` reads it. -/
def regRead (s : State) (r : Requester) (d : Fin 8) (a : Nat) (reg : RegD) (i j : Nat) : Word :=
  if reg.off = F.TSU_TALLY_TALLY.off then (s.tsuLatch r d).1.setWidth 32
  else if reg.off = F.TSU_EPOCH.off then BitVec.ofNat 32 ((s.tsuLatch r d).2.toNat / 2 ^ (32 * i))
  else if reg.off = F.TSU_DOM_OFS.off then s.residWord i j
  else if reg.off = F.OXE_EVTQ_CODE.off then s.evtqWord d (i == 1)
  else if 0x200080 ≤ reg.off ∧ reg.off < 0x200098 then s.opReg (keyBank r) ((reg.off - 0x200080) / 4 + i)
  else overlay reg.off (hideWo reg (s.word a)) (s.liveDie d i ++ (if d = 0 then s.liveLead i else []))

/-- A word of the register map as requester `r` reads it; an offset without a register reads zero (R480). -/
def busReg (s : State) (r : Requester) (a : Nat) : Word :=
  match findReg a with
  | none => 0
  | some (reg, i, j) =>
    if 0x60000000 ≤ a then
      overlay reg.off (s.word a) [(F.PKG_STAT_CODE, s.statCode), (F.PKG_STAT_HELD, s.statHeld)]
    else s.regRead r ⟨(a - 0x40000000) / 0x1000000 % 8, Nat.mod_lt _ (by decide)⟩ a reg i j

/-! ## Host port (R126, R127) -/

/-- Bus address of a register the host port reaches. -/
def hpiReg (addr : Nat) : Option Nat :=
  if 0x100000 ≤ addr ∧ addr < 0x100100 then
    let o := addr - 0x100000
    some (if o < 0x80 then regAddr 0 (0x220000 + o) else regAddr 0 (0x221000 + o - 0x80))
  else none

/-- The address after a word: a burst wraps from the window's last word to its first. -/
def hpiNext (addr : Nat) : Nat := if addr = 0xFFFFC then 0 else addr + 4

/-- One word read; an address that reaches nothing is logged and gives a free word (R24; log entry 61). -/
def hpiReadOne (s : State) (addr : Nat) : Word × State :=
  if addr < 0x100000 then s.hostRead .hostPort addr
  else
    match hpiReg addr with
    | some a => (s.busReg .hostPort a, s)
    | none => (s.accessFault .hostPort addr).freeWord

/-- `n` words read in a burst. -/
def hpiReadMany (s : State) (addr : Nat) : Nat → List Word × State
  | 0 => ([], s)
  | n + 1 =>
    let x := s.hpiReadOne addr
    let y := x.2.hpiReadMany (hpiNext addr) n
    (x.1 :: y.1, y.2)

/-- One word written; an address that reaches nothing is logged, and nothing changes (R24). -/
def hpiWriteOne (s : State) (addr : Nat) (v : Word) : State :=
  if addr < 0x100000 then s.hostWrite .hostPort addr v
  else
    match hpiReg addr with
    | some a => s.busWrite .hostPort a 4 v
    | none => s.accessFault .hostPort addr

/-- Words written in a burst. -/
def hpiWriteMany (s : State) (addr : Nat) : List Word → State
  | [] => s
  | w :: t => (s.hpiWriteOne addr w).hpiWriteMany (hpiNext addr) t

/-- The host port answers: HPI_CTRL.EN. -/
def hpiOn (s : State) : Bool := s.on 0 F.HPI_CTRL_EN

end State

/-- HPI_READ_WORDS (R126, R481): a misaligned transaction reads zero in every word; a port that does not answer returns
nothing. -/
def execHpiReadWords (addr n : Nat) (s : State) : Host.Outcome State Fault Refusal :=
  .next (if !s.hpiOn then { s with hpiOut := [] }
    else if addr % 4 ≠ 0 then { s.wr 0 F.HPI_STAT_MISALIGN 1 with hpiOut := List.replicate n 0 }
    else
      let x := s.hpiReadMany addr n
      { x.2 with hpiOut := x.1 })

/-- HPI_WRITE_WORDS (R126, R481): `short` says that the select rose inside a further word, which is discarded. -/
def execHpiWriteWords (addr : Nat) (words : List Word) (short : Bool) (s : State) : Host.Outcome State Fault Refusal :=
  .next (if !s.hpiOn then s
    else if addr % 4 ≠ 0 then s.wr 0 F.HPI_STAT_MISALIGN 1
    else
      let s := s.hpiWriteMany addr words
      if short then s.wr 0 F.HPI_STAT_SHORT 1 else s)

/-- HPI_READ_STAT (R126). -/
def execHpiReadStat (s : State) : Host.Outcome State Fault Refusal :=
  .next (if !s.hpiOn then { s with hpiOut := [] }
    else { s with hpiOut := [s.busReg .hostPort (regAddr 0 F.HPI_STAT_IRQ.off)] })

/-- BAD_OPC (R126): an opcode of the table is no unknown one. -/
def execBadOpc (op : Byte) (s : State) : Host.Outcome State Fault Refusal :=
  .next (if !s.hpiOn || op == 0x3B || op == 0x32 || op == 0x05 then s else s.wr 0 F.HPI_STAT_BAD_OPC 1)

end Sys2Proof.Machine
end

