-- ==== Sys2Proof/Machine/Keys.lean ====
section
/-!
DEFINITION. The commands of the key store (R35, R93 to R105).
-/

namespace Sys2Proof.Machine

/-- KEY_WRITE (R95). -/
def execKeyWrite (r : Requester) (cmd : Word) (s : State) : Host.Outcome State Fault Refusal :=
  .next (s.keyWrite r cmd.toNat)

/-- KEY_ERASE (R97). -/
def execKeyErase (r : Requester) (cmd : Word) (s : State) : Host.Outcome State Fault Refusal :=
  .next (s.keyErase r cmd.toNat)

/-- ENC (R103). -/
def execEnc (r : Requester) (opc : Word) (s : State) : Host.Outcome State Fault Refusal :=
  .next (s.keyGo r 0x0 opc.toNat)

/-- DEC (R103). -/
def execDec (r : Requester) (opc : Word) (s : State) : Host.Outcome State Fault Refusal :=
  .next (s.keyGo r 0x1 opc.toNat)

/-- CMAC (R103). -/
def execCmac (r : Requester) (opc : Word) (s : State) : Host.Outcome State Fault Refusal :=
  .next (s.keyGo r 0x2 opc.toNat)

/-- CMAC_CHK (R103). -/
def execCmacChk (r : Requester) (opc : Word) (s : State) : Host.Outcome State Fault Refusal :=
  .next (s.keyGo r 0x3 opc.toNat)

/-- SIGN (R103). -/
def execSign (r : Requester) (opc : Word) (s : State) : Host.Outcome State Fault Refusal :=
  .next (s.keyGo r 0x4 opc.toNat)

/-- ECDH (R103). -/
def execEcdh (r : Requester) (opc : Word) (s : State) : Host.Outcome State Fault Refusal :=
  .next (s.keyGo r 0x5 opc.toNat)

/-- WRAP (R103). -/
def execWrap (r : Requester) (opc : Word) (s : State) : Host.Outcome State Fault Refusal :=
  .next (s.keyGo r 0x6 opc.toNat)

/-- UNWRAP (R103). -/
def execUnwrap (r : Requester) (opc : Word) (s : State) : Host.Outcome State Fault Refusal :=
  .next (s.keyGo r 0x7 opc.toNat)

/-- DERIVE (R98, R103). -/
def execDerive (r : Requester) (opc : Word) (s : State) : Host.Outcome State Fault Refusal :=
  .next (s.keyGo r 0x8 opc.toNat)

/-- MIGRATE (R100). -/
def execMigrate (r : Requester) (opc : Word) (s : State) : Host.Outcome State Fault Refusal :=
  .next (s.keyGo r 0x9 opc.toNat)

/-- GENKEY (R103, R104). -/
def execGenkey (r : Requester) (opc : Word) (s : State) : Host.Outcome State Fault Refusal :=
  .next (s.keyGo r 0xA opc.toNat)

/-- PUBKEY (R96, R103). -/
def execPubkey (r : Requester) (opc : Word) (s : State) : Host.Outcome State Fault Refusal :=
  .next (s.keyGo r 0xB opc.toNat)

/-- SHA256 (R103). -/
def execSha256 (r : Requester) (opc : Word) (s : State) : Host.Outcome State Fault Refusal :=
  .next (s.keyGo r 0xC opc.toNat)

/-- SHA384 (R103). -/
def execSha384 (r : Requester) (opc : Word) (s : State) : Host.Outcome State Fault Refusal :=
  .next (s.keyGo r 0xD opc.toNat)

/-- VERIFY (R103). -/
def execVerify (r : Requester) (opc : Word) (s : State) : Host.Outcome State Fault Refusal :=
  .next (s.keyGo r 0xE opc.toNat)

/-- RANDOM (R103, R104). -/
def execRandom (r : Requester) (opc : Word) (s : State) : Host.Outcome State Fault Refusal :=
  .next (s.keyGo r 0xF opc.toNat)

/-- KEY_OP_START (R35, R93). -/
def execKeyOpStart (s : State) : Host.Outcome State Fault Refusal := .next s.keyStart

/-- KEY_OP_DONE (R103, R105). -/
def execKeyOpDone (s : State) : Host.Outcome State Fault Refusal := .next s.keyDone

/-- ENTROPY_TEST_FAIL (R104). -/
def execEntropyTestFail (test : Nat) (s : State) : Host.Outcome State Fault Refusal := .next (s.entropyFail test)

end Sys2Proof.Machine
end

