-- ==== Sys2Proof/Machine/MeterCmd.lean ====
section
/-!
DEFINITION. The commands of metering, tariffs and tampers (R342 to R391).
-/

namespace Sys2Proof.Machine

namespace State

/-- TAMPER_REVERSE_CURRENT: outside a bidirectional session (R361). -/
def reverseTamper (s : State) (p : Fin 32) (peak : Nat) : State :=
  let bidir := match s.meter.session.get p with
    | some v => v.bidir
    | none => false
  if !s.meter.running || bidir then s
  else (s.tamperOn 0x42 p.val [Int.ofNat peak]).markSess p 4096

/-- TAMPER_SHUNT_BYPASS: with a Hall cell fitted (R361); a current measurement of the port is lost (R409). -/
def shuntTamper (s : State) (p : Fin 32) (shunt hall : Int) : State :=
  if s.meter.running && s.on (Port.die p) F.ADC_MTRMAP_H_EN (Port.loc p).val && !s.meter.tampers.contains (0x43, p.val) then
    (s.tamperOn 0x43 p.val [shunt, hall]).degrade (Port.die p) (Port.loc p) 1
  else s

/-- TAMPER_MISSING_NEUTRAL: UN above 30 V rms (R361). -/
def neutralTamper (s : State) (mv : Nat) : State :=
  if s.meter.running && decide (30000 < mv) then s.tamperOn 0x44 0xFF [Int.ofNat mv] else s

/-- TAMPER_MAGNETIC_FIELD: SIN7 configured as magnetic sensor (R361). -/
def magneticTamper (s : State) (p : Fin 32) : State :=
  if s.meter.running && (s.cfg (Port.die p) (Port.loc p)).sin7Mag then s.tamperOn 0x45 p.val [] else s

end State

/-- METER_INCREMENT_RECEIVE (R344). -/
def execMeterIncrementReceive (d : Die) (s : State) : Host.Outcome State Fault Refusal := .next (s.meterReceive d)

/-- METER_INCREMENT_ACK (R344). -/
def execMeterIncrementAck (d : Die) (s : State) : Host.Outcome State Fault Refusal := .next (s.meterAck d)

/-- METER_COMMIT (R345). -/
def execMeterCommit (s : State) : Host.Outcome State Fault Refusal := .next s.meterCommit

/-- REACTIVE_HALF_CYCLE (R346). -/
def execReactiveHalfCycle (p q : Int) (s : State) : Host.Outcome State Fault Refusal := .next (s.reactive p q)

/-- RECORD_SIGN (R353, R356). -/
def execRecordSign (p : Port) (s : State) : Host.Outcome State Fault Refusal := .next (s.recordSign p)

/-- POWERFAIL_RECORD_SIGN (R357). -/
def execPowerfailRecordSign (s : State) : Host.Outcome State Fault Refusal := .next s.powerfailSign

/-- RESTORATION (R382). -/
def execRestoration (s : State) : Host.Outcome State Fault Refusal := .next s.restoration

/-- TAMPER_REVERSE_CURRENT (R361). -/
def execTamperReverseCurrent (p : Port) (peakMa : Nat) (s : State) : Host.Outcome State Fault Refusal :=
  .next (s.reverseTamper p peakMa)

/-- TAMPER_SHUNT_BYPASS (R361). -/
def execTamperShuntBypass (p : Port) (shunt hall : Int) (s : State) : Host.Outcome State Fault Refusal :=
  .next (s.shuntTamper p shunt hall)

/-- TAMPER_MISSING_NEUTRAL (R361). -/
def execTamperMissingNeutral (mv : Nat) (s : State) : Host.Outcome State Fault Refusal := .next (s.neutralTamper mv)

/-- TAMPER_MAGNETIC_FIELD (R361). -/
def execTamperMagneticField (p : Port) (s : State) : Host.Outcome State Fault Refusal := .next (s.magneticTamper p)

/-- METER_TAMPER_END (R361). -/
def execMeterTamperEnd (code : Fin 256) (p : Option Port) (s : State) : Host.Outcome State Fault Refusal :=
  .next (s.tamperOff code.val (match p with
    | some p => p.val
    | none => 0xFF))

/-- TWIN_METER_WINDOW (R359). -/
def execTwinMeterWindow (s : State) : Host.Outcome State Fault Refusal := .next s.twinWindow

/-- BOUNDARY_ANNOUNCE (R378). -/
def execBoundaryAnnounce (t : Nat) (s : State) : Host.Outcome State Fault Refusal := .next (s.announce (Int.ofNat t))

/-- BOUNDARY_COMMIT (R379). -/
def execBoundaryCommit (s : State) : Host.Outcome State Fault Refusal := .next s.boundaryCommit

/-- UTC_OFFSET_CHANGE (R369). -/
def execUtcOffsetChange (s : State) : Host.Outcome State Fault Refusal := .next s.utcChange

/-- DLMS_ASSOCIATION_OPEN (R365). -/
def execDlmsAssociationOpen (i : DlmsIf) (r : Role) (authenticated : Bool) (s : State) : Host.Outcome State Fault Refusal :=
  .next (s.assocOpen i r authenticated)

/-- DLMS_APDU (R366, R367). -/
def execDlmsApdu (i : DlmsIf) (r : Role) (a : Apdu) (s : State) : Host.Outcome State Fault Refusal := .next (s.dlmsApdu i r a)

/-- TOKEN_TRANSACTION (R389). -/
def execTokenTransaction (s : State) : Host.Outcome State Fault Refusal := .next s.tokenApply

end Sys2Proof.Machine
end

