-- ==== Sys2Proof/Machine/Readout.lean ====
section
/-!
DEFINITION. The readout engine of the acquisition engine: copies from capture SRAM to host SRAM or to bulk slots (R339).
-/

namespace Sys2Proof.Machine

/-- Bytes of the largest piece a bulk slot carries (R106, R339). -/
def pieceBytes : Nat := 16380

namespace State

/-- Bytes `o` to `o + n − 1` of the copy of die `d`; what lies beyond the capture SRAM has no stated content and is free
(R325, R339; log entry 60). -/
def copyBytes (s : State) (d : Fin 8) (o n : Nat) : List Byte × State :=
  let src := s.rd d F.ACQ_RD_SRC_SRC + o
  let inside := min n (0x400000 - src)
  let l := s.bytes (capKey d src) inside
  if inside = n then (l, s) else (l ++ (s.freeBytes (n - inside)).1, (s.freeBytes (n - inside)).2)

/-- A copy ends with a status. -/
def copyEnd (s : State) (d : Fin 8) (status : Nat) : State :=
  ((s.wr d F.ACQ_RD_CTRL_BUSY 0).wr d F.ACQ_RD_CTRL_STATUS status).wr d F.ACQ_EVT_RD_DONE 1

/-- A copy that the spec gives no destination ends with a free status and copies nothing (R339; log entry 60). -/
def copyNowhere (s : State) (d : Fin 8) : State :=
  (s.freeWord.2).copyEnd d s.freeWord.1.toNat

/-- Piece after piece of a copy to bulk slots, each published as soon as it is filled; with no slot free the copy waits. -/
def copyPieces : Nat → State → State
  | 0, s => s
  | fuel + 1, s =>
    let k := s.rd 0 F.ACQ_RD_CTRL_PIECES
    let len := min 65532 (s.rd 0 F.ACQ_RD_LEN_LEN)
    if len ≤ pieceBytes * k then s.copyEnd 0 0
    else
      match s.nextBulk with
      | none => s
      | some i =>
        let b := s.copyBytes 0 (pieceBytes * k) (min pieceBytes (len - pieceBytes * k))
        let w := wordsOf b.1
        let s := ((b.2.claimSlot i).putPayload i w).publish i 0 w.length
        let s := if k = 0 then s.wr 0 F.ACQ_RD_CTRL_SLOT i else s
        copyPieces fuel (s.wr 0 F.ACQ_RD_CTRL_PIECES (k + 1))

/-- A copy to host SRAM. -/
def copySram (s : State) (d : Fin 8) : State :=
  let dst := s.rd d F.ACQ_RD_DST
  let len := s.rd d F.ACQ_RD_LEN_LEN
  if 0x10000000 ≤ dst ∧ dst + len ≤ 0x10200000 then
    let b := s.copyBytes d 0 len
    ((b.2.setBytes (sramKey d dst) b.1).copyEnd d 0)
  else s.copyNowhere d

end State

/-- READOUT_GO (R339): ignored while a copy is BUSY. -/
def execReadoutGo (d : Die) (s : State) : Host.Outcome State Fault Refusal :=
  .next (if s.on d F.ACQ_RD_CTRL_BUSY then s
    else (s.wr d F.ACQ_RD_CTRL_BUSY 1).wr d F.ACQ_RD_CTRL_PIECES 0)

/-- READOUT_DONE (R339): the copy as far as it comes. A port die has no window to copy to (log entry 60). -/
def execReadoutDone (d : Die) (s : State) : Host.Outcome State Fault Refusal :=
  .next (if !s.on d F.ACQ_RD_CTRL_BUSY then s
    else if !s.on d F.ACQ_RD_CTRL_WIN then s.copySram d
    else if d = 0 then State.copyPieces 6 s
    else s.copyNowhere d)

end Sys2Proof.Machine
end

