-- ==== Sys2Proof/Machine/Dispatch.lean ====
section
/-!
DEFINITION. The dispatch of a command to its meaning: one arm for each command of the table.
-/

namespace Sys2Proof.Machine

/-- The effect of a command on everything but the queue. -/
def exec (i : Instr) (s : State) : Host.Outcome State Fault Refusal :=
  match i with
  | .registerWrite a b c d => Sys2Proof.Machine.execRegisterWrite a b c d s
  | .powerOn a b c d => Sys2Proof.Machine.execPowerOn a b c d s
  | .nresetIn => Sys2Proof.Machine.execNresetIn s
  | .supplyReset => Sys2Proof.Machine.execSupplyReset s
  | .softwareDieReset a => Sys2Proof.Machine.execSoftwareDieReset a s
  | .resetWipeDone a => Sys2Proof.Machine.execResetWipeDone a s
  | .meterHeadStart => Sys2Proof.Machine.execMeterHeadStart s
  | .portDieMeasurementReport a => Sys2Proof.Machine.execPortDieMeasurementReport a s
  | .bootSetChoice => Sys2Proof.Machine.execBootSetChoice s
  | .portDieRelease => Sys2Proof.Machine.execPortDieRelease s
  | .slotOpen => Sys2Proof.Machine.execSlotOpen s
  | .powerfailRecordSign => Sys2Proof.Machine.execPowerfailRecordSign s
  | .restoration => Sys2Proof.Machine.execRestoration s
  | .mainsLoss => Sys2Proof.Machine.execMainsLoss s
  | .mainsReturn => Sys2Proof.Machine.execMainsReturn s
  | .pwrDown a => Sys2Proof.Machine.execPwrDown a s
  | .pwrDownOutputRelease => Sys2Proof.Machine.execPwrDownOutputRelease s
  | .pwrDownPowerRemoval => Sys2Proof.Machine.execPwrDownPowerRemoval s
  | .holdupCommit => Sys2Proof.Machine.execHoldupCommit s
  | .holdupReady a => Sys2Proof.Machine.execHoldupReady a s
  | .holdupTimeout => Sys2Proof.Machine.execHoldupTimeout s
  | .batteryMeasurement a b => Sys2Proof.Machine.execBatteryMeasurement a b s
  | .railUndervoltage => Sys2Proof.Machine.execRailUndervoltage s
  | .railUndervoltageEnd => Sys2Proof.Machine.execRailUndervoltageEnd s
  | .railOvervoltage => Sys2Proof.Machine.execRailOvervoltage s
  | .railOvervoltageEnd => Sys2Proof.Machine.execRailOvervoltageEnd s
  | .reversePolarity => Sys2Proof.Machine.execReversePolarity s
  | .gndLost => Sys2Proof.Machine.execGndLost s
  | .rootLockLoss => Sys2Proof.Machine.execRootLockLoss s
  | .tamper a => Sys2Proof.Machine.execTamper a s
  | .xlinkStateWord a b c d => Sys2Proof.Machine.execXlinkStateWord a b c d s
  | .xlinkWordError a b => Sys2Proof.Machine.execXlinkWordError a b s
  | .remoteWordWrite a b => Sys2Proof.Machine.execRemoteWordWrite a b s
  | .xlinkLaneFail a b => Sys2Proof.Machine.execXlinkLaneFail a b s
  | .slotSubmit a b c => Sys2Proof.Machine.execSlotSubmit a b c s
  | .slotConsume a b c => Sys2Proof.Machine.execSlotConsume a b c s
  | .slotClaim => Sys2Proof.Machine.execSlotClaim s
  | .slotPublish a b => Sys2Proof.Machine.execSlotPublish a b s
  | .slotTake a => Sys2Proof.Machine.execSlotTake a s
  | .payloadWrite a b c => Sys2Proof.Machine.execPayloadWrite a b c s
  | .earlyRead a b => Sys2Proof.Machine.execEarlyRead a b s
  | .statusBlockUpdate => Sys2Proof.Machine.execStatusBlockUpdate s
  | .statusHeartbeat => Sys2Proof.Machine.execStatusHeartbeat s
  | .status a => Sys2Proof.Machine.execStatus a s
  | .eventLogRead a => Sys2Proof.Machine.execEventLogRead a s
  | .dieLogRead a => Sys2Proof.Machine.execDieLogRead a s
  | .changeLogRead a => Sys2Proof.Machine.execChangeLogRead a s
  | .retirementRecordsRead a => Sys2Proof.Machine.execRetirementRecordsRead a s
  | .imageStagingBegin a => Sys2Proof.Machine.execImageStagingBegin a s
  | .imageStagingData a => Sys2Proof.Machine.execImageStagingData a s
  | .imageStagingEnd a => Sys2Proof.Machine.execImageStagingEnd a s
  | .stageCheckDone => Sys2Proof.Machine.execStageCheckDone s
  | .safetyConfigurationWrite a => Sys2Proof.Machine.execSafetyConfigurationWrite a s
  | .safetyPasswordChange a => Sys2Proof.Machine.execSafetyPasswordChange a s
  | .meterParameterWrite a => Sys2Proof.Machine.execMeterParameterWrite a s
  | .timeSetBeyondSlewLimit a => Sys2Proof.Machine.execTimeSetBeyondSlewLimit a s
  | .passiveCalendarLoad a => Sys2Proof.Machine.execPassiveCalendarLoad a s
  | .calendarActivation a => Sys2Proof.Machine.execCalendarActivation a s
  | .calendarDiscard a => Sys2Proof.Machine.execCalendarDiscard a s
  | .imageActivation a => Sys2Proof.Machine.execImageActivation a s
  | .lifeCycleChange a => Sys2Proof.Machine.execLifeCycleChange a s
  | .forcedPlannedHandover a => Sys2Proof.Machine.execForcedPlannedHandover a s
  | .forcedHeld a => Sys2Proof.Machine.execForcedHeld a s
  | .forcedResync a => Sys2Proof.Machine.execForcedResync a s
  | .forcedRepair a => Sys2Proof.Machine.execForcedRepair a s
  | .retire a => Sys2Proof.Machine.execRetire a s
  | .reinstate a => Sys2Proof.Machine.execReinstate a s
  | .xdlmsApdu a b => Sys2Proof.Machine.execXdlmsApdu a b s
  | .sessionRecordsRead a => Sys2Proof.Machine.execSessionRecordsRead a s
  | .profileEntriesRead a => Sys2Proof.Machine.execProfileEntriesRead a s
  | .meterLogRead a => Sys2Proof.Machine.execMeterLogRead a s
  | .meterStatus a => Sys2Proof.Machine.execMeterStatus a s
  | .meterReply => Sys2Proof.Machine.execMeterReply s
  | .lockoutEnd a => Sys2Proof.Machine.execLockoutEnd a s
  | .twinCounterMessage a b c => Sys2Proof.Machine.execTwinCounterMessage a b c s
  | .lifeCycleRestart => Sys2Proof.Machine.execLifeCycleRestart s
  | .lcsConfirm a b => Sys2Proof.Machine.execLcsConfirm a b s
  | .trialWindowExpiry => Sys2Proof.Machine.execTrialWindowExpiry s
  | .mreg7Extension a b => Sys2Proof.Machine.execMreg7Extension a b s
  | .hpiReadWords a b => Sys2Proof.Machine.execHpiReadWords a b s
  | .hpiWriteWords a b c => Sys2Proof.Machine.execHpiWriteWords a b c s
  | .hpiReadStat => Sys2Proof.Machine.execHpiReadStat s
  | .badOpc a => Sys2Proof.Machine.execBadOpc a s
  | .keyWrite a b => Sys2Proof.Machine.execKeyWrite a b s
  | .keyErase a b => Sys2Proof.Machine.execKeyErase a b s
  | .enc a b => Sys2Proof.Machine.execEnc a b s
  | .dec a b => Sys2Proof.Machine.execDec a b s
  | .cmac a b => Sys2Proof.Machine.execCmac a b s
  | .cmacChk a b => Sys2Proof.Machine.execCmacChk a b s
  | .sign a b => Sys2Proof.Machine.execSign a b s
  | .ecdh a b => Sys2Proof.Machine.execEcdh a b s
  | .wrap a b => Sys2Proof.Machine.execWrap a b s
  | .unwrap a b => Sys2Proof.Machine.execUnwrap a b s
  | .derive a b => Sys2Proof.Machine.execDerive a b s
  | .migrate a b => Sys2Proof.Machine.execMigrate a b s
  | .genkey a b => Sys2Proof.Machine.execGenkey a b s
  | .pubkey a b => Sys2Proof.Machine.execPubkey a b s
  | .sha256 a b => Sys2Proof.Machine.execSha256 a b s
  | .sha384 a b => Sys2Proof.Machine.execSha384 a b s
  | .verify a b => Sys2Proof.Machine.execVerify a b s
  | .random a b => Sys2Proof.Machine.execRandom a b s
  | .keyOpStart => Sys2Proof.Machine.execKeyOpStart s
  | .keyOpDone => Sys2Proof.Machine.execKeyOpDone s
  | .entropyTestFail a => Sys2Proof.Machine.execEntropyTestFail a s
  | .conversionResult a b c d e f g h => Sys2Proof.Machine.execConversionResult a b c d e f g h s
  | .sequencerRoundStart a b => Sys2Proof.Machine.execSequencerRoundStart a b s
  | .sequenceCommit a b => Sys2Proof.Machine.execSequenceCommit a b s
  | .commitCheckDone a b => Sys2Proof.Machine.execCommitCheckDone a b s
  | .sequencerRun a b => Sys2Proof.Machine.execSequencerRun a b s
  | .sequencerStop a b => Sys2Proof.Machine.execSequencerStop a b s
  | .adcSoftReset a => Sys2Proof.Machine.execAdcSoftReset a s
  | .refSelect a b => Sys2Proof.Machine.execRefSelect a b s
  | .refReadyRise a => Sys2Proof.Machine.execRefReadyRise a s
  | .refLost a => Sys2Proof.Machine.execRefLost a s
  | .refinTimeout a => Sys2Proof.Machine.execRefinTimeout a s
  | .tripWindowEnable a b c d => Sys2Proof.Machine.execTripWindowEnable a b c d s
  | .comparatorTrip a b => Sys2Proof.Machine.execComparatorTrip a b s
  | .comparatorRelease a b => Sys2Proof.Machine.execComparatorRelease a b s
  | .tripLatchClear a b c => Sys2Proof.Machine.execTripLatchClear a b c s
  | .cellCmFault a b => Sys2Proof.Machine.execCellCmFault a b s
  | .syscalZeroStep a b => Sys2Proof.Machine.execSyscalZeroStep a b s
  | .syscalFullStep a b => Sys2Proof.Machine.execSyscalFullStep a b s
  | .syscalComplete a => Sys2Proof.Machine.execSyscalComplete a s
  | .syscalTimeout a => Sys2Proof.Machine.execSyscalTimeout a s
  | .selfcalStart a => Sys2Proof.Machine.execSelfcalStart a s
  | .selfcalDone a b c => Sys2Proof.Machine.execSelfcalDone a b c s
  | .rotationDue a => Sys2Proof.Machine.execRotationDue a s
  | .now a => Sys2Proof.Machine.execNow a s
  | .overlapStart a => Sys2Proof.Machine.execOverlapStart a s
  | .overlapEnd a => Sys2Proof.Machine.execOverlapEnd a s
  | .voteEnd a => Sys2Proof.Machine.execVoteEnd a s
  | .judgedSwap a => Sys2Proof.Machine.execJudgedSwap a s
  | .exitCheckDone a b c => Sys2Proof.Machine.execExitCheckDone a b c s
  | .laneLost a b => Sys2Proof.Machine.execLaneLost a b s
  | .unservedPositionTakeover a => Sys2Proof.Machine.execUnservedPositionTakeover a s
  | .contextTrigger a b c => Sys2Proof.Machine.execContextTrigger a b c s
  | .contextDispatch a => Sys2Proof.Machine.execContextDispatch a s
  | .budgetExceeded a => Sys2Proof.Machine.execBudgetExceeded a s
  | .illegalInstruction a => Sys2Proof.Machine.execIllegalInstruction a s
  | .waitTimeout a b => Sys2Proof.Machine.execWaitTimeout a b s
  | .engineRun a => Sys2Proof.Machine.execEngineRun a s
  | .engineCrcDone a => Sys2Proof.Machine.execEngineCrcDone a s
  | .engineStop a => Sys2Proof.Machine.execEngineStop a s
  | .contextRestart a b => Sys2Proof.Machine.execContextRestart a b s
  | .swtrig a b => Sys2Proof.Machine.execSwtrig a b s
  | .clrFlags a b => Sys2Proof.Machine.execClrFlags a b s
  | .clrMax a b => Sys2Proof.Machine.execClrMax a b s
  | .overrideRamp a b c => Sys2Proof.Machine.execOverrideRamp a b c s
  | .overrideZero a b => Sys2Proof.Machine.execOverrideZero a b s
  | .overrideRelease a b => Sys2Proof.Machine.execOverrideRelease a b s
  | .coefEntryWrite a b c => Sys2Proof.Machine.execCoefEntryWrite a b c s
  | .genSync a => Sys2Proof.Machine.execGenSync a s
  | .corrClear a b => Sys2Proof.Machine.execCorrClear a b s
  | .corrReadLatch a b => Sys2Proof.Machine.execCorrReadLatch a b s
  | .evtqPop a b => Sys2Proof.Machine.execEvtqPop a b s
  | .capBufferRelease a b c => Sys2Proof.Machine.execCapBufferRelease a b c s
  | .olcNop a => Sys2Proof.Machine.execOlcNop a s
  | .olcLdi a => Sys2Proof.Machine.execOlcLdi a s
  | .olcLdk a => Sys2Proof.Machine.execOlcLdk a s
  | .olcMov a => Sys2Proof.Machine.execOlcMov a s
  | .olcLds a => Sys2Proof.Machine.execOlcLds a s
  | .olcLdr a => Sys2Proof.Machine.execOlcLdr a s
  | .olcStr a => Sys2Proof.Machine.execOlcStr a s
  | .olcLdd a => Sys2Proof.Machine.execOlcLdd a s
  | .olcStd a => Sys2Proof.Machine.execOlcStd a s
  | .olcLda a => Sys2Proof.Machine.execOlcLda a s
  | .olcMva a => Sys2Proof.Machine.execOlcMva a s
  | .olcClra a => Sys2Proof.Machine.execOlcClra a s
  | .olcLdp a => Sys2Proof.Machine.execOlcLdp a s
  | .olcRdw a => Sys2Proof.Machine.execOlcRdw a s
  | .olcAdd a => Sys2Proof.Machine.execOlcAdd a s
  | .olcSub a => Sys2Proof.Machine.execOlcSub a s
  | .olcAddi a => Sys2Proof.Machine.execOlcAddi a s
  | .olcNeg a => Sys2Proof.Machine.execOlcNeg a s
  | .olcAbs a => Sys2Proof.Machine.execOlcAbs a s
  | .olcMin a => Sys2Proof.Machine.execOlcMin a s
  | .olcMax a => Sys2Proof.Machine.execOlcMax a s
  | .olcShl a => Sys2Proof.Machine.execOlcShl a s
  | .olcShr a => Sys2Proof.Machine.execOlcShr a s
  | .olcMul a => Sys2Proof.Machine.execOlcMul a s
  | .olcMulv a => Sys2Proof.Machine.execOlcMulv a s
  | .olcMac a => Sys2Proof.Machine.execOlcMac a s
  | .olcMacv a => Sys2Proof.Machine.execOlcMacv a s
  | .olcDiv a => Sys2Proof.Machine.execOlcDiv a s
  | .olcFsum a => Sys2Proof.Machine.execOlcFsum a s
  | .olcSeln a => Sys2Proof.Machine.execOlcSeln a s
  | .olcIntg a => Sys2Proof.Machine.execOlcIntg a s
  | .olcFilt a => Sys2Proof.Machine.execOlcFilt a s
  | .olcLim a => Sys2Proof.Machine.execOlcLim a s
  | .olcTrack a => Sys2Proof.Machine.execOlcTrack a s
  | .olcMinsel a => Sys2Proof.Machine.execOlcMinsel a s
  | .olcMaxsel a => Sys2Proof.Machine.execOlcMaxsel a s
  | .olcInj a => Sys2Proof.Machine.execOlcInj a s
  | .olcCap a => Sys2Proof.Machine.execOlcCap a s
  | .olcCorr a => Sys2Proof.Machine.execOlcCorr a s
  | .olcOut a => Sys2Proof.Machine.execOlcOut a s
  | .olcOutu a => Sys2Proof.Machine.execOlcOutu a s
  | .olcEvt a => Sys2Proof.Machine.execOlcEvt a s
  | .olcBfs a => Sys2Proof.Machine.execOlcBfs a s
  | .olcBfc a => Sys2Proof.Machine.execOlcBfc a s
  | .olcClf a => Sys2Proof.Machine.execOlcClf a s
  | .olcBr a => Sys2Proof.Machine.execOlcBr a s
  | .olcBeq a => Sys2Proof.Machine.execOlcBeq a s
  | .olcBne a => Sys2Proof.Machine.execOlcBne a s
  | .olcBlt a => Sys2Proof.Machine.execOlcBlt a s
  | .olcBge a => Sys2Proof.Machine.execOlcBge a s
  | .olcLoop a => Sys2Proof.Machine.execOlcLoop a s
  | .olcCall a => Sys2Proof.Machine.execOlcCall a s
  | .olcRet a => Sys2Proof.Machine.execOlcRet a s
  | .olcWait a => Sys2Proof.Machine.execOlcWait a s
  | .olcEnd a => Sys2Proof.Machine.execOlcEnd a s
  | .portHoldExpiry a => Sys2Proof.Machine.execPortHoldExpiry a s
  | .bufferLiveTimeout a => Sys2Proof.Machine.execBufferLiveTimeout a s
  | .g0MeasurementLost => Sys2Proof.Machine.execG0MeasurementLost s
  | .g1MeasurementLost => Sys2Proof.Machine.execG1MeasurementLost s
  | .allocationHoldExpiry a b => Sys2Proof.Machine.execAllocationHoldExpiry a b s
  | .psreqIdle a b c => Sys2Proof.Machine.execPsreqIdle a b c s
  | .psreqConnected a b c => Sys2Proof.Machine.execPsreqConnected a b c s
  | .psreqAuthorising a b c => Sys2Proof.Machine.execPsreqAuthorising a b c s
  | .psreqCableCheck a b c => Sys2Proof.Machine.execPsreqCableCheck a b c s
  | .psreqPrecharge a b c => Sys2Proof.Machine.execPsreqPrecharge a b c s
  | .psreqCharging a b c => Sys2Proof.Machine.execPsreqCharging a b c s
  | .psreqRampDown a b c => Sys2Proof.Machine.execPsreqRampDown a b c s
  | .psreqWeldCheck a b c => Sys2Proof.Machine.execPsreqWeldCheck a b c s
  | .psreqUnlock a b c => Sys2Proof.Machine.execPsreqUnlock a b c s
  | .psreqFault a b c => Sys2Proof.Machine.execPsreqFault a b c s
  | .psreqRetired a b c => Sys2Proof.Machine.execPsreqRetired a b c s
  | .pilotMeasurement a b c d e => Sys2Proof.Machine.execPilotMeasurement a b c d e s
  | .pilotModeWrite a b c => Sys2Proof.Machine.execPilotModeWrite a b c s
  | .t1sLinkChange a b c => Sys2Proof.Machine.execT1sLinkChange a b c s
  | .t1sLinkDownTimeout a b => Sys2Proof.Machine.execT1sLinkDownTimeout a b s
  | .t1sTransmit a b => Sys2Proof.Machine.execT1sTransmit a b s
  | .t1sReceive a b c d => Sys2Proof.Machine.execT1sReceive a b c d s
  | .jabber a b => Sys2Proof.Machine.execJabber a b s
  | .periodicFrame a b => Sys2Proof.Machine.execPeriodicFrame a b s
  | .returnFrame a b c d e => Sys2Proof.Machine.execReturnFrame a b c d e s
  | .returnFrameMiss a b => Sys2Proof.Machine.execReturnFrameMiss a b s
  | .rxlost a b => Sys2Proof.Machine.execRxlost a b s
  | .halt a b => Sys2Proof.Machine.execHalt a b s
  | .release a b => Sys2Proof.Machine.execRelease a b s
  | .cableCheckInsulation a b c => Sys2Proof.Machine.execCableCheckInsulation a b c s
  | .cableCheckTimeout a b => Sys2Proof.Machine.execCableCheckTimeout a b s
  | .prechargeTimeout a b => Sys2Proof.Machine.execPrechargeTimeout a b s
  | .coolingLoss a => Sys2Proof.Machine.execCoolingLoss a s
  | .coolingRestore a => Sys2Proof.Machine.execCoolingRestore a s
  | .pumpIdleTimeout a => Sys2Proof.Machine.execPumpIdleTimeout a s
  | .copperResult a b c d e f => Sys2Proof.Machine.execCopperResult a b c d e f s
  | .copperReference a b c d => Sys2Proof.Machine.execCopperReference a b c d s
  | .thermometryFallback a b => Sys2Proof.Machine.execThermometryFallback a b s
  | .load a => Sys2Proof.Machine.execLoad a s
  | .modemLoadDone a => Sys2Proof.Machine.execModemLoadDone a s
  | .modemWatchdog a b => Sys2Proof.Machine.execModemWatchdog a b s
  | .vehicleFrameReceive a b c d e => Sys2Proof.Machine.execVehicleFrameReceive a b c d e s
  | .roboModeStepUp a b => Sys2Proof.Machine.execRoboModeStepUp a b s
  | .slacSetSend a b c d => Sys2Proof.Machine.execSlacSetSend a b c d s
  | .slacDecision a => Sys2Proof.Machine.execSlacDecision a s
  | .herdPoll a b => Sys2Proof.Machine.execHerdPoll a b s
  | .herdReply a b => Sys2Proof.Machine.execHerdReply a b s
  | .herdReplyTimeout a => Sys2Proof.Machine.execHerdReplyTimeout a s
  | .herdBroadcast a => Sys2Proof.Machine.execHerdBroadcast a s
  | .herdBroadcastCopy => Sys2Proof.Machine.execHerdBroadcastCopy s
  | .herdLostNodePoll a => Sys2Proof.Machine.execHerdLostNodePoll a s
  | .herdQuietRestore a => Sys2Proof.Machine.execHerdQuietRestore a s
  | .canInitClear a b => Sys2Proof.Machine.execCanInitClear a b s
  | .canFrameReceive a b c => Sys2Proof.Machine.execCanFrameReceive a b c s
  | .canTxRequest a b c => Sys2Proof.Machine.execCanTxRequest a b c s
  | .canTxAttemptEnd a b c => Sys2Proof.Machine.execCanTxAttemptEnd a b c s
  | .canBusOffRecovery a b => Sys2Proof.Machine.execCanBusOffRecovery a b s
  | .canTxAbort a b c => Sys2Proof.Machine.execCanTxAbort a b c s
  | .canBusError a b c d e f g => Sys2Proof.Machine.execCanBusError a b c d e f g s
  | .canQueueRelease a b c d => Sys2Proof.Machine.execCanQueueRelease a b c d s
  | .canAbdStart a b => Sys2Proof.Machine.execCanAbdStart a b s
  | .canAbdDwellExpiry a b => Sys2Proof.Machine.execCanAbdDwellExpiry a b s
  | .canReferenceDue a b => Sys2Proof.Machine.execCanReferenceDue a b s
  | .gridEdge => Sys2Proof.Machine.execGridEdge s
  | .siteTick => Sys2Proof.Machine.execSiteTick s
  | .incrementApply => Sys2Proof.Machine.execIncrementApply s
  | .timeIncrementMessage a => Sys2Proof.Machine.execTimeIncrementMessage a s
  | .tsuNsRead a b => Sys2Proof.Machine.execTsuNsRead a b s
  | .residualWrite a b => Sys2Proof.Machine.execResidualWrite a b s
  | .domainTimeout a => Sys2Proof.Machine.execDomainTimeout a s
  | .holdoverExpiry => Sys2Proof.Machine.execHoldoverExpiry s
  | .domainSelect a b => Sys2Proof.Machine.execDomainSelect a b s
  | .stepApply => Sys2Proof.Machine.execStepApply s
  | .rtcRewrite => Sys2Proof.Machine.execRtcRewrite s
  | .utcOffsetChange => Sys2Proof.Machine.execUtcOffsetChange s
  | .ethTxTimestamp a b c d => Sys2Proof.Machine.execEthTxTimestamp a b c d s
  | .ethTsqPop a => Sys2Proof.Machine.execEthTsqPop a s
  | .arm a b => Sys2Proof.Machine.execArm a b s
  | .pulseEdge a b => Sys2Proof.Machine.execPulseEdge a b s
  | .captureEvent a b c => Sys2Proof.Machine.execCaptureEvent a b c s
  | .acqArm a b => Sys2Proof.Machine.execAcqArm a b s
  | .force a b => Sys2Proof.Machine.execForce a b s
  | .acqStop a b => Sys2Proof.Machine.execAcqStop a b s
  | .acqDisable a b => Sys2Proof.Machine.execAcqDisable a b s
  | .acqSegmentComplete a b => Sys2Proof.Machine.execAcqSegmentComplete a b s
  | .acqPostComplete a b => Sys2Proof.Machine.execAcqPostComplete a b s
  | .groupFire a b c d => Sys2Proof.Machine.execGroupFire a b c d s
  | .groupArm a => Sys2Proof.Machine.execGroupArm a s
  | .disarm a => Sys2Proof.Machine.execDisarm a s
  | .gatherBlock a b => Sys2Proof.Machine.execGatherBlock a b s
  | .gatherOverflow a => Sys2Proof.Machine.execGatherOverflow a s
  | .readoutGo a => Sys2Proof.Machine.execReadoutGo a s
  | .readoutDone a => Sys2Proof.Machine.execReadoutDone a s
  | .meterIncrementReceive a => Sys2Proof.Machine.execMeterIncrementReceive a s
  | .meterIncrementAck a => Sys2Proof.Machine.execMeterIncrementAck a s
  | .meterCommit => Sys2Proof.Machine.execMeterCommit s
  | .reactiveHalfCycle a b => Sys2Proof.Machine.execReactiveHalfCycle a b s
  | .recordSign a => Sys2Proof.Machine.execRecordSign a s
  | .tamperReverseCurrent a b => Sys2Proof.Machine.execTamperReverseCurrent a b s
  | .tamperShuntBypass a b c => Sys2Proof.Machine.execTamperShuntBypass a b c s
  | .tamperMissingNeutral a => Sys2Proof.Machine.execTamperMissingNeutral a s
  | .tamperMagneticField a => Sys2Proof.Machine.execTamperMagneticField a s
  | .meterTamperEnd a b => Sys2Proof.Machine.execMeterTamperEnd a b s
  | .twinMeterWindow => Sys2Proof.Machine.execTwinMeterWindow s
  | .boundaryAnnounce a => Sys2Proof.Machine.execBoundaryAnnounce a s
  | .boundaryCommit => Sys2Proof.Machine.execBoundaryCommit s
  | .dlmsAssociationOpen a b c => Sys2Proof.Machine.execDlmsAssociationOpen a b c s
  | .dlmsApdu a b c => Sys2Proof.Machine.execDlmsApdu a b c s
  | .tokenTransaction => Sys2Proof.Machine.execTokenTransaction s
  | .safetyScan a b c => Sys2Proof.Machine.execSafetyScan a b c s
  | .safetyInputFilter a b c d => Sys2Proof.Machine.execSafetyInputFilter a b c d s
  | .tripOpenExpiry a b => Sys2Proof.Machine.execTripOpenExpiry a b s
  | .rampDeadline a b => Sys2Proof.Machine.execRampDeadline a b s
  | .contactTimeout a b c => Sys2Proof.Machine.execContactTimeout a b c s
  | .insulationWindow a b c d => Sys2Proof.Machine.execInsulationWindow a b c d s
  | .temperatureStopTimer a b => Sys2Proof.Machine.execTemperatureStopTimer a b s
  | .flowTimeout a b => Sys2Proof.Machine.execFlowTimeout a b s
  | .tripClear a b => Sys2Proof.Machine.execTripClear a b s
  | .degradedTimeExpiry a b => Sys2Proof.Machine.execDegradedTimeExpiry a b s
  | .unlockOkSet a b => Sys2Proof.Machine.execUnlockOkSet a b s
  | .safetyPasswordLockoutEnd a => Sys2Proof.Machine.execSafetyPasswordLockoutEnd a s
  | .safetyDiagnosticFault a b => Sys2Proof.Machine.execSafetyDiagnosticFault a b s
  | .selftestDone a b => Sys2Proof.Machine.execSelftestDone a b s
  | .lswRequest a b => Sys2Proof.Machine.execLswRequest a b s
  | .lswRequestWithdraw a b => Sys2Proof.Machine.execLswRequestWithdraw a b s
  | .lswPwmPeriod a b => Sys2Proof.Machine.execLswPwmPeriod a b s
  | .lswLimitOff a b => Sys2Proof.Machine.execLswLimitOff a b s
  | .lswRetryDue a b => Sys2Proof.Machine.execLswRetryDue a b s
  | .lswInrushWindowEnd a b => Sys2Proof.Machine.execLswInrushWindowEnd a b s
  | .lswRestartDelayEnd a b => Sys2Proof.Machine.execLswRestartDelayEnd a b s
  | .lswThermalOff a b c => Sys2Proof.Machine.execLswThermalOff a b c s
  | .lswThermalRestart a b c => Sys2Proof.Machine.execLswThermalRestart a b c s
  | .clrLatch a b => Sys2Proof.Machine.execClrLatch a b s
  | .groupThrottle a b c => Sys2Proof.Machine.execGroupThrottle a b c s
  | .groupThrottleEnd a b c => Sys2Proof.Machine.execGroupThrottleEnd a b c s
  | .groupOff a b c => Sys2Proof.Machine.execGroupOff a b c s
  | .groupResume a b c => Sys2Proof.Machine.execGroupResume a b c s
  | .groupLatchClr a b => Sys2Proof.Machine.execGroupLatchClr a b s
  | .openLoad a b => Sys2Proof.Machine.execOpenLoad a b s
  | .dieTempSample a b => Sys2Proof.Machine.execDieTempSample a b s
  | .shutdownOutputRelease a => Sys2Proof.Machine.execShutdownOutputRelease a s
  | .shutdownClockStop a => Sys2Proof.Machine.execShutdownClockStop a s
  | .shutdownRecovery a b => Sys2Proof.Machine.execShutdownRecovery a b s
  | .referenceCompensation a b => Sys2Proof.Machine.execReferenceCompensation a b s
  | .twinLinkTrained a => Sys2Proof.Machine.execTwinLinkTrained a s
  | .twinLinkTrainTimeout => Sys2Proof.Machine.execTwinLinkTrainTimeout s
  | .twinLinkDown => Sys2Proof.Machine.execTwinLinkDown s
  | .heartbeatReceive a => Sys2Proof.Machine.execHeartbeatReceive a s
  | .heartbeatMiss => Sys2Proof.Machine.execHeartbeatMiss s
  | .claimKeeperExpiry => Sys2Proof.Machine.execClaimKeeperExpiry s
  | .antlInChange a => Sys2Proof.Machine.execAntlInChange a s
  | .claimWithdraw a => Sys2Proof.Machine.execClaimWithdraw a s
  | .handoverRecordReceive a => Sys2Proof.Machine.execHandoverRecordReceive a s
  | .takeover => Sys2Proof.Machine.execTakeover s
  | .outputEnable a => Sys2Proof.Machine.execOutputEnable a s
  | .latchRelease => Sys2Proof.Machine.execLatchRelease s
  | .heldClaim => Sys2Proof.Machine.execHeldClaim s
  | .followingCheck => Sys2Proof.Machine.execFollowingCheck s
  | .plannedRelease => Sys2Proof.Machine.execPlannedRelease s
  | .twinMainsNotice => Sys2Proof.Machine.execTwinMainsNotice s
  | .resyncRegionCopyDone a => Sys2Proof.Machine.execResyncRegionCopyDone a s
  | .regionResetDelay a => Sys2Proof.Machine.execRegionResetDelay a s
  | .chipResetDelay => Sys2Proof.Machine.execChipResetDelay s
  | .dieWatchdog a => Sys2Proof.Machine.execDieWatchdog a s
  | .ethFrameReceive a b c => Sys2Proof.Machine.execEthFrameReceive a b c s
  | .twinLinkLaneFail a => Sys2Proof.Machine.execTwinLinkLaneFail a s

end Sys2Proof.Machine
end

