-- ==== Sys2Proof/Laws/Sparse.lean ====
section
/-!
SUPPORT. Laws of the sparse stores: a read after a write to the same key gives the value written, a write leaves every other
key alone, and writes, wipes and resets keep the canonical form.
-/

namespace Sys2Proof.Sparse

variable {α : Type}

theorem get_erase_same (dflt : Nat → α) (l : List (Nat × α)) (k : Nat) : get dflt (erase l k) k = dflt k := by
  induction l with
  | nil => rfl
  | cons p t ih =>
    simp only [erase]
    split
    · exact ih
    · rename_i h
      simp [get, h, ih]

theorem get_erase_ne (dflt : Nat → α) (l : List (Nat × α)) {k k' : Nat} (h : k' ≠ k) :
    get dflt (erase l k) k' = get dflt l k' := by
  induction l with
  | nil => rfl
  | cons p t ih =>
    simp only [erase, get]
    by_cases hp : p.1 = k
    · rw [if_pos hp, if_neg (by omega), ih]
    · rw [if_neg hp]
      simp [get, ih]

theorem get_insert_same (dflt : Nat → α) (l : List (Nat × α)) (k : Nat) (v : α) : get dflt (insert l k v) k = v := by
  induction l with
  | nil => simp [insert, get]
  | cons p t ih =>
    simp only [insert]
    by_cases h1 : k < p.1
    · simp [h1, get]
    · by_cases h2 : p.1 = k
      · simp [h2, get]
      · simp [h1, h2, get, ih]

theorem get_insert_ne (dflt : Nat → α) (l : List (Nat × α)) (v : α) {k k' : Nat} (h : k' ≠ k) :
    get dflt (insert l k v) k' = get dflt l k' := by
  induction l with
  | nil => simp [insert, get, Ne.symm h]
  | cons p t ih =>
    simp only [insert]
    by_cases h1 : k < p.1
    · simp [h1, get, Ne.symm h]
    · by_cases h2 : p.1 = k
      · subst h2
        simp [get, Ne.symm h]
      · simp [h1, h2, get, ih]

variable [DecidableEq α]

/-- A read after a write to the same key. -/
theorem get_set_same (dflt : Nat → α) (l : List (Nat × α)) (k : Nat) (v : α) : get dflt (set dflt l k v) k = v := by
  unfold set
  split
  · rename_i h
    rw [get_erase_same, h]
  · exact get_insert_same dflt l k v

/-- A write leaves every other key alone. -/
theorem get_set_ne (dflt : Nat → α) (l : List (Nat × α)) (v : α) {k k' : Nat} (h : k' ≠ k) :
    get dflt (set dflt l k v) k' = get dflt l k' := by
  unfold set
  split
  · exact get_erase_ne dflt l h
  · exact get_insert_ne dflt l v h

theorem get_set (dflt : Nat → α) (l : List (Nat × α)) (k : Nat) (v : α) (k' : Nat) :
    get dflt (set dflt l k v) k' = if k' = k then v else get dflt l k' := by
  by_cases h : k' = k
  · subst h
    simp [get_set_same]
  · simp [h, get_set_ne]

/-! ## The canonical form -/

/-- Every key of a list lies above `k`. -/
def Above (k : Nat) (l : List (Nat × α)) : Prop := ∀ p ∈ l, k < p.1

/-- The canonical form of a list with a head: the head is listed for a reason, lies below the rest, and the rest is canonical. -/
theorem wf_cons (dflt : Nat → α) (p : Nat × α) (t : List (Nat × α)) :
    wf dflt (p :: t) = true ↔ p.2 ≠ dflt p.1 ∧ Above p.1 t ∧ wf dflt t = true := by
  induction t generalizing p with
  | nil => simp [wf, Above]
  | cons q u ih =>
    simp only [wf, Bool.and_eq_true, decide_eq_true_eq]
    constructor
    · rintro ⟨⟨h1, h2⟩, h3⟩
      refine ⟨h1, ?_, h3⟩
      intro x hx
      rcases List.mem_cons.mp hx with rfl | hx
      · exact h2
      · exact Nat.lt_trans h2 (((ih q).mp h3).2.1 x hx)
    · rintro ⟨h1, h2, h3⟩
      exact ⟨⟨h1, h2 q (List.mem_cons_self ..)⟩, h3⟩

omit [DecidableEq α] in
theorem above_erase {k k' : Nat} {l : List (Nat × α)} (h : Above k l) : Above k (erase l k') := by
  induction l with
  | nil => exact h
  | cons p t ih =>
    have ht : Above k t := fun x hx => h x (List.mem_cons_of_mem _ hx)
    simp only [erase]
    split
    · exact ih ht
    · intro x hx
      rcases List.mem_cons.mp hx with rfl | hx
      · exact h _ (List.mem_cons_self ..)
      · exact ih ht x hx

theorem wf_erase (dflt : Nat → α) {l : List (Nat × α)} (k : Nat) (h : wf dflt l = true) : wf dflt (erase l k) = true := by
  induction l with
  | nil => rfl
  | cons p t ih =>
    obtain ⟨h1, h2, h3⟩ := (wf_cons dflt p t).mp h
    simp only [erase]
    split
    · exact ih h3
    · exact (wf_cons dflt p _).mpr ⟨h1, above_erase h2, ih h3⟩

omit [DecidableEq α] in
theorem above_insert {k k' : Nat} {v : α} {l : List (Nat × α)} (h : Above k l) (hk : k < k') : Above k (insert l k' v) := by
  induction l with
  | nil =>
    intro x hx
    simp only [insert, List.mem_singleton] at hx
    subst hx
    exact hk
  | cons p t ih =>
    have ht : Above k t := fun x hx => h x (List.mem_cons_of_mem _ hx)
    have hp := h p (List.mem_cons_self ..)
    intro x hx
    simp only [insert] at hx
    split at hx
    · rcases List.mem_cons.mp hx with rfl | hx
      · exact hk
      · exact h x hx
    · split at hx
      · rcases List.mem_cons.mp hx with rfl | hx
        · exact hk
        · exact ht x hx
      · rcases List.mem_cons.mp hx with rfl | hx
        · exact hp
        · exact ih ht x hx

theorem wf_insert (dflt : Nat → α) {l : List (Nat × α)} (k : Nat) (v : α) (hv : v ≠ dflt k) (h : wf dflt l = true) :
    wf dflt (insert l k v) = true := by
  induction l with
  | nil => simp [insert, wf, hv]
  | cons p t ih =>
    obtain ⟨h1, h2, h3⟩ := (wf_cons dflt p t).mp h
    simp only [insert]
    split
    · rename_i hk
      refine (wf_cons dflt _ _).mpr ⟨hv, ?_, h⟩
      intro x hx
      rcases List.mem_cons.mp hx with rfl | hx
      · exact hk
      · exact Nat.lt_trans hk (h2 x hx)
    · split
      · rename_i hk
        subst hk
        exact (wf_cons dflt _ _).mpr ⟨hv, h2, h3⟩
      · rename_i h4 h5
        exact (wf_cons dflt p _).mpr ⟨h1, above_insert h2 (by omega), ih h3⟩

/-- A write keeps the canonical form. -/
theorem wf_set (dflt : Nat → α) {l : List (Nat × α)} (k : Nat) (v : α) (h : wf dflt l = true) :
    wf dflt (set dflt l k v) = true := by
  unfold set
  split
  · exact wf_erase dflt k h
  · rename_i hv
    exact wf_insert dflt k v hv h

/-- What keeps some entries and changes values only to other listed ones keeps the canonical form. -/
theorem wf_filterMap (dflt : Nat → α) (f : Nat × α → Option (Nat × α))
    (hf : ∀ p q, f p = some q → p.2 ≠ dflt p.1 → q.1 = p.1 ∧ q.2 ≠ dflt q.1) {l : List (Nat × α)}
    (h : wf dflt l = true) : wf dflt (l.filterMap f) = true := by
  induction l with
  | nil => rfl
  | cons p t ih =>
    obtain ⟨h1, h2, h3⟩ := (wf_cons dflt p t).mp h
    have hab : Above p.1 (t.filterMap f) := by
      intro x hx
      obtain ⟨y, hy, hxy⟩ := List.mem_filterMap.mp hx
      have hne : y.2 ≠ dflt y.1 := by
        clear ih hx h h1 h2 hxy x
        induction t with
        | nil => exact absurd hy (List.not_mem_nil)
        | cons z u ihu =>
          obtain ⟨g1, _, g3⟩ := (wf_cons dflt z u).mp h3
          rcases List.mem_cons.mp hy with rfl | hy
          · exact g1
          · exact ihu g3 hy
      rw [(hf y x hxy hne).1]
      exact h2 y hy
    simp only [List.filterMap_cons]
    split
    · exact ih h3
    · rename_i q hq
      obtain ⟨e1, e2⟩ := hf p q hq h1
      refine (wf_cons dflt q _).mpr ⟨e2, ?_, ih h3⟩
      rw [e1]
      exact hab

/-- A wipe keeps the canonical form. -/
theorem wf_drop (dflt : Nat → α) (p : Nat → Bool) {l : List (Nat × α)} (h : wf dflt l = true) :
    wf dflt (drop p l) = true := by
  unfold drop
  rw [← List.filterMap_eq_filter]
  refine wf_filterMap dflt _ ?_ h
  intro x y hxy hne
  simp only [Option.guard] at hxy
  split at hxy
  · cases hxy
    exact ⟨rfl, hne⟩
  · cases hxy

end Sys2Proof.Sparse
end

