-- ==== Sys2Proof/Laws/Regs.lean ====
section
/-!
SUPPORT. Laws of the register file and the byte memory: what a field, a byte, a word read after a write.
-/

namespace Sys2Proof.Machine.State

/-! ## Words -/

@[simp] theorem word_setWord_same (s : State) (a : Nat) (v : Word) : (s.setWord a v).word a = v :=
  Sparse.get_set_same ..

theorem word_setWord_ne (s : State) (v : Word) {a b : Nat} (h : b ≠ a) : (s.setWord a v).word b = s.word b :=
  Sparse.get_set_ne _ _ _ h

theorem word_setWord (s : State) (a b : Nat) (v : Word) : (s.setWord a v).word b = if b = a then v else s.word b :=
  Sparse.get_set ..

/-! ## Fields -/

/-- The bits of a field within its register. -/
def maskBits (w : Nat) : Word := BitVec.ofNat 32 (2 ^ w - 1)

theorem maskBits_getLsbD (w i : Nat) : (maskBits w).getLsbD i = (decide (i < 32) && decide (i < w)) := by
  simp [maskBits, BitVec.getLsbD_ofNat, Nat.testBit_two_pow_sub_one]

theorem put_get_same (old : Word) (lo w v : Nat) (h : lo + w ≤ 32) :
    ((((old &&& ~~~(maskBits w <<< lo)) ||| ((BitVec.ofNat 32 v &&& maskBits w) <<< lo)) >>> lo) &&& maskBits w)
      = BitVec.ofNat 32 v &&& maskBits w := by
  apply BitVec.eq_of_getLsbD_eq
  intro i hi
  simp only [BitVec.getLsbD_and, BitVec.getLsbD_or, BitVec.getLsbD_not, BitVec.getLsbD_ushiftRight,
    BitVec.getLsbD_shiftLeft, maskBits_getLsbD]
  by_cases h1 : i < w
  · have h2 : lo + i < 32 := by omega
    have h3 : lo + i - lo = i := by omega
    simp [h1, h2, h3, hi]
  · simp [h1]

theorem put_get_apart (old : Word) (lo w v lo' w' : Nat) (h : lo + w ≤ lo' ∨ lo' + w' ≤ lo) :
    ((((old &&& ~~~(maskBits w <<< lo)) ||| ((BitVec.ofNat 32 v &&& maskBits w) <<< lo)) >>> lo') &&& maskBits w')
      = (old >>> lo') &&& maskBits w' := by
  apply BitVec.eq_of_getLsbD_eq
  intro i hi
  simp only [BitVec.getLsbD_and, BitVec.getLsbD_or, BitVec.getLsbD_not, BitVec.getLsbD_ushiftRight,
    BitVec.getLsbD_shiftLeft, maskBits_getLsbD]
  by_cases h1 : i < w'
  · by_cases h2 : lo' + i < 32
    · by_cases h4 : lo' + i < lo
      · simp [h1, h2, h4]
      · have h5 : ¬ lo' + i - lo < w := by omega
        simp [h1, h2, h4, h5]
    · have h6 : old.getLsbD (lo' + i) = false := BitVec.getLsbD_of_ge _ _ (by omega)
      simp [h2, h6]
  · simp [h1]

theorem ofNat_and_mask_toNat (v w : Nat) (h : w ≤ 32) : (BitVec.ofNat 32 v &&& maskBits w).toNat = v % 2 ^ w := by
  have h1 : 2 ^ w ≤ 2 ^ 32 := Nat.pow_le_pow_right (by decide) h
  have h0 : 0 < 2 ^ w := Nat.two_pow_pos w
  simp only [maskBits, BitVec.toNat_and, BitVec.toNat_ofNat]
  rw [Nat.mod_eq_of_lt (a := 2 ^ w - 1) (by omega), Nat.and_two_pow_sub_one_eq_mod, Nat.mod_mod_of_dvd]
  exact Nat.pow_dvd_pow 2 h

/-- A field reads what was written to it. -/
theorem rd_wr_same (s : State) (d : Nat) (f : Fld) (v i j : Nat) (h : f.lo + f.w ≤ 32) :
    (s.wr d f v i j).rd d f i j = v % 2 ^ f.w := by
  unfold rd wr
  simp only [word_setWord_same]
  rw [← ofNat_and_mask_toNat v f.w (by omega)]
  exact congrArg BitVec.toNat (put_get_same _ _ _ _ h)

/-- Two fields do not overlap: another register, or other bits. -/
def Apart (d : Nat) (f : Fld) (i j : Nat) (d' : Nat) (g : Fld) (i' j' : Nat) : Prop :=
  fldAddr d' g i' j' ≠ fldAddr d f i j ∨ f.lo + f.w ≤ g.lo ∨ g.lo + g.w ≤ f.lo

/-- A write leaves every field apart from it alone. -/
theorem rd_wr_apart (s : State) (d : Nat) (f : Fld) (v i j d' : Nat) (g : Fld) (i' j' : Nat)
    (h : Apart d f i j d' g i' j') : (s.wr d f v i j).rd d' g i' j' = s.rd d' g i' j' := by
  unfold rd wr
  by_cases ha : fldAddr d' g i' j' = fldAddr d f i j
  · rw [ha]
    simp only [word_setWord_same]
    rcases h with h | h
    · exact absurd ha h
    · exact congrArg BitVec.toNat (put_get_apart _ _ _ _ _ _ h)
  · simp only [word_setWord_ne s _ ha]

/-- A field is smaller than its width allows. -/
theorem rd_lt (s : State) (d : Nat) (f : Fld) (i j : Nat) (h : f.w ≤ 32) : s.rd d f i j < 2 ^ f.w := by
  have h1 : 2 ^ f.w ≤ 2 ^ 32 := Nat.pow_le_pow_right (by decide) h
  have h0 : 0 < 2 ^ f.w := Nat.two_pow_pos f.w
  unfold rd
  rw [BitVec.toNat_and, BitVec.toNat_ofNat, Nat.mod_eq_of_lt (a := 2 ^ f.w - 1) (by omega)]
  exact Nat.lt_of_le_of_lt Nat.and_le_right (by omega)

/-- Another register keeps its word. -/
theorem word_wr_ne (s : State) (d : Nat) (f : Fld) (v i j a : Nat) (h : a ≠ fldAddr d f i j) :
    (s.wr d f v i j).word a = s.word a := word_setWord_ne s _ h

/-! ## Bytes -/

@[simp] theorem byte_setByte_same (s : State) (k : Nat) (v : Byte) : (s.setByte k v).byte k = v :=
  Sparse.get_set_same ..

theorem byte_setByte_ne (s : State) (v : Byte) {k k' : Nat} (h : k' ≠ k) : (s.setByte k v).byte k' = s.byte k' :=
  Sparse.get_set_ne _ _ _ h

/-- Bytes outside a stored range stay. -/
theorem byte_setBytes_out (l : List Byte) (s : State) (k a : Nat) (h : a < k ∨ k + l.length ≤ a) :
    (s.setBytes k l).byte a = s.byte a := by
  induction l generalizing s k with
  | nil => rfl
  | cons b t ih =>
    simp only [List.length_cons] at h
    simp only [setBytes]
    rw [ih _ _ (by omega), byte_setByte_ne _ _ (by omega)]

/-- Byte `n` of a stored range reads what was stored. -/
theorem byte_setBytes_in (l : List Byte) (s : State) (k n : Nat) (h : n < l.length) :
    (s.setBytes k l).byte (k + n) = l[n] := by
  induction l generalizing s k n with
  | nil => exact absurd h (Nat.not_lt_zero _)
  | cons b t ih =>
    simp only [setBytes]
    cases n with
    | zero =>
      rw [byte_setBytes_out t _ _ _ (by omega)]
      simp
    | succ m =>
      have := ih (s.setByte k b) (k + 1) m (by simpa using h)
      rw [show k + (m + 1) = k + 1 + m by omega, this]
      simp

/-! ## Parts a write of a register or a byte leaves alone -/

@[simp] theorem setWord_mem (s : State) (a : Nat) (v : Word) : (s.setWord a v).mem = s.mem := (rfl)
@[simp] theorem setWord_pending (s : State) (a : Nat) (v : Word) : (s.setWord a v).pending = s.pending := (rfl)
@[simp] theorem wr_mem (s : State) (d : Nat) (f : Fld) (v i j : Nat) : (s.wr d f v i j).mem = s.mem := by
  unfold wr
  rw [setWord_mem]
@[simp] theorem wr_pending (s : State) (d : Nat) (f : Fld) (v i j : Nat) : (s.wr d f v i j).pending = s.pending := by
  unfold wr
  rw [setWord_pending]
@[simp] theorem setByte_regs (s : State) (k : Nat) (v : Byte) : (s.setByte k v).regs = s.regs := (rfl)
@[simp] theorem setByte_pending (s : State) (k : Nat) (v : Byte) : (s.setByte k v).pending = s.pending := (rfl)

@[simp] theorem setBytes_regs (l : List Byte) (s : State) (k : Nat) : (s.setBytes k l).regs = s.regs := by
  induction l generalizing s k with
  | nil => rfl
  | cons b t ih => simp [setBytes, ih]

@[simp] theorem setBytes_pending (l : List Byte) (s : State) (k : Nat) : (s.setBytes k l).pending = s.pending := by
  induction l generalizing s k with
  | nil => rfl
  | cons b t ih => simp [setBytes, ih]

/-! ## The canonical form -/

theorem setWord_wf {s : State} (a : Nat) (v : Word) (h : Sparse.wf resetWord s.regs = true) :
    Sparse.wf resetWord (s.setWord a v).regs = true := Sparse.wf_set resetWord a v h

theorem wr_wf {s : State} (d : Nat) (f : Fld) (v i j : Nat) (h : Sparse.wf resetWord s.regs = true) :
    Sparse.wf resetWord (s.wr d f v i j).regs = true := setWord_wf _ _ h

theorem setByte_wf {s : State} (k : Nat) (v : Byte) (h : Sparse.wf (fun _ => 0) s.mem = true) :
    Sparse.wf (fun _ => 0) (s.setByte k v).mem = true := Sparse.wf_set _ k v h

theorem setBytes_wf (l : List Byte) {s : State} (k : Nat) (h : Sparse.wf (fun _ => 0) s.mem = true) :
    Sparse.wf (fun _ => 0) (s.setBytes k l).mem = true := by
  induction l generalizing s k with
  | nil => exact h
  | cons b t ih => exact ih (k + 1) (setByte_wf k b h)

theorem zeroRange_wf {s : State} (k n : Nat) (h : Sparse.wf (fun _ => 0) s.mem = true) :
    Sparse.wf (fun _ => 0) (s.zeroRange k n).mem = true := by
  unfold zeroRange
  have := Sparse.wf_drop (fun _ => (0 : Byte)) (fun a => decide (k ≤ a) && decide (a < k + n)) h
  exact this

theorem resetRegs_wf {s : State} (p : Nat → RegD → Bool) (h : Sparse.wf resetWord s.regs = true) :
    Sparse.wf resetWord (s.resetRegs p).regs = true := by
  refine Sparse.wf_filterMap resetWord _ ?_ h
  rintro ⟨k, v⟩ q hq hne
  simp only at hq
  split at hq
  · rename_i r i x hf
    split at hq
    · simp only [Option.ite_none_left_eq_some] at hq
      obtain ⟨h1, h2⟩ := hq
      cases h2
      refine ⟨rfl, ?_⟩
      simp only [resetWord, hf]
      exact h1
    · cases hq
      exact ⟨rfl, hne⟩
  · cases hq
    exact ⟨rfl, hne⟩

end Sys2Proof.Machine.State
end

