-- ==== Sys2Proof/Laws/State.lean ====
section
/-!
SUPPORT. What the updates of the state leave alone: one lemma for each update and each part of the state it does not touch, so
that no proof unfolds a record update.
-/

namespace Sys2Proof.Machine.State

variable (s : State)

/-! ### setWord -/

@[simp] theorem setWord_upsets (a : Nat) (v : Word) : (s.setWord a v).upsets = s.upsets := (rfl)
@[simp] theorem setWord_freeIdx (a : Nat) (v : Word) : (s.setWord a v).freeIdx = s.freeIdx := (rfl)
@[simp] theorem setWord_now (a : Nat) (v : Word) : (s.setWord a v).now = s.now := (rfl)
@[simp] theorem setWord_pkg (a : Nat) (v : Word) : (s.setWord a v).pkg = s.pkg := (rfl)
@[simp] theorem setWord_sup (a : Nat) (v : Word) : (s.setWord a v).sup = s.sup := (rfl)
@[simp] theorem setWord_logs (a : Nat) (v : Word) : (s.setWord a v).logs = s.logs := (rfl)
@[simp] theorem setWord_faults (a : Nat) (v : Word) : (s.setWord a v).faults = s.faults := (rfl)
@[simp] theorem setWord_lcs (a : Nat) (v : Word) : (s.setWord a v).lcs = s.lcs := (rfl)
@[simp] theorem setWord_keys (a : Nat) (v : Word) : (s.setWord a v).keys = s.keys := (rfl)
@[simp] theorem setWord_gate (a : Nat) (v : Word) : (s.setWord a v).gate = s.gate := (rfl)
@[simp] theorem setWord_tsu (a : Nat) (v : Word) : (s.setWord a v).tsu = s.tsu := (rfl)
@[simp] theorem setWord_servo (a : Nat) (v : Word) : (s.setWord a v).servo = s.servo := (rfl)
@[simp] theorem setWord_oxe (a : Nat) (v : Word) : (s.setWord a v).oxe = s.oxe := (rfl)
@[simp] theorem setWord_stl (a : Nat) (v : Word) : (s.setWord a v).stl = s.stl := (rfl)
@[simp] theorem setWord_veh (a : Nat) (v : Word) : (s.setWord a v).veh = s.veh := (rfl)
@[simp] theorem setWord_saf (a : Nat) (v : Word) : (s.setWord a v).saf = s.saf := (rfl)
@[simp] theorem setWord_twin (a : Nat) (v : Word) : (s.setWord a v).twin = s.twin := (rfl)
@[simp] theorem setWord_adc (a : Nat) (v : Word) : (s.setWord a v).adc = s.adc := (rfl)
@[simp] theorem setWord_meter (a : Nat) (v : Word) : (s.setWord a v).meter = s.meter := (rfl)
@[simp] theorem setWord_alloc (a : Nat) (v : Word) : (s.setWord a v).alloc = s.alloc := (rfl)
@[simp] theorem setWord_cool (a : Nat) (v : Word) : (s.setWord a v).cool = s.cool := (rfl)
@[simp] theorem setWord_plc (a : Nat) (v : Word) : (s.setWord a v).plc = s.plc := (rfl)
@[simp] theorem setWord_slac (a : Nat) (v : Word) : (s.setWord a v).slac = s.slac := (rfl)
@[simp] theorem setWord_herd (a : Nat) (v : Word) : (s.setWord a v).herd = s.herd := (rfl)
@[simp] theorem setWord_can (a : Nat) (v : Word) : (s.setWord a v).can = s.can := (rfl)
@[simp] theorem setWord_acq (a : Nat) (v : Word) : (s.setWord a v).acq = s.acq := (rfl)
@[simp] theorem setWord_group (a : Nat) (v : Word) : (s.setWord a v).group = s.group := (rfl)
@[simp] theorem setWord_lsw (a : Nat) (v : Word) : (s.setWord a v).lsw = s.lsw := (rfl)
@[simp] theorem setWord_hpiOut (a : Nat) (v : Word) : (s.setWord a v).hpiOut = s.hpiOut := (rfl)
@[simp] theorem setWord_coreFault (a : Nat) (v : Word) : (s.setWord a v).coreFault = s.coreFault := (rfl)

/-! ### wr -/

@[simp] theorem wr_upsets (d : Nat) (f : Fld) (v i j : Nat) : (s.wr d f v i j).upsets = s.upsets := by
  unfold wr
  rw [setWord_upsets]
@[simp] theorem wr_freeIdx (d : Nat) (f : Fld) (v i j : Nat) : (s.wr d f v i j).freeIdx = s.freeIdx := by
  unfold wr
  rw [setWord_freeIdx]
@[simp] theorem wr_now (d : Nat) (f : Fld) (v i j : Nat) : (s.wr d f v i j).now = s.now := by
  unfold wr
  rw [setWord_now]
@[simp] theorem wr_pkg (d : Nat) (f : Fld) (v i j : Nat) : (s.wr d f v i j).pkg = s.pkg := by
  unfold wr
  rw [setWord_pkg]
@[simp] theorem wr_sup (d : Nat) (f : Fld) (v i j : Nat) : (s.wr d f v i j).sup = s.sup := by
  unfold wr
  rw [setWord_sup]
@[simp] theorem wr_logs (d : Nat) (f : Fld) (v i j : Nat) : (s.wr d f v i j).logs = s.logs := by
  unfold wr
  rw [setWord_logs]
@[simp] theorem wr_faults (d : Nat) (f : Fld) (v i j : Nat) : (s.wr d f v i j).faults = s.faults := by
  unfold wr
  rw [setWord_faults]
@[simp] theorem wr_lcs (d : Nat) (f : Fld) (v i j : Nat) : (s.wr d f v i j).lcs = s.lcs := by
  unfold wr
  rw [setWord_lcs]
@[simp] theorem wr_keys (d : Nat) (f : Fld) (v i j : Nat) : (s.wr d f v i j).keys = s.keys := by
  unfold wr
  rw [setWord_keys]
@[simp] theorem wr_gate (d : Nat) (f : Fld) (v i j : Nat) : (s.wr d f v i j).gate = s.gate := by
  unfold wr
  rw [setWord_gate]
@[simp] theorem wr_tsu (d : Nat) (f : Fld) (v i j : Nat) : (s.wr d f v i j).tsu = s.tsu := by
  unfold wr
  rw [setWord_tsu]
@[simp] theorem wr_servo (d : Nat) (f : Fld) (v i j : Nat) : (s.wr d f v i j).servo = s.servo := by
  unfold wr
  rw [setWord_servo]
@[simp] theorem wr_oxe (d : Nat) (f : Fld) (v i j : Nat) : (s.wr d f v i j).oxe = s.oxe := by
  unfold wr
  rw [setWord_oxe]
@[simp] theorem wr_stl (d : Nat) (f : Fld) (v i j : Nat) : (s.wr d f v i j).stl = s.stl := by
  unfold wr
  rw [setWord_stl]
@[simp] theorem wr_veh (d : Nat) (f : Fld) (v i j : Nat) : (s.wr d f v i j).veh = s.veh := by
  unfold wr
  rw [setWord_veh]
@[simp] theorem wr_saf (d : Nat) (f : Fld) (v i j : Nat) : (s.wr d f v i j).saf = s.saf := by
  unfold wr
  rw [setWord_saf]
@[simp] theorem wr_twin (d : Nat) (f : Fld) (v i j : Nat) : (s.wr d f v i j).twin = s.twin := by
  unfold wr
  rw [setWord_twin]
@[simp] theorem wr_adc (d : Nat) (f : Fld) (v i j : Nat) : (s.wr d f v i j).adc = s.adc := by
  unfold wr
  rw [setWord_adc]
@[simp] theorem wr_meter (d : Nat) (f : Fld) (v i j : Nat) : (s.wr d f v i j).meter = s.meter := by
  unfold wr
  rw [setWord_meter]
@[simp] theorem wr_alloc (d : Nat) (f : Fld) (v i j : Nat) : (s.wr d f v i j).alloc = s.alloc := by
  unfold wr
  rw [setWord_alloc]
@[simp] theorem wr_cool (d : Nat) (f : Fld) (v i j : Nat) : (s.wr d f v i j).cool = s.cool := by
  unfold wr
  rw [setWord_cool]
@[simp] theorem wr_plc (d : Nat) (f : Fld) (v i j : Nat) : (s.wr d f v i j).plc = s.plc := by
  unfold wr
  rw [setWord_plc]
@[simp] theorem wr_slac (d : Nat) (f : Fld) (v i j : Nat) : (s.wr d f v i j).slac = s.slac := by
  unfold wr
  rw [setWord_slac]
@[simp] theorem wr_herd (d : Nat) (f : Fld) (v i j : Nat) : (s.wr d f v i j).herd = s.herd := by
  unfold wr
  rw [setWord_herd]
@[simp] theorem wr_can (d : Nat) (f : Fld) (v i j : Nat) : (s.wr d f v i j).can = s.can := by
  unfold wr
  rw [setWord_can]
@[simp] theorem wr_acq (d : Nat) (f : Fld) (v i j : Nat) : (s.wr d f v i j).acq = s.acq := by
  unfold wr
  rw [setWord_acq]
@[simp] theorem wr_group (d : Nat) (f : Fld) (v i j : Nat) : (s.wr d f v i j).group = s.group := by
  unfold wr
  rw [setWord_group]
@[simp] theorem wr_lsw (d : Nat) (f : Fld) (v i j : Nat) : (s.wr d f v i j).lsw = s.lsw := by
  unfold wr
  rw [setWord_lsw]
@[simp] theorem wr_hpiOut (d : Nat) (f : Fld) (v i j : Nat) : (s.wr d f v i j).hpiOut = s.hpiOut := by
  unfold wr
  rw [setWord_hpiOut]
@[simp] theorem wr_coreFault (d : Nat) (f : Fld) (v i j : Nat) : (s.wr d f v i j).coreFault = s.coreFault := by
  unfold wr
  rw [setWord_coreFault]

/-! ### setByte -/

@[simp] theorem setByte_freeIdx (k : Nat) (v : Byte) : (s.setByte k v).freeIdx = s.freeIdx := (rfl)
@[simp] theorem setByte_now (k : Nat) (v : Byte) : (s.setByte k v).now = s.now := (rfl)
@[simp] theorem setByte_pkg (k : Nat) (v : Byte) : (s.setByte k v).pkg = s.pkg := (rfl)
@[simp] theorem setByte_sup (k : Nat) (v : Byte) : (s.setByte k v).sup = s.sup := (rfl)
@[simp] theorem setByte_logs (k : Nat) (v : Byte) : (s.setByte k v).logs = s.logs := (rfl)
@[simp] theorem setByte_faults (k : Nat) (v : Byte) : (s.setByte k v).faults = s.faults := (rfl)
@[simp] theorem setByte_lcs (k : Nat) (v : Byte) : (s.setByte k v).lcs = s.lcs := (rfl)
@[simp] theorem setByte_keys (k : Nat) (v : Byte) : (s.setByte k v).keys = s.keys := (rfl)
@[simp] theorem setByte_gate (k : Nat) (v : Byte) : (s.setByte k v).gate = s.gate := (rfl)
@[simp] theorem setByte_tsu (k : Nat) (v : Byte) : (s.setByte k v).tsu = s.tsu := (rfl)
@[simp] theorem setByte_servo (k : Nat) (v : Byte) : (s.setByte k v).servo = s.servo := (rfl)
@[simp] theorem setByte_oxe (k : Nat) (v : Byte) : (s.setByte k v).oxe = s.oxe := (rfl)
@[simp] theorem setByte_stl (k : Nat) (v : Byte) : (s.setByte k v).stl = s.stl := (rfl)
@[simp] theorem setByte_veh (k : Nat) (v : Byte) : (s.setByte k v).veh = s.veh := (rfl)
@[simp] theorem setByte_saf (k : Nat) (v : Byte) : (s.setByte k v).saf = s.saf := (rfl)
@[simp] theorem setByte_twin (k : Nat) (v : Byte) : (s.setByte k v).twin = s.twin := (rfl)
@[simp] theorem setByte_adc (k : Nat) (v : Byte) : (s.setByte k v).adc = s.adc := (rfl)
@[simp] theorem setByte_meter (k : Nat) (v : Byte) : (s.setByte k v).meter = s.meter := (rfl)
@[simp] theorem setByte_alloc (k : Nat) (v : Byte) : (s.setByte k v).alloc = s.alloc := (rfl)
@[simp] theorem setByte_cool (k : Nat) (v : Byte) : (s.setByte k v).cool = s.cool := (rfl)
@[simp] theorem setByte_plc (k : Nat) (v : Byte) : (s.setByte k v).plc = s.plc := (rfl)
@[simp] theorem setByte_slac (k : Nat) (v : Byte) : (s.setByte k v).slac = s.slac := (rfl)
@[simp] theorem setByte_herd (k : Nat) (v : Byte) : (s.setByte k v).herd = s.herd := (rfl)
@[simp] theorem setByte_can (k : Nat) (v : Byte) : (s.setByte k v).can = s.can := (rfl)
@[simp] theorem setByte_acq (k : Nat) (v : Byte) : (s.setByte k v).acq = s.acq := (rfl)
@[simp] theorem setByte_group (k : Nat) (v : Byte) : (s.setByte k v).group = s.group := (rfl)
@[simp] theorem setByte_lsw (k : Nat) (v : Byte) : (s.setByte k v).lsw = s.lsw := (rfl)
@[simp] theorem setByte_hpiOut (k : Nat) (v : Byte) : (s.setByte k v).hpiOut = s.hpiOut := (rfl)
@[simp] theorem setByte_coreFault (k : Nat) (v : Byte) : (s.setByte k v).coreFault = s.coreFault := (rfl)

/-! ### updOxe -/

@[simp] theorem updOxe_pending (d : Fin 8) (f : Oxe → Oxe) : (s.updOxe d f).pending = s.pending := (rfl)
@[simp] theorem updOxe_regs (d : Fin 8) (f : Oxe → Oxe) : (s.updOxe d f).regs = s.regs := (rfl)
@[simp] theorem updOxe_mem (d : Fin 8) (f : Oxe → Oxe) : (s.updOxe d f).mem = s.mem := (rfl)
@[simp] theorem updOxe_upsets (d : Fin 8) (f : Oxe → Oxe) : (s.updOxe d f).upsets = s.upsets := (rfl)
@[simp] theorem updOxe_freeIdx (d : Fin 8) (f : Oxe → Oxe) : (s.updOxe d f).freeIdx = s.freeIdx := (rfl)
@[simp] theorem updOxe_now (d : Fin 8) (f : Oxe → Oxe) : (s.updOxe d f).now = s.now := (rfl)
@[simp] theorem updOxe_pkg (d : Fin 8) (f : Oxe → Oxe) : (s.updOxe d f).pkg = s.pkg := (rfl)
@[simp] theorem updOxe_sup (d : Fin 8) (f : Oxe → Oxe) : (s.updOxe d f).sup = s.sup := (rfl)
@[simp] theorem updOxe_logs (d : Fin 8) (f : Oxe → Oxe) : (s.updOxe d f).logs = s.logs := (rfl)
@[simp] theorem updOxe_faults (d : Fin 8) (f : Oxe → Oxe) : (s.updOxe d f).faults = s.faults := (rfl)
@[simp] theorem updOxe_lcs (d : Fin 8) (f : Oxe → Oxe) : (s.updOxe d f).lcs = s.lcs := (rfl)
@[simp] theorem updOxe_keys (d : Fin 8) (f : Oxe → Oxe) : (s.updOxe d f).keys = s.keys := (rfl)
@[simp] theorem updOxe_gate (d : Fin 8) (f : Oxe → Oxe) : (s.updOxe d f).gate = s.gate := (rfl)
@[simp] theorem updOxe_tsu (d : Fin 8) (f : Oxe → Oxe) : (s.updOxe d f).tsu = s.tsu := (rfl)
@[simp] theorem updOxe_servo (d : Fin 8) (f : Oxe → Oxe) : (s.updOxe d f).servo = s.servo := (rfl)
@[simp] theorem updOxe_stl (d : Fin 8) (f : Oxe → Oxe) : (s.updOxe d f).stl = s.stl := (rfl)
@[simp] theorem updOxe_veh (d : Fin 8) (f : Oxe → Oxe) : (s.updOxe d f).veh = s.veh := (rfl)
@[simp] theorem updOxe_saf (d : Fin 8) (f : Oxe → Oxe) : (s.updOxe d f).saf = s.saf := (rfl)
@[simp] theorem updOxe_twin (d : Fin 8) (f : Oxe → Oxe) : (s.updOxe d f).twin = s.twin := (rfl)
@[simp] theorem updOxe_adc (d : Fin 8) (f : Oxe → Oxe) : (s.updOxe d f).adc = s.adc := (rfl)
@[simp] theorem updOxe_meter (d : Fin 8) (f : Oxe → Oxe) : (s.updOxe d f).meter = s.meter := (rfl)
@[simp] theorem updOxe_alloc (d : Fin 8) (f : Oxe → Oxe) : (s.updOxe d f).alloc = s.alloc := (rfl)
@[simp] theorem updOxe_cool (d : Fin 8) (f : Oxe → Oxe) : (s.updOxe d f).cool = s.cool := (rfl)
@[simp] theorem updOxe_plc (d : Fin 8) (f : Oxe → Oxe) : (s.updOxe d f).plc = s.plc := (rfl)
@[simp] theorem updOxe_slac (d : Fin 8) (f : Oxe → Oxe) : (s.updOxe d f).slac = s.slac := (rfl)
@[simp] theorem updOxe_herd (d : Fin 8) (f : Oxe → Oxe) : (s.updOxe d f).herd = s.herd := (rfl)
@[simp] theorem updOxe_can (d : Fin 8) (f : Oxe → Oxe) : (s.updOxe d f).can = s.can := (rfl)
@[simp] theorem updOxe_acq (d : Fin 8) (f : Oxe → Oxe) : (s.updOxe d f).acq = s.acq := (rfl)
@[simp] theorem updOxe_group (d : Fin 8) (f : Oxe → Oxe) : (s.updOxe d f).group = s.group := (rfl)
@[simp] theorem updOxe_lsw (d : Fin 8) (f : Oxe → Oxe) : (s.updOxe d f).lsw = s.lsw := (rfl)
@[simp] theorem updOxe_hpiOut (d : Fin 8) (f : Oxe → Oxe) : (s.updOxe d f).hpiOut = s.hpiOut := (rfl)
@[simp] theorem updOxe_coreFault (d : Fin 8) (f : Oxe → Oxe) : (s.updOxe d f).coreFault = s.coreFault := (rfl)

/-! ### updCtx -/

@[simp] theorem updCtx_pending (d n : Fin 8) (f : CtxState → CtxState) : (s.updCtx d n f).pending = s.pending := (rfl)
@[simp] theorem updCtx_regs (d n : Fin 8) (f : CtxState → CtxState) : (s.updCtx d n f).regs = s.regs := (rfl)
@[simp] theorem updCtx_mem (d n : Fin 8) (f : CtxState → CtxState) : (s.updCtx d n f).mem = s.mem := (rfl)
@[simp] theorem updCtx_upsets (d n : Fin 8) (f : CtxState → CtxState) : (s.updCtx d n f).upsets = s.upsets := (rfl)
@[simp] theorem updCtx_freeIdx (d n : Fin 8) (f : CtxState → CtxState) : (s.updCtx d n f).freeIdx = s.freeIdx := (rfl)
@[simp] theorem updCtx_now (d n : Fin 8) (f : CtxState → CtxState) : (s.updCtx d n f).now = s.now := (rfl)
@[simp] theorem updCtx_pkg (d n : Fin 8) (f : CtxState → CtxState) : (s.updCtx d n f).pkg = s.pkg := (rfl)
@[simp] theorem updCtx_sup (d n : Fin 8) (f : CtxState → CtxState) : (s.updCtx d n f).sup = s.sup := (rfl)
@[simp] theorem updCtx_logs (d n : Fin 8) (f : CtxState → CtxState) : (s.updCtx d n f).logs = s.logs := (rfl)
@[simp] theorem updCtx_faults (d n : Fin 8) (f : CtxState → CtxState) : (s.updCtx d n f).faults = s.faults := (rfl)
@[simp] theorem updCtx_lcs (d n : Fin 8) (f : CtxState → CtxState) : (s.updCtx d n f).lcs = s.lcs := (rfl)
@[simp] theorem updCtx_keys (d n : Fin 8) (f : CtxState → CtxState) : (s.updCtx d n f).keys = s.keys := (rfl)
@[simp] theorem updCtx_gate (d n : Fin 8) (f : CtxState → CtxState) : (s.updCtx d n f).gate = s.gate := (rfl)
@[simp] theorem updCtx_tsu (d n : Fin 8) (f : CtxState → CtxState) : (s.updCtx d n f).tsu = s.tsu := (rfl)
@[simp] theorem updCtx_servo (d n : Fin 8) (f : CtxState → CtxState) : (s.updCtx d n f).servo = s.servo := (rfl)
@[simp] theorem updCtx_stl (d n : Fin 8) (f : CtxState → CtxState) : (s.updCtx d n f).stl = s.stl := (rfl)
@[simp] theorem updCtx_veh (d n : Fin 8) (f : CtxState → CtxState) : (s.updCtx d n f).veh = s.veh := (rfl)
@[simp] theorem updCtx_saf (d n : Fin 8) (f : CtxState → CtxState) : (s.updCtx d n f).saf = s.saf := (rfl)
@[simp] theorem updCtx_twin (d n : Fin 8) (f : CtxState → CtxState) : (s.updCtx d n f).twin = s.twin := (rfl)
@[simp] theorem updCtx_adc (d n : Fin 8) (f : CtxState → CtxState) : (s.updCtx d n f).adc = s.adc := (rfl)
@[simp] theorem updCtx_meter (d n : Fin 8) (f : CtxState → CtxState) : (s.updCtx d n f).meter = s.meter := (rfl)
@[simp] theorem updCtx_alloc (d n : Fin 8) (f : CtxState → CtxState) : (s.updCtx d n f).alloc = s.alloc := (rfl)
@[simp] theorem updCtx_cool (d n : Fin 8) (f : CtxState → CtxState) : (s.updCtx d n f).cool = s.cool := (rfl)
@[simp] theorem updCtx_plc (d n : Fin 8) (f : CtxState → CtxState) : (s.updCtx d n f).plc = s.plc := (rfl)
@[simp] theorem updCtx_slac (d n : Fin 8) (f : CtxState → CtxState) : (s.updCtx d n f).slac = s.slac := (rfl)
@[simp] theorem updCtx_herd (d n : Fin 8) (f : CtxState → CtxState) : (s.updCtx d n f).herd = s.herd := (rfl)
@[simp] theorem updCtx_can (d n : Fin 8) (f : CtxState → CtxState) : (s.updCtx d n f).can = s.can := (rfl)
@[simp] theorem updCtx_acq (d n : Fin 8) (f : CtxState → CtxState) : (s.updCtx d n f).acq = s.acq := (rfl)
@[simp] theorem updCtx_group (d n : Fin 8) (f : CtxState → CtxState) : (s.updCtx d n f).group = s.group := (rfl)
@[simp] theorem updCtx_lsw (d n : Fin 8) (f : CtxState → CtxState) : (s.updCtx d n f).lsw = s.lsw := (rfl)
@[simp] theorem updCtx_hpiOut (d n : Fin 8) (f : CtxState → CtxState) : (s.updCtx d n f).hpiOut = s.hpiOut := (rfl)
@[simp] theorem updCtx_coreFault (d n : Fin 8) (f : CtxState → CtxState) : (s.updCtx d n f).coreFault = s.coreFault := (rfl)

/-! ### updOvr -/

@[simp] theorem updOvr_pending (d : Fin 8) (k : Fin 4) (f : OvrState → OvrState) : (s.updOvr d k f).pending = s.pending := (rfl)
@[simp] theorem updOvr_regs (d : Fin 8) (k : Fin 4) (f : OvrState → OvrState) : (s.updOvr d k f).regs = s.regs := (rfl)
@[simp] theorem updOvr_mem (d : Fin 8) (k : Fin 4) (f : OvrState → OvrState) : (s.updOvr d k f).mem = s.mem := (rfl)
@[simp] theorem updOvr_upsets (d : Fin 8) (k : Fin 4) (f : OvrState → OvrState) : (s.updOvr d k f).upsets = s.upsets := (rfl)
@[simp] theorem updOvr_freeIdx (d : Fin 8) (k : Fin 4) (f : OvrState → OvrState) : (s.updOvr d k f).freeIdx = s.freeIdx := (rfl)
@[simp] theorem updOvr_now (d : Fin 8) (k : Fin 4) (f : OvrState → OvrState) : (s.updOvr d k f).now = s.now := (rfl)
@[simp] theorem updOvr_pkg (d : Fin 8) (k : Fin 4) (f : OvrState → OvrState) : (s.updOvr d k f).pkg = s.pkg := (rfl)
@[simp] theorem updOvr_sup (d : Fin 8) (k : Fin 4) (f : OvrState → OvrState) : (s.updOvr d k f).sup = s.sup := (rfl)
@[simp] theorem updOvr_logs (d : Fin 8) (k : Fin 4) (f : OvrState → OvrState) : (s.updOvr d k f).logs = s.logs := (rfl)
@[simp] theorem updOvr_faults (d : Fin 8) (k : Fin 4) (f : OvrState → OvrState) : (s.updOvr d k f).faults = s.faults := (rfl)
@[simp] theorem updOvr_lcs (d : Fin 8) (k : Fin 4) (f : OvrState → OvrState) : (s.updOvr d k f).lcs = s.lcs := (rfl)
@[simp] theorem updOvr_keys (d : Fin 8) (k : Fin 4) (f : OvrState → OvrState) : (s.updOvr d k f).keys = s.keys := (rfl)
@[simp] theorem updOvr_gate (d : Fin 8) (k : Fin 4) (f : OvrState → OvrState) : (s.updOvr d k f).gate = s.gate := (rfl)
@[simp] theorem updOvr_tsu (d : Fin 8) (k : Fin 4) (f : OvrState → OvrState) : (s.updOvr d k f).tsu = s.tsu := (rfl)
@[simp] theorem updOvr_servo (d : Fin 8) (k : Fin 4) (f : OvrState → OvrState) : (s.updOvr d k f).servo = s.servo := (rfl)
@[simp] theorem updOvr_stl (d : Fin 8) (k : Fin 4) (f : OvrState → OvrState) : (s.updOvr d k f).stl = s.stl := (rfl)
@[simp] theorem updOvr_veh (d : Fin 8) (k : Fin 4) (f : OvrState → OvrState) : (s.updOvr d k f).veh = s.veh := (rfl)
@[simp] theorem updOvr_saf (d : Fin 8) (k : Fin 4) (f : OvrState → OvrState) : (s.updOvr d k f).saf = s.saf := (rfl)
@[simp] theorem updOvr_twin (d : Fin 8) (k : Fin 4) (f : OvrState → OvrState) : (s.updOvr d k f).twin = s.twin := (rfl)
@[simp] theorem updOvr_adc (d : Fin 8) (k : Fin 4) (f : OvrState → OvrState) : (s.updOvr d k f).adc = s.adc := (rfl)
@[simp] theorem updOvr_meter (d : Fin 8) (k : Fin 4) (f : OvrState → OvrState) : (s.updOvr d k f).meter = s.meter := (rfl)
@[simp] theorem updOvr_alloc (d : Fin 8) (k : Fin 4) (f : OvrState → OvrState) : (s.updOvr d k f).alloc = s.alloc := (rfl)
@[simp] theorem updOvr_cool (d : Fin 8) (k : Fin 4) (f : OvrState → OvrState) : (s.updOvr d k f).cool = s.cool := (rfl)
@[simp] theorem updOvr_plc (d : Fin 8) (k : Fin 4) (f : OvrState → OvrState) : (s.updOvr d k f).plc = s.plc := (rfl)
@[simp] theorem updOvr_slac (d : Fin 8) (k : Fin 4) (f : OvrState → OvrState) : (s.updOvr d k f).slac = s.slac := (rfl)
@[simp] theorem updOvr_herd (d : Fin 8) (k : Fin 4) (f : OvrState → OvrState) : (s.updOvr d k f).herd = s.herd := (rfl)
@[simp] theorem updOvr_can (d : Fin 8) (k : Fin 4) (f : OvrState → OvrState) : (s.updOvr d k f).can = s.can := (rfl)
@[simp] theorem updOvr_acq (d : Fin 8) (k : Fin 4) (f : OvrState → OvrState) : (s.updOvr d k f).acq = s.acq := (rfl)
@[simp] theorem updOvr_group (d : Fin 8) (k : Fin 4) (f : OvrState → OvrState) : (s.updOvr d k f).group = s.group := (rfl)
@[simp] theorem updOvr_lsw (d : Fin 8) (k : Fin 4) (f : OvrState → OvrState) : (s.updOvr d k f).lsw = s.lsw := (rfl)
@[simp] theorem updOvr_hpiOut (d : Fin 8) (k : Fin 4) (f : OvrState → OvrState) : (s.updOvr d k f).hpiOut = s.hpiOut := (rfl)
@[simp] theorem updOvr_coreFault (d : Fin 8) (k : Fin 4) (f : OvrState → OvrState) : (s.updOvr d k f).coreFault = s.coreFault := (rfl)

/-! ### updStl -/

@[simp] theorem updStl_pending (d : Fin 8) (k : Fin 4) (f : StlPort → StlPort) : (s.updStl d k f).pending = s.pending := (rfl)
@[simp] theorem updStl_regs (d : Fin 8) (k : Fin 4) (f : StlPort → StlPort) : (s.updStl d k f).regs = s.regs := (rfl)
@[simp] theorem updStl_mem (d : Fin 8) (k : Fin 4) (f : StlPort → StlPort) : (s.updStl d k f).mem = s.mem := (rfl)
@[simp] theorem updStl_upsets (d : Fin 8) (k : Fin 4) (f : StlPort → StlPort) : (s.updStl d k f).upsets = s.upsets := (rfl)
@[simp] theorem updStl_freeIdx (d : Fin 8) (k : Fin 4) (f : StlPort → StlPort) : (s.updStl d k f).freeIdx = s.freeIdx := (rfl)
@[simp] theorem updStl_now (d : Fin 8) (k : Fin 4) (f : StlPort → StlPort) : (s.updStl d k f).now = s.now := (rfl)
@[simp] theorem updStl_pkg (d : Fin 8) (k : Fin 4) (f : StlPort → StlPort) : (s.updStl d k f).pkg = s.pkg := (rfl)
@[simp] theorem updStl_sup (d : Fin 8) (k : Fin 4) (f : StlPort → StlPort) : (s.updStl d k f).sup = s.sup := (rfl)
@[simp] theorem updStl_logs (d : Fin 8) (k : Fin 4) (f : StlPort → StlPort) : (s.updStl d k f).logs = s.logs := (rfl)
@[simp] theorem updStl_faults (d : Fin 8) (k : Fin 4) (f : StlPort → StlPort) : (s.updStl d k f).faults = s.faults := (rfl)
@[simp] theorem updStl_lcs (d : Fin 8) (k : Fin 4) (f : StlPort → StlPort) : (s.updStl d k f).lcs = s.lcs := (rfl)
@[simp] theorem updStl_keys (d : Fin 8) (k : Fin 4) (f : StlPort → StlPort) : (s.updStl d k f).keys = s.keys := (rfl)
@[simp] theorem updStl_gate (d : Fin 8) (k : Fin 4) (f : StlPort → StlPort) : (s.updStl d k f).gate = s.gate := (rfl)
@[simp] theorem updStl_tsu (d : Fin 8) (k : Fin 4) (f : StlPort → StlPort) : (s.updStl d k f).tsu = s.tsu := (rfl)
@[simp] theorem updStl_servo (d : Fin 8) (k : Fin 4) (f : StlPort → StlPort) : (s.updStl d k f).servo = s.servo := (rfl)
@[simp] theorem updStl_oxe (d : Fin 8) (k : Fin 4) (f : StlPort → StlPort) : (s.updStl d k f).oxe = s.oxe := (rfl)
@[simp] theorem updStl_veh (d : Fin 8) (k : Fin 4) (f : StlPort → StlPort) : (s.updStl d k f).veh = s.veh := (rfl)
@[simp] theorem updStl_saf (d : Fin 8) (k : Fin 4) (f : StlPort → StlPort) : (s.updStl d k f).saf = s.saf := (rfl)
@[simp] theorem updStl_twin (d : Fin 8) (k : Fin 4) (f : StlPort → StlPort) : (s.updStl d k f).twin = s.twin := (rfl)
@[simp] theorem updStl_adc (d : Fin 8) (k : Fin 4) (f : StlPort → StlPort) : (s.updStl d k f).adc = s.adc := (rfl)
@[simp] theorem updStl_meter (d : Fin 8) (k : Fin 4) (f : StlPort → StlPort) : (s.updStl d k f).meter = s.meter := (rfl)
@[simp] theorem updStl_alloc (d : Fin 8) (k : Fin 4) (f : StlPort → StlPort) : (s.updStl d k f).alloc = s.alloc := (rfl)
@[simp] theorem updStl_cool (d : Fin 8) (k : Fin 4) (f : StlPort → StlPort) : (s.updStl d k f).cool = s.cool := (rfl)
@[simp] theorem updStl_plc (d : Fin 8) (k : Fin 4) (f : StlPort → StlPort) : (s.updStl d k f).plc = s.plc := (rfl)
@[simp] theorem updStl_slac (d : Fin 8) (k : Fin 4) (f : StlPort → StlPort) : (s.updStl d k f).slac = s.slac := (rfl)
@[simp] theorem updStl_herd (d : Fin 8) (k : Fin 4) (f : StlPort → StlPort) : (s.updStl d k f).herd = s.herd := (rfl)
@[simp] theorem updStl_can (d : Fin 8) (k : Fin 4) (f : StlPort → StlPort) : (s.updStl d k f).can = s.can := (rfl)
@[simp] theorem updStl_acq (d : Fin 8) (k : Fin 4) (f : StlPort → StlPort) : (s.updStl d k f).acq = s.acq := (rfl)
@[simp] theorem updStl_group (d : Fin 8) (k : Fin 4) (f : StlPort → StlPort) : (s.updStl d k f).group = s.group := (rfl)
@[simp] theorem updStl_lsw (d : Fin 8) (k : Fin 4) (f : StlPort → StlPort) : (s.updStl d k f).lsw = s.lsw := (rfl)
@[simp] theorem updStl_hpiOut (d : Fin 8) (k : Fin 4) (f : StlPort → StlPort) : (s.updStl d k f).hpiOut = s.hpiOut := (rfl)
@[simp] theorem updStl_coreFault (d : Fin 8) (k : Fin 4) (f : StlPort → StlPort) : (s.updStl d k f).coreFault = s.coreFault := (rfl)

/-! ### updVeh -/

@[simp] theorem updVeh_pending (d : Fin 8) (k : Fin 4) (f : VehLink → VehLink) : (s.updVeh d k f).pending = s.pending := (rfl)
@[simp] theorem updVeh_regs (d : Fin 8) (k : Fin 4) (f : VehLink → VehLink) : (s.updVeh d k f).regs = s.regs := (rfl)
@[simp] theorem updVeh_mem (d : Fin 8) (k : Fin 4) (f : VehLink → VehLink) : (s.updVeh d k f).mem = s.mem := (rfl)
@[simp] theorem updVeh_upsets (d : Fin 8) (k : Fin 4) (f : VehLink → VehLink) : (s.updVeh d k f).upsets = s.upsets := (rfl)
@[simp] theorem updVeh_freeIdx (d : Fin 8) (k : Fin 4) (f : VehLink → VehLink) : (s.updVeh d k f).freeIdx = s.freeIdx := (rfl)
@[simp] theorem updVeh_now (d : Fin 8) (k : Fin 4) (f : VehLink → VehLink) : (s.updVeh d k f).now = s.now := (rfl)
@[simp] theorem updVeh_pkg (d : Fin 8) (k : Fin 4) (f : VehLink → VehLink) : (s.updVeh d k f).pkg = s.pkg := (rfl)
@[simp] theorem updVeh_sup (d : Fin 8) (k : Fin 4) (f : VehLink → VehLink) : (s.updVeh d k f).sup = s.sup := (rfl)
@[simp] theorem updVeh_logs (d : Fin 8) (k : Fin 4) (f : VehLink → VehLink) : (s.updVeh d k f).logs = s.logs := (rfl)
@[simp] theorem updVeh_faults (d : Fin 8) (k : Fin 4) (f : VehLink → VehLink) : (s.updVeh d k f).faults = s.faults := (rfl)
@[simp] theorem updVeh_lcs (d : Fin 8) (k : Fin 4) (f : VehLink → VehLink) : (s.updVeh d k f).lcs = s.lcs := (rfl)
@[simp] theorem updVeh_keys (d : Fin 8) (k : Fin 4) (f : VehLink → VehLink) : (s.updVeh d k f).keys = s.keys := (rfl)
@[simp] theorem updVeh_gate (d : Fin 8) (k : Fin 4) (f : VehLink → VehLink) : (s.updVeh d k f).gate = s.gate := (rfl)
@[simp] theorem updVeh_tsu (d : Fin 8) (k : Fin 4) (f : VehLink → VehLink) : (s.updVeh d k f).tsu = s.tsu := (rfl)
@[simp] theorem updVeh_servo (d : Fin 8) (k : Fin 4) (f : VehLink → VehLink) : (s.updVeh d k f).servo = s.servo := (rfl)
@[simp] theorem updVeh_oxe (d : Fin 8) (k : Fin 4) (f : VehLink → VehLink) : (s.updVeh d k f).oxe = s.oxe := (rfl)
@[simp] theorem updVeh_stl (d : Fin 8) (k : Fin 4) (f : VehLink → VehLink) : (s.updVeh d k f).stl = s.stl := (rfl)
@[simp] theorem updVeh_saf (d : Fin 8) (k : Fin 4) (f : VehLink → VehLink) : (s.updVeh d k f).saf = s.saf := (rfl)
@[simp] theorem updVeh_twin (d : Fin 8) (k : Fin 4) (f : VehLink → VehLink) : (s.updVeh d k f).twin = s.twin := (rfl)
@[simp] theorem updVeh_adc (d : Fin 8) (k : Fin 4) (f : VehLink → VehLink) : (s.updVeh d k f).adc = s.adc := (rfl)
@[simp] theorem updVeh_meter (d : Fin 8) (k : Fin 4) (f : VehLink → VehLink) : (s.updVeh d k f).meter = s.meter := (rfl)
@[simp] theorem updVeh_alloc (d : Fin 8) (k : Fin 4) (f : VehLink → VehLink) : (s.updVeh d k f).alloc = s.alloc := (rfl)
@[simp] theorem updVeh_cool (d : Fin 8) (k : Fin 4) (f : VehLink → VehLink) : (s.updVeh d k f).cool = s.cool := (rfl)
@[simp] theorem updVeh_plc (d : Fin 8) (k : Fin 4) (f : VehLink → VehLink) : (s.updVeh d k f).plc = s.plc := (rfl)
@[simp] theorem updVeh_slac (d : Fin 8) (k : Fin 4) (f : VehLink → VehLink) : (s.updVeh d k f).slac = s.slac := (rfl)
@[simp] theorem updVeh_herd (d : Fin 8) (k : Fin 4) (f : VehLink → VehLink) : (s.updVeh d k f).herd = s.herd := (rfl)
@[simp] theorem updVeh_can (d : Fin 8) (k : Fin 4) (f : VehLink → VehLink) : (s.updVeh d k f).can = s.can := (rfl)
@[simp] theorem updVeh_acq (d : Fin 8) (k : Fin 4) (f : VehLink → VehLink) : (s.updVeh d k f).acq = s.acq := (rfl)
@[simp] theorem updVeh_group (d : Fin 8) (k : Fin 4) (f : VehLink → VehLink) : (s.updVeh d k f).group = s.group := (rfl)
@[simp] theorem updVeh_lsw (d : Fin 8) (k : Fin 4) (f : VehLink → VehLink) : (s.updVeh d k f).lsw = s.lsw := (rfl)
@[simp] theorem updVeh_hpiOut (d : Fin 8) (k : Fin 4) (f : VehLink → VehLink) : (s.updVeh d k f).hpiOut = s.hpiOut := (rfl)
@[simp] theorem updVeh_coreFault (d : Fin 8) (k : Fin 4) (f : VehLink → VehLink) : (s.updVeh d k f).coreFault = s.coreFault := (rfl)

/-! ### updSaf -/

@[simp] theorem updSaf_pending (d : Fin 8) (k : Fin 4) (f : SafPort → SafPort) : (s.updSaf d k f).pending = s.pending := (rfl)
@[simp] theorem updSaf_regs (d : Fin 8) (k : Fin 4) (f : SafPort → SafPort) : (s.updSaf d k f).regs = s.regs := (rfl)
@[simp] theorem updSaf_mem (d : Fin 8) (k : Fin 4) (f : SafPort → SafPort) : (s.updSaf d k f).mem = s.mem := (rfl)
@[simp] theorem updSaf_upsets (d : Fin 8) (k : Fin 4) (f : SafPort → SafPort) : (s.updSaf d k f).upsets = s.upsets := (rfl)
@[simp] theorem updSaf_freeIdx (d : Fin 8) (k : Fin 4) (f : SafPort → SafPort) : (s.updSaf d k f).freeIdx = s.freeIdx := (rfl)
@[simp] theorem updSaf_now (d : Fin 8) (k : Fin 4) (f : SafPort → SafPort) : (s.updSaf d k f).now = s.now := (rfl)
@[simp] theorem updSaf_pkg (d : Fin 8) (k : Fin 4) (f : SafPort → SafPort) : (s.updSaf d k f).pkg = s.pkg := (rfl)
@[simp] theorem updSaf_sup (d : Fin 8) (k : Fin 4) (f : SafPort → SafPort) : (s.updSaf d k f).sup = s.sup := (rfl)
@[simp] theorem updSaf_logs (d : Fin 8) (k : Fin 4) (f : SafPort → SafPort) : (s.updSaf d k f).logs = s.logs := (rfl)
@[simp] theorem updSaf_faults (d : Fin 8) (k : Fin 4) (f : SafPort → SafPort) : (s.updSaf d k f).faults = s.faults := (rfl)
@[simp] theorem updSaf_lcs (d : Fin 8) (k : Fin 4) (f : SafPort → SafPort) : (s.updSaf d k f).lcs = s.lcs := (rfl)
@[simp] theorem updSaf_keys (d : Fin 8) (k : Fin 4) (f : SafPort → SafPort) : (s.updSaf d k f).keys = s.keys := (rfl)
@[simp] theorem updSaf_gate (d : Fin 8) (k : Fin 4) (f : SafPort → SafPort) : (s.updSaf d k f).gate = s.gate := (rfl)
@[simp] theorem updSaf_tsu (d : Fin 8) (k : Fin 4) (f : SafPort → SafPort) : (s.updSaf d k f).tsu = s.tsu := (rfl)
@[simp] theorem updSaf_servo (d : Fin 8) (k : Fin 4) (f : SafPort → SafPort) : (s.updSaf d k f).servo = s.servo := (rfl)
@[simp] theorem updSaf_oxe (d : Fin 8) (k : Fin 4) (f : SafPort → SafPort) : (s.updSaf d k f).oxe = s.oxe := (rfl)
@[simp] theorem updSaf_stl (d : Fin 8) (k : Fin 4) (f : SafPort → SafPort) : (s.updSaf d k f).stl = s.stl := (rfl)
@[simp] theorem updSaf_veh (d : Fin 8) (k : Fin 4) (f : SafPort → SafPort) : (s.updSaf d k f).veh = s.veh := (rfl)
@[simp] theorem updSaf_twin (d : Fin 8) (k : Fin 4) (f : SafPort → SafPort) : (s.updSaf d k f).twin = s.twin := (rfl)
@[simp] theorem updSaf_adc (d : Fin 8) (k : Fin 4) (f : SafPort → SafPort) : (s.updSaf d k f).adc = s.adc := (rfl)
@[simp] theorem updSaf_meter (d : Fin 8) (k : Fin 4) (f : SafPort → SafPort) : (s.updSaf d k f).meter = s.meter := (rfl)
@[simp] theorem updSaf_alloc (d : Fin 8) (k : Fin 4) (f : SafPort → SafPort) : (s.updSaf d k f).alloc = s.alloc := (rfl)
@[simp] theorem updSaf_cool (d : Fin 8) (k : Fin 4) (f : SafPort → SafPort) : (s.updSaf d k f).cool = s.cool := (rfl)
@[simp] theorem updSaf_plc (d : Fin 8) (k : Fin 4) (f : SafPort → SafPort) : (s.updSaf d k f).plc = s.plc := (rfl)
@[simp] theorem updSaf_slac (d : Fin 8) (k : Fin 4) (f : SafPort → SafPort) : (s.updSaf d k f).slac = s.slac := (rfl)
@[simp] theorem updSaf_herd (d : Fin 8) (k : Fin 4) (f : SafPort → SafPort) : (s.updSaf d k f).herd = s.herd := (rfl)
@[simp] theorem updSaf_can (d : Fin 8) (k : Fin 4) (f : SafPort → SafPort) : (s.updSaf d k f).can = s.can := (rfl)
@[simp] theorem updSaf_acq (d : Fin 8) (k : Fin 4) (f : SafPort → SafPort) : (s.updSaf d k f).acq = s.acq := (rfl)
@[simp] theorem updSaf_group (d : Fin 8) (k : Fin 4) (f : SafPort → SafPort) : (s.updSaf d k f).group = s.group := (rfl)
@[simp] theorem updSaf_lsw (d : Fin 8) (k : Fin 4) (f : SafPort → SafPort) : (s.updSaf d k f).lsw = s.lsw := (rfl)
@[simp] theorem updSaf_hpiOut (d : Fin 8) (k : Fin 4) (f : SafPort → SafPort) : (s.updSaf d k f).hpiOut = s.hpiOut := (rfl)
@[simp] theorem updSaf_coreFault (d : Fin 8) (k : Fin 4) (f : SafPort → SafPort) : (s.updSaf d k f).coreFault = s.coreFault := (rfl)

/-! ### updAdc -/

@[simp] theorem updAdc_pending (d : Fin 8) (f : Adc → Adc) : (s.updAdc d f).pending = s.pending := (rfl)
@[simp] theorem updAdc_regs (d : Fin 8) (f : Adc → Adc) : (s.updAdc d f).regs = s.regs := (rfl)
@[simp] theorem updAdc_mem (d : Fin 8) (f : Adc → Adc) : (s.updAdc d f).mem = s.mem := (rfl)
@[simp] theorem updAdc_upsets (d : Fin 8) (f : Adc → Adc) : (s.updAdc d f).upsets = s.upsets := (rfl)
@[simp] theorem updAdc_freeIdx (d : Fin 8) (f : Adc → Adc) : (s.updAdc d f).freeIdx = s.freeIdx := (rfl)
@[simp] theorem updAdc_now (d : Fin 8) (f : Adc → Adc) : (s.updAdc d f).now = s.now := (rfl)
@[simp] theorem updAdc_pkg (d : Fin 8) (f : Adc → Adc) : (s.updAdc d f).pkg = s.pkg := (rfl)
@[simp] theorem updAdc_sup (d : Fin 8) (f : Adc → Adc) : (s.updAdc d f).sup = s.sup := (rfl)
@[simp] theorem updAdc_logs (d : Fin 8) (f : Adc → Adc) : (s.updAdc d f).logs = s.logs := (rfl)
@[simp] theorem updAdc_faults (d : Fin 8) (f : Adc → Adc) : (s.updAdc d f).faults = s.faults := (rfl)
@[simp] theorem updAdc_lcs (d : Fin 8) (f : Adc → Adc) : (s.updAdc d f).lcs = s.lcs := (rfl)
@[simp] theorem updAdc_keys (d : Fin 8) (f : Adc → Adc) : (s.updAdc d f).keys = s.keys := (rfl)
@[simp] theorem updAdc_gate (d : Fin 8) (f : Adc → Adc) : (s.updAdc d f).gate = s.gate := (rfl)
@[simp] theorem updAdc_tsu (d : Fin 8) (f : Adc → Adc) : (s.updAdc d f).tsu = s.tsu := (rfl)
@[simp] theorem updAdc_servo (d : Fin 8) (f : Adc → Adc) : (s.updAdc d f).servo = s.servo := (rfl)
@[simp] theorem updAdc_oxe (d : Fin 8) (f : Adc → Adc) : (s.updAdc d f).oxe = s.oxe := (rfl)
@[simp] theorem updAdc_stl (d : Fin 8) (f : Adc → Adc) : (s.updAdc d f).stl = s.stl := (rfl)
@[simp] theorem updAdc_veh (d : Fin 8) (f : Adc → Adc) : (s.updAdc d f).veh = s.veh := (rfl)
@[simp] theorem updAdc_saf (d : Fin 8) (f : Adc → Adc) : (s.updAdc d f).saf = s.saf := (rfl)
@[simp] theorem updAdc_twin (d : Fin 8) (f : Adc → Adc) : (s.updAdc d f).twin = s.twin := (rfl)
@[simp] theorem updAdc_meter (d : Fin 8) (f : Adc → Adc) : (s.updAdc d f).meter = s.meter := (rfl)
@[simp] theorem updAdc_alloc (d : Fin 8) (f : Adc → Adc) : (s.updAdc d f).alloc = s.alloc := (rfl)
@[simp] theorem updAdc_cool (d : Fin 8) (f : Adc → Adc) : (s.updAdc d f).cool = s.cool := (rfl)
@[simp] theorem updAdc_plc (d : Fin 8) (f : Adc → Adc) : (s.updAdc d f).plc = s.plc := (rfl)
@[simp] theorem updAdc_slac (d : Fin 8) (f : Adc → Adc) : (s.updAdc d f).slac = s.slac := (rfl)
@[simp] theorem updAdc_herd (d : Fin 8) (f : Adc → Adc) : (s.updAdc d f).herd = s.herd := (rfl)
@[simp] theorem updAdc_can (d : Fin 8) (f : Adc → Adc) : (s.updAdc d f).can = s.can := (rfl)
@[simp] theorem updAdc_acq (d : Fin 8) (f : Adc → Adc) : (s.updAdc d f).acq = s.acq := (rfl)
@[simp] theorem updAdc_group (d : Fin 8) (f : Adc → Adc) : (s.updAdc d f).group = s.group := (rfl)
@[simp] theorem updAdc_lsw (d : Fin 8) (f : Adc → Adc) : (s.updAdc d f).lsw = s.lsw := (rfl)
@[simp] theorem updAdc_hpiOut (d : Fin 8) (f : Adc → Adc) : (s.updAdc d f).hpiOut = s.hpiOut := (rfl)
@[simp] theorem updAdc_coreFault (d : Fin 8) (f : Adc → Adc) : (s.updAdc d f).coreFault = s.coreFault := (rfl)

/-! ### updSq -/

@[simp] theorem updSq_pending (d : Fin 8) (q : Fin 2) (f : Seqr → Seqr) : (s.updSq d q f).pending = s.pending := (rfl)
@[simp] theorem updSq_regs (d : Fin 8) (q : Fin 2) (f : Seqr → Seqr) : (s.updSq d q f).regs = s.regs := (rfl)
@[simp] theorem updSq_mem (d : Fin 8) (q : Fin 2) (f : Seqr → Seqr) : (s.updSq d q f).mem = s.mem := (rfl)
@[simp] theorem updSq_upsets (d : Fin 8) (q : Fin 2) (f : Seqr → Seqr) : (s.updSq d q f).upsets = s.upsets := (rfl)
@[simp] theorem updSq_freeIdx (d : Fin 8) (q : Fin 2) (f : Seqr → Seqr) : (s.updSq d q f).freeIdx = s.freeIdx := (rfl)
@[simp] theorem updSq_now (d : Fin 8) (q : Fin 2) (f : Seqr → Seqr) : (s.updSq d q f).now = s.now := (rfl)
@[simp] theorem updSq_pkg (d : Fin 8) (q : Fin 2) (f : Seqr → Seqr) : (s.updSq d q f).pkg = s.pkg := (rfl)
@[simp] theorem updSq_sup (d : Fin 8) (q : Fin 2) (f : Seqr → Seqr) : (s.updSq d q f).sup = s.sup := (rfl)
@[simp] theorem updSq_logs (d : Fin 8) (q : Fin 2) (f : Seqr → Seqr) : (s.updSq d q f).logs = s.logs := (rfl)
@[simp] theorem updSq_faults (d : Fin 8) (q : Fin 2) (f : Seqr → Seqr) : (s.updSq d q f).faults = s.faults := (rfl)
@[simp] theorem updSq_lcs (d : Fin 8) (q : Fin 2) (f : Seqr → Seqr) : (s.updSq d q f).lcs = s.lcs := (rfl)
@[simp] theorem updSq_keys (d : Fin 8) (q : Fin 2) (f : Seqr → Seqr) : (s.updSq d q f).keys = s.keys := (rfl)
@[simp] theorem updSq_gate (d : Fin 8) (q : Fin 2) (f : Seqr → Seqr) : (s.updSq d q f).gate = s.gate := (rfl)
@[simp] theorem updSq_tsu (d : Fin 8) (q : Fin 2) (f : Seqr → Seqr) : (s.updSq d q f).tsu = s.tsu := (rfl)
@[simp] theorem updSq_servo (d : Fin 8) (q : Fin 2) (f : Seqr → Seqr) : (s.updSq d q f).servo = s.servo := (rfl)
@[simp] theorem updSq_oxe (d : Fin 8) (q : Fin 2) (f : Seqr → Seqr) : (s.updSq d q f).oxe = s.oxe := (rfl)
@[simp] theorem updSq_stl (d : Fin 8) (q : Fin 2) (f : Seqr → Seqr) : (s.updSq d q f).stl = s.stl := (rfl)
@[simp] theorem updSq_veh (d : Fin 8) (q : Fin 2) (f : Seqr → Seqr) : (s.updSq d q f).veh = s.veh := (rfl)
@[simp] theorem updSq_saf (d : Fin 8) (q : Fin 2) (f : Seqr → Seqr) : (s.updSq d q f).saf = s.saf := (rfl)
@[simp] theorem updSq_twin (d : Fin 8) (q : Fin 2) (f : Seqr → Seqr) : (s.updSq d q f).twin = s.twin := (rfl)
@[simp] theorem updSq_meter (d : Fin 8) (q : Fin 2) (f : Seqr → Seqr) : (s.updSq d q f).meter = s.meter := (rfl)
@[simp] theorem updSq_alloc (d : Fin 8) (q : Fin 2) (f : Seqr → Seqr) : (s.updSq d q f).alloc = s.alloc := (rfl)
@[simp] theorem updSq_cool (d : Fin 8) (q : Fin 2) (f : Seqr → Seqr) : (s.updSq d q f).cool = s.cool := (rfl)
@[simp] theorem updSq_plc (d : Fin 8) (q : Fin 2) (f : Seqr → Seqr) : (s.updSq d q f).plc = s.plc := (rfl)
@[simp] theorem updSq_slac (d : Fin 8) (q : Fin 2) (f : Seqr → Seqr) : (s.updSq d q f).slac = s.slac := (rfl)
@[simp] theorem updSq_herd (d : Fin 8) (q : Fin 2) (f : Seqr → Seqr) : (s.updSq d q f).herd = s.herd := (rfl)
@[simp] theorem updSq_can (d : Fin 8) (q : Fin 2) (f : Seqr → Seqr) : (s.updSq d q f).can = s.can := (rfl)
@[simp] theorem updSq_acq (d : Fin 8) (q : Fin 2) (f : Seqr → Seqr) : (s.updSq d q f).acq = s.acq := (rfl)
@[simp] theorem updSq_group (d : Fin 8) (q : Fin 2) (f : Seqr → Seqr) : (s.updSq d q f).group = s.group := (rfl)
@[simp] theorem updSq_lsw (d : Fin 8) (q : Fin 2) (f : Seqr → Seqr) : (s.updSq d q f).lsw = s.lsw := (rfl)
@[simp] theorem updSq_hpiOut (d : Fin 8) (q : Fin 2) (f : Seqr → Seqr) : (s.updSq d q f).hpiOut = s.hpiOut := (rfl)
@[simp] theorem updSq_coreFault (d : Fin 8) (q : Fin 2) (f : Seqr → Seqr) : (s.updSq d q f).coreFault = s.coreFault := (rfl)

/-! ### updLane -/

@[simp] theorem updLane_pending (d : Fin 8) (k : Fin 3) (f : LaneState → LaneState) : (s.updLane d k f).pending = s.pending := (rfl)
@[simp] theorem updLane_regs (d : Fin 8) (k : Fin 3) (f : LaneState → LaneState) : (s.updLane d k f).regs = s.regs := (rfl)
@[simp] theorem updLane_mem (d : Fin 8) (k : Fin 3) (f : LaneState → LaneState) : (s.updLane d k f).mem = s.mem := (rfl)
@[simp] theorem updLane_upsets (d : Fin 8) (k : Fin 3) (f : LaneState → LaneState) : (s.updLane d k f).upsets = s.upsets := (rfl)
@[simp] theorem updLane_freeIdx (d : Fin 8) (k : Fin 3) (f : LaneState → LaneState) : (s.updLane d k f).freeIdx = s.freeIdx := (rfl)
@[simp] theorem updLane_now (d : Fin 8) (k : Fin 3) (f : LaneState → LaneState) : (s.updLane d k f).now = s.now := (rfl)
@[simp] theorem updLane_pkg (d : Fin 8) (k : Fin 3) (f : LaneState → LaneState) : (s.updLane d k f).pkg = s.pkg := (rfl)
@[simp] theorem updLane_sup (d : Fin 8) (k : Fin 3) (f : LaneState → LaneState) : (s.updLane d k f).sup = s.sup := (rfl)
@[simp] theorem updLane_logs (d : Fin 8) (k : Fin 3) (f : LaneState → LaneState) : (s.updLane d k f).logs = s.logs := (rfl)
@[simp] theorem updLane_faults (d : Fin 8) (k : Fin 3) (f : LaneState → LaneState) : (s.updLane d k f).faults = s.faults := (rfl)
@[simp] theorem updLane_lcs (d : Fin 8) (k : Fin 3) (f : LaneState → LaneState) : (s.updLane d k f).lcs = s.lcs := (rfl)
@[simp] theorem updLane_keys (d : Fin 8) (k : Fin 3) (f : LaneState → LaneState) : (s.updLane d k f).keys = s.keys := (rfl)
@[simp] theorem updLane_gate (d : Fin 8) (k : Fin 3) (f : LaneState → LaneState) : (s.updLane d k f).gate = s.gate := (rfl)
@[simp] theorem updLane_tsu (d : Fin 8) (k : Fin 3) (f : LaneState → LaneState) : (s.updLane d k f).tsu = s.tsu := (rfl)
@[simp] theorem updLane_servo (d : Fin 8) (k : Fin 3) (f : LaneState → LaneState) : (s.updLane d k f).servo = s.servo := (rfl)
@[simp] theorem updLane_oxe (d : Fin 8) (k : Fin 3) (f : LaneState → LaneState) : (s.updLane d k f).oxe = s.oxe := (rfl)
@[simp] theorem updLane_stl (d : Fin 8) (k : Fin 3) (f : LaneState → LaneState) : (s.updLane d k f).stl = s.stl := (rfl)
@[simp] theorem updLane_veh (d : Fin 8) (k : Fin 3) (f : LaneState → LaneState) : (s.updLane d k f).veh = s.veh := (rfl)
@[simp] theorem updLane_saf (d : Fin 8) (k : Fin 3) (f : LaneState → LaneState) : (s.updLane d k f).saf = s.saf := (rfl)
@[simp] theorem updLane_twin (d : Fin 8) (k : Fin 3) (f : LaneState → LaneState) : (s.updLane d k f).twin = s.twin := (rfl)
@[simp] theorem updLane_meter (d : Fin 8) (k : Fin 3) (f : LaneState → LaneState) : (s.updLane d k f).meter = s.meter := (rfl)
@[simp] theorem updLane_alloc (d : Fin 8) (k : Fin 3) (f : LaneState → LaneState) : (s.updLane d k f).alloc = s.alloc := (rfl)
@[simp] theorem updLane_cool (d : Fin 8) (k : Fin 3) (f : LaneState → LaneState) : (s.updLane d k f).cool = s.cool := (rfl)
@[simp] theorem updLane_plc (d : Fin 8) (k : Fin 3) (f : LaneState → LaneState) : (s.updLane d k f).plc = s.plc := (rfl)
@[simp] theorem updLane_slac (d : Fin 8) (k : Fin 3) (f : LaneState → LaneState) : (s.updLane d k f).slac = s.slac := (rfl)
@[simp] theorem updLane_herd (d : Fin 8) (k : Fin 3) (f : LaneState → LaneState) : (s.updLane d k f).herd = s.herd := (rfl)
@[simp] theorem updLane_can (d : Fin 8) (k : Fin 3) (f : LaneState → LaneState) : (s.updLane d k f).can = s.can := (rfl)
@[simp] theorem updLane_acq (d : Fin 8) (k : Fin 3) (f : LaneState → LaneState) : (s.updLane d k f).acq = s.acq := (rfl)
@[simp] theorem updLane_group (d : Fin 8) (k : Fin 3) (f : LaneState → LaneState) : (s.updLane d k f).group = s.group := (rfl)
@[simp] theorem updLane_lsw (d : Fin 8) (k : Fin 3) (f : LaneState → LaneState) : (s.updLane d k f).lsw = s.lsw := (rfl)
@[simp] theorem updLane_hpiOut (d : Fin 8) (k : Fin 3) (f : LaneState → LaneState) : (s.updLane d k f).hpiOut = s.hpiOut := (rfl)
@[simp] theorem updLane_coreFault (d : Fin 8) (k : Fin 3) (f : LaneState → LaneState) : (s.updLane d k f).coreFault = s.coreFault := (rfl)

/-! ### updTsu -/

@[simp] theorem updTsu_pending (d : Fin 8) (f : Tsu → Tsu) : (s.updTsu d f).pending = s.pending := (rfl)
@[simp] theorem updTsu_regs (d : Fin 8) (f : Tsu → Tsu) : (s.updTsu d f).regs = s.regs := (rfl)
@[simp] theorem updTsu_mem (d : Fin 8) (f : Tsu → Tsu) : (s.updTsu d f).mem = s.mem := (rfl)
@[simp] theorem updTsu_upsets (d : Fin 8) (f : Tsu → Tsu) : (s.updTsu d f).upsets = s.upsets := (rfl)
@[simp] theorem updTsu_freeIdx (d : Fin 8) (f : Tsu → Tsu) : (s.updTsu d f).freeIdx = s.freeIdx := (rfl)
@[simp] theorem updTsu_now (d : Fin 8) (f : Tsu → Tsu) : (s.updTsu d f).now = s.now := (rfl)
@[simp] theorem updTsu_pkg (d : Fin 8) (f : Tsu → Tsu) : (s.updTsu d f).pkg = s.pkg := (rfl)
@[simp] theorem updTsu_sup (d : Fin 8) (f : Tsu → Tsu) : (s.updTsu d f).sup = s.sup := (rfl)
@[simp] theorem updTsu_logs (d : Fin 8) (f : Tsu → Tsu) : (s.updTsu d f).logs = s.logs := (rfl)
@[simp] theorem updTsu_faults (d : Fin 8) (f : Tsu → Tsu) : (s.updTsu d f).faults = s.faults := (rfl)
@[simp] theorem updTsu_lcs (d : Fin 8) (f : Tsu → Tsu) : (s.updTsu d f).lcs = s.lcs := (rfl)
@[simp] theorem updTsu_keys (d : Fin 8) (f : Tsu → Tsu) : (s.updTsu d f).keys = s.keys := (rfl)
@[simp] theorem updTsu_gate (d : Fin 8) (f : Tsu → Tsu) : (s.updTsu d f).gate = s.gate := (rfl)
@[simp] theorem updTsu_servo (d : Fin 8) (f : Tsu → Tsu) : (s.updTsu d f).servo = s.servo := (rfl)
@[simp] theorem updTsu_oxe (d : Fin 8) (f : Tsu → Tsu) : (s.updTsu d f).oxe = s.oxe := (rfl)
@[simp] theorem updTsu_stl (d : Fin 8) (f : Tsu → Tsu) : (s.updTsu d f).stl = s.stl := (rfl)
@[simp] theorem updTsu_veh (d : Fin 8) (f : Tsu → Tsu) : (s.updTsu d f).veh = s.veh := (rfl)
@[simp] theorem updTsu_saf (d : Fin 8) (f : Tsu → Tsu) : (s.updTsu d f).saf = s.saf := (rfl)
@[simp] theorem updTsu_twin (d : Fin 8) (f : Tsu → Tsu) : (s.updTsu d f).twin = s.twin := (rfl)
@[simp] theorem updTsu_adc (d : Fin 8) (f : Tsu → Tsu) : (s.updTsu d f).adc = s.adc := (rfl)
@[simp] theorem updTsu_meter (d : Fin 8) (f : Tsu → Tsu) : (s.updTsu d f).meter = s.meter := (rfl)
@[simp] theorem updTsu_alloc (d : Fin 8) (f : Tsu → Tsu) : (s.updTsu d f).alloc = s.alloc := (rfl)
@[simp] theorem updTsu_cool (d : Fin 8) (f : Tsu → Tsu) : (s.updTsu d f).cool = s.cool := (rfl)
@[simp] theorem updTsu_plc (d : Fin 8) (f : Tsu → Tsu) : (s.updTsu d f).plc = s.plc := (rfl)
@[simp] theorem updTsu_slac (d : Fin 8) (f : Tsu → Tsu) : (s.updTsu d f).slac = s.slac := (rfl)
@[simp] theorem updTsu_herd (d : Fin 8) (f : Tsu → Tsu) : (s.updTsu d f).herd = s.herd := (rfl)
@[simp] theorem updTsu_can (d : Fin 8) (f : Tsu → Tsu) : (s.updTsu d f).can = s.can := (rfl)
@[simp] theorem updTsu_acq (d : Fin 8) (f : Tsu → Tsu) : (s.updTsu d f).acq = s.acq := (rfl)
@[simp] theorem updTsu_group (d : Fin 8) (f : Tsu → Tsu) : (s.updTsu d f).group = s.group := (rfl)
@[simp] theorem updTsu_lsw (d : Fin 8) (f : Tsu → Tsu) : (s.updTsu d f).lsw = s.lsw := (rfl)
@[simp] theorem updTsu_hpiOut (d : Fin 8) (f : Tsu → Tsu) : (s.updTsu d f).hpiOut = s.hpiOut := (rfl)
@[simp] theorem updTsu_coreFault (d : Fin 8) (f : Tsu → Tsu) : (s.updTsu d f).coreFault = s.coreFault := (rfl)

/-! ### updServo -/

@[simp] theorem updServo_pending (f : Servo → Servo) : (s.updServo f).pending = s.pending := (rfl)
@[simp] theorem updServo_regs (f : Servo → Servo) : (s.updServo f).regs = s.regs := (rfl)
@[simp] theorem updServo_mem (f : Servo → Servo) : (s.updServo f).mem = s.mem := (rfl)
@[simp] theorem updServo_upsets (f : Servo → Servo) : (s.updServo f).upsets = s.upsets := (rfl)
@[simp] theorem updServo_freeIdx (f : Servo → Servo) : (s.updServo f).freeIdx = s.freeIdx := (rfl)
@[simp] theorem updServo_now (f : Servo → Servo) : (s.updServo f).now = s.now := (rfl)
@[simp] theorem updServo_pkg (f : Servo → Servo) : (s.updServo f).pkg = s.pkg := (rfl)
@[simp] theorem updServo_sup (f : Servo → Servo) : (s.updServo f).sup = s.sup := (rfl)
@[simp] theorem updServo_logs (f : Servo → Servo) : (s.updServo f).logs = s.logs := (rfl)
@[simp] theorem updServo_faults (f : Servo → Servo) : (s.updServo f).faults = s.faults := (rfl)
@[simp] theorem updServo_lcs (f : Servo → Servo) : (s.updServo f).lcs = s.lcs := (rfl)
@[simp] theorem updServo_keys (f : Servo → Servo) : (s.updServo f).keys = s.keys := (rfl)
@[simp] theorem updServo_gate (f : Servo → Servo) : (s.updServo f).gate = s.gate := (rfl)
@[simp] theorem updServo_tsu (f : Servo → Servo) : (s.updServo f).tsu = s.tsu := (rfl)
@[simp] theorem updServo_oxe (f : Servo → Servo) : (s.updServo f).oxe = s.oxe := (rfl)
@[simp] theorem updServo_stl (f : Servo → Servo) : (s.updServo f).stl = s.stl := (rfl)
@[simp] theorem updServo_veh (f : Servo → Servo) : (s.updServo f).veh = s.veh := (rfl)
@[simp] theorem updServo_saf (f : Servo → Servo) : (s.updServo f).saf = s.saf := (rfl)
@[simp] theorem updServo_twin (f : Servo → Servo) : (s.updServo f).twin = s.twin := (rfl)
@[simp] theorem updServo_adc (f : Servo → Servo) : (s.updServo f).adc = s.adc := (rfl)
@[simp] theorem updServo_meter (f : Servo → Servo) : (s.updServo f).meter = s.meter := (rfl)
@[simp] theorem updServo_alloc (f : Servo → Servo) : (s.updServo f).alloc = s.alloc := (rfl)
@[simp] theorem updServo_cool (f : Servo → Servo) : (s.updServo f).cool = s.cool := (rfl)
@[simp] theorem updServo_plc (f : Servo → Servo) : (s.updServo f).plc = s.plc := (rfl)
@[simp] theorem updServo_slac (f : Servo → Servo) : (s.updServo f).slac = s.slac := (rfl)
@[simp] theorem updServo_herd (f : Servo → Servo) : (s.updServo f).herd = s.herd := (rfl)
@[simp] theorem updServo_can (f : Servo → Servo) : (s.updServo f).can = s.can := (rfl)
@[simp] theorem updServo_acq (f : Servo → Servo) : (s.updServo f).acq = s.acq := (rfl)
@[simp] theorem updServo_group (f : Servo → Servo) : (s.updServo f).group = s.group := (rfl)
@[simp] theorem updServo_lsw (f : Servo → Servo) : (s.updServo f).lsw = s.lsw := (rfl)
@[simp] theorem updServo_hpiOut (f : Servo → Servo) : (s.updServo f).hpiOut = s.hpiOut := (rfl)
@[simp] theorem updServo_coreFault (f : Servo → Servo) : (s.updServo f).coreFault = s.coreFault := (rfl)

/-! ### updTwin -/

@[simp] theorem updTwin_pending (f : Twin → Twin) : (s.updTwin f).pending = s.pending := (rfl)
@[simp] theorem updTwin_regs (f : Twin → Twin) : (s.updTwin f).regs = s.regs := (rfl)
@[simp] theorem updTwin_mem (f : Twin → Twin) : (s.updTwin f).mem = s.mem := (rfl)
@[simp] theorem updTwin_upsets (f : Twin → Twin) : (s.updTwin f).upsets = s.upsets := (rfl)
@[simp] theorem updTwin_freeIdx (f : Twin → Twin) : (s.updTwin f).freeIdx = s.freeIdx := (rfl)
@[simp] theorem updTwin_now (f : Twin → Twin) : (s.updTwin f).now = s.now := (rfl)
@[simp] theorem updTwin_pkg (f : Twin → Twin) : (s.updTwin f).pkg = s.pkg := (rfl)
@[simp] theorem updTwin_sup (f : Twin → Twin) : (s.updTwin f).sup = s.sup := (rfl)
@[simp] theorem updTwin_logs (f : Twin → Twin) : (s.updTwin f).logs = s.logs := (rfl)
@[simp] theorem updTwin_faults (f : Twin → Twin) : (s.updTwin f).faults = s.faults := (rfl)
@[simp] theorem updTwin_lcs (f : Twin → Twin) : (s.updTwin f).lcs = s.lcs := (rfl)
@[simp] theorem updTwin_keys (f : Twin → Twin) : (s.updTwin f).keys = s.keys := (rfl)
@[simp] theorem updTwin_gate (f : Twin → Twin) : (s.updTwin f).gate = s.gate := (rfl)
@[simp] theorem updTwin_tsu (f : Twin → Twin) : (s.updTwin f).tsu = s.tsu := (rfl)
@[simp] theorem updTwin_servo (f : Twin → Twin) : (s.updTwin f).servo = s.servo := (rfl)
@[simp] theorem updTwin_oxe (f : Twin → Twin) : (s.updTwin f).oxe = s.oxe := (rfl)
@[simp] theorem updTwin_stl (f : Twin → Twin) : (s.updTwin f).stl = s.stl := (rfl)
@[simp] theorem updTwin_veh (f : Twin → Twin) : (s.updTwin f).veh = s.veh := (rfl)
@[simp] theorem updTwin_saf (f : Twin → Twin) : (s.updTwin f).saf = s.saf := (rfl)
@[simp] theorem updTwin_adc (f : Twin → Twin) : (s.updTwin f).adc = s.adc := (rfl)
@[simp] theorem updTwin_meter (f : Twin → Twin) : (s.updTwin f).meter = s.meter := (rfl)
@[simp] theorem updTwin_alloc (f : Twin → Twin) : (s.updTwin f).alloc = s.alloc := (rfl)
@[simp] theorem updTwin_cool (f : Twin → Twin) : (s.updTwin f).cool = s.cool := (rfl)
@[simp] theorem updTwin_plc (f : Twin → Twin) : (s.updTwin f).plc = s.plc := (rfl)
@[simp] theorem updTwin_slac (f : Twin → Twin) : (s.updTwin f).slac = s.slac := (rfl)
@[simp] theorem updTwin_herd (f : Twin → Twin) : (s.updTwin f).herd = s.herd := (rfl)
@[simp] theorem updTwin_can (f : Twin → Twin) : (s.updTwin f).can = s.can := (rfl)
@[simp] theorem updTwin_acq (f : Twin → Twin) : (s.updTwin f).acq = s.acq := (rfl)
@[simp] theorem updTwin_group (f : Twin → Twin) : (s.updTwin f).group = s.group := (rfl)
@[simp] theorem updTwin_lsw (f : Twin → Twin) : (s.updTwin f).lsw = s.lsw := (rfl)
@[simp] theorem updTwin_hpiOut (f : Twin → Twin) : (s.updTwin f).hpiOut = s.hpiOut := (rfl)
@[simp] theorem updTwin_coreFault (f : Twin → Twin) : (s.updTwin f).coreFault = s.coreFault := (rfl)

/-! ### updMeter -/

@[simp] theorem updMeter_pending (f : Meter → Meter) : (s.updMeter f).pending = s.pending := (rfl)
@[simp] theorem updMeter_regs (f : Meter → Meter) : (s.updMeter f).regs = s.regs := (rfl)
@[simp] theorem updMeter_mem (f : Meter → Meter) : (s.updMeter f).mem = s.mem := (rfl)
@[simp] theorem updMeter_upsets (f : Meter → Meter) : (s.updMeter f).upsets = s.upsets := (rfl)
@[simp] theorem updMeter_freeIdx (f : Meter → Meter) : (s.updMeter f).freeIdx = s.freeIdx := (rfl)
@[simp] theorem updMeter_now (f : Meter → Meter) : (s.updMeter f).now = s.now := (rfl)
@[simp] theorem updMeter_pkg (f : Meter → Meter) : (s.updMeter f).pkg = s.pkg := (rfl)
@[simp] theorem updMeter_sup (f : Meter → Meter) : (s.updMeter f).sup = s.sup := (rfl)
@[simp] theorem updMeter_logs (f : Meter → Meter) : (s.updMeter f).logs = s.logs := (rfl)
@[simp] theorem updMeter_faults (f : Meter → Meter) : (s.updMeter f).faults = s.faults := (rfl)
@[simp] theorem updMeter_lcs (f : Meter → Meter) : (s.updMeter f).lcs = s.lcs := (rfl)
@[simp] theorem updMeter_keys (f : Meter → Meter) : (s.updMeter f).keys = s.keys := (rfl)
@[simp] theorem updMeter_gate (f : Meter → Meter) : (s.updMeter f).gate = s.gate := (rfl)
@[simp] theorem updMeter_tsu (f : Meter → Meter) : (s.updMeter f).tsu = s.tsu := (rfl)
@[simp] theorem updMeter_servo (f : Meter → Meter) : (s.updMeter f).servo = s.servo := (rfl)
@[simp] theorem updMeter_oxe (f : Meter → Meter) : (s.updMeter f).oxe = s.oxe := (rfl)
@[simp] theorem updMeter_stl (f : Meter → Meter) : (s.updMeter f).stl = s.stl := (rfl)
@[simp] theorem updMeter_veh (f : Meter → Meter) : (s.updMeter f).veh = s.veh := (rfl)
@[simp] theorem updMeter_saf (f : Meter → Meter) : (s.updMeter f).saf = s.saf := (rfl)
@[simp] theorem updMeter_twin (f : Meter → Meter) : (s.updMeter f).twin = s.twin := (rfl)
@[simp] theorem updMeter_adc (f : Meter → Meter) : (s.updMeter f).adc = s.adc := (rfl)
@[simp] theorem updMeter_alloc (f : Meter → Meter) : (s.updMeter f).alloc = s.alloc := (rfl)
@[simp] theorem updMeter_cool (f : Meter → Meter) : (s.updMeter f).cool = s.cool := (rfl)
@[simp] theorem updMeter_plc (f : Meter → Meter) : (s.updMeter f).plc = s.plc := (rfl)
@[simp] theorem updMeter_slac (f : Meter → Meter) : (s.updMeter f).slac = s.slac := (rfl)
@[simp] theorem updMeter_herd (f : Meter → Meter) : (s.updMeter f).herd = s.herd := (rfl)
@[simp] theorem updMeter_can (f : Meter → Meter) : (s.updMeter f).can = s.can := (rfl)
@[simp] theorem updMeter_acq (f : Meter → Meter) : (s.updMeter f).acq = s.acq := (rfl)
@[simp] theorem updMeter_group (f : Meter → Meter) : (s.updMeter f).group = s.group := (rfl)
@[simp] theorem updMeter_lsw (f : Meter → Meter) : (s.updMeter f).lsw = s.lsw := (rfl)
@[simp] theorem updMeter_hpiOut (f : Meter → Meter) : (s.updMeter f).hpiOut = s.hpiOut := (rfl)
@[simp] theorem updMeter_coreFault (f : Meter → Meter) : (s.updMeter f).coreFault = s.coreFault := (rfl)

/-! ### updPm -/

@[simp] theorem updPm_pending (p : Fin 32) (f : PortMeter → PortMeter) : (s.updPm p f).pending = s.pending := (rfl)
@[simp] theorem updPm_regs (p : Fin 32) (f : PortMeter → PortMeter) : (s.updPm p f).regs = s.regs := (rfl)
@[simp] theorem updPm_mem (p : Fin 32) (f : PortMeter → PortMeter) : (s.updPm p f).mem = s.mem := (rfl)
@[simp] theorem updPm_upsets (p : Fin 32) (f : PortMeter → PortMeter) : (s.updPm p f).upsets = s.upsets := (rfl)
@[simp] theorem updPm_freeIdx (p : Fin 32) (f : PortMeter → PortMeter) : (s.updPm p f).freeIdx = s.freeIdx := (rfl)
@[simp] theorem updPm_now (p : Fin 32) (f : PortMeter → PortMeter) : (s.updPm p f).now = s.now := (rfl)
@[simp] theorem updPm_pkg (p : Fin 32) (f : PortMeter → PortMeter) : (s.updPm p f).pkg = s.pkg := (rfl)
@[simp] theorem updPm_sup (p : Fin 32) (f : PortMeter → PortMeter) : (s.updPm p f).sup = s.sup := (rfl)
@[simp] theorem updPm_logs (p : Fin 32) (f : PortMeter → PortMeter) : (s.updPm p f).logs = s.logs := (rfl)
@[simp] theorem updPm_faults (p : Fin 32) (f : PortMeter → PortMeter) : (s.updPm p f).faults = s.faults := (rfl)
@[simp] theorem updPm_lcs (p : Fin 32) (f : PortMeter → PortMeter) : (s.updPm p f).lcs = s.lcs := (rfl)
@[simp] theorem updPm_keys (p : Fin 32) (f : PortMeter → PortMeter) : (s.updPm p f).keys = s.keys := (rfl)
@[simp] theorem updPm_gate (p : Fin 32) (f : PortMeter → PortMeter) : (s.updPm p f).gate = s.gate := (rfl)
@[simp] theorem updPm_tsu (p : Fin 32) (f : PortMeter → PortMeter) : (s.updPm p f).tsu = s.tsu := (rfl)
@[simp] theorem updPm_servo (p : Fin 32) (f : PortMeter → PortMeter) : (s.updPm p f).servo = s.servo := (rfl)
@[simp] theorem updPm_oxe (p : Fin 32) (f : PortMeter → PortMeter) : (s.updPm p f).oxe = s.oxe := (rfl)
@[simp] theorem updPm_stl (p : Fin 32) (f : PortMeter → PortMeter) : (s.updPm p f).stl = s.stl := (rfl)
@[simp] theorem updPm_veh (p : Fin 32) (f : PortMeter → PortMeter) : (s.updPm p f).veh = s.veh := (rfl)
@[simp] theorem updPm_saf (p : Fin 32) (f : PortMeter → PortMeter) : (s.updPm p f).saf = s.saf := (rfl)
@[simp] theorem updPm_twin (p : Fin 32) (f : PortMeter → PortMeter) : (s.updPm p f).twin = s.twin := (rfl)
@[simp] theorem updPm_adc (p : Fin 32) (f : PortMeter → PortMeter) : (s.updPm p f).adc = s.adc := (rfl)
@[simp] theorem updPm_alloc (p : Fin 32) (f : PortMeter → PortMeter) : (s.updPm p f).alloc = s.alloc := (rfl)
@[simp] theorem updPm_cool (p : Fin 32) (f : PortMeter → PortMeter) : (s.updPm p f).cool = s.cool := (rfl)
@[simp] theorem updPm_plc (p : Fin 32) (f : PortMeter → PortMeter) : (s.updPm p f).plc = s.plc := (rfl)
@[simp] theorem updPm_slac (p : Fin 32) (f : PortMeter → PortMeter) : (s.updPm p f).slac = s.slac := (rfl)
@[simp] theorem updPm_herd (p : Fin 32) (f : PortMeter → PortMeter) : (s.updPm p f).herd = s.herd := (rfl)
@[simp] theorem updPm_can (p : Fin 32) (f : PortMeter → PortMeter) : (s.updPm p f).can = s.can := (rfl)
@[simp] theorem updPm_acq (p : Fin 32) (f : PortMeter → PortMeter) : (s.updPm p f).acq = s.acq := (rfl)
@[simp] theorem updPm_group (p : Fin 32) (f : PortMeter → PortMeter) : (s.updPm p f).group = s.group := (rfl)
@[simp] theorem updPm_lsw (p : Fin 32) (f : PortMeter → PortMeter) : (s.updPm p f).lsw = s.lsw := (rfl)
@[simp] theorem updPm_hpiOut (p : Fin 32) (f : PortMeter → PortMeter) : (s.updPm p f).hpiOut = s.hpiOut := (rfl)
@[simp] theorem updPm_coreFault (p : Fin 32) (f : PortMeter → PortMeter) : (s.updPm p f).coreFault = s.coreFault := (rfl)

/-! ### updAcq -/

@[simp] theorem updAcq_pending (d u : Fin 8) (f : AcqUnit → AcqUnit) : (s.updAcq d u f).pending = s.pending := (rfl)
@[simp] theorem updAcq_regs (d u : Fin 8) (f : AcqUnit → AcqUnit) : (s.updAcq d u f).regs = s.regs := (rfl)
@[simp] theorem updAcq_mem (d u : Fin 8) (f : AcqUnit → AcqUnit) : (s.updAcq d u f).mem = s.mem := (rfl)
@[simp] theorem updAcq_upsets (d u : Fin 8) (f : AcqUnit → AcqUnit) : (s.updAcq d u f).upsets = s.upsets := (rfl)
@[simp] theorem updAcq_freeIdx (d u : Fin 8) (f : AcqUnit → AcqUnit) : (s.updAcq d u f).freeIdx = s.freeIdx := (rfl)
@[simp] theorem updAcq_now (d u : Fin 8) (f : AcqUnit → AcqUnit) : (s.updAcq d u f).now = s.now := (rfl)
@[simp] theorem updAcq_pkg (d u : Fin 8) (f : AcqUnit → AcqUnit) : (s.updAcq d u f).pkg = s.pkg := (rfl)
@[simp] theorem updAcq_sup (d u : Fin 8) (f : AcqUnit → AcqUnit) : (s.updAcq d u f).sup = s.sup := (rfl)
@[simp] theorem updAcq_logs (d u : Fin 8) (f : AcqUnit → AcqUnit) : (s.updAcq d u f).logs = s.logs := (rfl)
@[simp] theorem updAcq_faults (d u : Fin 8) (f : AcqUnit → AcqUnit) : (s.updAcq d u f).faults = s.faults := (rfl)
@[simp] theorem updAcq_lcs (d u : Fin 8) (f : AcqUnit → AcqUnit) : (s.updAcq d u f).lcs = s.lcs := (rfl)
@[simp] theorem updAcq_keys (d u : Fin 8) (f : AcqUnit → AcqUnit) : (s.updAcq d u f).keys = s.keys := (rfl)
@[simp] theorem updAcq_gate (d u : Fin 8) (f : AcqUnit → AcqUnit) : (s.updAcq d u f).gate = s.gate := (rfl)
@[simp] theorem updAcq_tsu (d u : Fin 8) (f : AcqUnit → AcqUnit) : (s.updAcq d u f).tsu = s.tsu := (rfl)
@[simp] theorem updAcq_servo (d u : Fin 8) (f : AcqUnit → AcqUnit) : (s.updAcq d u f).servo = s.servo := (rfl)
@[simp] theorem updAcq_oxe (d u : Fin 8) (f : AcqUnit → AcqUnit) : (s.updAcq d u f).oxe = s.oxe := (rfl)
@[simp] theorem updAcq_stl (d u : Fin 8) (f : AcqUnit → AcqUnit) : (s.updAcq d u f).stl = s.stl := (rfl)
@[simp] theorem updAcq_veh (d u : Fin 8) (f : AcqUnit → AcqUnit) : (s.updAcq d u f).veh = s.veh := (rfl)
@[simp] theorem updAcq_saf (d u : Fin 8) (f : AcqUnit → AcqUnit) : (s.updAcq d u f).saf = s.saf := (rfl)
@[simp] theorem updAcq_twin (d u : Fin 8) (f : AcqUnit → AcqUnit) : (s.updAcq d u f).twin = s.twin := (rfl)
@[simp] theorem updAcq_adc (d u : Fin 8) (f : AcqUnit → AcqUnit) : (s.updAcq d u f).adc = s.adc := (rfl)
@[simp] theorem updAcq_meter (d u : Fin 8) (f : AcqUnit → AcqUnit) : (s.updAcq d u f).meter = s.meter := (rfl)
@[simp] theorem updAcq_alloc (d u : Fin 8) (f : AcqUnit → AcqUnit) : (s.updAcq d u f).alloc = s.alloc := (rfl)
@[simp] theorem updAcq_cool (d u : Fin 8) (f : AcqUnit → AcqUnit) : (s.updAcq d u f).cool = s.cool := (rfl)
@[simp] theorem updAcq_plc (d u : Fin 8) (f : AcqUnit → AcqUnit) : (s.updAcq d u f).plc = s.plc := (rfl)
@[simp] theorem updAcq_slac (d u : Fin 8) (f : AcqUnit → AcqUnit) : (s.updAcq d u f).slac = s.slac := (rfl)
@[simp] theorem updAcq_herd (d u : Fin 8) (f : AcqUnit → AcqUnit) : (s.updAcq d u f).herd = s.herd := (rfl)
@[simp] theorem updAcq_can (d u : Fin 8) (f : AcqUnit → AcqUnit) : (s.updAcq d u f).can = s.can := (rfl)
@[simp] theorem updAcq_group (d u : Fin 8) (f : AcqUnit → AcqUnit) : (s.updAcq d u f).group = s.group := (rfl)
@[simp] theorem updAcq_lsw (d u : Fin 8) (f : AcqUnit → AcqUnit) : (s.updAcq d u f).lsw = s.lsw := (rfl)
@[simp] theorem updAcq_hpiOut (d u : Fin 8) (f : AcqUnit → AcqUnit) : (s.updAcq d u f).hpiOut = s.hpiOut := (rfl)
@[simp] theorem updAcq_coreFault (d u : Fin 8) (f : AcqUnit → AcqUnit) : (s.updAcq d u f).coreFault = s.coreFault := (rfl)

/-! ### updLsw -/

@[simp] theorem updLsw_pending (d : Fin 8) (n : Fin 12) (f : LswChan → LswChan) : (s.updLsw d n f).pending = s.pending := (rfl)
@[simp] theorem updLsw_regs (d : Fin 8) (n : Fin 12) (f : LswChan → LswChan) : (s.updLsw d n f).regs = s.regs := (rfl)
@[simp] theorem updLsw_mem (d : Fin 8) (n : Fin 12) (f : LswChan → LswChan) : (s.updLsw d n f).mem = s.mem := (rfl)
@[simp] theorem updLsw_upsets (d : Fin 8) (n : Fin 12) (f : LswChan → LswChan) : (s.updLsw d n f).upsets = s.upsets := (rfl)
@[simp] theorem updLsw_freeIdx (d : Fin 8) (n : Fin 12) (f : LswChan → LswChan) : (s.updLsw d n f).freeIdx = s.freeIdx := (rfl)
@[simp] theorem updLsw_now (d : Fin 8) (n : Fin 12) (f : LswChan → LswChan) : (s.updLsw d n f).now = s.now := (rfl)
@[simp] theorem updLsw_pkg (d : Fin 8) (n : Fin 12) (f : LswChan → LswChan) : (s.updLsw d n f).pkg = s.pkg := (rfl)
@[simp] theorem updLsw_sup (d : Fin 8) (n : Fin 12) (f : LswChan → LswChan) : (s.updLsw d n f).sup = s.sup := (rfl)
@[simp] theorem updLsw_logs (d : Fin 8) (n : Fin 12) (f : LswChan → LswChan) : (s.updLsw d n f).logs = s.logs := (rfl)
@[simp] theorem updLsw_faults (d : Fin 8) (n : Fin 12) (f : LswChan → LswChan) : (s.updLsw d n f).faults = s.faults := (rfl)
@[simp] theorem updLsw_lcs (d : Fin 8) (n : Fin 12) (f : LswChan → LswChan) : (s.updLsw d n f).lcs = s.lcs := (rfl)
@[simp] theorem updLsw_keys (d : Fin 8) (n : Fin 12) (f : LswChan → LswChan) : (s.updLsw d n f).keys = s.keys := (rfl)
@[simp] theorem updLsw_gate (d : Fin 8) (n : Fin 12) (f : LswChan → LswChan) : (s.updLsw d n f).gate = s.gate := (rfl)
@[simp] theorem updLsw_tsu (d : Fin 8) (n : Fin 12) (f : LswChan → LswChan) : (s.updLsw d n f).tsu = s.tsu := (rfl)
@[simp] theorem updLsw_servo (d : Fin 8) (n : Fin 12) (f : LswChan → LswChan) : (s.updLsw d n f).servo = s.servo := (rfl)
@[simp] theorem updLsw_oxe (d : Fin 8) (n : Fin 12) (f : LswChan → LswChan) : (s.updLsw d n f).oxe = s.oxe := (rfl)
@[simp] theorem updLsw_stl (d : Fin 8) (n : Fin 12) (f : LswChan → LswChan) : (s.updLsw d n f).stl = s.stl := (rfl)
@[simp] theorem updLsw_veh (d : Fin 8) (n : Fin 12) (f : LswChan → LswChan) : (s.updLsw d n f).veh = s.veh := (rfl)
@[simp] theorem updLsw_saf (d : Fin 8) (n : Fin 12) (f : LswChan → LswChan) : (s.updLsw d n f).saf = s.saf := (rfl)
@[simp] theorem updLsw_twin (d : Fin 8) (n : Fin 12) (f : LswChan → LswChan) : (s.updLsw d n f).twin = s.twin := (rfl)
@[simp] theorem updLsw_adc (d : Fin 8) (n : Fin 12) (f : LswChan → LswChan) : (s.updLsw d n f).adc = s.adc := (rfl)
@[simp] theorem updLsw_meter (d : Fin 8) (n : Fin 12) (f : LswChan → LswChan) : (s.updLsw d n f).meter = s.meter := (rfl)
@[simp] theorem updLsw_alloc (d : Fin 8) (n : Fin 12) (f : LswChan → LswChan) : (s.updLsw d n f).alloc = s.alloc := (rfl)
@[simp] theorem updLsw_cool (d : Fin 8) (n : Fin 12) (f : LswChan → LswChan) : (s.updLsw d n f).cool = s.cool := (rfl)
@[simp] theorem updLsw_plc (d : Fin 8) (n : Fin 12) (f : LswChan → LswChan) : (s.updLsw d n f).plc = s.plc := (rfl)
@[simp] theorem updLsw_slac (d : Fin 8) (n : Fin 12) (f : LswChan → LswChan) : (s.updLsw d n f).slac = s.slac := (rfl)
@[simp] theorem updLsw_herd (d : Fin 8) (n : Fin 12) (f : LswChan → LswChan) : (s.updLsw d n f).herd = s.herd := (rfl)
@[simp] theorem updLsw_can (d : Fin 8) (n : Fin 12) (f : LswChan → LswChan) : (s.updLsw d n f).can = s.can := (rfl)
@[simp] theorem updLsw_acq (d : Fin 8) (n : Fin 12) (f : LswChan → LswChan) : (s.updLsw d n f).acq = s.acq := (rfl)
@[simp] theorem updLsw_group (d : Fin 8) (n : Fin 12) (f : LswChan → LswChan) : (s.updLsw d n f).group = s.group := (rfl)
@[simp] theorem updLsw_hpiOut (d : Fin 8) (n : Fin 12) (f : LswChan → LswChan) : (s.updLsw d n f).hpiOut = s.hpiOut := (rfl)
@[simp] theorem updLsw_coreFault (d : Fin 8) (n : Fin 12) (f : LswChan → LswChan) : (s.updLsw d n f).coreFault = s.coreFault := (rfl)

/-! ### updCan -/

@[simp] theorem updCan_pending (d : Fin 8) (j : Fin 2) (f : Can → Can) : (s.updCan d j f).pending = s.pending := (rfl)
@[simp] theorem updCan_regs (d : Fin 8) (j : Fin 2) (f : Can → Can) : (s.updCan d j f).regs = s.regs := (rfl)
@[simp] theorem updCan_mem (d : Fin 8) (j : Fin 2) (f : Can → Can) : (s.updCan d j f).mem = s.mem := (rfl)
@[simp] theorem updCan_upsets (d : Fin 8) (j : Fin 2) (f : Can → Can) : (s.updCan d j f).upsets = s.upsets := (rfl)
@[simp] theorem updCan_freeIdx (d : Fin 8) (j : Fin 2) (f : Can → Can) : (s.updCan d j f).freeIdx = s.freeIdx := (rfl)
@[simp] theorem updCan_now (d : Fin 8) (j : Fin 2) (f : Can → Can) : (s.updCan d j f).now = s.now := (rfl)
@[simp] theorem updCan_pkg (d : Fin 8) (j : Fin 2) (f : Can → Can) : (s.updCan d j f).pkg = s.pkg := (rfl)
@[simp] theorem updCan_sup (d : Fin 8) (j : Fin 2) (f : Can → Can) : (s.updCan d j f).sup = s.sup := (rfl)
@[simp] theorem updCan_logs (d : Fin 8) (j : Fin 2) (f : Can → Can) : (s.updCan d j f).logs = s.logs := (rfl)
@[simp] theorem updCan_faults (d : Fin 8) (j : Fin 2) (f : Can → Can) : (s.updCan d j f).faults = s.faults := (rfl)
@[simp] theorem updCan_lcs (d : Fin 8) (j : Fin 2) (f : Can → Can) : (s.updCan d j f).lcs = s.lcs := (rfl)
@[simp] theorem updCan_keys (d : Fin 8) (j : Fin 2) (f : Can → Can) : (s.updCan d j f).keys = s.keys := (rfl)
@[simp] theorem updCan_gate (d : Fin 8) (j : Fin 2) (f : Can → Can) : (s.updCan d j f).gate = s.gate := (rfl)
@[simp] theorem updCan_tsu (d : Fin 8) (j : Fin 2) (f : Can → Can) : (s.updCan d j f).tsu = s.tsu := (rfl)
@[simp] theorem updCan_servo (d : Fin 8) (j : Fin 2) (f : Can → Can) : (s.updCan d j f).servo = s.servo := (rfl)
@[simp] theorem updCan_oxe (d : Fin 8) (j : Fin 2) (f : Can → Can) : (s.updCan d j f).oxe = s.oxe := (rfl)
@[simp] theorem updCan_stl (d : Fin 8) (j : Fin 2) (f : Can → Can) : (s.updCan d j f).stl = s.stl := (rfl)
@[simp] theorem updCan_veh (d : Fin 8) (j : Fin 2) (f : Can → Can) : (s.updCan d j f).veh = s.veh := (rfl)
@[simp] theorem updCan_saf (d : Fin 8) (j : Fin 2) (f : Can → Can) : (s.updCan d j f).saf = s.saf := (rfl)
@[simp] theorem updCan_twin (d : Fin 8) (j : Fin 2) (f : Can → Can) : (s.updCan d j f).twin = s.twin := (rfl)
@[simp] theorem updCan_adc (d : Fin 8) (j : Fin 2) (f : Can → Can) : (s.updCan d j f).adc = s.adc := (rfl)
@[simp] theorem updCan_meter (d : Fin 8) (j : Fin 2) (f : Can → Can) : (s.updCan d j f).meter = s.meter := (rfl)
@[simp] theorem updCan_alloc (d : Fin 8) (j : Fin 2) (f : Can → Can) : (s.updCan d j f).alloc = s.alloc := (rfl)
@[simp] theorem updCan_cool (d : Fin 8) (j : Fin 2) (f : Can → Can) : (s.updCan d j f).cool = s.cool := (rfl)
@[simp] theorem updCan_plc (d : Fin 8) (j : Fin 2) (f : Can → Can) : (s.updCan d j f).plc = s.plc := (rfl)
@[simp] theorem updCan_slac (d : Fin 8) (j : Fin 2) (f : Can → Can) : (s.updCan d j f).slac = s.slac := (rfl)
@[simp] theorem updCan_herd (d : Fin 8) (j : Fin 2) (f : Can → Can) : (s.updCan d j f).herd = s.herd := (rfl)
@[simp] theorem updCan_acq (d : Fin 8) (j : Fin 2) (f : Can → Can) : (s.updCan d j f).acq = s.acq := (rfl)
@[simp] theorem updCan_group (d : Fin 8) (j : Fin 2) (f : Can → Can) : (s.updCan d j f).group = s.group := (rfl)
@[simp] theorem updCan_lsw (d : Fin 8) (j : Fin 2) (f : Can → Can) : (s.updCan d j f).lsw = s.lsw := (rfl)
@[simp] theorem updCan_hpiOut (d : Fin 8) (j : Fin 2) (f : Can → Can) : (s.updCan d j f).hpiOut = s.hpiOut := (rfl)
@[simp] theorem updCan_coreFault (d : Fin 8) (j : Fin 2) (f : Can → Can) : (s.updCan d j f).coreFault = s.coreFault := (rfl)

/-! ### updPlc -/

@[simp] theorem updPlc_pending (d : Fin 8) (f : Plc → Plc) : (s.updPlc d f).pending = s.pending := (rfl)
@[simp] theorem updPlc_regs (d : Fin 8) (f : Plc → Plc) : (s.updPlc d f).regs = s.regs := (rfl)
@[simp] theorem updPlc_mem (d : Fin 8) (f : Plc → Plc) : (s.updPlc d f).mem = s.mem := (rfl)
@[simp] theorem updPlc_upsets (d : Fin 8) (f : Plc → Plc) : (s.updPlc d f).upsets = s.upsets := (rfl)
@[simp] theorem updPlc_freeIdx (d : Fin 8) (f : Plc → Plc) : (s.updPlc d f).freeIdx = s.freeIdx := (rfl)
@[simp] theorem updPlc_now (d : Fin 8) (f : Plc → Plc) : (s.updPlc d f).now = s.now := (rfl)
@[simp] theorem updPlc_pkg (d : Fin 8) (f : Plc → Plc) : (s.updPlc d f).pkg = s.pkg := (rfl)
@[simp] theorem updPlc_sup (d : Fin 8) (f : Plc → Plc) : (s.updPlc d f).sup = s.sup := (rfl)
@[simp] theorem updPlc_logs (d : Fin 8) (f : Plc → Plc) : (s.updPlc d f).logs = s.logs := (rfl)
@[simp] theorem updPlc_faults (d : Fin 8) (f : Plc → Plc) : (s.updPlc d f).faults = s.faults := (rfl)
@[simp] theorem updPlc_lcs (d : Fin 8) (f : Plc → Plc) : (s.updPlc d f).lcs = s.lcs := (rfl)
@[simp] theorem updPlc_keys (d : Fin 8) (f : Plc → Plc) : (s.updPlc d f).keys = s.keys := (rfl)
@[simp] theorem updPlc_gate (d : Fin 8) (f : Plc → Plc) : (s.updPlc d f).gate = s.gate := (rfl)
@[simp] theorem updPlc_tsu (d : Fin 8) (f : Plc → Plc) : (s.updPlc d f).tsu = s.tsu := (rfl)
@[simp] theorem updPlc_servo (d : Fin 8) (f : Plc → Plc) : (s.updPlc d f).servo = s.servo := (rfl)
@[simp] theorem updPlc_oxe (d : Fin 8) (f : Plc → Plc) : (s.updPlc d f).oxe = s.oxe := (rfl)
@[simp] theorem updPlc_stl (d : Fin 8) (f : Plc → Plc) : (s.updPlc d f).stl = s.stl := (rfl)
@[simp] theorem updPlc_veh (d : Fin 8) (f : Plc → Plc) : (s.updPlc d f).veh = s.veh := (rfl)
@[simp] theorem updPlc_saf (d : Fin 8) (f : Plc → Plc) : (s.updPlc d f).saf = s.saf := (rfl)
@[simp] theorem updPlc_twin (d : Fin 8) (f : Plc → Plc) : (s.updPlc d f).twin = s.twin := (rfl)
@[simp] theorem updPlc_adc (d : Fin 8) (f : Plc → Plc) : (s.updPlc d f).adc = s.adc := (rfl)
@[simp] theorem updPlc_meter (d : Fin 8) (f : Plc → Plc) : (s.updPlc d f).meter = s.meter := (rfl)
@[simp] theorem updPlc_alloc (d : Fin 8) (f : Plc → Plc) : (s.updPlc d f).alloc = s.alloc := (rfl)
@[simp] theorem updPlc_cool (d : Fin 8) (f : Plc → Plc) : (s.updPlc d f).cool = s.cool := (rfl)
@[simp] theorem updPlc_slac (d : Fin 8) (f : Plc → Plc) : (s.updPlc d f).slac = s.slac := (rfl)
@[simp] theorem updPlc_herd (d : Fin 8) (f : Plc → Plc) : (s.updPlc d f).herd = s.herd := (rfl)
@[simp] theorem updPlc_can (d : Fin 8) (f : Plc → Plc) : (s.updPlc d f).can = s.can := (rfl)
@[simp] theorem updPlc_acq (d : Fin 8) (f : Plc → Plc) : (s.updPlc d f).acq = s.acq := (rfl)
@[simp] theorem updPlc_group (d : Fin 8) (f : Plc → Plc) : (s.updPlc d f).group = s.group := (rfl)
@[simp] theorem updPlc_lsw (d : Fin 8) (f : Plc → Plc) : (s.updPlc d f).lsw = s.lsw := (rfl)
@[simp] theorem updPlc_hpiOut (d : Fin 8) (f : Plc → Plc) : (s.updPlc d f).hpiOut = s.hpiOut := (rfl)
@[simp] theorem updPlc_coreFault (d : Fin 8) (f : Plc → Plc) : (s.updPlc d f).coreFault = s.coreFault := (rfl)

/-! ### updHerd -/

@[simp] theorem updHerd_pending (f : Herd → Herd) : (s.updHerd f).pending = s.pending := (rfl)
@[simp] theorem updHerd_regs (f : Herd → Herd) : (s.updHerd f).regs = s.regs := (rfl)
@[simp] theorem updHerd_mem (f : Herd → Herd) : (s.updHerd f).mem = s.mem := (rfl)
@[simp] theorem updHerd_upsets (f : Herd → Herd) : (s.updHerd f).upsets = s.upsets := (rfl)
@[simp] theorem updHerd_freeIdx (f : Herd → Herd) : (s.updHerd f).freeIdx = s.freeIdx := (rfl)
@[simp] theorem updHerd_now (f : Herd → Herd) : (s.updHerd f).now = s.now := (rfl)
@[simp] theorem updHerd_pkg (f : Herd → Herd) : (s.updHerd f).pkg = s.pkg := (rfl)
@[simp] theorem updHerd_sup (f : Herd → Herd) : (s.updHerd f).sup = s.sup := (rfl)
@[simp] theorem updHerd_logs (f : Herd → Herd) : (s.updHerd f).logs = s.logs := (rfl)
@[simp] theorem updHerd_faults (f : Herd → Herd) : (s.updHerd f).faults = s.faults := (rfl)
@[simp] theorem updHerd_lcs (f : Herd → Herd) : (s.updHerd f).lcs = s.lcs := (rfl)
@[simp] theorem updHerd_keys (f : Herd → Herd) : (s.updHerd f).keys = s.keys := (rfl)
@[simp] theorem updHerd_gate (f : Herd → Herd) : (s.updHerd f).gate = s.gate := (rfl)
@[simp] theorem updHerd_tsu (f : Herd → Herd) : (s.updHerd f).tsu = s.tsu := (rfl)
@[simp] theorem updHerd_servo (f : Herd → Herd) : (s.updHerd f).servo = s.servo := (rfl)
@[simp] theorem updHerd_oxe (f : Herd → Herd) : (s.updHerd f).oxe = s.oxe := (rfl)
@[simp] theorem updHerd_stl (f : Herd → Herd) : (s.updHerd f).stl = s.stl := (rfl)
@[simp] theorem updHerd_veh (f : Herd → Herd) : (s.updHerd f).veh = s.veh := (rfl)
@[simp] theorem updHerd_saf (f : Herd → Herd) : (s.updHerd f).saf = s.saf := (rfl)
@[simp] theorem updHerd_twin (f : Herd → Herd) : (s.updHerd f).twin = s.twin := (rfl)
@[simp] theorem updHerd_adc (f : Herd → Herd) : (s.updHerd f).adc = s.adc := (rfl)
@[simp] theorem updHerd_meter (f : Herd → Herd) : (s.updHerd f).meter = s.meter := (rfl)
@[simp] theorem updHerd_alloc (f : Herd → Herd) : (s.updHerd f).alloc = s.alloc := (rfl)
@[simp] theorem updHerd_cool (f : Herd → Herd) : (s.updHerd f).cool = s.cool := (rfl)
@[simp] theorem updHerd_plc (f : Herd → Herd) : (s.updHerd f).plc = s.plc := (rfl)
@[simp] theorem updHerd_slac (f : Herd → Herd) : (s.updHerd f).slac = s.slac := (rfl)
@[simp] theorem updHerd_can (f : Herd → Herd) : (s.updHerd f).can = s.can := (rfl)
@[simp] theorem updHerd_acq (f : Herd → Herd) : (s.updHerd f).acq = s.acq := (rfl)
@[simp] theorem updHerd_group (f : Herd → Herd) : (s.updHerd f).group = s.group := (rfl)
@[simp] theorem updHerd_lsw (f : Herd → Herd) : (s.updHerd f).lsw = s.lsw := (rfl)
@[simp] theorem updHerd_hpiOut (f : Herd → Herd) : (s.updHerd f).hpiOut = s.hpiOut := (rfl)
@[simp] theorem updHerd_coreFault (f : Herd → Herd) : (s.updHerd f).coreFault = s.coreFault := (rfl)

/-! ### updCopper -/

@[simp] theorem updCopper_pending (d : Fin 8) (k : Fin 4) (f : Copper → Copper) : (s.updCopper d k f).pending = s.pending := (rfl)
@[simp] theorem updCopper_regs (d : Fin 8) (k : Fin 4) (f : Copper → Copper) : (s.updCopper d k f).regs = s.regs := (rfl)
@[simp] theorem updCopper_mem (d : Fin 8) (k : Fin 4) (f : Copper → Copper) : (s.updCopper d k f).mem = s.mem := (rfl)
@[simp] theorem updCopper_upsets (d : Fin 8) (k : Fin 4) (f : Copper → Copper) : (s.updCopper d k f).upsets = s.upsets := (rfl)
@[simp] theorem updCopper_freeIdx (d : Fin 8) (k : Fin 4) (f : Copper → Copper) : (s.updCopper d k f).freeIdx = s.freeIdx := (rfl)
@[simp] theorem updCopper_now (d : Fin 8) (k : Fin 4) (f : Copper → Copper) : (s.updCopper d k f).now = s.now := (rfl)
@[simp] theorem updCopper_pkg (d : Fin 8) (k : Fin 4) (f : Copper → Copper) : (s.updCopper d k f).pkg = s.pkg := (rfl)
@[simp] theorem updCopper_sup (d : Fin 8) (k : Fin 4) (f : Copper → Copper) : (s.updCopper d k f).sup = s.sup := (rfl)
@[simp] theorem updCopper_logs (d : Fin 8) (k : Fin 4) (f : Copper → Copper) : (s.updCopper d k f).logs = s.logs := (rfl)
@[simp] theorem updCopper_faults (d : Fin 8) (k : Fin 4) (f : Copper → Copper) : (s.updCopper d k f).faults = s.faults := (rfl)
@[simp] theorem updCopper_lcs (d : Fin 8) (k : Fin 4) (f : Copper → Copper) : (s.updCopper d k f).lcs = s.lcs := (rfl)
@[simp] theorem updCopper_keys (d : Fin 8) (k : Fin 4) (f : Copper → Copper) : (s.updCopper d k f).keys = s.keys := (rfl)
@[simp] theorem updCopper_gate (d : Fin 8) (k : Fin 4) (f : Copper → Copper) : (s.updCopper d k f).gate = s.gate := (rfl)
@[simp] theorem updCopper_tsu (d : Fin 8) (k : Fin 4) (f : Copper → Copper) : (s.updCopper d k f).tsu = s.tsu := (rfl)
@[simp] theorem updCopper_servo (d : Fin 8) (k : Fin 4) (f : Copper → Copper) : (s.updCopper d k f).servo = s.servo := (rfl)
@[simp] theorem updCopper_oxe (d : Fin 8) (k : Fin 4) (f : Copper → Copper) : (s.updCopper d k f).oxe = s.oxe := (rfl)
@[simp] theorem updCopper_stl (d : Fin 8) (k : Fin 4) (f : Copper → Copper) : (s.updCopper d k f).stl = s.stl := (rfl)
@[simp] theorem updCopper_veh (d : Fin 8) (k : Fin 4) (f : Copper → Copper) : (s.updCopper d k f).veh = s.veh := (rfl)
@[simp] theorem updCopper_saf (d : Fin 8) (k : Fin 4) (f : Copper → Copper) : (s.updCopper d k f).saf = s.saf := (rfl)
@[simp] theorem updCopper_twin (d : Fin 8) (k : Fin 4) (f : Copper → Copper) : (s.updCopper d k f).twin = s.twin := (rfl)
@[simp] theorem updCopper_adc (d : Fin 8) (k : Fin 4) (f : Copper → Copper) : (s.updCopper d k f).adc = s.adc := (rfl)
@[simp] theorem updCopper_meter (d : Fin 8) (k : Fin 4) (f : Copper → Copper) : (s.updCopper d k f).meter = s.meter := (rfl)
@[simp] theorem updCopper_alloc (d : Fin 8) (k : Fin 4) (f : Copper → Copper) : (s.updCopper d k f).alloc = s.alloc := (rfl)
@[simp] theorem updCopper_plc (d : Fin 8) (k : Fin 4) (f : Copper → Copper) : (s.updCopper d k f).plc = s.plc := (rfl)
@[simp] theorem updCopper_slac (d : Fin 8) (k : Fin 4) (f : Copper → Copper) : (s.updCopper d k f).slac = s.slac := (rfl)
@[simp] theorem updCopper_herd (d : Fin 8) (k : Fin 4) (f : Copper → Copper) : (s.updCopper d k f).herd = s.herd := (rfl)
@[simp] theorem updCopper_can (d : Fin 8) (k : Fin 4) (f : Copper → Copper) : (s.updCopper d k f).can = s.can := (rfl)
@[simp] theorem updCopper_acq (d : Fin 8) (k : Fin 4) (f : Copper → Copper) : (s.updCopper d k f).acq = s.acq := (rfl)
@[simp] theorem updCopper_group (d : Fin 8) (k : Fin 4) (f : Copper → Copper) : (s.updCopper d k f).group = s.group := (rfl)
@[simp] theorem updCopper_lsw (d : Fin 8) (k : Fin 4) (f : Copper → Copper) : (s.updCopper d k f).lsw = s.lsw := (rfl)
@[simp] theorem updCopper_hpiOut (d : Fin 8) (k : Fin 4) (f : Copper → Copper) : (s.updCopper d k f).hpiOut = s.hpiOut := (rfl)
@[simp] theorem updCopper_coreFault (d : Fin 8) (k : Fin 4) (f : Copper → Copper) : (s.updCopper d k f).coreFault = s.coreFault := (rfl)

/-! ### updLock -/

@[simp] theorem updLock_pending (i : Fin 5) (f : Lockout → Lockout) : (s.updLock i f).pending = s.pending := (rfl)
@[simp] theorem updLock_regs (i : Fin 5) (f : Lockout → Lockout) : (s.updLock i f).regs = s.regs := (rfl)
@[simp] theorem updLock_mem (i : Fin 5) (f : Lockout → Lockout) : (s.updLock i f).mem = s.mem := (rfl)
@[simp] theorem updLock_upsets (i : Fin 5) (f : Lockout → Lockout) : (s.updLock i f).upsets = s.upsets := (rfl)
@[simp] theorem updLock_freeIdx (i : Fin 5) (f : Lockout → Lockout) : (s.updLock i f).freeIdx = s.freeIdx := (rfl)
@[simp] theorem updLock_now (i : Fin 5) (f : Lockout → Lockout) : (s.updLock i f).now = s.now := (rfl)
@[simp] theorem updLock_pkg (i : Fin 5) (f : Lockout → Lockout) : (s.updLock i f).pkg = s.pkg := (rfl)
@[simp] theorem updLock_sup (i : Fin 5) (f : Lockout → Lockout) : (s.updLock i f).sup = s.sup := (rfl)
@[simp] theorem updLock_logs (i : Fin 5) (f : Lockout → Lockout) : (s.updLock i f).logs = s.logs := (rfl)
@[simp] theorem updLock_faults (i : Fin 5) (f : Lockout → Lockout) : (s.updLock i f).faults = s.faults := (rfl)
@[simp] theorem updLock_lcs (i : Fin 5) (f : Lockout → Lockout) : (s.updLock i f).lcs = s.lcs := (rfl)
@[simp] theorem updLock_keys (i : Fin 5) (f : Lockout → Lockout) : (s.updLock i f).keys = s.keys := (rfl)
@[simp] theorem updLock_tsu (i : Fin 5) (f : Lockout → Lockout) : (s.updLock i f).tsu = s.tsu := (rfl)
@[simp] theorem updLock_servo (i : Fin 5) (f : Lockout → Lockout) : (s.updLock i f).servo = s.servo := (rfl)
@[simp] theorem updLock_oxe (i : Fin 5) (f : Lockout → Lockout) : (s.updLock i f).oxe = s.oxe := (rfl)
@[simp] theorem updLock_stl (i : Fin 5) (f : Lockout → Lockout) : (s.updLock i f).stl = s.stl := (rfl)
@[simp] theorem updLock_veh (i : Fin 5) (f : Lockout → Lockout) : (s.updLock i f).veh = s.veh := (rfl)
@[simp] theorem updLock_saf (i : Fin 5) (f : Lockout → Lockout) : (s.updLock i f).saf = s.saf := (rfl)
@[simp] theorem updLock_twin (i : Fin 5) (f : Lockout → Lockout) : (s.updLock i f).twin = s.twin := (rfl)
@[simp] theorem updLock_adc (i : Fin 5) (f : Lockout → Lockout) : (s.updLock i f).adc = s.adc := (rfl)
@[simp] theorem updLock_meter (i : Fin 5) (f : Lockout → Lockout) : (s.updLock i f).meter = s.meter := (rfl)
@[simp] theorem updLock_alloc (i : Fin 5) (f : Lockout → Lockout) : (s.updLock i f).alloc = s.alloc := (rfl)
@[simp] theorem updLock_cool (i : Fin 5) (f : Lockout → Lockout) : (s.updLock i f).cool = s.cool := (rfl)
@[simp] theorem updLock_plc (i : Fin 5) (f : Lockout → Lockout) : (s.updLock i f).plc = s.plc := (rfl)
@[simp] theorem updLock_slac (i : Fin 5) (f : Lockout → Lockout) : (s.updLock i f).slac = s.slac := (rfl)
@[simp] theorem updLock_herd (i : Fin 5) (f : Lockout → Lockout) : (s.updLock i f).herd = s.herd := (rfl)
@[simp] theorem updLock_can (i : Fin 5) (f : Lockout → Lockout) : (s.updLock i f).can = s.can := (rfl)
@[simp] theorem updLock_acq (i : Fin 5) (f : Lockout → Lockout) : (s.updLock i f).acq = s.acq := (rfl)
@[simp] theorem updLock_group (i : Fin 5) (f : Lockout → Lockout) : (s.updLock i f).group = s.group := (rfl)
@[simp] theorem updLock_lsw (i : Fin 5) (f : Lockout → Lockout) : (s.updLock i f).lsw = s.lsw := (rfl)
@[simp] theorem updLock_hpiOut (i : Fin 5) (f : Lockout → Lockout) : (s.updLock i f).hpiOut = s.hpiOut := (rfl)
@[simp] theorem updLock_coreFault (i : Fin 5) (f : Lockout → Lockout) : (s.updLock i f).coreFault = s.coreFault := (rfl)

/-! ### putInh -/

@[simp] theorem putInh_pending (p : Fin 32) (c : Fin 12) (b : Bool) : (s.putInh p c b).pending = s.pending := (rfl)
@[simp] theorem putInh_regs (p : Fin 32) (c : Fin 12) (b : Bool) : (s.putInh p c b).regs = s.regs := (rfl)
@[simp] theorem putInh_mem (p : Fin 32) (c : Fin 12) (b : Bool) : (s.putInh p c b).mem = s.mem := (rfl)
@[simp] theorem putInh_upsets (p : Fin 32) (c : Fin 12) (b : Bool) : (s.putInh p c b).upsets = s.upsets := (rfl)
@[simp] theorem putInh_freeIdx (p : Fin 32) (c : Fin 12) (b : Bool) : (s.putInh p c b).freeIdx = s.freeIdx := (rfl)
@[simp] theorem putInh_now (p : Fin 32) (c : Fin 12) (b : Bool) : (s.putInh p c b).now = s.now := (rfl)
@[simp] theorem putInh_sup (p : Fin 32) (c : Fin 12) (b : Bool) : (s.putInh p c b).sup = s.sup := (rfl)
@[simp] theorem putInh_logs (p : Fin 32) (c : Fin 12) (b : Bool) : (s.putInh p c b).logs = s.logs := (rfl)
@[simp] theorem putInh_faults (p : Fin 32) (c : Fin 12) (b : Bool) : (s.putInh p c b).faults = s.faults := (rfl)
@[simp] theorem putInh_lcs (p : Fin 32) (c : Fin 12) (b : Bool) : (s.putInh p c b).lcs = s.lcs := (rfl)
@[simp] theorem putInh_keys (p : Fin 32) (c : Fin 12) (b : Bool) : (s.putInh p c b).keys = s.keys := (rfl)
@[simp] theorem putInh_gate (p : Fin 32) (c : Fin 12) (b : Bool) : (s.putInh p c b).gate = s.gate := (rfl)
@[simp] theorem putInh_tsu (p : Fin 32) (c : Fin 12) (b : Bool) : (s.putInh p c b).tsu = s.tsu := (rfl)
@[simp] theorem putInh_servo (p : Fin 32) (c : Fin 12) (b : Bool) : (s.putInh p c b).servo = s.servo := (rfl)
@[simp] theorem putInh_oxe (p : Fin 32) (c : Fin 12) (b : Bool) : (s.putInh p c b).oxe = s.oxe := (rfl)
@[simp] theorem putInh_stl (p : Fin 32) (c : Fin 12) (b : Bool) : (s.putInh p c b).stl = s.stl := (rfl)
@[simp] theorem putInh_veh (p : Fin 32) (c : Fin 12) (b : Bool) : (s.putInh p c b).veh = s.veh := (rfl)
@[simp] theorem putInh_saf (p : Fin 32) (c : Fin 12) (b : Bool) : (s.putInh p c b).saf = s.saf := (rfl)
@[simp] theorem putInh_twin (p : Fin 32) (c : Fin 12) (b : Bool) : (s.putInh p c b).twin = s.twin := (rfl)
@[simp] theorem putInh_adc (p : Fin 32) (c : Fin 12) (b : Bool) : (s.putInh p c b).adc = s.adc := (rfl)
@[simp] theorem putInh_meter (p : Fin 32) (c : Fin 12) (b : Bool) : (s.putInh p c b).meter = s.meter := (rfl)
@[simp] theorem putInh_alloc (p : Fin 32) (c : Fin 12) (b : Bool) : (s.putInh p c b).alloc = s.alloc := (rfl)
@[simp] theorem putInh_cool (p : Fin 32) (c : Fin 12) (b : Bool) : (s.putInh p c b).cool = s.cool := (rfl)
@[simp] theorem putInh_plc (p : Fin 32) (c : Fin 12) (b : Bool) : (s.putInh p c b).plc = s.plc := (rfl)
@[simp] theorem putInh_slac (p : Fin 32) (c : Fin 12) (b : Bool) : (s.putInh p c b).slac = s.slac := (rfl)
@[simp] theorem putInh_herd (p : Fin 32) (c : Fin 12) (b : Bool) : (s.putInh p c b).herd = s.herd := (rfl)
@[simp] theorem putInh_can (p : Fin 32) (c : Fin 12) (b : Bool) : (s.putInh p c b).can = s.can := (rfl)
@[simp] theorem putInh_acq (p : Fin 32) (c : Fin 12) (b : Bool) : (s.putInh p c b).acq = s.acq := (rfl)
@[simp] theorem putInh_group (p : Fin 32) (c : Fin 12) (b : Bool) : (s.putInh p c b).group = s.group := (rfl)
@[simp] theorem putInh_lsw (p : Fin 32) (c : Fin 12) (b : Bool) : (s.putInh p c b).lsw = s.lsw := (rfl)
@[simp] theorem putInh_hpiOut (p : Fin 32) (c : Fin 12) (b : Bool) : (s.putInh p c b).hpiOut = s.hpiOut := (rfl)
@[simp] theorem putInh_coreFault (p : Fin 32) (c : Fin 12) (b : Bool) : (s.putInh p c b).coreFault = s.coreFault := (rfl)

/-! ### setOpReg -/

@[simp] theorem setOpReg_pending (b i : Nat) (v : Word) : (s.setOpReg b i v).pending = s.pending := (rfl)
@[simp] theorem setOpReg_regs (b i : Nat) (v : Word) : (s.setOpReg b i v).regs = s.regs := (rfl)
@[simp] theorem setOpReg_mem (b i : Nat) (v : Word) : (s.setOpReg b i v).mem = s.mem := (rfl)
@[simp] theorem setOpReg_upsets (b i : Nat) (v : Word) : (s.setOpReg b i v).upsets = s.upsets := (rfl)
@[simp] theorem setOpReg_freeIdx (b i : Nat) (v : Word) : (s.setOpReg b i v).freeIdx = s.freeIdx := (rfl)
@[simp] theorem setOpReg_now (b i : Nat) (v : Word) : (s.setOpReg b i v).now = s.now := (rfl)
@[simp] theorem setOpReg_pkg (b i : Nat) (v : Word) : (s.setOpReg b i v).pkg = s.pkg := (rfl)
@[simp] theorem setOpReg_sup (b i : Nat) (v : Word) : (s.setOpReg b i v).sup = s.sup := (rfl)
@[simp] theorem setOpReg_logs (b i : Nat) (v : Word) : (s.setOpReg b i v).logs = s.logs := (rfl)
@[simp] theorem setOpReg_faults (b i : Nat) (v : Word) : (s.setOpReg b i v).faults = s.faults := (rfl)
@[simp] theorem setOpReg_lcs (b i : Nat) (v : Word) : (s.setOpReg b i v).lcs = s.lcs := (rfl)
@[simp] theorem setOpReg_gate (b i : Nat) (v : Word) : (s.setOpReg b i v).gate = s.gate := (rfl)
@[simp] theorem setOpReg_tsu (b i : Nat) (v : Word) : (s.setOpReg b i v).tsu = s.tsu := (rfl)
@[simp] theorem setOpReg_servo (b i : Nat) (v : Word) : (s.setOpReg b i v).servo = s.servo := (rfl)
@[simp] theorem setOpReg_oxe (b i : Nat) (v : Word) : (s.setOpReg b i v).oxe = s.oxe := (rfl)
@[simp] theorem setOpReg_stl (b i : Nat) (v : Word) : (s.setOpReg b i v).stl = s.stl := (rfl)
@[simp] theorem setOpReg_veh (b i : Nat) (v : Word) : (s.setOpReg b i v).veh = s.veh := (rfl)
@[simp] theorem setOpReg_saf (b i : Nat) (v : Word) : (s.setOpReg b i v).saf = s.saf := (rfl)
@[simp] theorem setOpReg_twin (b i : Nat) (v : Word) : (s.setOpReg b i v).twin = s.twin := (rfl)
@[simp] theorem setOpReg_adc (b i : Nat) (v : Word) : (s.setOpReg b i v).adc = s.adc := (rfl)
@[simp] theorem setOpReg_meter (b i : Nat) (v : Word) : (s.setOpReg b i v).meter = s.meter := (rfl)
@[simp] theorem setOpReg_alloc (b i : Nat) (v : Word) : (s.setOpReg b i v).alloc = s.alloc := (rfl)
@[simp] theorem setOpReg_cool (b i : Nat) (v : Word) : (s.setOpReg b i v).cool = s.cool := (rfl)
@[simp] theorem setOpReg_plc (b i : Nat) (v : Word) : (s.setOpReg b i v).plc = s.plc := (rfl)
@[simp] theorem setOpReg_slac (b i : Nat) (v : Word) : (s.setOpReg b i v).slac = s.slac := (rfl)
@[simp] theorem setOpReg_herd (b i : Nat) (v : Word) : (s.setOpReg b i v).herd = s.herd := (rfl)
@[simp] theorem setOpReg_can (b i : Nat) (v : Word) : (s.setOpReg b i v).can = s.can := (rfl)
@[simp] theorem setOpReg_acq (b i : Nat) (v : Word) : (s.setOpReg b i v).acq = s.acq := (rfl)
@[simp] theorem setOpReg_group (b i : Nat) (v : Word) : (s.setOpReg b i v).group = s.group := (rfl)
@[simp] theorem setOpReg_lsw (b i : Nat) (v : Word) : (s.setOpReg b i v).lsw = s.lsw := (rfl)
@[simp] theorem setOpReg_hpiOut (b i : Nat) (v : Word) : (s.setOpReg b i v).hpiOut = s.hpiOut := (rfl)
@[simp] theorem setOpReg_coreFault (b i : Nat) (v : Word) : (s.setOpReg b i v).coreFault = s.coreFault := (rfl)

/-! ### setCache -/

@[simp] theorem setCache_pending (n : Nat) (v : Option (List Byte)) : (s.setCache n v).pending = s.pending := (rfl)
@[simp] theorem setCache_regs (n : Nat) (v : Option (List Byte)) : (s.setCache n v).regs = s.regs := (rfl)
@[simp] theorem setCache_mem (n : Nat) (v : Option (List Byte)) : (s.setCache n v).mem = s.mem := (rfl)
@[simp] theorem setCache_upsets (n : Nat) (v : Option (List Byte)) : (s.setCache n v).upsets = s.upsets := (rfl)
@[simp] theorem setCache_freeIdx (n : Nat) (v : Option (List Byte)) : (s.setCache n v).freeIdx = s.freeIdx := (rfl)
@[simp] theorem setCache_now (n : Nat) (v : Option (List Byte)) : (s.setCache n v).now = s.now := (rfl)
@[simp] theorem setCache_pkg (n : Nat) (v : Option (List Byte)) : (s.setCache n v).pkg = s.pkg := (rfl)
@[simp] theorem setCache_sup (n : Nat) (v : Option (List Byte)) : (s.setCache n v).sup = s.sup := (rfl)
@[simp] theorem setCache_logs (n : Nat) (v : Option (List Byte)) : (s.setCache n v).logs = s.logs := (rfl)
@[simp] theorem setCache_faults (n : Nat) (v : Option (List Byte)) : (s.setCache n v).faults = s.faults := (rfl)
@[simp] theorem setCache_lcs (n : Nat) (v : Option (List Byte)) : (s.setCache n v).lcs = s.lcs := (rfl)
@[simp] theorem setCache_gate (n : Nat) (v : Option (List Byte)) : (s.setCache n v).gate = s.gate := (rfl)
@[simp] theorem setCache_tsu (n : Nat) (v : Option (List Byte)) : (s.setCache n v).tsu = s.tsu := (rfl)
@[simp] theorem setCache_servo (n : Nat) (v : Option (List Byte)) : (s.setCache n v).servo = s.servo := (rfl)
@[simp] theorem setCache_oxe (n : Nat) (v : Option (List Byte)) : (s.setCache n v).oxe = s.oxe := (rfl)
@[simp] theorem setCache_stl (n : Nat) (v : Option (List Byte)) : (s.setCache n v).stl = s.stl := (rfl)
@[simp] theorem setCache_veh (n : Nat) (v : Option (List Byte)) : (s.setCache n v).veh = s.veh := (rfl)
@[simp] theorem setCache_saf (n : Nat) (v : Option (List Byte)) : (s.setCache n v).saf = s.saf := (rfl)
@[simp] theorem setCache_twin (n : Nat) (v : Option (List Byte)) : (s.setCache n v).twin = s.twin := (rfl)
@[simp] theorem setCache_adc (n : Nat) (v : Option (List Byte)) : (s.setCache n v).adc = s.adc := (rfl)
@[simp] theorem setCache_meter (n : Nat) (v : Option (List Byte)) : (s.setCache n v).meter = s.meter := (rfl)
@[simp] theorem setCache_alloc (n : Nat) (v : Option (List Byte)) : (s.setCache n v).alloc = s.alloc := (rfl)
@[simp] theorem setCache_cool (n : Nat) (v : Option (List Byte)) : (s.setCache n v).cool = s.cool := (rfl)
@[simp] theorem setCache_plc (n : Nat) (v : Option (List Byte)) : (s.setCache n v).plc = s.plc := (rfl)
@[simp] theorem setCache_slac (n : Nat) (v : Option (List Byte)) : (s.setCache n v).slac = s.slac := (rfl)
@[simp] theorem setCache_herd (n : Nat) (v : Option (List Byte)) : (s.setCache n v).herd = s.herd := (rfl)
@[simp] theorem setCache_can (n : Nat) (v : Option (List Byte)) : (s.setCache n v).can = s.can := (rfl)
@[simp] theorem setCache_acq (n : Nat) (v : Option (List Byte)) : (s.setCache n v).acq = s.acq := (rfl)
@[simp] theorem setCache_group (n : Nat) (v : Option (List Byte)) : (s.setCache n v).group = s.group := (rfl)
@[simp] theorem setCache_lsw (n : Nat) (v : Option (List Byte)) : (s.setCache n v).lsw = s.lsw := (rfl)
@[simp] theorem setCache_hpiOut (n : Nat) (v : Option (List Byte)) : (s.setCache n v).hpiOut = s.hpiOut := (rfl)
@[simp] theorem setCache_coreFault (n : Nat) (v : Option (List Byte)) : (s.setCache n v).coreFault = s.coreFault := (rfl)

end Sys2Proof.Machine.State
end

