-- ==== Sys2Proof/WellFormed.lean ====
section
/-!
DEFINITION. Well-formed commands: operands whose Lean type is wider than the hardware's field lie in that field's range.
-/

namespace Sys2Proof

/-- A bus address (R22). -/
def busAddr (a : Nat) : Bool := decide (a < 2 ^ 32)

/-- An access width of R481, in bytes. -/
def busWidth (n : Nat) : Bool := n == 1 || n == 2 || n == 4

/-- The index of a slot in the SMW registers (R106): command slots 0 to 7, MBQ 8, MBR 9, bulk slots 16 to 77. -/
def slotIndex (i : Nat) : Bool := decide (i < 10) || (decide (16 ≤ i) && decide (i < 78))

/-- An address of a host port transaction (R126). -/
def hpiAddr (a : Nat) : Bool := decide (a < 2 ^ 24)

/-- A device time of 48 bits (R309). -/
def devTime48 (t : Nat) : Bool := decide (t < 2 ^ 48)

/-- A raw 16-bit code of a converter lane (R132). -/
def rawCode (x : Int) : Bool := decide (-32768 ≤ x) && decide (x < 32768)

/-- A herd node address 1 to 30 (R287). -/
def herdNode (n : Fin 31) : Bool := n.val != 0

/-- A herd payload, at most 128 bytes (R287). -/
def herdPayload (l : List Byte) : Bool := decide (l.length ≤ 128)

/-- A CAN identifier: 11 bits, or 29 bits in an extended frame (R297). -/
def canId (id : Nat) (ext : Bool) : Bool := decide (id < (if ext then 2 ^ 29 else 2 ^ 11))

/-- Data bytes that a data length code stands for (R297; ISO 11898-1). -/
def dlcBytes (dlc : Nat) (fd : Bool) : Nat :=
  if dlc ≤ 8 then dlc
  else if !fd then 8
  else [12, 16, 20, 24, 32, 48, 64].getD (dlc - 9) 64

/-- A CAN frame as it can stand on the bus. -/
def CanFrame.wf (f : CanFrame) : Bool :=
  canId f.id f.ext && (f.remote || decide (f.data.length = dlcBytes f.dlc.val f.fd)) && !(f.remote && f.fd) && (f.fd || !f.brs)

/-- A command whose operands lie in the ranges of the hardware's fields. -/
def Instr.wf : Instr → Bool
  | .registerWrite _ a w _ => busAddr a && busWidth w
  | .slotSubmit _ i _ => slotIndex i
  | .slotConsume _ i _ => slotIndex i
  | .slotPublish i _ => slotIndex i
  | .slotTake i => slotIndex i
  | .payloadWrite _ o _ => decide (o < 2 ^ 21)
  | .earlyRead _ o => decide (o < 2 ^ 21)
  | .hpiReadWords a _ => hpiAddr a
  | .hpiWriteWords a _ _ => hpiAddr a
  | .conversionResult _ _ _ _ code _ _ t => rawCode code && devTime48 t
  | .herdPoll n l => herdNode n && herdPayload l
  | .herdReply n f => herdNode n && decide (f.payload.length ≤ 130)
  | .herdReplyTimeout n => herdNode n
  | .herdBroadcast l => herdPayload l
  | .herdLostNodePoll n => herdNode n
  | .herdQuietRestore n => herdNode n
  | .canFrameReceive _ _ f => f.wf
  | .canBusError _ _ id ext _ _ _ => canId id ext
  | .ethTxTimestamp _ _ _ t => devTime48 t
  | .ethFrameReceive _ _ t => devTime48 t
  | .groupFire _ _ _ t => devTime48 t
  | .gatherBlock _ l => l.all (fun x => devTime48 x.2)
  | _ => true

end Sys2Proof
end

