-- ==== Sys2Proof/Safety.lean ====
section
/-!
DEFINITION. What counts as a safe state and a completed command, in the terms the statements use.
-/

namespace Sys2Proof.Machine

/-- Byte memories are in canonical form: keys rising, and no byte equal to 0, which an unlisted byte reads as. -/
def Memory.wf (m : List Host.Cell) : Bool := Sparse.wf (fun _ => 0) m

/-- The register file is in canonical form: addresses rising, and no word equal to its register's reset value. -/
def RegFile.wf (r : List (Nat × Word)) : Bool := Sparse.wf resetWord r

/-- The stores of a state are in canonical form, so that equal contents are equal data. -/
def State.Inv (s : State) : Prop := Memory.wf s.mem = true ∧ RegFile.wf s.regs = true

/-- The command completes: `exec` answers a next state, and that state is as `P` says. -/
def Yields (c : Instr) (s : State) (P : State → Prop) : Prop := ∃ t, exec c s = .next t ∧ P t

/-- No byte of any memory, none of the commands waiting and not the model's clock has changed. -/
def Keeps (s t : State) : Prop := t.mem = s.mem ∧ t.pending = s.pending ∧ t.now = s.now

/-- Every byte outside `n` bytes from key `k` reads as before, and the register file is unchanged. -/
def StoresAt (k n : Nat) (s t : State) : Prop := (∀ a, a < k ∨ k + n ≤ a → t.byte a = s.byte a) ∧ t.regs = s.regs

/-- Every register but those at the listed addresses reads as before, and no byte of memory has changed. -/
def OnlyRegs (l : List Nat) (s t : State) : Prop := (∀ a, a ∉ l → t.word a = s.word a) ∧ Keeps s t

/-- A cause of `Inh` drives the INH pin of a port (R37). -/
def State.inhBy (s : State) (p : Fin 32) (c : Fin 12) : Bool := (s.pkg.inh.get p).getLsbD c.val

/-- The response to a region fault of a port die holds it: its own, the chip's, or its retirement (R460, R461). -/
def RegionFaulted (d : Fin 8) (t : State) : Prop :=
  t.faults.regionResp.get d = true ∨ t.faults.chipResp = true ∨ t.isRetired d 3 0 0 = true

/-- Nothing but registers has changed, and of these only words at the listed addresses. -/
def WritesOnly (l : List Nat) (s t : State) : Prop := t = { s with regs := t.regs } ∧ ∀ a, a ∉ l → t.word a = s.word a

/-! ## The command gate -/

/-- A row of the command gate: its code, which parameters are its own, step 7's judgement, its execution, and its command. -/
structure GateRow where
  code : Nat
  mine : List Word → Bool
  bad : State → Envelope → Bool
  run : State → Envelope → Verdict × State
  cmd : Instr

open State in
/-- The gate's rows that the lead die's firmware executes, for slot `k` (R120). -/
def gateRows (k : Fin 8) : List GateRow :=
  [⟨0x0001, fun _ => true, fun _ e => !e.params.isEmpty, statusRun, .status k⟩,
   ⟨0x0002, logMine 0, logBad, logRun, .eventLogRead k⟩, ⟨0x0002, logMine 1, logBad, logRun, .dieLogRead k⟩,
   ⟨0x0002, logMine 2, logBad, logRun, .changeLogRead k⟩, ⟨0x0002, logMine 3, logBad, logRun, .retirementRecordsRead k⟩,
   ⟨0x0010, fun _ => true, beginBad, beginRun, .imageStagingBegin k⟩,
   ⟨0x0011, fun _ => true, dataBad, dataRun, .imageStagingData k⟩,
   ⟨0x0012, fun _ => true, endBad, endRun, .imageStagingEnd k⟩,
   ⟨0x0101, fun _ => true, safetyBad, safetyRun, .safetyConfigurationWrite k⟩,
   ⟨0x0102, fun _ => true, passwordBad, passwordRun, .safetyPasswordChange k⟩,
   ⟨0x0201, fun _ => true, paramBad, paramRun, .meterParameterWrite k⟩,
   ⟨0x0301, fun _ => true, timeBad, timeRun, .timeSetBeyondSlewLimit k⟩,
   ⟨0x0401, fun _ => true, calendarBad, calRun, .passiveCalendarLoad k⟩,
   ⟨0x0402, oneMine 2 0, oneBad 2, actRun, .calendarActivation k⟩,
   ⟨0x0402, oneMine 2 1, oneBad 2, discardRun, .calendarDiscard k⟩,
   ⟨0x0501, fun _ => true, oneBad 2, activateRun, .imageActivation k⟩,
   ⟨0x0601, fun _ => true, lifeBad, lifeRun, .lifeCycleChange k⟩,
   ⟨0x0701, oneMine 4 0, oneBad 4, roleRun, .forcedPlannedHandover k⟩, ⟨0x0701, oneMine 4 1, oneBad 4, roleRun, .forcedHeld k⟩,
   ⟨0x0701, oneMine 4 2, oneBad 4, roleRun, .forcedResync k⟩, ⟨0x0701, oneMine 4 3, oneBad 4, roleRun, .forcedRepair k⟩,
   ⟨0x0801, fun _ => true, retireBad, retireRun, .retire k⟩, ⟨0x0802, fun _ => true, reinstateBad, reinstateRun, .reinstate k⟩]

/-- The state after steps 2 to 6 of R117 on the envelope of slot `k`. -/
def State.passed (s : State) (k : Fin 8) : State := (s.gateCheck (s.envelope k)).2

/-- The envelope waiting in slot `k` carries a code, passes steps 2 to 6 of R117, is well formed, and no state turns it away. -/
def State.opens (s : State) (k : Fin 8) (code : Nat) : Bool :=
  let e := s.envelope k
  s.waiting k && e.code == code && (s.gateCheck e).1 == 0 && (s.passed k).formOk e && ((s.passed k).turnedAway e).isNone

/-- The envelope waiting in slot `k` is a row's own and passes every check of R117 and every state that turns it away. -/
def State.admits (s : State) (k : Fin 8) (code : Nat) (mine : List Word → Bool) (bad : State → Envelope → Bool) : Bool :=
  let e := s.envelope k
  s.waiting k && e.code == code && mine e.params && (s.gateCheck e).1 == 0 && (s.passed k).formOk e && !bad (s.passed k) e &&
    ((s.passed k).turnedAway e).isNone

/-- The response in slot `k` refuses its command with a status: the four words, the submission's SEQ, nothing else stored; and
nothing of what the command is about has changed. -/
def Refused (k : Fin 8) (st : Nat) (s t : State) : Prop :=
  t.slotWord k 0 = BitVec.ofNat 32 ((s.envelope k).code + 65536 * st) ∧ t.header k = mkHeader 1 (hSeq (s.header k)) 4 ∧
  (∀ a, a < State.winKey (slotBase k) ∨ State.winKey (slotBase k) + 20 ≤ a → t.byte a = s.byte a) ∧
  t.lcs = s.lcs ∧ t.meter = s.meter ∧ t.keys = s.keys ∧ t.saf = s.saf ∧ t.twin = s.twin ∧ t.faults = s.faults ∧
  t.pending = s.pending

/-! ## Loop code -/

/-- Context `n` of die `d` has ended an instruction after `cyc` cycles and goes on to the next one (R192, R209): its value
registers are `v`, its accumulators `acc`, WIN is `win`, and SAT, INV and SWP are raised where the last three say so. Nothing
else of the machine has changed. -/
def State.RanWin (s t : State) (d n : Fin 8) (cyc : Nat) (v : Vector Word 16) (acc : Vector DWord 2) (win : Nat)
    (sat inv swp : Bool) : Prop :=
  t = { s with oxe := t.oxe, regs := t.regs } ∧ (∀ e, e ≠ d → t.oxe.get e = s.oxe.get e) ∧
  t.oxe.get d = { s.oxe.get d with ctx := upd (s.oxe.get d).ctx n (fun c =>
    { c with v := v, acc := acc, stack := (endTest c.stack c.pc).1, pc := (endTest c.stack c.pc).2, cyc := c.cyc + cyc }) } ∧
  (∀ a, a ≠ fldAddr d F.OXE_CTX_STAT_SAT n 0 → t.word a = s.word a) ∧
  t.on d F.OXE_CTX_STAT_SAT n = (s.on d F.OXE_CTX_STAT_SAT n || sat) ∧
  t.on d F.OXE_CTX_STAT_INV n = (s.on d F.OXE_CTX_STAT_INV n || inv) ∧
  t.on d F.OXE_CTX_STAT_SWP n = (s.on d F.OXE_CTX_STAT_SWP n || swp) ∧ t.rd d F.OXE_CTX_STAT_WIN n = win ∧
  (∀ f ∈ [F.OXE_CTX_STAT_STATE, F.OXE_CTX_STAT_CAUSE, F.OXE_CTX_STAT_FAULTS], t.rd d f n = s.rd d f n)

/-- WIN has not changed. -/
def State.Ran (s t : State) (d n : Fin 8) (cyc : Nat) (v : Vector Word 16) (acc : Vector DWord 2) (sat inv swp : Bool) : Prop :=
  s.RanWin t d n cyc v acc (s.rd d F.OXE_CTX_STAT_WIN n) sat inv swp

/-- Vd holds `x`, and SAT is raised by `sat`. -/
def State.RanV (s t : State) (d n : Fin 8) (w : Word) (cyc : Nat) (x : Int) (sat : Bool) : Prop :=
  s.Ran t d n cyc (upd (s.ctx d n).v (olcD w) (fun _ => BitVec.ofInt 32 x)) (s.ctx d n).acc sat false false

/-- Vd holds sat32 of `y` (R174, R200). -/
def State.RanVSat (s t : State) (d n : Fin 8) (w : Word) (cyc : Nat) (y : Int) : Prop :=
  s.RanV t d n w cyc (sat32 y) (decide (sat32 y ≠ y))

/-- Accumulator `a` holds `x`, and SAT is raised by `sat`. -/
def State.RanAcc (s t : State) (d n : Fin 8) (cyc : Nat) (a : Fin 2) (x : Int) (sat : Bool) : Prop :=
  s.Ran t d n cyc (s.ctx d n).v (upd (s.ctx d n).acc a (fun _ => BitVec.ofInt 64 x)) sat false false

/-- The context has gone on to `pc` after `cyc` cycles with a call stack; its registers and every flag are as before. -/
def State.WentTo (s t : State) (d n : Fin 8) (cyc pc : Nat) (stack : List StackEntry) : Prop :=
  t = s.updCtx d n (fun c => { c with pc := pc, stack := stack, cyc := c.cyc + cyc })

/-- The context has faulted with a cause; its registers and the byte memories are as before (R172). -/
def State.Faulted (s t : State) (d n : Fin 8) (cause : Nat) : Prop :=
  t.ctxSt d n = 6 ∧ t.rd d F.OXE_CTX_STAT_CAUSE n = cause ∧ t.ctx d n = s.ctx d n ∧ t.on d F.OXE_ERR_CTX_FAULT = true ∧ Keeps s t

end Sys2Proof.Machine
end

