-- ==== Sys2Proof/Certificates/Slice0/Obligations.lean ====
section
/-!
DEFINITION. The statements for the provers. `Yields c s P` says that command `c` completes in state `s` with a next state as
`P` says; `Keeps`, `StoresAt` and `OnlyRegs` are the frames of Sys2Proof/Safety.lean.
-/

open Sys2Proof Sys2Proof.Machine Sys2Proof.Machine.State

/-- S0 to S3 take header writes of the host port (while HPI_CTRL.CMD_EN is set), S4 to S7 those of application cores,
every other slot those of both; a command slot's header written by the other kind stays and SMW_ERR.ILLEGAL_OWN is
set. Where the requester may write: with OWN free now and device written, the header becomes the word written; with
OWN host now and free written, the slot becomes free with SEQ and LEN kept; in every other case the header stays and
SMW_ERR.ILLEGAL_OWN is set. The first two store the one header word and change no register; the others store nothing. (R107) -/
def Obligations.HostHeaderWrites : Prop :=
  ∀ (s : State) (r : Requester) (i : Nat) (w : Word), slotIndex i = true → hostView r = true →
    let port : Prop := r = .hostPort
    let serves : Prop := (i < 4 ∧ port ∧ s.on 0 F.HPI_CTRL_CMD_EN = true) ∨ (4 ≤ i ∧ i < 8 ∧ ¬port) ∨ 8 ≤ i
    let ignored (c : Instr) : Prop := Yields c s (fun t => t.mem = s.mem ∧ t.on 0 F.SMW_ERR_ILLEGAL_OWN = true ∧ t.pending = s.pending)
    (i < 8 → (i < 4 → ¬port) → (4 ≤ i → port) → ignored (.slotSubmit r i w) ∧ ignored (.slotConsume r i w)) ∧
    (serves → s.own i = 3 → hOwn w = 2 →
      Yields (.slotSubmit r i w) s (fun t => t.header i = w ∧ StoresAt (State.winKey (slotBase i)) 4 s t)) ∧
    (serves → s.own i = 1 → hOwn w = 3 →
      Yields (.slotConsume r i w) s (fun t =>
        t.header i = mkHeader 3 (hSeq (s.header i)) (hLen (s.header i)) ∧ StoresAt (State.winKey (slotBase i)) 4 s t)) ∧
    (serves → ¬(s.own i = 3 ∧ hOwn w = 2) → ¬(s.own i = 1 ∧ hOwn w = 3) →
      ignored (.slotSubmit r i w) ∧ ignored (.slotConsume r i w))

/-- SLOT_CLAIM makes the lowest free unreserved bulk slot device-owned and keeps its SEQ and LEN; SLOT_PUBLISH of a
device-owned bulk slot makes it host-owned with SEQ one more modulo 65 536 and the LEN given, and sets SMW_EVT.BULK;
SLOT_TAKE of a device-owned slot makes it free with SEQ kept and LEN 0. Each stores only that header word. (R109, R113) -/
def Obligations.DeviceHeaderWrites : Prop :=
  ∀ (s : State) (i : Nat) (w : Word),
    (s.nextBulk = some i → Yields .slotClaim s (fun t =>
      t.header i = mkHeader 2 (hSeq (s.header i)) (hLen (s.header i)) ∧ StoresAt (State.winKey (slotBase i)) 4 s t)) ∧
    (16 ≤ i → i < 78 → s.own i = 2 → Yields (.slotPublish i w) s (fun t =>
      t.header i = mkHeader 1 (hSeq (s.header i) + 1) (hLen w) ∧ t.on 0 F.SMW_EVT_BULK = true ∧
      ∀ a, a < State.winKey (slotBase i) ∨ State.winKey (slotBase i) + 4 ≤ a → t.byte a = s.byte a)) ∧
    (slotIndex i = true → s.own i = 2 → Yields (.slotTake i) s (fun t =>
      t.header i = mkHeader 3 (hSeq (s.header i)) 0 ∧ StoresAt (State.winKey (slotBase i)) 4 s t))

/-- For a word offset of the window inside a slot's payload: a host write to a slot that is not device-owned stores the
word and nothing else; to a device-owned slot it stores nothing and sets SMW_ERR.PAYLOAD_DROP. A host read of a
payload word of a device-owned slot returns the word, increments SMW_EARLY_READ.COUNT up to its maximum, notes the
slot, and changes no byte. A read that meets an uncorrectable error sets SMW_ERR.ECC_UNCORR; one that meets a
correctable error sets ECC_CORR and the error is gone (errors and what they leave in a word are the model's, log entry
116). (R110, R111) -/
def Obligations.WindowPayloadAccess : Prop :=
  ∀ (s : State) (r : Requester) (o i : Nat) (v : Word), hostView r = true → o % 4 = 0 → o < 0x100000 →
    slotAt o = some i → o ≠ slotBase i →
    (s.own i ≠ 2 → Yields (.payloadWrite r o v) s (fun t =>
      t.mword (State.winKey o) = v ∧ StoresAt (State.winKey o) 4 s t)) ∧
    (s.own i = 2 → Yields (.payloadWrite r o v) s (fun t =>
      t.mem = s.mem ∧ t.on 0 F.SMW_ERR_PAYLOAD_DROP = true)) ∧
    (s.own i = 2 → Yields (.earlyRead r o) s (fun t =>
      t.hpiOut = [s.mword (State.winKey o)] ∧
      t.rd 0 F.SMW_EARLY_READ_COUNT = min 65535 (s.rd 0 F.SMW_EARLY_READ_COUNT + 1) ∧
      t.rd 0 F.SMW_EARLY_READ_LAST_SLOT = i % 256 ∧ Keeps s t)) ∧
    (s.eccAt (State.winKey o) = some true → Yields (.earlyRead r o) s (fun t =>
      t.on 0 F.SMW_ERR_ECC_UNCORR = true ∧ t.upsets = s.upsets ∧ Keeps s t)) ∧
    (s.eccAt (State.winKey o) = some false → Yields (.earlyRead r o) s (fun t =>
      t.on 0 F.SMW_ERR_ECC_CORR = true ∧ t.eccAt (State.winKey o) = none ∧ Keeps s t))

/-- While the lead die executes firmware or the recovery service, STATUS_BLOCK_UPDATE writes the identifier word, the word
of the life-cycle state, status code and role, and the next package log entry number, leaves the heartbeat word and
every byte outside the block as it was; STATUS_HEARTBEAT adds one to word 6 and stores nothing else. (R114) -/
def Obligations.StatusBlockKept : Prop :=
  ∀ (s : State), s.leadAlive = true →
    Yields .statusBlockUpdate s (fun t =>
      t.mword (State.winKey 0) = BitVec.ofNat 32 0x4E445357 ∧
      t.mword (State.winKey 8) = BitVec.ofNat 32 (s.bootMode + 16 * s.lifeState + 256 * s.statCode + 2048 * s.role) ∧
      t.mword (State.winKey 24) = s.mword (State.winKey 24) ∧
      t.mword (State.winKey 28) = BitVec.ofNat 32 (s.logs.get 0).next ∧
      (∀ a, a < State.winKey 0 ∨ State.winKey 0 + 72 ≤ a → t.byte a = s.byte a) ∧ t.pending = s.pending) ∧
    Yields .statusHeartbeat s (fun t =>
      t.mword (State.winKey 24) = s.mword (State.winKey 24) + 1 ∧ StoresAt (State.winKey 24) 4 s t)

/-- With the port enabled: an aligned one-word read of a slot's header without a memory error returns it and changes
nothing else; a misaligned read returns zeros in every word and sets MISALIGN only; an aligned one-word write of a
payload word of a slot that is not device-owned stores that word only; a misaligned write changes nothing but
MISALIGN; a write cut short inside a word discards that word and sets SHORT; opcode 0x05 returns HPI_STAT with IRQ set
exactly when an enabled SMW_EVT bit is set; an opcode that is none of the three sets BAD_OPC only. (R126, R481, R128) -/
def Obligations.HostPortTransactions : Prop :=
  ∀ (s : State) (i o n addr : Nat) (ws : List Word) (short : Bool) (v : Word) (op : Byte), s.on 0 F.HPI_CTRL_EN = true →
    (slotIndex i = true → s.eccAt (State.winKey (slotBase i)) = none → Yields (.hpiReadWords (slotBase i) 1) s (fun t => t = { s with hpiOut := [s.header i] })) ∧
    (addr % 4 ≠ 0 → Yields (.hpiReadWords addr n) s (fun t =>
      t = { s.wr 0 F.HPI_STAT_MISALIGN 1 with hpiOut := List.replicate n 0 })) ∧
    (addr % 4 ≠ 0 → Yields (.hpiWriteWords addr ws short) s (fun t => t = s.wr 0 F.HPI_STAT_MISALIGN 1)) ∧
    (o % 4 = 0 → o < 0x100000 → slotAt o = some i → o ≠ slotBase i → s.own i ≠ 2 →
      Yields (.hpiWriteWords o [v] false) s (fun t => t.mword (State.winKey o) = v ∧ StoresAt (State.winKey o) 4 s t)) ∧
    (addr % 4 = 0 → Yields (.hpiWriteWords addr [] true) s (fun t => t = s.wr 0 F.HPI_STAT_SHORT 1)) ∧
    Yields .hpiReadStat s (fun t => ∃ w : Word, t = { s with hpiOut := [w] } ∧
      (w.getLsbD 0 = true ↔
        s.word (fldAddr 0 F.SMW_EVT_ERR 0 0) &&& s.word (fldAddr 0 F.SMW_IEN_EN 0 0) ≠ 0) ∧
      w.getLsbD 3 = s.on 0 F.HPI_STAT_MISALIGN) ∧
    (op ≠ 0x3B → op ≠ 0x32 → op ≠ 0x05 → Yields (.badOpc op) s (fun t => t = s.wr 0 F.HPI_STAT_BAD_OPC 1))

/-- For each operation of the engine's table, asked for by a requester that has a partition: with a root secret and fewer
than eight requests waiting, the request goes to the end of the queue with its operation code and the requester's
operand registers, and KEY_OPRES.QUEUED is set; with eight waiting, the queue stays and KEY_OPRES shows DONE with
BUSY; without a root secret, DONE with WRONG_STATE. No other register, no byte of memory and no slot changes.
Requesters without a partition change nothing but the event log. (R35, R92, R93, R103) -/
def Obligations.KeyRequestTaken : Prop :=
  ∀ (s : State) (r : Requester) (w : Word) (e : Nat × Instr),
    e ∈ [(0x0, .enc r w), (0x1, .dec r w), (0x2, .cmac r w), (0x3, .cmacChk r w), (0x4, .sign r w), (0x5, .ecdh r w),
         (0x6, .wrap r w), (0x7, .unwrap r w), (0x8, .derive r w), (0x9, .migrate r w), (0xA, .genkey r w),
         (0xB, .pubkey r w), (0xC, .sha256 r w), (0xD, .sha384 r w), (0xE, .verify r w), (0xF, .random r w)] →
    ((partition r).isSome = true →
      (s.keys.root.isSome = true → s.keys.queue.length < 8 → Yields e.2 s (fun t =>
        t.keys.queue = s.keys.queue ++ [s.keyReq r e.1 w.toNat] ∧
        t.opReg (keyBank r) 5 = s.opReg (keyBank r) 5 ||| 0x200 ∧
        t.keys.cache = s.keys.cache ∧ t.regs = s.regs ∧ Keeps s t)) ∧
      (s.keys.root.isSome = true → 8 ≤ s.keys.queue.length → Yields e.2 s (fun t =>
        t.keys.queue = s.keys.queue ∧ t.opReg (keyBank r) 5 = 0x106 ∧ t.regs = s.regs ∧ Keeps s t)) ∧
      (s.keys.root.isSome = false → Yields e.2 s (fun t =>
        t.keys.queue = s.keys.queue ∧ t.opReg (keyBank r) 5 = 0x103 ∧ t.regs = s.regs ∧ Keeps s t))) ∧
    ((partition r).isSome = false → Yields e.2 s (fun t =>
      t.keys = s.keys ∧ t.regs = s.regs ∧ Keeps s t))

/-- With no operation running and a request that the arbiter picks: KEY_OP_START takes one request off the queue; every
waiting request ranks no better than it; when its checks pass (for a draw after the source's test has run again where
ENTROPY_OK is clear, log entry 17) it runs with the key that its slot holds at that moment and QUEUED clears; when
they fail nothing runs and KEY_OPRES shows DONE with the verdict. With an operation running, or nothing waiting,
nothing changes: an operation is not preempted. No byte of memory changes. (R35, R93) -/
def Obligations.KeyRequestOrder : Prop :=
  ∀ (s : State),
    (∀ q, s.keys.running = none → nextReq s.keys.queue = some q →
      (q ∈ s.keys.queue ∧ ∀ x ∈ s.keys.queue, keyRank q ≤ keyRank x) ∧
      ((s.entropyRetest q).reqVerdict q = 0 → Yields .keyOpStart s (fun t =>
        t.keys.running = some (q, (s.slotKey q.slot).getD []) ∧ t.keys.queue = s.keys.queue.erase q ∧
        t.opReg (keyBank q.who) 5 = s.opReg (keyBank q.who) 5 &&& 0xFFFFFDFF ∧ Keeps s t)) ∧
      ((s.entropyRetest q).reqVerdict q ≠ 0 → Yields .keyOpStart s (fun t =>
        t.keys.running = none ∧ t.keys.queue = s.keys.queue.erase q ∧
        t.opReg (keyBank q.who) 5 = BitVec.ofNat 32 ((s.entropyRetest q).reqVerdict q + 0x100) ∧ Keeps s t))) ∧
    (s.keys.running.isSome = true ∨ s.keys.queue = [] → Yields .keyOpStart s (fun t => t = s))

/-- When the running operation ends, nothing runs, the queue is as before and KEY_OPRES of its requester shows DONE with
the engine's status. A DEC whose tag check fails ends with BAD_TAG and its LEN output bytes read zero, nothing else in
memory changed; a CMAC puts its 16 tag bytes at the destination and nothing else; a SHA256 its 32 digest bytes. (R103, R105) -/
def Obligations.KeyOperationEnd : Prop :=
  ∀ (s : State) (q : KeyReq) (key : List Byte), s.keys.running = some (q, key) →
    (let z : State := { s with keys := { s.keys with running := none } }
     Yields .keyOpDone s (fun t => t.keys.running = none ∧ t.keys.queue = s.keys.queue ∧
      t.opReg (keyBank q.who) 5 = BitVec.ofNat 32 ((z.engine q key).1 + 0x100) ∧ t.pending = s.pending)) ∧
    (∀ k l x, q.op = 1 → bufKey (whoDie q.who) q.dst q.len = some k →
      s.bufGet (whoDie q.who) q.src (q.aad + q.len) = some l → s.bufGet (whoDie q.who) q.aux 28 = some x →
      (Config.gcmTag key (x.take 12) (l.take q.aad) (l.drop q.aad)).toList ≠ x.drop 12 →
      Yields .keyOpDone s (fun t => t.opReg (keyBank q.who) 5 = 0x101 ∧ t.bytes k q.len = List.replicate q.len 0 ∧
        StoresAt k q.len s t)) ∧
    (∀ k l, q.op = 2 → bufKey (whoDie q.who) q.dst 16 = some k → s.bufGet (whoDie q.who) q.src q.len = some l →
      Yields .keyOpDone s (fun t => t.opReg (keyBank q.who) 5 = 0x100 ∧
        t.bytes k 16 = (Config.aesCmac key l).toList ∧ StoresAt k 16 s t)) ∧
    (∀ k l, q.op = 0xC → bufKey (whoDie q.who) q.dst 32 = some k → s.bufGet (whoDie q.who) q.src q.len = some l →
      Yields .keyOpDone s (fun t => t.opReg (keyBank q.who) 5 = 0x100 ∧
        t.bytes k 32 = (Config.sha256 l).toList ∧ StoresAt k 32 s t))

/-- A requester with the right to write keys: when the verdict on slot n is OK, KEY_WRITE makes the slot VALID, owned by
the requester's partition, with the key KEY_WDATA held, and KEY_ERASE clears the slot's attributes and key, but for
the OWNER that the first write gave a slot from 48 on; when the verdict is another status, the slot's attributes stay
and the status shows in the requester's KEY_OPRES. Both leave KEY_WDATA zero. A HOST requester that is not a machine-
mode core of the lead die changes no register, no key and no byte: the access is logged. (R95, R97, R92, R94) -/
def Obligations.KeySlotsWritten : Prop :=
  ∀ (s : State) (r : Requester) (p : Nat) (cmd : Word), partition r = some p →
    (let n := bitsOf cmd.toNat 0 6
     let ask := bitsOf (s.word (fldAddr 0 F.KEY_WATTR 0 0)).toNat 4 2
     let alg := bitsOf (s.word (fldAddr 0 F.KEY_WATTR 0 0)).toNat 16 2
     (p = 0 → leadMachine r = true) →
      (s.slotVerdict p n ask = 0 → Yields (.keyWrite r cmd) s (fun t =>
        t.on 0 F.KEY_SLOT_ATTR_VALID n = true ∧ t.rd 0 F.KEY_SLOT_ATTR_OWNER n = p ∧
        t.slotKey n = some (s.keyData (algLen alg)) ∧ t.word (fldAddr 0 F.KEY_WDATA 0 0) = 0 ∧ Keeps s t)) ∧
      (s.slotVerdict p n 4 = 0 → Yields (.keyErase r cmd) s (fun t =>
        t.slotAttr n = (if 48 ≤ n then (s.ownedBy n).getD 0 * 16 else 0) % 2 ^ 32 ∧ t.slotKey n = none ∧ t.word (fldAddr 0 F.KEY_WDATA 0 0) = 0 ∧ Keeps s t)) ∧
      (s.slotVerdict p n ask ≠ 0 → Yields (.keyWrite r cmd) s (fun t =>
        t.slotAttr n = s.slotAttr n ∧ t.keys.cache = s.keys.cache ∧
        (t.opReg (keyBank r) 5).toNat % 256 = s.slotVerdict p n ask ∧ Keeps s t)) ∧
      (s.slotVerdict p n 4 ≠ 0 → Yields (.keyErase r cmd) s (fun t =>
        t.slotAttr n = s.slotAttr n ∧ t.keys.cache = s.keys.cache ∧
        (t.opReg (keyBank r) 5).toNat % 256 = s.slotVerdict p n 4 ∧ Keeps s t))) ∧
    (p = 0 → leadMachine r = false →
      Yields (.keyWrite r cmd) s (fun t => t.regs = s.regs ∧ t.keys = s.keys ∧ Keeps s t) ∧
      Yields (.keyErase r cmd) s (fun t => t.regs = s.regs ∧ t.keys = s.keys ∧ Keeps s t))

/-- With fewer than two earlier failures in the last second, ENTROPY_TEST_FAIL clears KEY_STAT.ENTROPY_OK, notes the time
and changes no other register. A draw that runs ends with BUSY. While ENTROPY_OK is clear and a root secret stands,
the verdict on RANDOM is BUSY. (R104) -/
def Obligations.EntropyTestFails : Prop :=
  ∀ (s : State) (k : Nat) (q : KeyReq),
    ((s.keys.entropyFails.filter (fun t => s.now - t < 1000000000)).length < 2 → Yields (.entropyTestFail k) s (fun t =>
      t.on 0 F.KEY_STAT_ENTROPY_OK = false ∧ OnlyRegs [fldAddr 0 F.KEY_STAT_ENTROPY_OK 0 0] s t ∧
      ∀ x, s.keys.running = some (q, x) → draws q = true → t.keys.running = none ∧ t.opReg (keyBank q.who) 5 = 0x106)) ∧
    (s.keys.root.isSome = true → s.on 0 F.KEY_STAT_ENTROPY_OK = false → q.op = 0xF → s.reqVerdict q = 6)

/-- In State.reset every register of the map reads the reset value of the map, every byte reads 0, each die is in the
wipe, every port's INH is driven by the reset cause, no power-down runs and nothing waits. Registers and memories
whose reset value the spec leaves open stand at the values that log entry 2 and log entry 7 name. (R20, R21, R65) -/
def Obligations.ResetState : Prop :=
  (∀ a, State.reset.word a = resetWord a) ∧ (∀ k, State.reset.byte k = 0) ∧
  (∀ d, State.reset.pkg.die.get d = .wiping) ∧ (∀ p, State.reset.inhBy p Inh.reset = true) ∧
  State.reset.pkg.pd = .none ∧ State.reset.keys.root = none ∧ State.reset.pending = []

/-- Where the site changes that wait for such a start are of parameter 16: afterwards every register listed PWR, DIE or
BLK whose reset value is not the persistent one reads its reset value (ADC_STAT and ADC_ROT_STAT of a die only while
none of its lanes is retired, as log entry 113 says); every die is where its retirement and presence put it; the host
SRAM of every die and the shared window read zero; the root secret, the images and the retirement of the chip's
regions stay; the key-store queue is empty; the commands waiting stay. (R20, R21, R62) -/
def Obligations.PwrResetEffect : Prop :=
  ∀ (s : State) (c : Instr), c ∈ [Instr.nresetIn, Instr.supplyReset] → (∀ e ∈ s.meter.pendSite, e.1 / 256 = 16) →
    Yields c s (fun t =>
    (∀ a r i j, findReg a = some (r, i, j) → r.dom ≠ .keep → r.kept = 0 →
      (∀ (d : Fin 8) (k : Fin 3), (a = fldAddr d F.ADC_STAT 0 0 ∨ a = fldAddr d F.ADC_ROT_STAT 0 0) →
        s.on d F.ADC_LANE_CAL_RETIRED k = false) → t.word a = resetWord a) ∧
    (∀ d, t.pkg.die.get d = t.afterReset d) ∧ t.pkg.pd = .none ∧ t.keys.root = s.keys.root ∧ t.keys.queue = [] ∧
    t.lcs.images = s.lcs.images ∧
    (∀ (d : Fin 8) a, 0x10000000 ≤ a → a < 0x10200000 → t.byte (sramKey d a) = 0) ∧
    (∀ a, 0x30000000 ≤ a → a < 0x30100000 → t.byte a = 0) ∧ t.pending = s.pending)

/-- POWER_ON ends with MAINS_OK set, MAINS_LOST and HOLDUP_READY clear, AC_INPUT and UNIT as sampled; the root secret
stays unless both cells were lost, when it is gone with KEY_TAMPER.KEEP_LOSS set. SOFTWARE_DIE_RESET of a die that is
not off puts it in the wipe (or off where it is out of service), returns each of its registers listed DIE or BLK whose
reset value is not persistent (ADC_STAT and ADC_ROT_STAT while none of its lanes is retired), shows in THM_EVT.SD
whether it ended a thermal shut-down, zeroes its host SRAM and keeps every other die's; of a die that is off, nothing
changes. (R20, R21, R64, R91) -/
def Obligations.PowerOnAndDieReset : Prop :=
  ∀ (s : State) (lost ac b : Bool) (n : Nat) (d : Fin 8),
    Yields (.powerOn lost ac b n) s (fun t =>
      t.on pkgDie F.PKG_PWR_MAINS_OK = true ∧ t.on pkgDie F.PKG_PWR_MAINS_LOST = false ∧
      t.on pkgDie F.PKG_PWR_HOLDUP_READY = false ∧ t.on pkgDie F.PKG_PWR_AC_INPUT = ac ∧
      t.on 0 F.TWN_STAT_UNIT = b ∧ (lost = false → t.keys.root = s.keys.root) ∧
      (lost = true → t.keys.root = none ∧ t.on 0 F.KEY_TAMPER_KEEP_LOSS = true)) ∧
    (s.pkg.die.get d ≠ .off → Yields (.softwareDieReset d) s (fun t =>
      t.pkg.die.get d = t.afterReset d ∧ (∀ e, e ≠ d → t.pkg.die.get e = s.pkg.die.get e) ∧
      (∀ a r i j, findReg a = some (r, i, j) → regAddr d 0 ≤ a → a < regAddr d 0 + 0x1000000 →
        (r.dom = .die ∨ r.dom = .blk) → r.kept = 0 →
        ((a = fldAddr d F.ADC_STAT 0 0 ∨ a = fldAddr d F.ADC_ROT_STAT 0 0) →
          ∀ k : Fin 3, s.on d F.ADC_LANE_CAL_RETIRED k = false) → t.word a = resetWord a) ∧ t.on d F.THM_EVT_SD = s.thermalDown d ∧
      (∀ a, 0x10000000 ≤ a → a < 0x10200000 → t.byte (sramKey d a) = 0) ∧
      (∀ (e : Fin 8) a, e ≠ d → 0x10000000 ≤ a → a < 0x10200000 → t.byte (sramKey e a) = s.byte (sramKey e a)))) ∧
    (s.pkg.die.get d = .off → Yields (.softwareDieReset d) s (fun t => t = s))

/-- MAINS_LOSS sets MAINS_LOST and MAINS_LOSS_EVT, changes no other register than PKG_PWR, no memory and no stage of the
power-down, and gives a linked twin its notice. MAINS_RETURN before PWR_DOWN sets MAINS_RETURN_EVT and clears
MAINS_LOST; after it, it is only remembered until the commit, and after the commit makes a PWR reset. PWR_DOWN drives
INH and the halt of every port of every die in use; the release drops every safety output and channel; the removal
takes every die's power with the meter untouched; the commit stops the meter head and gives a linked twin the final
notice. (R51, R52, R53, R54) -/
def Obligations.MainsSequence : Prop :=
  ∀ (s : State) (lvl : Byte),
    (s.pkg.pd = .none → s.on pkgDie F.PKG_PWR_MAINS_LOST = false → Yields .mainsLoss s (fun t =>
      t.on pkgDie F.PKG_PWR_MAINS_LOST = true ∧ t.on pkgDie F.PKG_PWR_MAINS_LOSS_EVT = true ∧
      t.pkg = s.pkg ∧ OnlyRegs [fldAddr pkgDie F.PKG_PWR_MAINS_LOST 0 0] s t ∧
      (s.linkUp = true → t.twin.lossNotice = true))) ∧
    (s.pkg.pd = .none → s.on pkgDie F.PKG_PWR_MAINS_LOST = true → Yields .mainsReturn s (fun t =>
      t.on pkgDie F.PKG_PWR_MAINS_LOST = false ∧ t.on pkgDie F.PKG_PWR_MAINS_RETURN_EVT = true ∧
      t.pkg = s.pkg ∧ OnlyRegs [fldAddr pkgDie F.PKG_PWR_MAINS_LOST 0 0] s t)) ∧
    (s.pkg.pd = .asserted ∨ s.pkg.pd = .released ∨ s.pkg.pd = .removed →
      Yields .mainsReturn s (fun t => t = { s with pkg := { s.pkg with mainsBack := true } })) ∧
    (s.pkg.pd = .committed → Yields .mainsReturn s (fun t =>
      t.pkg.pd = .none ∧ t.on pkgDie F.PKG_PWR_MAINS_OK = true ∧ ∀ d, t.pkg.die.get d = t.afterReset d)) ∧
    (s.pkg.pd = .none → Yields (.pwrDown lvl) s (fun t =>
      t.pkg.pd = .asserted ∧ t.rd pkgDie F.PKG_PWR_HOLDUP_LVL = lvl.toNat ∧
      ∀ (d : Fin 8) (k : Fin 4), s.dieUsed d = true →
        t.inhBy (portOf d k) Inh.pwrDown = true ∧ t.on d F.STL_P_HALT_HALTED k = true)) ∧
    (s.pkg.pd = .asserted → Yields .pwrDownOutputRelease s (fun t => t.pkg.pd = .released ∧
      ∀ (d : Fin 8), s.dieUsed d = true → (∀ k : Fin 4, t.rd d F.SAF_OUT_CMD k = 0) ∧
        ∀ n : Fin 12, t.on d F.LSW_CH_STAT_OUT n = false)) ∧
    (s.pkg.pd = .released → Yields .pwrDownPowerRemoval s (fun t => t.pkg.pd = .removed ∧
      (∀ d, t.pkg.die.get d = .off) ∧ t.meter = s.meter ∧ t.keys = s.keys ∧ t.mem = s.mem)) ∧
    (s.pkg.pd = .removed → s.pkg.mainsBack = false → Yields .holdupCommit s (fun t =>
      t.pkg.pd = .committed ∧ t.meter.running = false ∧ t.keys.root = s.keys.root ∧ t.mem = s.mem ∧
      (s.linkUp = true → t.twin.finalNotice = true)))

/-- HOLDUP_READY sets its bit and level; its timeout without it enters the chip fault response (or retires the chip). A
battery measurement writes both levels with their low bits below 125 (2.5 V). A rail event sets its bit, clears
V24_OK, sets V24_EVT and, on every die in use, RAIL_OFF of every channel; the end of an undervoltage with no
overvoltage sets V24_OK and clears RAIL_OFF; the same for an overvoltage. REVERSE and GND_LOST set their bit and
RAIL_OFF on every die in use. (R55, R57, R58, R428, R462) -/
def Obligations.SupplyMonitors : Prop :=
  ∀ (s : State) (lvl v1 v2 : Byte),
    (s.pkg.pd = .none → s.pkg.die.get 0 ≠ .off → Yields (.holdupReady lvl) s (fun t =>
      t.on pkgDie F.PKG_PWR_HOLDUP_READY = true ∧ t.rd pkgDie F.PKG_PWR_HOLDUP_LVL = lvl.toNat ∧ t.mem = s.mem)) ∧
    (s.on pkgDie F.PKG_PWR_HOLDUP_READY = false → s.pkg.die.get 0 ≠ .off → Yields .holdupTimeout s (fun t =>
      (t.faults.chipResp = true ∨ t.faults.chipRetired = true) ∧ t.mem = s.mem)) ∧
    Yields (.batteryMeasurement v1 v2) s (fun t =>
      t.rd pkgDie F.PKG_BAT_VBAT1 = v1.toNat ∧ t.rd pkgDie F.PKG_BAT_VBAT2 = v2.toNat ∧
      (t.on pkgDie F.PKG_BAT_BAT1_LOW = true ↔ v1.toNat < 125) ∧ (t.on pkgDie F.PKG_BAT_BAT2_LOW = true ↔ v2.toNat < 125) ∧
      WritesOnly [fldAddr pkgDie F.PKG_BAT_VBAT1 0 0] s t) ∧
    (∀ e ∈ [(Instr.railUndervoltage, F.PKG_PWR_V24_UV), (Instr.railOvervoltage, F.PKG_PWR_V24_OV)],
      s.on pkgDie e.2 = false → Yields e.1 s (fun t =>
        t.on pkgDie e.2 = true ∧ t.on pkgDie F.PKG_PWR_V24_OK = false ∧ t.on pkgDie F.PKG_PWR_V24_EVT = true ∧
        ∀ (d : Fin 8) (n : Fin 12), s.dieUsed d = true → t.on d F.LSW_CH_STAT_RAIL_OFF n = true)) ∧
    (s.on pkgDie F.PKG_PWR_V24_OV = false → Yields .railUndervoltageEnd s (fun t =>
      t.on pkgDie F.PKG_PWR_V24_UV = false ∧ t.on pkgDie F.PKG_PWR_V24_OK = true ∧
      ∀ (d : Fin 8) (n : Fin 12), s.dieUsed d = true → t.on d F.LSW_CH_STAT_RAIL_OFF n = false)) ∧
    (s.on pkgDie F.PKG_PWR_V24_UV = false → Yields .railOvervoltageEnd s (fun t =>
      t.on pkgDie F.PKG_PWR_V24_OV = false ∧ t.on pkgDie F.PKG_PWR_V24_OK = true)) ∧
    (∀ e ∈ [(Instr.reversePolarity, F.LSW_RAIL_REVERSE), (Instr.gndLost, F.LSW_RAIL_GND_LOST)],
      Yields e.1 s (fun t => ∀ (d : Fin 8), s.dieUsed d = true → t.on d e.2 = true ∧
        ∀ n : Fin 12, t.on d F.LSW_CH_STAT_RAIL_OFF n = true))

/-- ROOT_LOCK_LOSS drives INH by its own cause and the halt on every port of every die in use. TAMPER leaves no root
secret and an empty slot cache, sets the cause in KEY_TAMPER and clears KEEP's time; on an unpowered module nothing
else happens but that the entry waits for the next start; on a powered one no key operation runs or waits. (R18, R90) -/
def Obligations.RootLockAndTamper : Prop :=
  ∀ (s : State) (c : TamperCause),
    Yields .rootLockLoss s (fun t => t.pkg.rootLock = false ∧ t.mem = s.mem ∧
      ∀ (d : Fin 8) (k : Fin 4), s.dieUsed d = true →
        t.inhBy (portOf d k) Inh.rootLock = true ∧ t.on d F.STL_P_HALT_HALTED k = true) ∧
    (s.pkg.die.get 0 = .off → Yields (.tamper c) s (fun t =>
      t.keys.root = none ∧ t.keys.cache = [] ∧ t.on 0 (tamperFld (some c)) = true ∧ t.rd 0 F.TSU_RTC_SEC = 0 ∧
      t.pkg.tamperPend = s.pkg.tamperPend ++ [some c] ∧ t.meter = s.meter ∧ Keeps s t)) ∧
    (s.pkg.die.get 0 ≠ .off → Yields (.tamper c) s (fun t =>
      t.keys.root = none ∧ t.keys.cache = [] ∧ t.on 0 (tamperFld (some c)) = true ∧
      t.keys.running = none ∧ t.keys.queue = [] ∧ t.pending = s.pending))

/-- With a restart due that carries a new life-cycle state: afterwards none is due, the life-cycle state is the new one,
the wipe mask is empty and WIPE_PEND clear, the lead die is in the wipe or off as its service puts it, and the waiting
commands stay. With none due, nothing changes. (R80, R84, R85) -/
def Obligations.LifeCycleRestartEffect : Prop :=
  ∀ (s : State) (r : Restart) (n : Nat), n < 8 →
    (s.lcs.restart = some r → r.newState = some n → s.pkg.die.get 0 ≠ .off → Yields .lifeCycleRestart s (fun t =>
      t.lcs.restart = none ∧ t.lifeState = n ∧ t.lcs.wipeMask = 0 ∧ t.on 0 F.LCS_STATE_WIPE_PEND = false ∧
      t.pkg.die.get 0 = t.afterReset 0 ∧ t.pending = s.pending)) ∧
    (s.lcs.restart = none → Yields .lifeCycleRestart s (fun t => t = s))

/-- A die leaves the wipe into its boot ROM, reports its images, and is released at a site tick; a shut-down die recovers (R21, R34, R65, R72, R308, R430, R432) -/
def Obligations.StartSequence : Prop :=
  ∀ (s : State) (d : Fin 8),
    (s.pkg.die.get d = .wiping → Yields (.resetWipeDone d) s (fun t =>
      (∀ a, 0x10000000 ≤ a → a < 0x10200000 → t.byte (sramKey d a) = 0) ∧
      (∀ e, e ≠ d → t.pkg.die.get e = s.pkg.die.get e) ∧
      (d = 0 → t.pkg.die.get d = .boot ∧ t.on pkgDie F.PKG_DIES_LEAD_OK = false) ∧
      (d ≠ 0 → 2 ≤ laneCount (s.xlkLanes d) → t.pkg.die.get d = .boot ∧ t.lcs.reported.get d = false) ∧
      (d ≠ 0 → laneCount (s.xlkLanes d) < 2 → RegionFaulted d t))) ∧
    (s.pkg.die.get d ≠ .wiping → Yields (.resetWipeDone d) s (fun t => t = s)) ∧
    (d ≠ 0 → s.pkg.die.get d = .boot → s.pkg.die.get 0 = .running → 2 ≤ laneCount (s.xlkLanes d) →
      ((∀ c, c < 6 → reportOf (s.image d s.measBank c) = reportOf (s.image 0 s.measBank c)) →
        Yields (.portDieMeasurementReport d) s (fun t =>
          t = { s with lcs := { s.lcs with reported := s.lcs.reported.set d true } })) ∧
      Yields (.portDieMeasurementReport d) s (fun t =>
        ((∀ c, c < 6 → reportOf (s.image d s.measBank c) = reportOf (s.image 0 s.measBank c)) ∧ t.lcs.reported.get d = true) ∨
        (s.lcs.mismatches.get d = 0 ∧ (∀ c, c < 6 → t.image d s.measBank c = s.image 0 s.measBank c) ∧
          t.lcs.mismatches.get d = 1 ∧ t.lcs.reported = s.lcs.reported ∧ t.regs = s.regs ∧ Keeps s t) ∨
        (s.lcs.mismatches.get d ≠ 0 ∧ RegionFaulted d t))) ∧
    (s.leadRuns = true → s.rd 0 F.TSU_GRID = 0 →
      (s.on pkgDie F.PKG_DIES_LEAD_OK = true ∨ ∀ e : Fin 8, e ≠ 0 → s.dieUsed e = true → s.faults.regionResp.get e = false →
        s.pkg.die.get e ≠ .wiping ∧ (s.pkg.die.get e = .boot → s.lcs.reported.get e = true)) →
      Yields .portDieRelease s (fun t => t.on pkgDie F.PKG_DIES_LEAD_OK = true ∧
        (d ≠ 0 → s.dieUsed d = true → s.pkg.die.get d = .boot → s.lcs.reported.get d = true →
          t.pkg.die.get d = .running ∧ t.on d F.XLK_STAT_UP = decide (2 ≤ laneCount (s.xlkLanes d)) ∧
          t.rd d F.TSU_NS = s.rd 0 F.TSU_NS ∧ t.rd d F.TSU_TICK = s.rd 0 F.TSU_TICK ∧ t.rd d F.TSU_GRID = 0))) ∧
    (∀ v : Vector (BitVec 16) 4, s.pkg.die.get d = .thermal →
      (∀ k : Fin 4, sens (v.get k) < s.thmLevel d 2 - s.thmHyst d 2) →
      ((s.lsw.get d).downs.length < 3 →
        Yields (.shutdownRecovery d v) s (fun t => t.pkg.die.get d = t.afterReset d)) ∧
      (3 ≤ (s.lsw.get d).downs.length →
        Yields (.shutdownRecovery d v) s (fun t =>
          t.pkg.die.get d = .off ∧ t.bit pkgDie F.PKG_DIES_LATCHED_OFF d.val = true)))

/-- With the lead die in its boot ROM before the choice, in a state other than RETIRED: METER_HEAD_START starts the head
exactly when a METER image verifies, from the selected bank when its image does and else from the other. With the
meter running and the chip not retired, BOOT_SET_CHOICE runs the selected bank's set when a certificate covers it;
else the other bank's, with FALLBACK set; else it enters HOLD, with INH driven by HOLD and the safety outputs released
on every die in use. After the choice, or in another state of the die, neither command changes anything. (R66, R74, R75, R76, R77) -/
def Obligations.SetChoice : Prop :=
  ∀ (s : State),
    (s.pkg.die.get 0 = .boot → s.pkg.booted = false → s.lifeState ≠ 4 →
      (s.meter.running = false → Yields .meterHeadStart s (fun t =>
        t.meter.running = (s.verified 0 s.selBank 3 || s.verified 0 (1 - s.selBank) 3) ∧
        (t.meter.running = true → t.on 0 F.LCS_BOOT_METER_RUN = true ∧ t.meter.energy = t.meter.q0 ∧ (s.meter.journal = none → t.meter.q0 = s.meter.q0) ∧
          t.rd 0 F.LCS_BOOT_METER_BANK = if s.verified 0 s.selBank 3 then s.selBank else 1 - s.selBank) ∧ Keeps s t)) ∧
      (s.meter.running = true → s.faults.chipRetired = false → Yields .bootSetChoice s (fun t =>
        t.pkg.booted = true ∧ Keeps s t ∧
        match s.coverOf s.selBank, s.coverOf (1 - s.selBank) with
        | some i, _ => t.pkg.die.get 0 = .running ∧ t.rd 0 F.LCS_BOOT_SET_BANK = s.selBank ∧ t.rd 0 F.LCS_BOOT_CERT_IDX = i
        | none, some i => t.pkg.die.get 0 = .running ∧ t.rd 0 F.LCS_BOOT_SET_BANK = 1 - s.selBank ∧
            t.rd 0 F.LCS_BOOT_CERT_IDX = i ∧ t.on 0 F.LCS_BOOT_FALLBACK = true
        | none, none => t.on 0 F.LCS_BOOT_HOLD = true ∧ t.pkg.die.get 0 = .boot ∧
            ∀ (d : Fin 8) (k : Fin 4), s.dieUsed d = true →
              t.inhBy (portOf d k) Inh.hold = true ∧ t.rd d F.SAF_OUT_CMD k = 0))) ∧
    (s.pkg.die.get 0 ≠ .boot ∨ s.pkg.booted = true →
      Yields .meterHeadStart s (fun t => t = s) ∧ Yields .bootSetChoice s (fun t => t = s))

/-- A trial confirmed or ended, the extension of MREG7, the report of the checks and the opening of the slots (R71, R83, R85, R99) -/
def Obligations.TrialAndStaging : Prop :=
  ∀ (s : State) (r : Requester) (d : Fin 8) (c : Fin 2) (u : Bool) (v : Word),
    (s.on 0 F.LCS_BOOT_TRIAL = true → s.leadRuns = true → s.lcs.restart = none →
      Yields (.lcsConfirm (.app d c u) 0x434F4E46) s (fun t =>
        t.rd 0 F.LCS_BANK_ACTIVE = s.rd 0 F.LCS_BANK_PEND_BANK ∧ t.on 0 F.LCS_BANK_PENDING = false ∧
        t.on 0 F.LCS_BOOT_TRIAL = false ∧ t.lcs.trialRec = false ∧ Keeps s t ∧
        ∀ k, k < 6 → bitsOf (s.rd 0 F.LCS_FLOOR_FLOOR) (4 * k) 4 ≤ bitsOf (t.rd 0 F.LCS_FLOOR_FLOOR) (4 * k) 4 ∧
          (s.verified 0 (s.rd 0 F.LCS_BANK_PEND_BANK) k = true →
            imgSecVer (s.image 0 (s.rd 0 F.LCS_BANK_PEND_BANK) k) % 16 ≤ bitsOf (t.rd 0 F.LCS_FLOOR_FLOOR) (4 * k) 4))) ∧
    (v ≠ 0x434F4E46 → Yields (.lcsConfirm (.app d c u) v) s (fun t => t.regs = s.regs ∧ t.lcs = s.lcs ∧ Keeps s t)) ∧
    (s.on 0 F.LCS_BOOT_TRIAL = true → s.leadRuns = true → s.lcs.restart = none → Yields .trialWindowExpiry s (fun t =>
      (∃ x, t.lcs.restart = some x ∧ x.newState = none ∧ x.mask = 0) ∧ t.regs = s.regs ∧ Keeps s t)) ∧
    (leadMachine r = true → Yields (.mreg7Extension r v) s (fun t =>
      t.mreg 7 = (Config.sha256 (s.mreg 7 ++
        ((List.range 7).flatMap (fun k => leBytes 4 (s.rd 0 F.LCS_MREG7_EXT k)) ++ leBytes 4 v.toNat))).toList ∧
      (∀ k, k < 8 → t.rd 0 F.LCS_MREG7_EXT k = 0) ∧ Keeps s t)) ∧
    (leadMachine r = false → Yields (.mreg7Extension r v) s (fun t => t.regs = s.regs ∧ Keeps s t)) ∧
    (s.lcs.checking ≠ [] → Yields .stageCheckDone s (fun t =>
      t.lcs.checking = [] ∧ t.on 0 F.LCS_STAGED_STAGE_DONE = true ∧
      (∀ k, k < 6 → t.bit 0 F.LCS_STAGED_VALID k = s.verified 0 s.otherBank k) ∧
      t.on 0 F.LCS_STAGED_COVERED = (s.covering s.otherBank s.meterImage).isSome ∧ Keeps s t)) ∧
    (s.pkg.booted = true → Yields .slotOpen s (fun t =>
      t.on 0 F.KEY_STAT_ENTROPY_OK = true ∧ t.pkg.fresh = false ∧ Keeps s t ∧
      (s.pkg.fresh = false → s.keys.root.isSome = true → ∀ n b, 2 < n → n < 64 → blobOf s.keys.current n = some b →
        blobOf s.keys.pend n = none → blobOf t.keys.current n = some b ∧
          match openBlob (s.storageKey n b.attr.toNat b.label) b with
          | some k => t.slotKey n = some k
          | none => t.slotKey n = none ∧ t.on 0 F.KEY_SLOT_ATTR_STALE n = true)))

/-- For each row of the gate that the lead die executes and an envelope of its own that waits in its slot: a role outside
the command's row answers NOT_PERMITTED; else a lockout LOCKED; else a wrong tag BAD_TAG with no counter moved; else a
counter not above the last accepted one REPLAY with the role's run of failures cleared; else a malformed or invalid
envelope BAD_PARAM, with the counter of an authenticated one consumed; else a state that turns it away WRONG_STATE.
Each refusal is the four response words in the slot, published with its SEQ, and changes nothing of what commands act
on, but that a wrong safety password is counted and the reason of a refused calendar noted. (R117, R119, R121, R122) -/
def Obligations.GateRefusals : Prop :=
  ∀ (s : State) (k : Fin 8) (g : GateRow), g ∈ gateRows k →
    s.waiting k = true → (s.envelope k).code = g.code → g.mine (s.envelope k).params = true →
    (s.notPermitted (s.envelope k) = true → Yields g.cmd s (fun t => Refused k 5 s t ∧ ∀ i, t.lastCounter i = s.lastCounter i)) ∧
    (s.notPermitted (s.envelope k) = false →
      (s.gateLocked (s.envelope k) = true → Yields g.cmd s (fun t => Refused k 8 s t ∧ ∀ i, t.lastCounter i = s.lastCounter i)) ∧
      (s.gateLocked (s.envelope k) = false →
        ((s.envelope k).auth = true → s.tagOk (s.envelope k) = false →
          Yields g.cmd s (fun t => Refused k 1 s t ∧ ∀ i, t.lastCounter i = s.lastCounter i)) ∧
        ((s.envelope k).auth = true → s.tagOk (s.envelope k) = true →
          (s.envelope k).counter ≤ s.lastCounter (roleIdx (s.envelope k).role) →
          Yields g.cmd s (fun t => Refused k 2 s t ∧ (∀ i, t.lastCounter i = s.lastCounter i) ∧
            (t.gate.lock.get (roleIdx (s.envelope k).role)).fails = 0)))) ∧
    ((s.gateCheck (s.envelope k)).1 = 0 →
      ((s.passed k).formOk (s.envelope k) = false ∨ g.bad (s.passed k) (s.envelope k) = true →
        Yields g.cmd s (fun t => Refused k 4 ((s.passed k).blame (s.envelope k)) t ∧
          (g.code ∉ [0x0101, 0x0102, 0x0401] → Refused k 4 s t) ∧
          ((s.envelope k).auth = true → t.lastCounter (roleIdx (s.envelope k).role) = (s.envelope k).counter))) ∧
      (∀ v, (s.passed k).formOk (s.envelope k) = true → g.bad (s.passed k) (s.envelope k) = false →
        (s.passed k).turnedAway (s.envelope k) = some v → Yields g.cmd s (fun t => Refused k 3 s t)))

/-- For each row of the gate: when the envelope in slot k is the row's own, passes the checks of R117 and no state turns
it away, the command completes with the row's execution applied to the state after the checks, answered with its
verdict. (R117, R122) -/
def Obligations.GateExecutes : Prop :=
  ∀ (s : State) (k : Fin 8) (g : GateRow), g ∈ gateRows k → s.admits k g.code g.mine g.bad = true →
    Yields g.cmd s (fun t =>
      t = ((g.run (s.passed k) (s.envelope k)).2).respond (s.envelope k) (g.run (s.passed k) (s.envelope k)).1)

/-- Admitted: STATUS answers OK with the 18 words of the status block from response word 4. A read of the package log, a
die's log, its change log or its retirement records takes the items from the asked number on, as many as a bulk slot
holds: with a bulk slot free it answers OK with the slot's index and the number of items, the slot holding their words
as host-owned; with none free it answers BUSY and changes no other byte. (R114, R120, R413, R463, R466) -/
def Obligations.StatusAndLogs : Prop :=
  ∀ (s : State) (k : Fin 8),
    (s.admits k 0x0001 (fun _ => true) (fun _ e => !e.params.isEmpty) = true → Yields (.status k) s (fun t =>
      t.slotWord k 0 = 1 ∧ t.own k = 1 ∧ ∀ i, i < 18 → t.slotWord k (4 + i) = s.mword (winKey (4 * i)))) ∧
    (∀ (e : Nat × Instr), e ∈ [(0, .eventLogRead k), (1, .dieLogRead k), (2, .changeLogRead k), (3, .retirementRecordsRead k)] →
      s.admits k 0x0002 (logMine e.1) logBad = true →
      (let env := s.envelope k
       let l := ((s.passed k).logItems e.1 (((s.passed k).targetDie env).getD 0) (env.params.getD 0 0).toNat).take (logFit e.1)
       (s.nextBulk = none → Yields e.2 s (fun t => Refused k 6 s t)) ∧
       (∀ i, s.nextBulk = some i → Yields e.2 s (fun t =>
         t.slotWord k 0 = 2 ∧ t.slotWord k 4 = BitVec.ofNat 32 i ∧ t.slotWord k 5 = BitVec.ofNat 32 l.length ∧ t.own i = 1 ∧
         hLen (t.header i) = (wordsOf l.flatten).length ∧
         (∀ j, j < (wordsOf l.flatten).length → t.slotWord i j = (wordsOf l.flatten).getD j 0)))))

/-- Admitted: BEGIN of an image class makes the staging of that class and length current, leaves no image of the class in
the other bank of any die and the selected bank as it was, with its VALID bit clear. DATA with a staging open and the
named slot submitted appends the slot's bytes and frees it; otherwise it answers WRONG_STATE. END with a staging open
of an image class puts the gathered bytes there on every die, clears STAGE_DONE and names the class for its check. (R67, R83, R109) -/
def Obligations.ImageStaging : Prop :=
  ∀ (s : State) (k : Fin 8),
    (let c := ((s.envelope k).params.getD 0 0).toNat
     s.admits k 0x0010 (fun _ => true) beginBad = true → c < 6 → Yields (.imageStagingBegin k) s (fun t =>
      t.slotWord k 0 = 0x10 ∧
      t.lcs.staging = some { cls := c, len := ((s.envelope k).params.getD 1 0).toNat } ∧ t.lcs.staged = [] ∧
      (∀ d : Fin 8, t.image d s.otherBank c = []) ∧
      (∀ (d : Fin 8) c', c' < 6 → t.image d (1 - s.otherBank) c' = s.image d (1 - s.otherBank) c') ∧
      t.bit 0 F.LCS_STAGED_VALID c = false)) ∧
    (let i := ((s.envelope k).params.getD 0 0).toNat
     s.admits k 0x0011 (fun _ => true) dataBad = true →
      (s.lcs.staging.isSome = true → s.own i = 2 → Yields (.imageStagingData k) s (fun t =>
        t.slotWord k 0 = 0x11 ∧ t.lcs.staged = s.lcs.staged ++ bytesOf (s.payload i (hLen (s.header i))) ∧ t.own i = 3 ∧
        t.lcs.staging = s.lcs.staging)) ∧
      (s.lcs.staging = none ∨ s.own i ≠ 2 → Yields (.imageStagingData k) s (fun t => Refused k 3 s t))) ∧
    (∀ g, s.admits k 0x0012 (fun _ => true) endBad = true → s.lcs.staging = some g → g.cls < 6 →
      Yields (.imageStagingEnd k) s (fun t =>
        t.slotWord k 0 = 0x12 ∧ t.lcs.staging = none ∧ (∀ d : Fin 8, t.image d s.otherBank g.cls = s.lcs.staged.take g.len) ∧
        t.on 0 F.LCS_STAGED_STAGE_DONE = false ∧ t.lcs.checking = s.lcs.checking ++ [g.cls])) ∧
    (s.admits k 0x0012 (fun _ => true) endBad = true → s.lcs.staging = none →
      Yields (.imageStagingEnd k) s (fun t => Refused k 3 s t))

/-- Admitted: IMAGE_ACTIVATION answers OK exactly when nothing of R84 stands against it, with PENDING and PEND_BANK
written and a restart due without a new life-cycle state; else it is refused with WRONG_STATE. LIFE_CYCLE_CHANGE to a
state other than RETIRED whose condition holds makes a restart due with the new state and the wipe mask of R81 and
leaves the present state until then; with its condition unmet it is refused with WRONG_STATE. (R79, R80, R81, R84) -/
def Obligations.ActivationAndLifeCycle : Prop :=
  ∀ (s : State) (k : Fin 8),
    (let b := ((s.envelope k).params.getD 0 0).toNat
     s.admits k 0x0501 (fun _ => true) (oneBad 2) = true →
      ((s.passed k).activateWhy b = none → Yields (.imageActivation k) s (fun t =>
        t.slotWord k 0 = 0x0501 ∧ t.on 0 F.LCS_BANK_PENDING = true ∧ t.rd 0 F.LCS_BANK_PEND_BANK = b ∧
        t.rd 0 F.LCS_BANK_ACTIVE = s.rd 0 F.LCS_BANK_ACTIVE ∧
        (∃ r, t.lcs.restart = some r ∧ r.newState = none ∧ r.mask = 0) ∧ t.lcs.images = s.lcs.images)) ∧
      ((s.passed k).activateWhy b ≠ none → Yields (.imageActivation k) s (fun t => Refused k 3 s t))) ∧
    (let n := ((s.envelope k).params.getD 0 0).toNat
     s.admits k 0x0601 (fun _ => true) lifeBad = true →
      ((s.passed k).lifeWhy (s.envelope k) = none → n ≠ 4 → Yields (.lifeCycleChange k) s (fun t =>
        t.slotWord k 0 = 0x0601 ∧ t.lifeState = s.lifeState ∧
        (∃ r, t.lcs.restart = some r ∧ r.newState = some n ∧ r.mask = transMask s.lifeState n) ∧ t.meter = s.meter)) ∧
      ((s.passed k).lifeWhy (s.envelope k) ≠ none → Yields (.lifeCycleChange k) s (fun t => Refused k 3 s t)))

/-- Admitted: a planned handover is asked for when R451 allows it; HELD makes a unit that is not active HELD with cause 5,
and has a synchronised active one hand over first; RESYNC is accepted of a held unit outside MAINTENANCE and HOLD,
REPAIR of a SOLO unit without a link; otherwise each answers WRONG_STATE. RETIRE of an element that may be retired
leaves its retirement record, REINSTATE of a retired one none; the chip waits for its PWR reset. Refused ones change
nothing. (R436, R452, R463, R464, R465) -/
def Obligations.RolesAndRetirement : Prop :=
  ∀ (s : State) (k : Fin 8),
    (s.admits k 0x0701 (oneMine 4 0) (oneBad 4) = true →
      (s.plannedOk = true → Yields (.forcedPlannedHandover k) s (fun t =>
        t.slotWord k 0 = 0x0701 ∧ t.twin.planned = 1 ∧ t.twin.thenHeld = false ∧ t.role = s.role)) ∧
      (s.plannedOk = false → Yields (.forcedPlannedHandover k) s (fun t => Refused k 3 s t))) ∧
    (s.admits k 0x0701 (oneMine 4 1) (oneBad 4) = true →
      (s.role ≠ 1 → Yields (.forcedHeld k) s (fun t =>
        t.slotWord k 0 = 0x0701 ∧ t.role = 3 ∧ t.rd 0 F.TWN_STAT_HELD_CAUSE = 5)) ∧
      (s.role = 1 → s.twin.peerFlags.2.2 = true → s.linkUp = true → Yields (.forcedHeld k) s (fun t =>
        t.slotWord k 0 = 0x0701 ∧ t.twin.planned = 1 ∧ t.twin.thenHeld = true ∧ t.role = 1)) ∧
      (s.role = 1 → s.twin.peerFlags.2.2 = false ∨ s.linkUp = false →
        Yields (.forcedHeld k) s (fun t => Refused k 3 s t))) ∧
    (s.admits k 0x0701 (oneMine 4 2) (oneBad 4) = true →
      (s.role = 3 → s.lifeState ≠ 3 → s.hold = false → Yields (.forcedResync k) s (fun t =>
        t.slotWord k 0 = 0x0701 ∧ t.role = 3)) ∧
      (s.role ≠ 3 → Yields (.forcedResync k) s (fun t => Refused k 3 s t))) ∧
    (s.admits k 0x0701 (oneMine 4 3) (oneBad 4) = true →
      (s.role = 0 → s.linkUp = false → Yields (.forcedRepair k) s (fun t =>
        t.slotWord k 0 = 0x0701 ∧ t.twin = { s.twin with repair := true } ∧ t.role = 0)) ∧
      (s.role ≠ 0 ∨ s.linkUp = true → Yields (.forcedRepair k) s (fun t => Refused k 3 s t))) ∧
    (∀ d l b i, elemOf (s.envelope k) = some (d, l, b, i) →
      (s.admits k 0x0801 (fun _ => true) retireBad = true →
        (s.retireWhy d l b i = 0 → Yields (.retire k) s (fun t =>
          t.slotWord k 0 = 0x0801 ∧ t.isRetired d l b i = true)) ∧
        (s.retireWhy d l b i ≠ 0 → Yields (.retire k) s (fun t => Refused k 3 s t))) ∧
      (s.admits k 0x0802 (fun _ => true) reinstateBad = true →
        (l ≠ 4 → s.isRetired d l b i = true → s.reinstateWhy d l b i = 0 → Yields (.reinstate k) s (fun t =>
          t.slotWord k 0 = 0x0802 ∧ t.isRetired d l b i = false)) ∧
        (l = 4 → s.reinstateWhy d l b i = 0 → Yields (.reinstate k) s (fun t =>
          t.slotWord k 0 = 0x0802 ∧ t.faults.chipReinstate = true)) ∧
        (s.reinstateWhy d l b i ≠ 0 → Yields (.reinstate k) s (fun t => Refused k 3 s t))))

/-- A wrong safety password is refused and counted; a right one changes the password, or an accepted configuration (R117, R412, R413) -/
def Obligations.SafetyPasswords : Prop :=
  ∀ (s : State) (k : Fin 8) (d : Fin 8) (pw : List Byte) (rest : List Word),
    s.targetDie (s.envelope k) = some d → takeString (s.envelope k).params = some (pw, rest) →
    (∀ e : Nat × Instr, e ∈ [(0x0101, .safetyConfigurationWrite k), (0x0102, .safetyPasswordChange k)] →
      s.opens k e.1 = true → s.passwordOk d pw = false → Yields e.2 s (fun t =>
        t.slotWord k 0 = BitVec.ofNat 32 (e.1 + 65536 * 4) ∧ (t.saf.get d).stored = (s.saf.get d).stored ∧
        (t.saf.get d).wrong = (s.saf.get d).wrong.filter (fun x => decide (s.now - x < 600000000000)) ++ [s.now] ∧
        (5 ≤ (t.saf.get d).wrong.length → t.on d F.SAF_STAT_CFG_LOCKED = true))) ∧
    (s.opens k 0x0102 = true → s.passwordOk d pw = true → ∀ q c, takeString rest = some (q, []) →
      (s.saf.get d).stored = some c →
      (s.pkg.die.get d = .running → Yields (.safetyPasswordChange k) s (fun t =>
        t.slotWord k 0 = 0x0102 ∧ (∃ salt, (t.saf.get d).stored =
          some { c with salt := salt, hash := (Config.sha256 (salt ++ q)).toList }) ∧
        (t.saf.get d).logNext = (s.saf.get d).logNext + 1)) ∧
      (s.pkg.die.get d ≠ .running → Yields (.safetyPasswordChange k) s (fun t => Refused k 6 s t))) ∧
    (s.opens k 0x0101 = true → s.passwordOk d pw = true → ∀ c, (s.saf.get d).stored = some c →
      Yields (.safetyConfigurationWrite k) s (fun t =>
        match Config.safetyWrite (bytesOf rest) with
        | some (_, n, _) =>
          if s.windowsOk d n then
            if s.pkg.die.get d = .running then t.slotWord k 0 = 0x0101 ∧
              (t.saf.get d).stored = some { n with salt := c.salt, hash := c.hash } ∧
              (s.saf.get d).logNext < (t.saf.get d).logNext
            else Refused k 6 s t
          else Refused k 4 s t
        | none => Refused k 4 s t))

/-- Of an envelope that passes steps 2 to 6, is well formed and is turned away by no state: a meter parameter other than
the calibration step waits as a pending change when its value is valid, and is refused with BAD_PARAM or WRONG_STATE
else. A time set more than 20 s off is taken as a step unless the source is disciplined, where it is refused with
WRONG_STATE; one within 20 s is refused with BAD_PARAM unless the source is 3. A calendar load whose checks pass makes
it the passive calendar, not activated; one whose checks fail keeps the old one, answers BAD_PARAM and notes the
reason. Activation and discard need a passive calendar, else WRONG_STATE. (R363, R374, R384) -/
def Obligations.MeterCommands : Prop :=
  ∀ (s : State) (k : Fin 8),
    (let id := ((s.envelope k).params.getD 0 0).toNat
     let v := ((s.envelope k).params.drop 1).map (·.toNat)
     let tgt := (s.envelope k).target
     s.opens k 0x0201 = true → (s.envelope k).params ≠ [] → id ≠ 7 →
      (s.paramWhy id tgt v = 0 → Yields (.meterParameterWrite k) s (fun t =>
        t.slotWord k 0 = 0x0201 ∧ t.meter.energy = s.meter.energy ∧
        ((id * 256 + tgt, v.map (fun n => BitVec.ofNat 32 n)) ∈ t.meter.pendParam ∨
         (id * 256 + tgt, v.map (fun n => BitVec.ofNat 32 n)) ∈ t.meter.pendSite))) ∧
      (s.paramWhy id tgt v ≠ 0 → Yields (.meterParameterWrite k) s (fun t => Refused k (s.paramWhy id tgt v) s t))) ∧
    (let n : Int := Int.ofNat (num64 (s.envelope k).params)
     s.opens k 0x0301 = true → (s.envelope k).params.length = 2 →
      ((n - s.tai 0).natAbs ≤ 20000000000 → s.timeSrc ≠ 3 →
        Yields (.timeSetBeyondSlewLimit k) s (fun t => Refused k 4 s t)) ∧
      (20000000000 < (n - s.tai 0).natAbs → 1 < s.timeSrc → Yields (.timeSetBeyondSlewLimit k) s (fun t =>
        t.slotWord k 0 = 0x0301 ∧ t.servo = { s.servo with step := some n } ∧ t.meter = s.meter)) ∧
      (20000000000 < (n - s.tai 0).natAbs → s.timeSrc ≤ 1 → Yields (.timeSetBeyondSlewLimit k) s (fun t => Refused k 3 s t))) ∧
    (let c := parseCal (bytesOf (s.envelope k).params)
     s.opens k 0x0401 = true → (s.envelope k).params.length = 220 → s.meter.running = true → Yields (.passiveCalendarLoad k) s (fun t =>
      if calWhy s.meter.almanac s.p2Mins (s.utcMs / 1000) c = 0 then
        t.slotWord k 0 = 0x0401 ∧ t.meter.passive = some c ∧ t.meter.actNext = false ∧ t.meter.almanac = s.meter.almanac
      else t.slotWord k 0 = BitVec.ofNat 32 (0x0401 + 65536 * 4) ∧ t.meter.passive = s.meter.passive ∧
        t.meter.calReason = calWhy s.meter.almanac s.p2Mins (s.utcMs / 1000) c)) ∧
    (s.admits k 0x0402 (oneMine 2 0) (oneBad 2) = true →
      (s.meter.passive.isSome = true → Yields (.calendarActivation k) s (fun t =>
        t.slotWord k 0 = 0x0402 ∧ t.meter = { s.meter with actNext := true })) ∧
      (s.meter.passive = none → Yields (.calendarActivation k) s (fun t => Refused k 3 s t))) ∧
    (s.admits k 0x0402 (oneMine 2 1) (oneBad 2) = true →
      (s.meter.passive.isSome = true → Yields (.calendarDiscard k) s (fun t =>
        t.slotWord k 0 = 0x0402 ∧ t.meter = { s.meter with passive := none, actNext := false })) ∧
      (s.meter.passive = none → Yields (.calendarDiscard k) s (fun t => Refused k 3 s t)))

/-- Admitted, with request and reply slot free and no request under way: a read of session records, profile entries, meter
logs or status by a role that may read it, and an xDLMS request that a standby or held unit, HOLD or RETIRED does not
turn away as no readout, put the envelope in the request slot as device-owned with its SEQ and leave the reply
waiting, the command slot still device-owned; a turned-away one answers WRONG_STATE. With a slot taken they answer
BUSY. A role that may not read answers NOT_PERMITTED. METER_REPLY publishes the reply words in the reply slot, frees
the request slot and publishes the command slot. LOCKOUT_END clears the role's LOCKED bit. (R76, R82, R119, R121, R124, R364, R367) -/
def Obligations.MeterMailbox : Prop :=
  ∀ (s : State) (k : Fin 8),
    (∀ e : Nat × (State → Envelope → Bool) × Instr × List Word,
      e ∈ [(0x4002, (fun _ v => v.params.length != 2), .sessionRecordsRead k,
            s.recordsPage ((s.envelope k).params.getD 0 0).toNat ((s.envelope k).params.getD 1 0).toNat),
           (0x4004, (fun _ v => v.params.length != 3 || decide (1 < (v.params.getD 0 0).toNat)), .meterLogRead k,
            s.meterLogPage (((s.envelope k).params.getD 0 0).toNat == 1) ((s.envelope k).params.getD 1 0).toNat
              ((s.envelope k).params.getD 2 0).toNat),
           (0x4005, (fun _ v => decide (1 < v.params.length)), .meterStatus k,
            pageWords (s.passed k).statusWords ((s.envelope k).params.getD 0 0).toNat)] →
      s.admits k e.1 (fun _ => true) e.2.1 = true →
      (s.own 8 = 3 → s.own 9 = 3 → s.gate.meterSlot = none → Yields e.2.2.1 s (fun t =>
          t.gate.meterSlot = some k ∧ t.gate.meterReply = e.2.2.2 ∧ t.own 8 = 2 ∧ hSeq (t.header 8) = (s.envelope k).seq ∧
          t.own k = 2 ∧ t.meter = s.meter)) ∧
      (s.own 8 ≠ 3 ∨ s.own 9 ≠ 3 ∨ s.gate.meterSlot.isSome = true → Yields e.2.2.1 s (fun t => Refused k 6 s t))) ∧
    (∀ e : Nat × Nat × Instr, e ∈ [(0x4002, 1, .sessionRecordsRead k), (0x4003, 1, .profileEntriesRead k),
        (0x4004, (if ((s.envelope k).params.getD 0 0).toNat = 1 then 1 else 2), .meterLogRead k), (0x4005, 1, .meterStatus k)] →
      s.waiting k = true → (s.envelope k).code = e.1 → (s.envelope k).role < e.2.1 →
      Yields e.2.2 s (fun t => Refused k 5 s t)) ∧
    (s.admits k 0x4003 (fun _ => true) (fun _ v => v.params.length != 3 || decide (1 < (v.params.getD 0 0).toNat)) = true →
      s.own 8 = 3 → s.own 9 = 3 → s.gate.meterSlot = none →
        (s.meter.restoring = false → Yields (.profileEntriesRead k) s (fun t =>
          t.gate.meterSlot = some k ∧ t.own 8 = 2 ∧ t.own k = 2 ∧ t.meter = s.meter)) ∧
        (s.meter.restoring = true → Yields (.profileEntriesRead k) s (fun t => Refused k 6 s t))) ∧
    (∀ a : Apdu, s.admits k 0x4001 (fun _ => true) (fun _ _ => false) = true →
      let kept := s.standing || s.hold || s.lifeState == 4
      ((changes a && kept) = false →
        (s.own 8 = 3 → s.own 9 = 3 → s.gate.meterSlot = none → Yields (.xdlmsApdu k a) s (fun t =>
          t.gate.meterSlot = some k ∧ t.own 8 = 2 ∧ hSeq (t.header 8) = (s.envelope k).seq)) ∧
        (s.own 8 ≠ 3 ∨ s.own 9 ≠ 3 ∨ s.gate.meterSlot.isSome = true →
          Yields (.xdlmsApdu k a) s (fun t => Refused k 6 s t))) ∧
      ((changes a && kept) = true → Yields (.xdlmsApdu k a) s (fun t => Refused k 3 s t))) ∧
    (s.gate.meterSlot = some k → s.own 9 = 3 → s.own 8 = 2 → s.own k = 2 → Yields .meterReply s (fun t =>
      t.gate.meterSlot = none ∧ t.own 9 = 1 ∧ hSeq (t.header 9) = (hSeq (s.header 9) + 1) % 65536 ∧ t.own 8 = 3 ∧ t.own k = 1 ∧
      (∀ j, j < s.gate.meterReply.length → j < 4095 → t.slotWord 9 j = s.gate.meterReply.getD j 0) ∧
      t.slotWord k 0 = BitVec.ofNat 32 (s.envelope k).code)) ∧
    (s.gate.meterSlot = none → Yields .meterReply s (fun t => t = s)) ∧
    (∀ r : Role, r ≠ .pub → Yields (.lockoutEnd r) s (fun t =>
      t.bit 0 F.SMW_LOCKOUT_LOCKED (roleIdx (roleCode r)) = false ∧ WritesOnly [fldAddr 0 F.SMW_LOCKOUT_LOCKED 0 0] s t))

/-- On a trained link of a port die: a good class 0 word becomes the receiver's state for that link and direction, a bad
one is discarded with UNCORR; a word error sets UNCORR and counts a retransmission; the oldest message of a die to
another leaves its queue over a trained link and, at a running die, sets the named word; over a link that is down
nothing passes. A failing lane is retired and LANES_OK follows; below two lanes the link is down. (R31, R32, R34, R197) -/
def Obligations.XlinkWords : Prop :=
  ∀ (s : State) (d src dst : Fin 8) (b : Bool) (w : Word) (c : Fin 3) (lane : Fin 4),
    (d ≠ 0 → s.xlkUp d = true →
      Yields (.xlinkStateWord d b w false) s (fun t =>
        t.pkg.link0.get d = (if b then (w, (s.pkg.link0.get d).2) else ((s.pkg.link0.get d).1, w)) ∧
        (∀ e, e ≠ d → t.pkg.link0.get e = s.pkg.link0.get e) ∧ Keeps s t) ∧
      Yields (.xlinkStateWord d b w true) s (fun t =>
        t.pkg = s.pkg ∧ t.on (if b then 0 else d.val) F.XLK_ERR_UNCORR = true ∧ Keeps s t) ∧
      Yields (.xlinkWordError d c) s (fun t =>
        t.on d F.XLK_ERR_UNCORR = true ∧
        t.rd d F.XLK_CRC_CNT_RETX = satInc (2 ^ F.XLK_CRC_CNT_RETX.w - 1) (s.rd d F.XLK_CRC_CNT_RETX) ∧ t.pkg = s.pkg ∧ Keeps s t)) ∧
    (d = 0 ∨ s.xlkUp d = false → Yields (.xlinkStateWord d b w false) s (fun t => t = s)) ∧
    (∀ m, (s.oxe.get src).sendq.find? (fun m => m.dst == dst.val) = some m → src ≠ dst →
      (s.xlkUp (if src = 0 then dst else src) = true → Yields (.remoteWordWrite src dst) s (fun t =>
        (t.oxe.get src).sendq = (s.oxe.get src).sendq.erase m ∧ Keeps s t ∧
        (s.pkg.die.get dst = .running → ∃ n, (m.word, m.value, n) ∈ (t.oxe.get dst).remote))) ∧
      (s.xlkUp (if src = 0 then dst else src) = false → Yields (.remoteWordWrite src dst) s (fun t => t = s))) ∧
    (s.isRetired d 1 0x14 lane = false → d ≠ 0 → Yields (.xlinkLaneFail d lane) s (fun t =>
      t.isRetired d 1 0x14 lane = true ∧ t.bit d F.XLK_ERR_LANE_FAIL lane = true ∧ t.rd d F.XLK_STAT_LANES_OK = t.xlkLanes d ∧
      (laneCount (t.xlkLanes d) < 2 → t.on d F.XLK_STAT_UP = false) ∧
      (2 ≤ laneCount (t.xlkLanes d) → t.on d F.XLK_STAT_UP = s.on d F.XLK_STAT_UP))) ∧
    (s.isRetired 0 1 0x21 lane = false → Yields (.twinLinkLaneFail lane) s (fun t =>
      t.isRetired 0 1 0x21 lane = true ∧
      (laneCount t.twinLanes < 2 → t.linkUp = false) ∧
      (2 ≤ laneCount t.twinLanes → s.linkUp = true → t.linkUp = true ∧ t.rd 0 F.TWN_STAT_LANES_OK = t.twinLanes)))

/-- REGION_RESET_DELAY with the region's reset due resets the die, CHIP_RESET_DELAY with the chip's due resets the
package; when not due they change nothing. DIE_WATCHDOG of a running port die leaves it where a reset puts it, off
when the fault was permanent; of the lead die it begins the chip's fault response or retires the chip. Of a die that
does not run it changes nothing. (R460, R461, R462) -/
def Obligations.FaultResets : Prop :=
  ∀ (s : State) (d : Fin 8),
    (s.faults.regionDue.get d = true → Yields (.regionResetDelay d) s (fun t =>
      t.pkg.die.get d = t.afterReset d ∧ t.faults.regionDue.get d = false ∧
      ∀ a, 0x10000000 ≤ a → a < 0x10200000 → t.byte (sramKey d a) = 0)) ∧
    (s.faults.regionDue.get d = false → Yields (.regionResetDelay d) s (fun t => t = s)) ∧
    (s.faults.chipDue = true → Yields .chipResetDelay s (fun t =>
      (∀ d, t.pkg.die.get d = t.afterReset d) ∧ t.faults.chipDue = false ∧ t.keys.root = s.keys.root)) ∧
    (s.faults.chipDue = false → Yields .chipResetDelay s (fun t => t = s)) ∧
    (d ≠ 0 → s.pkg.die.get d = .running → s.isRetired d 3 0 0 = false → Yields (.dieWatchdog d) s (fun t => t.pkg.die.get d = t.afterReset d)) ∧
    (s.pkg.die.get 0 = .running → Yields (.dieWatchdog 0) s (fun t =>
      t.faults.chipResp = true ∨ t.faults.chipRetired = true)) ∧
    (s.pkg.die.get d ≠ .running → Yields (.dieWatchdog d) s (fun t => t = s))

/-- With the link enabled and down: without the key or its confirmation by the peer, AUTH_FAIL is set and the link stays
down; with both, it is up, and a SOLO unit beside a peer that is no active one becomes ACTIVE; a strap clash makes a
unit without the claim HELD with cause 10. A starting unit whose training times out is SOLO. The link's fall drops the
session key, makes an ACTIVE unit SOLO and a standby whose peer still drives HELD with cause 4. A heartbeat shows the
peer's role and clears the misses; RELEASING has a standby detect. The third miss in a row is HB_LOST, and a standby
detects it. (R435, R437, R439, R443) -/
def Obligations.TwinLinkAndHeartbeats : Prop :=
  ∀ (s : State) (p : PeerHello) (h : Heartbeat),
    (s.on 0 F.TWN_CTRL_EN = true → s.linkUp = false →
      (s.slotKey 1 = none ∨ p.keyConfirmed = false → Yields (.twinLinkTrained p) s (fun t =>
        t.on 0 F.TWN_EVT_AUTH_FAIL = true ∧ t.linkUp = false ∧ t.role = s.role)) ∧
      ((s.slotKey 1).isSome = true → p.keyConfirmed = true → p.strapB = s.on 0 F.TWN_STAT_UNIT →
        s.on 0 F.TWN_STAT_CLAIM_OWN = false → Yields (.twinLinkTrained p) s (fun t =>
          t.linkUp = true ∧ t.role = 3 ∧ t.rd 0 F.TWN_STAT_HELD_CAUSE = 10 ∧ t.twin.clash = true)) ∧
      ((s.slotKey 1).isSome = true → p.keyConfirmed = true → p.strapB ≠ s.on 0 F.TWN_STAT_UNIT → s.role = 0 →
        s.twin.starting = false → (p.starting = true ∨ 2 ≤ p.role.val) → Yields (.twinLinkTrained p) s (fun t =>
          t.linkUp = true ∧ t.role = 1 ∧ t.rd 0 F.TWN_STAT_PEER_ROLE = p.role.val ∧ t.twin.clash = false))) ∧
    (s.linkUp = false → s.twin.starting = true → Yields .twinLinkTrainTimeout s (fun t => t.role = 0 ∧ t.twin.starting = false)) ∧
    (s.linkUp = true → s.on 0 F.TWN_RESYNC_BUSY = false → Yields .twinLinkDown s (fun t =>
      t.linkUp = false ∧ t.slotKey 3 = none ∧ (s.role = 1 → t.role = 0) ∧
      (s.role = 2 → s.on 0 F.TWN_STAT_CLAIM_PEER = true → t.role = 3 ∧ t.rd 0 F.TWN_STAT_HELD_CAUSE = 4) ∧
      (s.role = 2 → s.on 0 F.TWN_STAT_CLAIM_PEER = false → t.role = 2))) ∧
    (s.linkUp = true → Yields (.heartbeatReceive h) s (fun t =>
      t.rd 0 F.TWN_STAT_PEER_ROLE = h.role.val ∧ t.on 0 F.TWN_STAT_PEER_MAINS_LOST = h.mainsLost ∧ t.twin.missed = 0 ∧
      t.role = s.role ∧ (h.releasing = true → s.role = 2 → s.twin.detect = 0 → t.twin.detect = 3) ∧ Keeps s t)) ∧
    (s.linkUp = true → Yields .heartbeatMiss s (fun t =>
      t.twin.missed = s.twin.missed + 1 ∧ t.role = s.role ∧
      (s.twin.missed = 2 → t.on 0 F.TWN_EVT_HB_LOST = true ∧ (s.role = 2 → s.twin.detect = 0 → t.twin.detect = 1)) ∧
      (s.twin.missed < 2 → t.twin.detect = s.twin.detect) ∧ Keeps s t)) ∧
    (s.linkUp = false → Yields (.heartbeatReceive h) s (fun t => t = s) ∧ Yields .heartbeatMiss s (fun t => t = s) ∧
      Yields .twinLinkDown s (fun t => t = s))

/-- CLAIM_KEEPER_EXPIRY of the own claim drops it with the outputs disabled, and makes an ACTIVE unit HELD with cause 8.
The peer's claim rising disables the outputs; its fall enables those of a unit that holds its claim, and has a standby
detect. A claim that enables nothing is withdrawn against the peer's standing claim, and in a settling window by unit
B alone. OUTPUT_ENABLE enables the outputs of a claim that stands alone, and none beside the peer's. LATCH_RELEASE
lets the cells of disabled outputs go while the peer claims. (R438, R439, R440, R447, R448) -/
def Obligations.AntlerClaims : Prop :=
  ∀ (s : State) (gap : Nat),
    (s.on 0 F.TWN_STAT_CLAIM_OWN = true → Yields .claimKeeperExpiry s (fun t =>
      t.on 0 F.TWN_STAT_CLAIM_OWN = false ∧ t.outEn = false ∧ t.mem = s.mem ∧
      (s.role = 1 → t.role = 3 ∧ t.rd 0 F.TWN_STAT_HELD_CAUSE = 8) ∧ (s.role ≠ 1 → t.role = s.role))) ∧
    (s.on 0 F.TWN_STAT_CLAIM_OWN = false → Yields .claimKeeperExpiry s (fun t => t = s)) ∧
    Yields (.antlInChange true) s (fun t => t.on 0 F.TWN_STAT_CLAIM_PEER = true ∧ t.outEn = false) ∧
    Yields (.antlInChange false) s (fun t => t.on 0 F.TWN_STAT_CLAIM_PEER = false ∧ t.role = s.role ∧
      (s.on 0 F.TWN_STAT_CLAIM_OWN = true → s.twin.enabling = false → t.outEn = true) ∧
      (s.role = 2 → s.twin.detect = 0 → t.twin.detect = 2)) ∧
    (s.on 0 F.TWN_STAT_CLAIM_OWN = true → s.outEn = false →
      (s.on 0 F.TWN_STAT_CLAIM_PEER = true → Yields (.claimWithdraw false) s (fun t =>
        t.on 0 F.TWN_STAT_CLAIM_OWN = false ∧ t.role = 3)) ∧
      (s.on 0 F.TWN_STAT_UNIT = true → Yields (.claimWithdraw true) s (fun t =>
        t.on 0 F.TWN_STAT_CLAIM_OWN = false ∧ t.role = 3)) ∧
      (s.on 0 F.TWN_STAT_UNIT = false → Yields (.claimWithdraw true) s (fun t => t = s))) ∧
    (s.twin.enabling = true → s.on 0 F.TWN_STAT_CLAIM_OWN = true →
      (s.on 0 F.TWN_STAT_CLAIM_PEER = false → Yields (.outputEnable gap) s (fun t =>
        t.outEn = true ∧ t.twin.latchHold = false ∧ t.role = s.role)) ∧
      (s.on 0 F.TWN_STAT_CLAIM_PEER = true → Yields (.outputEnable gap) s (fun t =>
        t = { s with twin := { s.twin with enabling := false } }))) ∧
    (s.twin.latchHold = true → s.outEn = false → s.on 0 F.TWN_STAT_CLAIM_PEER = true → Yields .latchRelease s (fun t =>
      t.twin.latchHold = false ∧ (∀ (d : Fin 8) (k : Fin 4), t.rd d F.SAF_OUT_LATCHED k = 0) ∧ Keeps s t)) ∧
    (s.outEn = true → Yields .latchRelease s (fun t => t = s))

/-- TAKEOVER of a standby that has detected a loss: with the peer's claim it becomes HELD with cause 4, else, when it may
never claim, HELD with cause 6, else ACTIVE with its claim raised, its output enable to follow, and the cause noted in
TWN_GAP. A HELD unit without the peer's claim, running its set and allowed to claim, becomes ACTIVE by HELD_CLAIM.
FOLLOWING_CHECK drops the claim when links answer and none follows. PLANNED_RELEASE after the marked record drops the
claim and makes the unit STANDBY in synchrony, or HELD with cause 5 when that was asked. A mains notice asks for the
handover when it is allowed. (R92, R439, R442, R447, R451, R453) -/
def Obligations.TakeoverAndRelease : Prop :=
  ∀ (s : State),
    (s.role = 2 → s.twin.detect ≠ 0 →
      (s.on 0 F.TWN_STAT_CLAIM_PEER = true → Yields .takeover s (fun t => t.role = 3 ∧ t.rd 0 F.TWN_STAT_HELD_CAUSE = 4)) ∧
      (s.on 0 F.TWN_STAT_CLAIM_PEER = false → s.neverClaims = true → Yields .takeover s (fun t =>
        t.role = 3 ∧ t.rd 0 F.TWN_STAT_HELD_CAUSE = 6)) ∧
      (s.on 0 F.TWN_STAT_CLAIM_PEER = false → s.neverClaims = false → Yields .takeover s (fun t =>
        t.role = 1 ∧ t.on 0 F.TWN_STAT_CLAIM_OWN = true ∧ t.twin.enabling = true ∧
        t.rd 0 F.TWN_GAP_DETECT = s.twin.detect % 2 ^ F.TWN_GAP_DETECT.w ∧ t.twin.detect = 0 ∧ t.outEn = s.outEn ∧ Keeps s t))) ∧
    (s.role ≠ 2 ∨ s.twin.detect = 0 → Yields .takeover s (fun t => t = s)) ∧
    (s.role = 3 → s.on 0 F.TWN_STAT_CLAIM_PEER = false → s.neverClaims = false → s.leadRuns = true →
      Yields .heldClaim s (fun t => t.role = 1 ∧ t.on 0 F.TWN_STAT_CLAIM_OWN = true ∧ t.twin.enabling = true)) ∧
    (let heard (p : Fin 32) : Bool := s.dieUsed (Port.die p) && decide (s.now - (s.link (Port.die p) (Port.loc p)).lastRx ≤ 30000) &&
       (s.link (Port.die p) (Port.loc p)).lastRx != 0
     s.twin.checking = true → s.outEn = true →
      ((∃ p, heard p = true) → (∀ p, heard p = true → s.on (Port.die p) F.STL_P_STAT_FOLLOWED (Port.loc p).val = false) →
        Yields .followingCheck s (fun t => t.role = 3 ∧ t.rd 0 F.TWN_STAT_HELD_CAUSE = 11 ∧ t.outEn = false ∧
          t.on 0 F.TWN_STAT_CLAIM_OWN = false ∧ t.on 0 F.TWN_EVT_DUAL_ACTIVE = true)) ∧
      ((∃ p, heard p = true ∧ s.on (Port.die p) F.STL_P_STAT_FOLLOWED (Port.loc p).val = true) →
        Yields .followingCheck s (fun t => t = { s with twin := { s.twin with checking := false } }))) ∧
    (s.role = 1 → s.twin.planned = 2 → Yields .plannedRelease s (fun t =>
      t.on 0 F.TWN_STAT_CLAIM_OWN = false ∧ t.outEn = false ∧ t.on 0 F.TWN_EVT_HANDED = true ∧
      (s.twin.thenHeld = true → t.role = 3 ∧ t.rd 0 F.TWN_STAT_HELD_CAUSE = 5) ∧
      (s.twin.thenHeld = false → t.role = 2 ∧ t.on 0 F.TWN_STAT_SYNCED = true))) ∧
    (s.role = 1 → s.on 0 F.TWN_CTRL_MAINS_HO = true → s.on pkgDie F.PKG_PWR_MAINS_LOST = true →
      s.on 0 F.TWN_STAT_PEER_MAINS_LOST = false → s.plannedOk = true → Yields .twinMainsNotice s (fun t =>
        t = { s with twin := { s.twin with planned := 1, thenHeld := false } })) ∧
    (s.role ≠ 1 → Yields .twinMainsNotice s (fun t => t = s))

/-- Of a standby with its link up and no resynchronisation: a record whose tag fails or whose RSEQ is not the next is
discarded and counted, the shadow kept, and the tenth in a row makes the unit HELD with cause 9; a record of another
generation makes it HELD with cause 2 and applies nothing; an accepted one becomes the shadow, its port states are
loaded and SYNCED is set. A region copy in step 3 of a resynchronisation replaces the region, and after the fifth step
5 begins. A counter message raises a role's counter under the same KCV, and changes nothing else. (R118, R446, R454) -/
def Obligations.HandoverRecords : Prop :=
  ∀ (s : State) (r : HandoverRec) (l : List SessionRecord) (ro : Role) (kcv : Word) (ctr : DWord),
    (s.linkUp = true → s.role = 2 → s.on 0 F.TWN_RESYNC_BUSY = false →
      (r.tagOk = false ∨ r.rseq ≠ s.twin.rseq + 1 → Yields (.handoverRecordReceive r) s (fun t =>
        t.twin.shadow = s.twin.shadow ∧ t.on 0 F.TWN_EVT_REC_BAD = true ∧
        t.rd 0 F.TWN_CNT_REC_BAD = satInc (2 ^ F.TWN_CNT_REC_BAD.w - 1) (s.rd 0 F.TWN_CNT_REC_BAD) ∧
        t.on 0 F.TWN_STAT_SYNCED = false ∧ (9 ≤ s.twin.discards → t.role = 3 ∧ t.rd 0 F.TWN_STAT_HELD_CAUSE = 9) ∧
        (s.twin.discards < 9 → t.role = 2 ∧ t.twin.discards = s.twin.discards + 1) ∧ t.meter = s.meter ∧ Keeps s t)) ∧
      (r.tagOk = true → r.rseq = s.twin.rseq + 1 →
        (r.gen.toNat ≠ s.rd 0 F.TWN_GEN_OWN → r.gen.toNat ≠ s.rd 0 F.TWN_GEN_ACC → Yields (.handoverRecordReceive r) s (fun t =>
          t.role = 3 ∧ t.rd 0 F.TWN_STAT_HELD_CAUSE = 2 ∧ t.on 0 F.TWN_EVT_GEN_MISMATCH = true ∧ t.twin.shadow = s.twin.shadow ∧
          t.meter = s.meter ∧ Keeps s t)) ∧
        (r.gen.toNat = s.rd 0 F.TWN_GEN_OWN → Yields (.handoverRecordReceive r) s (fun t =>
          t.role = 2 ∧ t.twin.shadow = some r ∧ t.twin.rseq = r.rseq ∧ t.twin.discards = 0 ∧ t.on 0 F.TWN_STAT_SYNCED = true ∧
          (∀ e, r.ports = [e] → t.psState (Port.die e.port) (Port.loc e.port) = e.state.val) ∧ t.pending = s.pending)))) ∧
    (s.on 0 F.TWN_RESYNC_BUSY = true → s.rd 0 F.TWN_RESYNC_STEP = 3 → Yields (.resyncRegionCopyDone (.q2 l)) s (fun t =>
      t.meter.records = l ∧ 2 ∈ t.twin.copied ∧ t.meter.energy = s.meter.energy ∧
      (t.twin.copied.length = 5 → t.rd 0 F.TWN_RESYNC_STEP = 5) ∧ (t.twin.copied.length ≠ 5 → t.rd 0 F.TWN_RESYNC_STEP = 3) ∧
      Keeps s t)) ∧
    (s.on 0 F.TWN_RESYNC_BUSY = false → Yields (.resyncRegionCopyDone (.q2 l)) s (fun t => t = s)) ∧
    (s.linkUp = true → ro ≠ .pub →
      (s.keys.kcv.get (roleIdx (roleCode ro)) = kcv → s.lastCounter (roleIdx (roleCode ro)) < ctr.toNat →
        Yields (.twinCounterMessage ro kcv ctr) s (fun t =>
          t.lastCounter (roleIdx (roleCode ro)) = ctr.toNat ∧
          WritesOnly [fldAddr 0 F.SMW_LASTCTR (roleIdx (roleCode ro)) 0, fldAddr 0 F.SMW_LASTCTR (roleIdx (roleCode ro)) 1] s t)) ∧
      (s.keys.kcv.get (roleIdx (roleCode ro)) ≠ kcv ∨ ctr.toNat ≤ s.lastCounter (roleIdx (roleCode ro)) →
        Yields (.twinCounterMessage ro kcv ctr) s (fun t => t = s)))

/-- Sequencers: a commit is checked and taken or rejected, sets apply at round boundaries, RUN starts and stops (R133, R135, R136, R137, R149) -/
def Obligations.SequenceSets : Prop :=
  ∀ (s : State) (d : Fin 8) (q : Fin 2),
    let x := s.seqr d q
    let set := s.shadowSet d q
    let verdict := s.commitVerdict d q set
    let runBit := if q = 0 then F.ADC_STAT_SQ0_RUN else F.ADC_STAT_SQ1_RUN
    let nextRound (t : State) : Prop := t.rd d F.ADC_SQ_ROUND q = (s.rd d F.ADC_SQ_ROUND q + 1) % 2 ^ 32
    (x.pend ≠ none ∨ x.checking ≠ none → Yields (.sequenceCommit d q) s (fun t =>
      t.rd d F.ADC_SQ_STAT_STATUS q = 6 ∧ WritesOnly [fldAddr d F.ADC_SQ_STAT_STATUS q 0] s t)) ∧
    (x.pend = none → x.checking = none → Yields (.sequenceCommit d q) s (fun t =>
      t.seqr d q = { x with checking := some (set, verdict) } ∧ t.regs = s.regs ∧ Keeps s t)) ∧
    (s.rd d F.ADC_SQ_CFG_NENT q = 0 ∨ 16 < s.rd d F.ADC_SQ_CFG_NENT q → 1 ≤ verdict.1 ∧ verdict.1 ≤ 3) ∧
    (0 < set.period → set.period < roundLen set → 1 ≤ verdict.1 ∧ verdict.1 ≤ 4) ∧
    (∀ a r e, x.checking = some (a, r, e) → r < 16 → e < 16 → Yields (.commitCheckDone d q) s (fun t =>
      (t.seqr d q).checking = none ∧ t.rd d F.ADC_SQ_STAT_REASON q = r ∧ t.rd d F.ADC_SQ_STAT_REJ_ENTRY q = e ∧
      t.rd d F.ADC_SQ_STAT_STATUS q = (if r = 0 then 0 else 4) ∧ Keeps s t ∧ (t.seqr d q).run = x.run ∧
      (r ≠ 0 → (t.seqr d q).active = x.active ∧ (t.seqr d q).pend = x.pend) ∧
      (r = 0 → s.sqRuns d q = true → (t.seqr d q).active = x.active ∧ (t.seqr d q).pend = some a ∧
        t.on d F.ADC_SQ_STAT_PENDING q = true) ∧
      (r = 0 → s.sqRuns d q = false → (t.seqr d q).active = some a ∧
        t.rd d F.ADC_SQ_STAT_LEN q = roundLen a % 2 ^ F.ADC_SQ_STAT_LEN.w ∧
        ∀ m, m < 16 → t.word (fldAddr d F.ADC_SQ_AENT q m) = a.ents.getD m 0))) ∧
    (x.checking = none → Yields (.commitCheckDone d q) s (fun t => t = s)) ∧
    Yields (.sequencerRun d q) s (fun t => t.on d F.ADC_SQ_CTRL_RUN q = true ∧
      (t.seqr d q).run = (match x.run with | .stopped => .starting | .stopping => .running | r => r) ∧
      (t.seqr d q).active = x.active ∧ Keeps s t) ∧
    ((∀ k ∈ s.winPorts d q, s.inhDriven (portOf d k) = true) → Yields (.sequencerStop d q) s (fun t =>
      t.on d F.ADC_SQ_CTRL_RUN q = false ∧ Keeps s t ∧
      (t.seqr d q).run = (match x.run with | .starting => .stopped | .running => .stopping | r => r))) ∧
    ((∃ k ∈ s.winPorts d q, s.inhDriven (portOf d k) = false) → Yields (.sequencerStop d q) s (fun t =>
      t.on d F.ADC_ERR_STOP_REFUSED = true ∧ t.adc = s.adc ∧ OnlyRegs [fldAddr d F.ADC_ERR_STOP_REFUSED 0 0] s t)) ∧
    (x.run = .stopped → Yields (.sequencerRoundStart d q) s (fun t => t = s)) ∧
    (x.run = .starting → x.active ≠ none → s.on d F.ADC_LANE_CAL_CORR_VALID (s.posLane d q) = true → x.unserved = false →
      x.wait = false → Yields (.sequencerRoundStart d q) s (fun t => (t.seqr d q).run = .running ∧ t.on d runBit = true ∧ nextRound t ∧ Keeps s t)) ∧
    (x.run = .starting → x.active = none ∨ s.on d F.ADC_LANE_CAL_CORR_VALID (s.posLane d q) = false ∨ x.unserved = true ∨ x.wait = true →
      Yields (.sequencerRoundStart d q) s (fun t => t = s)) ∧
    (x.run = .stopping → Yields (.sequencerRoundStart d q) s (fun t => (t.seqr d q).run = .stopped ∧ t.on d runBit = false ∧
      (t.seqr d q).pend = none ∧ (t.seqr d q).active = (if x.pend.isSome then x.pend else x.active) ∧ Keeps s t)) ∧
    (x.run = .running → x.unserved = false → x.relieve = false → Yields (.sequencerRoundStart d q) s (fun t => (t.seqr d q).run = .running ∧
      nextRound t ∧ (t.seqr d q).pend = none ∧ (t.seqr d q).active = (if x.pend.isSome then x.pend else x.active) ∧ Keeps s t ∧
      ∀ c g o m, (s.adc.get d).newPair = some (c, g, o, m) → (t.adc.get d).newPair = none ∧
        ∀ u, ((t.seqr d q).base ≤ u → t.coefOf d c g u = (o, m)) ∧
          (u < (t.seqr d q).base → t.coefOf d c g u = s.coefOf d c g (t.seqr d q).base))) ∧
    Yields (.adcSoftReset d) s (fun t => t.on d F.ADC_SQ_CTRL_RUN q = false ∧
      ((∀ k : Fin 3, s.on d F.ADC_LANE_CAL_RETIRED k = false) → t.seqr d q = Adc.init.sq.get q) ∧
      (t.adc.get d).coef = (s.adc.get d).m6 ∧ Keeps s t ∧
      ∀ k, t.inhBy (portOf d k) Inh.adcReset = false ∧ t.inhBy (portOf d k) Inh.trip = t.tripLatched d k)

/-- A result of an active entry's enabled cell on a running sequencer is corrected by its lane's working set, calibrated,
clamped to 16 bits and stored with cell, entry, lane (0b11 when it started with no reference), SAT and marker; outside
an enabled window a non-diagnostic one latches the cell's trip bit, drives INH and halts the port. The newcomer's
results reach no latest-sample register and no meter. A disabled or retired cell's result does nothing. A comparator's
trip latches likewise while enabled. Clearing latches leaves a comparator that still trips latched, and INH follows
the latches. New windows are enabled only where covered; clears always apply. A common-mode fault shows CM_ERR. (R37, R39, R134, R138, R139, R140, R143, R144, R145, R157, R471) -/
def Obligations.ConversionsAndTrips : Prop :=
  ∀ (s : State) (d : Fin 8) (q : Fin 2) (entry : Fin 16) (cell : Fin 72) (code : Int) (rail : Bool) (tm : Nat) (k : Fin 8) (v : Word),
    (∀ a, (s.seqr d q).active = some a →
      let e := a.ents.getD entry.val 0
      let gain := entGain e a.gains cell.val
      let corr := if h : s.posLane d q < 3 then (s.laneOf d ⟨s.posLane d q, h⟩).working else none
      let p := s.coefOf d cell.val gain tm
      let y := rhuI ((Config.laneCorr corr gain code - p.1) * p.2) (2 ^ 20)
      let ok := s.refAt d (tm - 40 * entTs e)
      let x := clampI (-32768) 32767 y
      let live : Prop := s.sqRuns d q = true ∧ (s.seqr d q).unserved = false ∧ entry.val < a.ents.length ∧
        cell.val ∈ entryCells e a.scans ∧ s.cellExists d cell.val = true
      let word (t : State) : Nat := (t.word (fldAddr d F.ADC_LAST cell.val 0)).toNat
      let put : Prop := s.on d F.ADC_CELL_EN cell.val = true ∧ s.on d F.ADC_CELL_RETIRED cell.val = false
      (live → put → Yields (.conversionResult d q entry cell code rail false tm) s (fun t =>
        sext 16 (word t) = x ∧ bitsOf (word t) 16 7 = cell.val ∧ bitsOf (word t) 23 4 = entry.val ∧
        bitsOf (word t) 27 2 = (if ok then s.posLane d q else 3) ∧
        bitOf (word t) 29 = (rail || decide (x ≠ y)) ∧ bitOf (word t) 31 = (s.seqr d q).swap ∧ t.pending = s.pending ∧
        (∀ h : cell.val < 64, entDiag e = false → ok = true → s.winOn d cell.val (entWin e) = true →
          x < s.rdI d F.ADC_TW_LOW cell.val (entWin e) ∨ s.rdI d F.ADC_TW_HIGH cell.val (entWin e) < x →
          let port : Fin 4 := ⟨cell.val / 16, by omega⟩
          t.bit d F.ADC_TRIP (cell.val % 32) (cell.val / 32) = true ∧ t.inhBy (portOf d port) Inh.trip = true ∧
          t.on d F.STL_P_HALT_HALTED port = true))) ∧
      (live → put → Yields (.conversionResult d q entry cell code rail true tm) s (fun t =>
        word t = word s ∧ t.meter = s.meter ∧ t.pending = s.pending)) ∧
      (¬put → ∀ b, Yields (.conversionResult d q entry cell code rail b tm) s (fun t => t = s))) ∧
    (let port : Fin 4 := ⟨k.val / 2, by omega⟩
     (s.on d F.ADC_TC_EN k = true → Yields (.comparatorTrip d k) s (fun t =>
       t.bit d F.ADC_TC_STAT_TRIP k = true ∧ t.bit d F.ADC_TC_STAT_LEVEL k = true ∧ t.inhBy (portOf d port) Inh.trip = true ∧
       t.on d F.STL_P_HALT_HALTED port = true)) ∧
     (s.on d F.ADC_TC_EN k = false → Yields (.comparatorTrip d k) s (fun t => t = s)) ∧
     Yields (.comparatorRelease d k) s (fun t => t.bit d F.ADC_TC_STAT_LEVEL k = false ∧
       t.rd d F.ADC_TC_STAT_TRIP = s.rd d F.ADC_TC_STAT_TRIP ∧ WritesOnly [fldAddr d F.ADC_TC_STAT_LEVEL 0 0] s t)) ∧
    (∀ hi : Bool, Yields (.tripLatchClear d (if hi then .hi else .lo) v) s (fun t =>
      (∀ j, j < 32 → t.bit d F.ADC_TRIP j (b2n hi) = (s.bit d F.ADC_TRIP j (b2n hi) && !v.getLsbD j)) ∧
      (∀ p : Fin 4, t.inhBy (portOf d p) Inh.trip = t.tripLatched d p) ∧ Keeps s t)) ∧
    Yields (.tripLatchClear d .comparators v) s (fun t =>
      (∀ j, j < 8 → t.bit d F.ADC_TC_STAT_TRIP j = (s.bit d F.ADC_TC_STAT_TRIP j && !v.getLsbD j || s.bit d F.ADC_TC_STAT_LEVEL j)) ∧
      (∀ p : Fin 4, t.inhBy (portOf d p) Inh.trip = t.tripLatched d p) ∧ Keeps s t) ∧
    (∀ (win : WinSel) (hi : Bool),
      let w := match win with | .a => 0 | .b => 1
      let ok : Prop := ∀ b, b < 32 → v.getLsbD b = true → s.bit d F.ADC_TWEN b w (b2n hi) = false →
        s.winCovered d (32 * b2n hi + b) w = true
      (ok → Yields (.tripWindowEnable d win hi v) s (fun t => t.rd d F.ADC_TWEN w (b2n hi) = v.toNat ∧
        WritesOnly [fldAddr d F.ADC_TWEN w (b2n hi)] s t)) ∧
      (¬ok → Yields (.tripWindowEnable d win hi v) s (fun t => t.on d F.ADC_ERR_TW_UNCOVERED = true ∧
        t.rd d F.ADC_TWEN w (b2n hi) = s.rd d F.ADC_TWEN w (b2n hi) &&& v.toNat))) ∧
    (s.cellExists d cell.val = true → Yields (.cellCmFault d cell) s (fun t =>
      t.on d F.ADC_CELL_CM_ERR cell.val = true ∧ t.on d F.ADC_ERR_CELL_CM = true ∧ Keeps s t ∧
      (s.on d F.ADC_ERR_CELL_CM = false → t.rd d F.ADC_ERR_CELL = cell.val))) ∧
    (s.cellExists d cell.val = false → Yields (.cellCmFault d cell) s (fun t => t = s))

/-- REF.SEL is written only unlocked with both sequencers stopped, and drops REF_READY. Losing the reference in a running
front end is an error that ends the trip coverage of every port with a window. A calibration step answers 6 while one
runs, 4 for bad parameters, 8 for a meter cell, 3 for a cell no running entry converts or a full-scale step without
its zero; else it collects. What a refused or begun zero step leaves of a held zero is that of its cell and gain. At
the register port as at the meter head's, a complete zero step is held; a complete full-scale step gives the new
coefficient pair, or status 4 when the result is out of bounds. A timeout ends the collection with status 3. (R147, R148, R149, R150, R151, R406) -/
def Obligations.ReferenceAndCalibration : Prop :=
  ∀ (s : State) (d : Fin 8) (sel : Fin 4) (v : Word) (full : Bool),
    let running : Prop := s.sqRuns d 0 = true ∨ s.sqRuns d 1 = true
    let idle : Prop := (s.seqr d 0).run = .stopped ∧ (s.seqr d 1).run = .stopped
    (s.on d F.ADC_CTRL_LOCK = true → Yields (.refSelect d sel) s (fun t => t = s)) ∧
    (s.on d F.ADC_CTRL_LOCK = false → ¬idle → Yields (.refSelect d sel) s (fun t =>
      t.on d F.ADC_ERR_CFG_BUSY = true ∧ t.rd d F.ADC_REF_SEL = s.rd d F.ADC_REF_SEL ∧ t.adc = s.adc)) ∧
    (s.on d F.ADC_CTRL_LOCK = false → idle → sel.val < 2 → sel.val ≠ s.rd d F.ADC_REF_SEL →
      Yields (.refSelect d sel) s (fun t => t.rd d F.ADC_REF_SEL = sel.val ∧ t.on d F.ADC_REF_REF_READY = false ∧
        t.on d F.ADC_REF_EXT_FAULT = false ∧ (t.adc.get d).refOk = false ∧ Keeps s t)) ∧
    Yields (.refReadyRise d) s (fun t => t.on d F.ADC_REF_REF_READY = true ∧ t.on d F.ADC_REF_VSUP_OK = true ∧
      (t.adc.get d).refOk = true ∧ Keeps s t) ∧
    Yields (.refLost d) s (fun t => t.on d F.ADC_REF_REF_READY = false ∧ (t.adc.get d).refOk = false ∧ Keeps s t ∧
      (running → t.on d F.ADC_ERR_REF_LOST = true ∧
        ∀ (k : Fin 4) (c w : Nat), c < 16 → w < 2 → s.winOn d (16 * k.val + c) w = true → t.on d F.SAF_P_STAT_TRIP_COV k = false)) ∧
    (s.rd d F.ADC_REF_SEL = 1 → (s.adc.get d).refOk = false → Yields (.refinTimeout d) s (fun t => t.on d F.ADC_REF_EXT_FAULT = true ∧
      t.on d F.ADC_REF_REF_READY = false ∧ WritesOnly [fldAddr d F.ADC_REF_EXT_FAULT 0 0] s t)) ∧
    (s.rd d F.ADC_REF_SEL ≠ 1 ∨ (s.adc.get d).refOk = true → Yields (.refinTimeout d) s (fun t => t = s)) ∧
    (let cell := bitsOf v.toNat 0 7
     let gain := bitsOf v.toNat 7 3
     let step := bitsOf v.toNat 10 2
     let navg := bitsOf v.toNat 12 4
     let zeroHeld : Prop := zeroFor (s.adc.get d).zero cell gain = true
     let bad : Prop := step = 0 ∨ step = 3 ∨ 5 < gain ∨ 8 < navg ∨ s.cellExists d cell = false
     let go (P : State → Prop) : Prop := Yields (if full then .syscalFullStep d v else .syscalZeroStep d v) s P
     let refused (st : Nat) : Prop := go (fun t => t.rd d F.ADC_SYSCAL_STAT_STATUS = st ∧ Keeps s t ∧
       t.adc.get d = { s.adc.get d with zero := zeroKept (s.adc.get d).zero cell gain step })
     ((s.adc.get d).coll ≠ none → refused 6) ∧
     ((s.adc.get d).coll = none → bad → refused 4) ∧
     ((s.adc.get d).coll = none → ¬bad → s.isMeterCell d cell = true → refused 8) ∧
     ((s.adc.get d).coll = none → ¬bad → s.isMeterCell d cell = false → (s.convertedNow d cell gain = false ∨ step = 2 ∧ ¬zeroHeld) → refused 3) ∧
     ((s.adc.get d).coll = none → ¬bad → s.isMeterCell d cell = false → s.convertedNow d cell gain = true → (step = 2 → zeroHeld) →
       go (fun t => t.rd d F.ADC_SYSCAL_STAT_STATUS = 0 ∧ t.on d F.ADC_SYSCAL_STAT_BUSY = true ∧ t.rd d F.ADC_SYSCAL_STAT_COUNT = 0 ∧
         (t.adc.get d).coll = some ⟨cell, gain, step, 2 ^ (navg + 8), 0, 0, none, s.devTime d⟩ ∧ Keeps s t))) ∧
    (∀ c, (s.adc.get d).coll = some c →
      let mean := rhuI c.sum c.n
      let zero (t : State) : Option (Nat × Nat × Int) := if c.meter.isSome then (t.adc.get d).mcal.zero else (t.adc.get d).zero
      let status (t : State) : Nat := if c.meter.isSome then (t.adc.get d).mcal.status else t.rd d F.ADC_SYSCAL_STAT_STATUS
      let ofs : Int := ((zero s).map (fun z => z.2.2)).getD 0
      let target : Int := c.meter.getD (sext 16 (s.rd d F.ADC_SYSCAL_TGT_TARGET))
      let g := rhuI (target.natAbs * 2 ^ 20) (mean - ofs).natAbs
      let bad : Prop := (mean - ofs).natAbs < 4096 ∨ ¬(mean - ofs < 0 ↔ target < 0) ∨ 0x3FFFF < g
      (c.count < c.n → Yields (.syscalComplete d) s (fun t => t = s)) ∧
      (c.n ≤ c.count → c.step = 1 → Yields (.syscalComplete d) s (fun t => zero t = some (c.cell, c.gain, mean) ∧
        (t.adc.get d).coll = none ∧ status t = 0 ∧ t.on d F.ADC_SYSCAL_STAT_BUSY = false ∧ Keeps s t)) ∧
      (c.n ≤ c.count → c.step ≠ 1 → bad → Yields (.syscalComplete d) s (fun t => (t.adc.get d).coll = none ∧
        status t = 4 ∧ (t.adc.get d).newPair = (s.adc.get d).newPair)) ∧
      (c.n ≤ c.count → c.step ≠ 1 → ¬bad → Yields (.syscalComplete d) s (fun t => (t.adc.get d).coll = none ∧
        status t = 0 ∧ (t.adc.get d).newPair = some (c.cell, c.gain, ofs, g.toNat) ∧
        (t.adc.get d).coef = (s.adc.get d).coef)) ∧
      (s.beside d = none → Yields (.syscalTimeout d) s (fun t => (t.adc.get d).coll = none ∧
        status t = 3 ∧ t.on d F.ADC_SYSCAL_STAT_BUSY = false ∧ (t.adc.get d).newPair = (s.adc.get d).newPair)) ∧
      (s.beside d ≠ none → Yields (.syscalTimeout d) s (fun t => t = s))) ∧
    ((s.adc.get d).coll = none → Yields (.syscalComplete d) s (fun t => t = s) ∧ Yields (.syscalTimeout d) s (fun t => t = s))

/-- With a calibration lane and the reference good: it self-calibrates at phases 0, 2 and 6, and passes or becomes
suspect; a due rotation names target and newcomer, or with no sequencer running exchanges lanes at once; its overlap
starts with a fresh set and no collection; after 64 rounds it is inconclusive, swaps the agreeing newcomer in, or
refuses it; the vote names the suspect; a judged swap replaces a suspect holder; the exit check records the drift from
the working set. A lost serving lane is retired, an emergency, and the calibration lane takes its position, at once or
after its pass. Without their conditions these commands change nothing. (R152, R154, R156, R157, R158, R159, R161, R162, R163, R164, R165) -/
def Obligations.LaneRotation : Prop :=
  ∀ (s : State) (d : Fin 8) (k lost : Fin 3) (c : CorrSet) (o g : List Int),
    let p := s.phase d
    let q := s.target d
    let set := s.laneSet d k
    let a := s.adc.get d
    let full : Prop := s.rd d F.ADC_ROT_STAT_ROUNDS = 64
    (s.calLane d = none → ∀ x ∈ [Instr.selfcalStart d, .rotationDue d, .overlapStart d, .overlapEnd d, .voteEnd d, .judgedSwap d,
        .exitCheckDone d o g, .unservedPositionTakeover d], Yields x s (fun t => t = s)) ∧
    (s.calLane d = some k →
      (p = 0 ∨ p = 2 ∨ p = 6 → a.refOk = true → Yields (.selfcalStart d) s (fun t => t.phase d = (if p = 6 then 6 else 1) ∧
        (t.laneOf d k).calBusy = true ∧ Keeps s t)) ∧
      (p ≠ 0 → p ≠ 2 → p ≠ 6 → Yields (.selfcalStart d) s (fun t => t = s)) ∧
      ((s.laneOf d k).calBusy = true → s.on d F.ADC_LANE_CAL_RETIRED k = false → a.refOk = true →
        (corrPasses c = true → Yields (.selfcalDone d k c) s (fun t => t.on d F.ADC_LANE_CAL_CORR_VALID k = true ∧
          ((s.laneOf d k).doubt = false → t.on d F.ADC_LANE_CAL_SUSPECT k = false) ∧
          (t.laneOf d k).calBusy = false ∧ ((s.laneOf d k).fresh = none → t.laneSet d k = some c) ∧ Keeps s t ∧
          t.phase d = (if p ≠ 1 then p else if a.rotDue && a.coll.isSome then 6
            else if a.rotDue && !s.sqRuns d 0 && !s.sqRuns d 1 then 0 else 2))) ∧
        (corrPasses c = false → Yields (.selfcalDone d k c) s (fun t => t.on d F.ADC_LANE_CAL_SUSPECT k = true ∧
          t.on d F.ADC_ROT_EVT_SELFCAL_FAIL = true ∧ t.laneSet d k = set))) ∧
      ((s.laneOf d k).calBusy = false ∨ a.refOk = false → Yields (.selfcalDone d k c) s (fun t => t = s)) ∧
      (s.on d F.ADC_ROT_CFG_ROT_EN = false ∨ p = 3 ∨ p = 4 ∨ p = 6 ∨ p = 7 → Yields (.rotationDue d) s (fun t => t = s)) ∧
      (s.on d F.ADC_ROT_CFG_ROT_EN = true → p < 3 ∨ p = 5 →
        (∀ r, s.pickTarget d = some r → Yields (.rotationDue d) s (fun t =>
          t.target d = r ∧ t.rd d F.ADC_ROT_STAT_NEWCOMER = k.val ∧ t.adc.get d = { a with rotDue := true } ∧
          t.phase d = (if a.coll.isSome ∧ p ≠ 5 then 6 else p) ∧ OnlyRegs [fldAddr d F.ADC_ROT_STAT_PHASE 0 0] s t)) ∧
        (s.pickTarget d = none → set ≠ none → (s.laneOf d k).calBusy = false → Yields (.rotationDue d) s (fun t =>
          t.phase d = 0 ∧ (t.posLane d 0 = k.val ∨ t.posLane d 1 = k.val) ∧ (t.adc.get d).rotDue = false ∧ Keeps s t))) ∧
      (3 ≤ p → p ≤ 6 → Yields (.now d) s (fun t => t = s)) ∧
      (p = 0 → a.refOk = true → s.on d F.ADC_ROT_CFG_ROT_EN = true → Yields (.now d) s (fun t =>
        (t.laneOf d k).calBusy = true ∧ (t.adc.get d).rotDue = true ∧ (a.coll = none → t.phase d = 1))) ∧
      (p = 1 ∨ p = 2 ∨ p = 7 → Yields (.now d) s (fun t => exec (.rotationDue d) s = .next t)) ∧
      (p = 2 ∨ p = 6 → a.rotDue = true → (s.laneOf d k).fresh ≠ none → (s.laneOf d k).calBusy = false → a.coll = none →
        s.sqRuns d q = true → Yields (.overlapStart d) s (fun t =>
          t.phase d = 3 ∧ t.rd d F.ADC_ROT_STAT_ROUNDS = 0 ∧ (t.adc.get d).pairs = [] ∧ Keeps s t)) ∧
      (a.rotDue = false ∨ a.coll ≠ none ∨ (s.laneOf d k).fresh = none → Yields (.overlapStart d) s (fun t => t = s)) ∧
      (p = 3 → full → s.posLane d q < 3 →
        (s.pairsShort d = true → Yields (.overlapEnd d) s (fun t => t.on d F.ADC_ROT_EVT_INCONCL = true ∧ t.phase d = 0 ∧
          t.posLane d q = s.posLane d q)) ∧
        (s.pairsShort d = false → s.pairsAgree d = true → Yields (.overlapEnd d) s (fun t => t.on d F.ADC_ROT_EVT_SWAP = true ∧
          t.posLane d q = k.val ∧ t.rd d F.ADC_STAT_CAL_LANE = s.posLane d q ∧ t.phase d = 5 ∧
          t.on d F.ADC_LANE_CAL_SUSPECT k = false ∧
          t.rd d F.ADC_ROT_CNT_SWAPS = (s.rd d F.ADC_ROT_CNT_SWAPS + 1) % 2 ^ 16)) ∧
        (s.pairsShort d = false → s.pairsAgree d = false → Yields (.overlapEnd d) s (fun t => t.on d F.ADC_ROT_EVT_REFUSED = true ∧
          t.posLane d q = s.posLane d q ∧ (s.sqRuns d (1 - q) = true → (s.seqr d (1 - q)).unserved = false → t.phase d = 4) ∧
          (s.sqRuns d (1 - q) = false ∨ (s.seqr d (1 - q)).unserved = true → t.on d F.ADC_LANE_CAL_SUSPECT k = true)))) ∧
      (p = 4 → full → s.on d F.ADC_ROT_LAST_AGREE = false → Yields (.voteEnd d) s (fun t => t.posLane d q = s.posLane d q ∧
        (s.pairsShort d = false → s.pairsAgree d = true → t.on d F.ADC_ROT_LAST_AGREE = true ∧ t.phase d = 4) ∧
        (s.pairsShort d = true ∨ s.pairsAgree d = false → t.on d F.ADC_LANE_CAL_SUSPECT k = true))) ∧
      (p = 4 → full → s.on d F.ADC_ROT_LAST_AGREE = true → s.posLane d q < 3 → Yields (.judgedSwap d) s (fun t =>
        t.posLane d q = k.val ∧ t.on d F.ADC_ROT_EVT_JUDGED = true ∧ t.on d F.ADC_LANE_CAL_SUSPECT (s.posLane d q) = true)) ∧
      (let old : CorrSet := (s.laneOf d k).working.getD ⟨[], [], [], []⟩
       let ofs := o.getD 0 0 - old.ofs.getD 0 0
       let gain := g.getD 0 0 - old.gainPpm.getD 0 0
       p = 5 → (s.laneOf d k).calBusy = true → Yields (.exitCheckDone d o g) s (fun t => t.phase d = 0 ∧ (t.laneOf d k).fresh = none ∧
        t.rdI d F.ADC_LANE_DRIFT_OFS_DRIFT k = clampI (-32768) 32767 ofs ∧
        t.rdI d F.ADC_LANE_DRIFT_GAIN_DRIFT k = clampI (-32768) 32767 gain ∧
        (s.rd d F.ADC_ROT_LIM_LIM_MEAN < ofs.natAbs ∨ 500 < gain.natAbs → t.on d F.ADC_ROT_EVT_DRIFT = true))) ∧
      (p ≠ 5 ∨ (s.laneOf d k).calBusy = false → Yields (.exitCheckDone d o g) s (fun t => t = s)) ∧
      (let lostQ : Fin 2 := if s.posLane d 0 = lost.val then 0 else 1
       (s.posLane d lostQ = lost.val → s.on d F.ADC_LANE_CAL_RETIRED lost = false → lost ≠ k → Yields (.laneLost d lost) s (fun t =>
         t.on d F.ADC_LANE_CAL_RETIRED lost = true ∧ t.on d F.ADC_LANE_CAL_CORR_VALID lost = false ∧
         t.on d F.ADC_ROT_EVT_EMERGENCY = true ∧
         (set ≠ none → t.posLane d lostQ = k.val ∧ t.rd d F.ADC_STAT_CAL_LANE = 3 ∧ t.phase d = 7) ∧
         (set = none → (t.seqr d lostQ).unserved = true ∧ t.phase d = 1)))) ∧
      (let openQ : Fin 2 := if (s.seqr d 0).unserved then 0 else 1
       ((s.seqr d openQ).unserved = true → (s.laneOf d k).fresh ≠ none → (s.laneOf d k).calBusy = false →
         Yields (.unservedPositionTakeover d) s (fun t => t.posLane d openQ = k.val ∧ (t.seqr d openQ).unserved = false ∧
           t.phase d = 7 ∧ t.rd d F.ADC_STAT_CAL_LANE = 3)) ∧
       ((s.seqr d openQ).unserved = false → Yields (.unservedPositionTakeover d) s (fun t => t = s))))

/-- For a running context whose word at the program counter is a legal word of the opcode within its budget, without an
ECC error in what it reads: each instruction of R202's table leaves in Vd or ACCn the value of its Operation column,
raises SAT exactly where sat32 or sat64 clamps or DIV divides a value by 0, takes its cycles and goes on to the next
instruction. FSUM adds the clamped shares of R203 over records that lie in the window, writes them to word 3 only when
I[13] is set, and faults with cause 4 when a word lies outside. A word that names an accumulator above 1 is illegal.
Everything else is as before. (R198, R202, R203) -/
def Obligations.OlcArithmetic : Prop :=
  ∀ (s : State) (d n : Fin 8) (w : Word),
    let a := s.vreg d n (olcA w)
    let b := s.vreg d n (olcB w)
    let e := olcI w % 4096
    let q := olcI w % 32
    let acc := olcAcc (olcD w)
    let runs (op : Nat) (c : Instr) (P : State → Prop) : Prop :=
      s.olcErrors d = [] → s.olcReady d op = some (n, w) → Yields c s P
    runs 0x10 (.olcAdd d) (fun t => s.RanVSat t d n w 1 (a + b)) ∧
    runs 0x11 (.olcSub d) (fun t => s.RanVSat t d n w 1 (a - b)) ∧
    runs 0x12 (.olcAddi d) (fun t => s.RanVSat t d n w 1 (a + olcS w)) ∧
    runs 0x13 (.olcNeg d) (fun t => s.RanVSat t d n w 1 (-a)) ∧
    runs 0x14 (.olcAbs d) (fun t => s.RanVSat t d n w 1 (if a < 0 then -a else a)) ∧
    runs 0x15 (.olcMin d) (fun t => s.RanV t d n w 1 (min a b) false) ∧
    runs 0x16 (.olcMax d) (fun t => s.RanV t d n w 1 (max a b) false) ∧
    runs 0x17 (.olcShl d) (fun t => s.RanVSat t d n w 1 (a * 2 ^ q)) ∧
    runs 0x18 (.olcShr d) (fun t => s.RanV t d n w 1 (rhu a (2 ^ q)) false) ∧
    runs 0x19 (.olcMul d) (fun t => s.RanVSat t d n w 2 (coefMul a (s.coefM d e) (s.coefS d e))) ∧
    runs 0x1A (.olcMulv d) (fun t => s.RanVSat t d n w 2 (rhu (a * b) (2 ^ q))) ∧
    runs 0x1B (.olcMac d) (fun t =>
      let y := s.accreg d n acc + coefMul a (s.coefM d e) (s.coefS d e)
      s.RanAcc t d n 2 acc (sat64 y) (decide (sat64 y ≠ y))) ∧
    runs 0x1C (.olcMacv d) (fun t =>
      let y := s.accreg d n acc + rhu (a * b) (2 ^ q)
      s.RanAcc t d n 2 acc (sat64 y) (decide (sat64 y ≠ y))) ∧
    runs 0x1D (.olcDiv d) (fun t =>
      (0 < b → s.RanVSat t d n w 18 (rhu (a * 2 ^ q) b)) ∧ (b < 0 → s.RanVSat t d n w 18 (rhu (-(a * 2 ^ q)) (-b))) ∧
      (b = 0 → s.RanV t d n w 18 (if a = 0 then 0 else if 0 < a then 2147483647 else -2147483648) (decide (a ≠ 0)))) ∧
    runs 0x1F (.olcSeln d) (fun t => s.RanV t d n w 1 (if s.vreg d n (olcD w) < 0 then a else b) false) ∧
    (let m := (olcB w).val + 1
     let base := olcI w % 2048
     ((s.dataIdx d n base = none ∨ s.dataIdx d n (base + 4 * m - 1 : Nat) = none) →
       runs 0x1E (.olcFsum d) (fun t => s.Faulted t d n 4)) ∧
     (∀ j, s.dataIdx d n base = some j → s.dataIdx d n (base + 4 * m - 1 : Nat) ≠ none →
       let raw (k : Nat) : Int := rhu (a * s.dataGet d (j + 4 * k)) (2 ^ 16)
       let share (k : Nat) : Int := min (max (sat32 (raw k)) (s.dataGet d (j + 4 * k + 1))) (s.dataGet d (j + 4 * k + 2))
       let sum (k : Nat) : Int := (List.range k).foldl (fun x i => sat64 (x + share i)) (s.accreg d n acc)
       runs 0x1E (.olcFsum d) (fun t =>
         s.RanAcc { t with mem := s.mem, upsets := s.upsets } d n (4 + m) acc (sum m)
           ((List.range m).any (fun k => decide (sat32 (raw k) ≠ raw k) || decide (sum (k + 1) ≠ sum k + share k))) ∧
         (bitOf (olcI w) 13 = false → t.mem = s.mem) ∧
         (bitOf (olcI w) 13 = true → ∀ k, k < m → t.dataGet d (j + 4 * k + 3) = share k) ∧
         (∀ x, (∀ k, k < m → x < dataKey d (j + 4 * k + 3) ∨ dataKey d (j + 4 * k + 3) + 4 ≤ x) → t.byte x = s.byte x)))) ∧
    (olcOp w ∈ [0x09, 0x0B, 0x1B, 0x1C, 0x1E] → 1 < (olcD w).val → s.olcLegal d w = false) ∧
    (olcOp w = 0x0A → 1 < (olcA w).val → s.olcLegal d w = false)

/-- For a running context at a legal word within its budget, without an ECC error in what it reads: each load and move
leaves in Vd or ACCn the value its row of R201 gives, LDS and LDR with their flags; STR queues a message to the die it
names, or to every other present die on a broadcast; LDD and STD reach their data word, and outside the window fault
with cause 4. INTG, FILT, LIM, TRACK, MINSEL and MAXSEL leave the values of R204, the last two with the position of
the first best candidate in WIN. Everything else is as before. (R175, R176, R177, R194, R196, R197, R201, R204) -/
def Obligations.OlcMovesAndControl : Prop :=
  ∀ (s : State) (d n : Fin 8) (w : Word),
    let a := s.vreg d n (olcA w)
    let b := s.vreg d n (olcB w)
    let v := s.vreg d n (olcD w)
    let i := olcI w
    let e := i % 4096
    let mul (x : Int) : Int := coefMul x (s.coefM d e) (s.coefS d e)
    let runs (op : Nat) (c : Instr) (P : State → Prop) : Prop :=
      s.olcErrors d = [] → s.olcReady d op = some (n, w) → Yields c s P
    runs 0x00 (.olcNop d) (fun t => s.Ran t d n 1 (s.ctx d n).v (s.ctx d n).acc false false false) ∧
    runs 0x01 (.olcLdi d) (fun t => s.RanV t d n w 1 (sext 14 i) false) ∧
    runs 0x02 (.olcLdk d) (fun t => s.RanV t d n w 1 (s.coefM d e) false) ∧
    runs 0x03 (.olcMov d) (fun t => s.RanV t d n w 1 a false) ∧
    (let c := i % 128
     let word := (s.sample d c).toNat
     runs 0x04 (.olcLds d) (fun t =>
       (s.ldsExists d c = true → s.Ran t d n 1 (upd (s.ctx d n).v (olcD w) (fun _ => BitVec.ofInt 32 (sext 16 word)))
         (s.ctx d n).acc (bitOf word 29) (bitsOf word 27 2 == 3 ||
           ((!s.on d F.ADC_CELL_EN c || s.on d F.ADC_CELL_RETIRED c) && !bitOf (s.oxe.get d).fresh.toNat c)) (bitOf word 31)) ∧
       (s.ldsExists d c = false → s.Ran t d n 1 (upd (s.ctx d n).v (olcD w) (fun _ => 0)) (s.ctx d n).acc false true false))) ∧
    runs 0x05 (.olcLdr d) (fun t => s.Ran t d n 1
      (upd (s.ctx d n).v (olcD w) (fun _ => ((s.remoteGet d (i % 512)).map (·.1)).getD 0)) (s.ctx d n).acc false
      (match s.remoteGet d (i % 512) with | some (_, k) => k != s.tick d && k + 1 != s.tick d | none => true) false) ∧
    (let msg (x : Nat) : StrMsg := ⟨x, i % 512, BitVec.ofInt 32 a⟩
     (bitOf i 12 = false → bitsOf i 9 3 ≠ d.val → runs 0x06 (.olcStr d) (fun t =>
       (t.oxe.get d).sendq = (s.oxe.get d).sendq ++ [msg (bitsOf i 9 3)] ∧ t.vreg d n = s.vreg d n ∧
       (t.ctx d n).cyc = (s.ctx d n).cyc + 1 ∧ t.regs = s.regs ∧ Keeps s t)) ∧
     (d = 0 → bitOf i 12 = true → runs 0x06 (.olcStr d) (fun t =>
       (t.oxe.get 0).sendq = (s.oxe.get 0).sendq ++ (((List.range 8).filter (fun x => x ≠ 0 && s.present x)).map msg) ∧
       (s.present 0 = true → t.remoteGet 0 (i % 512) = some (BitVec.ofInt 32 a, s.tick 0)) ∧ Keeps s t)) ∧
     (d = 0 → bitOf i 12 = false → bitsOf i 9 3 = 0 → runs 0x06 (.olcStr d) (fun t =>
       t.remoteGet 0 (i % 512) = some (BitVec.ofInt 32 a, s.tick 0) ∧ (t.oxe.get 0).sendq = (s.oxe.get 0).sendq ∧ Keeps s t))) ∧
    (s.dataIdx d n (s.dataOff d n w) = none →
      runs 0x07 (.olcLdd d) (fun t => s.Faulted t d n 4) ∧ runs 0x08 (.olcStd d) (fun t => s.Faulted t d n 4)) ∧
    (∀ j, s.dataIdx d n (s.dataOff d n w) = some j →
      runs 0x07 (.olcLdd d) (fun t => s.RanV t d n w 1 (s.dataGet d j) false) ∧
      runs 0x08 (.olcStd d) (fun t => t.dataGet d j = b ∧ StoresAt (dataKey d j) 4 s t ∧
        s.Ran { t with mem := s.mem, upsets := s.upsets } d n 1 (s.ctx d n).v (s.ctx d n).acc false false false)) ∧
    runs 0x09 (.olcLda d) (fun t => s.RanAcc t d n 1 (olcAcc (olcD w)) a false) ∧
    runs 0x0A (.olcMva d) (fun t => s.RanVSat t d n w 1 (s.accreg d n (olcAcc (olcA w)))) ∧
    runs 0x0B (.olcClra d) (fun t => s.RanAcc t d n 1 (olcAcc (olcD w)) 0 false) ∧
    runs 0x0C (.olcLdp d) (fun t =>
      (i / 4 % 4 = 0 → s.RanV t d n w 1 (s.rdI d F.OXE_PORT_OUT (i % 4)) false) ∧
      (i / 4 % 4 = 1 → s.RanV t d n w 1 (s.rdI d F.OXE_PORT_DERATE (i % 4)) false) ∧
      (i / 4 % 4 = 2 → s.RanV t d n w 1
        ((s.rd d F.OXE_PORT_OVR_ACTIVE (i % 4) + 2 * s.rd d F.OXE_PORT_OVR_AT_ZERO (i % 4) : Nat)) false)) ∧
    runs 0x0D (.olcRdw d) (fun t => s.RanV t d n w 1 (s.rd d F.OXE_CTX_STAT_WIN n : Nat) false) ∧
    runs 0x20 (.olcIntg d) (fun t =>
      s.RanV t d n w 2 (clampLH (s.coefM d (e + 1)) (s.coefM d (e + 2)) (sat32 (v + mul a))) (decide (sat32 (v + mul a) ≠ v + mul a))) ∧
    runs 0x21 (.olcFilt d) (fun t => s.RanVSat t d n w 2 (v + mul (a - v))) ∧
    runs 0x22 (.olcLim d) (fun t => s.RanV t d n w 1 (clampLH (s.coefM d e) (s.coefM d (e + 1)) a) false) ∧
    runs 0x23 (.olcTrack d) (fun t =>
      s.RanV t d n w 2 (clampLH (s.coefM d (e + 1)) (s.coefM d (e + 2)) (sat32 (v + mul (b - a))))
        (decide (sat32 (v + mul (b - a)) ≠ v + mul (b - a)))) ∧
    (let cand (p : Nat) : Int := ((s.ctx d n).v.toList.getD ((olcA w).val + p) 0).toInt
     let won (t : State) (p : Nat) : Prop := s.RanWin t d n (3 + i % 16)
       (upd (s.ctx d n).v (olcD w) (fun _ => BitVec.ofInt 32 (cand p))) (s.ctx d n).acc p false false false
     runs 0x24 (.olcMinsel d) (fun t => ∃ p, p ≤ i % 16 ∧ won t p ∧
       ∀ r, r ≤ i % 16 → cand p ≤ cand r ∧ (r < p → cand p < cand r)) ∧
     runs 0x25 (.olcMaxsel d) (fun t => ∃ p, p ≤ i % 16 ∧ won t p ∧
       ∀ r, r ≤ i % 16 → cand r ≤ cand p ∧ (r < p → cand r < cand p)))

/-- Loop code's injection, capture, correlation, outputs and events, and its branches, loops, calls, waits and end (R182, R183, R184, R190, R205, R206, R207, R208, R209, R210, R211) -/
def Obligations.OlcOutputsAndFlow : Prop :=
  ∀ (s : State) (d n : Fin 8) (w : Word),
    let a := s.vreg d n (olcA w)
    let b := s.vreg d n (olcB w)
    let i := olcI w
    let k : Fin 4 := olcPort w
    let c := s.ctx d n
    let m := i % 16 + 1
    let runs (op : Nat) (x : Instr) (P : State → Prop) : Prop :=
      s.olcErrors d = [] → s.olcReady d op = some (n, w) → Yields x s P
    let went (op : Nat) (x : Instr) (taken : Prop) : Prop :=
      runs op x (fun t => (taken → s.WentTo t d n 2 (i % 8192) (branchStack c.stack (i % 8192))) ∧
        (¬taken → s.WentTo t d n 1 (endTest c.stack c.pc).2 (endTest c.stack c.pc).1))
    let flag (j : Nat) (f : Fld) : Prop := bitOf (olcB w).val j = true ∧ s.on d f n = true
    let anyFlag : Prop := flag 0 F.OXE_CTX_STAT_SAT ∨ flag 1 F.OXE_CTX_STAT_INV ∨ flag 2 F.OXE_CTX_STAT_SWP
    (let x := (if bitOf (olcB w).val 2 then a * s.genOut d ((olcB w).val % 4) else s.genOut d ((olcB w).val % 4)) * s.coefM d (i % 4096)
     runs 0x28 (.olcInj d) (fun t => s.RanVSat t d n w 2 (a + rhu x (2 ^ (62 - s.coefS d (i % 4096)).toNat)))) ∧
    (let act := s.on d F.OXE_CAP_STAT_ACT
     let fill := s.rd d F.OXE_CAP_STAT_FILL
     let written (t : State) (side : Bool) (start : Nat) : Prop :=
       (∀ j, j < m → t.mword (capBufKey d side (start + j)) = (c.v.toList.getD ((olcA w).val + j) 0)) ∧
       (∀ x, x < capBufKey d side start ∨ capBufKey d side start + 4 * m ≤ x → t.byte x = s.byte x)
     runs 0x29 (.olcCap d) (fun t => (t.ctx d n).cyc = c.cyc + m ∧ (t.ctx d n).v = c.v ∧
       (s.on d (capFull act) = true → t.mem = s.mem ∧ t.rd d F.OXE_CAP_OVF = min 0xFFFFFFFF (s.rd d F.OXE_CAP_OVF + m)) ∧
       (s.on d (capFull act) = false → fill + m < 4096 → written t act fill ∧ t.rd d F.OXE_CAP_STAT_FILL = fill + m ∧
         t.on d F.OXE_CAP_STAT_ACT = act) ∧
       (s.on d (capFull act) = false → 4096 < fill + m → s.on d (capFull (!act)) = false → written t (!act) 0 ∧
         t.rd d F.OXE_CAP_STAT_FILL = m ∧ t.on d F.OXE_CAP_STAT_ACT = !act ∧ t.on d (capFull act) = true) ∧
       (s.on d (capFull act) = false → 4096 < fill + m → s.on d (capFull (!act)) = true → t.mem = s.mem ∧
         t.rd d F.OXE_CAP_OVF = min 0xFFFFFFFF (s.rd d F.OXE_CAP_OVF + m)))) ∧
    (let j : Fin 8 := ⟨i % 8, Nat.mod_lt _ (by decide)⟩
     let bin := (s.oxe.get d).bins.get j
     let nt := s.rd d F.OXE_COR_CTRL_NTARGET j
     let added : CorBin :=
       { bin with i := BitVec.ofInt 64 (sat64 (bin.i.toInt + rhu (a * corCos bin.phase) (2 ^ 30))),
                  q := BitVec.ofInt 64 (sat64 (bin.q.toInt + rhu (a * corSin bin.phase) (2 ^ 30))), n := bin.n + 1 }
     runs 0x2A (.olcCorr d) (fun t => (t.ctx d n).cyc = c.cyc + 2 ∧ (t.ctx d n).v = c.v ∧ Keeps s t ∧
       (∀ h, h ≠ j → (t.oxe.get d).bins.get h = (s.oxe.get d).bins.get h) ∧
       (nt = 0 ∨ bin.n + 1 < nt → (t.oxe.get d).bins.get j = added ∧ t.regs = s.regs) ∧
       (nt ≠ 0 → nt ≤ bin.n → s.on d F.OXE_COR_CTRL_AUTO j = false → (t.oxe.get d).bins.get j = bin ∧ t.regs = s.regs) ∧
       (nt = bin.n + 1 → t.on d F.OXE_COR_CTRL_DONE j = true ∧
         (s.on d F.OXE_COR_CTRL_AUTO j = false → (t.oxe.get d).bins.get j = added) ∧
         (s.on d F.OXE_COR_CTRL_AUTO j = true → (t.oxe.get d).bins.get j =
           { bin with i := 0, q := 0, n := 0, res := (added.i, added.q, nt) })))) ∧
    (∀ u : Bool, runs (if u then 0x2D else 0x2C) (if u then .olcOutu d else .olcOut d) (fun t =>
      (t.ctx d n).cyc = c.cyc + 1 ∧ (t.ctx d n).v = c.v ∧ Keeps s t ∧
      (s.rd d F.OXE_PORT_CFG_OWNER k ≠ n.val → t.rd d F.OXE_PORT_OUT k = s.rd d F.OXE_PORT_OUT k ∧ t.stl = s.stl ∧
        t.rd d F.OXE_PORT_CNT_FOREIGN k = satInc 255 (s.rd d F.OXE_PORT_CNT_FOREIGN k)) ∧
      (s.rd d F.OXE_PORT_CFG_OWNER k = n.val → s.on d F.OXE_PORT_OVR_ACTIVE k = true →
        t.rd d F.OXE_PORT_OUT k = s.rd d F.OXE_PORT_OUT k ∧ t.stl = s.stl ∧
        t.rd d F.OXE_PORT_CNT_DISCARDED k = satInc 4095 (s.rd d F.OXE_PORT_CNT_DISCARDED k)) ∧
      (s.rd d F.OXE_PORT_CFG_OWNER k = n.val → s.on d F.OXE_PORT_OVR_ACTIVE k = false →
        t.rdI d F.OXE_PORT_OUT k = clampI 0 (s.rdI d F.OXE_PORT_DERATE k) a ∧
        t.on d F.OXE_CTX_STAT_SAT n = (s.on d F.OXE_CTX_STAT_SAT n || decide (clampI 0 (s.rdI d F.OXE_PORT_DERATE k) a ≠ a)) ∧
        t.rd d F.OXE_PORT_WIN_WIN k = s.rd d F.OXE_CTX_STAT_WIN n ∧ (u = false → t.stl = s.stl) ∧
        (u = true → s.stlSends d k = true → (s.link d k).sending = none → (s.link d k).gap = false →
          (t.link d k).sending = some (BitVec.ofInt 32 (clampI 0 (s.rdI d F.OXE_PORT_DERATE k) a), false))))) ∧
    (let q (t : State) : List (Nat × Nat) := if bitOf i 13 then (t.oxe.get d).evtSafe else (t.oxe.get d).evtHost
     runs 0x2E (.olcEvt d) (fun t => (t.ctx d n).cyc = c.cyc + 1 ∧ Keeps s t ∧
       ((q s).length < 16 → q t = q s ++ [(i % 8192, n.val)] ∧ t.regs = s.regs) ∧
       (16 ≤ (q s).length → q t = q s ∧ t.on d F.OXE_ERR_EVTQ_OVF = true))) ∧
    went 0x30 (.olcBfs d) anyFlag ∧ went 0x31 (.olcBfc d) ¬anyFlag ∧
    runs 0x32 (.olcClf d) (fun t =>
      (∀ x ∈ [(0, F.OXE_CTX_STAT_SAT), (1, F.OXE_CTX_STAT_INV), (2, F.OXE_CTX_STAT_SWP)],
        t.on d x.2 n = (s.on d x.2 n && !bitOf (olcB w).val x.1)) ∧ (t.ctx d n).cyc = c.cyc + 1 ∧
      OnlyRegs [fldAddr d F.OXE_CTX_STAT_SAT n 0] s t ∧ t.rd d F.OXE_CTX_STAT_STATE n = s.rd d F.OXE_CTX_STAT_STATE n) ∧
    went 0x34 (.olcBr d) True ∧ went 0x35 (.olcBeq d) (a = b) ∧ went 0x36 (.olcBne d) (a ≠ b) ∧ went 0x37 (.olcBlt d) (a < b) ∧
    went 0x38 (.olcBge d) (b ≤ a) ∧
    runs 0x39 (.olcLoop d) (fun t =>
      (a ≤ 0 → s.WentTo t d n 2 (endTest c.stack (i % 8192)).2 (endTest c.stack (i % 8192)).1) ∧
      (0 < a → c.stack.length < 8 → s.WentTo t d n 1 (c.pc + 1) (.loop (c.pc + 1) (i % 8192) a.toNat :: c.stack)) ∧
      (0 < a → 8 ≤ c.stack.length → s.Faulted t d n 5)) ∧
    runs 0x3A (.olcCall d) (fun t =>
      (c.stack.length < 8 → s.WentTo t d n 2 (i % 8192) (.call (c.pc + 1) :: c.stack)) ∧
      (8 ≤ c.stack.length → s.Faulted t d n 5)) ∧
    runs 0x3B (.olcRet d) (fun t =>
      (∀ l r x, c.stack = l ++ .call r :: x → (∀ y ∈ l, ∀ z, y ≠ .call z) →
        s.WentTo t d n 2 (endTest x (r - 1)).2 (endTest x (r - 1)).1) ∧
      ((∀ y ∈ c.stack, ∀ z, y ≠ .call z) → s.Faulted t d n 5)) ∧
    (let here : Prop := (olcB w).val = 3 ∧ ∃ x, s.remoteGet d i = some (x, s.tick d)
     runs 0x3C (.olcWait d) (fun t =>
       (here → s.RanV t d n w 1 1 false) ∧ (¬here → a = 0 → s.RanV t d n w 1 0 false) ∧
       (¬here → a ≠ 0 → t.ctxSt d n = 5 ∧ t.on d F.OXE_STAT_IDLE = true ∧ (t.ctx d n).v = c.v ∧ (t.ctx d n).cyc = c.cyc + 1 ∧
         (t.ctx d n).waiting = some ((olcB w).val, i, (olcD w).val) ∧ Keeps s t))) ∧
    runs 0x3F (.olcEnd d) (fun t => t.ctxSt d n = 1 ∧ t.on d F.OXE_STAT_IDLE = true ∧ (t.ctx d n).stack = [] ∧ (t.ctx d n).v = c.v ∧
      t.rd d F.OXE_CTX_CYC_LAST n = min (c.cyc + 1) 16383 ∧
      t.rd d F.OXE_CTX_CYC_MAX n = max (s.rd d F.OXE_CTX_CYC_MAX n) (min (c.cyc + 1) 16383) ∧ Keeps s t) ∧
    (∀ x ∈ [(0x00, Instr.olcNop d), (0x08, .olcStd d), (0x10, .olcAdd d), (0x1E, .olcFsum d), (0x24, .olcMinsel d), (0x2D, .olcOutu d),
        (0x34, .olcBr d), (0x39, .olcLoop d), (0x3A, .olcCall d), (0x3B, .olcRet d), (0x3C, .olcWait d), (0x3F, .olcEnd d)],
      (s.olcErrors d = [] → s.olcReady d x.1 = none → Yields x.2 s (fun t => t = s)) ∧
      (s.running d = some n → c.pc ≤ 8191 → c.cyc ≤ s.rd d F.OXE_CTX_CFG_BUDGET n → s.eccAt (progKey d c.pc) = some true →
        Yields x.2 s (fun t => s.Faulted t d n 6 ∧ t.on d F.OXE_ERR_ECC_UNCORR = true))) ∧
    (∀ j, s.dataIdx d n (s.dataOff d n w) = some j → s.olcReady d 0x07 = some (n, w) →
      (s.eccAt (progKey d c.pc) = none → s.eccAt (dataKey d j) = some true →
        Yields (.olcLdd d) s (fun t => t.ctxSt d n = 6 ∧ t.rd d F.OXE_CTX_STAT_CAUSE n = 6 ∧
          t.on d F.OXE_ERR_ECC_UNCORR = true ∧ t.vreg d n (olcD w) = s.dataGet d j)) ∧
      (s.eccAt (progKey d c.pc) = none → s.eccAt (dataKey d j) = some false →
        Yields (.olcLdd d) s (fun t => t.ctxSt d n = s.ctxSt d n ∧ t.on d F.OXE_ERR_ECC_CORR = true ∧
          t.vreg d n (olcD w) = s.dataGet d j ∧ (t.oxe.get d).eccCorr = (s.oxe.get d).eccCorr + 1 ∧
          t.eccAt (dataKey d j) = none)))

/-- Contexts are triggered, dispatched by priority, faulted, restarted; the engine starts after its CRC and stops when
safe (R168, R169, R170, R171, R172, R176, R188, R189, R211, R212) -/
def Obligations.EngineContexts : Prop :=
  ∀ (s : State) (d n : Fin 8) (src : Fin 8),
    let st := s.ctxSt d n
    let c := s.ctx d n
    let up := (s.oxe.get d).started
    let mine : Prop := up = true ∧ s.rd d F.OXE_CTX_TRIG_SRC n = src.val ∧ 0 < c.owed
    let soft : Prop := up = true ∧ s.rd d F.OXE_CTX_TRIG_SRC n = 6
    let hit : Prop := c.events % (s.rd d F.OXE_CTX_TRIG_DIVM1 n + 1) = s.rd d F.OXE_CTX_TRIG_PHASE n % (s.rd d F.OXE_CTX_TRIG_DIVM1 n + 1)
    let took (t : State) : Prop := t.ctx d n = { c with owed := c.owed - 1 } ∧ Keeps s t
    let taken (t : State) : Prop := t.ctxSt d n = 3 ∧ t.rd d F.OXE_STAT_CUR_CTX = n.val ∧ t.on d F.OXE_STAT_IDLE = false ∧
      (t.ctx d n).v = c.v ∧ (t.ctx d n).acc = c.acc ∧ Keeps s t ∧
      (st = 2 → c.resumed = false → (t.ctx d n).pc = s.rd d F.OXE_CTX_CFG_ENTRY n ∧ (t.ctx d n).stack = [] ∧ (t.ctx d n).cyc = 4 ∧
        t.rd d F.OXE_CTX_CNT_ACT n = (s.rd d F.OXE_CTX_CNT_ACT n + 1) % 2 ^ 24) ∧
      (st = 2 → c.resumed = true → (t.ctx d n).pc = c.pc ∧ (t.ctx d n).stack = c.stack ∧ (t.ctx d n).cyc = c.cyc + 4) ∧
      (st = 4 → t.ctx d n = c)
    (soft → Yields (.swtrig d n) s (fun t => t.ctx d n = { c with events := c.events + 1, owed := c.owed + (if hit then 1 else 0) } ∧
      t.regs = s.regs ∧ Keeps s t)) ∧
    (¬soft → Yields (.swtrig d n) s (fun t => t = s)) ∧
    (mine → st = 1 → Yields (.contextTrigger d n src) s (fun t => t.ctxSt d n = 2 ∧ took t)) ∧
    (mine → 2 ≤ st → st ≤ 5 → Yields (.contextTrigger d n src) s (fun t => took t ∧
      t.rd d F.OXE_CTX_CNT_OVERRUNS n = satInc 255 (s.rd d F.OXE_CTX_CNT_OVERRUNS n) ∧
      (n.val ≤ 4 → t.ctxSt d n = 6 ∧ t.rd d F.OXE_CTX_STAT_CAUSE n = 1) ∧ (4 < n.val → t.ctxSt d n = st))) ∧
    (mine → st = 0 ∨ 6 ≤ st → Yields (.contextTrigger d n src) s (fun t => took t ∧ t.regs = s.regs)) ∧
    (¬mine → Yields (.contextTrigger d n src) s (fun t => t = s)) ∧
    (∀ r, s.running d = some r → st = 2 → n < r → (∀ m, m < n → s.ctxSt d m ≠ 2) → Yields (.contextDispatch d) s (fun t =>
      t.ctxSt d r = 4 ∧ t.ctx d r = s.ctx d r ∧ taken t)) ∧
    (∀ r, s.running d = some r → (∀ m, m < r → s.ctxSt d m ≠ 2) → Yields (.contextDispatch d) s (fun t => t = s)) ∧
    (up = true → s.running d = none → (st = 2 ∨ st = 4) → (∀ m, m < n → s.ctxSt d m ≠ 2 ∧ s.ctxSt d m ≠ 4) →
      Yields (.contextDispatch d) s taken) ∧
    (up = false ∨ (s.running d = none ∧ ∀ m, s.ctxSt d m ≠ 2 ∧ s.ctxSt d m ≠ 4) → Yields (.contextDispatch d) s (fun t => t = s)) ∧
    (s.running d = some n →
      (s.rd d F.OXE_CTX_CFG_BUDGET n < c.cyc → Yields (.budgetExceeded d) s (fun t => s.Faulted t d n 2)) ∧
      (c.cyc ≤ s.rd d F.OXE_CTX_CFG_BUDGET n → Yields (.budgetExceeded d) s (fun t => t = s)) ∧
      (s.olcFetch d c.pc = none → Yields (.illegalInstruction d) s (fun t => s.Faulted t d n 3)) ∧
      (∀ w, s.olcFetch d c.pc = some w → s.olcLegal d w = false → Yields (.illegalInstruction d) s (fun t => s.Faulted t d n 3)) ∧
      (∀ w, s.olcFetch d c.pc = some w → s.olcLegal d w = true → Yields (.illegalInstruction d) s (fun t => t = s))) ∧
    (s.running d = none → Yields (.budgetExceeded d) s (fun t => t = s) ∧ Yields (.illegalInstruction d) s (fun t => t = s)) ∧
    (∀ ev par (vd : Fin 16), c.waiting = some (ev, par, vd.val) → st = 5 → Yields (.waitTimeout d n) s (fun t => t.ctxSt d n = 2 ∧
      (t.ctx d n).waiting = none ∧ (t.ctx d n).resumed = true ∧ (t.ctx d n).pc = c.pc ∧ t.vreg d n vd = 0 ∧
      (∀ r, r ≠ vd → t.vreg d n r = s.vreg d n r) ∧ Keeps s t)) ∧
    (c.waiting = none ∨ st ≠ 5 → Yields (.waitTimeout d n) s (fun t => t = s)) ∧
    (s.on d F.OXE_CTRL_RUN = false → s.hold = false → Yields (.engineRun d) s (fun t => t.on d F.OXE_CTRL_RUN = true ∧ t.on d F.OXE_STAT_CRC_DONE = false ∧
      (t.oxe.get d).crcBusy = true ∧ (t.oxe.get d).started = false ∧ (t.oxe.get d).fresh = 0 ∧ Keeps s t)) ∧
    (s.on d F.OXE_CTRL_RUN = true ∨ s.hold = true → Yields (.engineRun d) s (fun t => t = s)) ∧
    ((s.oxe.get d).crcBusy = true → s.hold = false → s.eccWithin (progKey d 0) 0x8000 = [] → Yields (.engineCrcDone d) s (fun t => (t.oxe.get d).started = true ∧ (t.oxe.get d).crcBusy = false ∧
      t.rd d F.OXE_PROG_CRC = crc32 (s.crcWords d) % 2 ^ 32 ∧ t.on d F.OXE_STAT_CRC_DONE = true ∧ t.on d F.OXE_STAT_RUNNING = true ∧
      (t.ctx d n).events = 0 ∧ (t.ctx d n).owed = 0 ∧ t.ctxSt d n = (if st = 6 then 6 else s.rd d F.OXE_CTX_CFG_EN n) ∧ Keeps s t)) ∧
    ((s.oxe.get d).crcBusy = false ∨ s.hold = true → Yields (.engineCrcDone d) s (fun t => t = s)) ∧
    (let safe : Prop := ∀ k : Fin 4, s.inhDriven (portOf d k) = true ∨
       (s.on d F.OXE_PORT_OVR_ACTIVE k = true ∧ s.on d F.OXE_PORT_OVR_AT_ZERO k = true)
     (s.on d F.OXE_CTRL_RUN = true → safe → Yields (.engineStop d) s (fun t => t.on d F.OXE_CTRL_RUN = false ∧
       t.on d F.OXE_STAT_RUNNING = false ∧ t.on d F.OXE_STAT_IDLE = true ∧ (t.oxe.get d).started = false ∧
       t.ctxSt d n = (if st = 6 then 6 else s.rd d F.OXE_CTX_CFG_EN n) ∧ (t.ctx d n).v = c.v ∧ Keeps s t)) ∧
     (s.on d F.OXE_CTRL_RUN = true → ¬safe → Yields (.engineStop d) s (fun t => t.on d F.OXE_ERR_STOP_REFUSED = true ∧
       t.oxe = s.oxe ∧ OnlyRegs [fldAddr d F.OXE_ERR_STOP_REFUSED 0 0] s t)) ∧
     (s.on d F.OXE_CTRL_RUN = false → Yields (.engineStop d) s (fun t => t = s))) ∧
    (st = 6 → s.isRetired d 2 0x08 n = false → Yields (.contextRestart d n) s (fun t => t.ctxSt d n = 1 ∧
      t.rd d F.OXE_CTX_STAT_CAUSE n = 0 ∧ (t.ctx d n).v = c.v ∧ Keeps s t)) ∧
    (st ≠ 6 ∨ s.isRetired d 2 0x08 n = true → Yields (.contextRestart d n) s (fun t => t = s)) ∧
    Yields (.clrFlags d n) s (fun t => t.flagsOf d n 7 = 0 ∧ t.ctxSt d n = st ∧ t.rd d F.OXE_CTX_STAT_WIN n = s.rd d F.OXE_CTX_STAT_WIN n ∧
      WritesOnly [fldAddr d F.OXE_CTX_STAT_SAT n 0] s t) ∧
    Yields (.clrMax d n) s (fun t => t.rd d F.OXE_CTX_CYC_MAX n = 0 ∧ t.rd d F.OXE_CTX_CYC_LAST n = s.rd d F.OXE_CTX_CYC_LAST n ∧
      WritesOnly [fldAddr d F.OXE_CTX_CYC_MAX n 0] s t)

/-- An override takes effect at once, by ramp from the present output or at zero, and its urgent frame leaves; it is
released only at zero in the states of R181. A coefficient entry is taken whole on its second word. GEN_SYNC awaits
the grid edge; CLR empties a bin; a read of I_LO latches the bin's sums, or with AUTO its last result, as one set. A
pop returns the oldest event. Released capture buffers restart empty or take over. A held port's record, a lost
buffer's limits and setpoint, and the sums of a lost grid measurement become 0 with their status; an invalid
allocation word counts as candidate 1 at 0. (R180, R181, R182, R183, R184, R187, R205, R238, R239) -/
def Obligations.OutputsAndHolds : Prop :=
  ∀ (s : State) (d j : Fin 8) (k : Fin 4) (ms : Fin 64) (e : Fin 4096) (w : Word) (p : Fin 32),
    let out := s.rd d F.OXE_PORT_OUT k
    let free : Prop := s.stlSends d k = true ∧ (s.link d k).sending = none ∧ (s.link d k).gap = false
    Yields (.overrideRamp d k ms) s (fun t => t.on d F.OXE_PORT_OVR_ACTIVE k = true ∧ t.rd d F.OXE_PORT_OVR_MODE k = 1 ∧
      t.rd d F.OXE_PORT_OVR_RAMP_MS k = (if ms.val = 0 then 1 else min 50 ms.val) ∧ t.rd d F.OXE_PORT_OUT k = out ∧
      (t.on d F.OXE_PORT_OVR_AT_ZERO k = true ↔ out = 0) ∧ (t.ovr d k).v0 = out ∧
      (free → (t.link d k).sending = some (BitVec.ofNat 32 out, true)) ∧ Keeps s t) ∧
    Yields (.overrideZero d k) s (fun t => t.on d F.OXE_PORT_OVR_ACTIVE k = true ∧ t.rd d F.OXE_PORT_OVR_MODE k = 2 ∧
      t.rd d F.OXE_PORT_OUT k = 0 ∧ t.on d F.OXE_PORT_OVR_AT_ZERO k = true ∧ (free → (t.link d k).sending = some (0, true)) ∧ Keeps s t) ∧
    (let ok : Prop := s.on d F.OXE_PORT_OVR_AT_ZERO k = true ∧ (s.psState d k = 3 ∨ s.psState d k = 4 ∨
       (s.psState d k = 5 ∧ (s.ovr d k).direct = true ∧ (s.ovr d k).written = false))
     (ok → Yields (.overrideRelease d k) s (fun t => t.on d F.OXE_PORT_OVR_ACTIVE k = false ∧ t.rd d F.OXE_PORT_OVR_MODE k = 0 ∧
       t.on d F.OXE_PORT_OVR_AT_ZERO k = false ∧ WritesOnly [fldAddr d F.OXE_PORT_OVR_MODE k 0] s t)) ∧
     (¬ok → Yields (.overrideRelease d k) s (fun t => t = s))) ∧
    Yields (.coefEntryWrite d e w) s (fun t =>
      let low := ((s.oxe.get d).coefLow.find? (fun x => x.1 == e.val)).map (·.2)
      t.mword (regAddr d (0x0A0004 + 8 * e)) = (w &&& 0x3F) ∧
      t.mword (regAddr d (0x0A0000 + 8 * e)) = low.getD (s.mword (regAddr d (0x0A0000 + 8 * e))) ∧
      (t.oxe.get d).coefLow.find? (fun x => x.1 == e.val) = none ∧ StoresAt (regAddr d (0x0A0000 + 8 * e)) 8 s t) ∧
    Yields (.genSync d) s (fun t => (t.oxe.get d).sync = true ∧ (t.oxe.get d).dds = (s.oxe.get d).dds ∧ t.regs = s.regs ∧ Keeps s t) ∧
    Yields (.corrClear d j) s (fun t => (t.oxe.get d).bins.get j = { (s.oxe.get d).bins.get j with i := 0, q := 0, n := 0 } ∧
      t.on d F.OXE_COR_CTRL_DONE j = false ∧ OnlyRegs [fldAddr d F.OXE_COR_CTRL_DONE j 0] s t) ∧
    Yields (.corrReadLatch d j) s (fun t =>
      let bin := (s.oxe.get d).bins.get j
      let set := if s.on d F.OXE_COR_CTRL_AUTO j then bin.res else (bin.i, bin.q, bin.n)
      t.rd d F.OXE_COR_RES j 0 + 2 ^ 32 * t.rd d F.OXE_COR_RES j 1 = set.1.toNat ∧
      t.rd d F.OXE_COR_RES j 2 + 2 ^ 32 * t.rd d F.OXE_COR_RES j 3 = set.2.1.toNat ∧ t.rd d F.OXE_COR_RES j 4 = set.2.2 % 2 ^ 32 ∧
      t.oxe = s.oxe ∧ Keeps s t) ∧
    (∀ safe : Bool,
      let q (x : State) : List (Nat × Nat) := if safe then (x.oxe.get d).evtSafe else (x.oxe.get d).evtHost
      Yields (.evtqPop d safe) s (fun t => q t = (q s).drop 1 ∧ t.regs = s.regs ∧ Keeps s t ∧
        t.hpiOut = [((q s).head?.map (fun x => BitVec.ofNat 32 (x.1 + 0x10000 * x.2 + 0x80000000))).getD 0])) ∧
    (∀ a b : Bool,
      let act := s.on d F.OXE_CAP_STAT_ACT
      let keepsFull (f : Bool) : Bool := s.on d (capFull f) && !(if f then b else a)
      Yields (.capBufferRelease d a b) s (fun t => (∀ f, t.on d (capFull f) = keepsFull f) ∧
        (s.on d (capFull act) = false → t.on d F.OXE_CAP_STAT_ACT = act ∧ t.rd d F.OXE_CAP_STAT_FILL = s.rd d F.OXE_CAP_STAT_FILL) ∧
        (s.on d (capFull act) = true → keepsFull act = false → t.on d F.OXE_CAP_STAT_ACT = act ∧ t.rd d F.OXE_CAP_STAT_FILL = 0) ∧
        (keepsFull act = true → keepsFull (!act) = false → t.on d F.OXE_CAP_STAT_ACT = !act ∧ t.rd d F.OXE_CAP_STAT_FILL = 0) ∧
        WritesOnly [fldAddr d F.OXE_CAP_STAT 0 0] s t)) ∧
    (s.c4Runs 0 = true →
      (2 ≤ s.reportKind s.blockOf p → s.reportKind s.blockOf p ≤ 3 → Yields (.portHoldExpiry p) s (fun t =>
        (∀ i, i < 4 → t.aw (0x40 + 4 * p.val + i) = 0) ∧ t.aw (0x290 + p.val) = 3 ∧ t.alloc.last.get p = 0 ∧
        (t.oxe.get 0).sendq = (s.oxe.get 0).sendq ++ [⟨Port.die p, 384 + 2 * (Port.loc p).val, 0⟩] ∧ t.regs = s.regs)) ∧
      Yields (.bufferLiveTimeout k) s (fun t => t.alloc.setp.get k = 0 ∧ t.aw (0x2B0 + k.val) = 3 ∧
        (∀ ph, t.alloc.due = some ph → ph.dis.getD k.val 0 = 0 ∧ ph.chg.getD k.val 0 = 0)) ∧
      Yields .g0MeasurementLost s (fun t => t.alloc.lost.get 0 = true ∧ t.aw 0x29 = 0 ∧ t.aw 0x2A = 0 ∧ t.regs = s.regs ∧
        ∀ ph, t.alloc.due = some ph → bitOf ph.lost 0 = true) ∧
      (s.par s.blockOf 3 = 2 → Yields .g1MeasurementLost s (fun t => t.alloc.lost.get 1 = true ∧ t.aw 0x29 = 0 ∧ t.aw 0x2A = 0 ∧
        t.regs = s.regs ∧ ∀ ph, t.alloc.due = some ph → bitOf ph.lost 1 = true))) ∧
    (s.c4Runs 0 = false → ∀ x ∈ [Instr.portHoldExpiry p, .bufferLiveTimeout k, .g0MeasurementLost, .g1MeasurementLost],
      Yields x s (fun t => t = s)) ∧
    ((s.oxe.get d).started = true → s.remoteStale d (384 + 2 * k.val) = true → Yields (.allocationHoldExpiry d k) s (fun t =>
      (s.on d F.OXE_PORT_OVR_ACTIVE k = true → t.rd d F.OXE_PORT_OUT k = out) ∧
      (s.on d F.OXE_PORT_OVR_ACTIVE k = false → t.rdI d F.OXE_PORT_OUT k = clampI 0 (s.rdI d F.OXE_PORT_DERATE k) 0 ∧
        t.rd d F.OXE_PORT_WIN_WIN k = 1) ∧ Keeps s t)) ∧
    (s.remoteStale d (384 + 2 * k.val) = false → Yields (.allocationHoldExpiry d k) s (fun t => t = s))

/-- Port state requests are applied as the transition table lists them, else refused; cable check, precharge, lost link (R77, R242, R246, R248, R250, R251, R252, R253, R401) -/
def Obligations.PortStateRequests : Prop :=
  ∀ (s : State) (d : Fin 8) (k : Fin 4) (w : PsWriter) (ohm : Nat),
    let st := s.psState d k
    let ty := s.portType d k
    let veh : Bool := ty == 1 || ty == 2
    let permit := s.on d F.STL_PSAFE_PERMIT k
    let unlock := s.on d F.STL_PSAFE_UNLOCK_OK k
    let clean := !s.on d F.STL_PSAFE_FAULT_ACT k
    let life : Bool := s.lifeState == 1 || s.lifeState == 2
    let row (tgt : Nat) (src : List Nat) (dst : Nat) (who : List PsWriter) (cond : Bool) : Bool :=
      tgt == dst && src.contains st && decide (w ∈ who) && cond
    let listed (tgt : Nat) : Bool := (ty != 0 || st != 0) && (
      row tgt [0] 1 [.host] (veh && life) || row tgt [0] 5 [.host] (ty == 3 && permit && life) || row tgt [1] 2 [.host] true ||
      row tgt [1, 2] 8 [.host] true || row tgt [2] 3 [.host] permit ||
      row tgt [3] 4 [.host] (permit && s.on d F.STL_PSAFE_CC_PASS k) || row tgt [4] 5 [.host] permit ||
      row tgt [3, 4, 5] 6 [.host, .safe] true || row tgt [6] 7 [.safe] true || row tgt [7] 8 [.safe] (veh && unlock) ||
      row tgt [7] 0 [.safe] (ty == 3 && unlock) || row tgt [8] 0 [.host] unlock ||
      row tgt [0, 1, 2, 3, 4, 5, 6, 7, 8] 9 [.safe] true || row tgt [0, 1, 2, 7, 8] 9 [.host] true ||
      row tgt [9] 8 [.host] (veh && clean && unlock) || row tgt [9] 0 [.host] (ty == 3 && clean && unlock) ||
      row tgt [0, 9] 10 [.host] true || row tgt [10] 0 [.host] clean)
    let refused (t : State) (tgt : Nat) : Prop := t.psState d k = st ∧
      t.on d F.STL_PSTATE_REFUSED k = true ∧ t.rd d F.STL_PSTATE_REF_REQ k = tgt ∧ t.bit d F.STL_EVT_REFUSED k = true ∧
      WritesOnly [fldAddr d F.STL_PSTATE_REFUSED k 0, fldAddr d F.STL_EVT_REFUSED 0 0] s t
    (∀ x ∈ [(0, Instr.psreqIdle d k w), (1, .psreqConnected d k w), (2, .psreqAuthorising d k w), (3, .psreqCableCheck d k w),
        (4, .psreqPrecharge d k w), (5, .psreqCharging d k w), (6, .psreqRampDown d k w), (7, .psreqWeldCheck d k w),
        (8, .psreqUnlock d k w), (9, .psreqFault d k w), (10, .psreqRetired d k w)],
      (s.shadowing = true → Yields x.2 s (fun t => t = s)) ∧
      (s.shadowing = false → listed x.1 = true → Yields x.2 s (fun t => t.psState d k = x.1 ∧ t.rd d F.STL_PSTATE_PREV k = st ∧
        t.rd d F.STL_PSTATE_CHANGES k = (s.rd d F.STL_PSTATE_CHANGES k + 1) % 2 ^ F.STL_PSTATE_CHANGES.w ∧
        t.bit d F.STL_EVT_PSCHG k = true ∧ Keeps s t ∧
        (x.1 = 9 → t.rd d F.STL_PSTATE_CAUSE k = s.rd d F.STL_PSAFE_CAUSE k) ∧
        (x.1 = 6 → t.rd d F.OXE_PORT_OVR_MODE k = 1) ∧ (x.1 = 3 → t.on d F.STL_PSAFE_CC_PASS k = false) ∧
        (∀ e i, e ≠ d ∨ i ≠ k → t.psState e i = s.psState e i))) ∧
      (s.shadowing = false → listed x.1 = false → Yields x.2 s (fun t => refused t x.1))) ∧
    (st = 3 → Yields (.cableCheckInsulation d k ohm) s (fun t => t.rd d F.SAF_P_ISO_RISO k = min 65535 ohm ∧
      t.on d F.SAF_P_ISO_VALID k = true ∧ (t.on d F.SAF_P_ISO_WARN k = true ↔ ohm < 500) ∧
      (t.on d F.SAF_P_ISO_FAULT k = true ↔ ohm < 100) ∧ (ohm < 500 → t.bit d F.SAF_EVT_INSUL_WARN k = true) ∧ Keeps s t ∧
      (100 ≤ ohm → t.on d F.STL_PSAFE_CC_PASS k = true ∧ t.psState d k = 3) ∧
      (ohm < 100 → t.on d F.STL_PSAFE_FAULT_ACT k = true) ∧
      (ohm < 100 → s.shadowing = false → (s.safPort d k).tripOpen = none → t.psState d k = 6 ∧
        t.rd d F.OXE_PORT_OVR_MODE k = 1))) ∧
    (st ≠ 3 → Yields (.cableCheckInsulation d k ohm) s (fun t => t = s) ∧ Yields (.cableCheckTimeout d k) s (fun t => t = s)) ∧
    (st = 3 → s.shadowing = false → Yields (.cableCheckTimeout d k) s (fun t => t.psState d k = 9 ∧ Keeps s t)) ∧
    (st = 4 → s.shadowing = false → Yields (.prechargeTimeout d k) s (fun t => t.psState d k = 6 ∧
      t.rd d F.OXE_PORT_OVR_MODE k = 1 ∧ Keeps s t)) ∧
    (st ≠ 4 → Yields (.prechargeTimeout d k) s (fun t => t = s)) ∧
    (ty = 2 → s.on d F.T1S_P_STAT_LINK k = false → s.shadowing = false →
      (st = 1 ∨ st = 2 → Yields (.t1sLinkDownTimeout d k) s (fun t => t.psState d k = 8 ∧ t.rd d F.STL_PSTATE_PREV k = st ∧ Keeps s t)) ∧
      (3 ≤ st → st ≤ 5 → Yields (.t1sLinkDownTimeout d k) s (fun t => t.psState d k = 6 ∧ t.rd d F.STL_PSTATE_PREV k = st ∧
        t.rd d F.OXE_PORT_OVR_MODE k = 1 ∧ Keeps s t)) ∧
      (6 ≤ st → st ≤ 8 → Yields (.t1sLinkDownTimeout d k) s (fun t => refused t (if st = 6 then 6 else 8)))) ∧
    (ty ≠ 2 ∨ s.on d F.T1S_P_STAT_LINK k = true ∨ st = 0 ∨ 9 ≤ st ∨ s.shadowing = true →
      Yields (.t1sLinkDownTimeout d k) s (fun t => t = s)) ∧
    (s.shadowing = true → Yields (.cableCheckTimeout d k) s (fun t => t = s) ∧ Yields (.prechargeTimeout d k) s (fun t => t = s))

/-- A pilot measurement of a type 1 port shows its plateaus and diode check, and its state once three in a row agree;
steady −12 V reads F at once. T1S frames fill owned receive descriptors or are dropped, and leave owned transmit
descriptors, a jabber with its error. A periodic frame carries the next SEQ and the port's registers, after a queued
urgent one; valid return frames land in the receive words and end an absence, others count. A missed answer counts
once; a lost link stops an energised port. HALT halts with its cause, drops urgent frames and triggers the armed units
U0 and U1 that select it; RELEASE waits until no cause stands. (R242, R244, R245, R255, R256, R258, R259, R260, R261, R331) -/
def Obligations.VehicleAndStageLinks : Prop :=
  ∀ (s : State) (d : Fin 8) (k : Fin 4) (hi lo : Int) (square : Bool) (mode : Fin 4) (up ok : Bool) (frame : List Byte)
    (symbols : Nat) (bytes : List Byte) (bad : Bool),
    let v := (s.veh.get d).get k
    let m := s.rd d F.PIL_P_CTRL_MODE k
    let pst := s.rd d F.PIL_P_STAT_STATE k
    let l := s.link d k
    let live : Prop := 3 ≤ s.psState d k ∧ s.psState d k ≤ 6
    let on := s.t1sOn d k
    let tx := descAddr (s.rd d F.T1S_P_TXBASE k) (s.rd d F.T1S_P_HEADS_TXHEAD k)
    let rx := descAddr (s.rd d F.T1S_P_RXBASE k) (s.rd d F.T1S_P_HEADS_RXHEAD k)
    (s.portType d k ≠ 1 → Yields (.pilotMeasurement d k hi lo square) s (fun t => t = s)) ∧
    (s.portType d k = 1 → -32768 ≤ hi → hi < 32768 → -32768 ≤ lo → lo < 32768 →
      (if s.outEn then m = 2 else square = true) →
      let code := pilotCode hi
      let diode : Prop := 1 ≤ code ∧ code ≤ 3 ∧ -1100 < lo
      Yields (.pilotMeasurement d k hi lo square) s (fun t => t.rdI d F.PIL_P_MEAS_HIGH k = hi ∧ t.rdI d F.PIL_P_MEAS_LOW k = lo ∧
        (t.on d F.PIL_P_STAT_DIODE_FAIL k = true ↔ diode) ∧ Keeps s t ∧
        (∀ c, (diode → c = 6) → (¬diode → c = code) →
          (v.cand = c → 2 ≤ v.agree → t.rd d F.PIL_P_STAT_STATE k = c ∧ (pst ≠ c → t.on d F.PIL_P_STAT_CHG k = true)) ∧
          (v.cand ≠ c → t.rd d F.PIL_P_STAT_STATE k = pst ∧ ((t.veh.get d).get k).agree = 1)))) ∧
    (s.portType d k = 1 → s.outEn = true → mode = 3 → Yields (.pilotModeWrite d k mode) s (fun t =>
      t.rd d F.PIL_P_CTRL_MODE k = 3 ∧ t.rd d F.PIL_P_STAT_STATE k = 5 ∧ Keeps s t)) ∧
    (mode ≠ 3 → Yields (.pilotModeWrite d k mode) s (fun t => t.rd d F.PIL_P_CTRL_MODE k = mode.val ∧
      WritesOnly [fldAddr d F.PIL_P_CTRL_MODE k 0] s t)) ∧
    Yields (.t1sLinkChange d k up) s (fun t => t.on d F.T1S_P_STAT_LINK k = (up && on) ∧
      WritesOnly [fldAddr d F.T1S_P_STAT_LINK k 0] s t) ∧
    (on = false → ∀ x ∈ [Instr.t1sReceive d k frame ok, .t1sTransmit d k, .jabber d k], Yields x s (fun t => t = s)) ∧
    (on = true → bitOf (s.sramWord d (rx + 4)) 31 = true → Yields (.t1sReceive d k frame ok) s (fun t =>
      t.sramWord d (rx + 4) = min 1522 frame.length + (if ok ∧ frame.length ≤ 1522 then 0 else 2 ^ 30) ∧
      t.rd d F.T1S_P_HEADS_RXHEAD k = (s.rd d F.T1S_P_HEADS_RXHEAD k + 1) % s.t1sRing d k % 256 ∧
      (∀ a, bufKey d (s.sramWord d rx) (min 1522 frame.length) = some a → sramKey d (rx + 8) ≤ a →
        t.bytes a (min 1522 frame.length) = frame.take 1522) ∧
      (ok = false → t.rd d F.T1S_P_STAT_RX_ERR k = satInc 255 (s.rd d F.T1S_P_STAT_RX_ERR k)) ∧ t.pending = s.pending)) ∧
    (on = true → bitOf (s.sramWord d (rx + 4)) 31 = false → Yields (.t1sReceive d k frame ok) s (fun t =>
      t.rd d F.T1S_P_STAT_RX_DROP k = satInc 255 (s.rd d F.T1S_P_STAT_RX_DROP k) ∧ Keeps s t)) ∧
    (on = true → bitOf (s.sramWord d (tx + 4)) 31 = true → s.outEn = true → s.t1sLoop d k = false → ∀ cut : Bool,
      Yields (if cut then .jabber d k else .t1sTransmit d k) s (fun t =>
        ((t.veh.get d).get k).t1sTx = (s.bufGet d (s.sramWord d tx) (min 1522 (bitsOf (s.sramWord d (tx + 4)) 0 11))).getD [] ∧
        t.sramWord d (tx + 4) = bitsOf (s.sramWord d (tx + 4)) 0 11 + (if cut then 2 ^ 30 else 0) ∧
        t.rd d F.T1S_P_HEADS_TXHEAD k = (s.rd d F.T1S_P_HEADS_TXHEAD k + 1) % s.t1sRing d k % 256 ∧
        (cut = true → t.on d F.T1S_P_STAT_JABBER k = true))) ∧
    (on = true → bitOf (s.sramWord d (tx + 4)) 31 = false ∨ (s.outEn = false ∧ s.t1sLoop d k = false) →
      Yields (.t1sTransmit d k) s (fun t => t = s) ∧ Yields (.jabber d k) s (fun t => t = s)) ∧
    (s.stlSends d k = true → Yields (.periodicFrame d k) s (fun t =>
      (t.link d k).lastPer = t.periodicBytes d k (t.rd d F.STL_P_STAT_TX_SEQ k) ∧ (t.link d k).answered = false ∧
      (t.link d k).gap = false ∧ (t.link d k).sending = none ∧ (t.link d k).urgent = none ∧ Keeps s t ∧
      t.rd d F.STL_P_STAT_TX_SEQ k = (s.rd d F.STL_P_STAT_TX_SEQ k + (if l.urgent.isSome then 2 else 1)) % 65536 ∧
      (∀ x o, l.urgent = some (x, o) → (t.link d k).lastUrg = t.urgentBytes d k ((s.rd d F.STL_P_STAT_TX_SEQ k + 1) % 65536) x ∧
        t.rd d F.STL_P_CNT_URGENT k = (s.rd d F.STL_P_CNT_URGENT k + 1) % 2 ^ F.STL_P_CNT_URGENT.w))) ∧
    (s.stlSends d k = false → Yields (.periodicFrame d k) s (fun t => t = s)) ∧
    (let valid : Prop := symbols = 34 ∧ bytes.length = 32 ∧ field bytes 0 1 = 0x13 ∧ field bytes 30 2 = crc16 (bytes.take 30) ∧ bad = false
     (valid → Yields (.returnFrame d k symbols bytes bad) s (fun t =>
       (∀ w, w < 8 → t.rd d F.STL_P_RX k w = field bytes (4 * w) 4) ∧ t.on d F.STL_P_STAT_RX_OK k = true ∧
       t.rd d F.STL_P_STAT_FOLLOWED k = field bytes 1 1 % 2 ∧ (t.link d k).absent = false ∧ (t.link d k).answered = true ∧
       t.on d F.STL_P_HALT_RESYNC_PEND k = (s.on d F.STL_P_HALT_RESYNC_PEND k && !s.ackedRelease d k (field bytes 4 2)) ∧
       t.pending = s.pending)) ∧
     (¬valid → Yields (.returnFrame d k symbols bytes bad) s (fun t =>
       t.rd d F.STL_P_CNT_RX_CRC k = satInc 255 (s.rd d F.STL_P_CNT_RX_CRC k) ∧ WritesOnly [fldAddr d F.STL_P_CNT_RX_CRC k 0] s t))) ∧
    (l.answered = false → l.lastPer ≠ [] → Yields (.returnFrameMiss d k) s (fun t =>
      t.rd d F.STL_P_CNT_RX_MISS k = satInc 255 (s.rd d F.STL_P_CNT_RX_MISS k) ∧ (t.link d k).answered = true ∧
      OnlyRegs [fldAddr d F.STL_P_CNT_RX_MISS k 0] s t)) ∧
    (l.answered = true ∨ l.lastPer = [] → Yields (.returnFrameMiss d k) s (fun t => t = s)) ∧
    (l.absent = false → Yields (.rxlost d k) s (fun t => t.bit d F.STL_EVT_RXLOST k = true ∧ t.on d F.STL_P_STAT_RX_OK k = false ∧
      (t.link d k).absent = true ∧ Keeps s t ∧
      (live → (s.safPort d k).tripOpen = none → t.inhBy (portOf d k) Inh.safe = true ∧ t.on d F.STL_P_HALT_HALTED k = true ∧
        (s.rd d F.STL_PSAFE_CAUSE k = 0 → t.rd d F.STL_PSAFE_CAUSE k = 7)))) ∧
    (l.absent = true → Yields (.rxlost d k) s (fun t => t = s)) ∧
    (s.on d F.STL_P_HALT_HALTED k = false → Yields (.halt d k) s (fun t => t.on d F.STL_P_HALT_HALTED k = true ∧
      t.rd d F.STL_P_HALT_SRC k = 1 ∧ t.bit d F.STL_EVT_HALTED k = true ∧ (t.link d k).sending = none ∧ (t.link d k).urgent = none ∧
      OnlyRegs [fldAddr d F.STL_P_HALT_HALTED k 0, fldAddr d F.STL_EVT_HALTED 0 0, fldAddr d F.ACQ_U_STAT_STATE 0 0,
        fldAddr d F.ACQ_U_STAT_STATE 1 0, fldAddr d F.ACQ_U_CNT_BUSY_TRIG 0 0, fldAddr d F.ACQ_U_CNT_BUSY_TRIG 1 0] s t ∧
      ∀ u : Fin 8, u.val < 2 → s.rd d F.ACQ_U_TRIG_SRC u = 9 → s.rd d F.ACQ_U_TRIG_PARAM u = k.val →
        s.on d F.ACQ_U_TRIG_GRP_EN u = false → s.acqSt d u = 2 → t.acqSt d u = 3)) ∧
    (s.on d F.STL_P_HALT_HALTED k = true → Yields (.halt d k) s (fun t => t = s)) ∧
    (s.on d F.STL_P_HALT_HALTED k = true → s.haltCause d k = false → Yields (.release d k) s (fun t =>
      t.on d F.STL_P_HALT_HALTED k = false ∧ t.on d F.STL_P_HALT_RESYNC_PEND k = true ∧ (t.link d k).gap = true ∧
      (t.link d k).relSeq = s.rd d F.STL_P_STAT_TX_SEQ k ∧ OnlyRegs [fldAddr d F.STL_P_HALT_HALTED k 0] s t)) ∧
    (s.on d F.STL_P_HALT_HALTED k = false ∨ s.haltCause d k = true → Yields (.release d k) s (fun t => t = s))

/-- A loss of cooling runs the pump full and holds each port's limit; thermometry's results are taken or rejected (R263, R265, R266, R267, R268, R269, R270, R273, R275, R276) -/
def Obligations.CoolingAndThermometry : Prop :=
  ∀ (s : State) (d : Fin 8) (k : Fin 4) (kn inn first : Nat) (kp ip : Fin 1000) (rest : List Nat),
    let o := 16 * k.val
    let c := s.copper d k
    let lim := (s.dataGet d ((s.rd d F.OXE_CTX_DWIN_DBASE k + 3) % 2048)).toNat
    let energised : Prop := ∃ j : Fin 4, 3 ≤ s.psState d j ∧ s.psState d j ≤ 7
    let bad : Prop := ∃ j : Fin 4, s.on d F.ADC_CELL_EN (16 * j.val + 10) = true ∧ s.on d F.ADC_CELL_RETIRED (16 * j.val + 10) = false ∧
      s.sampleInv d (16 * j.val + 10) = false ∧
      (s.loaded d (16 * j.val + 10) < s.cw d 0x46 ∨ s.cw d 0x47 < s.loaded d (16 * j.val + 10))
    (s.c5Runs d = true → (s.cool.get d).loss = false → bad → Yields (.coolingLoss d) s (fun t => (t.cool.get d).loss = true ∧
      t.cw d 0x40 = 10000 ∧
      ((∀ j : Fin 4, (s.rd d F.OXE_CTX_DWIN_DBASE k + 3) % 2048 ≠ s.coolIdx d (16 * j.val + 10)) → (t.copper d k).cap = some (lim * 10000)) ∧
      ((s.oxe.get d).evtHost.length < 16 → (t.oxe.get d).evtHost = (s.oxe.get d).evtHost ++ [(0x501, 5)]) ∧
      ((s.oxe.get d).evtSafe.length < 16 → (t.oxe.get d).evtSafe = (s.oxe.get d).evtSafe ++ [(0x501, 5)]) ∧
      t.cw d (o + 10) = (if s.inFallback d k then 1 else 2))) ∧
    (s.c5Runs d = false ∨ (s.cool.get d).loss = true ∨ ¬bad → Yields (.coolingLoss d) s (fun t => t = s)) ∧
    (s.c5Runs d = true → ¬bad → Yields (.coolingRestore d) s (fun t => (t.cool.get d).loss = false ∧ (t.copper d k).cap = none ∧
      t.regs = s.regs ∧ Keeps s t)) ∧
    (s.c5Runs d = false ∨ bad → Yields (.coolingRestore d) s (fun t => t = s)) ∧
    (s.c5Runs d = true → ¬energised → Yields (.pumpIdleTimeout d) s (fun t => (t.cool.get d).idle = true ∧ t.regs = s.regs ∧
      ((s.cool.get d).loss = true → t.cw d 0x40 = 10000) ∧
      ((s.cool.get d).loss = false → (∀ j : Fin 4, s.cw d (16 * j.val + 8) ≤ s.cw d 0x43) → t.cw d 0x40 = 0))) ∧
    (s.c5Runs d = false ∨ energised → Yields (.pumpIdleTimeout d) s (fun t => t = s)) ∧
    (let kv := kn * 1000 + kp.val
     let ki := inn * 1000 + ip.val
     let v := s.binResult d (binV k)
     let i := s.binResult d (binI k)
     let met : Prop := c.injOff = false ∧ s.injSuspends d k = false
     let good (x : Int) : Prop := c.skip = false ∧ met ∧ v.2.2 = i.2.2 ∧
       amplitudeOk (s.depthOf d k) i.1 i.2.1 i.2.2 ki c.mean = true ∧ s.cellCode d (o + 7) - 500 ≤ x ∧ x ≤ s.cw d (o + 8) + 3000
     let run (P : State → Prop) : Prop := Yields (.copperResult d k kn kp inn ip) s (fun t => (t.copper d k).skip = false ∧
       (t.copper d k).injOff = false ∧ t.pending = s.pending ∧ t.rd d F.OXE_COR_RES (2 * k.val) 4 = v.2.2 % 2 ^ 32 ∧
       t.rd d F.OXE_COR_RES (2 * k.val + 1) 4 = i.2.2 % 2 ^ 32 ∧ P t)
     (∀ x, s.tMeas d k kv ki = some x → good x → x < 2 ^ 31 → -2 ^ 31 ≤ x → run (fun t => t.cw d o = x ∧
       t.cw d (o + 1) = (s.cw d (o + 1) + 1).bmod (2 ^ 32) ∧ (t.copper d k).rejects = 0 ∧ (t.copper d k).fallback = false)) ∧
     ((∀ x, s.tMeas d k kv ki = some x → ¬good x) → c.rejects < 4 ∨ ¬met → run (fun t => t.cw d o = s.cw d o ∧
       t.cw d (o + 11) = (s.cw d (o + 11) + 1).bmod (2 ^ 32) ∧ (t.copper d k).senseBad = c.senseBad ∧
       (met → (t.copper d k).rejects = c.rejects + 1) ∧ (¬met → (t.copper d k).rejects = c.rejects))) ∧
     ((∀ x, s.tMeas d k kv ki = some x → ¬good x) → 4 ≤ c.rejects → met → Yields (.copperResult d k kn kp inn ip) s (fun t =>
       t.cw d o = s.cw d o ∧ (t.copper d k).senseBad = true ∧ (t.copper d k).rejects = 0))) ∧
    (let t0 := s.cw d (o + 8)
     let results : List Nat := first :: rest
     let sum := results.foldl (fun (a b : Nat) => a + b) 0
     let f := 10 ^ 7 + 393 * (t0 - 2000)
     let ok : Prop := (s.lifeState = 1 ∨ s.lifeState = 2) ∧ s.psState d k = 5 ∧ s.depthOf d k = 10 ∧ results.length = 30 ∧
       (∀ x ∈ results, ∀ y ∈ results, (x - y) * 15000 ≤ sum) ∧ 0 < f
     (ok → Yields (.copperReference d k first rest) s (fun t => ∃ r0 r20 : Nat, (t.copper d k).ref = some (r0, r20, t0) ∧
       (30 * (r0 : Int) - sum).natAbs < 30 ∧ ((30 * f * (r20 : Int) - sum * 10 ^ 7).natAbs : Int) < 30 * f ∧
       (t.copper d k).refCable = s.cableNow d k ∧ (r20 < 2 ^ 31 → t.cw d (o + 2) = r20) ∧ t.regs = s.regs)) ∧
     (¬ok → Yields (.copperReference d k first rest) s (fun t => t = s))) ∧
    (let free : Prop := s.psState d k = 5 ∧ s.on d F.OXE_PORT_OVR_ACTIVE k = false ∧
       100 * s.dataGet d (Config.selWord (portOf d k).val % 2048) ≤ 99 * (s.rd d F.OXE_PORT_DERATE k : Int) ∧ s.cw d 0x48 ≤ c.mean
     (free → Yields (.thermometryFallback d k) s (fun t => (t.copper d k).fallback = true ∧ t.cw d (o + 10) = 1 ∧ t.regs = s.regs)) ∧
     (¬free → Yields (.thermometryFallback d k) s (fun t => t = s)))

/-- Modem images load only when they match; SLAC matches one port; the herd line polls, retries, drops, broadcasts (R278, R279, R280, R281, R282, R283, R284, R286, R287, R288, R289, R290) -/
def Obligations.ModemsAndHerdLine : Prop :=
  ∀ (s : State) (d : Fin 8) (k : Fin 4) (symbols : List (List Int)) (peer run : Nat) (profile : List Nat)
    (bad : Bool) (node : Fin 31) (payload : List Byte) (p : HerdPoll) (f : HerdFrame),
    let onM := s.modemOn d k
    let tone := s.toneGet d k peer
    let heard (m : Fin 5) (kk e : Nat) (l : List (List Int)) : Nat :=
      (blankFrame kk e l ((s.plc.get d).rms.get m, (s.plc.get d).ext.get m, 0)).2.2
    let modeIs (t : State) (x : Nat) : Prop := t.rd d F.PLC_M_STAT_MODE k = x % 2 ^ F.PLC_M_STAT_MODE.w
    let n1 := node.val - 1
    (s.on d F.PLC_CTRL_RUN = false → s.rd d F.PLC_LOAD_STAT_STATUS ≠ 1 → Yields (.load d) s (fun t =>
      t.rd d F.PLC_LOAD_STAT_STATUS = 1 ∧ t.on d F.PLC_LOAD_STAT_IMG_OK = false ∧ WritesOnly [fldAddr d F.PLC_LOAD_STAT_STATUS 0 0] s t)) ∧
    (s.on d F.PLC_CTRL_RUN = true ∨ s.rd d F.PLC_LOAD_STAT_STATUS = 1 → Yields (.load d) s (fun t => t = s)) ∧
    (let img := s.image d (s.rd 0 F.LCS_BOOT_SET_BANK) 4
     let ok : Prop := img ≠ [] ∧ Config.modemSrc d (s.rd 0 F.LCS_BOOT_SET_BANK) (s.rd d F.PLC_LOAD) = true ∧
       (Config.sha256 (img.drop 256)).toList = slice img 0x18 32 ∧ s.mreg 4 = declMeas img
     (s.rd d F.PLC_LOAD_STAT_STATUS = 1 → Yields (.modemLoadDone d) s (fun t =>
       (ok → t.rd d F.PLC_LOAD_STAT_STATUS = 2 ∧ t.on d F.PLC_LOAD_STAT_IMG_OK = true ∧ (t.plc.get d).prog = img.drop 256) ∧
       (¬ok → t.rd d F.PLC_LOAD_STAT_STATUS = 3 ∧ t.on d F.PLC_LOAD_STAT_IMG_OK = false ∧ (t.plc.get d).prog = []) ∧ Keeps s t)) ∧
     (s.rd d F.PLC_LOAD_STAT_STATUS ≠ 1 → Yields (.modemLoadDone d) s (fun t => t = s))) ∧
    (s.modemUsed d k = true → s.on d F.PLC_CTRL_RUN = true → Yields (.modemWatchdog d ⟨k.val, by omega⟩) s (fun t =>
      t.on d F.PLC_M_STAT_ENGINE_FAULT k = true ∧ t.on d F.PLC_M_STAT_MATCHED k = false ∧ t.rd d F.PLC_M_STAT_MODE k = 0 ∧ Keeps s t)) ∧
    (s.modemUsed d k = false ∨ s.on d F.PLC_CTRL_RUN = false → Yields (.modemWatchdog d ⟨k.val, by omega⟩) s (fun t => t = s)) ∧
    (s.on 0 F.PLC_CTRL_RUN = true → s.isRetired 0 2 0x24 0 = false → Yields (.modemWatchdog 0 4) s (fun t => t.herd.poll = none ∧
      t.herd.bcast = none ∧ Keeps s t)) ∧
    (onM = false → Yields (.vehicleFrameReceive d k peer symbols bad) s (fun t => t = s) ∧ Yields (.roboModeStepUp d ⟨k, peer⟩) s (fun t => t = s)) ∧
    (onM = true →
      let n := heard ⟨k.val, by omega⟩ (max 4 (s.rd d F.PLC_M_CTRL_BLANK_K k)) (s.rd d F.PLC_M_CTRL_BLANK_EXT k) symbols
      Yields (.vehicleFrameReceive d k peer symbols bad) s (fun t =>
        t.rd d F.PLC_M_CNT_BLANKED k = (s.rd d F.PLC_M_CNT_BLANKED k + n) % 65536 ∧ t.pending = s.pending ∧
        (∀ x, x ≠ peer → t.toneGet d k x = s.toneGet d k x) ∧
        (symbols.length < 4 * n → t.rd d F.PLC_M_CNT_IH_FRAMES k = (s.rd d F.PLC_M_CNT_IH_FRAMES k + 1) % 2 ^ F.PLC_M_CNT_IH_FRAMES.w ∧
          (t.plc.get d).nack.get k = true ∧ t.toneGet d k peer = tone ∧ t.mem = s.mem) ∧
        (4 * n ≤ symbols.length → bad = true → tone.2 < 2 → t.toneGet d k peer = (tone.1, tone.2 + 1) ∧ modeIs t tone.1) ∧
        (4 * n ≤ symbols.length → bad = true → 2 ≤ tone.2 → t.toneGet d k peer = (tone.1 - 1, 0) ∧ modeIs t (tone.1 - 1)) ∧
        (4 * n ≤ symbols.length → bad = false → t.toneGet d k peer = (tone.1, 0) ∧ modeIs t tone.1) ∧
        (4 * n ≤ symbols.length → (t.plc.get d).nack.get k = false))) ∧
    (onM = true → Yields (.roboModeStepUp d ⟨k, peer⟩) s (fun t => t.toneGet d k peer = (min 2 (tone.1 + 1), tone.2) ∧
      modeIs t (min 2 (tone.1 + 1)) ∧ OnlyRegs [fldAddr d F.PLC_M_STAT_MODE k 0] s t)) ∧
    (let sends : Prop := onM = true ∧ s.on d F.PLC_LOAD_STAT_IMG_OK = true ∧ s.on d F.PLC_M_CTRL_SLAC_EN k = true
     (sends → Yields (.slacSetSend d k run profile) s (fun t => t.regs = s.regs ∧ Keeps s t ∧
       t.slac = s.slac ++ [{ run := run, port := (portOf d k).val, profile := profile }])) ∧
     (¬sends → Yields (.slacSetSend d k run profile) s (fun t => t = s))) ∧
    (let l := s.slac.filter (fun x => x.run == run)
     (l = [] ∨ s.meter.running = false → Yields (.slacDecision run) s (fun t => t = s)) ∧
     (s.meter.running = true → s.outEn = false → Yields (.slacDecision run) s (fun t =>
       t = { s with slac := s.slac.filter (fun x => x.run != run) })) ∧
     (s.meter.running = true → s.outEn = true → (∀ x ∈ l, x.port < 32) → ∀ best ∈ l, (∀ x ∈ l, 0 < meanGap best x ∨ x = best) →
       let clear : Prop := s.awaiting ⟨best.port % 32, Nat.mod_lt _ (by decide)⟩ = true ∧
         ∀ x ∈ l.erase best, (s.meter.site.slacMargin : Int) * setLen best * setLen x ≤ meanGap best x
       Yields (.slacDecision run) s (fun t => t.slac = s.slac.filter (fun x => x.run != run) ∧ Keeps s t ∧ ∀ x ∈ l,
         (¬clear → t.rd (x.port / 4) F.PLC_M_SLAC_RESULT (x.port % 4) = 2) ∧
         (clear → t.rd (x.port / 4) F.PLC_M_SLAC_WINNER (x.port % 4) = best.port ∧
           t.rd (x.port / 4) F.PLC_M_SLAC_RESULT (x.port % 4) = (if x.port = best.port then 1 else 3)) ∧
         (clear → t.on (best.port / 4) F.PLC_M_STAT_MATCHED (best.port % 4) = true)))) ∧
    (let ready : Prop := s.herdSends = true ∧ s.herd.poll = none ∧ s.herd.bcast = none ∧ payload.length ≤ 128
     let present := s.on 0 F.HLM_NODE_PRESENT n1
     let started (l : List Byte) (t : State) : Prop := t.herd.seq = (s.herd.seq + 1) % 8 ∧ t.regs = s.regs ∧ Keeps s t ∧
       t.herd.poll = some ⟨node.val, s.herd.seq, l, 0, false, false⟩ ∧
       (l.length < 128 → s.herd.seq < 8 → ∃ w n, t.herd.sent = some (w, if l = [] then [] else withCrc l, n) ∧
         crc8 (w.toNat % 2 ^ 24) = w.toNat / 2 ^ 24 ∧ w.toNat % 2 ^ 24 = node.val + 2 ^ 10 * s.rd 0 F.HLM_NODE_MODE n1 + 2 ^ 14 * l.length + 2 ^ 21 * s.herd.seq)
     (ready → node.val ≠ 0 → present = true → Yields (.herdPoll node payload) s (started payload)) ∧
     (¬ready ∨ node.val = 0 ∨ present = false → Yields (.herdPoll node payload) s (fun t => t = s)) ∧
     (ready → node.val ≠ 0 → present = false → Yields (.herdLostNodePoll node) s (started [])) ∧
     (present = true → Yields (.herdLostNodePoll node) s (fun t => t = s)) ∧
     (ready → Yields (.herdBroadcast payload) s (fun t => t.herd.seq = (s.herd.seq + 1) % 8 ∧ t.regs = s.regs ∧
       t.herd.bcast = (if s.rd 0 F.HLM_CTRL_BCAST_REP ≤ 1 then none
         else some (payload, s.herd.seq, s.rd 0 F.HLM_CTRL_BCAST_REP - 1)) ∧ t.herd.sent.isSome = true)) ∧
     (¬ready → Yields (.herdBroadcast payload) s (fun t => t = s))) ∧
    (∀ l q n, s.herd.bcast = some (l, q, n) → Yields .herdBroadcastCopy s (fun t => t.regs = s.regs ∧ Keeps s t ∧
      t.herd.bcast = (if s.herdSends = false ∨ n ≤ 1 then none else some (l, q, n - 1)) ∧ t.herd.seq = s.herd.seq)) ∧
    (s.herd.bcast = none → Yields .herdBroadcastCopy s (fun t => t = s)) ∧
    (let retried (a : Bool) (t : State) : Prop :=
       (p.retries < s.rd 0 F.HLM_CTRL_RETRY_MAX → s.herdSends = true →
         t.herd.poll = some { p with retries := p.retries + 1, counted := false, answered := p.answered || a }) ∧
       (s.rd 0 F.HLM_CTRL_RETRY_MAX ≤ p.retries ∨ s.herdSends = false → t.herd.poll = none ∧ t.on 0 F.HLM_EVT_DROP = true ∧
         t.rd 0 F.HLM_CNT_DROPPED = satInc (2 ^ F.HLM_CNT_DROPPED.w - 1) (s.rd 0 F.HLM_CNT_DROPPED))
     s.herd.poll = some p →
      (p.node = node.val → s.herdUp = true →
        let h := f.header.toNat
        let n := (blankFrame 8 2 f.symbols ((s.plc.get 0).rms.get 4, (s.plc.get 0).ext.get 4, 0)).2.2
        let hit : Prop := f.symbols.length < 4 * n
        let ok : Prop := crc8 (h % 2 ^ 24) = h / 2 ^ 24 ∧ h % 32 = 0 ∧ h / 32 % 32 = node.val
        let nak : Prop := h.testBit 12 = true
        (¬ok → Yields (.herdReply node f) s (fun t => t = { s with plc := t.plc })) ∧
        (ok → hit → Yields (.herdReply node f) s (fun t => t.herd.poll = some { p with counted := true } ∧
          t.rd 0 F.HLM_CNT_IH_FRAMES = (s.rd 0 F.HLM_CNT_IH_FRAMES + 1) % 2 ^ F.HLM_CNT_IH_FRAMES.w)) ∧
        (ok → ¬hit → nak → Yields (.herdReply node f) s (fun t => retried true t ∧
          (h.testBit 13 = true → t.rd 0 F.HLM_CNT_IH_FRAMES = (s.rd 0 F.HLM_CNT_IH_FRAMES + 1) % 2 ^ F.HLM_CNT_IH_FRAMES.w))) ∧
        (ok → ¬hit → ¬nak → herdPayload f = none → Yields (.herdReply node f) s (fun t => t.herd.poll = some { p with counted := true })) ∧
        (ok → ¬hit → ¬nak → herdPayload f ≠ none → Yields (.herdReply node f) s (fun t => t.herd.poll = none ∧
          t.on 0 F.HLM_NODE_PRESENT n1 = true ∧ t.rd 0 F.HLM_NODE_IH_RUN n1 = 0 ∧ t.rd 0 F.HLM_NODE_FAIL_RUN n1 = 0))) ∧
      (p.node = node.val → Yields (.herdReplyTimeout node) s (retried false)) ∧
      (p.node ≠ node.val ∨ s.herdUp = false → Yields (.herdReply node f) s (fun t => t = s)) ∧
      (p.node ≠ node.val → Yields (.herdReplyTimeout node) s (fun t => t = s))) ∧
    (s.herd.poll = none → Yields (.herdReplyTimeout node) s (fun t => t = s) ∧ Yields (.herdReply node f) s (fun t => t = s)) ∧
    (node.val ≠ 0 → Yields (.herdQuietRestore node) s (fun t => t.rd 0 F.HLM_NODE_MODE n1 = 0 ∧
      (s.rd 0 F.HLM_NODE_MODE n1 ≠ 0 → t.on 0 F.HLM_EVT_MODE_CHG = true) ∧
      OnlyRegs [fldAddr 0 F.HLM_NODE_MODE n1 0, fldAddr 0 F.HLM_EVT_MODE_CHG 0 0] s t))

/-- CAN: joining, filtering into queues and buffers, requests, attempts, error counting, rate detection, reference
messages (R294, R296, R297, R298, R299, R300, R301, R302, R303, R304, R305, R306) -/
def Obligations.CanControllers : Prop :=
  ∀ (s : State) (d : Fin 8) (j q : Fin 2) (f : CanFrame) (mask : Word) (id pos : Nat) (ext dp : Bool) (place : CanErrAt) (code : Fin 8) (last : Fin 64)
    (sof : Word) (b : Nat),
    let used := s.canUsed d j
    let r (x : Fld) : Nat := s.rd d x j
    let timing : Prop := r F.CAN_TIM_NOM_SJW ≤ r F.CAN_TIM_NOM_TSEG2 ∧ r F.CAN_TIM_DATA_DSJW ≤ r F.CAN_TIM_DATA_DTSEG2 ∧
      125 ≤ (r F.CAN_TIM_NOM_BRP + 1) * (r F.CAN_TIM_NOM_TSEG1 + r F.CAN_TIM_NOM_TSEG2 + 3) ∧
      25 ≤ (r F.CAN_TIM_DATA_DBRP + 1) * (r F.CAN_TIM_DATA_DTSEG1 + r F.CAN_TIM_DATA_DTSEG2 + 3)
    let busy := s.abdBusy d j
    let joined : Prop := busy = false ∧ s.canOnBus d j = true
    let c := s.canC d j
    (used = true → s.on d F.CAN_CTRL_INIT j = true →
      (¬timing → Yields (.canInitClear d j) s (fun t => t.on d F.CAN_EVT_BAD_TIMING j = true ∧ t.on d F.CAN_CTRL_INIT j = true ∧
        t.can = s.can ∧ WritesOnly [fldAddr d F.CAN_EVT_BAD_TIMING j 0] s t)) ∧
      (timing → Yields (.canInitClear d j) s (fun t => t.on d F.CAN_CTRL_INIT j = false ∧ Keeps s t ∧
        (r F.CAN_STAT_STATE ≠ 2 → t.on d F.CAN_STAT_SYNC j = true ∧ t.can = s.can) ∧
        (r F.CAN_STAT_STATE = 2 → (t.canC d j).recover = true ∧ t.rd d F.CAN_STAT_STATE j = 2)))) ∧
    (used = false ∨ s.on d F.CAN_CTRL_INIT j = false → Yields (.canInitClear d j) s (fun t => t = s)) ∧
    (c.recover = true → s.on d F.CAN_CTRL_INIT j = false → Yields (.canBusOffRecovery d j) s (fun t => t.rd d F.CAN_STAT_TEC j = 0 ∧
      t.rd d F.CAN_STAT_REC j = 0 ∧ t.rd d F.CAN_STAT_STATE j = 0 ∧ t.on d F.CAN_STAT_SYNC j = true ∧ (t.canC d j).recover = false ∧
      OnlyRegs [fldAddr d F.CAN_STAT_TEC j 0] s t)) ∧
    (c.recover = false ∨ s.on d F.CAN_CTRL_INIT j = true → Yields (.canBusOffRecovery d j) s (fun t => t = s)) ∧
    (busy = false → s.canOnBus d j = false → Yields (.canFrameReceive d j f) s (fun t => t = s) ∧
      Yields (.canBusError d j id ext pos code place) s (fun t => t = s)) ∧
    (joined → (f.remote = true → s.on d F.CAN_SIEVE_NO_REMOTE j = false) →
      let head := s.rd d F.CAN_Q_STAT_HEAD j q
      let fill := s.rd d F.CAN_Q_STAT_FILL j q
      let stored (t : State) (off : Nat) : Prop := t.mword (canKey d j off) = f.sof ∧
        t.canWord d j (off + 4) = f.id % 2 ^ 29 + 2 ^ 29 * b2n f.ext + 2 ^ 30 * b2n f.remote ∧
        t.bytes (canKey d j (off + 12)) (min 64 f.data.length) = f.data.take 64
      let found := s.canFilter d j f.id f.ext f.remote
      let dest (e : Nat) : Nat := bitsOf (s.canWord d j (0x0100 + 12 * e)) 4 3
      ((∃ e, found = some e ∧ dest e = q.val + 1) ∨ (found = none ∧ s.rd d F.CAN_SIEVE_UNMATCHED j = q.val + 1) →
        (fill < 64 → Yields (.canFrameReceive d j f) s (fun t => stored t (canQ q head) ∧ t.rd d F.CAN_Q_STAT_HEAD j q = (head + 1) % 64 ∧
          t.rd d F.CAN_Q_STAT_FILL j q = fill + 1 ∧ (t.on d F.CAN_Q_STAT_FULL j q = true ↔ fill = 63) ∧
          t.on d (if q = 0 then F.CAN_EVT_Q0_NEW else F.CAN_EVT_Q1_NEW) j = true)) ∧
        (64 ≤ fill → Yields (.canFrameReceive d j f) s (fun t =>
          t.on d (if q = 0 then F.CAN_EVT_Q0_LOST else F.CAN_EVT_Q1_LOST) j = true ∧ t.rd d F.CAN_Q_STAT_FILL j q = fill ∧
          (s.on d F.CAN_Q_CFG_KEEP_NEW j q = true → stored t (canQ q head) ∧ t.rd d F.CAN_Q_STAT_HEAD j q = (head + 1) % 64) ∧
          (s.on d F.CAN_Q_CFG_KEEP_NEW j q = false → t.mem = s.mem ∧ t.rd d F.CAN_Q_STAT_HEAD j q = head)))) ∧
      (∀ e, found = some e → dest e = 3 →
        let slot := bitsOf (s.canWord d j (0x0100 + 12 * e)) 8 5
        Yields (.canFrameReceive d j f) s (fun t => stored t (canRx slot) ∧ t.bit d F.CAN_SLOT_NEW slot j = true ∧
          t.on d F.CAN_EVT_SLOT_NEW j = true ∧ (s.bit d F.CAN_SLOT_NEW slot j = true → t.on d F.CAN_EVT_SLOT_OVR j = true))) ∧
      (found = none → s.rd d F.CAN_SIEVE_UNMATCHED j = 0 → Yields (.canFrameReceive d j f) s (fun t => t.mem = s.mem))) ∧
    (joined → (f.remote = true → s.on d F.CAN_SIEVE_NO_REMOTE j = false) → ∀ e, e < min 128 (r F.CAN_SIEVE_NFLT) →
      s.canBad d j (0x0100 + 12 * e) 12 = true → s.isRetired d 1 0x0D (128 * j.val + e) = false →
      s.canFilter d j f.id f.ext f.remote ≠ some e ∧ (s.canFilter d j f.id f.ext f.remote = none →
        Yields (.canFrameReceive d j f) s (fun t => t.on d F.CAN_EVT_ECC_UNCORR j = true))) ∧
    (∀ o, s.pkg.die.get d = .running → o % 4 = 0 → 0x0100 ≤ o → o < 0x4000 →
      let hit := s.upsetsIn [(canKey d j o, true)]
      let soft := s.upsetsIn [(canKey d j o, false)]
      let elem := 0x0700 + 76 * ((o - 0x0700) / 76)
      let tx := (o - 0x3680) / 76
      (s.eccAt (canKey d j o) ≠ some true → soft.on d F.CAN_EVT_ECC_CORR j = true ∧ soft.mem = s.mem ∧ soft.eccAt (canKey d j o) = none) ∧
      (0x0700 ≤ o → o < 0x3680 → hit.on d F.CAN_EVT_ECC_UNCORR j = true ∧ (hit.canWord d j (elem + 8)).testBit 7 = true ∧
        hit.bytes (canKey d j (elem + 12)) 64 = List.replicate 64 0) ∧
      (0x3680 ≤ o → 4 ≤ (o - 0x3680) % 76 → s.bit d F.CAN_TX_PEND tx j = true → hit.on d F.CAN_EVT_ECC_UNCORR j = true ∧
        hit.bit d F.CAN_TX_PEND tx j = false ∧ hit.bit d F.CAN_TX_DROP tx j = true)) ∧
    (joined → f.remote = true → s.on d F.CAN_SIEVE_NO_REMOTE j = true → Yields (.canFrameReceive d j f) s (fun t => t.mem = s.mem)) ∧
    (busy = true →
      (∀ x ∈ [Instr.canFrameReceive d j f, .canBusError d j id ext pos code .afterCrc],
       (c.good + 1 < max 2 (r F.CAN_ABD_CTRL_NGOOD) → Yields x s (fun t => (t.canC d j).good = c.good + 1 ∧
        t.regs = s.regs ∧ Keeps s t)) ∧
       (max 2 (r F.CAN_ABD_CTRL_NGOOD) ≤ c.good + 1 → Yields x s (fun t =>
        t.word (fldAddr d F.CAN_TIM_NOM_TSEG1 j 0) = (s.word (candAddr d j (r F.CAN_ABD_STAT_INDEX) 0) &&& 0x1F7F7FFF) ∧
        t.word (fldAddr d F.CAN_TIM_DATA_DTSEG1 j 0) = (s.word (candAddr d j (r F.CAN_ABD_STAT_INDEX) 1) &&& 0x1F0F0F1F) ∧
        t.on d F.CAN_ABD_STAT_FOUND j = true ∧ t.on d F.CAN_ABD_STAT_BUSY j = false ∧ t.on d F.CAN_EVT_ABD_DONE j = true ∧ Keeps s t))) ∧
      (∀ x ∈ [Instr.canBusError d j id ext pos code .nominal, .canBusError d j id ext pos code .data, .canAbdDwellExpiry d j], Yields x s (fun t => (t.canC d j).good = 0 ∧ Keeps s t ∧
        (r F.CAN_ABD_STAT_INDEX < r F.CAN_ABD_CTRL_NCAND → t.rd d F.CAN_ABD_STAT_INDEX j = r F.CAN_ABD_STAT_INDEX + 1) ∧
        (r F.CAN_ABD_CTRL_NCAND ≤ r F.CAN_ABD_STAT_INDEX → s.on d F.CAN_ABD_CTRL_LOOP j = true → t.rd d F.CAN_ABD_STAT_INDEX j = 0) ∧
        (r F.CAN_ABD_CTRL_NCAND ≤ r F.CAN_ABD_STAT_INDEX → s.on d F.CAN_ABD_CTRL_LOOP j = false →
          t.on d F.CAN_ABD_STAT_BUSY j = false ∧ t.on d F.CAN_EVT_ABD_FAIL j = true)))) ∧
    (busy = false → Yields (.canAbdDwellExpiry d j) s (fun t => t = s)) ∧
    (let may : Prop := used = true ∧ s.on d F.CAN_CTRL_INIT j = true ∧ s.on d F.CAN_CTRL_LISTEN j = true
     (may → Yields (.canAbdStart d j) s (fun t => t.on d F.CAN_ABD_STAT_BUSY j = true ∧ t.rd d F.CAN_ABD_STAT_INDEX j = 0 ∧
       t.on d F.CAN_ABD_STAT_FOUND j = false ∧ (t.canC d j).good = 0 ∧ OnlyRegs [fldAddr d F.CAN_ABD_STAT_BUSY j 0] s t)) ∧
     (¬may → Yields (.canAbdStart d j) s (fun t => t = s))) ∧
    (b < 32 → used = true → Yields (.canTxRequest d j mask) s (fun t =>
      let fdBad := bitOf (s.canWord d j (canTx b + 8)) 4 && !s.on d F.CAN_CTRL_FD_EN j
      let ecc := s.canBad d j (canTx b + 4) 72
      t.bit d F.CAN_TX_PEND b j = (s.bit d F.CAN_TX_PEND b j || (mask.getLsbD b && !fdBad && !ecc)) ∧
      (mask.getLsbD b = true → s.bit d F.CAN_TX_PEND b j = false → fdBad = true ∨ ecc = true → t.bit d F.CAN_TX_DROP b j = true ∧
        t.on d F.CAN_EVT_TX_DROP j = true) ∧
      (mask.getLsbD b = true → s.bit d F.CAN_TX_PEND b j = false → fdBad = false → ecc = true →
        t.on d F.CAN_EVT_ECC_UNCORR j = true) ∧
      (mask.getLsbD b = true → s.bit d F.CAN_TX_PEND b j = false → fdBad = false → ecc = false → s.outEn = false → t.on d F.CAN_EVT_TX_NOCLAIM j = true) ∧
      Keeps s t)) ∧
    (used = false → Yields (.canTxRequest d j mask) s (fun t => t = s)) ∧
    (b < 32 → Yields (.canTxAbort d j mask) s (fun t =>
      t.bit d F.CAN_TX_PEND b j = (s.bit d F.CAN_TX_PEND b j && !mask.getLsbD b) ∧ OnlyRegs [fldAddr d F.CAN_TX_PEND j 0] s t)) ∧
    (s.canOnBus d j = false ∨ s.canListens d j = true → ∀ e, Yields (.canTxAttemptEnd d j e) s (fun t => t = s)) ∧
    (s.canOnBus d j = true → s.canListens d j = false → c.refDue = true →
      Yields (.canTxAttemptEnd d j (.success sof)) s (fun t => (t.canC d j).refDue = false ∧
        t.rd d F.CAN_REF_CFG_CYCLE j = (r F.CAN_REF_CFG_CYCLE + 1) % 64 ∧ t.rd d F.CAN_REF_TS j = sof.toNat ∧
        t.rd d F.CAN_STAT_TEC j = r F.CAN_STAT_TEC - 1 ∧ Keeps s t) ∧
      Yields (.canTxAttemptEnd d j .lostArbitration) s (fun t => t = s)) ∧
    (s.canOnBus d j = true → s.canListens d j = false → c.refDue = false → s.canWinner d j = some b →
      let tried := ((c.tries.find? (fun e => e.1 == b)).map (·.2.tries)).getD 0
      Yields (.canTxAttemptEnd d j (.success sof)) s (fun t => t.mword (canKey d j (canTx b)) = sof ∧
        t.bit d F.CAN_TX_PEND b j = false ∧ t.bit d F.CAN_TX_SENT b j = true ∧ t.on d F.CAN_EVT_TX_SENT j = true ∧
        t.rd d F.CAN_STAT_TEC j = r F.CAN_STAT_TEC - 1) ∧
      (∀ rec aft, ∀ e ∈ [CanTxEnd.otherError code dp, .bitError pos aft rec dp], Yields (.canTxAttemptEnd d j e) s (fun t => Keeps s t ∧
        (tried < r F.CAN_CTRL_RETRY → t.bit d F.CAN_TX_PEND b j = true) ∧
        (r F.CAN_CTRL_RETRY ≤ tried → t.bit d F.CAN_TX_PEND b j = false ∧ t.bit d F.CAN_TX_DROP b j = true) ∧
        (r F.CAN_STAT_TEC + 8 ≤ 255 → t.rd d F.CAN_STAT_TEC j = r F.CAN_STAT_TEC + 8) ∧
        (255 < r F.CAN_STAT_TEC + 8 → t.rd d F.CAN_STAT_STATE j = 2 ∧ t.on d F.CAN_CTRL_INIT j = true ∧
          t.on d F.CAN_EVT_BUS_OFF j = true)))) ∧
    (joined → s.canListens d j = false → Yields (.canBusError d j id ext pos code place) s (fun t =>
      (r F.CAN_STAT_REC < 127 → t.rd d F.CAN_STAT_REC j = r F.CAN_STAT_REC + 1) ∧
      t.rd d (if place = .data then F.CAN_STAT_ERR_DATA else F.CAN_STAT_ERR_NOM) j = code.val ∧ Keeps s t ∧
      (∀ n, c.run = some (id, ext, pos, n) → n + 1 < max 2 (r F.CAN_SIEVE_CLASH_N) → (t.canC d j).run = some (id, ext, pos, n + 1)) ∧
      (∀ n, c.run = some (id, ext, pos, n) → max 2 (r F.CAN_SIEVE_CLASH_N) ≤ n + 1 → (t.canC d j).run = none ∧
        t.on d F.CAN_EVT_CLASH_RX j = true) ∧
      (c.run = none → (t.canC d j).run = some (id, ext, pos, 1)))) ∧
    (let n := (last.val + 64 - s.rd d F.CAN_Q_STAT_TAIL j q) % 64 + 1
     (n ≤ s.rd d F.CAN_Q_STAT_FILL j q → Yields (.canQueueRelease d j q last) s (fun t =>
       t.rd d F.CAN_Q_STAT_FILL j q = s.rd d F.CAN_Q_STAT_FILL j q - n ∧ t.rd d F.CAN_Q_STAT_TAIL j q = (last.val + 1) % 64 ∧
       t.on d F.CAN_Q_STAT_FULL j q = false ∧ WritesOnly [fldAddr d F.CAN_Q_STAT_FILL j q] s t)) ∧
     (s.rd d F.CAN_Q_STAT_FILL j q < n → Yields (.canQueueRelease d j q last) s (fun t => t = s))) ∧
    (used = true → s.on d F.CAN_REF_CFG_EN j = true → Yields (.canReferenceDue d j) s (fun t => (t.canC d j).refDue = s.outEn ∧
      (c.refDue = true → t.on d F.CAN_EVT_REF_MISS j = true) ∧ OnlyRegs [fldAddr d F.CAN_EVT_REF_MISS j 0] s t)) ∧
    (used = false ∨ s.on d F.CAN_REF_CFG_EN j = false → Yields (.canReferenceDue d j) s (fun t => t = s))

/-- A grid edge moves every running counter by its 1250 corrected cycles, its grid position by one, and its tally, WRAP
and the epoch with it; an edge whose tick is due does nothing. A site tick counts, copies counters that differ, takes
the source, the correction and the residuals by the servo's rules (AUTO, holdover, step held, adoption, a follower's
own), and sends the increment; increments act at their tick. Residual writes wait for the tick; a timeout clears
VALID; holdover ends in the clock or unset; SEL is judged. (A whole edge at once and AUTO's instant are the model's:
log entries 51, 52; the rounding of the correction is free: 28.) (R308, R309, R311, R314, R315, R316, R455) -/
def Obligations.GridTicksAndServo : Prop :=
  ∀ (s : State) (d : Fin 8) (dom : Fin 2) (hi : Word) (rq : Requester),
    let ahead (e : Fin 8) : Nat := (Int.ofNat (s.devTime e) * 2 ^ 32 + Int.ofNat (s.tsu.get e).frac + 1250 * cycleGain (s.tsu.get e).corr).toNat
    let lo : Word := s.word (fldAddr 0 F.TSU_DOM_OFS dom 0)
    (s.servo.tickDue = true → Yields .gridEdge s (fun t => t = s)) ∧
    (s.servo.tickDue = false → Yields .gridEdge s (fun t => t.now = s.now + 10000 ∧ t.pending = s.pending ∧
      (t.servo.tickDue = true ↔ s.tsuRuns 0 = true ∧ (s.rd 0 F.TSU_GRID + 1) % 10 = 0) ∧
      (s.tsuRuns d = true → t.rd d F.TSU_GRID = (s.rd d F.TSU_GRID + 1) % 10 ∧
        t.devTime d = ahead d / 2 ^ 32 % 2 ^ 48 ∧ (t.tsu.get d).frac = ahead d % 2 ^ 32 ∧
        (t.on d F.TSU_EVT_WRAP = true ↔ s.on d F.TSU_EVT_WRAP = true ∨ s.rd d F.TSU_TALLY ≠ ahead d / 2 ^ 64)) ∧
      (s.tsuRuns d = false → t.rd d F.TSU_GRID = s.rd d F.TSU_GRID ∧ t.devTime d = s.devTime d) ∧
      t.epoch = (if s.tsuRuns 0 = true ∧ 2 ^ 48 ≤ ahead 0 / 2 ^ 32 then (s.epoch + 2 ^ 48) % 2 ^ 64 else s.epoch))) ∧
    (s.servo.tickDue = false → Yields .siteTick s (fun t => t = s)) ∧
    (s.servo.tickDue = true → (∀ e, s.faults.dieRelease.get e = false) →
      let sel := s.selDom
      let r (x : Fin 2) : Int := ((s.servo.pend.get x).map (fun v => v * 10000000)).getD (s.servo.resid.get x)
      let near (x : Fin 2) : Prop := (r x).natAbs ≤ 200000000000000000
      let valid (x : Fin 2) : Prop := s.on 0 F.TSU_DOM_CFG_VALID x = true
      let other := 1 - sel
      let auto : Prop := s.on 0 F.TSU_CTRL_AUTO = true ∧ s.bit 0 F.TSU_STAT_VALID sel = true ∧ ¬valid sel ∧ valid other ∧ near other
      let corrected (t : State) (c : Int) : Prop := t.word (fldAddr 0 F.TSU_APPLIED 0 0) = BitVec.ofInt 32 c
      let left (t : State) (c : Int) : Prop := ∀ x, t.servo.resid.get x = r x - (c - s.domRate x)
      Yields .siteTick s (fun t => t.servo.tickDue = false ∧ t.pending = s.pending ∧ t.now = s.now ∧ t.servo.pend = Vector.replicate 2 none ∧
        (s.tsuRuns d = true → t.rd d F.TSU_TICK = (s.rd d F.TSU_TICK + 1) % 2 ^ 32) ∧
        (s.tsuRuns d = true → d ≠ 0 → t.on d F.TSU_STAT_XSYNC_OK = !(s.tsu.get d).resync ∧ (t.tsu.get d).resync = false ∧
          ((s.tsu.get d).resync = true → t.devTime d = s.devTime 0 ∧ t.on d F.TSU_EVT_XSYNC = true) ∧
          ((s.tsu.get d).resync = false → t.devTime d = s.devTime d)) ∧
        (t.tsu.get 0).queue = (s.tsu.get 0).queue ++ [(t.rd 0 F.TSU_TICK + 2, t.rdI 0 F.TSU_TCOMP, t.rdI 0 F.TSU_APPLIED)] ∧
        (d ≠ 0 → s.pkg.die.get d = .running → (t.tsu.get d).msgs = (s.tsu.get d).msgs ++ [(t.rd 0 F.TSU_TICK + 2,
          t.devTime 0 * 2 ^ 32 + (t.tsu.get 0).frac, t.devTime d * 2 ^ 32 + (t.tsu.get d).frac, t.rdI 0 F.TSU_TCOMP, t.rdI 0 F.TSU_APPLIED)]) ∧
        (∀ x : Fin 2, t.bit 0 F.TSU_STAT_VALID x = true ↔ valid x) ∧
        (t.timeSrc ≠ s.timeSrc → t.on 0 F.TSU_EVT_SRC_CHG = true ∧
          (s.follows = false → t.timeSrc = 5 → t.on 0 F.TSU_EVT_STEP_HELD = true)) ∧
        (t.on 0 F.TSU_STAT_SLEWING = true ↔ 10000000000 ≤ (t.servo.resid.get t.selDom).natAbs) ∧
        (s.follows = true → t.timeSrc = s.twin.peerSrc % 8 ∧ t.selDom = sel ∧ corrected t (s.slewOf (s.servo.peer.getD 0)) ∧
          t.servo.peer = s.servo.peer.map (fun p => p - s.slewOf (s.servo.peer.getD 0))) ∧
        (s.follows = false → s.timeSrc ≠ 4 → ∀ x, (auto ∧ x = other ∨ ¬auto ∧ x = sel) → t.selDom = x ∧ t.epoch = s.epoch ∧
          (valid x → near x → t.timeSrc = x.val ∧ corrected t (s.domRate x + s.slewOf (r x)) ∧ left t (s.domRate x + s.slewOf (r x)) ∧
            t.servo.rateLast = s.domRate x) ∧
          (valid x → ¬near x → t.timeSrc = 5 ∧ corrected t s.servo.rateLast ∧ left t s.servo.rateLast) ∧
          (¬valid x → s.timeSrc ≠ 3 → t.timeSrc = 2 ∧ corrected t s.servo.rateLast ∧ left t s.servo.rateLast) ∧
          (¬valid x → s.timeSrc = 3 → t.timeSrc = 3 ∧ corrected t (s.slewOf s.rtcResid) ∧ left t (s.slewOf s.rtcResid))) ∧
        (s.follows = false → s.timeSrc = 4 → ¬valid 0 → ¬valid 1 → t.timeSrc = 4 ∧ t.epoch = s.epoch ∧ corrected t s.servo.rateLast) ∧
        (s.follows = false → s.timeSrc = 4 → ∀ x, (valid sel ∧ x = sel ∨ ¬valid sel ∧ valid other ∧ x = other) →
          Int.ofNat (s.devTime 0) ≤ s.tai 0 + r x / 10000000 → s.tai 0 + r x / 10000000 < 2 ^ 64 →
          t.timeSrc = x.val ∧ t.selDom = x ∧ t.tai 0 = s.tai 0 + r x / 10000000))) ∧
    (Yields .incrementApply s (fun t => t.regs = s.regs ∧ Keeps s t ∧
      (∀ e ∈ (s.tsu.get d).queue, s.rd d F.TSU_TICK < e.1 → e ∈ (t.tsu.get d).queue) ∧
      (∀ e ∈ (t.tsu.get d).queue, e ∈ (s.tsu.get d).queue) ∧
      (∀ l e, (s.tsu.get d).queue = l ++ [e] → e.1 ≤ s.rd d F.TSU_TICK → (t.tsu.get d).corr = e.2.1 + e.2.2 ∧
        ∀ x ∈ (t.tsu.get d).queue, s.rd d F.TSU_TICK < x.1) ∧
      ((∀ e ∈ (s.tsu.get d).queue, s.rd d F.TSU_TICK < e.1) → t.tsu.get d = s.tsu.get d))) ∧
    ((s.tsu.get d).msgs = [] → Yields (.timeIncrementMessage d) s (fun t => t = s)) ∧
    (∀ tick lead own tc ap rest, (s.tsu.get d).msgs = (tick, lead, own, tc, ap) :: rest →
      Yields (.timeIncrementMessage d) s (fun t => (t.tsu.get d).msgs = rest ∧ (t.tsu.get d).queue = (s.tsu.get d).queue ++ [(tick, tc, ap)] ∧
        ((t.tsu.get d).resync = true ↔ (s.tsu.get d).resync = true ∨ lead ≠ own) ∧
        t.word (fldAddr d F.TSU_TCOMP 0 0) = BitVec.ofInt 32 tc ∧ t.word (fldAddr d F.TSU_APPLIED 0 0) = BitVec.ofInt 32 ap ∧
        OnlyRegs [fldAddr d F.TSU_TCOMP 0 0, fldAddr d F.TSU_APPLIED 0 0] s t)) ∧
    Yields (.residualWrite dom hi) s (fun t => t.servo.pend.get dom = some (hi ++ lo).toInt ∧ t.servo.resid = s.servo.resid ∧
      t.servo.pend.get (1 - dom) = s.servo.pend.get (1 - dom) ∧ t.word (fldAddr 0 F.TSU_DOM_OFS dom 1) = hi ∧
      OnlyRegs [fldAddr 0 F.TSU_DOM_OFS dom 1] s t) ∧
    Yields (.domainTimeout dom) s (fun t => t.on 0 F.TSU_DOM_CFG_VALID dom = false ∧ WritesOnly [fldAddr 0 F.TSU_DOM_CFG_VALID dom 0] s t) ∧
    (s.timeSrc = 2 → Yields .holdoverExpiry s (fun t => t.timeSrc = (if s.on 0 F.TSU_RTC_SUB_SET = true then 3 else 4) ∧
      t.on 0 F.TSU_EVT_SRC_CHG = true ∧ Keeps s t)) ∧
    (s.timeSrc ≠ 2 → Yields .holdoverExpiry s (fun t => t = s)) ∧
    (∀ g h, (s.on 0 F.TSU_DOM_CFG_VALID dom = true → (s.servo.resid.get dom).natAbs ≤ 200000000000000000 →
        Yields (.domainSelect (.app g h false) dom) s (fun t => t.rd 0 F.TSU_CTRL_SEL = dom.val ∧ WritesOnly [fldAddr 0 F.TSU_CTRL_SEL 0 0] s t)) ∧
      (s.on 0 F.TSU_DOM_CFG_VALID dom = false ∨ 200000000000000000 < (s.servo.resid.get dom).natAbs →
        Yields (.domainSelect (.app g h false) dom) s (fun t => t.on 0 F.TSU_EVT_SEL_REFUSED = true ∧
          WritesOnly [fldAddr 0 F.TSU_EVT_SEL_REFUSED 0 0] s t))) ∧
    ((∀ g h, rq ≠ .app g h false) → Yields (.domainSelect rq dom) s (fun t => t.regs = s.regs ∧ t.servo = s.servo ∧ Keeps s t))

/-- Steps change only EPOCH; clock rewrites; latched reads; Ethernet timestamps; pulse outputs; captures; UTC offset
changes (R310, R313, R317, R318, R319, R320, R321, R369) -/
def Obligations.StepsStampsAndPulses : Prop :=
  ∀ (s : State) (d n : Fin 8) (m : Fin 2) (rq : Requester) (frame : List Byte) (sfd : Nat) (id : BitVec 16) (dom : Bool) (v : Int)
    (src : Fin 7) (param : Fin 32),
    let r (x : Fld) : Nat := s.rd d x n
    let b := keyBank rq
    let due : Prop := s.rd 0 F.TSU_GRID = 0 ∧ s.servo.tickDue = false
    (s.servo.step = some v → due → Int.ofNat (s.devTime 0) ≤ v → v < 2 ^ 64 → Yields .stepApply s (fun t => t.tai 0 = v ∧
      (∀ x, t.servo.resid.get x = s.servo.resid.get x - (v - s.tai 0) * 10000000) ∧ t.servo.step = none ∧
      t.on 0 F.TSU_EVT_EPOCH_STEP = true ∧ t.tsu = s.tsu ∧ Keeps s t ∧
      (∀ a, a ∉ [fldAddr 0 F.TSU_EPOCH 0 0, fldAddr 0 F.TSU_EPOCH 1 0, fldAddr 0 F.TSU_EVT_EPOCH_STEP 0 0] →
        (∀ e : Fin 8, a ≠ fldAddr e F.XLK_CLS_CNT 2 0) → t.word a = s.word a))) ∧
    (s.servo.step = none ∨ ¬due → Yields .stepApply s (fun t => t = s)) ∧
    (s.timeSrc ≤ 1 → Yields .rtcRewrite s (fun t => t.rd 0 F.TSU_RTC_SEC = (s.tai 0).toNat / 1000000000 % 2 ^ 32 ∧
      t.rd 0 F.TSU_RTC_SUB_SUB = (s.tai 0).toNat % 1000000000 * 32768 / 1000000000 ∧ t.on 0 F.TSU_RTC_SUB_SET = true ∧
      OnlyRegs [fldAddr 0 F.TSU_RTC_SEC 0 0, fldAddr 0 F.TSU_RTC_SUB_SUB 0 0] s t)) ∧
    (1 < s.timeSrc → Yields .rtcRewrite s (fun t => t = s)) ∧
    (let new := s.rdI 0 F.TSU_UTC_OFS
     let diff := new - s.meter.utcOfs
     (diff = 0 → Yields .utcOffsetChange s (fun t => t = s)) ∧
     (diff.natAbs = 1 → monthEnd (s.utcMs / 1000) = true → Yields .utcOffsetChange s (fun t => t.meter.utcOfs = new ∧ t.regs = s.regs ∧
       t.meter.p1.start = s.meter.p1.start - diff * 1000 ∧ t.meter.p2.start = s.meter.p2.start - diff * 1000 ∧
       t.meter.evNext = s.meter.evNext + 1 ∧ Keeps s t)) ∧
     (diff ≠ 0 → diff.natAbs ≠ 1 ∨ monthEnd (s.utcMs / 1000) = false → Yields .utcOffsetChange s (fun t =>
       t.meter.utcOfs = s.meter.utcOfs ∧ t.regs = s.regs ∧ t.meter.p1 = s.meter.p1 ∧ t.meter.p2 = s.meter.p2 ∧
       t.meter.evNext = s.meter.evNext + 1 ∧ Keeps s t))) ∧
    (let may : Prop := match rq with
       | .app _ _ user => user = false
       | .hostPort => True
       | .safe e => e = d
       | .debug _ => s.debugOn = true
       | _ => False
     (s.present d = true → may → Yields (.tsuNsRead rq d) s (fun t => t.hpiOut = [s.word (fldAddr d F.TSU_NS 0 0)] ∧
       t.tsuLatch rq d = (BitVec.ofNat 16 (s.rd d F.TSU_TALLY), BitVec.ofNat 64 s.epoch) ∧
       (∀ q e, keyBank q ≠ b ∨ e ≠ d → t.tsuLatch q e = s.tsuLatch q e) ∧ t.regs = s.regs ∧ Keeps s t)) ∧
     (s.present d = true → ¬may → Yields (.tsuNsRead rq d) s (fun t => t = { s with hpiOut := [0] })) ∧
     (s.present d = false → Yields (.tsuNsRead rq d) s (fun t => t.hpiOut = [] ∧ t.tsu = s.tsu ∧ t.pending = s.pending))) ∧
    Yields (.ethFrameReceive m frame sfd) s (fun t => t.servo.ethRx.get m =
        some (frame, ((Int.ofNat sfd - Int.ofNat (s.rd 0 F.ETH_LAT_INGRESS m)) % 2 ^ 48).toNat) ∧
      t.servo.ethRx.get (1 - m) = s.servo.ethRx.get (1 - m) ∧ t.servo.tsq = s.servo.tsq ∧ t.regs = s.regs ∧ Keeps s t) ∧
    (let q := s.servo.tsq.get m
     (q.length < 16 → Yields (.ethTxTimestamp m id dom sfd) s (fun t =>
       t.servo.tsq.get m = q ++ [{ id := id, dom := dom, ts := (sfd + s.rd 0 F.ETH_LAT_EGRESS m) % 2 ^ 48 }] ∧
       t.servo.tsq.get (1 - m) = s.servo.tsq.get (1 - m) ∧ t.rd 0 F.ETH_TSQ_STAT_FILL m = q.length + 1 ∧
       OnlyRegs [fldAddr 0 F.ETH_TSQ_STAT_FILL m 0] s t)) ∧
     (16 ≤ q.length → Yields (.ethTxTimestamp m id dom sfd) s (fun t => t.servo.tsq = s.servo.tsq ∧
       t.on 0 F.ETH_TSQ_STAT_OVF m = true ∧ t.rd 0 F.ETH_TSQ_STAT_DROPPED m = min 65535 (s.rd 0 F.ETH_TSQ_STAT_DROPPED m + 1) ∧
       WritesOnly [fldAddr 0 F.ETH_TSQ_STAT_OVF m 0] s t)) ∧
     (q = [] → Yields (.ethTsqPop m) s (fun t => t = { s with hpiOut := [0] })) ∧
     (∀ e rest, q = e :: rest → rest.length < 16 → Yields (.ethTsqPop m) s (fun t => t.servo.tsq.get m = rest ∧
       t.rd 0 F.ETH_TSQ_STAT_FILL m = rest.length ∧ t.rd 0 F.ETH_TSQ_TS m 0 = e.ts % 2 ^ 32 ∧
       t.rd 0 F.ETH_TSQ_TS m 1 = e.ts / 2 ^ 32 % 2 ^ 32 ∧
       t.hpiOut = [BitVec.ofNat 32 (e.id.toNat + 65536 * b2n e.dom + 2 ^ 31)] ∧
       OnlyRegs [fldAddr 0 F.ETH_TSQ_STAT_FILL m 0, fldAddr 0 F.ETH_TSQ_TS m 0, fldAddr 0 F.ETH_TSQ_TS m 1] s t))) ∧
    (let mode := r F.TSU_PO_CTRL_MODE
     let start := r F.TSU_PO_START_LO + r F.TSU_PO_START_HI_TALLY * 2 ^ 32
     let now := s.devTime d
     let per := s.rd d F.TSU_PO_PW n 0 / 8 * 8
     let wid := s.rd d F.TSU_PO_PW n 1 / 8 * 8
     let pol := s.on d F.TSU_PO_CTRL_POL n
     let o := (s.tsu.get d).po.get n
     let good : Prop := 8 ≤ wid ∧ (mode = 2 → 16 ≤ per ∧ wid + 8 ≤ per)
     let mine : List Nat := [fldAddr d F.TSU_PO_CTRL_ARM n 0, fldAddr d F.TSU_EVT_PO_MISSED 0 0]
     let armed (t : State) : Prop := OnlyRegs mine s t
     let fell (t : State) : Prop := t.pending = s.pending ∧ t.now = s.now ∧
       (∀ a, a ∉ mine → (∀ u : Fin 8, a ≠ fldAddr d F.ACQ_U_STAT_STATE u 0 ∧ a ≠ fldAddr d F.ACQ_U_CNT_BUSY_TRIG u 0) →
         t.word a = s.word a) ∧
       ((∀ u : Fin 8, s.rd d F.ACQ_U_TRIG_SRC u = 4 → s.rd d F.ACQ_U_TRIG_PARAM u ≠ n.val) → OnlyRegs mine s t)
     let ends (x : Instr) (miss : Bool) (frame : State → Prop) : Prop := Yields x s (fun t =>
       (t.tsu.get d).po.get n = { due := 0, rise := false, level := pol } ∧ t.on d F.TSU_PO_CTRL_ACTIVE n = false ∧
       (miss = true → t.on d F.TSU_PO_CTRL_MISSED n = true ∧ t.on d F.TSU_EVT_PO_MISSED = true) ∧ frame t)
     let runs (x : Instr) (p : PulseOut) (miss : Bool) (frame : State → Prop) : Prop := Yields x s (fun t =>
       (t.tsu.get d).po.get n = p ∧ t.on d F.TSU_PO_CTRL_ACTIVE n = true ∧
       (miss = true → t.on d F.TSU_PO_CTRL_MISSED n = true ∧ t.on d F.TSU_EVT_PO_MISSED = true) ∧ frame t)
     (mode = 0 ∨ mode = 3 → Yields (.arm d n) s (fun t => t = s)) ∧
     (mode = 1 → start < now → ends (.arm d n) true armed) ∧
     (mode = 1 ∨ mode = 2 → now ≤ start → good → runs (.arm d n) { due := start, rise := true, level := pol } false armed) ∧
     (mode = 2 → start < now → good → runs (.arm d n)
       { due := (start + ((now - start) / per + 1) * per) % 2 ^ 48, rise := true, level := pol } true armed) ∧
     (s.on d F.TSU_PO_CTRL_ACTIVE n = false → Yields (.pulseEdge d n) s (fun t => t = s)) ∧
     (s.on d F.TSU_PO_CTRL_ACTIVE n = true → good → o.rise = true → runs (.pulseEdge d n)
       { due := (o.due + wid) % 2 ^ 48, rise := false, level := !pol } false fell) ∧
     (s.on d F.TSU_PO_CTRL_ACTIVE n = true → good → o.rise = false → mode = 2 → runs (.pulseEdge d n)
       { due := (o.due + per - wid) % 2 ^ 48, rise := true, level := pol } false fell) ∧
     (s.on d F.TSU_PO_CTRL_ACTIVE n = true → good → o.rise = false → mode ≠ 2 → ends (.pulseEdge d n) false fell)) ∧
    (let mine : Prop := src ≠ 0 ∧ r F.TSU_CAP_CFG_SRC = src.val ∧ (src = 4 ∨ src = 5 ∨ r F.TSU_CAP_CFG_PARAM = param.val)
     Yields (.captureEvent d src param) s (fun t => Keeps s t ∧ t.tsu = s.tsu ∧
       (mine → t.rd d F.TSU_CAP_TALLY_TALLY n * 2 ^ 32 + t.rd d F.TSU_CAP_NS n = s.devTime d ∧ t.on d F.TSU_CAP_TALLY_NEW n = true ∧
         t.on d F.TSU_CAP_TALLY_OVR n = (s.on d F.TSU_CAP_TALLY_OVR n || s.on d F.TSU_CAP_TALLY_NEW n) ∧ t.on d F.TSU_EVT_CAP = true) ∧
       (¬mine → t.word (fldAddr d F.TSU_CAP_NS n 0) = s.word (fldAddr d F.TSU_CAP_NS n 0) ∧
         t.word (fldAddr d F.TSU_CAP_TALLY_NEW n 0) = s.word (fldAddr d F.TSU_CAP_TALLY_NEW n 0))))

/-- ARM is refused with the first status that holds, or clears every VALID bit of the region and arms. FORCE triggers an
ARMED unit of its own: PRE samples and later ones are written and the rest awaited; a busy unit counts. STOP and a
gathered overflow, which a link with all its lanes on four dies or fewer excludes, write an open segment's header;
completion writes it and goes on or ends. A member with FIRE_EN of an armed group asks for a fire; a group fires once
while armed by an ARMED member whose source has fired and reaches every member. Gathered words are recorded one by
one. A copy goes to host SRAM, or waits for a bulk slot and publishes it. (R33, R325, R327, R328, R330, R331, R333, R334, R335, R336, R337, R339) -/
def Obligations.AcquisitionUnits : Prop :=
  ∀ (s : State) (d u g e v : Fin 8) (time : Nat) (word : Word) (rest : List (Word × Nat)),
    let r (x : Fld) : Nat := s.rd d x u
    let st := s.acqSt d u
    let a := s.acqU d u
    let circ : Prop := u.val < 2
    let stat := fldAddr d F.ACQ_U_STAT_STATE u 0
    let headKey := capKey d (s.acqHead d u)
    let headed (t q : State) : Prop := (List.range 8).map (fun j => t.mword (headKey + 4 * j)) = q.acqHeader d u
    (let idle : Prop := st = 1 ∨ st = 5 ∨ st = 6
     let bad : Prop := r F.ACQ_U_LEN_LEN < 16 ∨
       (circ ∧ (262144 < r F.ACQ_U_LEN_LEN ∨ r F.ACQ_U_POST_POST = 0 ∨ r F.ACQ_U_LEN_LEN < r F.ACQ_U_POST_POST)) ∨
       (¬circ ∧ (65536 < r F.ACQ_U_LEN_LEN ∨ r F.ACQ_U_SEG_SEGS = 0 ∨ 1024 < r F.ACQ_U_SEG_SEGS ∨ 64 < r F.ACQ_U_SEG_PRE)) ∨
       r F.ACQ_U_BASE_BASE % 32 ≠ 0 ∨ 0x400000 < r F.ACQ_U_BASE_BASE + r F.ACQ_U_SIZE_SIZE ∨ s.acqOverlap d u = true ∨
       r F.ACQ_U_SIZE_SIZE < s.acqNeed d u ∨ (¬circ ∧ 6 ≤ r F.ACQ_U_TRIG_SRC ∧ r F.ACQ_U_TRIG_SRC ≤ 10) ∨
       (r F.ACQ_U_TRIG_SRC = 2 ∧ s.acqHasCell d u (r F.ACQ_U_TRIG_TCELL) = false) ∨
       (s.on d F.ACQ_U_CFG_GATH u = true ∧ (d ≠ 0 ∨ r F.ACQ_U_CFG_FMT = 0 ∨ s.present (r F.ACQ_U_CFG_SRC_DIE) = false))
     let refused (n : Nat) : Prop := Yields (.acqArm d u) s (fun t => t.rd d F.ACQ_U_STAT_STATUS u = n ∧ t.acqSt d u = st ∧ WritesOnly [stat] s t)
     let valid (i : Nat) : Nat := capKey d (r F.ACQ_U_BASE_BASE + i * s.acqSegBytes d u + 3)
     let segs : Nat := if u.val < 2 then 1 else r F.ACQ_U_SEG_SEGS
     (¬idle → refused 3) ∧ (idle → s.acqBeingRead d u = true → refused 6) ∧
     (idle → s.acqBeingRead d u = false → bad → refused 4) ∧
     (idle → s.acqBeingRead d u = false → ¬bad → Yields (.acqArm d u) s (fun t => t.acqSt d u = 2 ∧ t.rd d F.ACQ_U_STAT_STATUS u = 0 ∧
       t.acqU d u = AcqUnit.init ∧ t.rd d F.ACQ_U_CNT_SEGDONE u = 0 ∧ t.pending = s.pending ∧
       (∀ i, i < segs → t.byte (valid i) = s.byte (valid i) &&& 0x7F) ∧
       (∀ k, (∀ i, i < segs → k ≠ valid i) → t.byte k = s.byte k)))) ∧
    (let mine : Prop := r F.ACQ_U_TRIG_SRC = 1 ∧ s.on d F.ACQ_U_TRIG_GRP_EN u = false
     let trig : AcqTrig := { time := s.devTime d, src := 1, group := none, firerUnit := u, firerDie := d }
     let old := a.line.filter (fun x => decide (x.t ≤ s.devTime d))
     let pre := r F.ACQ_U_SEG_PRE
     let kept := min pre old.length
     let total := r F.ACQ_U_LEN_LEN - (pre - kept)
     let ready := kept + (a.line.length - old.length)
     (mine → st = 2 → Yields (.force d u) s (fun t => t.acqSt d u = 3 ∧ (t.acqU d u).trig = some trig ∧ t.pending = s.pending ∧
       (circ → (t.acqU d u).left = r F.ACQ_U_POST_POST ∧ (t.acqU d u).n = a.n ∧ t.mem = s.mem) ∧
       (¬circ → (t.acqU d u).n = min total ready ∧ (t.acqU d u).left = total - min total ready ∧
         (s.acqHead d u + 32 + s.acqW d u * total ≤ 0x400000 →
           ∀ k, k < headKey + 32 ∨ headKey + 32 + s.acqW d u * min total ready ≤ k → t.byte k = s.byte k)))) ∧
     (mine → st = 3 ∨ st = 4 → Yields (.force d u) s (fun t => WritesOnly [fldAddr d F.ACQ_U_CNT_BUSY_TRIG u 0] s t ∧
       t.rd d F.ACQ_U_CNT_BUSY_TRIG u = min 255 (r F.ACQ_U_CNT_BUSY_TRIG + 1))) ∧
     (let asks : Prop := r F.ACQ_U_TRIG_SRC = 1 ∧ s.on d F.ACQ_U_TRIG_GRP_EN u = true ∧ s.on d F.ACQ_U_TRIG_FIRE_EN u = true ∧ st = 2 ∧
        s.on 0 F.ACQ_GRP_CTRL_ARMED (r F.ACQ_U_TRIG_GROUP) = true
      (asks → Yields (.force d u) s (fun t => t = s.updAcq d u (fun x => { x with own := some (x.own.getD (s.devTime d)) }))) ∧
      ((¬mine ∨ st < 2 ∨ 4 < st) → ¬asks → Yields (.force d u) s (fun t => t = s)))) ∧
    (st = 2 ∨ st = 3 → Yields (.acqStop d u) s (fun t => t.acqSt d u = 6 ∧ t.bit d F.ACQ_EVT_STOPPED u = true ∧ t.pending = s.pending ∧
      (st = 3 → headed t s ∧ ∀ k, k < headKey ∨ headKey + 32 ≤ k → t.byte k = s.byte k) ∧ (st = 2 → t.mem = s.mem))) ∧
    (st ≠ 2 → st ≠ 3 → Yields (.acqStop d u) s (fun t => t = s)) ∧
    Yields (.acqDisable d u) s (fun t => t.acqSt d u = 0 ∧ t.on d F.ACQ_U_CTRL_EN u = false ∧ Keeps s t ∧ t.acq = s.acq) ∧
    (let n := (r F.ACQ_U_CNT_SEGDONE + 1) % 2048
     let ends : Prop := ¬circ ∧ st = 3 ∧ a.left = 0
     (ends → Yields (.acqSegmentComplete d u) s (fun t => headed t s ∧ t.rd d F.ACQ_U_CNT_SEGDONE u = n ∧ (t.acqU d u).n = 0 ∧
       (t.acqU d u).trig = none ∧ (∀ k, k < headKey ∨ headKey + 32 ≤ k → t.byte k = s.byte k) ∧
       (n < r F.ACQ_U_SEG_SEGS → t.acqSt d u = 2) ∧
       (r F.ACQ_U_SEG_SEGS ≤ n → t.acqSt d u = 5 ∧ t.bit d F.ACQ_EVT_DONE u = true))) ∧
     (¬ends → Yields (.acqSegmentComplete d u) s (fun t => t = s))) ∧
    (let ends : Prop := circ ∧ st = 3 ∧ a.left = 0
     (ends → Yields (.acqPostComplete d u) s (fun t => headed t s ∧ t.acqSt d u = 5 ∧ t.bit d F.ACQ_EVT_DONE u = true ∧
       ∀ k, k < headKey ∨ headKey + 32 ≤ k → t.byte k = s.byte k)) ∧
     (¬ends → Yields (.acqPostComplete d u) s (fun t => t = s))) ∧
    (let member (x y : Fin 8) : Prop := s.on x F.ACQ_U_TRIG_GRP_EN y = true ∧ s.rd x F.ACQ_U_TRIG_GROUP y = g.val
     let fires : Prop := s.on 0 F.ACQ_GRP_CTRL_ARMED g = true ∧ member d u ∧ st = 2
     (a.own ≠ some time ∨ ¬fires → Yields (.groupFire g d u time) s (fun t => t = s)) ∧
     (a.own = some time → fires → Yields (.groupFire g d u time) s (fun t => t.on 0 F.ACQ_GRP_CTRL_ARMED g = false ∧ t.on 0 F.ACQ_EVT_GRP_FIRE = true ∧
       t.rd 0 F.ACQ_GRP_STAT_FIRES g = (s.rd 0 F.ACQ_GRP_STAT_FIRES g + 1) % 65536 ∧ t.rd 0 F.ACQ_GRP_STAT_FIRER_UNIT g = u.val ∧
       t.rd 0 F.ACQ_GRP_STAT_FIRER_DIE g = d.val ∧ t.pending = s.pending ∧
       (s.dieUsed e = true → member e v → s.acqSt e v = 2 → t.acqSt e v = 3 ∧ e.val * 8 + v.val ∈ (t.group.get g).wait ∧
         (t.acqU e v).trig = some { time := time, src := r F.ACQ_U_TRIG_SRC, group := some g, firerUnit := u, firerDie := d }) ∧
       (s.dieUsed e = true → member e v → s.acqSt e v ≠ 2 → t.acqSt e v = s.acqSt e v ∧ t.acqU e v = { s.acqU e v with own := none } ∧
         t.rd e F.ACQ_U_CNT_BUSY_TRIG v = min 255 (s.rd e F.ACQ_U_CNT_BUSY_TRIG v + 1)) ∧
       (s.dieUsed e = false ∨ ¬member e v → t.acqSt e v = s.acqSt e v) ∧ (¬member e v → t.acqU e v = s.acqU e v)))) ∧
    Yields (.groupArm g) s (fun t => t.on 0 F.ACQ_GRP_CTRL_ARMED g = true ∧ WritesOnly [fldAddr 0 F.ACQ_GRP_CTRL_ARMED g 0] s t) ∧
    Yields (.disarm g) s (fun t => t.on 0 F.ACQ_GRP_CTRL_ARMED g = false ∧ (t.group.get g).wait = [] ∧
      OnlyRegs [fldAddr 0 F.ACQ_GRP_CTRL_ARMED g 0] s t) ∧
    (let gath := s.on 0 F.ACQ_U_CFG_GATH u
     let st0 := s.acqSt 0 u
     let key := capKey 0 (s.acqHead 0 u + 32 + (s.acqU 0 u).n * s.acqW 0 u)
     (gath = false ∨ st0 < 2 ∨ 4 < st0 → Yields (.gatherBlock u ((word, time) :: rest)) s (fun t => t = s)) ∧
     (gath = true → st0 = 3 → ¬circ → (s.acqU 0 u).left ≠ 0 → s.rd 0 F.ACQ_U_TRIG_SRC u ≠ 2 → s.rd 0 F.ACQ_U_TRIG_SRC u ≠ 3 →
       Yields (.gatherBlock u [(word, time)]) s (fun t => t.bytes key (s.acqW 0 u) = leBytes (s.acqW 0 u) word.toNat ∧
         (t.acqU 0 u).n = (s.acqU 0 u).n + 1 ∧ (t.acqU 0 u).left = (s.acqU 0 u).left - 1 ∧ t.pending = s.pending ∧
         ∀ k, k < key ∨ key + s.acqW 0 u ≤ k → t.byte k = s.byte k)) ∧
     (let lanes := s.rd (s.gathDie u) F.XLK_STAT_LANES_OK
      (lanes ≠ 15 → s.gathLoses u = true) ∧
      (lanes = 15 → (List.finRange 8).countP (fun x => s.present x) ≤ 4 → s.gathLoses u = false)) ∧
     (gath = false ∨ st0 < 2 ∨ 4 < st0 ∨ s.gathLoses u = false → Yields (.gatherOverflow u) s (fun t => t = s)) ∧
     (gath = true → 2 ≤ st0 → st0 ≤ 4 → s.gathLoses u = true → Yields (.gatherOverflow u) s (fun t => t.on (s.rd 0 F.ACQ_U_CFG_SRC_DIE u) F.XLK_ERR_CLS3_SHORT = true ∧
       (st0 = 2 ∨ st0 = 3 → t.acqSt 0 u = 6 ∧ t.bit 0 F.ACQ_EVT_STOPPED u = true) ∧
       (d = 0 → st0 = 3 → headed t (s.updAcq 0 u (fun x => { x with flags := x.flags ||| 32 }))) ∧
       (st0 ≠ 3 → t.mem = s.mem)))) ∧
    (let busy := s.on d F.ACQ_RD_CTRL_BUSY
     let len := s.rd d F.ACQ_RD_LEN_LEN
     let src := s.rd d F.ACQ_RD_SRC_SRC
     let dst := s.rd d F.ACQ_RD_DST
     (busy = true → Yields (.readoutGo d) s (fun t => t = s)) ∧
     (busy = false → Yields (.readoutGo d) s (fun t => t.on d F.ACQ_RD_CTRL_BUSY = true ∧ t.rd d F.ACQ_RD_CTRL_PIECES = 0 ∧
       WritesOnly [fldAddr d F.ACQ_RD_CTRL_BUSY 0 0] s t)) ∧
     (busy = false → Yields (.readoutDone d) s (fun t => t = s)) ∧
     (busy = true → s.on d F.ACQ_RD_CTRL_WIN = false → 0x10000000 ≤ dst → dst + len ≤ 0x10200000 → src + len ≤ 0x400000 →
       Yields (.readoutDone d) s (fun t => t.bytes (sramKey d dst) len = s.bytes (capKey d src) len ∧
         t.on d F.ACQ_RD_CTRL_BUSY = false ∧ t.rd d F.ACQ_RD_CTRL_STATUS = 0 ∧ t.on d F.ACQ_EVT_RD_DONE = true ∧
         ∀ k, k < sramKey d dst ∨ sramKey d dst + len ≤ k → t.byte k = s.byte k)) ∧
     (d = 0 → busy = true → s.on d F.ACQ_RD_CTRL_WIN = true → s.rd d F.ACQ_RD_CTRL_PIECES = 0 → 0 < len →
       (s.nextBulk = none → Yields (.readoutDone d) s (fun t => t = s)) ∧
       (∀ i, s.nextBulk = some i → len ≤ 16380 → src + len ≤ 0x400000 → Yields (.readoutDone d) s (fun t =>
         (List.range (wordsOf (s.bytes (capKey 0 src) len)).length).map (t.slotWord i) = wordsOf (s.bytes (capKey 0 src) len) ∧
         t.header i = mkHeader 1 (hSeq (s.header i) + 1) (wordsOf (s.bytes (capKey 0 src) len)).length ∧
         t.rd 0 F.ACQ_RD_CTRL_PIECES = 1 ∧ t.rd 0 F.ACQ_RD_CTRL_SLOT = i ∧ t.on 0 F.ACQ_RD_CTRL_BUSY = false ∧
         t.rd 0 F.ACQ_RD_CTRL_STATUS = 0))))

/-- Metering: increments once, acknowledged when committed, reactive quadrants, records, tampers, twin windows, tokens (R344, R345, R346, R353, R355, R356, R357, R359, R361, R386, R389, R390) -/
def Obligations.EnergyRecordsAndTokens : Prop :=
  ∀ (s : State) (d : Fin 8) (k : Fin 4) (p : Fin 32) (pw qv : Int) (id peak mv : Nat) (sh ha : Int) (code : Fin 256) (op : Option Port),
    let m := s.meter
    let link := m.core.get d
    let x := m.port.get (portOf d k)
    let reg (y : State) (item : Nat) : Nat := eGet y.meter.energy (portReg (portOf d k) item)
    let rated : Prop := 1 ≤ m.rate ∧ m.rate ≤ 8
    (link.inFlight = none → Yields (.meterIncrementReceive d) s (fun t => t = s) ∧ Yields (.meterIncrementAck d) s (fun t => t = s)) ∧
    (∀ q, link.inFlight = some q →
      (m.running = false ∨ m.received.get d = q ∨ m.committed.get d = q → Yields (.meterIncrementReceive d) s (fun t => t = s)) ∧
      (m.running = true → m.received.get d ≠ q → m.committed.get d ≠ q → rated → Yields (.meterIncrementReceive d) s (fun t =>
        t.meter.received = m.received.set d q ∧ reg t 0 = reg s 0 + x.sent.1 ∧ reg t 1 = reg s 1 + x.sent.2.1 ∧
        reg t 2 = reg s 2 + x.sent.2.2 ∧ reg t (2 + m.rate) = reg s (2 + m.rate) + x.sent.1 ∧
        reg t (10 + m.rate) = reg s (10 + m.rate) + x.sent.2.1 ∧
        (id / 256 < 4 * d.val + 1 ∨ 4 * d.val + 4 < id / 256 → eGet t.meter.energy id = eGet m.energy id) ∧
        t.meter.committed = m.committed ∧ t.meter.core = m.core ∧ t.regs = s.regs ∧ Keeps s t)) ∧
      (m.committed.get d ≠ q → Yields (.meterIncrementAck d) s (fun t => t = s)) ∧
      (m.committed.get d = q → Yields (.meterIncrementAck d) s (fun t => t.meter.core.get d = { link with inFlight := none } ∧
        t.meter.port.get (portOf d k) = { x with ap := x.ap - x.sent.1, am := x.am - x.sent.2.1, l := x.l - x.sent.2.2, sent := (0, 0, 0) } ∧
        (Port.die p ≠ d → t.meter.port.get p = m.port.get p) ∧ t.meter.energy = m.energy ∧ OnlyRegs [fldAddr 0 F.XLK_CLS_CNT 2 0] s t))) ∧
    (m.running = false → Yields .meterCommit s (fun t => t = s) ∧ Yields .powerfailRecordSign s (fun t => t = s) ∧
      Yields (.recordSign p) s (fun t => t = s) ∧ Yields (.reactiveHalfCycle pw qv) s (fun t => t = s)) ∧
    (m.running = true → rated → Yields .meterCommit s (fun t => t.meter.q0 = t.meter.energy ∧ t.meter.committed = m.received ∧
      (d = 0 → reg t 0 = reg s 0 + x.ap ∧ reg t 1 = reg s 1 + x.am ∧ reg t 2 = reg s 2 + x.l ∧
        t.meter.port.get (portOf d k) = { x with ap := 0, am := 0, l := 0, gap := false }) ∧
      (d ≠ 0 → reg t 0 = reg s 0 ∧ t.meter.port.get (portOf d k) = x) ∧
      (m.bound = [] → t.meter.balance = m.balance) ∧
      (∀ a, m.bound = [(p.val, a)] → eGet t.meter.debited p = mwh t.meter.energy (portReg p 0) ∧
        Sparse.get (fun _ => 0) t.meter.balance a = Sparse.get (fun _ => 0) m.balance a -
          (Int.ofNat (mwh t.meter.energy (portReg p 0) / 1000) - Int.ofNat (eGet m.debited p / 1000)) ∧
        (a ∈ t.meter.acctEvents ↔ Sparse.get (fun _ => 0) t.meter.balance a ≤ 0 ∧
          (0 < Sparse.get (fun _ => 0) m.balance a ∨ a ∈ m.acctEvents))) ∧
      t.regs = s.regs ∧ Keeps s t)) ∧
    (m.running = true → s.pkg.pd = .none →
      let item : Nat := if 0 ≤ pw then (if 0 ≤ qv then 8 else 11) else (if 0 ≤ qv then 9 else 10)
      (s.isLate (s.devTime 0) = false → Yields (.reactiveHalfCycle pw qv) s (fun t =>
        eGet t.meter.energy item = eGet m.energy item + qv.natAbs ∧ (∀ i, i ≠ item → eGet t.meter.energy i = eGet m.energy i) ∧
        t.meter.aside = m.aside ∧ t.regs = s.regs ∧ Keeps s t)) ∧
      (s.isLate (s.devTime 0) = true → Yields (.reactiveHalfCycle pw qv) s (fun t =>
        eGet t.meter.aside item = eGet m.aside item + qv.natAbs ∧ t.meter.energy = m.energy ∧ t.regs = s.regs ∧ Keeps s t))) ∧
    (m.running = true →
      let chain : List Byte := match m.records.getLast? with
        | some r => (Config.sha256 (recordBytes r)).toList
        | none => List.replicate 32 0
      let written (t : State) (r : SessionRecord) : Prop := ∃ w, t.meter.records.getLast? = some w ∧ w.port = r.port ∧
        w.startAp = r.startAp ∧ w.stopAp = r.stopAp ∧ w.energy = r.energy ∧ w.recno = m.recno ∧ w.prevDigest = chain ∧
        (s.slotKey 4 = none → w.flags = r.flags ||| 2048 ∧ w.signature = List.replicate 64 0)
      (m.due.any byPower = true ∨ m.due.find? (fun r => r.port == p.val) = none → Yields (.recordSign p) s (fun t => t = s)) ∧
      (∀ r, m.due.any byPower = false → m.due.find? (fun r => r.port == p.val) = some r → Yields (.recordSign p) s (fun t =>
        written t r ∧ t.meter.due = m.due.erase r ∧ t.meter.recno = m.recno + 1 ∧ t.regs = s.regs ∧ Keeps s t)) ∧
      Yields .powerfailRecordSign s (fun t => t.meter.due = m.due.filter (fun r => !byPower r) ∧
        t.meter.recno = m.recno + (m.due.filter byPower).length ∧ (∀ r, m.due.filter byPower = [r] → written t r) ∧
        t.regs = s.regs ∧ Keeps s t)) ∧
    (let new (c : Instr) (n port bits : Nat) (cond : Prop) : Prop :=
       (cond → (n, port) ∉ m.tampers → Yields c s (fun t => (n, port) ∈ t.meter.tampers ∧ (∀ y ∈ m.tampers, y ∈ t.meter.tampers) ∧
         t.meter.tpNext = m.tpNext + 1 ∧ eGet t.meter.tpCount n = eGet m.tpCount n + 1 ∧ t.meter.energy = m.energy ∧
         (port = p.val → ∀ v, m.session.get p = some v → ∃ w, t.meter.session.get p = some w ∧ w.flags &&& (256 + bits) = 256 + bits) ∧
         Keeps s t)) ∧
       (¬cond → Yields c s (fun t => t = s))
     new (.tamperReverseCurrent p peak) 0x42 p 4096 (m.running = true ∧ ∀ v, m.session.get p = some v → v.bidir = false) ∧
     new (.tamperShuntBypass p sh ha) 0x43 p 0
       (m.running = true ∧ s.on (Port.die p) F.ADC_MTRMAP_H_EN (Port.loc p) = true ∧ (0x43, p.val) ∉ m.tampers) ∧
     new (.tamperMissingNeutral mv) 0x44 0xFF 0 (m.running = true ∧ 30000 < mv) ∧
     new (.tamperMagneticField p) 0x45 p 0 (m.running = true ∧ (s.cfg (Port.die p) (Port.loc p)).sin7Mag = true)) ∧
    (let port : Nat := match op with
       | some y => y.val
       | none => 0xFF
     (code.val = 0x40 ∨ code.val = 0x41 → Yields (.meterTamperEnd code op) s (fun t => t = s)) ∧
     (code.val ≠ 0x40 → code.val ≠ 0x41 → Yields (.meterTamperEnd code op) s (fun t => (code.val, port) ∉ t.meter.tampers ∧
       (∀ y ∈ m.tampers, y ≠ (code.val, port) → y ∈ t.meter.tampers) ∧ t.regs = s.regs ∧ Keeps s t))) ∧
    (let ids := ((m.winOwn ++ m.winPeer).map (·.1)).eraseDups
     let tol := if m.site.twinTol = 0 then 10 else m.site.twinTol
     let apart (i : Nat) : Prop := tol * eGet m.winPeer i + 5000 * 2 ^ 32 * 1000 <
       (Int.ofNat (eGet m.winPeer i) - Int.ofNat (eGet m.winOwn i)).natAbs * 1000
     let differ (y : Nat) : Prop := ∃ c, ¬((c, y) ∈ m.tampers ↔ (c, y) ∈ m.peerTampers)
     let own := portReg p 255
     (s.role ≠ 2 → Yields .twinMeterWindow s (fun t => t = s)) ∧
     (s.role = 2 → Yields .twinMeterWindow s (fun t => t.meter.winOwn = [] ∧ t.meter.winPeer = [] ∧
       (id % 256 ≠ 255 → (id ∈ ids → apart id → eGet t.meter.winBad id = eGet m.winBad id + 1) ∧
         (id ∈ ids → ¬apart id → eGet t.meter.winBad id = 0) ∧ (id ∉ ids → eGet t.meter.winBad id = eGet m.winBad id)) ∧
       (own ∉ ids → differ p → eGet t.meter.winBad own = eGet m.winBad own + 1) ∧ (¬differ p → eGet t.meter.winBad own = 0) ∧
       (∀ i, ids = [i] → i % 256 ≠ 255 → (∀ y : Fin 32, ¬differ y) →
         t.meter.evNext = m.evNext + (if eGet t.meter.winBad i = 3 then 1 else 0)) ∧
       (ids = [] → (∀ y : Fin 32, y ≠ p → ¬differ y) → t.meter.evNext = m.evNext + (if eGet t.meter.winBad own = 3 then 1 else 0)) ∧
       t.meter.tampers = m.tampers ∧ t.meter.energy = m.energy ∧ t.regs = s.regs ∧ Keeps s t))) ∧
    (m.token = none → Yields .tokenTransaction s (fun t => t = s)) ∧
    (∀ a tid amount, m.token = some (a, tid, amount) → Yields .tokenTransaction s (fun t => t.meter.token = none ∧
      Sparse.get (fun _ => 0) t.meter.balance a = Sparse.get (fun _ => 0) m.balance a + Int.ofNat (m.site.amounts.getD amount 0) ∧
      eGet t.meter.high a = max (eGet m.high a) tid ∧ t.meter.evNext = m.evNext + 1 ∧
      (∃ l, t.meter.spent.filter (fun e => e.1 == a) = [(a, l)] ∧ (tid ∈ l ↔ max (eGet m.high a) tid < tid + 65536) ∧
        ∀ y ∈ l, max (eGet m.high a) tid < y + 65536) ∧
      (∀ y, y ≠ a → eGet t.meter.high y = eGet m.high y) ∧ t.meter.energy = m.energy ∧ t.regs = s.regs ∧ Keeps s t))

/-- Boundaries announced and committed in one transaction, restoration after a power cut, DLMS associations and requests (R350, R351, R364, R365, R366, R367, R374, R376, R377, R378, R379, R382) -/
def Obligations.BoundariesAndReadout : Prop :=
  ∀ (s : State) (time : Nat) (two : Bool) (i : DlmsIf) (r : Role) (auth : Bool) (a : Apdu) (reg : Nat),
    let m := s.meter
    let cal := m.almanac
    let mine : Nat × Nat := (ifCode i, roleCode r)
    let rate (t : State) (at_ : Int) : Prop := ∀ c, t.meter.almanac = some c → t.meter.rate = (switchAt c (at_ + c.localOfs * 60)).2
    let replies (t : State) (l : List Word) : Prop := t = { s with meter := { m with reply := l } }
    (let may : Prop := m.running = true ∧ m.restoring = false ∧ m.announced = none ∧ isBoundary cal s.p2Mins (Int.ofNat time) = true ∧
       s.utcMs + 1000 ≤ Int.ofNat time * 1000
     (may → Yields (.boundaryAnnounce time) s (fun t => t.meter = { m with announced := some (Int.ofNat time * 1000) } ∧
       t = { s with meter := t.meter, regs := t.regs } ∧ ∀ x, (∀ e : Fin 8, x ≠ fldAddr e F.XLK_CLS_CNT 2 0) → t.word x = s.word x)) ∧
     (¬may → Yields (.boundaryAnnounce time) s (fun t => t = s))) ∧
    (m.announced = none ∨ m.running = false ∨ m.restoring = true → Yields .boundaryCommit s (fun t => t = s)) ∧
    (∀ tm, m.announced = some tm → s.utcMs < tm ∨ (∃ td, m.td = some td ∧ td < tm) → Yields .boundaryCommit s (fun t => t = s)) ∧
    (∀ tm, m.announced = some tm → tm ≤ s.utcMs → (∀ td, m.td = some td → tm ≤ td) → m.running = true → m.restoring = false →
      let b := tm / 1000
      let pr := s.prof two
      Yields .boundaryCommit s (fun t => t.meter.announced = none ∧ t.meter.aside = [] ∧ t.meter.q0 = t.meter.energy ∧
        (∀ p : Fin 32, (t.meter.port.get p).next = (0, 0, 0)) ∧ rate t b ∧ t.meter.lastCommit = s.utcMs ∧
        (onInterval cal (s.profMins two) b = true → (t.prof two).start = b * 1000 ∧
          (pr.base ≠ [] → (t.prof two).next = pr.next + 1 ∧ ∃ e, (t.prof two).entries.getLast? = some e ∧ e.no = pr.next ∧
            e.endUtc = b ∧ e.duration = ((b * 1000 - pr.start) / 1000).toNat ∧ e.rate = m.rate)) ∧
        (onInterval cal (s.profMins two) b = false → (t.prof two).entries = pr.entries ∧ (t.prof two).start = pr.start) ∧
        (onInterval cal (demInt cal) b = true → t.meter.demStart = tm) ∧
        (onInterval cal (demInt cal) b = false → t.meter.demStart = m.demStart ∧ t.meter.demand = m.demand) ∧
        (isBillEnd cal b = true → m.lastBill < b → t.meter.bpc = (m.bpc + 1) % 2 ^ 32 ∧ t.meter.lastBill = b ∧ t.meter.maxDem = [] ∧
          ∃ e, t.meter.bills.getLast? = some e ∧ e.bpc = m.bpc ∧ e.startUtc = m.billStart ∧ e.endUtc = b) ∧
        (isBillEnd cal b = false ∨ b ≤ m.lastBill → t.meter.bpc = m.bpc ∧ t.meter.bills = m.bills) ∧
        (s.actDue b true = true → t.meter.almanac = m.passive ∧ t.meter.passive = none) ∧
        (s.actDue b true = false → t.meter.almanac = m.almanac ∧ t.meter.passive = m.passive) ∧
        (∀ x, (∀ e : Fin 8, x ≠ fldAddr e F.XLK_CLS_CNT 2 0) → t.word x = s.word x) ∧ Keeps s t)) ∧
    (m.running = false ∨ m.restoring = false → Yields .restoration s (fun t => t = s)) ∧
    (m.running = true → m.restoring = true → s.timeSrc = 4 → Yields .restoration s (fun t => t = { s with meter := { m with doubt := true } })) ∧
    (m.running = true → m.restoring = true → s.timeSrc ≠ 4 →
      (m.td = none → Yields .restoration s (fun t => t.meter.restoring = false ∧ t.meter.doubt = false ∧ (t.prof two).start = s.utcMs ∧ t.meter.demStart = s.utcMs ∧
        t.meter.q0 = m.energy ∧ t.meter.energy = m.energy ∧ rate t (s.utcMs / 1000) ∧ t.regs = s.regs ∧ Keeps s t)) ∧
      (∀ td, m.td = some td →
        let tr := if s.utcMs < td then td else s.utcMs
        let t1 := nextEnd cal (s.profMins two) (td / 1000)
        Yields .restoration s (fun t => t.meter.restoring = false ∧ t.meter.td = none ∧ t.meter.announced = none ∧ t.meter.doubt = false ∧ t.meter.q0 = m.energy ∧
          t.meter.energy = m.energy ∧ m.evNext + 1 ≤ t.meter.evNext ∧ rate t (tr / 1000) ∧
          (tr < t1 * 1000 → (t.prof two).start = (s.prof two).start + (tr - td) ∧ (t.prof two).entries = (s.prof two).entries) ∧
          (t1 * 1000 ≤ tr → (t.prof two).start = tr) ∧ t.regs = s.regs ∧ Keeps s t))) ∧
    (let may : Prop := m.running = true ∧ s.speaks i = true ∧ m.assoc.contains mine = false ∧ (r = .pub ∨ auth = true ∧ s.slotKey 5 ≠ none)
     (may → Yields (.dlmsAssociationOpen i r auth) s (fun t => t = { s with meter := { m with assoc := m.assoc ++ [mine] } })) ∧
     (¬may → Yields (.dlmsAssociationOpen i r auth) s (fun t => t = s))) ∧
    (m.running = false ∨ s.speaks i = false ∨ m.assoc.contains mine = false → Yields (.dlmsApdu i r a) s (fun t => t = s)) ∧
    (m.running = true → s.speaks i = true → m.assoc.contains mine = true →
      (a.op ≠ .get → r ≠ .pub → a.counter.toNat ≤ eGet m.invoc (roleCode r) → Yields (.dlmsApdu i r a) s (fun t => replies t [2])) ∧
      (a.op = .get → s.objAbsent a.obj = true → Yields (.dlmsApdu i r a) s (fun t => replies t [4])) ∧
      (a.op = .get → s.objAbsent a.obj = false → a.attr ≠ 1 → mayRead r a.obj = false → Yields (.dlmsApdu i r a) s (fun t => replies t [5])) ∧
      (a.op = .get → s.objAbsent a.obj = false → a.attr = 2 → mayRead r a.obj = true → cosemReg a.obj = some reg → Yields (.dlmsApdu i r a) s (fun t =>
        replies t (0 :: words64 (mwh m.energy reg)))) ∧
      (∀ v, a.op = .set v → r ≠ .pub → eGet m.invoc (roleCode r) < a.counter.toNat → mayWrite r a.attr a.obj = false → s.hold = false →
        s.lifeState ≠ 4 → Yields (.dlmsApdu i r a) s (fun t => t.meter.reply = [5] ∧ eGet t.meter.invoc (roleCode r) = a.counter.toNat ∧
          t.meter.energy = m.energy ∧ t.regs = s.regs ∧ Keeps s t)) ∧
      (∀ v, a.op = .action 1 v → a.obj = .tokenGateway → r = .site → eGet m.invoc 3 < a.counter.toNat → s.hold = false →
        s.lifeState ≠ 4 →
        (s.role = 2 ∨ s.role = 3 → Yields (.dlmsApdu i r a) s (fun t => t.meter.reply = [3] ∧ t.meter.token = m.token)) ∧
        (s.role ≠ 2 → s.role ≠ 3 → m.token ≠ none → Yields (.dlmsApdu i r a) s (fun t => t.meter.reply = [6] ∧ t.meter.token = m.token)) ∧
        (s.role ≠ 2 → s.role ≠ 3 → m.token = none → Yields (.dlmsApdu i r a) s (fun t =>
          t.meter.tokenResult = some (s.tokenJudge (v.map (·.toNat))).1 ∧ t.meter.token = (s.tokenJudge (v.map (·.toNat))).2 ∧
          t.meter.balance = m.balance ∧ t.meter.reply = [0, BitVec.ofNat 32 (s.tokenJudge (v.map (·.toNat))).1]))))

/-- A scan of a running core shows inputs and readback, counts mismatches, sets each port's outputs by the row of its
state unless a trip stop runs, and stops a charging port on its emergency stop. The ends of a trip stop and of a ramp
release the outputs and lead to FAULT or WELD_CHECK. A contact that does not follow its drive is a trip or a weld.
Insulation is computed from two windows; two low results stop the port. Temperature, flow and degraded-time causes
start ramp stops. UNLOCK_OK needs both voltages low and frees the lock; a failed diagnostic releases every output.
(Ends of causes and scales, and that an unused port stays IDLE: the model's choice, log entries 11, 27 to 29, 98.) (R247, R394, R396, R397, R399, R401, R403, R404, R405, R407, R408, R414) -/
def Obligations.SafetyCoreScansAndStops : Prop :=
  ∀ (s : State) (d : Fin 8) (k : Fin 4) (inputs : Vector Byte 4) (rb : Vector (BitVec 4) 4) (n : Fin 8) (i : Fin 4) (m : Fin 2)
    (level : Bool) (up um : Nat) (b : Fin 6) (st0 : SelfTest),
    let p := s.safPort d k
    let g := s.cfg d k
    let st := s.psState d k
    let used : Prop := s.portType d k ≠ 0 ∨ st ≠ 0
    let cmd := s.rd d F.SAF_OUT_CMD k
    let cause := s.rd d F.STL_PSAFE_CAUSE k
    let has (t : State) (c : Nat) : Bool := bitOf (t.safPort d k).active.toNat c
    let began (c ms : Nat) (x : Instr) : Prop :=
      (has s c = true → Yields x s (fun t => t = s)) ∧
      (has s c = false → Yields x s (fun t => has t c = true ∧ t.on d F.STL_PSAFE_FAULT_ACT k = true ∧
        t.rd d F.STL_PSAFE_CAUSE k = (if cause = 0 then c else cause) ∧ Keeps s t ∧
        (p.tripOpen = none → s.shadowing = false → 3 ≤ st → st ≤ 5 → t.psState d k = 6 ∧ t.rd d F.OXE_PORT_OVR_MODE k = 1 ∧
          t.rd d F.OXE_PORT_OVR_RAMP_MS k = rampTaken ms ∧ t.rd d F.SAF_P_STAT_STOP k = 1) ∧
        (p.tripOpen = none → s.shadowing = false → used → st ≤ 2 ∨ st = 7 ∨ st = 8 → t.psState d k = 9 ∧
          t.rd d F.STL_PSTATE_CAUSE k = (if cause = 0 then c else cause)) ∧
        (p.tripOpen ≠ none ∨ 9 ≤ st ∨ ¬used → t.psState d k = st)))
    (s.pkg.die.get d ≠ .running ∨ s.diagFail d = true ∨ s.hold = true → Yields (.safetyScan d inputs rb) s (fun t => t = s)) ∧
    (s.pkg.die.get d = .running → s.diagFail d = false → s.hold = false → Yields (.safetyScan d inputs rb) s (fun t =>
      t.rd d F.SAF_IN_RAW k = (inputs.get k).toNat ∧ t.rd d F.SAF_OUT_READBACK k = (rb.get k).toNat ∧
      t.on d F.SAF_STAT_CRC_OK = s.crcOk d ∧ Keeps s t ∧
      (t.safPort d k).mism.get i = (if bitOf cmd i.val = bitOf (rb.get k).toNat i.val then 0 else min 4 (p.mism.get i + 1)) ∧
      ((t.safPort d k).tripOpen = none →
        (t.psState d k < 3 ∨ 6 < t.psState d k → t.rd d F.SAF_OUT_CMD k % 8 = 0 ∧ t.rd d F.OXE_PORT_DERATE k = 0 ∧
          t.inhBy (portOf d k) Inh.state = true) ∧
        (3 ≤ t.psState d k → t.psState d k ≤ 6 → t.inhBy (portOf d k) Inh.state = false) ∧
        (3 ≤ t.psState d k → t.psState d k ≤ 5 → t.rd d F.SAF_OUT_CMD k % 8 =
          (if t.psState d k = 4 ∧ (t.cfg d k).preUsed = true then 7 else 3)) ∧
        (t.psState d k = 6 → t.rd d F.SAF_OUT_CMD k % 8 < 4)) ∧
      (s.portType d k ≠ 0 → s.on d F.SAF_STAT_SELFTEST_OK = true → s.demand d g.estopSrc 0 = true → 3 ≤ st → st ≤ 5 →
        has t 1 = true ∧ t.on d F.STL_PSAFE_PERMIT k = false ∧ (has s 1 = false → t.on d F.STL_PSAFE_FAULT_ACT k = true ∧
          (cause = 0 → t.rd d F.STL_PSAFE_CAUSE k = 1) ∧
          (s.shadowing = false → (t.safPort d k).tripOpen = none → t.psState d k = 6))))) ∧
    Yields (.safetyInputFilter d k n level) s (fun t => t.bit d F.SAF_IN_FILT n.val k = level ∧
      t.bit d F.SAF_IN_DEMAND n.val k = (!level && bitOf g.used.toNat n.val) ∧ Keeps s t ∧
      (n.val = 6 ∨ n.val = 7 ∨ (level = true ∧ (n.val = 0 ∨ n.val = 2 ∨ n.val = 5)) → t.saf = s.saf) ∧
      (n.val = 0 → level = false → bitOf g.used.toNat 0 = true → g.estopSrc = k → s.pkg.die.get d = .running → s.diagFail d = false →
        s.hold = false → s.on d F.SAF_STAT_SELFTEST_OK = true → s.portType d k ≠ 0 → has t 1 = true ∧ (has s 1 = false →
          t.on d F.STL_PSAFE_FAULT_ACT k = true ∧
          (s.shadowing = false → p.tripOpen = none → 3 ≤ st → st ≤ 5 → t.psState d k = 6))) ∧
      (∀ c, n.val = 3 + m.val → p.contact.get m = some c →
        (level = bitOf cmd m.val → (t.safPort d k).contact.get m = some c) ∧
        (level ≠ bitOf cmd m.val → (t.safPort d k).contact.get m = none ∧
          (bitOf cmd m.val = false → t.rd d F.SAF_P_TIME_CONTACT_MS k = min 65535 (c / 100))))) ∧
    (p.tripOpen = none → Yields (.tripOpenExpiry d k) s (fun t => t = s)) ∧
    (∀ c, p.tripOpen = some c → Yields (.tripOpenExpiry d k) s (fun t => t.rd d F.SAF_OUT_CMD k = cmd &&& 8 ∧
      (t.safPort d k).tripOpen = none ∧ t.rd d F.SAF_P_TIME_LAST_REACT k = min 65535 (10 * c) ∧ t.rd d F.SAF_P_STAT_STOP k = 0 ∧
      Keeps s t ∧ (st ≤ 8 → used → s.shadowing = false → t.psState d k = 9) ∧ (9 ≤ st ∨ ¬used → t.psState d k = st))) ∧
    (p.ramp = none → Yields (.rampDeadline d k) s (fun t => t = s)) ∧
    (∀ c ms i0 x, p.ramp = some (c, ms, i0, x) → Yields (.rampDeadline d k) s (fun t => t.rd d F.SAF_OUT_CMD k = cmd &&& 12 ∧
      (t.safPort d k).ramp = none ∧ t.rd d F.SAF_P_TIME_LAST_REACT k = min 65535 (10 * x) ∧ t.rd d F.SAF_P_STAT_STOP k = 0 ∧
      Keeps s t ∧ (s.shadowing = false → (cause = 0 → st = 6 → t.psState d k = 7) ∧ (cause ≠ 0 → st ≤ 8 → used → t.psState d k = 9)))) ∧
    (p.contact.get m = none → Yields (.contactTimeout d k m) s (fun t => t = s)) ∧
    (∀ c, p.contact.get m = some c → Yields (.contactTimeout d k m) s (fun t => (t.safPort d k).contact.get m = none ∧ Keeps s t ∧
      (bitOf cmd m.val = true → s.bit d F.SAF_IN_FILT (3 + m.val) k = true → has t 13 = true ∧
        (p.tripOpen = none → (t.safPort d k).tripOpen = some 0 ∧ t.rd d F.OXE_PORT_OUT k = 0 ∧
          t.on d F.STL_P_HALT_HALTED k = true ∧ t.inhBy (portOf d k) Inh.safe = true ∧ t.rd d F.SAF_P_STAT_STOP k = 2)) ∧
      (bitOf cmd m.val ≠ s.bit d F.SAF_IN_FILT (3 + m.val) k → t.regs = s.regs) ∧
      (bitOf cmd m.val = false → s.bit d F.SAF_IN_FILT (3 + m.val) k = false → t.on d F.SAF_P_STAT_WELD_LATCH k = true ∧
        t.bit d F.SAF_EVT_WELD k = true ∧ has t 5 = true ∧ t.on d F.STL_PSAFE_FAULT_ACT k = true ∧
        (st = 7 → s.shadowing = false → t.psState d k = 9) ∧ (st ≠ 7 → t.psState d k = st)))) ∧
    (s.energised d k = false → Yields (.insulationWindow d k up um) s (fun t => t = s)) ∧
    (s.energised d k = true → bitOf cmd 3 = false → Yields (.insulationWindow d k up um) s (fun t =>
      t.rd d F.SAF_OUT_CMD k = cmd + 8 ∧ (t.safPort d k).isoA = some (up, um) ∧ t.psState d k = st ∧ Keeps s t)) ∧
    (s.energised d k = true → bitOf cmd 3 = true → Yields (.insulationWindow d k up um) s (fun t =>
      t.rd d F.SAF_OUT_CMD k = cmd % 8 ∧ (t.safPort d k).isoA = none ∧ Keeps s t ∧
      (∀ p1 m1, p.isoA = some (p1, m1) →
        let low : Prop := g.uRated = 0 ∨ p1 < 50 * g.uRated ∨ m1 < 50 * g.uRated ∨ up < 50 * g.uRated ∨ um < 50 * g.uRated
        let num := g.rM * 1000 * (p1 * um - m1 * up)
        let den := up * (p1 + m1) * g.uRated
        (low → t.on d F.SAF_P_ISO_VALID k = false ∧ t.psState d k = st) ∧
        (¬low → t.on d F.SAF_P_ISO_VALID k = true ∧ (t.on d F.SAF_P_ISO_WARN k = true ↔ num < g.isoWarn * den) ∧
          (t.on d F.SAF_P_ISO_FAULT k = true ↔ num < g.isoFault * den) ∧
          (num < g.isoWarn * den → t.bit d F.SAF_EVT_INSUL_WARN k = true) ∧
          (g.isoFault * den ≤ num → (t.safPort d k).isoLow = 0 ∧ t.psState d k = st) ∧
          (num < g.isoFault * den → p.isoLow = 0 → (t.safPort d k).isoLow = 1 ∧ t.psState d k = st) ∧
          (num < g.isoFault * den → 1 ≤ p.isoLow → st ≠ 3 → has t 2 = true ∧
            (has s 2 = false → s.shadowing = false → p.tripOpen = none → st ≤ 5 → t.psState d k = 6)))))) ∧
    (s.tempHot d k = true → began 4 g.tempRamp (.temperatureStopTimer d k)) ∧
    (s.tempHot d k = false → Yields (.temperatureStopTimer d k) s (fun t => t = s)) ∧
    (s.energised d k = true → s.demand d k 6 = true → began 4 g.tempRamp (.flowTimeout d k)) ∧
    (s.energised d k = false ∨ s.demand d k 6 = false → Yields (.flowTimeout d k) s (fun t => t = s)) ∧
    (s.on d F.SAF_P_STAT_DEGRADED k = false ∨ p.degOut = true → Yields (.degradedTimeExpiry d k) s (fun t => t = s)) ∧
    (s.on d F.SAF_P_STAT_DEGRADED k = true → p.degOut = false → Yields (.degradedTimeExpiry d k) s (fun t =>
      (t.safPort d k).degOut = true ∧ t.rd d F.SAF_P_STAT_DEG_LEFT k = 0 ∧ Keeps s t ∧
      (p.ramp = none → p.tripOpen = none → has t 10 = true ∧
        (has s 10 = false → s.shadowing = false → 3 ≤ st → st ≤ 5 → t.psState d k = 6)))) ∧
    (s.unlockHolds d k = true → g.lockChan ≤ 2 → Yields (.unlockOkSet d k) s (fun t => t.on d F.STL_PSAFE_UNLOCK_OK k = true ∧
      t.bit d F.LSW_SAFE_EN_EN (3 * k.val + g.lockChan) = true ∧ has t 5 = false ∧ Keeps s t)) ∧
    (s.unlockHolds d k = false → Yields (.unlockOkSet d k) s (fun t => t = s)) ∧
    (bitsOf (s.rd d F.ADC_TC_STAT_LEVEL) (2 * k.val) 2 ≠ 0 ∨ s.tripLatched d k = false → Yields (.tripClear d k) s (fun t => t = s)) ∧
    (bitsOf (s.rd d F.ADC_TC_STAT_LEVEL) (2 * k.val) 2 = 0 → s.tripLatched d k = true → Yields (.tripClear d k) s (fun t =>
      t.tripLatched d k = false ∧ (∀ j, j ≠ k → bitsOf (s.rd d F.ADC_TC_STAT_LEVEL) (2 * j.val) 2 = 0 → t.tripLatched d j = s.tripLatched d j) ∧ has t 3 = false ∧ Keeps s t)) ∧
    Yields (.safetyPasswordLockoutEnd d) s (fun t => (t.saf.get d).wrong = [] ∧ t.on d F.SAF_STAT_CFG_LOCKED = false ∧
      OnlyRegs [fldAddr d F.SAF_STAT_CFG_LOCKED 0 0] s t) ∧
    (b.val = 0 → Yields (.safetyDiagnosticFault d b) s (fun t => t.on d F.SAF_DIAG_ECC_CORR = true ∧ t.on d F.SAF_EVT_DIAG = true ∧
      (t.saf.get d).eccCorr = (s.saf.get d).eccCorr + 1 ∧ OnlyRegs [fldAddr d F.SAF_DIAG_FIRST 0 0, fldAddr d F.SAF_EVT_DIAG 0 0] s t)) ∧
    (b.val ≠ 0 → Yields (.safetyDiagnosticFault d b) s (fun t => bitOf (t.word (fldAddr d F.SAF_DIAG_FIRST 0 0)).toNat b.val = true ∧
      (s.rd d F.SAF_DIAG_FIRST = 0 → t.rd d F.SAF_DIAG_FIRST = b.val + 1) ∧ t.inhBy (portOf d k) Inh.diag = true ∧
      t.on d F.STL_P_HALT_HALTED k = true ∧ t.rd d F.SAF_OUT_CMD k = 0 ∧ has t 15 = true ∧
      (st ≤ 8 → used → s.shadowing = false → t.psState d k = 9) ∧ (¬used → t.psState d k = st) ∧ Keeps s t)) ∧
    (s.pkg.die.get d ≠ .running → Yields (.selftestDone d st0) s (fun t => t = s)) ∧
    (s.pkg.die.get d = .running → Yields (.selftestDone d st0) s (fun t =>
      (st0.passed = true → st0.comps = 0 → st0.pilots = 0 → st0.inputs = 0 → t.faults = s.faults) ∧
      (st0.passed = true → bitOf st0.pilots.toNat k.val = true → s.isRetired d 1 0x12 k = false → s.inResponse d 1 = false →
        s.now ∈ t.faultTimes (faultKey d 1 0x12 k)) ∧
       t.on d F.SAF_STAT_SELFTEST_OK = st0.passed ∧ Keeps s t ∧
      (st0.passed = true → t.on d F.SAF_STAT_CFG_VALID = (s.saf.get d).stored.isSome ∧ t.on d F.SAF_STAT_CRC_OK = s.crcOk d) ∧
      (st0.passed = false → t.on d F.SAF_DIAG_SELFTEST_FAIL = true ∧ t.rd d F.SAF_OUT_CMD k = 0 ∧ t.inhBy (portOf d k) Inh.diag = true)))

/-- A request opens a fresh inrush window; withdrawn, the channel is off. A limit-off in the window is a retry while
retries are left, else a short, counted up to RESTART_MAX and then permanent. Retries wait while the group is
throttled, and a held one extends its window to 100 ms at most. A hot sensor leads to HOT or LATCHED; a latch is
cleared only cool. A group-off keeps its channels' states or latches those that were on. A sample sets or ends warning
and throttle, or starts the shut-down, whose steps release the outputs and stop the clocks. (OFF under TMODE 0 and
TMODE 1 from OFF: log entry 32; rounding of a compensation that is not whole: log entry 28.) (R417, R418, R420, R421, R422, R423, R424, R425, R427, R429, R430, R433) -/
def Obligations.LoadSwitchesAndThermal : Prop :=
  ∀ (s : State) (d : Fin 8) (n : Fin 12) (k : Fin 4) (temp : BitVec 16) (v : Vector (BitVec 16) 4),
    let st := s.lswSt d n
    let c := s.lswChan d n
    let stat : Nat := fldAddr d F.LSW_CH_STAT_OUT n 0
    let meas : Nat := fldAddr d F.LSW_CH_MEAS_TEMP n 0
    let grp : Nat := fldAddr d F.LSW_GRP_TEMP k 0
    let evt : Nat := fldAddr d F.LSW_EVT_FAULT 0 0
    let off (t : State) : Prop := t.on d F.LSW_CH_STAT_OUT n = false
    let held (t : State) : Prop := t.on d F.LSW_CH_STAT_OUT n = true → t.bit d F.LSW_SAFE_EN_EN n = true ∧ t.lswReq d n = true ∧
      (t.lswSt d n = 1 ∨ t.lswSt d n = 2) ∧ t.railBad d = false ∧ t.on d F.LSW_CH_STAT_GROUP_OFF n = false ∧ t.hold = false
    let fresh (t : State) : Prop := t.lswSt d n = 1 ∧ (t.lswChan d n).window = some s.now ∧ (t.lswChan d n).held = 0 ∧
      (t.lswChan d n).since = none ∧ (t.lswChan d n).gap = false ∧ t.rd d F.LSW_CH_STAT_INRUSH_USED n = 0 ∧
      t.on d F.LSW_CH_STAT_PAUSED n = false ∧ held t ∧ Keeps s t
    let retired : Prop := s.isRetired d 1 0x11 n = true
    let counted := (s.lswCounted d n).length + 1
    let faults (next : Nat) (t : State) : Prop := off t ∧ t.bit d F.LSW_EVT_FAULT n = true ∧ Keeps s t ∧
      (s.inResponse d 1 = true → (t.lswChan d n).shorts = s.lswCounted d n ∧ t.rd d F.LSW_CH_STAT_RESTARTS n = min 15 (counted - 1)) ∧
      (s.inResponse d 1 = false → (t.lswChan d n).shorts = s.lswCounted d n ++ [s.now] ∧ t.rd d F.LSW_CH_STAT_RESTARTS n = min 15 counted) ∧
      (∀ m, m ≠ n → t.lswSt d m = s.lswSt d m ∧ t.on d F.LSW_CH_STAT_OUT m = s.on d F.LSW_CH_STAT_OUT m) ∧
      (s.inResponse d 1 = true ∨ counted ≤ s.rd d F.LSW_CFG_RESTART_MAX → t.lswSt d n = next ∧ ¬t.isRetired d 1 0x11 n = true) ∧
      (s.inResponse d 1 = false → s.rd d F.LSW_CFG_RESTART_MAX < counted → t.lswSt d n = 7 ∧ t.isRetired d 1 0x11 n = true)
    let gOff : Int := (s.rd d F.LSW_GRP_CFG_TGRP_OFF : Int) * 16
    let gRestart : Int := gOff - (s.rd d F.LSW_GRP_CFG_TGRP_HYST : Int) * 16
    let mine : Prop := n.val / 3 = k.val
    let member (t : State) : Prop := t.lswSt d n = st ∧ t.on d F.LSW_CH_STAT_GROUP_OFF n = false ∧ held t
    let warn (st : Fld) (i : Nat) (t : State) : Prop :=
      (s.on d st = true → (t.on d st = false ↔ t.rdI d F.THM_TEMP_MAX < s.thmLevel d i - s.thmHyst d i)) ∧
      (s.on d st = false → (t.on d st = true ↔ s.thmLevel d i ≤ t.rdI d F.THM_TEMP_MAX))
    let x : Int := sens temp - 400
    let q (i : Nat) : Int := sext 32 (s.rd d F.THM_REF_C i)
    let num : Int := q 0 * 1000 * 16 ^ 3 + q 1 * x * 1000 * 16 ^ 2 + q 2 * x ^ 2 * 16 + q 3 * x ^ 3
    (s.lswReq d n = false ∨ c.req = true → Yields (.lswRequest d n) s (fun t => t = s)) ∧
    (s.lswReq d n = true → c.req = false → Yields (.lswRequest d n) s (fun t => (t.lswChan d n).req = true ∧
      (st = 0 → fresh t) ∧ (st ≠ 0 → t.regs = s.regs ∧ Keeps s t))) ∧
    (s.lswReq d n = true → Yields (.lswRequestWithdraw d n) s (fun t => t = s)) ∧
    (s.lswReq d n = false → Yields (.lswRequestWithdraw d n) s (fun t => (t.lswChan d n).req = false ∧
      (st ∈ [1, 2, 4, 5] → t.lswSt d n = 0 ∧ off t ∧ (t.lswChan d n).window = none ∧ OnlyRegs [stat] s t) ∧
      (st ∉ [1, 2, 4, 5] → t.regs = s.regs ∧ Keeps s t))) ∧
    (s.rd d F.LSW_CH_CFG_PWM_HZ n = 0 → Yields (.lswPwmPeriod d n) s (fun t => t = s)) ∧
    (s.rd d F.LSW_CH_CFG_PWM_HZ n ≠ 0 → Yields (.lswPwmPeriod d n) s (fun t => (t.lswChan d n).duty = s.lswDuty d n ∧
      t.lswSt d n = st ∧ held t ∧ (s.lswDuty d n = 0 → off t) ∧ OnlyRegs [stat] s t)) ∧
    (off s → Yields (.lswLimitOff d n) s (fun t => t = s)) ∧
    (¬off s → st = 1 → s.rd d F.LSW_CH_STAT_INRUSH_USED n < s.rd d F.LSW_CH_CFG_INRUSH_RETRY n → Yields (.lswLimitOff d n) s (fun t =>
      t.rd d F.LSW_CH_STAT_INRUSH_USED n = s.rd d F.LSW_CH_STAT_INRUSH_USED n + 1 ∧ t.lswSt d n = 1 ∧ off t ∧
      (t.lswChan d n).gap = true ∧ OnlyRegs [stat] s t)) ∧
    (¬off s → st ≠ 1 ∨ s.rd d F.LSW_CH_CFG_INRUSH_RETRY n ≤ s.rd d F.LSW_CH_STAT_INRUSH_USED n →
      (retired → Yields (.lswLimitOff d n) s (fun t => t = s)) ∧ (¬retired → Yields (.lswLimitOff d n) s (faults 4))) ∧
    (c.gap = false ∨ c.since.isSome = true → Yields (.lswRetryDue d n) s (fun t => t = s)) ∧
    (c.gap = true → c.since = none →
      (s.on d F.LSW_GRP_THROTTLE (n.val / 3) = true → Yields (.lswRetryDue d n) s (fun t => (t.lswChan d n).since = some s.now ∧
        t.on d F.LSW_CH_STAT_PAUSED n = true ∧ t.lswSt d n = st ∧ OnlyRegs [stat] s t)) ∧
      (s.on d F.LSW_GRP_THROTTLE (n.val / 3) = false → Yields (.lswRetryDue d n) s (fun t => (t.lswChan d n).gap = false ∧
        t.lswSt d n = st ∧ held t ∧ OnlyRegs [stat] s t))) ∧
    (st ≠ 1 → Yields (.lswInrushWindowEnd d n) s (fun t => t = s)) ∧
    (st = 1 → c.since = none → Yields (.lswInrushWindowEnd d n) s (fun t => t.lswSt d n = 2 ∧ (t.lswChan d n).window = none ∧
      held t ∧ OnlyRegs [stat] s t)) ∧
    (let early : Prop := ∃ w, c.window = some w ∧ s.now < w + 100000000
     (st = 1 → c.since.isSome = true → early → Yields (.lswInrushWindowEnd d n) s (fun t => t = s)) ∧
     (st = 1 → c.since.isSome = true → ¬early → ¬retired → Yields (.lswInrushWindowEnd d n) s (faults 4))) ∧
    (st = 4 → Yields (.lswRestartDelayEnd d n) s fresh) ∧ (st ≠ 4 → Yields (.lswRestartDelayEnd d n) s (fun t => t = s)) ∧
    Yields (.lswThermalOff d n temp) s (fun t => t.rdI d F.LSW_CH_MEAS_TEMP n = sens temp ∧
      (sens temp < 2400 ∨ st = 6 ∨ st = 7 → OnlyRegs [meas] s t) ∧
      (2400 ≤ sens temp → st ≠ 6 → st ≠ 7 → s.on d F.LSW_CH_CFG_TMODE n = true → t.lswSt d n = 6 ∧ off t ∧
        (t.lswChan d n).frozen = some s.now ∧ (t.lswChan d n).shorts = c.shorts ∧ Keeps s t) ∧
      (2400 ≤ sens temp → st ∈ [1, 2, 4] → s.on d F.LSW_CH_CFG_TMODE n = false → ¬retired → faults 5 t)) ∧
    Yields (.lswThermalRestart d n temp) s (fun t => t.rdI d F.LSW_CH_MEAS_TEMP n = sens temp ∧
      (st = 5 → sens temp < 2160 → fresh t) ∧ (st ≠ 5 ∨ 2160 ≤ sens temp → OnlyRegs [meas] s t)) ∧
    (let group := c.groupOff || s.on d F.LSW_GRP_LATCHED (n.val / 3) || s.on d F.LSW_GRP_OFF (n.val / 3)
     let cool : Prop := s.rdI d F.LSW_CH_MEAS_TEMP n < 2160 ∧ (group = true → s.rdI d F.LSW_GRP_TEMP (n.val / 3) < gRestart)
     (st = 6 → cool → Yields (.clrLatch d n) s (fun t => t.lswSt d n = 0 ∧ t.rd d F.LSW_CH_STAT_STATUS n = 0 ∧ off t ∧
       (t.lswChan d n).frozen = none ∧ (t.lswChan d n).shorts.length = c.shorts.length ∧ OnlyRegs [stat] s t)) ∧
     (st ≠ 6 ∨ ¬cool → Yields (.clrLatch d n) s (fun t => t.lswSt d n = st ∧ t.rd d F.LSW_CH_STAT_STATUS n = 3 ∧
       t.on d F.LSW_EVT_CLR_REFUSED = true ∧ WritesOnly [stat, evt] s t))) ∧
    Yields (.groupThrottle d k temp) s (fun t => t.rdI d F.LSW_GRP_TEMP k = sens temp ∧
      ((s.rd d F.LSW_GRP_CFG_TGRP_THR : Int) * 16 ≤ sens temp → t.on d F.LSW_GRP_THROTTLE k = true ∧ t.bit d F.LSW_EVT_GROUP k = true ∧
        WritesOnly [grp, evt] s t) ∧
      (sens temp < (s.rd d F.LSW_GRP_CFG_TGRP_THR : Int) * 16 → t.on d F.LSW_GRP_THROTTLE k = s.on d F.LSW_GRP_THROTTLE k ∧
        WritesOnly [grp] s t)) ∧
    Yields (.groupThrottleEnd d k temp) s (fun t => t.rdI d F.LSW_GRP_TEMP k = sens temp ∧ t.lswSt d n = st ∧ Keeps s t ∧
      (sens temp < (s.rd d F.LSW_GRP_CFG_TGRP_THR : Int) * 16 - 80 → t.on d F.LSW_GRP_THROTTLE k = false ∧
        (mine → ∀ y, c.since = some y → (t.lswChan d n).held = c.held + (s.now - y) ∧ (t.lswChan d n).since = none ∧
          (t.lswChan d n).gap = false ∧ t.on d F.LSW_CH_STAT_PAUSED n = false ∧ held t)) ∧
      ((s.rd d F.LSW_GRP_CFG_TGRP_THR : Int) * 16 - 80 ≤ sens temp → WritesOnly [grp] s t)) ∧
    Yields (.groupOff d k temp) s (fun t => t.rdI d F.LSW_GRP_TEMP k = sens temp ∧ Keeps s t ∧ (sens temp < gOff → WritesOnly [grp] s t) ∧
      (gOff ≤ sens temp → t.on d F.LSW_GRP_OFF k = true ∧ t.bit d F.LSW_EVT_GROUP k = true ∧
        (s.on d F.LSW_GRP_CFG_GMODE = true → t.on d F.LSW_GRP_LATCHED k = true) ∧ (t.lswChan d n).shorts = c.shorts ∧
        (mine → off t ∧ t.on d F.LSW_CH_STAT_GROUP_OFF n = true ∧
          (s.on d F.LSW_GRP_CFG_GMODE = true → ¬off s → t.lswSt d n = 6 ∧ (t.lswChan d n).groupOff = true) ∧
          (s.on d F.LSW_GRP_CFG_GMODE = false ∨ off s → t.lswSt d n = st)) ∧
        (¬mine → t.lswSt d n = st ∧ t.on d F.LSW_CH_STAT_OUT n = s.on d F.LSW_CH_STAT_OUT n))) ∧
    Yields (.groupResume d k temp) s (fun t => t.rdI d F.LSW_GRP_TEMP k = sens temp ∧ Keeps s t ∧
      (s.on d F.LSW_GRP_OFF k = true → s.on d F.LSW_GRP_LATCHED k = false → sens temp < gRestart →
        t.on d F.LSW_GRP_OFF k = false ∧ (mine → member t)) ∧
      (s.on d F.LSW_GRP_OFF k = false ∨ s.on d F.LSW_GRP_LATCHED k = true ∨ gRestart ≤ sens temp → WritesOnly [grp] s t)) ∧
    (s.on d F.LSW_GRP_LATCHED k = true → s.rdI d F.LSW_GRP_TEMP k < gRestart → Yields (.groupLatchClr d k) s (fun t =>
      t.on d F.LSW_GRP_LATCHED k = false ∧ t.on d F.LSW_GRP_OFF k = false ∧ Keeps s t ∧ (mine → member t))) ∧
    (s.on d F.LSW_GRP_LATCHED k = false ∨ gRestart ≤ s.rdI d F.LSW_GRP_TEMP k → Yields (.groupLatchClr d k) s (fun t =>
      t.on d F.LSW_EVT_CLR_REFUSED = true ∧ WritesOnly [evt] s t)) ∧
    (let loose : Prop := ¬off s ∧ st = 2 ∧ s.rd d F.LSW_CH_CFG_OL_THR n ≠ 0
     (¬loose → Yields (.openLoad d n) s (fun t => t = s)) ∧
     (loose → Yields (.openLoad d n) s (fun t => t.on d F.LSW_CH_STAT_OPEN_LOAD n = true ∧ t.on d F.LSW_EVT_OPEN_LOAD = true ∧
       t.lswSt d n = 2 ∧ ¬off t ∧ OnlyRegs [stat, evt] s t))) ∧
    (s.pkg.die.get d ≠ .running → Yields (.dieTempSample d v) s (fun t => t = s)) ∧
    (s.pkg.die.get d = .running → Yields (.dieTempSample d v) s (fun t => t.rdI d F.THM_S_TEMP k = sens (v.get k) ∧
      sens (v.get k) ≤ t.rdI d F.THM_TEMP_MAX ∧ t.rdI d F.THM_TEMP_MAX ∈ [sens (v.get 0), sens (v.get 1), sens (v.get 2), sens (v.get 3)] ∧
      Keeps s t ∧
      (s.thermalDown d = false → s.thmLevel d 2 ≤ t.rdI d F.THM_TEMP_MAX → t.inhBy (portOf d k) Inh.thermal = true ∧
        t.on d F.STL_P_HALT_HALTED k = true ∧ bitOf (t.safPort d k).active.toNat 14 = true ∧
        t.rd d F.THM_STAT_SD_HOUR = min 3 (((s.lsw.get d).downs.filter (fun y => decide (s.now - y < 3600000000000))).length + 1) ∧
        (d = 0 → ∀ (e : Fin 8) (j : Fin 4), s.dieUsed e = true → bitOf (t.safPort e j).active.toNat 14 = true) ∧ (s.role = 1 ∨ (s.role = 0 ∧ d = 0) →
          t.on 0 F.TWN_STAT_CLAIM_OWN = false ∧ t.outEn = false ∧ t.twin.cut = true)) ∧
      (s.thermalDown d = false → t.rdI d F.THM_TEMP_MAX < s.thmLevel d 2 →
        warn F.THM_STAT_WARN 0 t ∧ warn F.THM_STAT_THROTTLE 1 t ∧ t.pkg = s.pkg))) ∧
    (s.thermalDown d = false → Yields (.shutdownOutputRelease d) s (fun t => t = s) ∧ Yields (.shutdownClockStop d) s (fun t => t = s)) ∧
    (s.thermalDown d = true → Yields (.shutdownOutputRelease d) s (fun t => t.rd d F.SAF_OUT_CMD k = 0 ∧ off t ∧ t.pkg = s.pkg ∧ Keeps s t)) ∧
    (s.thermalDown d = true → s.pkg.die.get d = .running → Yields (.shutdownClockStop d) s (fun t => t.pkg.die.get d = .thermal ∧
      (∀ e, e ≠ d → t.pkg.die.get e = s.pkg.die.get e) ∧ t.pkg.inh = s.pkg.inh ∧ Keeps s t ∧
      (d = 0 → t.meter.running = false ∧ t.on 0 F.LCS_BOOT_METER_RUN = false) ∧ (d ≠ 0 → t.regs = s.regs ∧ t.meter = s.meter))) ∧
    (s.rd d F.ADC_REF_SEL ≠ 0 → Yields (.referenceCompensation d temp) s (fun t => t = s)) ∧
    (s.rd d F.ADC_REF_SEL = 0 → Yields (.referenceCompensation d temp) s (fun t => t.regs = s.regs ∧ Keeps s t ∧
      -500000 ≤ (t.lsw.get d).refComp ∧ (t.lsw.get d).refComp ≤ 500000 ∧
      (num % (1000 * 16 ^ 3) = 0 → (t.lsw.get d).refComp = max (-500000) (min 500000 (num / (1000 * 16 ^ 3))))))

/-- A write on the bus: refused accesses, memories, rights, access codes of fields, refused registers, engine memories (R10, R13, R21, R22, R24, R81, R141, R187, R248, R299, R429, R481) -/
def Obligations.BusWritesAndAccessCodes : Prop :=
  ∀ (s : State) (r : Requester) (d : Fin 8) (a n off i j : Nat) (v : Word) (reg : RegD) (f : FieldD) (e : Fin 8) (c : Fin 2) (q : Fin 2),
    let c0 : Instr := .registerWrite r a n v
    let core : Prop := r = .app e c false
    let refused (b : Bool) (t : State) : Prop := t = { s with logs := t.logs, coreFault := t.coreFault } ∧
      (t.logs.get (whoDie r)).entries.getLast?.map (fun x => (x.code, x.data)) = some (0x0001, [a, whoCode r]) ∧
      t.coreFault = (if (b && faultCore r) = true then some (r, a) else s.coreFault)
    let denied (t : State) : Prop := refused true t
    let awake : Prop := (∀ x, r ≠ .debug x) ∨ s.debugOn = true
    let wide : Prop := (n = 1 ∨ n = 2 ∨ n = 4) ∧ a % n = 0
    let fits : Prop := awake ∧ wide ∧ (r = .hostPort → n = 4)
    let inside (lo hi : Nat) : Prop := lo ≤ a ∧ a < hi
    let sram : Prop := inside 0x10000000 0x10200000
    let mram : Prop := inside 0x20000000 0x20800000
    let scratch : Prop := Config.mramRegion (a - 0x20000000) = 7
    let stored (t : State) : Prop := t.bytes (sramKey e a) n = leBytes n v.toNat ∧ StoresAt (sramKey e a) n s t ∧ t.pending = s.pending
    let vacant : Prop := (0x30000 ≤ off ∧ off < 0x40000) ∨ (0x50000 ≤ off ∧ off < 0x60000) ∨ (0x70000 ≤ off ∧ off < 0x80000) ∨
      (0x150000 ≤ off ∧ off < 0x200000) ∨ 0x260000 ≤ off ∨ (d ≠ 0 ∧ 0x200000 ≤ off)
    let runs : Prop := s.dieShut d = false
    let open_ : Prop := e = 0 ∨ keyWords off = false ∧ extWords off = false
    let here : Prop := n = 4 ∧ a % 4 = 0 ∧ off < 0x1000000 ∧ a = regAddr d off ∧ s.present d = true ∧ ¬vacant
    let was := bitsOf (s.word a).toNat f.lo f.w
    let put := bitsOf v.toNat f.lo f.w
    let took := if s.fieldFree d reg.off f.lo i put = true then takenAs reg.off f.lo i put else was
    let plain : Prop := (reg.off ≠ F.STL_PSREQ.off ∨ v.toNat % 16 ≤ 10 ∨ s.shadowing = true) ∧ s.regRefused d reg.off i v = none ∧ firstOf reg.off = none ∧ reg.off ∉ [F.OXE_CTX_CFG_EN.off, F.OXE_CTX_DWIN_DBASE.off,
      F.OXE_SAFE_EVT_EVT.off, F.TWN_CTRL_EN.off, F.CAN_CTRL_INIT.off, F.ACQ_U_CTRL_EN.off, F.SAF_OUT_CMD.off, F.TSU_PO_CTRL_MODE.off,
      F.LSW_SAFE_EN_EN.off, F.DIE_ERR_CLR.off, F.SMW_EARLY_READ_CLR.off,
      F.ADC_RING_BASE.off, F.ADC_RING_SIZE_SIZE.off, F.STL_RING_SIZE_SIZE.off]
    let named : Prop := reg.fields.any (fun g => g.safe) = true
    let coded (t : State) : Prop := WritesOnly [a] s t ∧
      (∀ b, b < 32 → (∀ g ∈ reg.fields, b < g.lo ∨ g.lo + g.w ≤ b) → (t.word a).getLsbD b = false) ∧
      (f ∈ reg.fields →
        let now := bitsOf (t.word a).toNat f.lo f.w
        (f.acc = .ro ∨ hasRow reg.off f.lo i j = true → now = was) ∧
        (hasRow reg.off f.lo i j = false →
          (f.acc = .w1c → now = was &&& (2 ^ f.w - 1 - put)) ∧ (f.acc = .rw → now = took) ∧
          (f.acc = .rwl ∨ (f.acc = .rwu ∧ i < 2) → now = (if s.locked d reg.off = true then was else took)) ∧
          (f.acc = .w1s → plainW1 reg.off f.lo = true → now = was ||| put)))
    (¬awake → Yields c0 s (fun t => t = s)) ∧ (awake → r ≠ .hostPort → ¬wide → Yields c0 s denied) ∧
    (r = .hostPort → ¬(n = 4 ∧ a % 4 = 0) → Yields c0 s (fun t => t.on 0 F.HPI_STAT_MISALIGN = true ∧
      WritesOnly [fldAddr 0 F.HPI_STAT_MISALIGN 0 0] s t)) ∧
    (fits → inside 0 0x100000 → Yields c0 s (fun t => t = s)) ∧
    (fits → ¬inside 0 0x100000 → ¬sram → ¬mram → ¬inside 0x30000000 0x30200000 → ¬inside 0x40000000 0x48000000 →
      ¬inside 0x60000000 0x60010000 → Yields c0 s denied) ∧
    (fits → core ∨ r = .debug e →
      (sram → s.dieShut e = false → Yields c0 s stored) ∧ (sram → s.dieShut e = true → Yields c0 s (fun t => t = s)) ∧
      (mram → ¬scratch ∨ s.lifeState = 3 → Yields c0 s stored) ∧ (mram → scratch → s.lifeState ≠ 3 → Yields c0 s (fun t => t = s))) ∧
    (fits → sram ∨ mram → machineCore r = false → Yields c0 s (refused false)) ∧
    (fits → off < 0x1000000 → a = regAddr d off → n ≠ 4 ∨ s.present d = false ∨ vacant → Yields c0 s denied) ∧
    (awake → here → ¬runs → Yields c0 s (fun t => t = s)) ∧
    (here → runs → ¬(0x090000 ≤ off ∧ off < 0x0C0000) → canRam off = false → ¬(0x200080 ≤ off ∧ off < 0x200098) →
      findReg a = some (reg, i, j) →
      (core → ¬named → open_ → plain → Yields c0 s coded) ∧
      (r = .safe d → named → plain → Yields c0 s coded) ∧
      (core → named → Yields c0 s (refused (keyWords off))) ∧
      ((∃ x y, r = .app x y true) ∨ r = .loop e → Yields c0 s (refused (keyWords off))) ∧
      (core → ¬named → off < 0x200040 → reg.off = F.STL_PSREQ.off → 11 ≤ v.toNat % 16 → s.shadowing = false → Yields c0 s (fun t =>
        t.on d F.STL_PSTATE_REFUSED (i % 4) = true ∧ t.rd d F.STL_PSTATE_REF_REQ (i % 4) = v.toNat % 16 ∧
        t.bit d F.STL_EVT_REFUSED (i % 4) = true ∧ t.psState d ⟨i % 4, Nat.mod_lt _ (by decide)⟩ = s.psState d ⟨i % 4, Nat.mod_lt _ (by decide)⟩ ∧
        WritesOnly [a, fldAddr d F.STL_PSTATE_REFUSED (i % 4) 0, fldAddr d F.STL_EVT_REFUSED 0 0] s t)) ∧
      (core → ¬named → off < 0x200040 → reg.off = F.ADC_ERR_FIRST.off →
        (∀ g ∈ reg.fields, g.acc = .w1c → bitsOf v.toNat g.lo g.w = 2 ^ g.w - 1) → Yields c0 s (fun t => t.rd d F.ADC_ERR_FIRST = 0 ∧
          WritesOnly [a] s t)) ∧
      (core → ¬named → off < 0x200040 → reg.off = F.ADC_RING_BASE.off → i / 4 % 2 = q.val → (s.seqr d q).run ≠ .stopped → Yields c0 s (fun t =>
        t.word a = s.word a ∧ t.on d F.ADC_ERR_CFG_BUSY = true ∧ WritesOnly [fldAddr d F.ADC_ERR_CFG_BUSY 0 0] s t)) ∧
      (core → ¬named → off < 0x200040 → reg.off = F.ADC_RING_BASE.off ∨ reg.off = F.ADC_RING_SIZE_SIZE.off → i / 4 % 2 = q.val →
        (s.seqr d q).run = .stopped → Yields c0 s (fun t =>
          t.rd d F.ADC_RING_WPTR_WPTR i = 0 ∧ t.rd d F.ADC_RING_WRAP_WRAP i = 0 ∧
          WritesOnly [a, fldAddr d F.ADC_RING_WPTR_WPTR i 0, fldAddr d F.ADC_RING_WRAP_WRAP i 0] s t)) ∧
      (core → ¬named → off < 0x200040 → reg.off = F.THM_LVL_LEVEL.off → i = 1 → s.locked d reg.off = false →
        (v.toNat % 256 ≤ s.rd d F.THM_LVL_LEVEL 0 ∨ s.rd d F.THM_LVL_LEVEL 2 ≤ v.toNat % 256) → Yields c0 s (fun t =>
          t.on d F.THM_EVT_CFG_REFUSED = true ∧ WritesOnly [fldAddr d F.THM_EVT_CFG_REFUSED 0 0] s t))) ∧
    (here → runs → core → ¬(0x090000 ≤ off ∧ off < 0x0C0000) → canRam off = false → ¬(0x200080 ≤ off ∧ off < 0x200098) →
      open_ → findReg a = none → Yields c0 s (fun t => t = s)) ∧
    (here → runs → core → 0x090000 ≤ off → off < 0x098000 → s.on d F.OXE_CTRL_RUN = true ∨ s.on d F.OXE_CTRL_LOCK = true →
      Yields c0 s (fun t => t.on d F.OXE_ERR_LOAD_REFUSED = true ∧ WritesOnly [fldAddr d F.OXE_ERR_LOAD_REFUSED 0 0] s t)) ∧
    (here → runs → core → (0x090000 ≤ off ∧ off < 0x098000 ∧ s.on d F.OXE_CTRL_RUN = false ∧ s.on d F.OXE_CTRL_LOCK = false) ∨
      (0x0A8000 ≤ off ∧ off < 0x0AA000) ∨ (canRam off = true ∧ ∀ y < 2, s.rd d F.CAN_TX_PEND y = 0) →
      Yields c0 s (fun t => t.mword a = v ∧ StoresAt a 4 s t ∧ t.pending = s.pending)) ∧
    (here → runs → core → canRam off = true → 0x3680 ≤ (off - 0x0D0000) % 0x4000 →
      s.bit d F.CAN_TX_PEND (((off - 0x0D0000) % 0x4000 - 0x3680) / 76) ((off - 0x0D0000) / 0x4000) = true →
      Yields c0 s (fun t => t = s)) ∧
    (here → runs → core → 0x0A0000 ≤ off → off < 0x0A8000 → off % 8 = 0 → Yields c0 s (fun t =>
      ((off - 0x0A0000) / 8, v) ∈ (t.oxe.get d).coefLow ∧ t.regs = s.regs ∧ Keeps s t)) ∧
    (here → runs → core → ∀ x, 1 ≤ x → x ≤ 4 → off = 0x200080 + 4 * x → Yields c0 s (fun t => t.opReg (keyBank r) x = v ∧
      (∀ b y, y < 8 → b ≠ keyBank r ∨ y ≠ x → t.opReg b y = s.opReg b y) ∧ t.regs = s.regs ∧ Keeps s t)) ∧
    (here → runs → core → off = 0x200080 → bitOf v.toNat 31 = true → Yields c0 s (fun t => t = s)) ∧
    (here → runs → core → off = 0x200080 → bitOf v.toNat 31 = false → Yields c0 s (fun t => t.opReg (keyBank r) 0 = v &&& opcMask ∧
      (∀ b y, y < 8 → b ≠ keyBank r ∨ y ≠ 0 → t.opReg b y = s.opReg b y) ∧ t.regs = s.regs ∧ Keeps s t)) ∧
    (fits → inside 0x60000000 0x60010000 → core → n = 4 → findReg a = none → Yields c0 s (fun t => t = s)) ∧
    (fits → inside 0x60000000 0x60010000 → n ≠ 4 → Yields c0 s denied)

/-- For every command and state, a step of the state with that command in front of its queue is the command's effect on
the state with the queue's rest. On an empty queue the step answers the state itself (the model's choice, log entry
1). (spec/00_scope.md) -/
def Obligations.StepRunsFrontCommand : Prop :=
  (∀ (c : Instr) (s : State), Machine.step { s with pending := c :: s.pending } = Machine.exec c s) ∧
    ∀ s : State, s.pending = [] → Machine.step s = .next s

/-- State.reset satisfies the invariant that every step keeps; its memories list no byte, and each register of the map
reads as its reset value. (R9, R20, R21) -/
def Obligations.ResetKeepsStoresCanonical : Prop :=
  State.reset.Inv ∧ State.reset.pending = [] ∧ (∀ k, State.reset.byte k = 0) ∧ (∀ a, State.reset.word a = resetWord a)

/-- In every state whose byte memories and register file are in canonical form (keys rising, no entry equal to what an
unlisted one reads as), a step that answers a next state answers one of that form, whatever command stands in front.
Equal contents are so equal data in every run. (R9, R20, R21, R481) -/
def Obligations.EveryStepKeepsStoresCanonical : Prop :=
  ∀ s t : State, s.Inv → Machine.step s = .next t → t.Inv
end

