-- ==== Sys2Proof/Laws/Frames.lean ====
section
/-!
SUPPORT. What every shared operation of ports, safety core and fault hierarchy leaves alone, said once for each: byte memory,
queue and clock stay, and the register file keeps its canonical form.
-/

namespace Sys2Proof.Machine.State

/-- Memory, queue and clock are as in `s`, and a canonical register file stays canonical. -/
def Calm (s t : State) : Prop :=
  t.mem = s.mem ∧ t.pending = s.pending ∧ t.now = s.now ∧ (Sparse.wf resetWord s.regs = true → Sparse.wf resetWord t.regs = true)

theorem calm_refl (s : State) : Calm s s := ⟨rfl, rfl, rfl, id⟩

theorem calm_trans {s t u : State} (h : Calm s t) (k : Calm t u) : Calm s u :=
  ⟨k.1.trans h.1, k.2.1.trans h.2.1, k.2.2.1.trans h.2.2.1, fun w => k.2.2.2 (h.2.2.2 w)⟩

/-- A change of anything but registers, memory, queue and clock is calm. -/
theorem calm_typed {s x t : State} (h : Calm s x) (h1 : t.regs = x.regs) (h2 : t.mem = x.mem) (h3 : t.pending = x.pending)
    (h4 : t.now = x.now) : Calm s t :=
  ⟨h2.trans h.1, h3.trans h.2.1, h4.trans h.2.2.1, fun w => h1 ▸ h.2.2.2 w⟩

theorem calm_twin {s x : State} (v : Twin) (h : Calm s x) : Calm s { x with twin := v } := h

theorem calm_pkg {s x : State} (v : Pkg) (h : Calm s x) : Calm s { x with pkg := v } := h

theorem calm_pkgFaults {s x : State} (v : Pkg) (w : Faults) (h : Calm s x) : Calm s { x with pkg := v, faults := w } := h

theorem calm_foldl {α : Type} (f : State → α → State) (hf : ∀ y a, Calm y (f y a)) (l : List α) {s x : State} (h : Calm s x) :
    Calm s (l.foldl f x) := by
  induction l generalizing x with
  | nil => exact h
  | cons a t ih => exact ih (calm_trans h (hf x a))

variable {s x : State}

theorem calm_setWord (a : Nat) (v : Word) (h : Calm s x) : Calm s (x.setWord a v) :=
  ⟨h.1, h.2.1, h.2.2.1, fun w => setWord_wf a v (h.2.2.2 w)⟩

theorem calm_wr (d : Nat) (f : Fld) (v : Nat) (i j : Nat) (h : Calm s x) : Calm s (x.wr d f v i j) := calm_setWord _ _ h

theorem calm_wrB (d : Nat) (f : Fld) (b : Bool) (i : Nat) (j : Nat) (h : Calm s x) : Calm s (x.wrB d f b i j) := by
  unfold wrB
  try dsimp only
  repeat' with_reducible first | exact h | split | apply calm_wr

theorem calm_wrI (d : Nat) (f : Fld) (v : Int) (i : Nat) (j : Nat) (h : Calm s x) : Calm s (x.wrI d f v i j) := by
  unfold wrI
  try dsimp only
  repeat' with_reducible first | exact h | split | apply calm_wr

theorem calm_satCnt (d : Nat) (f : Fld) (i : Nat) (j : Nat) (h : Calm s x) : Calm s (x.satCnt d f i j) := by
  unfold satCnt
  try dsimp only
  repeat' with_reducible first | exact h | split | apply calm_wr

theorem calm_wrapCnt (d : Nat) (f : Fld) (i : Nat) (j : Nat) (h : Calm s x) : Calm s (x.wrapCnt d f i j) := by
  unfold wrapCnt
  try dsimp only
  repeat' with_reducible first | exact h | split | apply calm_wr

theorem calm_setBit (d : Nat) (f : Fld) (k : Nat) (i : Nat) (j : Nat) (h : Calm s x) : Calm s (x.setBit d f k i j) := by
  unfold setBit
  try dsimp only
  repeat' with_reducible first | exact h | split | apply calm_wr

theorem calm_clrBit (d : Nat) (f : Fld) (k : Nat) (i : Nat) (j : Nat) (h : Calm s x) : Calm s (x.clrBit d f k i j) := by
  unfold clrBit
  try dsimp only
  repeat' with_reducible first | exact h | split | apply calm_wr

theorem calm_raise (d : Nat) (ev first : Fld) (i : Nat) (h : Calm s x) : Calm s (x.raise d ev first i) := by
  unfold State.raise
  dsimp only
  repeat' with_reducible first | exact h | split | apply calm_wr

theorem calm_xlkSent (d : Fin 8) (cls n : Nat) (h : Calm s x) : Calm s (x.xlkSent d cls n) := by
  unfold xlkSent
  try dsimp only
  repeat' with_reducible first | exact h | split | apply calm_setWord

theorem calm_eccMend (k : Nat) (h : Calm s x) : Calm s (x.eccMend k) :=
  calm_typed h rfl rfl rfl rfl

theorem calm_log (d : Fin 8) (code cls block index count : Nat) (data : List Nat) (h : Calm s x) : Calm s (x.log d code cls block index count data) :=
  calm_typed h rfl rfl rfl rfl

theorem calm_info (d : Fin 8) (code block index : Nat) (data : List Nat) (h : Calm s x) : Calm s (x.info d code block index data) := by
  unfold info
  try dsimp only
  repeat' with_reducible first | exact h | split | apply calm_log

theorem calm_accessEvent (d : Fin 8) (addr who : Nat) (h : Calm s x) : Calm s (x.accessEvent d addr who) := by
  unfold accessEvent
  try dsimp only
  repeat' with_reducible first | exact h | split | apply calm_info

theorem calm_updAcq (d u : Fin 8) (f : AcqUnit → AcqUnit) (h : Calm s x) : Calm s (x.updAcq d u f) :=
  calm_typed h rfl rfl rfl rfl

theorem calm_groupSettle (d u : Fin 8) (h : Calm s x) : Calm s (x.groupSettle d u) := by
  unfold groupSettle
  refine calm_foldl _ (fun y g => ?_) _ h
  have k : Calm y { y with group := upd y.group g (fun _ => { wait := ((y.group.get g).wait.filter (fun v => v ≠ d.val * 8 + u.val)) }) } :=
    calm_refl y
  dsimp only
  split
  · split
    · exact calm_wr _ _ _ _ _ k
    · exact k
  · exact calm_refl y

theorem calm_acqSetSt (d u : Fin 8) (st : Nat) (h : Calm s x) : Calm s (x.acqSetSt d u st) := by
  unfold acqSetSt
  try dsimp only
  repeat' with_reducible first | exact h | split | apply calm_wr | apply calm_groupSettle

theorem calm_acqRing (d u : Fin 8) (g : AcqTrig) (h : Calm s x) : Calm s (x.acqRing d u g) := by
  unfold acqRing
  exact calm_updAcq _ _ _ (calm_acqSetSt _ _ _ h)

theorem calm_acqAsk (d u : Fin 8) (t : Nat) (h : Calm s x) : Calm s (x.acqAsk d u t) := by
  unfold acqAsk
  try dsimp only
  repeat' with_reducible first | exact h | split | apply calm_updAcq

/-- A trigger source of U0 or U1 touches no byte memory. -/
theorem calm_acqFire (d u : Fin 8) (src t : Nat) (hu : u.val < 2) (h : Calm s x) : Calm s (x.acqFire d u src t) := by
  unfold acqFire acqTrigger
  simp only [hu, if_true]
  repeat' with_reducible first | exact h | split | apply calm_acqAsk | apply calm_acqRing | apply calm_satCnt

/-- The trigger sources of U0 and U1 alone, 6 to 10, touch no byte memory. -/
theorem calm_acqEvent (d : Fin 8) (src param t : Nat) (hs : 6 ≤ src) (h : Calm s x) : Calm s (x.acqEvent d src param t) := by
  unfold acqEvent
  refine calm_foldl _ (fun y u => ?_) _ h
  by_cases c : src < 6 ∨ u.val < 2
  · simp only [c, true_and]
    repeat' with_reducible first | exact calm_refl y | split | exact calm_acqFire _ _ _ _ (c.resolve_left (by omega)) (calm_refl y)
  · simp only [c, false_and, if_false]
    exact calm_refl y

theorem calm_putInh (p : Fin 32) (c : Fin 12) (b : Bool) (h : Calm s x) : Calm s (x.putInh p c b) :=
  calm_typed h rfl rfl rfl rfl

theorem calm_setInh (p : Fin 32) (c : Fin 12) (b : Bool) (h : Calm s x) : Calm s (x.setInh p c b) := by
  unfold setInh
  dsimp only
  split
  · exact calm_acqEvent _ _ _ _ (by decide) (calm_putInh _ _ _ h)
  · exact calm_putInh _ _ _ h

theorem calm_setInhDie (d : Fin 8) (c : Fin 12) (b : Bool) (h : Calm s x) : Calm s (x.setInhDie d c b) := by
  unfold setInhDie
  try dsimp only
  repeat' with_reducible first | exact h | split | apply calm_setInh

theorem calm_updStl (d : Fin 8) (k : Fin 4) (f : StlPort → StlPort) (h : Calm s x) : Calm s (x.updStl d k f) :=
  calm_typed h rfl rfl rfl rfl

theorem calm_sendUrgent (d : Fin 8) (k : Fin 4) (v : Word) (ovr : Bool) (h : Calm s x) : Calm s (x.sendUrgent d k v ovr) := by
  unfold sendUrgent
  try dsimp only
  repeat' with_reducible first | exact h | split | apply calm_wr | apply calm_wrapCnt | apply calm_updStl

theorem calm_urgentNext (d : Fin 8) (k : Fin 4) (h : Calm s x) : Calm s (x.urgentNext d k) := by
  unfold urgentNext
  try dsimp only
  repeat' with_reducible first | exact h | split | apply calm_updStl | apply calm_sendUrgent

theorem calm_queueUrgent (d : Fin 8) (k : Fin 4) (v : Word) (ovr : Bool) (h : Calm s x) : Calm s (x.queueUrgent d k v ovr) := by
  unfold queueUrgent
  try dsimp only
  repeat' with_reducible first | exact h | split | apply calm_satCnt | apply calm_updStl | apply calm_sendUrgent | apply calm_urgentNext

theorem calm_flushUrgent (d : Fin 8) (k : Fin 4) (h : Calm s x) : Calm s (x.flushUrgent d k) := by
  unfold flushUrgent
  try dsimp only
  repeat' with_reducible first | exact h | split | apply calm_updStl | apply calm_sendUrgent

theorem calm_haltSet (d : Fin 8) (k : Fin 4) (src : Nat) (h : Calm s x) : Calm s (x.haltSet d k src) := by
  unfold haltSet
  try dsimp only
  repeat' with_reducible first | exact h | split | apply calm_wr | apply calm_setBit | apply calm_updStl

theorem calm_haltAssert (d : Fin 8) (k : Fin 4) (src : Nat) (h : Calm s x) : Calm s (x.haltAssert d k src) := by
  unfold haltAssert
  dsimp only
  split
  · exact calm_haltSet _ _ _ h
  · exact calm_acqEvent _ _ _ _ (by decide) (calm_haltSet _ _ _ h)

theorem calm_haltRelease (d : Fin 8) (k : Fin 4) (h : Calm s x) : Calm s (x.haltRelease d k) := by
  unfold haltRelease
  try dsimp only
  repeat' with_reducible first | exact h | split | apply calm_wr | apply calm_updStl

theorem calm_haltDie (d : Fin 8) (src : Nat) (h : Calm s x) : Calm s (x.haltDie d src) := by
  unfold haltDie
  try dsimp only
  repeat' with_reducible first | exact h | split | apply calm_haltAssert

theorem calm_updOvr (d : Fin 8) (k : Fin 4) (f : OvrState → OvrState) (h : Calm s x) : Calm s (x.updOvr d k f) :=
  calm_typed h rfl rfl rfl rfl

theorem calm_overrideStart (d : Fin 8) (k : Fin 4) (ramp : Option Nat) (h : Calm s x) : Calm s (x.overrideStart d k ramp) := by
  unfold overrideStart
  cases ramp <;> dsimp only <;>
    repeat' with_reducible first | exact h | apply calm_queueUrgent | apply calm_updOvr | apply calm_wr | apply calm_wrB

theorem calm_overrideRelease (d : Fin 8) (k : Fin 4) (h : Calm s x) : Calm s (x.overrideRelease d k) := by
  unfold overrideRelease
  try dsimp only
  repeat' with_reducible first | exact h | split | apply calm_wr

theorem calm_rampStep (d : Fin 8) (k : Fin 4) (h : Calm s x) : Calm s (x.rampStep d k) := by
  unfold rampStep
  try dsimp only
  repeat' with_reducible first | exact h | split | apply calm_wr | apply calm_wrB | apply calm_updOvr

theorem calm_updSaf (d : Fin 8) (k : Fin 4) (f : SafPort → SafPort) (h : Calm s x) : Calm s (x.updSaf d k f) :=
  calm_typed h rfl rfl rfl rfl

theorem calm_psApply (d : Fin 8) (k : Fin 4) (tgt : Nat) (h : Calm s x) : Calm s (x.psApply d k tgt) := by
  unfold psApply
  try dsimp only
  repeat' with_reducible first | exact h | split | apply calm_wr | apply calm_wrapCnt | apply calm_setBit | apply calm_setInh | apply calm_updOvr | apply calm_updSaf

theorem calm_psRefuse (d : Fin 8) (k : Fin 4) (tgt : Nat) (h : Calm s x) : Calm s (x.psRefuse d k tgt) := by
  unfold psRefuse
  try dsimp only
  repeat' with_reducible first | exact h | split | apply calm_wr | apply calm_setBit

theorem calm_psJudge (d : Fin 8) (k : Fin 4) (tgt : Nat) (w : PsWriter) (h : Calm s x) : Calm s (x.psJudge d k tgt w) := by
  unfold psJudge
  try dsimp only
  repeat' with_reducible first | exact h | split | apply calm_psApply | apply calm_psRefuse

theorem calm_onPorts (f : State → Fin 4 → State) (hf : ∀ y k, Calm y (f y k)) (h : Calm s x) : Calm s (x.onPorts f) :=
  calm_foldl f hf _ h

theorem calm_onDies (f : State → Fin 8 → State) (hf : ∀ y d, Calm y (f y d)) (h : Calm s x) : Calm s (x.onDies f) :=
  calm_foldl f hf _ h

theorem calm_onUsed (f : State → Fin 8 → State) (hf : ∀ y d, Calm y (f y d)) (h : Calm s x) : Calm s (x.onUsed f) :=
  calm_onDies _ (fun y d => by split; exacts [hf y d, calm_refl y]) h

theorem calm_causeOn (d : Fin 8) (k : Fin 4) (c : Nat) (h : Calm s x) : Calm s (x.causeOn d k c) := by
  unfold causeOn
  try dsimp only
  repeat' with_reducible first | exact h | split | apply calm_wr | apply calm_updSaf

theorem calm_causeOff (d : Fin 8) (k : Fin 4) (c : Nat) (h : Calm s x) : Calm s (x.causeOff d k c) := by
  unfold causeOff
  try dsimp only
  repeat' with_reducible first | exact h | split | apply calm_wrB | apply calm_updSaf

theorem calm_setSout (d : Fin 8) (k : Fin 4) (cmd : Nat) (h : Calm s x) : Calm s (x.setSout d k cmd) := by
  unfold setSout
  try dsimp only
  repeat' with_reducible first | exact h | split | apply calm_wr | apply calm_updSaf

theorem calm_dropSout (d : Fin 8) (k : Fin 4) (mask : Nat) (h : Calm s x) : Calm s (x.dropSout d k mask) := by
  unfold dropSout
  try dsimp only
  repeat' with_reducible first | exact h | split | apply calm_setSout

theorem calm_reqFault (d : Fin 8) (k : Fin 4) (h : Calm s x) : Calm s (x.reqFault d k) := by
  unfold reqFault
  try dsimp only
  repeat' with_reducible first | exact h | split | apply calm_psJudge

theorem calm_stopMark (d : Fin 8) (k : Fin 4) (kind c : Nat) (h : Calm s x) : Calm s (x.stopMark d k kind c) := by
  unfold stopMark
  try dsimp only
  repeat' with_reducible first | exact h | split | apply calm_wr | apply calm_setBit | apply calm_info

theorem calm_rampWrite (d : Fin 8) (k : Fin 4) (c ms : Nat) (h : Calm s x) : Calm s (x.rampWrite d k c ms) := by
  unfold rampWrite
  try dsimp only
  repeat' with_reducible first | exact h | split | apply calm_overrideStart | apply calm_updSaf

theorem calm_rampBegin (d : Fin 8) (k : Fin 4) (c ms : Nat) (h : Calm s x) : Calm s (x.rampBegin d k c ms) := by
  unfold rampBegin
  try dsimp only
  repeat' with_reducible first | exact h | split | apply calm_causeOn | apply calm_stopMark | apply calm_rampWrite

theorem calm_rampStop (d : Fin 8) (k : Fin 4) (c ms : Nat) (h : Calm s x) : Calm s (x.rampStop d k c ms) := by
  unfold rampStop
  try dsimp only
  repeat' with_reducible first | exact h | split | apply calm_updSaf | apply calm_psJudge | apply calm_causeOn | apply calm_reqFault | apply calm_rampWrite | apply calm_rampBegin

theorem calm_rampEnd (d : Fin 8) (k : Fin 4) (h : Calm s x) : Calm s (x.rampEnd d k) := by
  unfold rampEnd
  try dsimp only
  repeat' with_reducible first | exact h | split | apply calm_wr | apply calm_updSaf | apply calm_psJudge | apply calm_dropSout | apply calm_reqFault

theorem calm_tripStop (d : Fin 8) (k : Fin 4) (c : Nat) (h : Calm s x) : Calm s (x.tripStop d k c) := by
  unfold tripStop
  try dsimp only
  repeat' with_reducible first | exact h | split | apply calm_setInh | apply calm_haltAssert | apply calm_overrideStart | apply calm_updSaf | apply calm_causeOn | apply calm_stopMark

theorem calm_tripEnd (d : Fin 8) (k : Fin 4) (h : Calm s x) : Calm s (x.tripEnd d k) := by
  unfold tripEnd
  try dsimp only
  repeat' with_reducible first | exact h | split | apply calm_wr | apply calm_updSaf | apply calm_dropSout | apply calm_reqFault

theorem calm_dieTrip (d : Fin 8) (c : Nat) (h : Calm s x) : Calm s (x.dieTrip d c) := by
  exact calm_onPorts _ (fun y k => calm_tripStop d k c (calm_refl y)) h

theorem calm_siteTrip (c : Nat) (h : Calm s x) : Calm s (x.siteTrip c) := by
  exact calm_onUsed _ (fun y d => calm_dieTrip d c (calm_refl y)) h

theorem calm_degrade (d : Fin 8) (k : Fin 4) (q : Nat) (h : Calm s x) : Calm s (x.degrade d k q) := by
  unfold degrade
  try dsimp only
  repeat' with_reducible first | exact h | split | apply calm_wr | apply calm_setBit | apply calm_updSaf | apply calm_tripStop

theorem calm_undegrade (d : Fin 8) (k : Fin 4) (q : Nat) (h : Calm s x) : Calm s (x.undegrade d k q) := by
  unfold undegrade
  try dsimp only
  repeat' with_reducible first | exact h | split | apply calm_wr | apply calm_updSaf

theorem calm_applyRow (d : Fin 8) (k : Fin 4) (h : Calm s x) : Calm s (x.applyRow d k) := by
  unfold applyRow
  try dsimp only
  repeat' with_reducible first | exact h | split | apply calm_wr | apply calm_setInh | apply calm_overrideStart | apply calm_overrideRelease | apply calm_setSout | apply calm_dropSout

theorem calm_setRole (r cause : Nat) (h : Calm s x) : Calm s (x.setRole r cause) := by
  unfold setRole
  try dsimp only
  repeat' with_reducible first | exact h | split | apply calm_wr | apply calm_info

theorem calm_latchOutputs (h : Calm s x) : Calm s (x.latchOutputs) := by
  unfold latchOutputs
  exact calm_twin _ (calm_onDies _ (fun y d => calm_onPorts _ (fun z k => calm_wr _ _ _ _ _ (calm_refl z)) (calm_refl y)) h)

theorem calm_outputsOff (h : Calm s x) : Calm s (x.outputsOff) := by
  unfold outputsOff
  try dsimp only
  repeat' with_reducible first | exact h | split | apply calm_wr | apply calm_latchOutputs

theorem calm_claimDrop (h : Calm s x) : Calm s (x.claimDrop) := by
  unfold claimDrop
  dsimp only
  split
  · exact calm_wr _ _ _ _ _ (calm_outputsOff (calm_typed h rfl rfl rfl rfl))
  · exact calm_wr _ _ _ _ _ (calm_outputsOff h)

theorem calm_ownRelease (h : Calm s x) : Calm s (x.ownRelease) := by
  unfold ownRelease
  try dsimp only
  repeat' with_reducible first | exact h | split | apply calm_setRole | apply calm_claimDrop

theorem calm_setFaultTimes (key : Nat) (l : List Nat) (h : Calm s x) : Calm s (x.setFaultTimes key l) :=
  calm_typed h rfl rfl rfl rfl

theorem calm_errRegs (d : Fin 8) (level block code count : Nat) (perm : Bool) (h : Calm s x) : Calm s (x.errRegs d level block code count perm) := by
  unfold errRegs
  try dsimp only
  repeat' with_reducible first | exact h | split | apply calm_wr | apply calm_wrB

theorem calm_fcnt (d : Fin 8) (level count : Nat) (h : Calm s x) : Calm s (x.fcnt d level count) := by
  unfold fcnt
  try dsimp only
  repeat' with_reducible first | exact h | split | apply calm_wr | apply calm_satCnt

theorem calm_cellLost (d : Fin 8) (c : Nat) (h : Calm s x) : Calm s (x.cellLost d c) := by
  unfold cellLost
  try dsimp only
  repeat' with_reducible first | exact h | split | apply calm_degrade

theorem calm_compLost (d : Fin 8) (c : Nat) (h : Calm s x) : Calm s (x.compLost d c) := by
  unfold compLost
  repeat' with_reducible first | exact h | split | apply calm_tripStop

theorem calm_portDiesOff (h : Calm s x) : Calm s x.portDiesOff := by
  unfold portDiesOff
  refine calm_onUsed _ (fun y d => ?_) h
  split
  · exact calm_refl y
  · exact calm_pkg _ (calm_setInhDie _ _ _ (calm_refl y))

theorem calm_retiredEffect (d : Fin 8) (level block index : Nat) (h : Calm s x) : Calm s (x.retiredEffect d level block index) := by
  unfold retiredEffect
  split
  · exact calm_cellLost _ _ (calm_wr _ _ _ _ _ h)
  split
  · exact calm_compLost _ _ h
  split
  · exact calm_wr _ _ _ _ _ h
  split
  · exact calm_wr _ _ _ _ _ (calm_wr _ _ _ _ _ (calm_wr _ _ _ _ _ h))
  split
  · exact calm_pkgFaults _ _ (calm_setInhDie _ _ _ (calm_setBit _ _ _ _ _ h))
  split
  · exact calm_portDiesOff (calm_typed h rfl rfl rfl rfl)
  · exact h

theorem calm_retireElem (d : Fin 8) (level block index code count : Nat) (byCommand : Bool) (extra : Nat) (h : Calm s x) : Calm s (x.retireElem d level block index code count byCommand extra) := by
  unfold retireElem
  exact calm_info _ _ _ _ _ (calm_retiredEffect _ _ _ _ (calm_satCnt _ _ _ _ (calm_typed h rfl rfl rfl rfl)))

theorem calm_countFault (d : Fin 8) (level block index code : Nat) (data : List Nat) (h : Calm s x) :
    Calm s (x.countFault d level block index code data).1 := by
  unfold countFault
  dsimp only
  repeat' with_reducible first | exact h | split | apply calm_log | apply calm_retireElem | apply calm_fcnt | apply calm_errRegs | apply calm_setFaultTimes

theorem calm_fault (d : Fin 8) (level block index code : Nat) (data : List Nat) (h : Calm s x) : Calm s (x.fault d level block index code data) := by
  exact calm_countFault d level block index code data h

theorem calm_chipFault (code : Nat) (data : List Nat) (tampered : Bool) (h : Calm s x) : Calm s (x.chipFault code data tampered) := by
  unfold chipFault
  have k := calm_ownRelease (calm_siteTrip 14 (calm_countFault 0 4 0 0 code data h))
  split
  · exact h
  split
  · exact calm_log _ _ _ _ _ _ _ h
  dsimp only
  split
  · repeat' with_reducible first | exact k | split | apply calm_setRole
  · exact calm_typed k rfl rfl rfl rfl

theorem calm_regionFault (d : Fin 8) (code : Nat) (data : List Nat) (h : Calm s x) : Calm s (x.regionFault d code data) := by
  unfold regionFault
  have k := calm_ownRelease (calm_dieTrip d 14 (calm_countFault d 3 0 0 code data h))
  split
  · exact calm_chipFault _ _ _ h
  split
  · exact h
  split
  · exact calm_log _ _ _ _ _ _ _ h
  dsimp only
  split
  · exact k
  · exact calm_typed k rfl rfl rfl rfl

theorem calm_ctxFault (d : Fin 8) (n : Fin 8) (cause : Nat) (h : Calm s x) : Calm s (x.ctxFault d n cause) := by
  unfold ctxFault
  dsimp only
  refine calm_fault _ _ _ _ _ _ (calm_onPorts _ (fun y k => ?_) ?_)
  · split
    · exact calm_rampStop _ _ _ _ (calm_refl y)
    · exact calm_refl y
  · repeat' with_reducible first | exact h | split | apply calm_wr | apply calm_satCnt

end Sys2Proof.Machine.State
end

