-- ==== Sys2Proof/Laws/Window.lean ====
section
/-!
SUPPORT. Laws of words in byte memory and of slot headers.
-/

namespace Sys2Proof.Machine

theorem leNat_leBytes (k n : Nat) : leNat (leBytes k n) = n % 256 ^ k := by
  induction k generalizing n with
  | zero => simp [leBytes, leNat, Nat.mod_one]
  | succ k ih =>
    simp only [leBytes, leNat, ih, BitVec.toNat_ofNat]
    have h : (256 : Nat) ^ (k + 1) = 256 * 256 ^ k := by rw [Nat.pow_succ, Nat.mul_comm]
    rw [h]
    exact (Nat.mod_mul (x := n) (a := 256) (b := 256 ^ k)).symm

theorem length_leBytes (k n : Nat) : (leBytes k n).length = k := by
  induction k generalizing n with
  | zero => rfl
  | succ k ih => simp [leBytes, ih]

namespace State

theorem bytes_setBytes (s : State) (k : Nat) (l : List Byte) : (s.setBytes k l).bytes k l.length = l := by
  apply List.ext_getElem
  · simp [bytes]
  · intro n h1 h2
    simp [bytes, byte_setBytes_in l s k n h2]

/-- A word of memory reads what was stored. -/
@[simp] theorem mword_setMword_same (s : State) (k : Nat) (v : Word) : (s.setMword k v).mword k = v := by
  have h := bytes_setBytes s k (leBytes 4 v.toNat)
  rw [length_leBytes] at h
  unfold mword setMword
  rw [h, leNat_leBytes]
  apply BitVec.eq_of_toNat_eq
  rw [BitVec.toNat_ofNat]
  have := v.isLt
  omega

/-- Bytes outside a stored word stay. -/
theorem byte_setMword_out (s : State) (k a : Nat) (v : Word) (h : a < k ∨ k + 4 ≤ a) :
    (s.setMword k v).byte a = s.byte a := byte_setBytes_out _ _ _ _ (by rw [length_leBytes]; exact h)

/-- A word apart from a stored one stays. -/
theorem mword_setMword_apart (s : State) (k k' : Nat) (v : Word) (h : k' + 4 ≤ k ∨ k + 4 ≤ k') :
    (s.setMword k v).mword k' = s.mword k' := by
  unfold mword
  congr 2
  apply List.map_congr_left
  intro i hi
  have := List.mem_range.mp hi
  exact byte_setMword_out _ _ _ _ (by omega)

@[simp] theorem setMword_regs (s : State) (k : Nat) (v : Word) : (s.setMword k v).regs = s.regs := setBytes_regs ..

@[simp] theorem setMword_pending (s : State) (k : Nat) (v : Word) : (s.setMword k v).pending = s.pending :=
  setBytes_pending ..

/-- What does not change the register file changes no field. -/
theorem rd_of_regs {s t : State} (h : t.regs = s.regs) (d : Nat) (f : Fld) (i j : Nat) : t.rd d f i j = s.rd d f i j := by
  unfold rd word
  rw [h]

theorem word_of_regs {s t : State} (h : t.regs = s.regs) (a : Nat) : t.word a = s.word a := by
  unfold word
  rw [h]

/-- What does not change memory changes no byte and no word of it. -/
theorem mword_of_mem {s t : State} (h : t.mem = s.mem) (k : Nat) : t.mword k = s.mword k := by
  unfold mword bytes byte
  rw [h]

theorem byte_of_mem {s t : State} (h : t.mem = s.mem) (k : Nat) : t.byte k = s.byte k := by
  unfold byte
  rw [h]

end State

/-- The parts of a header word. -/
theorem hOwn_mkHeader (o q l : Nat) : hOwn (mkHeader o q l) = o % 4 := by
  simp only [hOwn, mkHeader, bitsOf, BitVec.toNat_ofNat]
  omega

theorem hSeq_mkHeader (o q l : Nat) : hSeq (mkHeader o q l) = q % 65536 := by
  simp only [hSeq, mkHeader, bitsOf, BitVec.toNat_ofNat]
  omega

theorem hLen_mkHeader (o q l : Nat) : hLen (mkHeader o q l) = l % 16384 := by
  simp only [hLen, mkHeader, bitsOf, BitVec.toNat_ofNat]
  omega

end Sys2Proof.Machine
end

