-- ==== Sys2Proof/Tests/Slice0.lean ====
section
/-!
SUPPORT. Tests of the model: the well-formedness checks refuse an ill-formed command, small steps with expected results from
the spec, and a witness for the hypotheses of every statement.
-/

namespace Sys2Proof.Tests

open Sys2Proof Sys2Proof.Machine Sys2Proof.Machine.State

/-! ## Small states and operands -/

/-- A machine-mode core of the lead die. -/
def appLead : Requester := .app 0 0 false

/-- A user-mode core of the lead die. -/
def appUser : Requester := .app 0 0 true

/-- A key-store request of the lead die's core. -/
def ask (op slot : Nat) : KeyReq :=
  { who := appLead, op := op, slot := slot, target := 0, src := 0x10000000, dst := 0x10000000, aux := 0x10000100, len := 4,
    aad := 0 }

/-- A hash request. -/
def askSha : KeyReq := ask 0xC 0

/-- A request for random bytes. -/
def askRnd : KeyReq := ask 0xF 0

/-- An encryption with a slot that holds no key. -/
def askEnc : KeyReq := ask 0x0 20

/-- Reset with a root secret. -/
def rootState : State := { State.reset with keys := { State.reset.keys with root := some [1] } }

/-- With a hash waiting. -/
def rootAsk : State := { rootState with keys := { rootState.keys with queue := [askSha] } }

/-- With a full queue. -/
def rootFull : State := { rootState with keys := { rootState.keys with queue := List.replicate 8 askEnc } }

/-- With a hash running. -/
def rootRun : State := { rootState with keys := { rootState.keys with running := some (askSha, []) } }

/-- With a decryption running. -/
def decRun : State := { rootState with keys := { rootState.keys with running := some (ask 1 20, []) } }

/-- Reset at a stage of a power-down. -/
def atStage (p : PdStage) : State := { State.reset with pkg := { State.reset.pkg with pd := p } }

/-- Reset with four dies present. -/
def dies4 : State := State.reset.wr pkgDie F.PKG_DIES_PRESENT 15

/-- A restart into the life-cycle state 2 without a wipe. -/
def rst2 : Restart := { meterToo := false, newState := some 2, mask := 0, ownerHash := [] }

/-- Reset with that restart due. -/
def restartDue : State := { State.reset with lcs := { State.reset.lcs with restart := some rst2 } }

/-- A lead die running its set, with a port die that has reported. -/
def leadUp : State :=
  let s := State.reset.wr pkgDie F.PKG_DIES_LEAD_OK 1
  { s with pkg := { s.pkg with die := #v[.running, .boot, .off, .off, .off, .off, .off, .off], booted := true },
           lcs := { s.lcs with reported := Vector.replicate 8 true } }

/-- The lead die in its thermal shut-down. -/
def hotDie : State := { State.reset with pkg := { State.reset.pkg with die := State.reset.pkg.die.set 0 .thermal } }

/-- For the third time within the hour. -/
def hotThird : State := { hotDie with lsw := upd hotDie.lsw 0 (fun l => { l with downs := [0, 0, 0] }) }

/-- Three lanes of die 1's link are retired. -/
def noLanes : State :=
  let l : List RetRec := [0, 1, 2].map (fun l => { die := 1, level := 1, block := 0x14, index := l, code := 0x1001, tai := 0, count := 1 })
  { State.reset with faults := { State.reset.faults with retired := l } }

/-- A chosen set, a root secret, and slot 20 stored in a blob. -/
def blobState : State :=
  let b : Blob := { iv := [], ct := [], tag := [], attr := 0, label := 0 }
  { leadUp with pkg := { leadUp.pkg with fresh := false }, keys := { leadUp.keys with root := some [1], current := [(20, some b)] } }

/-- The lead die in its boot ROM. -/
def bootOnly : State := { State.reset with pkg := { State.reset.pkg with die := State.reset.pkg.die.set 0 .boot } }

/-- With its meter head running. -/
def bootMeter : State := { bootOnly with meter := { bootOnly.meter with running := true } }

/-! ## Envelopes of the command gate -/

/-- Bytes as cells from an address. -/
def cellsAt (k : Nat) (l : List Byte) : List Host.Cell := l.mapIdx (fun i b => (k + i, b))

/-- The words of an envelope before its tag, for target 0. -/
def envWords (code role : Nat) (auth : Bool) (ctr params : List Word) : List Word :=
  [BitVec.ofNat 32 (code + 65536 * role + 524288 * b2n auth), ctr.getD 0 0, ctr.getD 1 0, BitVec.ofNat 32 (256 * params.length)] ++ params

/-- A lead die in IN_SERVICE with its meter running and a key in the command slots of READER, SITE, SERVICE and VENDOR. -/
def gateBase : State :=
  let s := leadUp.wr 0 F.LCS_STATE_STATE 2
  let s := [8, 9, 10, 12].foldl (fun (s : State) (n : Nat) => s.wr 0 F.KEY_SLOT_ATTR_VALID 1 n) s
  { s with meter := { s.meter with running := true },
           keys := { s.keys with root := some [1], cache := [(8, [8]), (9, [9]), (10, [10]), (12, [12])] } }

/-- A submitted envelope in slot 0 of a state: its words, `z` words of zeros that need no cells, its tag, and the cells after it. -/
def submittedOn (b : State) (l : List Word) (z : Nat) (tag : List Byte) (more : List Host.Cell) : State :=
  { b with mem := cellsAt 0x30001000 (leBytes 4 (mkHeader 2 9 (l.length + z + tag.length / 4)).toNat ++ bytesOf l) ++
    cellsAt (0x30001004 + 4 * (l.length + z)) tag ++ more }

/-- On the base state, with nothing else. -/
def submitted (l : List Word) (tag : List Byte) : State := submittedOn gateBase l 0 tag []

/-- A submitted envelope, its tag zero when it is authenticated. -/
def asked (code role : Nat) (auth : Bool) (ctr params : List Word) : State :=
  submitted (envWords code role auth ctr params) (if auth then List.replicate 16 0 else [])

/-- The tag an envelope of slot 0 should carry under a key. -/
def tagOf (key : List Byte) (l : List Word) : Vector Byte 16 := Config.aesCmac key (leBytes 8 0 ++ bytesOf l)

/-- Its bytes one by one. -/
def tagBytes (t : Vector Byte 16) : List Byte :=
  [t[0], t[1], t[2], t[3], t[4], t[5], t[6], t[7], t[8], t[9], t[10], t[11], t[12], t[13], t[14], t[15]]

theorem tagBytes_toList (t : Vector Byte 16) : t.toList = tagBytes t := by
  apply List.ext_getElem
  · simp [tagBytes]
  · intro i h1 h2
    simp only [Vector.length_toList] at h1
    interval_cases i <;> rfl

theorem leBytes4_leNat (a b c d : Byte) : leBytes 4 (BitVec.ofNat 32 (leNat [a, b, c, d])).toNat = [a, b, c, d] := by
  simp only [leBytes, leNat, BitVec.toNat_ofNat]
  have ha := a.isLt; have hb := b.isLt; have hc := c.isLt; have hd := d.isLt
  congr 1
  · apply BitVec.eq_of_toNat_eq; simp; omega
  congr 1
  · apply BitVec.eq_of_toNat_eq; simp; omega
  congr 1
  · apply BitVec.eq_of_toNat_eq; simp; omega
  congr 1
  · apply BitVec.eq_of_toNat_eq; simp; omega

/-- The tag words of a slot as the state holds them. -/
def tagWords (t : Vector Byte 16) : List Word :=
  [BitVec.ofNat 32 (leNat [t[0], t[1], t[2], t[3]]), BitVec.ofNat 32 (leNat [t[4], t[5], t[6], t[7]]),
   BitVec.ofNat 32 (leNat [t[8], t[9], t[10], t[11]]), BitVec.ofNat 32 (leNat [t[12], t[13], t[14], t[15]])]

theorem tagWords_bytes (t : Vector Byte 16) : bytesOf (tagWords t) = tagBytes t := by
  simp only [bytesOf, tagWords, List.flatMap_cons, List.flatMap_nil, leBytes4_leNat, tagBytes]
  rfl

/-- An authenticated envelope with its right tag, of a state, with `z` words of zeros after its words. -/
def sealed (b : State) (key : List Byte) (l : List Word) (z : Nat) : State :=
  submittedOn b l z (tagBytes (tagOf key (l ++ List.replicate z 0))) []

/-- With both mailbox slots free. -/
def sealedBox (key : List Byte) (l : List Word) : State :=
  submittedOn gateBase l 0 (tagBytes (tagOf key l)) [(0x30003000, 3), (0x30004000, 3)]

/-- A right tag passes. -/
theorem tagOk_of (s : State) (key : List Byte) (l : List Word) (n : Nat) (hu : s.pkg.unitId = 0) (h0 : (s.envelope 0).slot = 0)
    (h1 : (s.envelope 0).n = n) (h2 : 8 + n ≤ 255)
    (h3 : s.slotKey (slotOfRole (roleIdx (s.envelope 0).role)) = some key)
    (h4 : s.payload 0 (4 + n) = l)
    (h5 : (List.range 4).map (fun j => s.slotWord 0 (4 + n + j)) = tagWords (tagOf key l)) :
    s.tagOk (s.envelope 0) = true := by
  unfold State.tagOk
  rw [h3]
  simp only [h1, h0, Bool.and_eq_true, decide_eq_true_eq]
  refine ⟨h2, ?_⟩
  show (Config.aesCmac key (leBytes 8 s.pkg.unitId.toNat ++ bytesOf (s.payload 0 (4 + n)))).toList =
    bytesOf ((List.range 4).map (fun j => s.slotWord 0 (4 + n + j)))
  rw [h4, h5, hu, tagWords_bytes, ← tagBytes_toList]
  rfl

/-- The state after the checks on an authenticated envelope whose tag and counter are right. -/
theorem passed_of (s : State) (e : Envelope) (he : s.envelope 0 = e) (h1 : s.notPermitted e = false) (h2 : s.gateLocked e = false)
    (h3 : e.auth = true) (h4 : s.tagOk e = true) (h5 : s.lastCounter (roleIdx e.role) < e.counter) :
    s.gateCheck (s.envelope 0) =
      (0, (s.updLock (roleIdx e.role) (fun _ => { fails := 0, ends := 0, span := 0 })).consume (roleIdx e.role) e.counter) := by
  unfold State.gateCheck
  rw [he]
  simp only [h1, h2, h3, h4, Bool.not_true, Bool.false_eq_true, if_false]
  have h6 : ((s.updLock (roleIdx e.role) (fun _ => { fails := 0, ends := 0, span := 0 })).lastCounter (roleIdx e.role)) =
      s.lastCounter (roleIdx e.role) := rfl
  rw [if_neg (by rw [h6]; omega)]

/-- An envelope that passes every check is admitted. -/
theorem admits_of (s : State) (t : State) (code : Nat) (mine : List Word → Bool) (bad : State → Envelope → Bool)
    (h : s.gateCheck (s.envelope 0) = (0, t)) (h1 : s.waiting 0 = true) (h2 : (s.envelope 0).code = code)
    (h3 : mine (s.envelope 0).params = true) (h4 : t.formOk (s.envelope 0) = true) (h5 : bad t (s.envelope 0) = false)
    (h6 : t.turnedAway (s.envelope 0) = none) : s.admits 0 code mine bad = true := by
  simp [State.admits, State.passed, h, h1, h2, h3, h4, h5, h6]

/-- An envelope that passes and that no state turns away is open. -/
theorem opens_of (s : State) (t : State) (code : Nat) (h : s.gateCheck (s.envelope 0) = (0, t)) (h1 : s.waiting 0 = true)
    (h2 : (s.envelope 0).code = code) (h4 : t.formOk (s.envelope 0) = true) (h6 : t.turnedAway (s.envelope 0) = none) :
    s.opens 0 code = true := by
  simp [State.opens, State.passed, h, h1, h2, h4, h6]

/-- An envelope of `z` zero words. -/
def envWordsZ (code role z : Nat) : List Word :=
  [BitVec.ofNat 32 (code + 65536 * role + 524288), 1, 0, BitVec.ofNat 32 (256 * z)]

/-- The base state with a retired channel. -/
def retBase : State := { gateBase with faults := { gateBase.faults with retired :=
  [{ die := 0, level := 1, block := 0x11, index := 3, code := 0x1007, tai := 0, count := 1 }] } }

/-- The base state with a key for BILLING. -/
def siteBase : State :=
  let s := gateBase.wr 0 F.KEY_SLOT_ATTR_VALID 1 11
  { s with keys := { s.keys with cache := [(11, [11])] } }

/-- With a passive calendar. -/
def calBase : State := { siteBase with meter := { siteBase.meter with passive := some (parseCal []) } }

/-- A safety configuration whose password is eight bytes 1. -/
def pwCfg : SafetyCfg :=
  { ports := Vector.replicate 4 defaultCfg, windows := [], comps := Vector.replicate 8 0, engineCrc := 0, salt := [],
    hash := (Config.sha256 (List.replicate 8 1)).toList }

/-- The base state with that configuration on the lead die. -/
def pwBase : State := { gateBase with saf := upd gateBase.saf 0 (fun f => { f with stored := some pwCfg }) }

/-- The base state with the lead die back in its boot ROM. -/
def hotBase : State := { gateBase with pkg := { gateBase.pkg with die := gateBase.pkg.die.set 0 .boot } }

/-- With that configuration. -/
def pwHot : State := { hotBase with saf := upd hotBase.saf 0 (fun f => { f with stored := some pwCfg }) }

/-- The mailbox slots free. -/
def freeBoxes (s : State) : State := { s with mem := s.mem ++ [(0x30003000, 3), (0x30004000, 3)] }

/-- A meter request under way. -/
def mailWait : State :=
  let s := asked 0x4005 0 false [0, 0] []
  { s with mem := s.mem ++ [(0x30003000, 2), (0x30004000, 3)], gate := { s.gate with meterSlot := some 0, meterReply := [7] } }

/-- Part of the staging of class 1. -/
def staging1 (s : State) : State := { s with lcs := { s.lcs with staging := some { cls := 1, len := 0 } } }

/-! ## Units and links -/

/-- A trained link of die 1, a message waiting on it, and the lead die running. -/
def xlkBase : State :=
  let s := (leadUp.wr 1 F.XLK_STAT_UP 1).wr 1 F.XLK_CTRL_EN 1
  { s with oxe := upd s.oxe 1 (fun o => { o with sendq := [⟨0, 5, 77⟩] }) }

/-- A SOLO unit with a pairing key, its link enabled and down. -/
def twinOff : State :=
  let s := (leadUp.wr 0 F.TWN_CTRL_EN 1).wr 0 F.KEY_SLOT_ATTR_VALID 1 1
  { s with keys := { s.keys with root := some [1], cache := [(1, [1])] }, twin := { s.twin with starting := false } }

/-- A peer that starts as unit B and confirms the key. -/
def hello : PeerHello :=
  { keyConfirmed := true, strapB := true, role := 0, starting := true, claimedLater := false, gen := 0, acc := 0, nonce := 0,
    safDigests := [], calId := 0 }

/-- A unit with its link up in a role. -/
def twinRole (r : Nat) : State := (twinOff.wr 0 F.TWN_STAT_LINK_UP 1).wr 0 F.TWN_STAT_ROLE r

/-- A detected loss. -/
def twinDetect (s : State) (n : Nat) : State := { s with twin := { s.twin with detect := n } }

/-- An active unit that may hand over and has lost its mains. -/
def handOver : State :=
  let s := ((twinRole 1).wr 0 F.TWN_CTRL_MAINS_HO 1).wr pkgDie F.PKG_PWR_MAINS_LOST 1
  { s with twin := { s.twin with syncedTicks := 10000, peerFlags := (true, false, true) } }

/-- A new active unit that checks its links, of which L0 of the lead die has answered. -/
def checkOne : State :=
  let s := (twinRole 1).wr 0 F.TWN_STAT_OUT_EN 1
  { s with twin := { s.twin with checking := true }, now := 1,
           stl := upd s.stl 0 (fun v => upd v 0 (fun l => { l with lastRx := 1 })) }

/-- The next record of a standby after reset. -/
def record0 : HandoverRec :=
  { tagOk := true, gen := 0, planned := false, mainsLost := false, tick := 0, rseq := 1, tai := 0, slice := 0, ports := [],
    engine := [], allocWords := [], allocs := [], setpoints := [], hold := [], seqs := [], fans := [], tampers := [], outputs := [], deltas := [], sliceRegs := [], counters := [],
    changes := [] }

/-! ## Witnesses -/

/-! ## Loop code -/

/-- Context 3 of a die runs, with one word at its program counter 0 and values 7 and −3 in V1 and V2; its window is data words 4
to 23. -/
def olcOn (d : Fin 8) (w : Nat) : State :=
  let s := ((((State.reset.wr d F.OXE_CTX_STAT_STATE 3 3).wr d F.OXE_CTX_CFG_BUDGET 1000 3).wr d F.OXE_CTX_DWIN_DBASE 4 3).wr d
    F.OXE_CTX_DWIN_DSIZE 20 3)
  let s := s.updOxe d (fun o => { o with started := true })
  (s.updCtx d 3 (fun c => { c with v := (c.v.set 1 7).set 2 (-3) })).setMword (regAddr d 0x090000) (BitVec.ofNat 32 w)

/-- On die 1. -/
def olcAt (w : Nat) : State := olcOn 1 w

/-- A legal word of an opcode: D = 1, A = 1, B = 2 and I = 1 as far as it uses them; for the rest zero. -/
def olcWord (op : Nat) : Nat :=
  let base := op * 2 ^ 26
  if op ∈ [0x10, 0x11, 0x13, 0x14, 0x15, 0x16, 0x1F] then base + 2 ^ 22 + 2 ^ 18 + (if op = 0x13 ∨ op = 0x14 then 0 else 2 * 2 ^ 14)
  else if op ∈ [0x12, 0x17, 0x18, 0x19, 0x1B, 0x20, 0x21, 0x22, 0x24, 0x25] then base + 2 ^ 22 + 2 ^ 18 + 1
  else if op ∈ [0x1A, 0x1C, 0x1D, 0x23] then base + 2 ^ 22 + 2 ^ 18 + 2 * 2 ^ 14 + 1
  else if op = 0x1E then base + 2 ^ 18 + 3 * 2 ^ 14
  else base

/-! ## Measurement front end -/

/-- A set of one entry: cell 18, sampled two cycles, window A. -/
def setOne : SeqSet := { ents := [0x112], period := 0, scans := Vector.replicate 4 0, gains := List.replicate 72 0 }

/-- SQ0 of die 1 with a set and a state. -/
def adcRun (r : SqRun) : State :=
  State.reset.updSq 1 0 (fun x => { x with active := some setOne, run := r })

/-- No INH cause stands. -/
def freeInh (s : State) : State := { s with pkg := { s.pkg with inh := Vector.replicate 32 0 } }

/-- Running with a set pending. -/
def adcPend : State := (adcRun .running).updSq 1 0 (fun x => { x with pend := some setOne })

/-- Running with a set under check, and its outcome. -/
def adcCheck (r e : Nat) : State := (adcRun .running).updSq 1 0 (fun x => { x with checking := some (setOne, r, e) })

/-- Running with its cell enabled and the reference good. -/
def adcLive : State := ((adcRun .running).wr 1 F.ADC_CELL_EN 1 18).updAdc 1 (fun a => { a with refOk := true })

/-- A correction set within the limits. -/
def corrGood : CorrSet := { ofs := [0], gainPpm := [0], table := [0], residual := [0] }

/-- SQ0 of die 1 runs; lane 2 holds a fresh set; the rotation is in a phase after 64 rounds. -/
def lanePh (p : Nat) : State :=
  let s := (adcRun .running).updLane 1 2 (fun l => { l with fresh := some corrGood, calBusy := false })
  let s := s.updAdc 1 (fun a => { a with rotDue := true, refOk := true })
  ((s.wr 1 F.ADC_ROT_STAT_PHASE p).wr 1 F.ADC_ROT_STAT_ROUNDS 64).wr 1 F.ADC_ROT_CFG_ROT_EN 1

/-- With lane 2 self-calibrating. -/
def laneBusy (p : Nat) : State := (lanePh p).updLane 1 2 (fun l => { l with fresh := none, calBusy := true })

/-- With 64 pairs of cell 18 and their sum of differences. -/
def lanePairs (p : Nat) (sum : Int) : State :=
  (lanePh p).updAdc 1 (fun a => { a with pairs := [⟨18, 0, 64, sum, 0⟩] })

/-! ## Loop engine -/

/-- Die 1's engine has started; context 3 is in a state, triggered by software. -/
def ctxAs (st : Nat) : State :=
  ((State.reset.wr 1 F.OXE_CTX_STAT_STATE st 3).wr 1 F.OXE_CTX_TRIG_SRC 6 3).updOxe 1 (fun o => { o with started := true })

/-- The lead die's C4 runs on site ticks with a window of its own and two grid connections; the port dies are silent. -/
def allocBase : State :=
  let s := { State.reset with pkg := { State.reset.pkg with die := State.reset.pkg.die.set 0 .running } }
  let s := (((s.wr 0 F.OXE_CTX_STAT_STATE 1 4).wr 0 F.OXE_CTX_TRIG_SRC 2 4).wr 0 F.OXE_CTX_DWIN_DBASE 64 4).updOxe 0
    (fun o => { o with started := true })
  s.awSet 0x103 2

/-! ## Ports -/

/-- Port 0 of die 1, type 2, in a state, with its consents, on a running die of a unit that drives its outputs. -/
def portAs (st : Nat) : State :=
  let s := { State.reset with pkg := { State.reset.pkg with die := Vector.replicate 8 .running, inh := Vector.replicate 32 0 },
                              twin := { State.reset.twin with cut := false } }
  let s := ((s.wr 0 F.TWN_STAT_ROLE 1).wr 0 F.TWN_STAT_OUT_EN 1).wr 1 F.STL_P_CFG_TYPE 2 0
  let s := ((s.wr 1 F.STL_PSAFE_PERMIT 1 0).wr 1 F.STL_PSAFE_CC_PASS 1 0).wr 1 F.STL_PSAFE_UNLOCK_OK 1 0
  let s := ((s.wr 1 F.STL_P_HALT_HALTED 0 0).wr 1 F.STL_CTRL_EN 1).wr 0 F.LCS_BOOT_HOLD 0
  (s.wr 0 F.LCS_STATE_STATE 1).wr 1 F.STL_PSTATE_STATE st 0

/-- A valid return frame of zeros. -/
def goodReturn : List Byte := withCrc (0x13 :: List.replicate 29 0)

/-! ## Cooling -/

/-- C5 of die 1 runs on its timer with a window of its own; port 0 charges far below DERATE; its bins measure a copper at 20 °C. -/
def coolClear : State :=
  let s := { State.reset with pkg := { State.reset.pkg with die := Vector.replicate 8 .running } }
  let s := (((s.wr 1 F.OXE_CTX_STAT_STATE 1 5).wr 1 F.OXE_CTX_TRIG_SRC 4 5).wr 1 F.OXE_CTX_DWIN_DSIZE 0x49 5).wr 1
    F.OXE_CTX_DWIN_DBASE 64 5
  let s := (((s.wr 1 F.STL_PSTATE_STATE 5 0).wr 1 F.OXE_PORT_OVR_ACTIVE 0 0).wr 1 F.OXE_PORT_DERATE 0xFFFFFFFF 0).wr 0
    F.LCS_STATE_STATE 2
  let s := (s.wr 1 F.ADC_CELL_EN 1 0).wr 1 F.ADC_CELL_EN 1 1
  let full (b : CorBin) : CorBin := { b with i := 500000, n := 100 }
  let s := s.updOxe 1 (fun o => { o with started := true, bins := upd (upd o.bins 0 full) 1 full })
  s.updCopper 1 0 (fun c => { c with mean := 1, ref := some (1, 1, 2000), refCable := s.cableNow 1 0 })

/-- With R20. -/
def coolBase : State := coolClear.cwSet 1 2 1000000000

/-- With a mantissa in the entry that holds DEPTH. -/
def coolDepthAt (m : Word) : State :=
  coolBase.setMword (regAddr (1 : Fin 8) (0x0A0000 + 8 * (Config.depthEntry (portOf 1 0).val % 4096))) m

/-! ## Power-line links -/

/-- The modem of port 0 of die 1 runs; the port waits for its vehicle. -/
def modemRun : State :=
  let s := (((portAs 1).wr 1 F.STL_P_CFG_TYPE 1 0).wr 1 F.PIL_P_STAT_STATE 1 0).wr 1 F.PLC_CTRL_RUN 1
  ((s.wr 1 F.PLC_M_CTRL_EN 1 0).wr 1 F.PLC_M_CTRL_SLAC_EN 1 0).wr 1 F.PLC_LOAD_STAT_IMG_OK 1

/-- The herd line runs; node 2 is present. -/
def herdRun : State :=
  let s := ((portAs 1).wr 0 F.HLM_CTRL_EN 1).wr 0 F.PLC_CTRL_RUN 1
  (s.wr pkgDie F.PKG_PWR_AC_INPUT 1).wr 0 F.HLM_NODE_PRESENT 1 1

/-! ## CAN -/

/-- Controller 0 of die 1 is on the bus of a unit that drives its outputs. -/
def canRun : State := ((portAs 1).wr 1 F.CAN_CTRL_INIT 0 0).wr 1 F.CAN_CTRL_LISTEN 0 0

/-! ## Time -/

/-- All dies run on domain A; the site tick is due. -/
def timeRun : State :=
  let s := { State.reset with pkg := { State.reset.pkg with die := Vector.replicate 8 .running } }
  let s := ((s.wr 0 F.TSU_DOM_CFG_VALID 1 0).wr 0 F.TSU_STAT_VALID 1).wr 0 F.TSU_STAT_SRC 0
  s.updServo (fun x => { x with tickDue := true })

/-! ## Acquisition -/

/-- Unit 2 of die 1 is enabled, with two segments of 64 samples. -/
def acqRun : State :=
  let s := ((timeRun.wr 1 F.ACQ_U_CTRL_EN 1 2).wr 1 F.ACQ_U_STAT_STATE 1 2).wr 1 F.ACQ_U_SIZE_SIZE 1024 2
  ((s.wr 1 F.ACQ_U_LEN_LEN 64 2).wr 1 F.ACQ_U_SEG_SEGS 2 2).wr 1 F.ACQ_U_SEG_PRE 8 2

/-! ## The shared window -/

/-- Slot `i` has the OWN code `o`. -/
def withHeader (i : Nat) (o : Nat) : State := State.reset.setHeader i (mkHeader o 5 7)

/-! ## Metering -/

/-- The meter head runs, past its restoration, at rate 1. -/
def headRuns : State := timeRun.updMeter (fun m => { m with running := true, restoring := false })

/-- HostHeaderWrites: a command slot of each kind by the right and the wrong requester, a bulk slot, free and host-owned. -/
theorem wit_HostHeaderWrites :
    slotIndex 0 = true ∧ slotIndex 4 = true ∧ slotIndex 16 = true ∧ hostView .hostPort = true ∧ hostView (.app 0 0 false) = true ∧
    (State.reset.wr 0 F.HPI_CTRL_CMD_EN 1).on 0 F.HPI_CTRL_CMD_EN = true ∧ Requester.app 0 0 false ≠ .hostPort ∧
    (withHeader 16 3).own 16 = 3 ∧ (withHeader 0 3).own 0 = 3 ∧ (withHeader 4 1).own 4 = 1 ∧ hOwn 2 = 2 ∧ hOwn 3 = 3 := by
  decide

/-- DeviceHeaderWrites: a free bulk slot, and device-owned slots. -/
theorem wit_DeviceHeaderWrites :
    (withHeader 16 3).nextBulk = some 16 ∧ (withHeader 20 2).own 20 = 2 ∧ slotIndex 0 = true ∧ (withHeader 0 2).own 0 = 2 := by
  decide

/-- WindowPayloadAccess: the last payload word of a bulk slot, host-owned and device-owned. -/
theorem wit_WindowPayloadAccess :
    hostView .hostPort = true ∧ 0xFFFFC % 4 = 0 ∧ slotAt 0xFFFFC = some 77 ∧ 0xFFFFC ≠ slotBase 77 ∧
    (withHeader 77 1).own 77 ≠ 2 ∧ (withHeader 77 2).own 77 = 2 ∧
    ({ State.reset with upsets := [(State.winKey 0xFFFFC, true)] } : State).eccAt (State.winKey 0xFFFFC) = some true ∧
    ({ State.reset with upsets := [(State.winKey 0xFFFFC, false)] } : State).eccAt (State.winKey 0xFFFFC) = some false := by
  decide

/-- StatusBlockKept: the lead die executes firmware. -/
theorem wit_StatusBlockKept : timeRun.leadAlive = true := by
  decide

/-- HostPortTransactions: the port is enabled; a slot, a payload word of a slot that is not device-owned, an unknown opcode. -/
theorem wit_HostPortTransactions :
    (State.reset.wr 0 F.HPI_CTRL_EN 1).on 0 F.HPI_CTRL_EN = true ∧ slotIndex 77 = true ∧
    (State.reset.wr 0 F.HPI_CTRL_EN 1).eccAt (State.winKey (slotBase 77)) = none ∧ 6 % 4 ≠ 0 ∧ slotAt 0x1004 = some 0 ∧
    0x1004 ≠ slotBase 0 ∧ ((withHeader 0 3).wr 0 F.HPI_CTRL_EN 1).own 0 ≠ 2 ∧ (0x77 : Byte) ≠ 0x3B ∧ (0x77 : Byte) ≠ 0x32 ∧
    (0x77 : Byte) ≠ 0x05 := by
  decide

/-- KeyRequestTaken: a state with a root secret and room, one with a full queue, one without a root. -/
theorem wit_KeyRequestTaken :
    (partition appLead).isSome = true ∧ rootState.keys.root.isSome = true ∧ rootState.keys.queue.length < 8 ∧
    (rootFull.keys.root.isSome = true ∧ 8 ≤ rootFull.keys.queue.length) ∧ State.reset.keys.root.isSome = false ∧
    (partition .hostPort).isSome = false := by decide

/-- KeyRequestOrder: an idle store with one request that passes, one that fails, a running one. -/
theorem wit_KeyRequestOrder :
    (∃ q, rootAsk.keys.running = none ∧ nextReq rootAsk.keys.queue = some q ∧ (rootAsk.entropyRetest q).reqVerdict q = 0) ∧
    (∃ q, rootFull.keys.running = none ∧ nextReq rootFull.keys.queue = some q ∧ (rootFull.entropyRetest q).reqVerdict q ≠ 0) ∧
    rootRun.keys.running.isSome = true := by
  refine ⟨⟨askSha, by decide⟩, ⟨askEnc, by decide⟩, by decide⟩

/-- KeyOperationEnd: a running operation, and buffers inside the lead die's SRAM. -/
theorem wit_KeyOperationEnd : rootRun.keys.running = some (askSha, []) ∧
    bufKey (whoDie askSha.who) askSha.dst 32 = some 0x10000000 ∧
    (rootRun.bufGet (whoDie askSha.who) askSha.src askSha.len).isSome = true ∧ askSha.op = 0xC ∧ (ask 2 20).op = 2 ∧
    bufKey (whoDie (ask 2 20).who) (ask 2 20).dst 16 = some 0x10000000 := by decide

/-- KeyOperationEnd: whatever the tag of the ciphertext is, some state holds another one behind its IV. -/
theorem wit_KeyOperationEnd_badTag : ∃ (s : State) (l x : List Byte),
    s.keys.running = some (ask 1 20, []) ∧ bufKey 0 0x10000000 4 = some 0x10000000 ∧
    s.bufGet 0 0x10000000 4 = some l ∧ s.bufGet 0 0x10000100 28 = some x ∧
    (Config.gcmTag [] (x.take 12) (l.take 0) (l.drop 0)).toList ≠ x.drop 12 := by
  by_cases h : (Config.gcmTag [] (List.replicate 12 0) [] (List.replicate 4 0)).toList = List.replicate 16 0
  · refine ⟨(decRun.setByte 0x1000010C 1), List.replicate 4 0, List.replicate 12 0 ++ 1 :: List.replicate 15 0, by decide,
      by decide, by decide, by decide, ?_⟩
    show (Config.gcmTag [] (List.replicate 12 0) [] (List.replicate 4 0)).toList ≠ 1 :: List.replicate 15 0
    rw [h]; decide
  · exact ⟨decRun, List.replicate 4 0, List.replicate 28 0, by decide, by decide, by decide, by decide, h⟩

/-- KeySlotsWritten: slot 13 may be written by the lead die's machine-mode core, slot 4 not; a user-mode core. -/
theorem wit_KeySlotsWritten : partition appLead = some 0 ∧ leadMachine appLead = true ∧
    rootState.slotVerdict 0 13 0 = 0 ∧ rootState.slotVerdict 0 13 4 = 0 ∧ rootState.slotVerdict 0 4 0 ≠ 0 ∧
    rootState.slotVerdict 0 4 4 ≠ 0 ∧ partition appUser = some 0 ∧ leadMachine appUser = false := by decide

/-- EntropyTestFails: no failure yet; a root secret with ENTROPY_OK clear. -/
theorem wit_EntropyTestFails : (State.reset.keys.entropyFails.filter (fun t => State.reset.now - t < 1000000000)).length < 2 ∧
    rootState.keys.root.isSome = true ∧ (rootState.wr 0 F.KEY_STAT_ENTROPY_OK 0).on 0 F.KEY_STAT_ENTROPY_OK = false ∧
    askRnd.op = 0xF ∧ draws askRnd = true ∧
    ({ rootState with keys := { rootState.keys with running := some (askRnd, []) } } : State).keys.running = some (askRnd, []) := by
  decide

/-- PwrResetEffect: LSW_SAFE_EN is a register of the kind the statement speaks of. -/
theorem wit_PwrResetEffect : Instr.nresetIn ∈ [Instr.nresetIn, Instr.supplyReset] ∧
    (findReg (fldAddr 0 F.LSW_SAFE_EN_EN 0 0)).map (fun x =>
      decide (x.1.dom ≠ .keep ∧ x.1.kept = 0)) = some true ∧ State.reset.meter.pendSite = [] ∧
    (∀ k : Fin 3, State.reset.on 0 F.ADC_LANE_CAL_RETIRED k = false) := by decide

/-- PowerOnAndDieReset: the lead die after reset is not off; removed power puts it off. -/
theorem wit_PowerOnAndDieReset : State.reset.pkg.die.get 0 ≠ .off ∧
    ({ State.reset with pkg := { State.reset.pkg with die := Vector.replicate 8 .off } }).pkg.die.get 0 = .off := by decide

/-- MainsSequence: a state at each stage of a power-down. -/
theorem wit_MainsSequence : State.reset.pkg.pd = .none ∧ State.reset.on pkgDie F.PKG_PWR_MAINS_LOST = false ∧
    (State.reset.wr pkgDie F.PKG_PWR_MAINS_LOST 1).on pkgDie F.PKG_PWR_MAINS_LOST = true ∧
    (atStage .asserted).pkg.pd = .asserted ∧ (atStage .released).pkg.pd = .released ∧
    ((atStage .removed).pkg.pd = .removed ∧ (atStage .removed).pkg.mainsBack = false) ∧
    (atStage .committed).pkg.pd = .committed ∧
    (dies4.dieUsed 0 = true ∧ dies4.pkg.pd = .none) := by decide

/-- SupplyMonitors: reset meets every clause's hypothesis; four dies present. -/
theorem wit_SupplyMonitors : State.reset.pkg.pd = .none ∧ State.reset.pkg.die.get 0 ≠ .off ∧
    State.reset.on pkgDie F.PKG_PWR_HOLDUP_READY = false ∧ State.reset.on pkgDie F.PKG_PWR_V24_UV = false ∧
    State.reset.on pkgDie F.PKG_PWR_V24_OV = false ∧ dies4.dieUsed 0 = true ∧ dies4.dieUsed 3 = true := by decide

/-- RootLockAndTamper: a powered module and one without power. -/
theorem wit_RootLockAndTamper : State.reset.pkg.die.get 0 ≠ .off ∧ dies4.dieUsed 0 = true ∧
    ({ State.reset with pkg := { State.reset.pkg with die := Vector.replicate 8 .off } }).pkg.die.get 0 = .off := by decide

/-- LifeCycleRestartEffect: a restart into OPERATIONAL due after reset, and none. -/
theorem wit_LifeCycleRestartEffect : restartDue.lcs.restart = some rst2 ∧ rst2.newState = some 2 ∧
    restartDue.pkg.die.get 0 ≠ .off ∧ State.reset.lcs.restart = none := by decide

/-- StartSequence: a wiping lead die and port die, with lanes and without; a port die in boot beside a running lead die, with
equal images; a die in shut-down, for the first and the third time. -/
theorem wit_StartSequence : State.reset.pkg.die.get 0 = .wiping ∧
    (State.reset.pkg.die.get 1 = .wiping ∧ 2 ≤ laneCount (State.reset.xlkLanes 1) ∧
      noLanes.pkg.die.get 1 = .wiping ∧ laneCount (noLanes.xlkLanes 1) < 2) ∧
    (leadUp.pkg.die.get 1 = .boot ∧ leadUp.pkg.die.get 0 = .running ∧ 2 ≤ laneCount (leadUp.xlkLanes 1) ∧ leadUp.leadRuns = true ∧
      leadUp.rd 0 F.TSU_GRID = 0 ∧ leadUp.on pkgDie F.PKG_DIES_LEAD_OK = true ∧ leadUp.dieUsed 1 = true ∧
      leadUp.lcs.reported.get 1 = true ∧ leadUp.lcs.mismatches.get 1 = 0 ∧ leadUp.pkg.die.get 2 ≠ .wiping) ∧
    (∀ c, c < 6 → reportOf (leadUp.image 1 leadUp.measBank c) = reportOf (leadUp.image 0 leadUp.measBank c)) ∧
    (hotDie.pkg.die.get 0 = .thermal ∧
      (∀ k : Fin 4, sens ((Vector.replicate 4 (0 : BitVec 16)).get k) < hotDie.thmLevel 0 2 - hotDie.thmHyst 0 2) ∧
      (hotDie.lsw.get 0).downs.length < 3 ∧ 3 ≤ (hotThird.lsw.get 0).downs.length ∧ hotThird.pkg.die.get 0 = .thermal) := by
  refine ⟨by decide, by decide, by decide, fun c _ => rfl, by decide⟩

/-- SetChoice: a lead die in boot, before and after its meter's start; a die that is not in boot. -/
theorem wit_SetChoice : bootMeter.pkg.die.get 0 = .boot ∧ bootMeter.pkg.booted = false ∧ bootMeter.lifeState ≠ 4 ∧
    bootMeter.meter.running = true ∧ bootMeter.faults.chipRetired = false ∧
    (bootOnly.pkg.die.get 0 = .boot ∧ bootOnly.pkg.booted = false ∧ bootOnly.lifeState ≠ 4 ∧
      bootOnly.meter.running = false) ∧ State.reset.pkg.die.get 0 ≠ .boot := by decide

/-- TrialAndStaging: a running set on trial; requesters of both kinds; a check under way; a slot with a blob. -/
theorem wit_TrialAndStaging : (leadUp.wr 0 F.LCS_BOOT_TRIAL 1).on 0 F.LCS_BOOT_TRIAL = true ∧
    (leadUp.wr 0 F.LCS_BOOT_TRIAL 1).leadRuns = true ∧ (leadUp.wr 0 F.LCS_BOOT_TRIAL 1).lcs.restart = none ∧
    leadMachine appLead = true ∧ leadMachine appUser = false ∧
    ({ leadUp with lcs := { leadUp.lcs with checking := [0] } }).lcs.checking ≠ [] ∧ leadUp.pkg.booted = true ∧
    (blobState.pkg.booted = true ∧ blobState.pkg.fresh = false ∧ blobState.keys.root.isSome = true ∧
      (blobOf blobState.keys.current 20).isSome = true ∧ blobOf blobState.keys.pend 20 = none) := by decide

/-- GateRefusals: a readable row in each refusal: an unauthenticated critical command; a locked role; a role without a key, whose
tag fails; a wrong length; a command turned away in RETIRED. -/
theorem wit_GateRefusals :
    (let s := asked 0x0501 3 false [0, 0] [1]
     s.waiting 0 = true ∧ (s.envelope 0).code = 0x0501 ∧ s.notPermitted (s.envelope 0) = true) ∧
    (let s := (asked 0x0501 3 true [1, 0] [1]).setBit 0 F.SMW_LOCKOUT_LOCKED 2
     s.waiting 0 = true ∧ (s.envelope 0).code = 0x0501 ∧ s.notPermitted (s.envelope 0) = false ∧ s.gateLocked (s.envelope 0) = true) ∧
    (let s := asked 0x0201 2 true [1, 0] [1]
     s.gateLocked (s.envelope 0) = false ∧ (s.envelope 0).auth = true ∧ s.slotKey (slotOfRole (roleIdx 2)) = none) ∧
    (let s := asked 0x0001 0 false [0, 0] [7]
     s.waiting 0 = true ∧ (s.envelope 0).code = 0x0001 ∧ (s.gateCheck (s.envelope 0)).1 = 0 ∧
      (!(s.envelope 0).params.isEmpty) = true) ∧
    (let s := (asked 0x0010 0 false [0, 0] []).wr 0 F.LCS_STATE_STATE 4
     (s.gateCheck (s.envelope 0)).1 = 0 ∧ s.formOk (s.envelope 0) = true ∧
      (s.turnedAway (s.envelope 0)).isSome = true) := by decide

/-- GateRefusals: a replay, whatever AES-CMAC is: the tag of the envelope is right and its counter is 0. -/
theorem wit_GateRefusals_replay : ∃ s : State, s.waiting 0 = true ∧ (s.envelope 0).code = 0x0501 ∧
    s.notPermitted (s.envelope 0) = false ∧ s.gateLocked (s.envelope 0) = false ∧ (s.envelope 0).auth = true ∧
    s.tagOk (s.envelope 0) = true ∧ (s.envelope 0).counter ≤ s.lastCounter (roleIdx (s.envelope 0).role) :=
  ⟨sealed gateBase [9] (envWords 0x0501 3 true [0, 0] [1]) 0, rfl, rfl, rfl, rfl, rfl,
    tagOk_of (sealed gateBase [9] (envWords 0x0501 3 true [0, 0] [1]) 0) [9] _ 1 rfl rfl rfl (by decide) rfl rfl rfl, Nat.le_refl 0⟩

/-- GateExecutes: STATUS from a reader without authentication is admitted. -/
theorem wit_GateExecutes : (asked 0x0001 0 false [0, 0] []).admits 0 0x0001 (fun _ => true) (fun _ e => !e.params.isEmpty) = true := by
  decide

/-- GateExecutes: an authenticated activation is admitted, whatever AES-CMAC is. -/
theorem wit_GateExecutes_auth : ∃ s : State, s.admits 0 0x0501 (fun _ => true) (oneBad 2) = true :=
  ⟨sealed gateBase [9] (envWords 0x0501 3 true [1, 0] [1]) 0, admits_of _ _ _ _ _
    (passed_of (sealed gateBase [9] (envWords 0x0501 3 true [1, 0] [1]) 0) _ rfl rfl rfl rfl
    (tagOk_of (sealed gateBase [9] (envWords 0x0501 3 true [1, 0] [1]) 0) [9] _ 1 rfl rfl rfl (by decide) rfl rfl rfl) Nat.zero_lt_one) rfl rfl rfl rfl rfl rfl⟩

/-- StatusAndLogs: admitted reads of each kind, with a bulk slot free and with none. -/
theorem wit_StatusAndLogs :
    (asked 0x0002 0 false [0, 0] [0, 0]).admits 0 0x0002 (logMine 0) logBad = true ∧
    (asked 0x0002 0 false [0, 0] [0, 1]).admits 0 0x0002 (logMine 1) logBad = true ∧
    (asked 0x0002 0 false [0, 0] [0, 2]).admits 0 0x0002 (logMine 2) logBad = true ∧
    (asked 0x0002 0 false [0, 0] [0, 3]).admits 0 0x0002 (logMine 3) logBad = true ∧
    (asked 0x0002 0 false [0, 0] [0, 0]).nextBulk = none ∧
    ((asked 0x0002 0 false [0, 0] [0, 0]).setHeader 16 (mkHeader 3 0 0)).nextBulk = some 16 := by decide

/-- ImageStaging: an admitted begin, data without and with a staging and a submitted slot, and end. -/
theorem wit_ImageStaging :
    (asked 0x0010 0 false [0, 0] [1, 300]).admits 0 0x0010 (fun _ => true) beginBad = true ∧
    ((asked 0x0010 0 false [0, 0] [1, 300]).envelope 0).params.getD 0 0 = 1 ∧
    (asked 0x0011 0 false [0, 0] [16]).admits 0 0x0011 (fun _ => true) dataBad = true ∧
    (let s := staging1 ((asked 0x0011 0 false [0, 0] [16]).setHeader 16 (mkHeader 2 0 0))
     s.admits 0 0x0011 (fun _ => true) dataBad = true ∧ s.lcs.staging.isSome = true ∧ s.own 16 = 2 ∧
      ((s.envelope 0).params.getD 0 0).toNat = 16) ∧
    (let s := staging1 (asked 0x0012 0 false [0, 0] [])
     s.admits 0 0x0012 (fun _ => true) endBad = true ∧ s.lcs.staging = some { cls := 1, len := 0 }) ∧
    ((asked 0x0012 0 false [0, 0] []).admits 0 0x0012 (fun _ => true) endBad = true ∧
      (asked 0x0012 0 false [0, 0] []).lcs.staging = none) := by decide

/-- ActivationAndLifeCycle: authenticated envelopes that are admitted, whatever AES-CMAC is; nothing staged stands against the
activation, and PROVISIONED to MAINTENANCE of an idle unit has its condition. -/
theorem wit_ActivationAndLifeCycle :
    (∃ s : State, s.admits 0 0x0501 (fun _ => true) (oneBad 2) = true ∧ (s.passed 0).activateWhy 1 ≠ none ∧
      ((s.envelope 0).params.getD 0 0).toNat = 1) ∧
    (∃ s : State, s.admits 0 0x0601 (fun _ => true) lifeBad = true ∧ (s.passed 0).lifeWhy (s.envelope 0) = none ∧
      ((s.envelope 0).params.getD 0 0).toNat = 3) := by
  refine ⟨⟨sealed gateBase [9] (envWords 0x0501 3 true [1, 0] [1]) 0, admits_of _ _ _ _ _
    (passed_of (sealed gateBase [9] (envWords 0x0501 3 true [1, 0] [1]) 0) _ rfl rfl rfl rfl
    (tagOk_of (sealed gateBase [9] (envWords 0x0501 3 true [1, 0] [1]) 0) [9] _ 1 rfl rfl rfl (by decide) rfl rfl rfl) Nat.zero_lt_one) rfl rfl rfl rfl rfl rfl, ?_, rfl⟩,
    ⟨sealed gateBase [10] (envWords 0x0601 4 true [1, 0] [3]) 0, admits_of _ _ _ _ _
    (passed_of (sealed gateBase [10] (envWords 0x0601 4 true [1, 0] [3]) 0) _ rfl rfl rfl rfl
    (tagOk_of (sealed gateBase [10] (envWords 0x0601 4 true [1, 0] [3]) 0) [10] _ 1 rfl rfl rfl (by decide) rfl rfl rfl) Nat.zero_lt_one) rfl rfl rfl rfl rfl rfl, ?_, rfl⟩⟩
  · unfold State.passed
    rw [passed_of (sealed gateBase [9] (envWords 0x0501 3 true [1, 0] [1]) 0) _ rfl rfl rfl rfl
    (tagOk_of (sealed gateBase [9] (envWords 0x0501 3 true [1, 0] [1]) 0) [9] _ 1 rfl rfl rfl (by decide) rfl rfl rfl) Nat.zero_lt_one]
    exact Option.some_ne_none _
  · unfold State.passed
    rw [passed_of (sealed gateBase [10] (envWords 0x0601 4 true [1, 0] [3]) 0) _ rfl rfl rfl rfl
    (tagOk_of (sealed gateBase [10] (envWords 0x0601 4 true [1, 0] [3]) 0) [10] _ 1 rfl rfl rfl (by decide) rfl rfl rfl) Nat.zero_lt_one]
    rfl

/-- RolesAndRetirement: admitted commands of SERVICE, whatever AES-CMAC is, on a SOLO unit without a link, and a retirement that
is allowed. -/
theorem wit_RolesAndRetirement :
    (∃ s : State, s.admits 0 0x0701 (oneMine 4 0) (oneBad 4) = true ∧ s.plannedOk = false) ∧
    (∃ s : State, s.admits 0 0x0701 (oneMine 4 1) (oneBad 4) = true ∧ s.role ≠ 1) ∧
    (∃ s : State, s.admits 0 0x0701 (oneMine 4 2) (oneBad 4) = true ∧ s.role ≠ 3) ∧
    (∃ s : State, s.admits 0 0x0701 (oneMine 4 3) (oneBad 4) = true ∧ s.role = 0 ∧ s.linkUp = false) ∧
    (∃ s : State, elemOf (s.envelope 0) = some (0, 1, 0x11, 3) ∧ s.admits 0 0x0801 (fun _ => true) retireBad = true ∧
      s.retireWhy 0 1 0x11 3 = 0) ∧
    (∃ s : State, elemOf (s.envelope 0) = some (0, 1, 0x11, 3) ∧ s.admits 0 0x0802 (fun _ => true) reinstateBad = true ∧
      s.isRetired 0 1 0x11 3 = true ∧ s.reinstateWhy 0 1 0x11 3 = 0) := by
  refine ⟨⟨sealed gateBase [10] (envWords 0x0701 4 true [1, 0] [0]) 0, admits_of _ _ _ _ _
      (passed_of (sealed gateBase [10] (envWords 0x0701 4 true [1, 0] [0]) 0) _ rfl rfl rfl rfl
        (tagOk_of (sealed gateBase [10] (envWords 0x0701 4 true [1, 0] [0]) 0) [10] (envWords 0x0701 4 true [1, 0] [0]) 1 rfl rfl rfl (by decide) rfl rfl rfl) Nat.zero_lt_one) rfl rfl rfl rfl rfl rfl, rfl⟩,
    ⟨sealed gateBase [10] (envWords 0x0701 4 true [1, 0] [1]) 0, admits_of _ _ _ _ _
      (passed_of (sealed gateBase [10] (envWords 0x0701 4 true [1, 0] [1]) 0) _ rfl rfl rfl rfl
        (tagOk_of (sealed gateBase [10] (envWords 0x0701 4 true [1, 0] [1]) 0) [10] (envWords 0x0701 4 true [1, 0] [1]) 1 rfl rfl rfl (by decide) rfl rfl rfl) Nat.zero_lt_one) rfl rfl rfl rfl rfl rfl, ?_⟩,
    ⟨sealed gateBase [10] (envWords 0x0701 4 true [1, 0] [2]) 0, admits_of _ _ _ _ _
      (passed_of (sealed gateBase [10] (envWords 0x0701 4 true [1, 0] [2]) 0) _ rfl rfl rfl rfl
        (tagOk_of (sealed gateBase [10] (envWords 0x0701 4 true [1, 0] [2]) 0) [10] (envWords 0x0701 4 true [1, 0] [2]) 1 rfl rfl rfl (by decide) rfl rfl rfl) Nat.zero_lt_one) rfl rfl rfl rfl rfl rfl, ?_⟩,
    ⟨sealed gateBase [10] (envWords 0x0701 4 true [1, 0] [3]) 0, admits_of _ _ _ _ _
      (passed_of (sealed gateBase [10] (envWords 0x0701 4 true [1, 0] [3]) 0) _ rfl rfl rfl rfl
        (tagOk_of (sealed gateBase [10] (envWords 0x0701 4 true [1, 0] [3]) 0) [10] (envWords 0x0701 4 true [1, 0] [3]) 1 rfl rfl rfl (by decide) rfl rfl rfl) Nat.zero_lt_one) rfl rfl rfl rfl rfl rfl, rfl, rfl⟩,
    ⟨sealed gateBase [10] (envWords 0x0801 4 true [1, 0] [1, 0x11, 3]) 0, rfl, admits_of _ _ _ _ _
      (passed_of (sealed gateBase [10] (envWords 0x0801 4 true [1, 0] [1, 0x11, 3]) 0) _ rfl rfl rfl rfl
        (tagOk_of (sealed gateBase [10] (envWords 0x0801 4 true [1, 0] [1, 0x11, 3]) 0) [10] (envWords 0x0801 4 true [1, 0] [1, 0x11, 3]) 3 rfl rfl rfl (by decide) rfl rfl rfl) Nat.zero_lt_one) rfl rfl rfl rfl rfl rfl, rfl⟩,
    ⟨sealed retBase [10] (envWords 0x0802 4 true [1, 0] [1, 0x11, 3]) 0, rfl, admits_of _ _ _ _ _
      (passed_of (sealed retBase [10] (envWords 0x0802 4 true [1, 0] [1, 0x11, 3]) 0) _ rfl rfl rfl rfl
        (tagOk_of (sealed retBase [10] (envWords 0x0802 4 true [1, 0] [1, 0x11, 3]) 0) [10] (envWords 0x0802 4 true [1, 0] [1, 0x11, 3]) 3 rfl rfl rfl (by decide) rfl rfl rfl) Nat.zero_lt_one) rfl rfl rfl rfl rfl rfl, rfl, rfl⟩⟩
  · show (0 : Nat) ≠ 1; decide
  · show (0 : Nat) ≠ 3; decide

/-- RolesAndRetirement: the conditions of the active and the held unit's clauses. -/
theorem wit_RolesAndRetirement_roles :
    (∃ s : State, s.admits 0 0x0701 (oneMine 4 1) (oneBad 4) = true ∧ s.role = 1 ∧ s.linkUp = false) ∧
    (∃ s : State, s.admits 0 0x0701 (oneMine 4 2) (oneBad 4) = true ∧ s.role = 3 ∧ s.lifeState ≠ 3 ∧ s.hold = false) := by
  refine ⟨⟨sealed (gateBase.wr 0 F.TWN_STAT_ROLE 1) [10] (envWords 0x0701 4 true [1, 0] [1]) 0, admits_of _ _ _ _ _
      (passed_of (sealed (gateBase.wr 0 F.TWN_STAT_ROLE 1) [10] (envWords 0x0701 4 true [1, 0] [1]) 0) _ rfl rfl rfl rfl
        (tagOk_of (sealed (gateBase.wr 0 F.TWN_STAT_ROLE 1) [10] (envWords 0x0701 4 true [1, 0] [1]) 0) [10] (envWords 0x0701 4 true [1, 0] [1]) 1 rfl rfl rfl (by decide) rfl rfl rfl) Nat.zero_lt_one) rfl rfl rfl rfl rfl rfl, rfl, rfl⟩,
    ⟨sealed (gateBase.wr 0 F.TWN_STAT_ROLE 3) [10] (envWords 0x0701 4 true [1, 0] [2]) 0, admits_of _ _ _ _ _
      (passed_of (sealed (gateBase.wr 0 F.TWN_STAT_ROLE 3) [10] (envWords 0x0701 4 true [1, 0] [2]) 0) _ rfl rfl rfl rfl
        (tagOk_of (sealed (gateBase.wr 0 F.TWN_STAT_ROLE 3) [10] (envWords 0x0701 4 true [1, 0] [2]) 0) [10] (envWords 0x0701 4 true [1, 0] [2]) 1 rfl rfl rfl (by decide) rfl rfl rfl) Nat.zero_lt_one) rfl rfl rfl rfl rfl rfl, rfl, ?_, rfl⟩⟩
  show (2 : Nat) ≠ 3; decide

/-- SafetyPasswords: both commands with a string of eight bytes, of a die that holds no password, one whose password it is, and
a die in reset; whatever AES-CMAC and SHA-256 are. -/
theorem wit_SafetyPasswords :
    (∃ s : State, s.opens 0 0x0101 = true ∧ s.targetDie (s.envelope 0) = some 0 ∧
      takeString (s.envelope 0).params = some (List.replicate 8 1, []) ∧ s.passwordOk 0 (List.replicate 8 1) = false) ∧
    (∃ s : State, s.opens 0 0x0101 = true ∧ s.targetDie (s.envelope 0) = some 0 ∧
      takeString (s.envelope 0).params = some (List.replicate 8 1, []) ∧ s.pkg.die.get 0 = .running ∧
      s.passwordOk 0 (List.replicate 8 1) = true ∧ (s.saf.get 0).stored = some pwCfg) ∧
    (∃ s : State, s.opens 0 0x0102 = true ∧ s.targetDie (s.envelope 0) = some 0 ∧
      takeString (s.envelope 0).params = some (List.replicate 8 1, [8, 0x02020202, 0x02020202]) ∧
      s.pkg.die.get 0 = .running ∧ s.passwordOk 0 (List.replicate 8 1) = true ∧
      takeString [8, 0x02020202, 0x02020202] = some (List.replicate 8 2, []) ∧ (s.saf.get 0).stored = some pwCfg) ∧
    (∃ s : State, s.opens 0 0x0102 = true ∧ s.targetDie (s.envelope 0) = some 0 ∧
      takeString (s.envelope 0).params = some (List.replicate 8 1, [8, 0x02020202, 0x02020202]) ∧
      s.pkg.die.get 0 ≠ .running ∧ s.passwordOk 0 (List.replicate 8 1) = true ∧ (s.saf.get 0).stored = some pwCfg) := by
  refine ⟨⟨sealed gateBase [10] (envWords 0x0101 4 true [1, 0] [8, 0x01010101, 0x01010101]) 0, opens_of _ _ _
      (passed_of (sealed gateBase [10] (envWords 0x0101 4 true [1, 0] [8, 0x01010101, 0x01010101]) 0) _ rfl rfl rfl rfl
        (tagOk_of (sealed gateBase [10] (envWords 0x0101 4 true [1, 0] [8, 0x01010101, 0x01010101]) 0) [10] (envWords 0x0101 4 true [1, 0] [8, 0x01010101, 0x01010101]) 3 rfl rfl rfl (by decide) rfl rfl rfl) Nat.zero_lt_one) rfl rfl rfl rfl, rfl, rfl, rfl⟩,
    ⟨sealed pwBase [10] (envWords 0x0101 4 true [1, 0] [8, 0x01010101, 0x01010101]) 0, opens_of _ _ _
      (passed_of (sealed pwBase [10] (envWords 0x0101 4 true [1, 0] [8, 0x01010101, 0x01010101]) 0) _ rfl rfl rfl rfl
        (tagOk_of (sealed pwBase [10] (envWords 0x0101 4 true [1, 0] [8, 0x01010101, 0x01010101]) 0) [10] (envWords 0x0101 4 true [1, 0] [8, 0x01010101, 0x01010101]) 3 rfl rfl rfl (by decide) rfl rfl rfl) Nat.zero_lt_one) rfl rfl rfl rfl, rfl, rfl, rfl, ?_, rfl⟩,
    ⟨sealed pwBase [10] (envWords 0x0102 4 true [1, 0] [8, 0x01010101, 0x01010101, 8, 0x02020202, 0x02020202]) 0, opens_of _ _ _
      (passed_of (sealed pwBase [10] (envWords 0x0102 4 true [1, 0] [8, 0x01010101, 0x01010101, 8, 0x02020202, 0x02020202]) 0) _ rfl rfl rfl rfl
        (tagOk_of (sealed pwBase [10] (envWords 0x0102 4 true [1, 0] [8, 0x01010101, 0x01010101, 8, 0x02020202, 0x02020202]) 0) [10] (envWords 0x0102 4 true [1, 0] [8, 0x01010101, 0x01010101, 8, 0x02020202, 0x02020202]) 6 rfl rfl rfl (by decide) rfl rfl rfl) Nat.zero_lt_one) rfl rfl rfl rfl, rfl, rfl, rfl, ?_, rfl, rfl⟩,
    ⟨sealed pwHot [10] (envWords 0x0102 4 true [1, 0] [8, 0x01010101, 0x01010101, 8, 0x02020202, 0x02020202]) 0, opens_of _ _ _
      (passed_of (sealed pwHot [10] (envWords 0x0102 4 true [1, 0] [8, 0x01010101, 0x01010101, 8, 0x02020202, 0x02020202]) 0) _ rfl rfl rfl rfl
        (tagOk_of (sealed pwHot [10] (envWords 0x0102 4 true [1, 0] [8, 0x01010101, 0x01010101, 8, 0x02020202, 0x02020202]) 0) [10] (envWords 0x0102 4 true [1, 0] [8, 0x01010101, 0x01010101, 8, 0x02020202, 0x02020202]) 6 rfl rfl rfl (by decide) rfl rfl rfl) Nat.zero_lt_one) rfl rfl rfl rfl, rfl, rfl, ?_, ?_, rfl⟩⟩
  · exact decide_eq_true rfl
  · exact decide_eq_true rfl
  · show DieRun.boot ≠ DieRun.running; decide
  · exact decide_eq_true rfl

set_option maxRecDepth 20000 in
/-- MeterCommands: commands of BILLING, whatever AES-CMAC is: a valid and an invalid parameter, a calendar image, and the calendar
commands without and with a passive calendar. -/
theorem wit_MeterCommands :
    (∃ s : State, s.opens 0 0x0201 = true ∧ (s.envelope 0).params ≠ [] ∧ s.paramWhy 5 0 [100] = 0 ∧
      ((s.envelope 0).params.getD 0 0).toNat = 5) ∧
    (∃ s : State, s.opens 0 0x0201 = true ∧ (s.envelope 0).params ≠ [] ∧ s.paramWhy 9 0 [100] ≠ 0 ∧
      ((s.envelope 0).params.getD 0 0).toNat = 9) ∧
    (∃ s : State, s.opens 0 0x0401 = true ∧ (s.envelope 0).params.length = 220 ∧ s.meter.running = true) ∧
    (∃ s : State, s.admits 0 0x0402 (oneMine 2 0) (oneBad 2) = true ∧ s.meter.passive = none) ∧
    (∃ s : State, s.admits 0 0x0402 (oneMine 2 1) (oneBad 2) = true ∧ s.meter.passive.isSome = true) := by
  refine ⟨⟨sealed siteBase [11] (envWords 0x0201 2 true [1, 0] [5, 100]) 0, opens_of _ _ _
      (passed_of (sealed siteBase [11] (envWords 0x0201 2 true [1, 0] [5, 100]) 0) _ rfl rfl rfl rfl
        (tagOk_of (sealed siteBase [11] (envWords 0x0201 2 true [1, 0] [5, 100]) 0) [11] (envWords 0x0201 2 true [1, 0] [5, 100]) 2 rfl rfl rfl (by decide) rfl rfl rfl) Nat.zero_lt_one) rfl rfl rfl rfl, ?_, rfl, rfl⟩,
    ⟨sealed siteBase [11] (envWords 0x0201 2 true [1, 0] [9, 100]) 0, opens_of _ _ _
      (passed_of (sealed siteBase [11] (envWords 0x0201 2 true [1, 0] [9, 100]) 0) _ rfl rfl rfl rfl
        (tagOk_of (sealed siteBase [11] (envWords 0x0201 2 true [1, 0] [9, 100]) 0) [11] (envWords 0x0201 2 true [1, 0] [9, 100]) 2 rfl rfl rfl (by decide) rfl rfl rfl) Nat.zero_lt_one) rfl rfl rfl rfl, ?_, ?_, rfl⟩,
    ⟨sealed siteBase [11] (envWordsZ 0x0401 2 220) 220, opens_of _ _ _
      (passed_of (sealed siteBase [11] (envWordsZ 0x0401 2 220) 220) _ rfl rfl rfl rfl
        (tagOk_of (sealed siteBase [11] (envWordsZ 0x0401 2 220) 220) [11] (envWordsZ 0x0401 2 220 ++ List.replicate 220 0) 220 rfl rfl rfl (by decide) rfl rfl rfl) Nat.zero_lt_one) rfl rfl rfl rfl, rfl, rfl⟩,
    ⟨sealed siteBase [11] (envWords 0x0402 2 true [1, 0] [0]) 0, admits_of _ _ _ _ _
      (passed_of (sealed siteBase [11] (envWords 0x0402 2 true [1, 0] [0]) 0) _ rfl rfl rfl rfl
        (tagOk_of (sealed siteBase [11] (envWords 0x0402 2 true [1, 0] [0]) 0) [11] (envWords 0x0402 2 true [1, 0] [0]) 1 rfl rfl rfl (by decide) rfl rfl rfl) Nat.zero_lt_one) rfl rfl rfl rfl rfl rfl, rfl⟩,
    ⟨sealed calBase [11] (envWords 0x0402 2 true [1, 0] [1]) 0, admits_of _ _ _ _ _
      (passed_of (sealed calBase [11] (envWords 0x0402 2 true [1, 0] [1]) 0) _ rfl rfl rfl rfl
        (tagOk_of (sealed calBase [11] (envWords 0x0402 2 true [1, 0] [1]) 0) [11] (envWords 0x0402 2 true [1, 0] [1]) 1 rfl rfl rfl (by decide) rfl rfl rfl) Nat.zero_lt_one) rfl rfl rfl rfl rfl rfl, rfl⟩⟩
  · show [(5 : Word), 100] ≠ []; decide
  · show [(9 : Word), 100] ≠ []; decide
  · show (4 : Nat) ≠ 0; decide

/-- MeterCommands: a time two days after the epoch of 1970 on a free-running and on a disciplined clock, and a time near it. -/
theorem wit_MeterCommands_time :
    (∃ s : State, s.opens 0 0x0301 = true ∧ (s.envelope 0).params.length = 2 ∧
      20000000000 < (Int.ofNat (num64 (s.envelope 0).params) - s.tai 0).natAbs ∧ 1 < s.timeSrc) ∧
    (∃ s : State, s.opens 0 0x0301 = true ∧ (s.envelope 0).params.length = 2 ∧
      20000000000 < (Int.ofNat (num64 (s.envelope 0).params) - s.tai 0).natAbs ∧ s.timeSrc ≤ 1) ∧
    (∃ s : State, s.opens 0 0x0301 = true ∧ (s.envelope 0).params.length = 2 ∧
      (Int.ofNat (num64 (s.envelope 0).params) - s.tai 0).natAbs ≤ 20000000000 ∧ s.timeSrc ≠ 3) := by
  refine ⟨⟨sealed (siteBase.wr 0 F.TSU_STAT_SRC 4) [11] (envWords 0x0301 2 true [1, 0] [0, 40000]) 0, opens_of _ _ _
      (passed_of (sealed (siteBase.wr 0 F.TSU_STAT_SRC 4) [11] (envWords 0x0301 2 true [1, 0] [0, 40000]) 0) _ rfl rfl rfl rfl
        (tagOk_of (sealed (siteBase.wr 0 F.TSU_STAT_SRC 4) [11] (envWords 0x0301 2 true [1, 0] [0, 40000]) 0) [11] (envWords 0x0301 2 true [1, 0] [0, 40000]) 2 rfl rfl rfl (by decide) rfl rfl rfl) Nat.zero_lt_one) rfl rfl rfl rfl, rfl, ?_, ?_⟩,
    ⟨sealed (siteBase.wr 0 F.TSU_STAT_SRC 1) [11] (envWords 0x0301 2 true [1, 0] [0, 40000]) 0, opens_of _ _ _
      (passed_of (sealed (siteBase.wr 0 F.TSU_STAT_SRC 1) [11] (envWords 0x0301 2 true [1, 0] [0, 40000]) 0) _ rfl rfl rfl rfl
        (tagOk_of (sealed (siteBase.wr 0 F.TSU_STAT_SRC 1) [11] (envWords 0x0301 2 true [1, 0] [0, 40000]) 0) [11] (envWords 0x0301 2 true [1, 0] [0, 40000]) 2 rfl rfl rfl (by decide) rfl rfl rfl) Nat.zero_lt_one) rfl rfl rfl rfl, rfl, ?_, ?_⟩,
    ⟨sealed (siteBase.wr 0 F.TSU_STAT_SRC 1) [11] (envWords 0x0301 2 true [1, 0] [5, 0]) 0, opens_of _ _ _
      (passed_of (sealed (siteBase.wr 0 F.TSU_STAT_SRC 1) [11] (envWords 0x0301 2 true [1, 0] [5, 0]) 0) _ rfl rfl rfl rfl
        (tagOk_of (sealed (siteBase.wr 0 F.TSU_STAT_SRC 1) [11] (envWords 0x0301 2 true [1, 0] [5, 0]) 0) [11] (envWords 0x0301 2 true [1, 0] [5, 0]) 2 rfl rfl rfl (by decide) rfl rfl rfl) Nat.zero_lt_one) rfl rfl rfl rfl, rfl, ?_, ?_⟩⟩
  · show (20000000000 : Nat) < (Int.ofNat 171798691840000 - Int.ofNat 0).natAbs; decide
  · show (1 : Nat) < 4; decide
  · show (20000000000 : Nat) < (Int.ofNat 171798691840000 - Int.ofNat 0).natAbs; decide
  · show (1 : Nat) ≤ 1; decide
  · show (Int.ofNat 5 - Int.ofNat 0).natAbs ≤ 20000000000; decide
  · show (1 : Nat) ≠ 3; decide

set_option maxRecDepth 20000 in
/-- MeterMailbox: requests of a reader and of PUBLIC, whatever AES-CMAC is, with the mailbox free and taken; a waiting reply. -/
theorem wit_MeterMailbox :
    (∃ s : State, s.admits 0 0x4005 (fun _ => true) (fun _ v => decide (1 < v.params.length)) = true ∧ s.own 8 = 3 ∧ s.own 9 = 3 ∧
      s.gate.meterSlot = none) ∧
    (let s := asked 0x4005 0 false [0, 0] []
     s.waiting 0 = true ∧ (s.envelope 0).code = 0x4005 ∧ (s.envelope 0).role < 1) ∧
    (∃ s : State, s.admits 0 0x4005 (fun _ => true) (fun _ v => decide (1 < v.params.length)) = true ∧ s.own 8 ≠ 3) ∧
    (∃ s : State, s.admits 0 0x4003 (fun _ => true) (fun _ v => v.params.length != 3 || decide (1 < (v.params.getD 0 0).toNat)) = true ∧
      s.own 8 = 3 ∧ s.own 9 = 3 ∧ s.gate.meterSlot = none ∧ s.meter.restoring = false) ∧
    (let s := freeBoxes (asked 0x4001 0 false [0, 0] [])
     s.admits 0 0x4001 (fun _ => true) (fun _ _ => false) = true ∧ s.own 8 = 3 ∧ s.own 9 = 3 ∧ s.gate.meterSlot = none) ∧
    (let s := freeBoxes ((asked 0x4001 0 false [0, 0] []).wr 0 F.TWN_STAT_ROLE 2)
     s.admits 0 0x4001 (fun _ => true) (fun _ _ => false) = true ∧ s.own 8 = 3 ∧ s.own 9 = 3 ∧ s.gate.meterSlot = none ∧
      s.standing = true ∧ changes { op := .set [], obj := .clock, attr := 2, counter := 0 } = true) ∧
    (mailWait.gate.meterSlot = some 0 ∧ mailWait.own 9 = 3 ∧ mailWait.own 8 = 2 ∧ mailWait.own 0 = 2) ∧
    State.reset.gate.meterSlot = none := by
  refine ⟨⟨sealedBox [12] (envWords 0x4005 1 true [1, 0] []), admits_of _ _ _ _ _
      (passed_of (sealedBox [12] (envWords 0x4005 1 true [1, 0] [])) _ rfl rfl rfl rfl
        (tagOk_of (sealedBox [12] (envWords 0x4005 1 true [1, 0] [])) [12] (envWords 0x4005 1 true [1, 0] []) 0 rfl rfl rfl (by decide) rfl rfl rfl) Nat.zero_lt_one) rfl rfl rfl rfl rfl rfl, rfl, rfl, rfl⟩, by decide,
    ⟨sealed gateBase [12] (envWords 0x4005 1 true [1, 0] []) 0, admits_of _ _ _ _ _
      (passed_of (sealed gateBase [12] (envWords 0x4005 1 true [1, 0] []) 0) _ rfl rfl rfl rfl
        (tagOk_of (sealed gateBase [12] (envWords 0x4005 1 true [1, 0] []) 0) [12] (envWords 0x4005 1 true [1, 0] []) 0 rfl rfl rfl (by decide) rfl rfl rfl) Nat.zero_lt_one) rfl rfl rfl rfl rfl rfl, ?_⟩,
    ⟨sealedBox [12] (envWords 0x4003 1 true [1, 0] [0, 0, 0]), admits_of _ _ _ _ _
      (passed_of (sealedBox [12] (envWords 0x4003 1 true [1, 0] [0, 0, 0])) _ rfl rfl rfl rfl
        (tagOk_of (sealedBox [12] (envWords 0x4003 1 true [1, 0] [0, 0, 0])) [12] (envWords 0x4003 1 true [1, 0] [0, 0, 0]) 3 rfl rfl rfl (by decide) rfl rfl rfl) Nat.zero_lt_one) rfl rfl rfl rfl rfl rfl, rfl, rfl, rfl, rfl⟩, by decide, by decide, by decide, rfl⟩
  show (0 : Nat) ≠ 3; decide

/-- XlinkWords: a trained link of die 1; a message waiting on die 1 for the running lead die. -/
theorem wit_XlinkWords : xlkBase.xlkUp 1 = true ∧ State.reset.xlkUp 1 = false ∧
    (xlkBase.oxe.get 1).sendq.find? (fun m => m.dst == (0 : Fin 8).val) = some ⟨0, 5, 77⟩ ∧ (xlkBase.wr 1 F.XLK_CTRL_EN 0).xlkUp 1 = false ∧
    xlkBase.pkg.die.get 0 = .running ∧ xlkBase.isRetired 1 1 0x14 3 = false ∧ xlkBase.isRetired 0 1 0x21 3 = false := by decide

/-- FaultResets: resets due and not due; running dies and dies in the wipe. -/
theorem wit_FaultResets :
    (let s : State := { State.reset with faults := { State.reset.faults with regionDue := Vector.replicate 8 true, chipDue := true } }
     s.faults.regionDue.get 1 = true ∧ s.faults.chipDue = true) ∧
    State.reset.faults.regionDue.get 1 = false ∧ State.reset.faults.chipDue = false ∧
    (let s : State := { State.reset with pkg := { State.reset.pkg with die := Vector.replicate 8 .running } }
     s.pkg.die.get 1 = .running ∧ s.pkg.die.get 0 = .running ∧ s.isRetired 1 3 0 0 = false) ∧ State.reset.pkg.die.get 1 ≠ .running := by decide

/-- TwinLinkAndHeartbeats: a unit before and after training, as standby and as active; a peer of either strap. -/
theorem wit_TwinLinkAndHeartbeats :
    (twinOff.on 0 F.TWN_CTRL_EN = true ∧ twinOff.linkUp = false ∧ (twinOff.slotKey 1).isSome = true ∧
      hello.keyConfirmed = true ∧ hello.strapB ≠ twinOff.on 0 F.TWN_STAT_UNIT ∧ twinOff.role = 0 ∧ twinOff.twin.starting = false ∧
      hello.starting = true ∧ twinOff.on 0 F.TWN_STAT_CLAIM_OWN = false ∧
      ({ hello with strapB := false }).strapB = twinOff.on 0 F.TWN_STAT_UNIT) ∧
    (let s : State := { twinOff with twin := { twinOff.twin with starting := true } }
     s.linkUp = false ∧ s.twin.starting = true) ∧
    ((twinRole 1).linkUp = true ∧ (twinRole 1).on 0 F.TWN_RESYNC_BUSY = false ∧ (twinRole 1).role = 1) ∧
    ((twinRole 2).role = 2 ∧ (twinRole 2).twin.detect = 0 ∧
      ((twinRole 2).wr 0 F.TWN_STAT_CLAIM_PEER 1).on 0 F.TWN_STAT_CLAIM_PEER = true) := by decide

/-- AntlerClaims: an active unit, a claim raised beside the peer's by either unit, and a unit whose cells hold. -/
theorem wit_AntlerClaims :
    ((twinRole 1).wr 0 F.TWN_STAT_CLAIM_OWN 1).on 0 F.TWN_STAT_CLAIM_OWN = true ∧
    (let s := ((twinRole 1).wr 0 F.TWN_STAT_CLAIM_OWN 1).wr 0 F.TWN_STAT_CLAIM_PEER 1
     s.on 0 F.TWN_STAT_CLAIM_OWN = true ∧ s.outEn = false ∧ s.on 0 F.TWN_STAT_CLAIM_PEER = true ∧ s.on 0 F.TWN_STAT_UNIT = false ∧
      (s.wr 0 F.TWN_STAT_UNIT 1).on 0 F.TWN_STAT_UNIT = true) ∧
    (let s : State := { (twinRole 1).wr 0 F.TWN_STAT_CLAIM_OWN 1 with twin := { (twinRole 1).twin with enabling := true } }
     s.twin.enabling = true ∧ s.on 0 F.TWN_STAT_CLAIM_OWN = true ∧ s.on 0 F.TWN_STAT_CLAIM_PEER = false) ∧
    (let s : State := { (twinRole 2).wr 0 F.TWN_STAT_CLAIM_PEER 1 with twin := { (twinRole 2).twin with latchHold := true } }
     s.twin.latchHold = true ∧ s.outEn = false ∧ s.on 0 F.TWN_STAT_CLAIM_PEER = true) ∧
    ((twinRole 1).wr 0 F.TWN_STAT_OUT_EN 1).outEn = true := by decide

/-- TakeoverAndRelease: standbys that have detected a loss, a held unit, an active unit that is to hand over or checks its links. -/
theorem wit_TakeoverAndRelease :
    (let s := twinDetect (twinRole 2) 1
     s.role = 2 ∧ s.twin.detect ≠ 0 ∧ s.on 0 F.TWN_STAT_CLAIM_PEER = false ∧ s.neverClaims = false ∧
      (s.wr 0 F.TWN_STAT_CLAIM_PEER 1).on 0 F.TWN_STAT_CLAIM_PEER = true ∧ (s.wr 0 F.LCS_STATE_STATE 3).neverClaims = true) ∧
    ((twinRole 3).role = 3 ∧ (twinRole 3).on 0 F.TWN_STAT_CLAIM_PEER = false ∧ (twinRole 3).neverClaims = false ∧
      (twinRole 3).leadRuns = true) ∧
    (let s : State := { twinRole 1 with twin := { (twinRole 1).twin with planned := 2 } }
     s.role = 1 ∧ s.twin.planned = 2) ∧
    (handOver.role = 1 ∧ handOver.on 0 F.TWN_CTRL_MAINS_HO = true ∧ handOver.on pkgDie F.PKG_PWR_MAINS_LOST = true ∧
      handOver.on 0 F.TWN_STAT_PEER_MAINS_LOST = false ∧ handOver.plannedOk = true) ∧
    (checkOne.twin.checking = true ∧ checkOne.outEn = true ∧ checkOne.dieUsed 0 = true ∧
      decide (checkOne.now - (checkOne.link 0 0).lastRx ≤ 30000) = true ∧ (checkOne.link 0 0).lastRx ≠ 0 ∧
      (∀ p : Fin 32, checkOne.on (Port.die p) F.STL_P_STAT_FOLLOWED (Port.loc p).val = false) ∧
      (checkOne.wr 0 F.STL_P_STAT_FOLLOWED 1 0).on 0 F.STL_P_STAT_FOLLOWED 0 = true) := by decide

/-- HandoverRecords: a standby with its link up; records that are bad, of another generation, and good; a resynchronisation in
step 3; a counter above and not above the last. -/
theorem wit_HandoverRecords :
    ((twinRole 2).linkUp = true ∧ (twinRole 2).role = 2 ∧ (twinRole 2).on 0 F.TWN_RESYNC_BUSY = false) ∧
    (record0.tagOk = true ∧ record0.rseq = (twinRole 2).twin.rseq + 1 ∧ record0.gen.toNat = (twinRole 2).rd 0 F.TWN_GEN_OWN) ∧
    ({ record0 with tagOk := false }).tagOk = false ∧
    (({ record0 with gen := 9 }).gen.toNat ≠ (twinRole 2).rd 0 F.TWN_GEN_OWN ∧
      ({ record0 with gen := 9 }).gen.toNat ≠ (twinRole 2).rd 0 F.TWN_GEN_ACC) ∧
    (let s := ((twinRole 3).wr 0 F.TWN_RESYNC_BUSY 1).wr 0 F.TWN_RESYNC_STEP 3
     s.on 0 F.TWN_RESYNC_BUSY = true ∧ s.rd 0 F.TWN_RESYNC_STEP = 3) ∧
    ((twinRole 2).keys.kcv.get (roleIdx (roleCode .reader)) = 0 ∧
      (twinRole 2).lastCounter (roleIdx (roleCode .reader)) < (5 : DWord).toNat) := by decide

/-- SequenceSets: sequencers stopped, starting, running and stopping; sets waiting, under check and pending; a refused stop. -/
theorem wit_SequenceSets :
    (adcPend.seqr 1 0).pend ≠ none ∧ (State.reset.seqr 1 0).pend = none ∧ (State.reset.seqr 1 0).checking = none ∧
    State.reset.rd 1 F.ADC_SQ_CFG_NENT 0 = 0 ∧
    (let s := (State.reset.wr 1 F.ADC_SQ_CFG_NENT 1 0).wr 1 F.ADC_SQ_CFG_PERIOD 1 0
     let s := s.setWord (fldAddr 1 F.ADC_SQ_ENT 0 0) 0x300
     0 < (s.shadowSet 1 0).period ∧ (s.shadowSet 1 0).period < roundLen (s.shadowSet 1 0)) ∧
    (adcCheck 2 3).seqr 1 0 = { (adcCheck 2 3).seqr 1 0 with checking := some (setOne, 2, 3) } ∧ (adcCheck 0 0).sqRuns 1 0 = true ∧
    (let s := adcRun .running
     (∃ k ∈ s.winPorts 1 0, (freeInh s).inhDriven (portOf 1 k) = false) ∧ (∀ k ∈ s.winPorts 1 0, s.inhDriven (portOf 1 k) = true) ∧
      (freeInh s).winPorts 1 0 = s.winPorts 1 0) ∧
    (let s := (adcRun .starting).wr 1 F.ADC_LANE_CAL_CORR_VALID 1 0
     (s.seqr 1 0).run = .starting ∧ (s.seqr 1 0).active ≠ none ∧ s.on 1 F.ADC_LANE_CAL_CORR_VALID (s.posLane 1 0) = true ∧
      (s.seqr 1 0).unserved = false ∧ (s.seqr 1 0).wait = false) ∧
    (∀ k : Fin 3, State.reset.on 1 F.ADC_LANE_CAL_RETIRED k = false) ∧ ((adcRun .running).seqr 1 0).relieve = false ∧
    ((adcRun .running).seqr 1 0).unserved = false ∧
    (((adcRun .running).updAdc 1 (fun a => { a with newPair := some (18, 0, 5, 9) })).adc.get 1).newPair = some (18, 0, 5, 9) ∧
    ((adcRun .starting).on 1 F.ADC_LANE_CAL_CORR_VALID ((adcRun .starting).posLane 1 0) = false) ∧
    ((adcRun .stopping).seqr 1 0).run = .stopping ∧ ((adcRun .running).seqr 1 0).run = .running := by decide

/-- ConversionsAndTrips: a running sequencer with an enabled cell and one that is not; an enabled window that every value leaves; enabled
comparators; window bits covered and not. -/
theorem wit_ConversionsAndTrips :
    (let s := ((adcLive.wr 1 F.ADC_TW_HIGH 0 18 0).wr 1 F.ADC_TW_LOW 1 18 0).wr 1 F.ADC_TWEN (2 ^ 18) 0 0
     (s.seqr 1 0).active = some setOne ∧ s.sqRuns 1 0 = true ∧ (s.seqr 1 0).unserved = false ∧
      (0 : Fin 16).val < setOne.ents.length ∧ 18 ∈ entryCells (setOne.ents.getD 0 0) setOne.scans ∧ s.cellExists 1 18 = true ∧
      s.on 1 F.ADC_CELL_EN 18 = true ∧ s.on 1 F.ADC_CELL_RETIRED 18 = false ∧ entDiag (setOne.ents.getD 0 0) = false ∧
      s.refAt 1 0 = true ∧ s.winOn 1 18 (entWin (setOne.ents.getD 0 0)) = true ∧
      s.rdI 1 F.ADC_TW_HIGH 18 (entWin (setOne.ents.getD 0 0)) = 0 ∧ s.rdI 1 F.ADC_TW_LOW 18 (entWin (setOne.ents.getD 0 0)) = 1 ∧
      s.winCovered 1 18 0 = true ∧
      s.winCovered 1 19 0 = false) ∧
    ¬(adcRun .running).on 1 F.ADC_CELL_EN 18 = true ∧
    (State.reset.wr 1 F.ADC_TC_EN 1 2).on 1 F.ADC_TC_EN 2 = true ∧ State.reset.on 1 F.ADC_TC_EN 2 = false ∧
    State.reset.cellExists 1 18 = true ∧ State.reset.cellExists 1 70 = false := by decide

/-- ReferenceAndCalibration: stopped and running sequencers, every refusal of a step and one taken, collections short, complete and
out of bounds. -/
theorem wit_ReferenceAndCalibration :
    (State.reset.wr 1 F.ADC_CTRL_LOCK 1).on 1 F.ADC_CTRL_LOCK = true ∧ State.reset.on 1 F.ADC_CTRL_LOCK = false ∧
    (adcRun .running).sqRuns 1 0 = true ∧ (adcRun .running).on 1 F.ADC_CTRL_LOCK = false ∧
    ((State.reset.seqr 1 0).run = .stopped ∧ (State.reset.seqr 1 1).run = .stopped ∧ (1 : Fin 4).val ≠ State.reset.rd 1 F.ADC_REF_SEL) ∧
    ((adcRun .running).wr 1 F.ADC_TWEN 1 0 0).winOn 1 0 0 = true ∧ (State.reset.wr 1 F.ADC_REF_SEL 1).rd 1 F.ADC_REF_SEL = 1 ∧
    State.reset.rd 1 F.ADC_REF_SEL ≠ 1 ∧
    (let s := adcRun .running
     (s.adc.get 1).coll = none ∧ s.cellExists 1 18 = true ∧ s.isMeterCell 1 18 = false ∧ s.convertedNow 1 18 0 = true ∧
      s.convertedNow 1 17 0 = false ∧ (s.adc.get 1).zero = none ∧ bitsOf (0x412 : Word).toNat 0 7 = 18 ∧
      bitsOf (0x412 : Word).toNat 10 2 = 1 ∧ bitsOf (0x812 : Word).toNat 10 2 = 2) ∧
    (let s := { State.reset with meter := { State.reset.meter with params := State.reset.meter.params.set 4 { State.reset.meter.params.get 4 with mapped := true } } }
     s.isMeterCell 1 (s.rd 1 F.ADC_MTRMAP_V_CELL 0) = true) ∧
    (let s := State.reset.updAdc 1 (fun a => { a with coll := some ⟨18, 0, 2, 256, 256 * 8192, 256, none, 0⟩ })
     (s.adc.get 1).coll ≠ none ∧ s.beside 1 = none ∧ (s.wr 1 F.ADC_ROT_STAT_PHASE 3).beside 1 ≠ none ∧
      ¬((rhuI (256 * 8192) 256 - 0 : Int).natAbs < 4096)) := by decide

/-- LaneRotation: lane 2 calibrates; every phase, running and stopped sequencers, pairs that agree, differ and are too few. -/
theorem wit_LaneRotation :
    (State.reset.wr 1 F.ADC_STAT_CAL_LANE 3).calLane 1 = none ∧ State.reset.calLane 1 = some 2 ∧ (lanePh 0).calLane 1 = some 2 ∧
    (∀ p ∈ [0, 1, 2, 3, 4, 5, 6, 7], (lanePh p).phase 1 = p ∧ (lanePh p).rd 1 F.ADC_ROT_STAT_ROUNDS = 64) ∧
    ((lanePh 0).laneOf 1 2).calBusy = false ∧ ((laneBusy 1).laneOf 1 2).calBusy = true ∧ ((laneBusy 1).adc.get 1).refOk = true ∧
    ((laneBusy 1).laneOf 1 2).doubt = false ∧ (laneBusy 5).phase 1 = 5 ∧ ((laneBusy 5).laneOf 1 2).calBusy = true ∧
    ((lanePh 0).adc.get 1).refOk = true ∧ (State.reset.adc.get 1).refOk = false ∧
    State.reset.on 1 F.ADC_LANE_CAL_RETIRED 2 = false ∧ corrPasses corrGood = true ∧
    corrPasses { corrGood with residual := [9] } = false ∧
    (lanePh 2).on 1 F.ADC_ROT_CFG_ROT_EN = true ∧ (lanePh 2).pickTarget 1 = some 0 ∧ (lanePh 2).sqRuns 1 0 = true ∧ (lanePh 2).target 1 = 0 ∧
    ((lanePh 2).updSq 1 0 (fun x => { x with run := .stopped })).pickTarget 1 = none ∧ ((lanePh 2).adc.get 1).rotDue = true ∧
    (lanePh 2).sqRuns 1 1 = false ∧ (lanePh 2).laneSet 1 2 ≠ none ∧ ((lanePh 2).adc.get 1).coll = none ∧ (lanePh 3).posLane 1 0 = 0 ∧
    (lanePh 3).pairsShort 1 = true ∧
    (let s := lanePairs 3 0
     s.pairsShort 1 = false ∧ s.pairsAgree 1 = true) ∧
    (let s := lanePairs 3 99999
     s.pairsShort 1 = false ∧ s.pairsAgree 1 = false) ∧
    (lanePh 4).on 1 F.ADC_ROT_LAST_AGREE = false ∧ ((lanePh 4).wr 1 F.ADC_ROT_LAST_AGREE 1).on 1 F.ADC_ROT_LAST_AGREE = true ∧
    (lanePh 2).on 1 F.ADC_LANE_CAL_RETIRED 0 = false ∧ State.reset.laneSet 1 2 = none ∧ ((lanePh 2).laneOf 1 2).fresh ≠ none ∧
    (((lanePh 2).updSq 1 0 (fun x => { x with unserved := true })).seqr 1 0).unserved = true := by decide

/-- OlcArithmetic: for every opcode a running context with a legal word of it, whose registers hold 7 and −3; an FSUM inside its
window and one outside; words that name accumulator 2. -/
theorem wit_OlcArithmetic :
    (∀ op ∈ [0x10, 0x11, 0x12, 0x13, 0x14, 0x15, 0x16, 0x17, 0x18, 0x19, 0x1A, 0x1B, 0x1C, 0x1D, 0x1E, 0x1F],
      (olcAt (olcWord op)).olcErrors 1 = [] ∧
        (olcAt (olcWord op)).olcReady 1 op = some (3, BitVec.ofNat 32 (olcWord op))) ∧
    (let s := olcAt (olcWord 0x1E)
     s.dataIdx 1 3 (0 : Nat) = some 4 ∧ s.dataIdx 1 3 (0 + 4 * 4 - 1 : Nat) ≠ none ∧
       (s.wr 1 F.OXE_CTX_DWIN_DSIZE 15 3).dataIdx 1 3 (0 + 4 * 4 - 1 : Nat) = none ∧
       (s.wr 1 F.OXE_CTX_DWIN_DSIZE 15 3).olcReady 1 0x1E = some (3, BitVec.ofNat 32 (olcWord 0x1E))) ∧
    (let w : Word := BitVec.ofNat 32 (0x1B * 2 ^ 26 + 2 * 2 ^ 22)
     olcOp w ∈ [0x09, 0x0B, 0x1B, 0x1C, 0x1E] ∧ 1 < (olcD w).val) ∧
    (let w : Word := BitVec.ofNat 32 (0x0A * 2 ^ 26 + 2 * 2 ^ 18)
     olcOp w = 0x0A ∧ 1 < (olcA w).val) := by decide

/-- OlcMovesAndControl: for every opcode a running context with a legal word of it; a broadcast and a message to itself on the
lead die; data words in and outside the window. -/
theorem wit_OlcMovesAndControl :
    (∀ op ∈ [0, 1, 2, 3, 4, 5, 6, 7, 8, 9, 0xA, 0xB, 0xC, 0xD, 0x20, 0x21, 0x22, 0x23, 0x24, 0x25],
      (olcAt (olcWord op)).olcErrors 1 = [] ∧
        (olcAt (olcWord op)).olcReady 1 op = some (3, BitVec.ofNat 32 (olcWord op))) ∧
    (olcAt 0).ldsExists 1 0 = true ∧ (olcAt 0).ldsExists 1 71 = false ∧
    bitOf (olcI (BitVec.ofNat 32 (olcWord 6))) 12 = false ∧ bitsOf (olcI (BitVec.ofNat 32 (olcWord 6))) 9 3 ≠ (1 : Fin 8).val ∧
    (let s := olcAt (olcWord 7)
     s.dataIdx 1 3 (s.dataOff 1 3 (BitVec.ofNat 32 (olcWord 7))) = some 4 ∧
     (s.wr 1 F.OXE_CTX_DWIN_DSIZE 0 3).dataIdx 1 3 (s.dataOff 1 3 (BitVec.ofNat 32 (olcWord 7))) = none) := by decide

theorem wit_OlcMovesAndControl_lead :
    (let w : Word := BitVec.ofNat 32 (6 * 2 ^ 26 + 4096)
     (olcOn 0 w.toNat).olcReady 0 6 = some (3, w) ∧ bitOf (olcI w) 12 = true ∧ (olcOn 0 w.toNat).present 0 = true) ∧
    (let w : Word := BitVec.ofNat 32 (6 * 2 ^ 26)
     (olcOn 0 w.toNat).olcReady 0 6 = some (3, w) ∧ bitOf (olcI w) 12 = false ∧ bitsOf (olcI w) 9 3 = 0) ∧
    (∀ k ∈ [0, 1, 2], let w : Word := BitVec.ofNat 32 (0xC * 2 ^ 26 + 4 * k)
      (olcAt w.toNat).olcReady 1 0xC = some (3, w) ∧ olcI w / 4 % 4 = k) := by decide

/-- OlcOutputsAndFlow: for every opcode a running context with a legal word of it, on a die whose port 0 it owns. -/
theorem wit_OlcOutputsAndFlow :
    (∀ op ∈ [0x28, 0x29, 0x2A, 0x2C, 0x2D, 0x2E, 0x30, 0x31, 0x32, 0x34, 0x35, 0x36, 0x37, 0x38, 0x39, 0x3A, 0x3B, 0x3C, 0x3F],
      (olcAt (olcWord op)).olcErrors 1 = [] ∧
        (olcAt (olcWord op)).olcReady 1 op = some (3, BitVec.ofNat 32 (olcWord op))) ∧
    State.reset.olcErrors 1 = [] ∧ State.reset.olcReady 1 0x3F = none ∧
    (let s := olcAt (olcWord 7)
     let s : State := { s with upsets := [(progKey 1 0, true)] }
     s.running 1 = some 3 ∧ (s.ctx 1 3).cyc ≤ s.rd 1 F.OXE_CTX_CFG_BUDGET 3 ∧ s.eccAt (progKey 1 0) = some true) ∧
    (∀ bad ∈ [false, true], let s := olcAt (olcWord 7)
     let s : State := { s with upsets := [(dataKey 1 4, bad)] }
     s.dataIdx 1 3 (s.dataOff 1 3 (BitVec.ofNat 32 (olcWord 7))) = some 4 ∧
      s.olcReady 1 7 = some (3, BitVec.ofNat 32 (olcWord 7)) ∧ s.eccAt (progKey 1 0) = none ∧ s.eccAt (dataKey 1 4) = some bad) ∧
    (let s := (((olcAt (olcWord 0x2D)).wr 1 F.STL_CTRL_EN 1).wr 0 F.TWN_STAT_ROLE 0).wr 1 F.STL_P_HALT_HALTED 0
     let s : State := { s.wr 1 F.OXE_PORT_OVR_ACTIVE 0 with twin := { s.twin with cut := false } }
     s.rd 1 F.OXE_PORT_CFG_OWNER 1 ≠ 3 ∧ (s.wr 1 F.OXE_PORT_CFG_OWNER 3 0).rd 1 F.OXE_PORT_CFG_OWNER 0 = 3 ∧
      s.on 1 F.OXE_PORT_OVR_ACTIVE 0 = false ∧ s.stlSends 1 0 = true ∧ (s.link 1 0).sending = none ∧ (s.link 1 0).gap = false) ∧
    (olcAt 0).on 1 (capFull ((olcAt 0).on 1 F.OXE_CAP_STAT_ACT)) = false := by decide

/-- EngineContexts: contexts idle, pending, running, preempted, waiting and faulted; engines stopped, in their CRC and running. -/
theorem wit_EngineContexts :
    (∀ st ∈ [1, 2, 3, 5, 6], (ctxAs st).ctxSt 1 3 = st ∧ ((ctxAs st).oxe.get 1).started = true ∧
      (ctxAs st).rd 1 F.OXE_CTX_TRIG_SRC 3 = (6 : Fin 8).val ∧
      0 < (((ctxAs st).updCtx 1 3 (fun c => { c with owed := 1 })).ctx 1 3).owed) ∧
    ((ctxAs 1).wr 0 F.LCS_BOOT_HOLD 0).hold = false ∧ ((ctxAs 1).wr 0 F.LCS_BOOT_HOLD 1).hold = true ∧
    (ctxAs 1).eccWithin (progKey 1 0) 0x8000 = [] ∧
    (let s := ctxAs 1
     (s.ctx 1 3).events % (s.rd 1 F.OXE_CTX_TRIG_DIVM1 3 + 1) = s.rd 1 F.OXE_CTX_TRIG_PHASE 3 % (s.rd 1 F.OXE_CTX_TRIG_DIVM1 3 + 1)) ∧
    (let s := (ctxAs 1).wr 1 F.OXE_CTX_TRIG_DIVM1 1 3 |>.wr 1 F.OXE_CTX_TRIG_PHASE 1 3
     (s.ctx 1 3).events % (s.rd 1 F.OXE_CTX_TRIG_DIVM1 3 + 1) ≠ s.rd 1 F.OXE_CTX_TRIG_PHASE 3 % (s.rd 1 F.OXE_CTX_TRIG_DIVM1 3 + 1)) ∧
    (let s := (ctxAs 2).wr 1 F.OXE_CTX_STAT_STATE 3 5
     s.running 1 = some 5 ∧ (3 : Fin 8) < 5 ∧ (∀ m : Fin 8, m < 3 → s.ctxSt 1 m ≠ 2)) ∧
    ((ctxAs 3).running 1 = some 3 ∧ (∀ m : Fin 8, m < 3 → (ctxAs 3).ctxSt 1 m ≠ 2)) ∧
    ((ctxAs 2).running 1 = none ∧ (∀ m : Fin 8, m < 3 → (ctxAs 2).ctxSt 1 m ≠ 2 ∧ (ctxAs 2).ctxSt 1 m ≠ 4)) ∧
    (State.reset.oxe.get 1).started = false ∧
    (let s := (ctxAs 3).updCtx 1 3 (fun c => { c with cyc := 2000 })
     s.rd 1 F.OXE_CTX_CFG_BUDGET 3 < (s.ctx 1 3).cyc ∧ s.olcFetch 1 0 = some 0 ∧ s.olcLegal 1 0 = true ∧
      s.olcLegal 1 0x80000000 = true ∧ s.olcLegal 1 0x38000000 = false ∧ s.olcFetch 1 8192 = none) ∧
    (let s := (ctxAs 5).updCtx 1 3 (fun c => { c with waiting := some (0, 0, 4) })
     (s.ctx 1 3).waiting = some (0, 0, (4 : Fin 16).val)) ∧
    State.reset.on 1 F.OXE_CTRL_RUN = false ∧
    (let s := (ctxAs 1).wr 1 F.OXE_CTRL_RUN 1
     s.on 1 F.OXE_CTRL_RUN = true ∧ (∀ k : Fin 4, s.inhDriven (portOf 1 k) = true) ∧
      ¬((freeInh s).wr 1 F.OXE_PORT_OVR_ACTIVE 0 0).on 1 F.OXE_PORT_OVR_ACTIVE 0 = true ∧
      (s.updOxe 1 (fun o => { o with crcBusy := true })).oxe.get 1 = { s.oxe.get 1 with crcBusy := true }) ∧
    (ctxAs 6).isRetired 1 2 0x08 3 = false := by decide

/-- OutputsAndHolds: outputs at zero and not, an engine whose C4 takes ticks with port die 1 silent, full and free buffers. -/
theorem wit_OutputsAndHolds :
    (let s := (State.reset.wr 1 F.OXE_PORT_OVR_AT_ZERO 1 0).wr 1 F.STL_PSTATE_STATE 3 0
     s.on 1 F.OXE_PORT_OVR_AT_ZERO 0 = true ∧ s.psState 1 0 = 3) ∧
    State.reset.psState 1 0 = 0 ∧
    (let s := (State.reset.wr 1 F.OXE_CAP_STAT_FULL_A 1).wr 1 F.OXE_CAP_STAT_FULL_B 1
     s.on 1 (capFull (s.on 1 F.OXE_CAP_STAT_ACT)) = true) ∧ State.reset.on 1 (capFull (State.reset.on 1 F.OXE_CAP_STAT_ACT)) = false ∧
    allocBase.c4Runs 0 = true ∧ 2 ≤ allocBase.reportKind allocBase.blockOf 4 ∧ allocBase.reportKind allocBase.blockOf 4 ≤ 3 ∧
    allocBase.par allocBase.blockOf 3 = 2 ∧ State.reset.c4Runs 0 = false ∧
    (let s := (ctxAs 1).wr 1 F.OXE_PORT_OVR_ACTIVE 0 0
     (s.oxe.get 1).started = true ∧ s.remoteStale 1 (384 + 2 * (0 : Fin 4).val) = true ∧ s.on 1 F.OXE_PORT_OVR_ACTIVE 0 = false) ∧
    ((ctxAs 1).remoteSet 1 384 5).remoteStale 1 384 = false := by decide

/-- PortStateRequests: a port in every state of an active unit with its consents, so that each transition is listed for a writer;
the same port of a standby. -/
theorem wit_PortStateRequests :
    (∀ x ∈ [(8, 0, PsWriter.host), (0, 1, .host), (1, 2, .host), (2, 3, .host), (3, 4, .host), (4, 5, .host), (5, 6, .safe), (6, 7, .safe),
        (7, 8, .safe), (3, 9, .safe), (0, 10, .host)],
      (portAs x.1).psAllowed 1 0 x.2.1 x.2.2 = true ∧ (portAs x.1).lifeState = 1 ∧ (portAs x.1).shadowing = false ∧ (portAs x.1).psState 1 0 = x.1 ∧
        (portAs x.1).portType 1 0 = 2) ∧
    (portAs 0).psAllowed 1 0 4 .host = false ∧ ((portAs 0).wr 0 F.TWN_STAT_ROLE 2).shadowing = true ∧
    ((portAs 3).safPort 1 0).tripOpen = none ∧ (portAs 3).on 1 F.T1S_P_STAT_LINK 0 = false ∧
    ((portAs 3).wr 1 F.T1S_P_STAT_LINK 1 0).on 1 F.T1S_P_STAT_LINK 0 = true := by decide

/-- VehicleAndStageLinks: ports of types 1 and 2, rings with owned descriptors and without, a link that sends with an urgent frame
queued, a valid and an invalid return frame, ports halted with and without a cause. -/
theorem wit_VehicleAndStageLinks :
    (let s := ((portAs 5).wr 1 F.STL_P_CFG_TYPE 1 0).wr 1 F.PIL_P_CTRL_MODE 2 0
     s.portType 1 0 = 1 ∧ s.outEn = true ∧ s.rd 1 F.PIL_P_CTRL_MODE 0 = 2 ∧ pilotCode 600 = 2 ∧
      (let s := s.updVeh 1 0 (fun v => { v with cand := 2, agree := 2 })
       ((s.veh.get 1).get 0).cand = 2 ∧ ((s.veh.get 1).get 0).agree = 2)) ∧
    (portAs 5).portType 1 0 ≠ 1 ∧ State.reset.t1sOn 1 0 = false ∧
    (let s := (((portAs 5).wr 1 F.T1S_P_CTRL_EN 1 0).wr 1 F.T1S_P_TXBASE 0x10000000 0).wr 1 F.T1S_P_RXBASE 0x10000100 0
     s.t1sOn 1 0 = true ∧ s.outEn = true ∧ s.t1sLoop 1 0 = false ∧ bitOf (s.sramWord 1 (0x10000000 + 4)) 31 = false ∧
      (let s := s.setMword (sramKey 1 0x10000004) 0x80000004
       let s := s.setMword (sramKey 1 0x10000104) 0x80000000
       descAddr (s.rd 1 F.T1S_P_TXBASE 0) (s.rd 1 F.T1S_P_HEADS_TXHEAD 0) = 0x10000000 ∧
        bitOf (s.sramWord 1 (0x10000000 + 4)) 31 = true ∧
        descAddr (s.rd 1 F.T1S_P_RXBASE 0) (s.rd 1 F.T1S_P_HEADS_RXHEAD 0) = 0x10000100 ∧ bitOf (s.sramWord 1 (0x10000100 + 4)) 31 = true)) ∧
    (portAs 5).stlSends 1 0 = true ∧ State.reset.stlSends 1 0 = false ∧ ((portAs 5).link 1 0).answered = false ∧
    ((portAs 5).link 1 0).absent = false ∧ (portAs 5).psState 1 0 = 5 ∧ ((portAs 5).safPort 1 0).tripOpen = none ∧
    (portAs 5).on 1 F.STL_P_HALT_HALTED 0 = false ∧ State.reset.on 1 F.STL_P_HALT_HALTED 0 = true ∧
    (let s := ((portAs 5).wr 1 F.ACQ_U_TRIG_SRC 9 1).wr 1 F.ACQ_U_STAT_STATE 2 1
     s.rd 1 F.ACQ_U_TRIG_SRC 1 = 9 ∧ s.rd 1 F.ACQ_U_TRIG_PARAM 1 = (0 : Fin 4).val ∧ s.on 1 F.ACQ_U_TRIG_GRP_EN 1 = false ∧
      s.acqSt 1 1 = 2 ∧ s.on 1 F.STL_P_HALT_HALTED 0 = false) ∧
    ((portAs 5).wr 1 F.STL_P_HALT_HALTED 1 0).haltCause 1 0 = false ∧ State.reset.haltCause 1 0 = true := by decide

set_option maxRecDepth 20000 in
theorem wit_VehicleAndStageLinks_return :
    goodReturn.length = 32 ∧ field goodReturn 0 1 = 0x13 ∧ field goodReturn 30 2 = crc16 (goodReturn.take 30) := by decide

/-- CoolingAndThermometry: a die whose C5 runs, with and without a loss, a pressure out of range and an energised port; a rejection,
and a fifth one. -/
theorem wit_CoolingAndThermometry :
    coolBase.c5Runs 1 = true ∧ (coolBase.cool.get 1).loss = false ∧ (coolBase.oxe.get 1).evtHost.length < 16 ∧
    (coolBase.oxe.get 1).evtSafe.length < 16 ∧ State.reset.c5Runs 1 = false ∧
    (∀ j : Fin 4, (coolBase.rd 1 F.OXE_CTX_DWIN_DBASE (0 : Fin 4) + 3) % 2048 ≠ coolBase.coolIdx 1 (16 * j.val + 10)) ∧
    (let s := (coolBase.wr 1 F.ADC_CELL_EN 1 10).cwSet 1 0x46 800
     s.c5Runs 1 = true ∧ s.on 1 F.ADC_CELL_EN 10 = true ∧ s.on 1 F.ADC_CELL_RETIRED 10 = false ∧ s.sampleInv 1 10 = false ∧
      s.loaded 1 10 < s.cw 1 0x46) ∧
    (∀ j : Fin 4, coolBase.on 1 F.ADC_CELL_EN (16 * j.val + 10) = false) ∧
    (∀ j : Fin 4, coolBase.psState 1 j < 3 ∨ 7 < coolBase.psState 1 j ∨ j = 0) ∧
    (∀ j : Fin 4, (coolBase.wr 1 F.STL_PSTATE_STATE 0 0).psState 1 j < 3) ∧ coolBase.psState 1 0 = 5 ∧
    (∀ j : Fin 4, coolBase.cw 1 (16 * j.val + 8) ≤ coolBase.cw 1 0x43) ∧
    (let s := coolBase.updOxe 1 (fun o => { o with bins := upd o.bins 1 (fun b => { b with i := 0 }) })
     s.tMeas 1 0 1000 1000 = none ∧ (s.copper 1 0).rejects < 4 ∧
      ((s.updCopper 1 0 (fun c => { c with rejects := 4 })).copper 1 0).rejects = 4) ∧
    ((1000 : Nat) :: List.replicate 29 1000).length = 30 ∧ (0 : Int) < 10 ^ 7 + 393 * (coolBase.cw 1 8 - 2000) ∧ coolBase.lifeState = 2 ∧
    State.reset.lifeState = 0 := by decide

/-- A coefficient written at an entry of die 1, its shift 0, gives DEPTH, whatever entry holds it, and leaves the data words. -/
theorem coolDepth (m : Word) :
    (coolDepthAt m).depthOf 1 0 = rhu (100 * m.toInt) (2 ^ 31) ∧ ∀ i, (coolDepthAt m).dataGet 1 (i % 2048) = coolBase.dataGet 1 (i % 2048) := by
  have hS : (coolDepthAt m).coefS 1 (Config.depthEntry (portOf 1 0).val % 4096) = 0 := by
    unfold State.coefS coolDepthAt
    rw [mword_setMword_apart _ _ _ _ (by simp only [regAddr]; omega)]
    show sext 6 (State.mword (coolClear.setMword (dataKey 1 66) (BitVec.ofInt 32 1000000000)) _).toNat = 0
    rw [mword_setMword_apart _ _ _ _ (by simp only [regAddr, dataKey]; omega)]
    rw [show coolClear.mword (regAddr (1 : Fin 8) (0x0A0004 + 8 * (Config.depthEntry (portOf 1 0).val % 4096))) = 0 from rfl]
    decide
  constructor
  · unfold State.depthOf State.coefTimes coefMul
    rw [hS]
    unfold State.coefM coolDepthAt
    rw [mword_setMword_same, Int.mul_comm]
    rfl
  · intro i
    unfold State.dataGet coolDepthAt
    rw [mword_setMword_apart _ _ _ _ (by simp only [regAddr, dataKey]; omega)]

/-- Registers are those of `coolClear`. -/
theorem coolRegs (m : Word) : (coolDepthAt m).regs = coolClear.regs := by
  unfold coolDepthAt coolBase State.cwSet State.dataSet
  rw [setMword_regs, setMword_regs]

theorem coolRd (m : Word) (d : Nat) (f : Fld) (i : Nat) : (coolDepthAt m).rd d f i = coolClear.rd d f i := by
  unfold State.rd State.word
  rw [coolRegs]

theorem coolCw (m : Word) (off : Nat) : (coolDepthAt m).cw 1 off = coolBase.cw 1 off := by
  have h : coolBase.regs = coolClear.regs := setMword_regs ..
  have hr : coolBase.rd (1 : Fin 8) F.OXE_CTX_DWIN_DBASE 5 = coolClear.rd (1 : Fin 8) F.OXE_CTX_DWIN_DBASE 5 := by
    unfold State.rd State.word
    rw [h]
  unfold State.cw State.coolIdx
  rw [coolRd, (coolDepth m).2, hr]

set_option maxRecDepth 20000 in
/-- Nothing suspends the injection of that port: it charges, without an override, and DERATE is above any selected value. -/
theorem coolFree (m : Word) : (coolDepthAt m).injBlocked 1 0 = false := by
  have h := BitVec.toInt_lt (x := (coolDepthAt m).mword (dataKey 1 (Config.selWord (portOf 1 0).val % 2048)))
  have hd : (coolDepthAt m).rd (1 : Fin 8) F.OXE_PORT_DERATE (0 : Fin 4) = 0xFFFFFFFF := by rw [coolRd]; decide
  have hm : (coolDepthAt m).cw 1 0x48 = 0 := by
    rw [coolCw]
    decide
  have h1 : (coolDepthAt m).psState 1 0 = 5 := by unfold State.psState; rw [coolRd]; decide
  have h2 : (coolDepthAt m).on (1 : Fin 8) F.OXE_PORT_OVR_ACTIVE (0 : Fin 4) = false := by unfold State.on; rw [coolRd]; decide
  have h3 : ((coolDepthAt m).copper 1 0).mean = 1 := rfl
  unfold State.injBlocked
  rw [h1, h2, hd, hm, h3]
  simp only [State.dataGet, Bool.or_eq_false_iff, decide_eq_false_iff_not]
  refine ⟨⟨⟨by simp, trivial⟩, ?_⟩, by simp⟩
  norm_num at h ⊢
  omega

set_option maxRecDepth 20000 in
/-- CoolingAndThermometry: an accepted result of 20 °C at DEPTH 0.01, the fallback, and a reference at DEPTH 0.10. -/
theorem wit_CoolingAndThermometry_result :
    (let s := coolDepthAt 21474836
     s.tMeas 1 0 1000 1000 = some 2000 ∧ (s.copper 1 0).skip = false ∧ (s.copper 1 0).injOff = false ∧ s.injSuspends 1 0 = false ∧
      (s.binResult 1 (binV 0)).2.2 = (s.binResult 1 (binI 0)).2.2 ∧
      amplitudeOk (s.depthOf 1 0) (s.binResult 1 (binI 0)).1 (s.binResult 1 (binI 0)).2.1 (s.binResult 1 (binI 0)).2.2 1000
        (s.copper 1 0).mean = true ∧ s.cellCode 1 7 - 500 ≤ 2000 ∧ (2000 : Int) ≤ s.cw 1 8 + 3000 ∧ s.injBlocked 1 0 = false) ∧
    (coolDepthAt 214748365).depthOf 1 0 = 10 := by
  have hb (m : Word) (off : Nat) : (coolDepthAt m).cw 1 off = coolBase.cw 1 off := coolCw m off
  have hd : (coolDepthAt 21474836).depthOf 1 0 = 1 := by rw [(coolDepth _).1]; decide
  refine ⟨⟨?_, rfl, rfl, ?_, rfl, ?_, ?_, ?_, coolFree _⟩, ?_⟩
  · unfold State.tMeas
    rw [hb]
    decide
  · unfold State.injSuspends State.inFallback
    rw [coolFree, hb]
    have : (coolDepthAt 21474836).pairFitted 1 0 = true := by
      unfold State.pairFitted State.on
      simp only [coolRd]
      decide
    rw [this]
    have h2 : ((coolDepthAt 21474836).copper 1 0).refCable = (coolDepthAt 21474836).cableNow 1 0 := rfl
    have h4 : coolBase.cw 1 (16 * (0 : Fin 4).val + 2) = 1000000000 := by decide
    have h5 : ((coolDepthAt 21474836).copper 1 0).fallback = false := rfl
    have h6 : ((coolDepthAt 21474836).copper 1 0).senseBad = false := rfl
    have h7 : ((coolDepthAt 21474836).copper 1 0).ref.isNone = false := rfl
    simp only [h2, h4, h5, h6, h7]
    simp
  · rw [hd]; decide
  · unfold State.cellCode
    rw [coolRd]
    decide
  · rw [hb]; decide
  · rw [(coolDepth _).1]; decide

set_option maxRecDepth 20000 in
/-- ModemsAndHerdLine: a running modem, a frame that is impulse-hit and one that is not, two sets of one run whose best port awaits
its vehicle, a herd line that may send with a present node and one that is not. -/
theorem wit_ModemsAndHerdLine :
    State.reset.on 1 F.PLC_CTRL_RUN = false ∧ State.reset.rd 1 F.PLC_LOAD_STAT_STATUS ≠ 1 ∧
    (State.reset.wr 1 F.PLC_LOAD_STAT_STATUS 1).rd 1 F.PLC_LOAD_STAT_STATUS = 1 ∧ modemRun.modemOn 1 0 = true ∧
    modemRun.modemUsed 1 0 = true ∧ modemRun.on 1 F.PLC_CTRL_RUN = true ∧ State.reset.modemOn 1 0 = false ∧
    (blankFrame 8 2 [[1000]] (1, 0, 0)).2.2 = 1 ∧ (blankFrame 8 2 [[0]] (1, 0, 0)).2.2 = 0 ∧
    ((modemRun.toneSet 1 0 7 2 2).toneGet 1 0 7).2 = 2 ∧ (modemRun.toneGet 1 0 7).2 = 0 ∧
    modemRun.on 1 F.PLC_LOAD_STAT_IMG_OK = true ∧ modemRun.on 1 F.PLC_M_CTRL_SLAC_EN 0 = true ∧ modemRun.outEn = true ∧
    (let s := { modemRun with slac := [⟨5, 4, [20, 40]⟩, ⟨5, 6, [90]⟩], meter := { modemRun.meter with running := true } }
     (∀ x ∈ s.slac.filter (fun x => x.run == 5), x.port < 32 ∧ (0 < meanGap ⟨5, 4, [20, 40]⟩ x ∨ x = ⟨5, 4, [20, 40]⟩)) ∧
      s.outEn = true ∧ (s.wr 0 F.TWN_STAT_OUT_EN 0).outEn = false ∧
      s.awaiting ⟨4 % 32, by decide⟩ = true ∧ ∀ x ∈ (s.slac.filter (fun x => x.run == 5)).erase ⟨5, 4, [20, 40]⟩,
        (s.meter.site.slacMargin : Int) * setLen ⟨5, 4, [20, 40]⟩ * setLen x ≤ meanGap ⟨5, 4, [20, 40]⟩ x) ∧
    herdRun.herdSends = true ∧ herdRun.herdUp = true ∧ herdRun.herd.poll = none ∧ herdRun.herd.bcast = none ∧ herdRun.herd.seq < 8 ∧
    herdRun.isRetired 0 2 0x24 0 = false ∧
    herdRun.on 0 F.HLM_NODE_PRESENT 1 = true ∧ herdRun.on 0 F.HLM_NODE_PRESENT 0 = false := by decide

theorem crc8Bit_lt (m b : Bool) (c : Nat) (h : c < 256) : crc8Bit m c b < 2 ^ 8 := by
  unfold crc8Bit
  split <;> split
  · exact Nat.xor_lt_two_pow (by omega) (by omega)
  · omega
  · exact Nat.xor_lt_two_pow (by omega) (by omega)
  · omega

theorem crc8_lt (x : Nat) : crc8 x < 256 := by
  have hf : ∀ (l : List Nat) (g : Nat → Bool) (c : Nat), c < 256 →
      l.foldl (fun c i => crc8Bit Config.herdCrcMsbFirst c (g i)) c < 256 := by
    intro l g
    induction l with
    | nil => intro c h; exact h
    | cons a t ih => intro c h; exact ih _ (crc8Bit_lt _ _ _ h)
  unfold crc8
  exact Nat.xor_lt_two_pow (n := 8) (hf _ _ _ (by omega)) (by omega)

/-- ModemsAndHerdLine: a header of node 2 with any flags and length has a CRC-8 that checks. -/
theorem wit_ModemsAndHerdLine_header (x : Nat) (hx : x < 2 ^ 14) :
    let h := ((64 + x * 1024) + crc8 (64 + x * 1024) * 2 ^ 24)
    h < 2 ^ 32 ∧ crc8 (h % 2 ^ 24) = h / 2 ^ 24 ∧ h % 32 = 0 ∧ h / 32 % 32 = (2 : Fin 31).val := by
  have h1 := crc8_lt (64 + x * 1024)
  intro h
  have h2 : h % 2 ^ 24 = 64 + x * 1024 := by show ((64 + x * 1024) + crc8 (64 + x * 1024) * 2 ^ 24) % 2 ^ 24 = _; omega
  have h3 : h / 2 ^ 24 = crc8 (64 + x * 1024) := by show ((64 + x * 1024) + crc8 (64 + x * 1024) * 2 ^ 24) / 2 ^ 24 = _; omega
  refine ⟨by show ((64 + x * 1024) + crc8 (64 + x * 1024) * 2 ^ 24) < _; omega, by rw [h2, h3], ?_, ?_⟩
  · show ((64 + x * 1024) + crc8 (64 + x * 1024) * 2 ^ 24) % 32 = 0
    omega
  · show ((64 + x * 1024) + crc8 (64 + x * 1024) * 2 ^ 24) / 32 % 32 = 2
    omega

set_option maxRecDepth 20000 in
/-- CanControllers: a controller on the bus and off it, in detection, with a pending frame, an element that matches, a queue full
and not, a reference message due. -/
theorem wit_CanControllers :
    canRun.canUsed 1 0 = true ∧ canRun.on 1 F.CAN_CTRL_INIT 0 = false ∧ canRun.canOnBus 1 0 = true ∧ canRun.canListens 1 0 = false ∧
    canRun.abdBusy 1 0 = false ∧ State.reset.canUsed 1 0 = false ∧
    (let s := canRun.wr 1 F.CAN_CTRL_INIT 1 0
     s.on 1 F.CAN_CTRL_INIT 0 = true ∧ s.canOnBus 1 0 = false ∧ s.canTimingOk 1 0 = false ∧
      (((s.wr 1 F.CAN_TIM_NOM_BRP 31 0).wr 1 F.CAN_TIM_NOM_TSEG1 10 0).wr 1 F.CAN_TIM_DATA_DBRP 24 0).canTimingOk 1 0 = true ∧
      ((s.wr 1 F.CAN_CTRL_LISTEN 1 0).wr 1 F.CAN_ABD_STAT_BUSY 1 0).abdBusy 1 0 = true) ∧
    (canRun.canC 1 0).recover = false ∧ (canRun.canC 1 0).run = none ∧ (canRun.canC 1 0).refDue = false ∧
    (let s := canRun.wr 1 F.CAN_TX_PEND 4 0
     s.canWinner 1 0 = some 2 ∧ (s.canC 1 0).tries = [] ∧ s.rd 1 F.CAN_STAT_TEC 0 + 8 ≤ 255) ∧
    (let s := (canRun.wr 1 F.CAN_SIEVE_NFLT 1 0).setMword (canKey 1 0 0x0100) 0x13
     s.canFilter 1 0 0x123 false false = some 0 ∧ bitsOf (s.canWord 1 0 0x0100) 4 3 = 1 ∧ s.rd 1 F.CAN_Q_STAT_FILL 0 0 < 64) ∧
    (let s : State := { canRun.wr 1 F.CAN_SIEVE_NFLT 1 0 with upsets := [(canKey 1 0 0x0100, true)] }
     s.canBad 1 0 0x0100 12 = true ∧ s.canFilter 1 0 0x123 false false = none ∧ s.isRetired 1 1 0x0D 0 = false ∧
      s.eccAt (canKey 1 0 0x3700) ≠ some true ∧ s.pkg.die.get 1 = .running ∧
      ({ s with upsets := [(canKey 1 0 (canTx 3 + 8), true)] } : State).canBad 1 0 (canTx 3 + 4) 72 = true ∧
      (s.wr 1 F.CAN_TX_PEND 2 0).bit 1 F.CAN_TX_PEND ((0x3700 - 0x3680) / 76) 0 = true) ∧
    (canRun.canFilter 1 0 0x123 false false = none ∧ canRun.rd 1 F.CAN_SIEVE_UNMATCHED 0 = 0) ∧
    (canRun.wr 1 F.CAN_Q_STAT_FILL 64 0 0).rd 1 F.CAN_Q_STAT_FILL 0 0 = 64 ∧ (canRun.wr 1 F.CAN_REF_CFG_EN 1 0).on 1 F.CAN_REF_CFG_EN 0 = true := by
  decide

/-- GridTicksAndServo: an edge before a tick and with a tick due, running and stopped counters, each source of a tick with its domain
valid or not, near or far, AUTO, an increment due, a message on its way. -/
theorem wit_GridTicksAndServo :
    timeRun.servo.tickDue = true ∧ (∀ e, timeRun.faults.dieRelease.get e = false) ∧ State.reset.servo.tickDue = false ∧
    timeRun.tsuRuns 0 = true ∧ timeRun.tsuRuns 1 = true ∧ State.reset.tsuRuns 1 = false ∧ timeRun.follows = false ∧ timeRun.timeSrc = 0 ∧
    timeRun.on 0 F.TSU_DOM_CFG_VALID 0 = true ∧ timeRun.bit 0 F.TSU_STAT_VALID 0 = true ∧ timeRun.selDom = 0 ∧
    (let s := (timeRun.wr 0 F.TSU_DOM_CFG_VALID 0 0).wr 0 F.TSU_DOM_CFG_VALID 1 1
     s.on 0 F.TSU_CTRL_AUTO = true ∧ s.on 0 F.TSU_DOM_CFG_VALID 0 = false ∧ s.on 0 F.TSU_DOM_CFG_VALID 1 = true) ∧
    ((timeRun.updServo (fun x => { x with resid := x.resid.set 0 300000000000000000 })).servo.resid.get 0).natAbs > 200000000000000000 ∧
    ((timeRun.wr 0 F.TSU_STAT_SRC 3).timeSrc = 3 ∧ (timeRun.wr 0 F.TSU_STAT_SRC 4).timeSrc = 4 ∧ (timeRun.wr 0 F.TSU_STAT_SRC 2).timeSrc = 2) ∧
    (let s := timeRun.wr 0 F.TSU_STAT_SRC 4
     Int.ofNat (s.devTime 0) ≤ s.tai 0 + s.servo.resid.get 0 / 10000000 ∧ s.tai 0 + s.servo.resid.get 0 / 10000000 < 2 ^ 64) ∧
    ((timeRun.wr 0 F.TWN_STAT_ROLE 2).wr 0 F.TWN_STAT_LINK_UP 1).follows = true ∧
    ((timeRun.updTsu 1 (fun t => { t with queue := [(0, 5, 6)], msgs := [(2, 1, 0, 3, 4)] })).tsu.get 1).queue = [] ++ [(0, 5, 6)] ∧
    timeRun.rd 1 F.TSU_TICK = 0 ∧ (timeRun.tsu.get 1).msgs = [] ∧ Requester.hostPort ≠ .app 0 0 false := by
  decide

/-- StepsStampsAndPulses: a step that waits at its tick and one that does not, both kinds of source, a leap second and other offset
changes, queues empty, holding and full, outputs of both modes in time and late, good times, an event a unit selects. -/
theorem wit_StepsStampsAndPulses :
    (let s := State.reset.updServo (fun x => { x with step := some 5000000000 })
     s.servo.step = some 5000000000 ∧ s.rd 0 F.TSU_GRID = 0 ∧ s.servo.tickDue = false ∧ Int.ofNat (s.devTime 0) ≤ 5000000000) ∧
    State.reset.servo.step = none ∧ timeRun.timeSrc ≤ 1 ∧ 1 < State.reset.timeSrc ∧
    (let s := State.reset.updMeter (fun m => { m with utcOfs := 38 })
     (s.rdI 0 F.TSU_UTC_OFS - s.meter.utcOfs).natAbs = 1 ∧ monthEnd (s.utcMs / 1000) = false) ∧ monthEnd 2678399 = true ∧
    State.reset.servo.tsq.get 1 = [] ∧ ([] : List TsEntry).length < 16 ∧
    (let s := (((timeRun.wr 1 F.TSU_PO_CTRL_MODE 2 0).wr 1 F.TSU_PO_PW 1000 0 0).wr 1 F.TSU_PO_PW 100 0 1).wr 1 F.TSU_PO_CTRL_ACTIVE 1 0
     s.rd 1 F.TSU_PO_CTRL_MODE 0 = 2 ∧ s.on 1 F.TSU_PO_CTRL_ACTIVE 0 = true ∧ 8 ≤ s.rd 1 F.TSU_PO_PW 0 1 / 8 * 8 ∧
      16 ≤ s.rd 1 F.TSU_PO_PW 0 0 / 8 * 8 ∧ s.rd 1 F.TSU_PO_PW 0 1 / 8 * 8 + 8 ≤ s.rd 1 F.TSU_PO_PW 0 0 / 8 * 8 ∧
      s.devTime 1 ≤ s.rd 1 F.TSU_PO_START_LO 0 + s.rd 1 F.TSU_PO_START_HI_TALLY 0 * 2 ^ 32 ∧
      s.rd 1 F.TSU_PO_START_LO 0 < (s.wr 1 F.TSU_NS 7).devTime 1) ∧
    ((timeRun.wr 1 F.TSU_PO_CTRL_MODE 1 0).rd 1 F.TSU_PO_CTRL_MODE 0 = 1) ∧ timeRun.rd 1 F.TSU_PO_CTRL_MODE 0 = 0 ∧
    (timeRun.wr pkgDie F.PKG_DIES_PRESENT 3).present 1 = true ∧ (timeRun.wr pkgDie F.PKG_DIES_PRESENT 3).present 2 = false ∧
    (timeRun.wr 1 F.TSU_CAP_CFG_SRC 4 2).rd 1 F.TSU_CAP_CFG_SRC 2 = (4 : Fin 7).val := by
  decide

set_option maxRecDepth 20000 in
/-- AcquisitionUnits: a unit that may arm, one that may not for each status, an armed one that is forced, a recording one, a group
that fires, a gathered stream, a copy to SRAM and to a bulk slot. -/
theorem wit_AcquisitionUnits :
    acqRun.acqSt 1 2 = 1 ∧ acqRun.acqBeingRead 1 2 = false ∧ acqRun.acqArmVerdict 1 2 = 0 ∧ State.reset.acqSt 1 2 = 0 ∧
    (let s := (acqRun.wr 1 F.ACQ_RD_CTRL_BUSY 1).wr 1 F.ACQ_RD_LEN_LEN 64
     s.acqBeingRead 1 2 = true ∧ s.on 1 F.ACQ_RD_CTRL_WIN = false ∧
      (s.wr 1 F.ACQ_RD_DST 0x10000000).rd 1 F.ACQ_RD_DST = 0x10000000 ∧ s.rd 1 F.ACQ_RD_SRC_SRC + 64 ≤ 0x400000) ∧
    (acqRun.wr 1 F.ACQ_U_LEN_LEN 8 2).rd 1 F.ACQ_U_LEN_LEN 2 < 16 ∧
    (let s := (acqRun.wr 1 F.ACQ_U_STAT_STATE 2 2).wr 1 F.ACQ_U_TRIG_SRC 1 2
     s.acqSt 1 2 = 2 ∧ s.rd 1 F.ACQ_U_TRIG_SRC 2 = 1 ∧ s.on 1 F.ACQ_U_TRIG_GRP_EN 2 = false ∧ (s.acqU 1 2).line = [] ∧
      s.acqHead 1 2 + 32 + s.acqW 1 2 * 64 ≤ 0x400000) ∧
    (let s := acqRun.wr 1 F.ACQ_U_STAT_STATE 3 2
     s.acqSt 1 2 = 3 ∧ (s.acqU 1 2).left = 0 ∧ s.acqSt 1 0 = 0 ∧ (s.wr 1 F.ACQ_U_STAT_STATE 3 0).acqSt 1 0 = 3) ∧
    (let s := (((((acqRun.wr 1 F.ACQ_U_STAT_STATE 2 2).wr 1 F.ACQ_U_TRIG_GRP_EN 1 2).wr 1 F.ACQ_U_TRIG_FIRE_EN 1 2).wr 1
       F.ACQ_U_TRIG_SRC 1 2).wr 0 F.ACQ_GRP_CTRL_ARMED 1 0).updAcq 1 2 (fun x => { x with own := some 5 })
     (s.acqU 1 2).own = some 5 ∧ s.acqSt 1 2 = 2 ∧
     s.on 0 F.ACQ_GRP_CTRL_ARMED 0 = true ∧ s.on 1 F.ACQ_U_TRIG_GRP_EN 2 = true ∧ s.rd 1 F.ACQ_U_TRIG_GROUP 2 = 0 ∧
      s.on 1 F.ACQ_U_TRIG_FIRE_EN 2 = true ∧ s.rd 1 F.ACQ_U_TRIG_SRC 2 = 1 ∧ s.dieUsed 1 = true ∧ s.dieUsed 0 = true) ∧
    (let s := ((State.reset.wr 0 F.ACQ_U_CFG_GATH 1 3).wr 0 F.ACQ_U_STAT_STATE 3 3).updAcq 0 3 (fun x => { x with left := 4 })
     s.on 0 F.ACQ_U_CFG_GATH 3 = true ∧ s.acqSt 0 3 = 3 ∧ (s.acqU 0 3).left ≠ 0 ∧ s.rd 0 F.ACQ_U_TRIG_SRC 3 = 0 ∧
      (s.wr 0 F.XLK_STAT_LANES_OK 3).gathLoses 3 = true ∧ (s.wr 0 F.XLK_STAT_LANES_OK 15).rd 0 F.XLK_STAT_LANES_OK = 15) ∧
    (let s := ((State.reset.wr 0 F.ACQ_RD_CTRL_BUSY 1).wr 0 F.ACQ_RD_CTRL_WIN 1).wr 0 F.ACQ_RD_LEN_LEN 32
     s.on 0 F.ACQ_RD_CTRL_BUSY = true ∧ s.rd 0 F.ACQ_RD_CTRL_PIECES = 0 ∧ s.nextBulk = none ∧
      (s.setMword (winKey (slotBase 16)) 3).nextBulk = some 16) := by
  decide

set_option maxRecDepth 20000 in
/-- EnergyRecordsAndTokens: a message in flight that is new, received or committed, a running and a stopped head, a due record with
and without power failure, each tamper's condition, a window in disagreement, a token that waits. -/
theorem wit_EnergyRecordsAndTokens :
    (let s := headRuns.updMeter (fun m => { m with core := upd m.core 1 (fun _ => { inFlight := some 3, seq := 3 }) })
     (s.meter.core.get 1).inFlight = some 3 ∧ s.meter.running = true ∧ s.meter.received.get 1 ≠ 3 ∧ s.meter.committed.get 1 ≠ 3 ∧
      s.meter.rate = 1 ∧ (s.updMeter (fun m => { m with committed := m.committed.set 1 3 })).meter.committed.get 1 = 3) ∧
    (State.reset.meter.core.get 1).inFlight = none ∧ State.reset.meter.running = false ∧ headRuns.pkg.pd = .none ∧
    headRuns.isLate (headRuns.devTime 0) = false ∧
    ((headRuns.updMeter (fun m => { m with announced := some (-37000) })).isLate 0) = true ∧
    (let s := headRuns.updMeter (fun m => { m with bound := [(5, 2)] })
     s.meter.bound = [((5 : Fin 32).val, 2)]) ∧
    (let r := headRuns.sessionRecord 5 { ap := 0, am := 0, l := 0, startUtc := 0, src := 0, flags := 0, bidir := false } 0
     let s := headRuns.updMeter (fun m => { m with due := [r] })
     s.meter.due.any byPower = false ∧ s.meter.due.find? (fun r => r.port == (5 : Fin 32).val) = some r ∧ s.slotKey 4 = none ∧
      [{ r with flags := 1 }].filter byPower = [{ r with flags := 1 }]) ∧
    headRuns.meter.tampers = [] ∧ headRuns.meter.session.get 5 = none ∧
    (headRuns.wr 1 F.ADC_MTRMAP_H_EN 1 1).on (Port.die 5) F.ADC_MTRMAP_H_EN (Port.loc 5) = true ∧
    (let s := (headRuns.wr 0 F.TWN_STAT_ROLE 2).updMeter (fun m => { m with winOwn := [(0, 2 ^ 80)], winBad := [(0, 2)] })
     s.role = 2 ∧ ((s.meter.winOwn ++ s.meter.winPeer).map (·.1)).eraseDups = [0] ∧
      10 * eGet s.meter.winPeer 0 + 5000 * 2 ^ 32 * 1000 < (Int.ofNat 0 - Int.ofNat (eGet s.meter.winOwn 0)).natAbs * 1000) ∧
    (let s := headRuns.updMeter (fun m => { m with peerTampers := [(0x42, 5)] })
     ∃ c, ¬((c, (5 : Fin 32).val) ∈ s.meter.tampers ↔ (c, (5 : Fin 32).val) ∈ s.meter.peerTampers)) ∧
    (headRuns.updMeter (fun m => { m with token := some (0, 7, 1) })).meter.token = some (0, 7, 1) := by
  refine ⟨by decide, by decide, by decide, by decide, by decide, by decide, by decide, by decide, by decide, by decide, by decide,
    by decide, ⟨0x42, by decide⟩, by decide⟩

set_option maxRecDepth 20000 in
/-- BoundariesAndReadout: a boundary ahead, an announced one past, one that ends both profiles and the demand interval, restorations
with and without a power-down, open associations and requests of each kind. -/
theorem wit_BoundariesAndReadout :
    (let s := headRuns
     s.meter.running = true ∧ s.meter.restoring = false ∧ s.meter.announced = none ∧ isBoundary s.meter.almanac s.p2Mins 900 = true ∧
      s.utcMs + 1000 ≤ Int.ofNat 900 * 1000) ∧
    (let s := (headRuns.setEpoch 2000000000000).updMeter (fun m => { m with announced := some 900000 })
     s.meter.announced = some 900000 ∧ 900000 ≤ s.utcMs ∧ onInterval s.meter.almanac (s.profMins false) 900 = true ∧
      onInterval s.meter.almanac (s.profMins true) 900 = true ∧ onInterval s.meter.almanac (demInt s.meter.almanac) 900 = true ∧
      onInterval s.meter.almanac (s.profMins true) 901 = false ∧ s.actDue 900 true = false ∧
      (let s := (s.wr 0 F.TSU_STAT_SRC 3).updMeter (fun m => { m with restoring := true, td := some 1900000 })
       s.meter.restoring = true ∧ s.timeSrc ≠ 4 ∧ s.meter.td = some 1900000 ∧ ¬s.utcMs < 1900000 ∧
        s.utcMs < nextEnd s.meter.almanac 15 1900 * 1000)) ∧
    (let s := (headRuns.wr 0 F.TSU_STAT_SRC 4).updMeter (fun m => { m with restoring := true })
     s.meter.running = true ∧ s.meter.restoring = true ∧ s.timeSrc = 4) ∧
    isBillEnd none 2678400 = isBillEnd none 2678400 ∧ State.reset.meter.running = false ∧
    (let s := headRuns.updMeter (fun m => { m with assoc := [(0, 0), (0, 3)] })
     s.meter.assoc.contains (ifCode .tcp, roleCode .pub) = true ∧ s.meter.assoc.contains (ifCode .hdlc, roleCode .pub) = false ∧
      mayRead .pub .tokenGateway = false ∧ mayRead .reader (.portLoss 5) = true ∧ cosemReg (.portLoss 5) = some (portReg 5 2) ∧ s.speaks .hdlc = true ∧
      (s.wr pkgDie F.PKG_DIES_PRESENT 3).objAbsent (.portLoss 5) = false ∧ (s.wr pkgDie F.PKG_DIES_PRESENT 1).objAbsent (.portLoss 5) = true ∧ s.lifeState ≠ 4 ∧
      eGet s.meter.invoc 3 < 9 ∧ mayWrite .site 2 .clock = false ∧ s.meter.token = none ∧ s.hold = false ∧ (s.wr 0 F.TWN_STAT_ROLE 3).role = 3 ∧
      ((0 : DWord).toNat ≤ eGet s.meter.invoc 3)) ∧
    (headRuns.wr 0 F.TWN_STAT_ROLE 1).role ≠ 2 := by
  decide

/-- A port of a running die whose safety core has passed its self-test, with a trip stop and contact checks as given. -/
def safRun (st : Nat) (trip : Option Nat) (c : Option Nat) : State :=
  ((portAs st).wr 1 F.SAF_STAT_SELFTEST_OK 1).updSaf 1 0 (fun p => { p with tripOpen := trip, contact := #v[c, none] })

set_option maxRecDepth 20000 in
/-- SafetyCoreScansAndStops: a charging port of a core that scans, with its emergency stop demanding; one that a failed diagnostic
holds, and one whose die is off. -/
theorem wit_SafetyCoreScansAndStops :
    (let s := (safRun 5 none none).setBit 1 F.SAF_IN_DEMAND 0 ((safRun 5 none none).cfg 1 0).estopSrc
     s.pkg.die.get 1 = .running ∧ s.diagFail 1 = false ∧ s.hold = false ∧ s.portType 1 0 ≠ 0 ∧
      s.on 1 F.SAF_STAT_SELFTEST_OK = true ∧ s.demand 1 (s.cfg 1 0).estopSrc 0 = true ∧ s.psState 1 0 = 5 ∧
      bitOf (s.safPort 1 0).active.toNat 1 = false ∧ s.shadowing = false) ∧
    (let s := safRun 5 none none
     s.pkg.die.get 1 = .running ∧ bitOf (s.cfg 1 0).used.toNat 0 = true ∧ (s.cfg 1 0).estopSrc = 0 ∧ s.rd 1 F.STL_PSAFE_CAUSE 0 = 0 ∧
      (s.safPort 1 0).tripOpen = none ∧ s.isRetired 1 1 0x12 0 = false ∧ s.inResponse 1 1 = false ∧ s.tempHot 1 0 = false ∧
      (s.wr 1 F.ADC_LAST 12000 8).tempHot 1 0 = true) ∧
    ((safRun 5 none none).wr 1 F.SAF_DIAG_FLOW_FAIL 1).diagFail 1 = true ∧ State.reset.pkg.die.get 1 ≠ .running := by decide

set_option maxRecDepth 40000 in
/-- The scan's clauses on a next state: a charging port, one in PRECHARGE, one in RAMP_DOWN and an idle one, without a trip stop. -/
theorem wit_SafetyCoreScansAndStops_scan :
    ∀ st ∈ [0, 4, 5, 6], (let t := ((safRun st none none).wr 1 F.SAF_IN_DEMAND 0 0).safetyScan 1 (Vector.replicate 4 0xFF) (Vector.replicate 4 0)
      (t.safPort 1 0).tripOpen = none ∧ t.psState 1 0 = st) := by decide

set_option maxRecDepth 20000 in
/-- Inputs, stops and contacts: checks under way with a contact that follows and one that does not, a trip stop, ramps with and
without a cause, a drive that did not close and one that did not open. -/
theorem wit_SafetyCoreScansAndStops_stops :
    (let s := safRun 5 none (some 700)
     (s.safPort 1 0).contact.get 0 = some 700 ∧ (s.safPort 1 0).contact.get 1 = none ∧ bitOf (s.rd 1 F.SAF_OUT_CMD 0) 0 = false ∧
      (s.setBit 1 F.SAF_IN_FILT 3 0).bit 1 F.SAF_IN_FILT 3 0 = true ∧ (s.clrBit 1 F.SAF_IN_FILT 3 0).bit 1 F.SAF_IN_FILT 3 0 = false ∧
      bitOf ((s.wr 1 F.SAF_OUT_CMD 3 0).rd 1 F.SAF_OUT_CMD 0) 0 = true ∧ (s.safPort 1 0).tripOpen = none) ∧
    (let s := safRun 7 none (some 700)
     s.psState 1 0 = 7 ∧ s.shadowing = false) ∧
    (let s := safRun 5 (some 100) none
     (s.safPort 1 0).tripOpen = some 100 ∧ s.psState 1 0 ≤ 8) ∧ (safRun 9 (some 100) none).psState 1 0 = 9 ∧
    (let s := (safRun 6 none none).updSaf 1 0 (fun p => { p with ramp := some (4, 20, 300000, 2000) })
     (s.safPort 1 0).ramp = some (4, 20, 300000, 2000) ∧ s.rd 1 F.STL_PSAFE_CAUSE 0 = 0 ∧ s.psState 1 0 = 6 ∧ s.shadowing = false ∧
      (s.wr 1 F.STL_PSAFE_CAUSE 4 0).rd 1 F.STL_PSAFE_CAUSE 0 ≠ 0) ∧
    ((safRun 5 none none).safPort 1 0).ramp = none := by decide

set_option maxRecDepth 20000 in
/-- Insulation: a port energised and not; SOUT3 open and closed with the first window kept, at 285.7 Ω/V, below ISO_FAULT for the
first and the second time, and with a voltage too low. -/
theorem wit_SafetyCoreScansAndStops_insulation :
    (let c : PortCfg := { defaultCfg with uRated := 1000 }
     let s := ((safRun 5 none none).wr 1 F.SAF_OUT_CMD 11 0).updSaf 1 0 (fun p => { p with cfg := some c, isoA := some (571400, 228600) })
     s.energised 1 0 = true ∧ (safRun 0 none none).energised 1 0 = false ∧ bitOf ((safRun 5 none none).rd 1 F.SAF_OUT_CMD 0) 3 = false ∧
      bitOf (s.rd 1 F.SAF_OUT_CMD 0) 3 = true ∧ (s.safPort 1 0).isoA = some (571400, 228600) ∧ (s.cfg 1 0) = c ∧
      (let num (p1 m1 up um : Nat) := c.rM * 1000 * (p1 * um - m1 * up)
       let den (p1 m1 up : Nat) := up * (p1 + m1) * c.uRated
       c.isoFault * den 571400 228600 235300 ≤ num 571400 228600 235300 564700 ∧
        num 571400 228600 235300 564700 < c.isoWarn * den 571400 228600 235300 ∧
        num 571400 228600 500000 300000 < c.isoFault * den 571400 228600 500000) ∧
      50 * c.uRated ≤ 228600 ∧ 40000 < 50 * c.uRated ∧ (s.safPort 1 0).isoLow = 0 ∧
      1 ≤ ((s.updSaf 1 0 (fun p => { p with isoLow := 1 })).safPort 1 0).isoLow ∧ bitOf (s.safPort 1 0).active.toNat 2 = false) := by
  decide

set_option maxRecDepth 20000 in
/-- Temperature, flow, degraded time, UNLOCK_OK, trip bits and the self-test. -/
theorem wit_SafetyCoreScansAndStops_rest :
    (let s := safRun 5 none none
     bitOf (s.safPort 1 0).active.toNat 4 = false ∧ (s.safPort 1 0).tripOpen = none ∧ s.psState 1 0 = 5 ∧ s.shadowing = false ∧
      bitOf ((s.causeOn 1 0 4).safPort 1 0).active.toNat 4 = true ∧ (s.setBit 1 F.SAF_IN_DEMAND 6 0).demand 1 0 6 = true ∧
      (s.clrBit 1 F.SAF_IN_DEMAND 6 0).demand 1 0 6 = false ∧ s.on 1 F.SAF_P_STAT_DEGRADED 0 = false ∧ (s.safPort 1 0).degOut = false ∧
      (s.wr 1 F.SAF_P_STAT_DEGRADED 1 0).on 1 F.SAF_P_STAT_DEGRADED 0 = true ∧ bitOf (s.safPort 1 0).active.toNat 10 = false ∧
      (s.safPort 1 0).ramp = none ∧ s.unlockHolds 1 0 = true ∧ (s.cfg 1 0).lockChan ≤ 2 ∧
      (s.wr 1 F.SAF_OUT_CMD 1 0).unlockHolds 1 0 = false ∧ s.tripLatched 1 0 = false ∧ s.pkg.die.get 1 = .running ∧
      (s.wr 1 F.ADC_TRIP 4 0).tripLatched 1 0 = true ∧ bitsOf (s.rd 1 F.ADC_TC_STAT_LEVEL) 0 2 = 0 ∧
      bitsOf ((s.wr 1 F.ADC_TC_STAT_LEVEL 1).rd 1 F.ADC_TC_STAT_LEVEL) 0 2 ≠ 0 ∧ s.rd 1 F.SAF_DIAG_FIRST = 0) ∧
    (safRun 1 none none).psState 1 0 = 1 ∧ (safRun 9 none none).psState 1 0 = 9 ∧
    ((safRun 0 none none).wr 1 F.STL_P_CFG_TYPE 0 0).portType 1 0 = 0 ∧ (safRun 0 none none).portType 1 0 ≠ 0 := by decide

/-- Channel 4 of die 1 in a state with its output on, requested by ON, its group's defaults in force. -/
def lswAt (st : Nat) : State :=
  (((portAs 5).wr 1 F.LSW_CH_STAT_STATE st 4).wr 1 F.LSW_CH_STAT_OUT 1 4).wr 1 F.LSW_CH_CMD_ON 1 4

set_option maxRecDepth 20000 in
/-- LoadSwitchesAndThermal: a channel requested and not, in the states its commands start from, with retries left and none, within
its restart count and past it, held under a throttle and not. -/
theorem wit_LoadSwitchesAndThermal :
    (∀ st ∈ [0, 1, 2, 4, 5, 6, 7], (lswAt st).lswSt 1 4 = st ∧ (lswAt st).lswReq 1 4 = true ∧ ((lswAt st).lswChan 1 4).req = false) ∧
    ((lswAt 1).wr 1 F.LSW_CH_CMD_ON 0 4).lswReq 1 4 = false ∧ (lswAt 2).rd 1 F.LSW_CH_CFG_PWM_HZ 4 = 0 ∧
    ((lswAt 2).wr 1 F.LSW_CH_CFG_PWM_HZ 100 4).rd 1 F.LSW_CH_CFG_PWM_HZ 4 ≠ 0 ∧ (lswAt 2).lswDuty 1 4 = 0 ∧
    State.reset.on 1 F.LSW_CH_STAT_OUT 4 = false ∧ (lswAt 1).on 1 F.LSW_CH_STAT_OUT 4 = true ∧
    (let s := (lswAt 1).wr 1 F.LSW_CH_CFG_INRUSH_RETRY 1 4
     s.rd 1 F.LSW_CH_STAT_INRUSH_USED 4 < s.rd 1 F.LSW_CH_CFG_INRUSH_RETRY 4 ∧
      (let s := s.wr 1 F.LSW_CH_STAT_INRUSH_USED 1 4
       s.rd 1 F.LSW_CH_CFG_INRUSH_RETRY 4 ≤ s.rd 1 F.LSW_CH_STAT_INRUSH_USED 4)) ∧
    (lswAt 2).isRetired 1 1 0x11 4 = false ∧ (lswAt 2).inResponse 1 1 = false ∧
    ((lswAt 2).lswCounted 1 4).length + 1 ≤ ((lswAt 2).wr 1 F.LSW_CFG_RESTART_MAX 1).rd 1 F.LSW_CFG_RESTART_MAX ∧
    ((lswAt 2).wr 1 F.LSW_CFG_RESTART_MAX 0).rd 1 F.LSW_CFG_RESTART_MAX < ((lswAt 2).lswCounted 1 4).length + 1 ∧
    (let s := (lswAt 1).updLsw 1 4 (fun c => { c with gap := true })
     (s.lswChan 1 4).gap = true ∧ (s.lswChan 1 4).since = none ∧ s.on 1 F.LSW_GRP_THROTTLE 1 = false ∧
      (s.wr 1 F.LSW_GRP_THROTTLE 1 1).on 1 F.LSW_GRP_THROTTLE 1 = true ∧
      ((s.updLsw 1 4 (fun c => { c with since := some 5 })).lswChan 1 4).since = some 5 ∧
      (s.updLsw 1 4 (fun c => { c with window := some s.now })).now < s.now + 100000000) := by decide

set_option maxRecDepth 20000 in
/-- Temperatures: a channel sensor at 150 °C and below 135 °C, TMODE 0 and 1, a cool and a warm group, and the group's thresholds. -/
theorem wit_LoadSwitchesAndThermal_groups :
    2400 ≤ sens 2400 ∧ sens 2159 < 2160 ∧ sens 0 < 2400 ∧
    (lswAt 2).on 1 F.LSW_CH_CFG_TMODE 4 = false ∧ ((lswAt 2).wr 1 F.LSW_CH_CFG_TMODE 1 4).on 1 F.LSW_CH_CFG_TMODE 4 = true ∧
    (let s := ((lswAt 6).wr 1 F.LSW_GRP_CFG_TGRP_OFF 100).wr 1 F.LSW_GRP_CFG_TGRP_HYST 10
     s.rdI 1 F.LSW_CH_MEAS_TEMP 4 < 2160 ∧ s.rdI 1 F.LSW_GRP_TEMP 1 < 90 * 16 ∧ ((s.wr 1 F.LSW_GRP_TEMP 1600 1).rdI 1 F.LSW_GRP_TEMP 1 = 1600) ∧
      ((s.rd 1 F.LSW_GRP_CFG_TGRP_OFF : Int) * 16 = 1600 ∧ sens 1600 = 1600 ∧ s.rd 1 F.LSW_GRP_CFG_TGRP_HYST = 10) ∧
      s.on 1 F.LSW_GRP_CFG_GMODE = false ∧ (s.wr 1 F.LSW_GRP_CFG_GMODE 1).on 1 F.LSW_GRP_CFG_GMODE = true ∧
      s.on 1 F.LSW_GRP_OFF 1 = false ∧ (s.wr 1 F.LSW_GRP_OFF 1 1).on 1 F.LSW_GRP_OFF 1 = true ∧ s.on 1 F.LSW_GRP_LATCHED 1 = false ∧
      (s.wr 1 F.LSW_GRP_LATCHED 1 1).on 1 F.LSW_GRP_LATCHED 1 = true) ∧
    (lswAt 2).rd 1 F.LSW_CH_CFG_OL_THR 4 = 0 ∧ ((lswAt 2).wr 1 F.LSW_CH_CFG_OL_THR 5 4).rd 1 F.LSW_CH_CFG_OL_THR 4 ≠ 0 := by decide

/-- A die that runs and one that does not; samples below the warning, at the warning and the throttle, and at the shut-down; a
shut-down under way; the internal reference and another; a compensation that is whole. -/
theorem wit_LoadSwitchesAndThermal_die :
    (portAs 5).pkg.die.get 1 = .running ∧ State.reset.pkg.die.get 1 ≠ .running ∧ (portAs 5).thermalDown 1 = false ∧
    (portAs 5).thmLevel 1 2 = 2000 ∧ (portAs 5).thmLevel 1 0 = 1600 ∧ (portAs 5).thmHyst 1 0 = 80 ∧
    sens 1519 < 1520 ∧ sens 1999 < 2000 ∧ (2000 : Int) ≤ sens 2000 ∧
    ((portAs 5).wr 1 F.THM_STAT_WARN 1).on 1 F.THM_STAT_WARN = true ∧ (portAs 5).on 1 F.THM_STAT_WARN = false ∧
    ((portAs 5).setInhDie 1 Inh.thermal true).thermalDown 1 = true ∧ (portAs 5).role = 1 ∧
    (portAs 5).rd 1 F.ADC_REF_SEL = 0 ∧ ((portAs 5).wr 1 F.ADC_REF_SEL 1).rd 1 F.ADC_REF_SEL ≠ 0 ∧ sens 400 - 400 = 0 ∧
    (sext 32 ((portAs 5).rd 1 F.THM_REF_C 0) * 1000 * 16 ^ 3 % (1000 * 16 ^ 3) = 0) := by decide

/-- A write by the lead die's core of a word to an offset of die 1. -/
def wrAt (off : Nat) (v : Word) : Instr := .registerWrite appLead (regAddr 1 off) 4 v

/-- BusWritesAndAccessCodes: widths and ranges, a die that runs, one that is absent, one that is off, a vacant offset and an occupied
one without a register. -/
theorem wit_BusWritesAndAccessCodes :
    ¬((2 = 1 ∨ 2 = 2 ∨ 2 = 4) ∧ 3 % 2 = 0) ∧ 0x10000000 + 0x200000 = 0x10200000 ∧ 0x70000000 % 4 = 0 ∧
    (portAs 5).present 1 = true ∧ (State.reset.wr pkgDie F.PKG_DIES_PRESENT 1).present 1 = false ∧
    (portAs 5).dieShut 1 = false ∧ State.reset.dieShut 1 = true ∧ State.reset.debugOn = true ∧
    (State.reset.wr 0 F.LCS_STATE_STATE 1).debugOn = false ∧ (portAs 5).shadowing = false ∧ keyWords 0x200040 = true ∧ keyWords 0x200080 = false ∧
    machineCore (.debug 1) = true ∧ machineCore appUser = false ∧ opcMask = 0x3FF3F ∧
    occupied 1 0x030000 = false ∧ occupied 1 0x20FFFC = false ∧ occupied 1 0x14FFFC = true ∧ findReg (regAddr 1 0x14FFFC) = none ∧
    findReg 0x6000FFFC = none ∧ canRam 0x0D0100 = true ∧ (portAs 5).on 1 F.OXE_CTRL_RUN = false ∧ (portAs 5).on 1 F.OXE_CTRL_LOCK = false ∧
    ((portAs 5).wr 1 F.OXE_CTRL_RUN 1).on 1 F.OXE_CTRL_RUN = true ∧ (0x0A0008 : Nat) % 8 = 0 := by decide

/-- A CAN message RAM without and with a pending transmit buffer, and a stopped sequencer. -/
theorem wit_BusWritesAndAccessCodes_pend : (∀ y < 2, (portAs 5).rd 1 F.CAN_TX_PEND y = 0) ∧
    ((portAs 5).setBit 1 F.CAN_TX_PEND 0 0).bit 1 F.CAN_TX_PEND 0 0 = true ∧ ((portAs 5).seqr 1 0).run = .stopped ∧
    ((portAs 5).setBit 1 F.CAN_TX_PEND 0 0).pkg.die.get 1 = (portAs 5).pkg.die.get 1 := by decide

/-- A plain register of each access code, one named for SAFE, the threshold, ring and error registers. -/
theorem wit_BusWritesAndAccessCodes_registers :
    (∀ f ∈ [F.LSW_CFG_RESTART_WIN, F.LSW_EVT_CLR_REFUSED, F.LSW_CTRL_LOCK, F.THM_S_TEMP], (findReg (fldAddr 1 f 0 0)).any (fun x =>
      ((portAs 5).regRefused 1 x.1.off x.2.1 0).isNone && (firstOf x.1.off).isNone && !x.1.fields.any (fun g => g.safe))) ∧
    (findReg (fldAddr 1 F.LSW_CFG_RESTART_WIN 0 0)).any (fun x => x.1.fields.any (fun g => g.acc == .rwl)) ∧
    (findReg (fldAddr 1 F.STL_P_HALT_HALTED 0 0)).any (fun x => x.1.fields.any (fun g => g.safe)) ∧
    (findReg (fldAddr 1 F.ADC_ERR_FIRST 0 0)).any (fun x => x.1.off == F.ADC_ERR_FIRST.off) ∧
    ((adcRun .running).seqr 1 0).run ≠ .stopped ∧ (findReg (fldAddr 1 F.ADC_RING_BASE 0 0)).any (fun x => x.1.off == F.ADC_RING_BASE.off) ∧
    (findReg (fldAddr 1 F.THM_LVL_LEVEL 1 0)).any (fun x => x.2.1 == 1 && x.1.off == F.THM_LVL_LEVEL.off) ∧
    (portAs 5).locked 1 F.THM_LVL_LEVEL.off = false ∧ 100 ≤ (portAs 5).rd 1 F.THM_LVL_LEVEL 0 := by decide

/-- A write that moves the RESTART_WIN of die 1, as its value is taken. -/
theorem wit_BusWritesAndAccessCodes_runs :
    exec (wrAt F.LSW_CFG_RESTART_WIN.off 0) (portAs 5) = .next ((portAs 5).busWrite appLead (regAddr 1 F.LSW_CFG_RESTART_WIN.off) 4 0) := rfl

/-- StepRunsFrontCommand: the queue is empty after reset. -/
theorem wit_StepRunsFrontCommand : State.reset.pending = [] := rfl

/-- EveryStepKeepsStoresCanonical: reset with a command waiting has the invariant and its step answers a next state. -/
theorem wit_EveryStepKeepsStoresCanonical :
    ({ State.reset with pending := [.halt 0 0] } : State).Inv ∧
    Machine.step { State.reset with pending := [.halt 0 0] } = Machine.exec (.halt 0 0) State.reset := by
  exact ⟨⟨rfl, rfl⟩, rfl⟩

/-! ## Well-formed commands: each check refuses an ill-formed one -/

/-- A CAN frame of 8 bytes. -/
def canEight : CanFrame :=
  { id := 0x7FF, ext := false, fd := false, brs := false, esi := false, remote := false, dlc := 8, data := List.replicate 8 0,
    sof := 0 }

set_option maxRecDepth 40000 in
/-- Addresses, widths, offsets and slots. -/
theorem test_wf_bus :
    (Instr.registerWrite appLead 0x40110004 4 0).wf = true ∧ (Instr.registerWrite appLead (2 ^ 32) 4 0).wf = false ∧
    (Instr.registerWrite appLead 0x40110004 3 0).wf = false ∧ (Instr.slotSubmit .hostPort 77 0).wf = true ∧
    (Instr.slotSubmit .hostPort 10 0).wf = false ∧ (Instr.slotConsume .hostPort 78 0).wf = false ∧ (Instr.slotPublish 15 0).wf = false ∧
    (Instr.slotTake 78).wf = false ∧ (Instr.payloadWrite .hostPort (2 ^ 21) 0).wf = false ∧ (Instr.earlyRead .hostPort (2 ^ 21)).wf = false ∧
    (Instr.hpiReadWords (2 ^ 24) 1).wf = false ∧ (Instr.hpiWriteWords (2 ^ 24) [] false).wf = false := by decide

set_option maxRecDepth 40000 in
/-- Codes, times, herd nodes and payloads. -/
theorem test_wf_ranges :
    (Instr.conversionResult 0 0 0 0 32768 false false 0).wf = false ∧ (Instr.conversionResult 0 0 0 0 (-32768) false false (2 ^ 48)).wf = false ∧
    (Instr.conversionResult 0 0 0 0 (-32768) false false 0).wf = true ∧ (Instr.ethTxTimestamp 0 0 false (2 ^ 48)).wf = false ∧
    (Instr.ethFrameReceive 0 [] (2 ^ 48)).wf = false ∧ (Instr.gatherBlock 0 [(0, 2 ^ 48)]).wf = false ∧
    (Instr.groupFire 0 0 0 (2 ^ 48)).wf = false ∧
    (Instr.herdPoll 0 []).wf = false ∧ (Instr.herdPoll 30 []).wf = true ∧ (Instr.herdReplyTimeout 0).wf = false ∧
    (Instr.herdLostNodePoll 0).wf = false ∧ (Instr.herdQuietRestore 0).wf = false ∧ (Instr.herdBroadcast (List.replicate 129 0)).wf = false := by
  decide

/-- CAN identifiers and frames: a wide identifier, a wrong length, a remote FD frame, and a rate switch in a classic frame. -/
theorem test_wf_can :
    (Instr.canFrameReceive 0 0 canEight).wf = true ∧ (Instr.canFrameReceive 0 0 { canEight with id := 0x800 }).wf = false ∧
    (Instr.canFrameReceive 0 0 { canEight with data := [] }).wf = false ∧
    (Instr.canFrameReceive 0 0 { canEight with remote := true, fd := true }).wf = false ∧
    (Instr.canFrameReceive 0 0 { canEight with brs := true }).wf = false ∧ (Instr.canBusError 0 0 (2 ^ 29) true 0 0 .nominal).wf = false := by decide

/-! ## Steps, with results from the spec's worked examples -/

set_option maxRecDepth 40000 in
/-- The grid fill of the worked example of chapter 10: ticks k, k + 1, k + 250, k + 600 and k + 900. -/
theorem test_allocation_fill :
    (let port : List (Int × Int × Int) := [(131072, 100000, 1000000), (65536, 50000, 900000), (65536, 50000, 400000)]
     bisect (port ++ rechargeRecs 65536 800000) 2800000 24 0 16777216 = 8888608 ∧
     bisect (port ++ [(32768, 0, 1200000)]) 3300000 24 0 16777216 = 2000000 ∧
     bisect (port ++ [(32768, 0, 1200000)]) 2800000 24 0 16777216 = 1000000 ∧
     bisect (port ++ [(32768, 0, 1200000)]) 2656941 24 0 16777216 = 837960 ∧
     bisect (port ++ [(0, 418980, 418980)]) 2656941 24 0 16777216 = 837961) ∧ quot (2975000 * 65536) 69632 = 2800000 := by decide

/-- The override's fall per grid edge: 600 A over 20 ms and 1 200 A over 10 ms (chapters 11 and 19). -/
theorem test_override_ramp : rampValue 600000 20 1 = 599700 ∧ rampValue 600000 20 2000 = 0 ∧ rampValue 1200000 10 1 = 1198800 := by decide

set_option maxRecDepth 40000 in
/-- CRC-16/CCITT of R258 over the digits 1 to 9: the check value published for these parameters. -/
theorem test_crc16 : crc16 [0x31, 0x32, 0x33, 0x34, 0x35, 0x36, 0x37, 0x38, 0x39] = 0x29B1 := by decide

set_option maxRecDepth 40000 in
/-- The decision of the emergency stop of chapter 19: RAMP_DOWN, MODE 1, RAMP_MS 10, CAUSE 1. -/
theorem test_emergency_stop :
    (let s := ((safRun 5 none none).wr 1 F.SAF_IN_DEMAND 0 0).setBit 1 F.SAF_IN_DEMAND ((safRun 5 none none).cfg 1 0).estopSrc 0
     let t := s.safetyScan 1 (Vector.replicate 4 0xFE) (Vector.replicate 4 0)
     t.psState 1 0 = 6 ∧ t.rd 1 F.OXE_PORT_OVR_MODE 0 = 1 ∧ t.rd 1 F.OXE_PORT_OVR_RAMP_MS 0 = 10 ∧ t.rd 1 F.STL_PSAFE_CAUSE 0 = 1) := by
  decide

/-- CHARGING requested in WELD_CHECK is refused with REFUSED and REF_REQ 5 (chapter 11). -/
theorem test_request_refused :
    (let t := (portAs 7).psJudge 1 0 5 .host
     t.psState 1 0 = 7 ∧ t.on 1 F.STL_PSTATE_REFUSED 0 = true ∧ t.rd 1 F.STL_PSTATE_REF_REQ 0 = 5) := by decide

set_option maxRecDepth 40000 in
/-- The short beside a lamp of chapter 20: channel 5 goes to SHORT_WAIT with count 1, and channel 4 keeps its own retries. -/
theorem test_short_beside_lamp :
    (let s := (((portAs 5).wr 1 F.LSW_CH_STAT_STATE 1 4).wr 1 F.LSW_CH_STAT_STATE 2 5).wr 1 F.LSW_CH_STAT_OUT 1 5
     let t := (s.wr 1 F.LSW_CH_STAT_INRUSH_USED 1 4).lswLimit 1 5
     t.lswSt 1 5 = 4 ∧ t.rd 1 F.LSW_CH_STAT_RESTARTS 5 = 1 ∧ t.lswSt 1 4 = 1 ∧ t.rd 1 F.LSW_CH_STAT_INRUSH_USED 4 = 1) := by decide

/-- The calibration of chapter 06: 317 736 − 21 181 against 10 bar gives GAIN 35 359. -/
theorem test_system_calibration :
    (let c : Collection := { cell := 26, gain := 0, step := 2, n := 4096, sum := 317736 * 4096, count := 4096, meter := none, since := 0 }
     let s := (State.reset.wr 1 F.ADC_SYSCAL_TGT_TARGET 10000).updAdc 1 (fun a => { a with zero := some (26, 0, 21181), coll := some c })
     ((s.calComplete 1).adc.get 1).newPair = some (26, 0, 21181, 35359)) := by decide

/-- add and sub of R191's layout: V3 ← 7 + (−3), and V3 ← 7 − (−3), from words written out of the encoding. -/
theorem test_olc_add_sub :
    (let add : Nat := 0b010000_0011_0001_0010_00000000000000
     let sub : Nat := 0b010001_0011_0001_0010_00000000000000
     ∀ x ∈ [(Instr.olcAdd 1, add, 4), (.olcSub 1, sub, 10)], Yields x.1 (olcAt x.2.1) (fun t => (t.ctx 1 3).v.get 3 = x.2.2)) := by
  intro add sub x hx
  fin_cases hx
  · exact ⟨_, rfl, by decide⟩
  · exact ⟨_, rfl, by decide⟩

end Sys2Proof.Tests
end

/-! # Every step keeps the stores in canonical form

`State.Inv` speaks of the register file and the byte memory alone, and only a few operations write these two: `setWord`, `resetRegs`,
`setByte`, `zeroRange` and `zeroMram`. Every other operation of the model is put together from them, so one lemma for each operation,
in the order of the model's files, follows its definition: `h.wr.log.setInh` is the proof for a state made by `wr`, then `log`, then
`setInh` from one with `h : s.Inv`; `ite`, `foldl` and the like take the branches and loops between them. -/

namespace Sys2Proof.Machine.State

/-! ## How operations are put together -/

section
variable {s t x : State}

/-- What the laws of Laws/Frames.lean call calm keeps the invariant. -/
theorem Inv.ofCalm (c : Calm s t) (h : s.Inv) : t.Inv := by
  obtain ⟨hmem, -, -, hregs⟩ := c
  exact ⟨hmem ▸ h.1, hregs h.2⟩

/-- An update of fields other than the register file and the byte memory. -/
theorem Inv.typed {pending upsets freeIdx now pkg sup logs faults lcs keys gate tsu servo oxe stl veh saf twin adc meter alloc cool plc
    slac herd can acq group lsw hpiOut coreFault} (h : x.Inv) :
    State.Inv ⟨pending, x.regs, x.mem, upsets, freeIdx, now, pkg, sup, logs, faults, lcs, keys, gate, tsu, servo, oxe, stl, veh, saf,
      twin, adc, meter, alloc, cool, plc, slac, herd, can, acq, group, lsw, hpiOut, coreFault⟩ := h

/-- A conditional operation; the state it leaves as it is comes first, so that the other branch can build on it. -/
theorem Inv.ite {c : Prop} [Decidable c] (h : x.Inv) (k : x.Inv → t.Inv) : (if c then t else x).Inv := by
  split
  · exact k h
  · exact h

theorem Inv.dite {c : Prop} [Decidable c] {a : c → State} {b : ¬c → State} (ha : ∀ w, (a w).Inv) (hb : ∀ w, (b w).Inv) :
    (if w : c then a w else b w).Inv := by
  split
  · exact ha _
  · exact hb _

theorem Inv.elim {α : Type} {o : Option α} {f : α → State} (h : x.Inv) (hf : ∀ a, (f a).Inv) : (o.elim x f).Inv := by
  cases o with
  | none => exact h
  | some a => exact hf a

theorem Inv.foldl {α : Type} {f : State → α → State} {l : List α} (hf : ∀ y a, y.Inv → (f y a).Inv) (h : x.Inv) :
    (l.foldl f x).Inv := by
  induction l generalizing x with
  | nil => exact h
  | cons a t ih => exact ih (hf x a h)

/-- A result beside the state. -/
theorem Inv.pair {α : Type} {a : α} (h : x.Inv) : (a, x).2.Inv := h

theorem Inv.iteSnd {α : Type} {c : Prop} [Decidable c] {p q : α × State} (hp : p.2.Inv) (hq : q.2.Inv) :
    (if c then p else q).2.Inv := by
  split
  · exact hp
  · exact hq

theorem Inv.ofSnd {α : Type} {p : α × State} {a : α} (e : p = (a, t)) (h : p.2.Inv) : t.Inv := by
  subst e
  exact h

end

variable {s : State}

/-! ## The operations that write the stores -/

theorem Inv.setWord {a : Nat} {v : Word} (h : s.Inv) : (s.setWord a v).Inv := ⟨h.1, setWord_wf a v h.2⟩

theorem Inv.resetRegs {p : Nat → RegD → Bool} (h : s.Inv) : (s.resetRegs p).Inv := ⟨h.1, resetRegs_wf p h.2⟩

theorem Inv.setByte {k : Nat} {v : Byte} (h : s.Inv) : (s.setByte k v).Inv := ⟨setByte_wf k v h.1, h.2⟩

theorem Inv.zeroRange {k n : Nat} (h : s.Inv) : (s.zeroRange k n).Inv := ⟨zeroRange_wf k n h.1, h.2⟩

theorem Inv.setBytes {k : Nat} {l : List Byte} (h : s.Inv) : (s.setBytes k l).Inv :=
  ⟨setBytes_wf l k h.1, setBytes_regs l s k ▸ h.2⟩

theorem Inv.reset : State.reset.Inv := ⟨rfl, rfl⟩

/-! ## Operations of Ops: registers, memories, free values and event logs (Machine/Ops.lean) -/

theorem Inv.wr {d : Nat} {f : Fld} {v i j : Nat} (h : s.Inv) : (s.wr d f v i j).Inv :=
  Inv.ofCalm (calm_wr _ _ _ _ _ (calm_refl s)) h

theorem Inv.wrB {d : Nat} {f : Fld} {b : Bool} {i j : Nat} (h : s.Inv) : (s.wrB d f b i j).Inv :=
  Inv.ofCalm (calm_wrB _ _ _ _ _ (calm_refl s)) h

theorem Inv.wrI {d : Nat} {f : Fld} {v : Int} {i j : Nat} (h : s.Inv) : (s.wrI d f v i j).Inv :=
  Inv.ofCalm (calm_wrI _ _ _ _ _ (calm_refl s)) h

theorem Inv.satCnt {d : Nat} {f : Fld} {i j : Nat} (h : s.Inv) : (s.satCnt d f i j).Inv :=
  Inv.ofCalm (calm_satCnt _ _ _ _ (calm_refl s)) h

theorem Inv.wrapCnt {d : Nat} {f : Fld} {i j : Nat} (h : s.Inv) : (s.wrapCnt d f i j).Inv :=
  Inv.ofCalm (calm_wrapCnt _ _ _ _ (calm_refl s)) h

theorem Inv.setBit {d : Nat} {f : Fld} {k i j : Nat} (h : s.Inv) : (s.setBit d f k i j).Inv :=
  Inv.ofCalm (calm_setBit _ _ _ _ _ (calm_refl s)) h

theorem Inv.clrBit {d : Nat} {f : Fld} {k i j : Nat} (h : s.Inv) : (s.clrBit d f k i j).Inv :=
  Inv.ofCalm (calm_clrBit _ _ _ _ _ (calm_refl s)) h

theorem Inv.raise {d : Nat} {ev first : Fld} {i : Nat} (h : s.Inv) : (s.raise d ev first i).Inv :=
  Inv.ofCalm (calm_raise _ _ _ _ (calm_refl s)) h

theorem Inv.xlkSent {d : Fin 8} {cls n : Nat} (h : s.Inv) : (s.xlkSent d cls n).Inv :=
  Inv.ofCalm (calm_xlkSent _ _ _ (calm_refl s)) h

theorem Inv.setMword {k : Nat} {v : Word} (h : s.Inv) : (s.setMword k v).Inv := h.setBytes

theorem Inv.setMwords {k : Nat} {l : List Word} (h : s.Inv) : (s.setMwords k l).Inv := by
  induction l generalizing s k with
  | nil => exact h
  | cons w t ih => exact ih (Inv.setMword h)

theorem Inv.eccMend {k : Nat} (h : s.Inv) : (s.eccMend k).Inv := Inv.ofCalm (calm_eccMend _ (calm_refl s)) h

theorem Inv.upset {k : Nat} {bad : Bool} (h : s.Inv) : (s.upset k bad).Inv :=
  (h.eccMend.ite fun _ => h.zeroRange).typed.ite fun _ => h

theorem Inv.freeWord (h : s.Inv) : s.freeWord.2.Inv := h.typed
theorem Inv.freeBytes {n : Nat} (h : s.Inv) : (s.freeBytes n).2.Inv := h.typed

theorem Inv.log {d : Fin 8} {code cls block index count : Nat} {data : List Nat} (h : s.Inv) :
    (s.log d code cls block index count data).Inv :=
  Inv.ofCalm (calm_log _ _ _ _ _ _ _ (calm_refl s)) h

theorem Inv.info {d : Fin 8} {code block index : Nat} {data : List Nat} (h : s.Inv) : (s.info d code block index data).Inv :=
  Inv.ofCalm (calm_info _ _ _ _ _ (calm_refl s)) h

theorem Inv.accessEvent {d : Fin 8} {addr who : Nat} (h : s.Inv) : (s.accessEvent d addr who).Inv :=
  Inv.ofCalm (calm_accessEvent _ _ _ (calm_refl s)) h

/-! ## Acquisition units (Machine/AcqCore.lean) -/

theorem Inv.updAcq {d u : Fin 8} {f : AcqUnit → AcqUnit} (h : s.Inv) : (s.updAcq d u f).Inv :=
  Inv.ofCalm (calm_updAcq _ _ _ (calm_refl s)) h

theorem Inv.groupSettle {d u : Fin 8} (h : s.Inv) : (s.groupSettle d u).Inv := Inv.ofCalm (calm_groupSettle _ _ (calm_refl s)) h

theorem Inv.acqSetSt {d u : Fin 8} {st : Nat} (h : s.Inv) : (s.acqSetSt d u st).Inv :=
  Inv.ofCalm (calm_acqSetSt _ _ _ (calm_refl s)) h

theorem Inv.acqPut {d u : Fin 8} {x : AcqSample} (h : s.Inv) : (s.acqPut d u x).Inv := (h.setBytes.ite Inv.wr).updAcq

theorem Inv.acqRing {d u : Fin 8} {g : AcqTrig} (h : s.Inv) : (s.acqRing d u g).Inv :=
  Inv.ofCalm (calm_acqRing _ _ _ (calm_refl s)) h

theorem Inv.acqTrigger {d u : Fin 8} {g : AcqTrig} (h : s.Inv) : (s.acqTrigger d u g).Inv :=
  (h.acqSetSt.updAcq.foldl fun _ _ h1 => h1.acqPut.ite fun _ => h1).ite fun _ => h.acqRing

theorem Inv.acqAsk {d u : Fin 8} {t : Nat} (h : s.Inv) : (s.acqAsk d u t).Inv := Inv.ofCalm (calm_acqAsk _ _ _ (calm_refl s)) h

theorem Inv.acqFire {d u : Fin 8} {src t : Nat} (h : s.Inv) : (s.acqFire d u src t).Inv :=
  (((h.ite Inv.satCnt).ite fun _ => h.acqTrigger).ite fun _ => h.acqAsk).ite fun _ => h

theorem Inv.acqEvent {d : Fin 8} {src param t : Nat} (h : s.Inv) : (s.acqEvent d src param t).Inv :=
  h.foldl fun _ _ h1 => h1.ite Inv.acqFire

/-! ## Port operations (Machine/PortOps.lean) -/

theorem Inv.putInh {p : Fin 32} {c : Fin 12} {b : Bool} (h : s.Inv) : (s.putInh p c b).Inv :=
  Inv.ofCalm (calm_putInh _ _ _ (calm_refl s)) h

theorem Inv.setInh {p : Fin 32} {c : Fin 12} {b : Bool} (h : s.Inv) : (s.setInh p c b).Inv :=
  Inv.ofCalm (calm_setInh _ _ _ (calm_refl s)) h

theorem Inv.setInhDie {d : Fin 8} {c : Fin 12} {b : Bool} (h : s.Inv) : (s.setInhDie d c b).Inv :=
  Inv.ofCalm (calm_setInhDie _ _ _ (calm_refl s)) h

theorem Inv.updStl {d : Fin 8} {k : Fin 4} {f : StlPort → StlPort} (h : s.Inv) : (s.updStl d k f).Inv :=
  Inv.ofCalm (calm_updStl _ _ _ (calm_refl s)) h

theorem Inv.queueUrgent {d : Fin 8} {k : Fin 4} {v : Word} {ovr : Bool} (h : s.Inv) : (s.queueUrgent d k v ovr).Inv :=
  Inv.ofCalm (calm_queueUrgent _ _ _ _ (calm_refl s)) h

theorem Inv.flushUrgent {d : Fin 8} {k : Fin 4} (h : s.Inv) : (s.flushUrgent d k).Inv :=
  Inv.ofCalm (calm_flushUrgent _ _ (calm_refl s)) h

theorem Inv.haltSet {d : Fin 8} {k : Fin 4} {src : Nat} (h : s.Inv) : (s.haltSet d k src).Inv :=
  Inv.ofCalm (calm_haltSet _ _ _ (calm_refl s)) h

theorem Inv.haltAssert {d : Fin 8} {k : Fin 4} {src : Nat} (h : s.Inv) : (s.haltAssert d k src).Inv :=
  Inv.ofCalm (calm_haltAssert _ _ _ (calm_refl s)) h

theorem Inv.haltRelease {d : Fin 8} {k : Fin 4} (h : s.Inv) : (s.haltRelease d k).Inv :=
  Inv.ofCalm (calm_haltRelease _ _ (calm_refl s)) h

theorem Inv.haltDie {d : Fin 8} {src : Nat} (h : s.Inv) : (s.haltDie d src).Inv := Inv.ofCalm (calm_haltDie _ _ (calm_refl s)) h

theorem Inv.updOvr {d : Fin 8} {k : Fin 4} {f : OvrState → OvrState} (h : s.Inv) : (s.updOvr d k f).Inv :=
  Inv.ofCalm (calm_updOvr _ _ _ (calm_refl s)) h

theorem Inv.overrideStart {d : Fin 8} {k : Fin 4} {ramp : Option Nat} (h : s.Inv) : (s.overrideStart d k ramp).Inv :=
  Inv.ofCalm (calm_overrideStart _ _ _ (calm_refl s)) h

theorem Inv.overrideRelease {d : Fin 8} {k : Fin 4} (h : s.Inv) : (s.overrideRelease d k).Inv :=
  Inv.ofCalm (calm_overrideRelease _ _ (calm_refl s)) h

theorem Inv.rampStep {d : Fin 8} {k : Fin 4} (h : s.Inv) : (s.rampStep d k).Inv :=
  Inv.ofCalm (calm_rampStep _ _ (calm_refl s)) h

theorem Inv.updSaf {d : Fin 8} {k : Fin 4} {f : SafPort → SafPort} (h : s.Inv) : (s.updSaf d k f).Inv :=
  Inv.ofCalm (calm_updSaf _ _ _ (calm_refl s)) h

theorem Inv.psRefuse {d : Fin 8} {k : Fin 4} {tgt : Nat} (h : s.Inv) : (s.psRefuse d k tgt).Inv :=
  Inv.ofCalm (calm_psRefuse _ _ _ (calm_refl s)) h

theorem Inv.psJudge {d : Fin 8} {k : Fin 4} {tgt : Nat} {w : PsWriter} (h : s.Inv) : (s.psJudge d k tgt w).Inv :=
  Inv.ofCalm (calm_psJudge _ _ _ _ (calm_refl s)) h

/-! ## Shared operations of the safety core (Machine/SafetyOps.lean) -/

theorem Inv.onPorts {f : State → Fin 4 → State} (hf : ∀ y k, y.Inv → (f y k).Inv) (h : s.Inv) : (s.onPorts f).Inv :=
  Inv.foldl hf h

theorem Inv.onDies {f : State → Fin 8 → State} (hf : ∀ y d, y.Inv → (f y d).Inv) (h : s.Inv) : (s.onDies f).Inv :=
  Inv.foldl hf h

theorem Inv.onUsed {f : State → Fin 8 → State} (hf : ∀ y d, y.Inv → (f y d).Inv) (h : s.Inv) : (s.onUsed f).Inv :=
  Inv.onDies (fun y d hy => Inv.ite hy fun _ => hf y d hy) h

theorem Inv.causeOn {d : Fin 8} {k : Fin 4} {c : Nat} (h : s.Inv) : (s.causeOn d k c).Inv :=
  Inv.ofCalm (calm_causeOn _ _ _ (calm_refl s)) h

theorem Inv.causeOff {d : Fin 8} {k : Fin 4} {c : Nat} (h : s.Inv) : (s.causeOff d k c).Inv :=
  Inv.ofCalm (calm_causeOff _ _ _ (calm_refl s)) h

theorem Inv.setSout {d : Fin 8} {k : Fin 4} {cmd : Nat} (h : s.Inv) : (s.setSout d k cmd).Inv :=
  Inv.ofCalm (calm_setSout _ _ _ (calm_refl s)) h

theorem Inv.dropSout {d : Fin 8} {k : Fin 4} {mask : Nat} (h : s.Inv) : (s.dropSout d k mask).Inv :=
  Inv.ofCalm (calm_dropSout _ _ _ (calm_refl s)) h

theorem Inv.reqFault {d : Fin 8} {k : Fin 4} (h : s.Inv) : (s.reqFault d k).Inv :=
  Inv.ofCalm (calm_reqFault _ _ (calm_refl s)) h

theorem Inv.rampBegin {d : Fin 8} {k : Fin 4} {c ms : Nat} (h : s.Inv) : (s.rampBegin d k c ms).Inv :=
  Inv.ofCalm (calm_rampBegin _ _ _ _ (calm_refl s)) h

theorem Inv.rampStop {d : Fin 8} {k : Fin 4} {c ms : Nat} (h : s.Inv) : (s.rampStop d k c ms).Inv :=
  Inv.ofCalm (calm_rampStop _ _ _ _ (calm_refl s)) h

theorem Inv.rampEnd {d : Fin 8} {k : Fin 4} (h : s.Inv) : (s.rampEnd d k).Inv := Inv.ofCalm (calm_rampEnd _ _ (calm_refl s)) h

theorem Inv.tripStop {d : Fin 8} {k : Fin 4} {c : Nat} (h : s.Inv) : (s.tripStop d k c).Inv :=
  Inv.ofCalm (calm_tripStop _ _ _ (calm_refl s)) h

theorem Inv.tripEnd {d : Fin 8} {k : Fin 4} (h : s.Inv) : (s.tripEnd d k).Inv := Inv.ofCalm (calm_tripEnd _ _ (calm_refl s)) h
theorem Inv.dieTrip {d : Fin 8} {c : Nat} (h : s.Inv) : (s.dieTrip d c).Inv := Inv.ofCalm (calm_dieTrip _ _ (calm_refl s)) h
theorem Inv.siteTrip {c : Nat} (h : s.Inv) : (s.siteTrip c).Inv := Inv.ofCalm (calm_siteTrip _ (calm_refl s)) h

theorem Inv.degrade {d : Fin 8} {k : Fin 4} {q : Nat} (h : s.Inv) : (s.degrade d k q).Inv :=
  Inv.ofCalm (calm_degrade _ _ _ (calm_refl s)) h

theorem Inv.undegrade {d : Fin 8} {k : Fin 4} {q : Nat} (h : s.Inv) : (s.undegrade d k q).Inv :=
  Inv.ofCalm (calm_undegrade _ _ _ (calm_refl s)) h

theorem Inv.applyRow {d : Fin 8} {k : Fin 4} (h : s.Inv) : (s.applyRow d k).Inv :=
  Inv.ofCalm (calm_applyRow _ _ (calm_refl s)) h

theorem Inv.setRole {r cause : Nat} (h : s.Inv) : (s.setRole r cause).Inv := Inv.ofCalm (calm_setRole _ _ (calm_refl s)) h
theorem Inv.outputsOff (h : s.Inv) : s.outputsOff.Inv := Inv.ofCalm (calm_outputsOff (calm_refl s)) h
theorem Inv.claimDrop (h : s.Inv) : s.claimDrop.Inv := Inv.ofCalm (calm_claimDrop (calm_refl s)) h
theorem Inv.ownRelease (h : s.Inv) : s.ownRelease.Inv := Inv.ofCalm (calm_ownRelease (calm_refl s)) h

/-! ## Fault hierarchy (Machine/FaultOps.lean) -/

theorem Inv.setFaultTimes {key : Nat} {l : List Nat} (h : s.Inv) : (s.setFaultTimes key l).Inv :=
  Inv.ofCalm (calm_setFaultTimes _ _ (calm_refl s)) h

theorem Inv.errRegs {d : Fin 8} {level block code count : Nat} {perm : Bool} (h : s.Inv) :
    (s.errRegs d level block code count perm).Inv :=
  Inv.ofCalm (calm_errRegs _ _ _ _ _ _ (calm_refl s)) h

theorem Inv.fcnt {d : Fin 8} {level count : Nat} (h : s.Inv) : (s.fcnt d level count).Inv :=
  Inv.ofCalm (calm_fcnt _ _ _ (calm_refl s)) h

theorem Inv.retireElem {d : Fin 8} {level block index code count : Nat} {byCommand : Bool} {extra : Nat} (h : s.Inv) :
    (s.retireElem d level block index code count byCommand extra).Inv :=
  Inv.ofCalm (calm_retireElem _ _ _ _ _ _ _ _ (calm_refl s)) h

theorem Inv.countFault {d : Fin 8} {level block index code : Nat} {data : List Nat} (h : s.Inv) :
    (s.countFault d level block index code data).1.Inv :=
  Inv.ofCalm (calm_countFault _ _ _ _ _ _ (calm_refl s)) h

theorem Inv.fault {d : Fin 8} {level block index code : Nat} {data : List Nat} (h : s.Inv) :
    (s.fault d level block index code data).Inv :=
  Inv.ofCalm (calm_fault _ _ _ _ _ _ (calm_refl s)) h

theorem Inv.chipFault {code : Nat} {data : List Nat} {tampered : Bool} (h : s.Inv) : (s.chipFault code data tampered).Inv :=
  Inv.ofCalm (calm_chipFault _ _ _ (calm_refl s)) h

theorem Inv.regionFault {d : Fin 8} {code : Nat} {data : List Nat} (h : s.Inv) : (s.regionFault d code data).Inv :=
  Inv.ofCalm (calm_regionFault _ _ _ (calm_refl s)) h

theorem Inv.ctxFault {d n : Fin 8} {cause : Nat} (h : s.Inv) : (s.ctxFault d n cause).Inv :=
  Inv.ofCalm (calm_ctxFault _ _ _ (calm_refl s)) h

/-! ## Images (Machine/ImageOps.lean) -/

theorem Inv.setMreg {n : Nat} {l : List Byte} (h : s.Inv) : (s.setMreg n l).Inv := h.foldl fun _ _ => Inv.wr
theorem Inv.setImage {d b c : Nat} {l : List Byte} (h : s.Inv) : (s.setImage d b c l).Inv := h.typed
theorem Inv.setCerts {d b : Nat} {l : List (List Byte)} (h : s.Inv) : (s.setCerts d b l).Inv := h.typed
theorem Inv.stagedCheck (h : s.Inv) : s.stagedCheck.Inv := (h.foldl fun _ _ h1 => h1.clrBit.ite fun _ => h1.setBit).wrB

/-! ## Shared window (Machine/WinOps.lean) -/

theorem Inv.accessFault {r : Requester} {addr : Nat} (h : s.Inv) : (s.accessFault r addr).Inv := h.accessEvent.typed
theorem Inv.setHeader {i : Nat} {w : Word} (h : s.Inv) : (s.setHeader i w).Inv := h.setMword
theorem Inv.putPayload {i : Nat} {l : List Word} (h : s.Inv) : (s.putPayload i l).Inv := h.setMwords
theorem Inv.smwErr {f : Fld} {slot : Nat} (h : s.Inv) : (s.smwErr f slot).Inv := (h.ite Inv.wr).raise.wr

theorem Inv.hostHeader {r : Requester} {i : Nat} {w : Word} (h : s.Inv) : (s.hostHeader r i w).Inv :=
  ((h.smwErr.ite fun _ => h.setHeader).ite fun _ => h.setHeader).ite fun _ => h.smwErr

theorem Inv.hostWrite {r : Requester} {off : Nat} {v : Word} (h : s.Inv) : (s.hostWrite r off v).Inv := by
  unfold State.hostWrite
  split
  · exact h.smwErr
  · exact (h.setMword.ite fun _ => h.smwErr).ite fun _ => h.hostHeader

theorem Inv.blockNote {d : Fin 8} {block index code : Nat} {data : List Nat} (h : s.Inv) :
    (s.blockNote d block index code data).Inv :=
  h.log.errRegs.fcnt.ite fun _ => h.log

theorem Inv.winEcc {off : Nat} (h : s.Inv) : (s.winEcc off).Inv := by
  unfold State.winEcc
  split
  · exact h
  · exact h.eccMend.smwErr
  · exact h.smwErr.blockNote

theorem Inv.hostRead {r : Requester} {off : Nat} (h : s.Inv) : (s.hostRead r off).2.Inv := by
  unfold State.hostRead
  split
  · exact h.winEcc
  · exact h.winEcc.satCnt.wr.wrB.iteSnd h.winEcc

theorem Inv.publish {i seq len : Nat} (h : s.Inv) : (s.publish i seq len).Inv :=
  (((h.setHeader.ite Inv.wr).ite fun _ => h.setHeader.wr).ite fun _ => h.setHeader.setBit).ite fun _ => h

theorem Inv.takeSlot {i : Nat} (h : s.Inv) : (s.takeSlot i).Inv := h.ite Inv.setHeader
theorem Inv.claimSlot {i : Nat} (h : s.Inv) : (s.claimSlot i).Inv := h.ite Inv.setHeader

theorem Inv.bulkResult {l : List Word} (h : s.Inv) : (s.bulkResult l).2.Inv := by
  unfold State.bulkResult
  split
  · exact h
  · exact h.claimSlot.putPayload.publish

theorem Inv.deviceWrite {off : Nat} {v : Word} (h : s.Inv) : (s.deviceWrite off v).Inv := by
  unfold State.deviceWrite
  split
  · exact h.smwErr.ite fun _ => h.setMword
  · exact (h.smwErr.ite fun _ => h.setMword).ite fun _ => ((h.smwErr.ite fun _ => h.takeSlot).ite fun _ => h.publish).ite
      fun _ => h.claimSlot

theorem Inv.windowWrite {r : Requester} {off : Nat} {v : Word} (h : s.Inv) : (s.windowWrite r off v).Inv :=
  (((h.accessFault.ite fun _ => h.deviceWrite).ite fun _ => h.accessEvent.ite fun _ => h.hostWrite).ite
    fun _ => h.accessFault).ite fun _ => h.wr

/-! ## Key store (Machine/KeyOps.lean) -/

theorem Inv.setSlotAttr {n v : Nat} (h : s.Inv) : (s.setSlotAttr n v).Inv := h.setWord
theorem Inv.setCache {n : Nat} {v : Option (List Byte)} (h : s.Inv) : (s.setCache n v).Inv := h.typed

theorem Inv.makeBlob {k data : List Byte} {attr label : Nat} (h : s.Inv) : (s.makeBlob k data attr label).2.Inv :=
  Inv.pair (Inv.freeBytes h)

theorem Inv.newRoleKey {n : Nat} {key : List Byte} (h : s.Inv) : (s.newRoleKey n key).Inv := by
  unfold State.newRoleKey
  split
  · exact h
  · exact h.typed.wr.wr

theorem Inv.ownFirst {n owner : Nat} (h : s.Inv) : (s.ownFirst n owner).Inv := h.typed.ite fun _ => h
theorem Inv.putBlobs {n : Nat} {b : Option Blob} (h : s.Inv) : (s.putBlobs n b).Inv := h.typed.wr.ite fun _ => h.typed.wrB

theorem Inv.putKey {n attr label : Nat} {key : List Byte} (h : s.Inv) : (s.putKey n attr label key).Inv :=
  (h.ownFirst.setSlotAttr.wr.setCache.putBlobs.ite fun _ => h.ownFirst.setSlotAttr.wr.setCache.makeBlob.putBlobs).newRoleKey

theorem Inv.clearSlot {n : Nat} (h : s.Inv) : (s.clearSlot n).Inv := h.setSlotAttr.wr.setCache.typed

theorem Inv.bufPut {d : Fin 8} {a : Nat} {l : List Byte} (h : s.Inv) : (s.bufPut d a l).Inv := by
  unfold State.bufPut
  split
  · exact h.setBytes
  · exact h

theorem Inv.winPut {r : Requester} {device : Bool} {off : Nat} {l : List Byte} (h : s.Inv) : (s.winPut r device off l).Inv :=
  h.foldl fun _ _ h1 => h1.hostWrite.ite fun _ => h1.deviceWrite

theorem Inv.opPut {r : Requester} {a : Nat} {l : List Byte} (h : s.Inv) : (s.opPut r a l).Inv := by
  unfold State.opPut
  split
  · exact h.setBytes
  · exact h.winPut
  · exact h

theorem Inv.opNote {r : Requester} {a n : Nat} (h : s.Inv) : (s.opNote r a n).Inv := by
  unfold State.opNote
  split
  · exact h.foldl fun _ _ => Inv.hostRead
  · exact h

theorem Inv.setOpReg {b i : Nat} {v : Word} (h : s.Inv) : (s.setOpReg b i v).Inv := h.typed
theorem Inv.opFinish {b status : Nat} (h : s.Inv) : (s.opFinish b status).Inv := h.setOpReg
theorem Inv.opStatus {b status : Nat} (h : s.Inv) : (s.opStatus b status).Inv := h.setOpReg
theorem Inv.zeroKeyData (h : s.Inv) : s.zeroKeyData.Inv := h.foldl fun _ _ => Inv.wr

theorem Inv.keyWrite {r : Requester} {cmd : Nat} (h : s.Inv) : (s.keyWrite r cmd).Inv := by
  unfold State.keyWrite
  split
  · exact h.accessEvent
  · exact ((h.ite Inv.putKey).ite fun h1 => h1.typed).zeroKeyData.opStatus.ite fun _ => h.accessEvent

theorem Inv.keyErase {r : Requester} {cmd : Nat} (h : s.Inv) : (s.keyErase r cmd).Inv := by
  unfold State.keyErase
  split
  · exact h.accessEvent
  · exact (h.ite Inv.clearSlot).zeroKeyData.opStatus.ite fun _ => h.accessEvent

theorem Inv.keyGo {r : Requester} {op opc : Nat} (h : s.Inv) : (s.keyGo r op opc).Inv := by
  unfold State.keyGo
  split
  · exact h.accessEvent
  · exact (h.setOpReg.typed.setOpReg.ite fun _ => h.setOpReg.opFinish).ite fun _ => h.setOpReg.opFinish

theorem Inv.entropyRetest {q : KeyReq} (h : s.Inv) : (s.entropyRetest q).Inv := h.ite fun h1 => h1.freeWord.wrB

theorem Inv.keyStart (h : s.Inv) : s.keyStart.Inv := by
  unfold State.keyStart
  split
  · exact h.entropyRetest.typed.opFinish.ite fun _ => h.entropyRetest.typed.setOpReg
  · exact h

theorem Inv.putRes {q : KeyReq} {l : List Byte} (h : s.Inv) : (s.putRes q l).2.Inv := h.opPut.iteSnd h

theorem Inv.engEnc {q : KeyReq} {key : List Byte} (h : s.Inv) : (s.engEnc q key).2.Inv := by
  unfold State.engEnc
  split
  · exact h.opPut.opPut
  · exact h

theorem Inv.engDec {q : KeyReq} {key : List Byte} (h : s.Inv) : (s.engDec q key).2.Inv := by
  unfold State.engDec
  split
  · exact h.opPut.iteSnd h.opPut
  · exact h

theorem Inv.engCmac {q : KeyReq} {key : List Byte} (h : s.Inv) : (s.engCmac q key).2.Inv := by
  unfold State.engCmac
  split
  · exact h.putRes
  · exact h

theorem Inv.engCmacChk {q : KeyReq} {key : List Byte} (h : s.Inv) : (s.engCmacChk q key).2.Inv := by
  unfold State.engCmacChk
  split
  · exact h.iteSnd h.opPut
  · exact h

theorem Inv.engSign {q : KeyReq} {key : List Byte} (h : s.Inv) : (s.engSign q key).2.Inv := by
  unfold State.engSign
  split
  · exact h.typed.putRes
  · exact h

theorem Inv.engEcdh {q : KeyReq} {key : List Byte} (h : s.Inv) : (s.engEcdh q key).2.Inv := by
  unfold State.engEcdh
  dsimp only
  split
  · exact h.putKey
  · exact h

theorem Inv.engWrap {q : KeyReq} {key : List Byte} (h : s.Inv) : (s.engWrap q key).2.Inv := h.makeBlob.putRes

theorem Inv.engUnwrap {q : KeyReq} {key : List Byte} (h : s.Inv) : (s.engUnwrap q key).2.Inv := by
  unfold State.engUnwrap
  dsimp only
  split
  · exact h
  · split
    · exact h
    · split
      · exact h.putKey
      · exact h

theorem Inv.engDerive {q : KeyReq} {key : List Byte} (h : s.Inv) : (s.engDerive q key).2.Inv := h.putKey

theorem Inv.engMigrate {q : KeyReq} {key : List Byte} (h : s.Inv) : (s.engMigrate q key).2.Inv :=
  h.iteSnd h.makeBlob.typed.wr.wr

theorem Inv.engGenkey {q : KeyReq} {key : List Byte} (h : s.Inv) : (s.engGenkey q key).2.Inv := h.freeBytes.putKey
theorem Inv.engPubkey {q : KeyReq} {key : List Byte} (h : s.Inv) : (s.engPubkey q key).2.Inv := h.iteSnd h.putRes

theorem Inv.engSha256 {q : KeyReq} {key : List Byte} (h : s.Inv) : (s.engSha256 q key).2.Inv := by
  unfold State.engSha256
  split
  · exact h.putRes
  · exact h

theorem Inv.engSha384 {q : KeyReq} {key : List Byte} (h : s.Inv) : (s.engSha384 q key).2.Inv := by
  unfold State.engSha384
  split
  · exact h.putRes
  · exact h

theorem Inv.engVerify {q : KeyReq} {key : List Byte} (h : s.Inv) : (s.engVerify q key).2.Inv := by
  unfold State.engVerify
  dsimp only
  split
  · exact h.iteSnd h.opPut
  · exact h

theorem Inv.engRandom {q : KeyReq} {key : List Byte} (h : s.Inv) : (s.engRandom q key).2.Inv := h.freeBytes.putRes

theorem Inv.engine {q : KeyReq} {key : List Byte} (h : s.Inv) : (s.engine q key).2.Inv := by
  unfold State.engine
  split
  · exact h.engEnc
  · exact h.engDec
  · exact h.engCmac
  · exact h.engCmacChk
  · exact h.engSign
  · exact h.engEcdh
  · exact h.engWrap
  · exact h.engUnwrap
  · exact h.engDerive
  · exact h.engMigrate
  · exact h.engGenkey
  · exact h.engPubkey
  · exact h.engSha256
  · exact h.engSha384
  · exact h.engVerify
  · exact h.engRandom

theorem Inv.keyDone (h : s.Inv) : s.keyDone.Inv := by
  unfold State.keyDone
  split
  · exact h
  · exact ((h.typed.engine.foldl fun _ _ => Inv.opNote).ite fun _ => h.typed.engine).opFinish

theorem Inv.drawRoot (h : s.Inv) : s.drawRoot.Inv := h.ite fun h1 => h1.freeBytes.typed.wr.wr.wr.wr.wr

theorem Inv.openSlot {n : Nat} (h : s.Inv) : (s.openSlot n).Inv := by
  unfold State.openSlot
  dsimp only
  split
  · exact h
  · split
    · exact h.wr.setSlotAttr.setCache
    · exact h.wr.typed.wr.setSlotAttr.setCache
    · exact h.wr.setSlotAttr.setCache

theorem Inv.dropUnstored {n : Nat} (h : s.Inv) : (s.dropUnstored n).Inv := h.setSlotAttr.wr.setCache.ite fun _ => h
theorem Inv.bootKey (h : s.Inv) : s.bootKey.Inv := h.ite fun h1 => h1.freeBytes.putKey

theorem Inv.m3Key (h : s.Inv) : s.m3Key.Inv := by
  unfold State.m3Key
  split
  · exact h
  · exact h.putKey

theorem Inv.keyStoreStart {fresh : Bool} (h : s.Inv) : (s.keyStoreStart fresh).Inv := by
  unfold State.keyStoreStart
  exact ((h.drawRoot.wr.typed.ite (Inv.foldl (fun _ _ => Inv.dropUnstored))).foldl (fun _ _ => Inv.openSlot)).bootKey.m3Key

theorem Inv.keyConfirm (h : s.Inv) : s.keyConfirm.Inv :=
  h.foldl fun _ _ h1 => (h1.ite fun h2 => h2.typed).typed.wr.ite fun _ => h1.ite fun h3 => h3.typed

theorem Inv.voidPending {c : Nat} (h : s.Inv) : (s.voidPending c).Inv := h.foldl fun _ _ h1 => h1.ite fun h2 => h2.typed.wr.wr

theorem Inv.keyAbort (h : s.Inv) : s.keyAbort.Inv := by
  unfold State.keyAbort
  refine Inv.typed ?_
  refine Inv.foldl (fun _ _ => Inv.opFinish) ?_
  split
  · exact (h.foldl fun _ _ => Inv.opPut).opFinish
  · exact h

theorem Inv.zeroRoot (h : s.Inv) : s.zeroRoot.Inv := h.typed.foldl fun _ _ h1 => h1.ite Inv.wr

theorem Inv.entropyFail {test : Nat} (h : s.Inv) : (s.entropyFail test).Inv := by
  unfold State.entropyFail
  refine Inv.ite ?_ (fun h1 => h1.countFault.ite Inv.chipFault)
  refine Inv.typed ?_
  split
  · exact h.wr.ite fun h1 => h1.typed.opFinish
  · exact h.wr

/-! ## Meter (Machine/MeterOps.lean) -/

theorem Inv.updMeter {f : Meter → Meter} (h : s.Inv) : (s.updMeter f).Inv := h.typed
theorem Inv.updPm {p : Fin 32} {f : PortMeter → PortMeter} (h : s.Inv) : (s.updPm p f).Inv := h.updMeter
theorem Inv.markProf {b : Nat} (h : s.Inv) : (s.markProf b).Inv := h.updMeter
theorem Inv.markSess {p : Fin 32} {b : Nat} (h : s.Inv) : (s.markSess p b).Inv := h.updMeter
theorem Inv.markPort {p : Fin 32} {b : Nat} (h : s.Inv) : (s.markPort p b).Inv := h.markProf.markSess
theorem Inv.markAll {b : Nat} (h : s.Inv) : (s.markAll b).Inv := h.markProf.foldl fun _ _ => Inv.markSess
theorem Inv.markNow (h : s.Inv) : s.markNow.Inv := h.markProf.foldl fun _ _ => Inv.markSess

theorem Inv.meterLog {code port : Nat} {data : List Int} (h : s.Inv) : (s.meterLog code port data).Inv :=
  h.updMeter.ite fun _ => h.updMeter

theorem Inv.stream {i : ChangeItem} (h : s.Inv) : (s.stream i).Inv := h.ite fun h1 => h1.typed

theorem Inv.meterSend {d : Fin 8} (h : s.Inv) : (s.meterSend d).Inv :=
  (h.updMeter.onPorts fun _ _ => Inv.updPm).xlkSent.ite fun _ => h

theorem Inv.meterReceive {d : Fin 8} (h : s.Inv) : (s.meterReceive d).Inv := by
  unfold State.meterReceive
  split
  · exact h
  · exact (h.onPorts fun _ _ h1 => (h1.updMeter.ite Inv.markPort).updPm).updMeter.ite fun _ => h

theorem Inv.meterAck {d : Fin 8} (h : s.Inv) : (s.meterAck d).Inv := by
  unfold State.meterAck
  split
  · exact h
  · exact h.ite fun h1 => (h1.onPorts fun _ _ => Inv.updPm).updMeter.xlkSent

theorem Inv.accountEvent {a : Nat} {fell : Bool} {bal : Int} (h : s.Inv) : (s.accountEvent a fell bal).Inv :=
  (h.ite Inv.meterLog).updMeter

theorem Inv.debit {b : Nat × Nat} (h : s.Inv) : (s.debit b).Inv := (h.updMeter.stream.ite fun _ => h.updMeter).accountEvent

theorem Inv.meterCommit (h : s.Inv) : s.meterCommit.Inv :=
  ((h.onPorts fun _ _ h1 => (h1.updMeter.ite Inv.markPort).updPm).foldl (fun _ _ => Inv.debit)).updMeter.ite fun _ => h

theorem Inv.meterGather (h : s.Inv) : s.meterGather.Inv :=
  ((h.onUsed (fun _ _ => Inv.meterReceive)).meterCommit.onUsed
    fun _ _ h1 => h1.meterAck.meterSend.meterReceive).meterCommit.onUsed (fun _ _ => Inv.meterAck)

theorem Inv.meterVolt {p : Fin 32} {code : Int} (h : s.Inv) : (s.meterVolt p code).Inv := h.updPm
theorem Inv.meterCurr {p : Fin 32} {code : Int} {t : Nat} (h : s.Inv) : (s.meterCurr p code t).Inv := h.updPm.ite fun _ => h

theorem Inv.creditSite {id n : Nat} {late : Bool} (h : s.Inv) : (s.creditSite id n late).Inv :=
  (h.updMeter.ite fun _ => h.updMeter).ite fun _ => h

theorem Inv.sitePhase {k : Fin 3} {code : Int} {t : Nat} (h : s.Inv) : (s.sitePhase k code t).Inv := by
  unfold State.sitePhase
  split
  · exact (h.creditSite.creditSite.ite Inv.markProf).updMeter
  · exact h.updMeter

theorem Inv.siteSample {c : Fin 8} {code : Int} {t : Nat} (h : s.Inv) : (s.siteSample c code t).Inv :=
  Inv.dite (fun _ => h.updMeter.sitePhase) fun _ => h.updMeter

theorem Inv.reactive {p q : Int} (h : s.Inv) : (s.reactive p q).Inv := h.ite Inv.creditSite
theorem Inv.sessionStart {d : Fin 8} {k : Fin 4} (h : s.Inv) : (s.sessionStart d k).Inv := h.updMeter.markSess.stream

theorem Inv.sessionStop {p : Fin 32} {extra : Nat} (h : s.Inv) : (s.sessionStop p extra).Inv := by
  unfold State.sessionStop
  split
  · exact h
  · exact (h.foldl (fun _ _ => Inv.debit)).updMeter.updMeter

theorem Inv.closingRecord {p : Fin 32} (h : s.Inv) : (s.closingRecord p).Inv := by
  unfold State.closingRecord
  split
  · exact h.sessionStop
  · split
    · exact h.updMeter
    · exact h.updMeter

theorem Inv.storeRecord {r : SessionRecord} (h : s.Inv) : (s.storeRecord r).Inv := h.updMeter

theorem Inv.signRecord {r : SessionRecord} (h : s.Inv) : (s.signRecord r).Inv := by
  unfold State.signRecord
  dsimp only
  split
  · exact h.storeRecord.stream.meterLog.ite fun _ => h.typed.storeRecord.stream
  · exact h.storeRecord.stream.meterLog

theorem Inv.recordSign {p : Fin 32} (h : s.Inv) : (s.recordSign p).Inv := by
  unfold State.recordSign
  refine Inv.ite ?_ fun _ => h
  split
  · exact h
  · exact h.updMeter.signRecord

theorem Inv.powerfailSign (h : s.Inv) : s.powerfailSign.Inv := (h.updMeter.foldl (fun _ _ => Inv.signRecord)).ite fun _ => h

theorem Inv.tamperOn {code port : Nat} {data : List Int} (h : s.Inv) : (s.tamperOn code port data).Inv :=
  h.updMeter.meterLog.markNow.ite fun _ => h

theorem Inv.tamperOff {code port : Nat} (h : s.Inv) : (s.tamperOff code port).Inv := h.updMeter.ite fun _ => h

theorem Inv.windowJudge {id reg : Nat} {own peer : List (Nat × Nat)} {bad : Bool} (h : s.Inv) :
    (s.windowJudge id reg own peer bad).Inv :=
  h.updMeter.ite Inv.meterLog

theorem Inv.twinWindow (h : s.Inv) : s.twinWindow.Inv :=
  ((h.foldl fun _ _ => Inv.windowJudge).foldl fun _ _ => Inv.windowJudge).updMeter.ite fun _ => h

/-! ## Acquisition (Machine/AcqOps.lean) -/

theorem Inv.acqEntry {d u : Fin 8} {entry t : Nat} (h : s.Inv) : (s.acqEntry d u entry t).Inv := h.ite Inv.acqFire

theorem Inv.acqWord {d u : Fin 8} {w : Word} {t dec : Nat} {entryEnd : Bool} (h : s.Inv) :
    (s.acqWord d u w t dec entryEnd).Inv := by
  unfold State.acqWord
  dsimp only
  refine Inv.ite h (fun h1 => ?_)
  refine Inv.ite ?_ Inv.acqEntry
  refine Inv.ite ((h1.updAcq.ite Inv.updAcq).ite Inv.acqPut) (fun h2 => ?_)
  split
  · exact h2.updAcq.acqFire.updAcq
  · exact h2.updAcq

theorem Inv.acqResult {d : Fin 8} {q : Fin 2} {entry : Nat} {w : Word} {t : Nat} {entryEnd : Bool} (h : s.Inv) :
    (s.acqResult d q entry w t entryEnd).Inv :=
  h.foldl fun _ _ h1 => ((h1.ite Inv.acqEntry).ite fun _ => h1.acqWord).ite fun _ => h1

theorem Inv.acqSeqChg {d : Fin 8} {q : Fin 2} (h : s.Inv) : (s.acqSeqChg d q).Inv :=
  h.onDies fun _ _ => Inv.foldl fun _ _ h1 => h1.ite Inv.updAcq

theorem Inv.acqWriteHead {d u : Fin 8} (h : s.Inv) : (s.acqWriteHead d u).Inv := h.setMwords
theorem Inv.acqClearValid {d u : Fin 8} (h : s.Inv) : (s.acqClearValid d u).Inv := h.foldl fun _ _ => Inv.setByte
theorem Inv.acqArm {d u : Fin 8} (h : s.Inv) : (s.acqArm d u).Inv := h.wr.acqClearValid.wr.wr.updAcq.acqSetSt.ite fun _ => h.wr

theorem Inv.acqHalt {d u : Fin 8} {ovf : Bool} (h : s.Inv) : (s.acqHalt d u ovf).Inv :=
  h.ite fun h1 => ((h1.ite Inv.updAcq).ite Inv.acqWriteHead).acqSetSt.setBit

theorem Inv.acqSegDone {d u : Fin 8} (h : s.Inv) : (s.acqSegDone d u).Inv :=
  h.ite fun h1 => h1.acqWriteHead.wr.updAcq.acqSetSt.setBit.ite fun _ => h1.acqWriteHead.wr.updAcq.acqSetSt

theorem Inv.acqPostDone {d u : Fin 8} (h : s.Inv) : (s.acqPostDone d u).Inv := h.ite fun h1 => h1.acqWriteHead.acqSetSt.setBit

theorem Inv.groupClear {g : Fin 8} (h : s.Inv) : (s.groupClear g).Inv :=
  h.onDies fun _ _ => Inv.foldl fun _ _ h1 => h1.ite Inv.updAcq

theorem Inv.groupFire {g d u : Fin 8} {t : Nat} (h : s.Inv) : (s.groupFire g d u t).Inv :=
  h.ite fun h1 => h1.groupClear.wr.wrapCnt.wr.wr.wr.onUsed fun _ _ => Inv.foldl fun _ _ h2 => (h2.satCnt.ite
    fun _ => h2.typed.acqTrigger).ite fun _ => h2

theorem Inv.xlkFirst {d code : Nat} (h : s.Inv) : (s.xlkFirst d code).Inv := h.ite Inv.wr
theorem Inv.gathLost {u : Fin 8} (h : s.Inv) : (s.gathLost u).Inv := h.wr.xlkFirst.acqHalt

theorem Inv.acqLeave {d : Fin 8} (h : s.Inv) : (s.acqLeave d).Inv :=
  ((h.foldl fun _ _ h1 => h1.ite Inv.gathLost).ite fun _ => h.typed).foldl fun _ _ => Inv.groupSettle

/-! ## Flags (Machine/Flags.lean) -/

theorem Inv.orSat {d n : Fin 8} {b : Bool} (h : s.Inv) : (s.orSat d n b).Inv := h.ite Inv.wr
theorem Inv.orInv {d n : Fin 8} {b : Bool} (h : s.Inv) : (s.orInv d n b).Inv := h.ite Inv.wr
theorem Inv.orSwp {d n : Fin 8} {b : Bool} (h : s.Inv) : (s.orSwp d n b).Inv := h.ite Inv.wr

theorem Inv.clearFlags {d n : Fin 8} {mask : Nat} (h : s.Inv) : (s.clearFlags d n mask).Inv :=
  ((h.ite Inv.wr).ite Inv.wr).ite Inv.wr

/-! ## Operands of loop code (Machine/Operands.lean) -/

theorem Inv.updOxe {d : Fin 8} {f : Oxe → Oxe} (h : s.Inv) : (s.updOxe d f).Inv := h.typed
theorem Inv.updCtx {d n : Fin 8} {f : CtxState → CtxState} (h : s.Inv) : (s.updCtx d n f).Inv := h.updOxe
theorem Inv.setV {d n : Fin 8} {r : Fin 16} {x : Int} (h : s.Inv) : (s.setV d n r x).Inv := h.updCtx
theorem Inv.setVSat {d n : Fin 8} {r : Fin 16} {y : Int} (h : s.Inv) : (s.setVSat d n r y).Inv := h.setV.orSat
theorem Inv.setAcc {d n : Fin 8} {a : Fin 2} {x : Int} (h : s.Inv) : (s.setAcc d n a x).Inv := h.updCtx
theorem Inv.setAccSat {d n : Fin 8} {a : Fin 2} {y : Int} (h : s.Inv) : (s.setAccSat d n a y).Inv := h.setAcc.orSat
theorem Inv.dataSet {d : Fin 8} {i : Nat} {x : Int} (h : s.Inv) : (s.dataSet d i x).Inv := h.setMword
theorem Inv.waitWake {d n : Fin 8} {vd outcome : Nat} (h : s.Inv) : (s.waitWake d n vd outcome).Inv := h.updCtx.setV.wr

theorem Inv.waitEvent {d : Fin 8} {ev param : Nat} (h : s.Inv) : (s.waitEvent d ev param).Inv := by
  unfold State.waitEvent
  refine Inv.foldl (fun _ _ h1 => ?_) h
  split
  · exact h1.ite Inv.waitWake
  · exact h1

theorem Inv.trigSelected {d n : Fin 8} (h : s.Inv) : (s.trigSelected d n).Inv :=
  (h.ite fun h1 => h1.satCnt.ite Inv.ctxFault).ite fun _ => h.wr

theorem Inv.trigCount {d n : Fin 8} {src : Nat} (h : s.Inv) : (s.trigCount d n src).2.Inv := h.updCtx.iteSnd h
theorem Inv.trigEvent {d n : Fin 8} {src : Nat} (h : s.Inv) : (s.trigEvent d n src).Inv := h.trigCount.ite Inv.updCtx

theorem Inv.trigAll {d : Fin 8} {src : Nat} {p : Fin 8 → Bool} (h : s.Inv) : (s.trigAll d src p).Inv :=
  h.foldl fun _ _ h1 => h1.ite Inv.trigEvent

theorem Inv.trigWhole {d n : Fin 8} {src : Nat} (h : s.Inv) : (s.trigWhole d n src).2.Inv :=
  Inv.iteSnd (Inv.trigCount h) (Inv.iteSnd (Inv.clrBit (Inv.wrapCnt (Inv.trigCount h))) (Inv.trigSelected (Inv.trigCount h)))

theorem Inv.remoteSet {d : Fin 8} {i : Nat} {v : Word} (h : s.Inv) : (s.remoteSet d i v).Inv := h.updOxe.waitEvent
theorem Inv.oxeErr {d : Fin 8} {f : Fld} (h : s.Inv) : (s.oxeErr d f).Inv := h.wr.ite Inv.wr
theorem Inv.oxeErrCtx {d n : Fin 8} {f : Fld} (h : s.Inv) : (s.oxeErrCtx d n f).Inv := h.wr.ite fun h1 => h1.wr.wr

theorem Inv.eccSeen {d n : Fin 8} {k : Nat} (h : s.Inv) : (s.eccSeen d n k).Inv := by
  unfold State.eccSeen
  split
  · exact h
  · exact h.eccMend.updOxe.oxeErrCtx
  · exact h.oxeErrCtx

theorem Inv.eccMeet {d n : Fin 8} {ks : List Nat} (h : s.Inv) : (s.eccMeet d n ks).Inv :=
  (h.foldl fun _ _ => Inv.eccSeen).ite Inv.ctxFault

/-! ## Converter block (Machine/AdcOps.lean) -/

theorem Inv.updAdc {d : Fin 8} {f : Adc → Adc} (h : s.Inv) : (s.updAdc d f).Inv := h.typed
theorem Inv.updSq {d : Fin 8} {q : Fin 2} {f : Seqr → Seqr} (h : s.Inv) : (s.updSq d q f).Inv := h.updAdc
theorem Inv.updLane {d : Fin 8} {k : Fin 3} {f : LaneState → LaneState} (h : s.Inv) : (s.updLane d k f).Inv := h.updAdc
theorem Inv.setPosLane {d : Fin 8} {q : Fin 2} {k : Nat} (h : s.Inv) : (s.setPosLane d q k).Inv := h.wr
theorem Inv.setRunBit {d : Fin 8} {q : Fin 2} {b : Bool} (h : s.Inv) : (s.setRunBit d q b).Inv := h.wrB
theorem Inv.rotEvt {d : Fin 8} {f : Fld} (h : s.Inv) : (s.rotEvt d f).Inv := h.raise
theorem Inv.adcErr {d : Fin 8} {f : Fld} (h : s.Inv) : (s.adcErr d f).Inv := h.raise

theorem Inv.setActive {d : Fin 8} {q : Fin 2} {a : SeqSet} (h : s.Inv) : (s.setActive d q a).Inv :=
  ((h.updSq.foldl fun _ _ => Inv.setWord).foldl fun _ _ => Inv.wr).wr

theorem Inv.sqEdge {d : Fin 8} {q : Fin 2} (h : s.Inv) : (s.sqEdge d q).Inv := h.ite Inv.updSq
theorem Inv.seqCommit {d : Fin 8} {q : Fin 2} (h : s.Inv) : (s.seqCommit d q).Inv := h.updSq.ite fun _ => h.wr

theorem Inv.commitDone {d : Fin 8} {q : Fin 2} (h : s.Inv) : (s.commitDone d q).Inv := by
  unfold State.commitDone
  split
  · exact h
  · exact ((h.updSq.wr.wr.wr.setActive.ite Inv.updSq).ite fun _ => h.updSq.wr.wr.wr.updSq.wr).ite fun _ => h.updSq.wr.wr.wr

theorem Inv.sqRun {d : Fin 8} {q : Fin 2} (h : s.Inv) : (s.sqRun d q).Inv := by
  unfold State.sqRun
  dsimp only
  split
  · exact h.wr.updSq
  · exact h.wr.updSq
  · exact h.wr

theorem Inv.coverageLost {d : Fin 8} {ks : List (Fin 4)} (h : s.Inv) : (s.coverageLost d ks).Inv :=
  h.foldl fun _ _ h1 => (h1.wr.tripStop.ite fun _ => h1.wr.degrade).ite fun _ => h1

theorem Inv.coverageBack {d : Fin 8} {q : Fin 2} (h : s.Inv) : (s.coverageBack d q).Inv :=
  h.foldl fun _ _ h1 => (h1.setInh.ite Inv.wr).ite fun _ => h1

theorem Inv.setPhase {d : Fin 8} {p : Nat} (h : s.Inv) : (s.setPhase d p).Inv := h.wr
theorem Inv.rotLast {d : Fin 8} {agree : Bool} (h : s.Inv) : (s.rotLast d agree).Inv := h.wr.wr.wr.wrB
theorem Inv.clearPairs {d : Fin 8} (h : s.Inv) : (s.clearPairs d).Inv := h.updAdc.wr

theorem Inv.compareResult {d : Fin 8} {new : Bool} {entry cell gain t : Nat} {r : Int} {usable : Bool} (h : s.Inv) :
    (s.compareResult d new entry cell gain t r usable).Inv := by
  unfold State.compareResult
  dsimp only
  split
  · exact h.updAdc.ite Inv.updAdc
  · exact h.updAdc

theorem Inv.laneServes {d : Fin 8} {k : Fin 3} {q : Fin 2} {atBoundary : Bool} (h : s.Inv) :
    (s.laneServes d k q atBoundary).Inv :=
  h.updLane.updAdc.setPosLane.updSq

theorem Inv.laneCal {d : Fin 8} {k : Fin 3} (h : s.Inv) : (s.laneCal d k).Inv := h.updLane
theorem Inv.countSwap {d : Fin 8} (h : s.Inv) : (s.countSwap d).Inv := h.onPorts fun _ _ => Inv.updPm

theorem Inv.suspend {d : Fin 8} (h : s.Inv) : (s.suspend d).Inv :=
  h.wr.setPhase.rotEvt.clearPairs.updAdc.wr.onPorts fun _ _ => Inv.degrade

theorem Inv.swapLanes {d : Fin 8} {q : Fin 2} {new : Fin 3} (h : s.Inv) : (s.swapLanes d q new).Inv := h.laneServes.wr.wr.updAdc
theorem Inv.leaveUnserved {d : Fin 8} {q : Fin 2} (h : s.Inv) : (s.leaveUnserved d q).Inv := h.updSq.coverageLost

theorem Inv.oneLane {d : Fin 8} (h : s.Inv) : (s.oneLane d).Inv :=
  h.ite fun h1 => (h1.foldl fun _ _ h2 => h2.ite (Inv.foldl fun _ _ => Inv.setInh)).regionFault

theorem Inv.relievePos {d : Fin 8} {q : Fin 2} (h : s.Inv) : (s.relievePos d q).Inv := by
  unfold State.relievePos
  split
  · exact h.leaveUnserved
  · exact h.leaveUnserved.laneCal.setPhase.clearPairs.ite fun _ => h.laneServes.satCnt.countSwap.suspend

theorem Inv.laneOut {d : Fin 8} {k : Fin 3} {byLoss : Bool} (h : s.Inv) : (s.laneOut d k byLoss).Inv :=
  ((((h.wr.updLane.meterLog.relievePos.ite fun _ => h.wr.updLane.meterLog.updSq.clearPairs.setPhase.ite
    fun _ => h.wr.updLane.meterLog.updSq).ite fun _ => h.wr.updLane.meterLog.updSq.relievePos).ite
    fun _ => h.wr.updLane.meterLog).ite fun _ => h.wr.updLane.meterLog.suspend).oneLane

theorem Inv.laneFault {d : Fin 8} {k : Fin 3} {code : Nat} {data : List Nat} (h : s.Inv) : (s.laneFault d k code data).Inv :=
  h.countFault.wr.ite Inv.laneOut

theorem Inv.suspectLane {d : Fin 8} {k : Fin 3} (h : s.Inv) : (s.suspectLane d k).Inv := h.wr.updLane.laneCal

theorem Inv.newcomerSuspect {d : Fin 8} {k : Fin 3} (h : s.Inv) : (s.newcomerSuspect d k).Inv :=
  h.suspectLane.setPhase.clearPairs.laneFault

theorem Inv.abortRotation {d : Fin 8} (h : s.Inv) : (s.abortRotation d).Inv :=
  h.updAdc.clearPairs.setPhase.wr.ite fun _ => h.updAdc

theorem Inv.calRestart {d : Fin 8} (h : s.Inv) : (s.calRestart d).Inv :=
  h.foldl fun _ _ h1 => (h1.ite Inv.laneCal).ite fun _ => h1

theorem Inv.placeLanes {d : Fin 8} (h : s.Inv) : (s.placeLanes d).Inv :=
  (h.foldl fun _ _ h1 => h1.updLane.ite fun _ => h1).setPosLane.setPosLane.wr.setPhase.updSq.updSq.ite fun _ => h

theorem Inv.zeroFlag {d : Fin 8} (h : s.Inv) : (s.zeroFlag d).Inv := h.wrB

theorem Inv.calStart {d : Fin 8} {cell gain step navg : Nat} {meter : Option Int} (h : s.Inv) :
    (s.calStart d cell gain step navg meter).Inv :=
  h.updAdc.wr.wr

theorem Inv.syscalGo {d : Fin 8} {w : Word} (h : s.Inv) : (s.syscalGo d w).Inv :=
  (h.wr.wr.wr.wr.wr.updAdc.ite fun _ => h.wr.wr.wr.wr.wr.calStart).wr.zeroFlag

theorem Inv.calEnd {d : Fin 8} {st : Nat} (h : s.Inv) : (s.calEnd d st).Inv := by
  unfold State.calEnd
  split
  · exact h
  · exact h.updAdc.wr.wr.zeroFlag.ite fun _ => h.updAdc.wr.updAdc

theorem Inv.calGone {d : Fin 8} (h : s.Inv) : (s.calGone d).Inv := by
  unfold State.calGone
  split
  · exact h
  · exact h.calEnd.ite fun _ => h

theorem Inv.calComplete {d : Fin 8} (h : s.Inv) : (s.calComplete d).Inv := by
  unfold State.calComplete
  split
  · exact h
  · exact ((h.updAdc.calEnd.ite fun _ => h.calEnd).ite fun _ => h.updAdc.calEnd).ite fun _ => h

theorem Inv.applyPair {d : Fin 8} {t : Nat} (h : s.Inv) : (s.applyPair d t).Inv := by
  unfold State.applyPair
  split
  · exact h
  · exact h.updAdc

theorem Inv.overlapRound {d : Fin 8} {q : Fin 2} {committed : Bool} (h : s.Inv) : (s.overlapRound d q committed).Inv :=
  h.ite fun h1 => h1.wr.ite fun _ => h1.clearPairs.wr.rotEvt.ite fun h3 => h3.updAdc.setPhase

theorem Inv.meterFeed {d : Fin 8} {cell gain : Nat} {x : Int} {t : Nat} (h : s.Inv) : (s.meterFeed d cell gain x t).Inv :=
  Inv.dite (fun _ => ((h.ite Inv.meterVolt).ite Inv.updPm).ite Inv.meterCurr) fun _ => Inv.dite (fun _ => h.siteSample)
    fun _ => h

theorem Inv.keepLast {d : Fin 8} {cell : Nat} {x : Int} {replaced : Bool} (h : s.Inv) : (s.keepLast d cell x replaced).Inv :=
  h.updAdc

theorem Inv.fillLost {d : Fin 8} {q : Fin 2} {a : SeqSet} {lo hi : Nat} (h : s.Inv) : (s.fillLost d q a lo hi).Inv :=
  h.foldl fun _ _ h1 => h1.ite fun h2 => h2.keepLast.meterFeed

theorem Inv.slotDone {d : Fin 8} {q : Fin 2} {a : SeqSet} {i t : Nat} (h : s.Inv) : (s.slotDone d q a i t).Inv :=
  (h.ite Inv.fillLost).updSq

theorem Inv.slotWrap {d : Fin 8} {q : Fin 2} (h : s.Inv) : (s.slotWrap d q).Inv := by
  unfold State.slotWrap
  split
  · exact h
  · exact (h.ite Inv.fillLost).updSq

theorem Inv.sqHalt {d : Fin 8} {q : Fin 2} (h : s.Inv) : (s.sqHalt d q).Inv := by
  unfold State.sqHalt
  refine Inv.ite ?_ (fun h1 => h1.elim fun _ => h1.newcomerSuspect)
  refine Inv.calGone ?_
  split
  · exact h.updSq.setRunBit.setActive.wr
  · exact h.updSq.setRunBit

theorem Inv.markRound {d : Fin 8} {q : Fin 2} (h : s.Inv) : (s.markRound d q).Inv := h.updSq.wrapCnt

theorem Inv.roundStart {d : Fin 8} {q : Fin 2} (h : s.Inv) : (s.roundStart d q).Inv := by
  unfold State.roundStart
  dsimp only
  split
  · exact h
  · exact h.updSq.setRunBit.applyPair.markRound.ite fun _ => h
  · exact (h.slotWrap.ite Inv.relievePos).sqHalt.applyPair
  · refine Inv.ite ?_ fun _ => ?_
    · refine Inv.markRound ?_
      refine Inv.ite ?_ Inv.coverageBack
      refine Inv.ite ?_ Inv.relievePos
      refine Inv.applyPair ?_
      refine Inv.overlapRound ?_
      split
      · exact h.slotWrap.setActive.updSq.wr.acqSeqChg.calGone
      · exact h.slotWrap
    · refine Inv.ite ?_ Inv.relievePos
      refine Inv.applyPair ?_
      refine Inv.overlapRound ?_
      split
      · exact h.slotWrap.setActive.updSq.wr.acqSeqChg.calGone
      · exact h.slotWrap

theorem Inv.sqStop {d : Fin 8} {q : Fin 2} (h : s.Inv) : (s.sqStop d q).Inv := by
  unfold State.sqStop
  refine Inv.ite h.adcErr fun _ => ?_
  split
  · exact h.wr.updSq
  · exact h.wr.updSq.ite fun h2 => h2.clearPairs.updAdc.setPhase
  · exact h.wr

/-! ## Conversion results, references and calibration (Machine/Adc.lean) -/

theorem Inv.ringPut {d : Fin 8} {base size wptr wrap : Fld} {i : Nat} {w : Word} (h : s.Inv) :
    (s.ringPut d base size wptr wrap i w).Inv :=
  (h.bufPut.wr.ite Inv.wrapCnt).ite fun _ => h

theorem Inv.hwTrip {d : Fin 8} {k : Fin 4} {t : Nat} (h : s.Inv) : (s.hwTrip d k t).Inv :=
  (h.putInh.haltSet.acqEvent.ite fun _ => h.putInh.haltSet).acqEvent.ite fun _ => h.putInh.haltSet.acqEvent.ite
    fun _ => h.putInh.haltSet

theorem Inv.winCheck {d : Fin 8} {cell w : Nat} {v : Int} {t : Nat} (h : s.Inv) : (s.winCheck d cell w v t).Inv :=
  Inv.dite (fun _ => h.ite fun h1 => h1.setBit.hwTrip.acqEvent.ite fun _ => h1.setBit.hwTrip) fun _ => h

theorem Inv.meterValue {d : Fin 8} {cell : Nat} {v : Int} {start : Nat} (h : s.Inv) : (s.meterValue d cell v start).2.Inv :=
  h.updAdc.keepLast

theorem Inv.meterPath {d : Fin 8} {q : Fin 2} {cell gain : Nat} {v : Int} {t ts : Nat} (h : s.Inv) :
    (s.meterPath d q cell gain v t ts).Inv :=
  h.meterValue.meterFeed.ite fun _ => h

theorem Inv.calSample {d : Fin 8} {cell gain : Nat} {r : Int} {rail : Bool} {t : Nat} (h : s.Inv) :
    (s.calSample d cell gain r rail t).Inv := by
  unfold State.calSample
  split
  · exact h
  · exact (h.updAdc.wr.ite fun _ => (h.wr.ite fun _ => h.updAdc).calEnd).ite fun _ => h

theorem Inv.shuntSum {d : Fin 8} {cell : Nat} {v : Int} (h : s.Inv) : (s.shuntSum d cell v).Inv := h.ite fun h1 => h1.typed
theorem Inv.entryDone {d : Fin 8} {q : Fin 2} {entry : Nat} (h : s.Inv) : (s.entryDone d q entry).Inv := h.waitEvent.trigAll

theorem Inv.newcomerResult {d : Fin 8} {entry cell : Nat} {c : ConvResult} {t : Nat} (h : s.Inv) :
    (s.newcomerResult d entry cell c t).Inv :=
  (h.ite Inv.winCheck).compareResult

theorem Inv.holderResult {d : Fin 8} {q : Fin 2} {a : SeqSet} {entry cell : Nat} {c : ConvResult} {rail : Bool} {t : Nat}
    (h : s.Inv) : (s.holderResult d q a entry cell c rail t).Inv :=
  (((((((h.elim fun _ => h.slotDone).setWord.updOxe.ite Inv.shuntSum).acqResult.ite Inv.winCheck).ite Inv.ringPut).ite
    fun h1 => h1.meterPath.calSample).ite
    fun _ => ((((h.elim fun _ => h.slotDone).setWord.updOxe.ite Inv.shuntSum).acqResult.ite Inv.winCheck).ite
    Inv.ringPut).updAdc).ite Inv.compareResult).ite Inv.entryDone

theorem Inv.conversion {d : Fin 8} {q : Fin 2} {entry : Fin 16} {cell : Fin 72} {code : Int} {rail newcomer : Bool}
    {t : Nat} (h : s.Inv) : (s.conversion d q entry cell code rail newcomer t).Inv := by
  unfold State.conversion
  split
  · exact h
  · refine Inv.ite ?_ fun _ => h
    refine Inv.ite h.holderResult fun _ => ?_
    split
    · exact h
    · exact h.ite Inv.newcomerResult

theorem Inv.tripInh {d : Fin 8} (h : s.Inv) : (s.tripInh d).Inv := h.onPorts fun _ _ => Inv.setInh

theorem Inv.adcReset {d : Fin 8} (h : s.Inv) : (s.adcReset d).Inv :=
  (h.setInhDie.onPorts fun _ _ h1 => h1.ite Inv.tripStop).resetRegs.typed.placeLanes.tripInh.setInhDie

theorem Inv.refDrop {d : Fin 8} (h : s.Inv) : (s.refDrop d).Inv := h.updAdc

theorem Inv.refSelect {d : Fin 8} {sel : Nat} (h : s.Inv) : (s.refSelect d sel).Inv :=
  ((h.wr.wr.wr.refDrop.abortRotation.ite fun _ => h).ite fun _ => h.adcErr).ite fun _ => h

theorem Inv.refReady {d : Fin 8} (h : s.Inv) : (s.refReady d).Inv := h.wr.wr.updAdc.calRestart

theorem Inv.refLost {d : Fin 8} (h : s.Inv) : (s.refLost d).Inv :=
  h.wr.refDrop.abortRotation.ite fun h1 => h1.adcErr.coverageLost

theorem Inv.winEnable {d : Fin 8} {w : Nat} {hi : Bool} {v : Nat} (h : s.Inv) : (s.winEnable d w hi v).Inv :=
  h.wr.ite fun _ => h.wr.adcErr

theorem Inv.compTrip {d k : Fin 8} (h : s.Inv) : (s.compTrip d k).Inv :=
  h.ite fun h1 => h1.setBit.setBit.hwTrip.acqEvent.ite fun _ => h1.setBit.setBit.hwTrip

theorem Inv.latchClear {d : Fin 8} {r : TripReg} {mask : Nat} (h : s.Inv) : (s.latchClear d r mask).Inv := by
  unfold State.latchClear
  refine Inv.tripInh ?_
  split
  · exact h.wr
  · exact h.wr
  · exact h.wr

theorem Inv.cellCm {d : Fin 8} {c : Nat} (h : s.Inv) : (s.cellCm d c).Inv := (h.wr.ite fun _ => h).wr.adcErr.fault

theorem Inv.selfcalStart {d : Fin 8} (h : s.Inv) : (s.selfcalStart d).Inv := by
  unfold State.selfcalStart
  split
  · exact h.ite fun h1 => (h1.ite Inv.laneCal).setPhase.ite fun _ => h1.ite Inv.laneCal
  · exact h

theorem Inv.quietExchange {d : Fin 8} (h : s.Inv) : (s.quietExchange d).Inv := by
  unfold State.quietExchange
  split
  · exact h
  · exact h.ite fun h1 => h1.swapLanes.updSq.setPhase

theorem Inv.calReady {d : Fin 8} (h : s.Inv) : (s.calReady d).Inv := h.setPhase.quietExchange.ite fun _ => h.setPhase.wr

theorem Inv.selfcalDone {d : Fin 8} {k : Fin 3} {c : CorrSet} (h : s.Inv) : (s.selfcalDone d k c).Inv :=
  (h.wr.rotEvt.laneFault.ite fun _ => (h.updLane.wr.wr.ite fun _ => h.updLane.wr).ite Inv.calReady).ite fun _ => h

theorem Inv.rotationDue {d : Fin 8} (h : s.Inv) : (s.rotationDue d).Inv := by
  unfold State.rotationDue
  dsimp only
  split
  · exact h
  · refine Inv.ite ?_ fun _ => h
    split
    · exact h.updAdc.wr.wr.quietExchange
    · exact h.updAdc.wr.wr.wr.ite fun h1 => h1.setPhase.wr

theorem Inv.overlapStart {d : Fin 8} (h : s.Inv) : (s.overlapStart d).Inv := by
  unfold State.overlapStart
  split
  · exact h
  · exact h.ite fun h1 => h1.setPhase.wr.clearPairs

theorem Inv.overlapEnd {d : Fin 8} (h : s.Inv) : (s.overlapEnd d).Inv := by
  unfold State.overlapEnd
  dsimp only
  split
  · exact h
  · refine Inv.ite ?_ fun _ => h
    refine Inv.ite ?_ fun _ => h.rotLast.rotEvt.clearPairs.updAdc.setPhase
    refine Inv.ite (h.rotLast.satCnt.rotEvt.newcomerSuspect.ite fun _ => h.rotLast.satCnt.rotEvt.clearPairs.setPhase)
      fun _ => ?_
    split
    · exact h.rotLast.wrapCnt.rotEvt.swapLanes.countSwap.clearPairs.wr.updLane.laneCal.setPhase
    · exact h.rotLast.wrapCnt.rotEvt.swapLanes.countSwap.clearPairs.wr.updLane

theorem Inv.voteEnd {d : Fin 8} (h : s.Inv) : (s.voteEnd d).Inv := by
  unfold State.voteEnd
  split
  · exact h
  · exact (h.rotLast.newcomerSuspect.ite fun _ => h.rotLast).ite fun _ => h

theorem Inv.markSuspect {d : Fin 8} {since : Nat} (h : s.Inv) : (s.markSuspect d since).Inv :=
  h.updMeter.onPorts fun _ _ => Inv.markPort

theorem Inv.judgedSwap {d : Fin 8} (h : s.Inv) : (s.judgedSwap d).Inv := by
  unfold State.judgedSwap
  split
  · exact h
  · exact h.ite fun h1 => Inv.dite
      (fun _ => h1.satCnt.rotEvt.swapLanes.countSwap.clearPairs.suspectLane.setPhase.meterLog.markSuspect.laneFault)
      fun _ => h1.satCnt.rotEvt.swapLanes.countSwap.clearPairs

theorem Inv.exitCheck {d : Fin 8} {ofs gainPpm : List Int} (h : s.Inv) : (s.exitCheck d ofs gainPpm).Inv := by
  unfold State.exitCheck
  split
  · exact h
  · exact (h.wrI.wrI.updLane.setPhase.ite fun h1 => h1.rotEvt.meterLog).ite fun _ => h

theorem Inv.laneLost {d : Fin 8} {k : Fin 3} (h : s.Inv) : (s.laneLost d k).Inv :=
  h.ite fun h1 => h1.log.errRegs.retireElem.fcnt.rotEvt.laneOut

theorem Inv.takeUnserved {d : Fin 8} (h : s.Inv) : (s.takeUnserved d).Inv := by
  unfold State.takeUnserved
  split
  · exact h
  · exact h.ite Inv.relievePos

/-! ## Loop code (Machine/Olc.lean) -/

theorem Inv.olcNext {d n : Fin 8} {cyc : Nat} (h : s.Inv) : (s.olcNext d n cyc).Inv := h.updCtx
theorem Inv.olcJump {d n : Fin 8} {cyc tgt : Nat} (h : s.Inv) : (s.olcJump d n cyc tgt).Inv := h.updCtx

theorem Inv.olcStep {d : Fin 8} {op cyc : Nat} {f : State → Fin 8 → Word → State} (hf : ∀ y n w, y.Inv → (f y n w).Inv)
    (h : s.Inv) : (s.olcStep d op cyc f).Inv := by
  unfold State.olcStep
  split
  · exact h
  · exact Inv.olcNext (hf _ _ _ h)

theorem Inv.olcBranch {d : Fin 8} {op : Nat} {f : Fin 8 → Word → Bool} (h : s.Inv) : (s.olcBranch d op f).Inv := by
  unfold State.olcBranch
  split
  · exact h
  · exact h.olcNext.ite fun _ => h.olcJump

theorem Inv.olcVab {d : Fin 8} {op cyc : Nat} {f : Int → Int → Int} (h : s.Inv) : (s.olcVab d op cyc f).Inv :=
  h.olcStep fun _ _ _ => Inv.setV

theorem Inv.olcVabSat {d : Fin 8} {op cyc : Nat} {f : Int → Int → Int} (h : s.Inv) : (s.olcVabSat d op cyc f).Inv :=
  h.olcStep fun _ _ _ => Inv.setVSat

theorem Inv.olcVaSat {d : Fin 8} {op cyc : Nat} {f : State → Word → Int → Int} (h : s.Inv) : (s.olcVaSat d op cyc f).Inv :=
  h.olcStep fun _ _ _ => Inv.setVSat

theorem Inv.olcSel {d : Fin 8} {op : Nat} {better : Int → Int → Bool} (h : s.Inv) : (s.olcSel d op better).Inv := by
  unfold State.olcSel
  split
  · exact h
  · exact h.setV.wr.olcNext

theorem Inv.olcRun {d : Fin 8} {op : Nat} {f : State → State} (hf : ∀ y, y.Inv → (f y).Inv) (h : s.Inv) :
    (s.olcRun d op f).Inv := by
  unfold State.olcRun
  split
  · exact Inv.ite (Inv.ite h fun _ => Inv.eccMeet (hf _ h)) fun _ => Inv.eccMeet h
  · exact hf _ h

theorem Inv.olcNop {d : Fin 8} (h : s.Inv) : (s.olcNop d).Inv := h.olcStep fun _ _ _ h1 => h1
theorem Inv.olcLdi {d : Fin 8} (h : s.Inv) : (s.olcLdi d).Inv := h.olcStep fun _ _ _ => Inv.setV
theorem Inv.olcLdk {d : Fin 8} (h : s.Inv) : (s.olcLdk d).Inv := h.olcStep fun _ _ _ => Inv.setV
theorem Inv.olcMov {d : Fin 8} (h : s.Inv) : (s.olcMov d).Inv := h.olcStep fun _ _ _ => Inv.setV

theorem Inv.olcLds {d : Fin 8} (h : s.Inv) : (s.olcLds d).Inv :=
  h.olcStep fun _ _ _ h1 => h1.setV.orInv.orSat.orSwp.ite fun _ => h1.setV.orInv

theorem Inv.olcLdr {d : Fin 8} (h : s.Inv) : (s.olcLdr d).Inv := h.olcStep fun _ _ _ h1 => h1.setV.orInv

theorem Inv.olcStr {d : Fin 8} (h : s.Inv) : (s.olcStr d).Inv :=
  h.olcStep fun _ _ _ h1 => (h1.updOxe.ite fun _ => h1.remoteSet).ite fun _ => h1.foldl fun _ _ h3 => h3.ite
    fun h4 => h4.updOxe.ite fun _ => h4.remoteSet

theorem Inv.olcLdd {d : Fin 8} (h : s.Inv) : (s.olcLdd d).Inv := by
  unfold State.olcLdd
  split
  · exact h
  · split
    · exact h.ctxFault
    · exact h.setV.olcNext

theorem Inv.olcStd {d : Fin 8} (h : s.Inv) : (s.olcStd d).Inv := by
  unfold State.olcStd
  split
  · exact h
  · split
    · exact h.ctxFault
    · exact h.dataSet.olcNext

theorem Inv.olcLda {d : Fin 8} (h : s.Inv) : (s.olcLda d).Inv := h.olcStep fun _ _ _ => Inv.setAcc
theorem Inv.olcMva {d : Fin 8} (h : s.Inv) : (s.olcMva d).Inv := h.olcStep fun _ _ _ => Inv.setVSat
theorem Inv.olcClra {d : Fin 8} (h : s.Inv) : (s.olcClra d).Inv := h.olcStep fun _ _ _ => Inv.setAcc
theorem Inv.olcLdp {d : Fin 8} (h : s.Inv) : (s.olcLdp d).Inv := h.olcStep fun _ _ _ => Inv.setV
theorem Inv.olcRdw {d : Fin 8} (h : s.Inv) : (s.olcRdw d).Inv := h.olcStep fun _ _ _ => Inv.setV
theorem Inv.olcAdd {d : Fin 8} (h : s.Inv) : (s.olcAdd d).Inv := h.olcVabSat
theorem Inv.olcSub {d : Fin 8} (h : s.Inv) : (s.olcSub d).Inv := h.olcVabSat
theorem Inv.olcAddi {d : Fin 8} (h : s.Inv) : (s.olcAddi d).Inv := h.olcVaSat
theorem Inv.olcNeg {d : Fin 8} (h : s.Inv) : (s.olcNeg d).Inv := h.olcVaSat
theorem Inv.olcAbs {d : Fin 8} (h : s.Inv) : (s.olcAbs d).Inv := h.olcVaSat
theorem Inv.olcMin {d : Fin 8} (h : s.Inv) : (s.olcMin d).Inv := h.olcVab
theorem Inv.olcMax {d : Fin 8} (h : s.Inv) : (s.olcMax d).Inv := h.olcVab
theorem Inv.olcShl {d : Fin 8} (h : s.Inv) : (s.olcShl d).Inv := h.olcVaSat
theorem Inv.olcShr {d : Fin 8} (h : s.Inv) : (s.olcShr d).Inv := h.olcStep fun _ _ _ => Inv.setV
theorem Inv.olcMul {d : Fin 8} (h : s.Inv) : (s.olcMul d).Inv := h.olcVaSat
theorem Inv.olcMulv {d : Fin 8} (h : s.Inv) : (s.olcMulv d).Inv := h.olcStep fun _ _ _ => Inv.setVSat
theorem Inv.olcMac {d : Fin 8} (h : s.Inv) : (s.olcMac d).Inv := h.olcStep fun _ _ _ => Inv.setAccSat
theorem Inv.olcMacv {d : Fin 8} (h : s.Inv) : (s.olcMacv d).Inv := h.olcStep fun _ _ _ => Inv.setAccSat
theorem Inv.olcDiv {d : Fin 8} (h : s.Inv) : (s.olcDiv d).Inv := h.olcStep fun _ _ _ h1 => h1.setVSat.ite fun _ => h1.setV.orSat

theorem Inv.fsumLoop {d : Fin 8} {l : Int} {back : Bool} {m i : Nat} {r : Int × Bool × State} (h : r.2.2.Inv) :
    (State.fsumLoop d l back m i r).2.2.Inv := by
  induction m generalizing i r with
  | zero => exact h
  | succ m ih =>
    obtain ⟨acc, sat, s⟩ := r
    exact ih (Inv.ite h fun _ => Inv.dataSet h)

theorem Inv.olcFsum {d : Fin 8} (h : s.Inv) : (s.olcFsum d).Inv := by
  unfold State.olcFsum
  dsimp only
  split
  · exact h
  · split
    · exact h.fsumLoop.setAcc.orSat.olcNext
    · exact h.ctxFault

theorem Inv.olcSeln {d : Fin 8} (h : s.Inv) : (s.olcSeln d).Inv := h.olcStep fun _ _ _ => Inv.setV

theorem Inv.limitedInto {d n : Fin 8} {r : Fin 16} {e : Nat} {y : Int} (h : s.Inv) : (s.limitedInto d n r e y).Inv :=
  h.setV.orSat

theorem Inv.olcIntg {d : Fin 8} (h : s.Inv) : (s.olcIntg d).Inv := h.olcStep fun _ _ _ => Inv.limitedInto
theorem Inv.olcFilt {d : Fin 8} (h : s.Inv) : (s.olcFilt d).Inv := h.olcStep fun _ _ _ => Inv.setVSat
theorem Inv.olcLim {d : Fin 8} (h : s.Inv) : (s.olcLim d).Inv := h.olcStep fun _ _ _ => Inv.setV
theorem Inv.olcTrack {d : Fin 8} (h : s.Inv) : (s.olcTrack d).Inv := h.olcStep fun _ _ _ => Inv.limitedInto
theorem Inv.olcMinsel {d : Fin 8} (h : s.Inv) : (s.olcMinsel d).Inv := h.olcSel
theorem Inv.olcMaxsel {d : Fin 8} (h : s.Inv) : (s.olcMaxsel d).Inv := h.olcSel
theorem Inv.olcInj {d : Fin 8} (h : s.Inv) : (s.olcInj d).Inv := h.olcStep fun _ _ _ => Inv.setVSat

theorem Inv.capWords {d : Fin 8} {l : List Word} (h : s.Inv) : (s.capWords d l).Inv :=
  ((h.wr.wrB.setMwords.wr.ite fun _ => h.wr.wr).ite fun _ => h.setMwords.wr.ite fun h2 => h2.wr.wrB.wr.ite fun _ => h2.wr).ite
    fun _ => h.wr

theorem Inv.olcCap {d : Fin 8} (h : s.Inv) : (s.olcCap d).Inv := by
  unfold State.olcCap
  split
  · exact h
  · exact h.capWords.olcNext

theorem Inv.corAdd {d k : Fin 8} {x : Int} (h : s.Inv) : (s.corAdd d k x).Inv :=
  (h.updOxe.ite fun _ => h.wr.updOxe.ite fun _ => h.wr.updOxe).ite fun _ => h

theorem Inv.olcCorr {d : Fin 8} (h : s.Inv) : (s.olcCorr d).Inv := h.olcStep fun _ _ _ => Inv.corAdd

theorem Inv.outPath {d n : Fin 8} {k : Fin 4} {x : Int} {urgent : Bool} (h : s.Inv) : (s.outPath d n k x urgent).Inv :=
  ((((h.orSat.satCnt.ite fun _ => h).wrI.wr.wrapCnt.ite fun _ => (h.orSat.satCnt.ite fun _ => h).wrI).ite Inv.queueUrgent).ite
    fun _ => h.satCnt).ite fun _ => h.satCnt

theorem Inv.olcOut {d : Fin 8} (h : s.Inv) : (s.olcOut d).Inv := h.olcStep fun _ _ _ => Inv.outPath
theorem Inv.olcOutu {d : Fin 8} (h : s.Inv) : (s.olcOutu d).Inv := h.olcStep fun _ _ _ => Inv.outPath

theorem Inv.evtPush {d n : Fin 8} {safe : Bool} {code : Nat} (h : s.Inv) : (s.evtPush d n safe code).Inv :=
  h.updOxe.ite fun _ => h.oxeErrCtx

theorem Inv.olcEvt {d : Fin 8} (h : s.Inv) : (s.olcEvt d).Inv := h.olcStep fun _ _ _ => Inv.evtPush
theorem Inv.olcBfs {d : Fin 8} (h : s.Inv) : (s.olcBfs d).Inv := h.olcBranch
theorem Inv.olcBfc {d : Fin 8} (h : s.Inv) : (s.olcBfc d).Inv := h.olcBranch
theorem Inv.olcClf {d : Fin 8} (h : s.Inv) : (s.olcClf d).Inv := h.olcStep fun _ _ _ => Inv.clearFlags
theorem Inv.olcBr {d : Fin 8} (h : s.Inv) : (s.olcBr d).Inv := h.olcBranch
theorem Inv.olcBeq {d : Fin 8} (h : s.Inv) : (s.olcBeq d).Inv := h.olcBranch
theorem Inv.olcBne {d : Fin 8} (h : s.Inv) : (s.olcBne d).Inv := h.olcBranch
theorem Inv.olcBlt {d : Fin 8} (h : s.Inv) : (s.olcBlt d).Inv := h.olcBranch
theorem Inv.olcBge {d : Fin 8} (h : s.Inv) : (s.olcBge d).Inv := h.olcBranch

theorem Inv.olcLoop {d : Fin 8} (h : s.Inv) : (s.olcLoop d).Inv := by
  unfold State.olcLoop
  split
  · exact h
  · exact (h.updCtx.ite fun _ => h.ctxFault).ite fun _ => h.updCtx

theorem Inv.olcCall {d : Fin 8} (h : s.Inv) : (s.olcCall d).Inv := by
  unfold State.olcCall
  split
  · exact h
  · exact h.updCtx.ite fun _ => h.ctxFault

theorem Inv.olcRet {d : Fin 8} (h : s.Inv) : (s.olcRet d).Inv := by
  unfold State.olcRet
  split
  · exact h
  · split
    · exact h.ctxFault
    · exact h.updCtx

theorem Inv.olcWait {d : Fin 8} (h : s.Inv) : (s.olcWait d).Inv := by
  unfold State.olcWait
  split
  · exact h
  · exact (h.olcNext.updCtx.wr.wr.ite fun _ => h.setV.olcNext).ite fun _ => h.setV.olcNext

theorem Inv.olcEnd {d : Fin 8} (h : s.Inv) : (s.olcEnd d).Inv := by
  unfold State.olcEnd
  split
  · exact h
  · exact (h.updCtx.wr.ite Inv.wr).wr.wr

/-! ## Loop engine (Machine/Engine.lean) -/

theorem Inv.oxeIdle {d : Fin 8} (h : s.Inv) : (s.oxeIdle d).Inv := h.wr
theorem Inv.trigTake {d n : Fin 8} {src : Nat} (h : s.Inv) : (s.trigTake d n src).Inv := h.ite fun h1 => h1.updCtx.trigSelected

theorem Inv.giveEngine {d n : Fin 8} (h : s.Inv) : (s.giveEngine d n).Inv :=
  (h.wr.wr.wr.updCtx.wrapCnt.clrBit.ite fun _ => h.wr.wr.wr.updCtx).ite fun _ => h.wr.wr.wr

theorem Inv.dispatch {d : Fin 8} (h : s.Inv) : (s.dispatch d).Inv := by
  unfold State.dispatch
  split
  · split
    · exact h.ite fun h1 => h1.wr.giveEngine
    · exact h
  · refine Inv.ite h (fun h1 => ?_)
    split
    · exact h1.giveEngine
    · exact h1

theorem Inv.ctxRest {d : Fin 8} (h : s.Inv) : (s.ctxRest d).Inv := h.foldl fun _ _ h1 => h1.wr.ite fun _ => h1
theorem Inv.engineRun {d : Fin 8} (h : s.Inv) : (s.engineRun d).Inv := h.wr.wr.updOxe.ite fun _ => h

theorem Inv.engineCrcDone {d : Fin 8} (h : s.Inv) : (s.engineCrcDone d).Inv :=
  h.ite fun h1 => (h1.foldl fun _ _ => Inv.eccSeen).wr.wr.wr.ctxRest.updOxe

theorem Inv.engineStop {d : Fin 8} (h : s.Inv) : (s.engineStop d).Inv :=
  (h.oxeErr.ite fun _ => h.wr.wr.oxeIdle.ctxRest.updOxe).ite fun _ => h

theorem Inv.ctxRestart {d n : Fin 8} (h : s.Inv) : (s.ctxRestart d n).Inv := h.ite fun h1 => h1.wr.wr.updCtx

theorem Inv.coefWrite {d : Fin 8} {e : Nat} {w1 : Word} (h : s.Inv) : (s.coefWrite d e w1).Inv := by
  unfold State.coefWrite
  refine Inv.updOxe ?_
  refine Inv.setMword ?_
  split
  · exact h.setMword
  · exact h

theorem Inv.corStore {d k : Fin 8} {b : DWord × DWord × Nat} (h : s.Inv) : (s.corStore d k b).Inv := h.wr.wr.wr.wr.wr
theorem Inv.corLatch {d k : Fin 8} (h : s.Inv) : (s.corLatch d k).Inv := h.corStore

theorem Inv.capRelease {d : Fin 8} {a b : Bool} (h : s.Inv) : (s.capRelease d a b).Inv :=
  ((((h.ite Inv.wr).ite Inv.wr).ite fun h1 => h1.wrB.wr).ite fun _ => ((h.ite Inv.wr).ite Inv.wr).wr).ite
    fun _ => (h.ite Inv.wr).ite Inv.wr

theorem Inv.evtPop {d : Fin 8} {safe : Bool} (h : s.Inv) : (s.evtPop d safe).Inv := h.updOxe.typed
theorem Inv.genEdge {d : Fin 8} (h : s.Inv) : (s.genEdge d).Inv := h.updOxe.ite fun _ => h.updOxe

/-! ## Ports, vehicle links and Stage Links (Machine/Ports.lean) -/

theorem Inv.loadWindows {d : Fin 8} {k : Fin 4} (h : s.Inv) : (s.loadWindows d k).Inv := by
  unfold State.loadWindows
  split
  · exact h
  · exact (h.foldl fun _ _ h1 => (((h1.wrI.wrI.wrI.wrI.adcErr.ite fun _ => h1.wrI.wrI.wrI.wrI.setBit).ite
      fun _ => h1.wrI.wrI.wrI.wrI.clrBit).adcErr.ite
      fun _ => ((h1.wrI.wrI.wrI.wrI.adcErr.ite fun _ => h1.wrI.wrI.wrI.wrI.setBit).ite
      fun _ => h1.wrI.wrI.wrI.wrI.clrBit).setBit).ite
      fun _ => ((h1.wrI.wrI.wrI.wrI.adcErr.ite fun _ => h1.wrI.wrI.wrI.wrI.setBit).ite
      fun _ => h1.wrI.wrI.wrI.wrI.clrBit).clrBit).foldl fun _ _ => Inv.setWord

theorem Inv.psRequest {d : Fin 8} {k : Fin 4} {tgt : Nat} {w : PsWriter} (h : s.Inv) : (s.psRequest d k tgt w).Inv :=
  (((((h.psJudge.ite Inv.loadWindows).ite Inv.sessionStop).ite fun _ => (h.psJudge.ite Inv.loadWindows).rampBegin).ite
    fun _ => (h.psJudge.ite Inv.loadWindows).wr).ite fun _ => (h.psJudge.ite Inv.loadWindows).sessionStart).ite
    fun _ => h.psJudge

theorem Inv.updVeh {d : Fin 8} {k : Fin 4} {f : VehLink → VehLink} (h : s.Inv) : (s.updVeh d k f).Inv := h.typed
theorem Inv.connLost {d : Fin 8} {k : Fin 4} (h : s.Inv) : (s.connLost d k).Inv := h.ite Inv.tripStop

theorem Inv.pilotSet {d : Fin 8} {k : Fin 4} {code : Nat} (h : s.Inv) : (s.pilotSet d k code).Inv :=
  (h.wr.wr.ite Inv.connLost).ite fun _ => h

theorem Inv.pilotTake {d : Fin 8} {k : Fin 4} {code : Nat} (h : s.Inv) : (s.pilotTake d k code).Inv := h.updVeh.ite Inv.pilotSet

theorem Inv.pilotPwm {d : Fin 8} {k : Fin 4} {high low : Int} (h : s.Inv) : (s.pilotPwm d k high low).Inv :=
  h.wrI.wrI.wrB.pilotTake

theorem Inv.pilotSteady {d : Fin 8} {k : Fin 4} {level : Int} {minus : Bool} (h : s.Inv) :
    (s.pilotSteady d k level minus).Inv :=
  h.wrI.pilotTake

theorem Inv.pilotMeasure {d : Fin 8} {k : Fin 4} {high low : Int} {square : Bool} (h : s.Inv) :
    (s.pilotMeasure d k high low square).Inv :=
  ((h.pilotSteady.ite fun _ => h.pilotPwm).ite fun _ => (h.ite Inv.pilotSteady).ite fun _ => h.pilotPwm).ite fun _ => h

theorem Inv.pilotMode {d : Fin 8} {k : Fin 4} {mode : Nat} (h : s.Inv) : (s.pilotMode d k mode).Inv :=
  h.wr.ite fun h1 => h1.updVeh.pilotSet

theorem Inv.descDone {d : Fin 8} {a len : Nat} {err : Bool} (h : s.Inv) : (s.descDone d a len err).Inv := h.bufPut

theorem Inv.t1sReceive {d : Fin 8} {k : Fin 4} {frame : List Byte} {ok : Bool} (h : s.Inv) : (s.t1sReceive d k frame ok).Inv :=
  ((h.satCnt.ite fun _ => h).satCnt.ite fun _ => (h.satCnt.ite fun _ => h).bufPut.descDone.wr).ite fun _ => h

theorem Inv.t1sSend {d : Fin 8} {k : Fin 4} {cut : Bool} (h : s.Inv) : (s.t1sSend d k cut).Inv :=
  ((h.updVeh.ite fun _ => h.t1sReceive).descDone.ite Inv.wr).wr.ite fun _ => h

theorem Inv.t1sLink {d : Fin 8} {k : Fin 4} {up : Bool} (h : s.Inv) : (s.t1sLink d k up).Inv := h.wrB

theorem Inv.t1sDown {d : Fin 8} {k : Fin 4} (h : s.Inv) : (s.t1sDown d k).Inv :=
  ((h.ite Inv.psRequest).ite fun _ => h.psRequest).ite fun _ => h

theorem Inv.periodicFrame {d : Fin 8} {k : Fin 4} (h : s.Inv) : (s.periodicFrame d k).Inv :=
  h.updStl.flushUrgent.wr.updStl.ite fun _ => h

theorem Inv.returnFrame {d : Fin 8} {k : Fin 4} {symbols : Nat} {b : List Byte} {lineError : Bool} (h : s.Inv) :
    (s.returnFrame d k symbols b lineError).Inv :=
  ((h.foldl fun _ _ h1 => h1.wr.ringPut).wr.wr.ite Inv.wr).updStl.trigAll.waitEvent.ite fun _ => h.satCnt

theorem Inv.returnMiss {d : Fin 8} {k : Fin 4} (h : s.Inv) : (s.returnMiss d k).Inv := h.satCnt.updStl.ite fun _ => h

theorem Inv.rxLost {d : Fin 8} {k : Fin 4} (h : s.Inv) : (s.rxLost d k).Inv :=
  (h.setBit.wr.updStl.ite Inv.tripStop).ite fun _ => h

theorem Inv.cableIso {d : Fin 8} {k : Fin 4} {ohm : Nat} (h : s.Inv) : (s.cableIso d k ohm).Inv :=
  ((h.wr.wr.wrB.wrB.ite Inv.setBit).rampStop.ite fun _ => (h.wr.wr.wrB.wrB.ite Inv.setBit).wr).ite fun _ => h

/-! ## Safety core (Machine/Safety.lean) -/

theorem Inv.setFilt {d : Fin 8} {k : Fin 4} {n : Nat} {level : Bool} (h : s.Inv) : (s.setFilt d k n level).Inv :=
  (h.clrBit.ite fun _ => h.setBit).clrBit.ite fun _ => (h.clrBit.ite fun _ => h.setBit).setBit

theorem Inv.contactSeen {d : Fin 8} {k : Fin 4} {n : Fin 2} {level : Bool} (h : s.Inv) : (s.contactSeen d k n level).Inv := by
  unfold State.contactSeen
  split
  · exact h
  · exact h.ite fun h1 => (h1.wr.ite fun _ => h1).updSaf

theorem Inv.readbackOut {d : Fin 8} {k n : Fin 4} (h : s.Inv) : (s.readbackOut d k n).Inv :=
  h.updSaf.ite fun h1 => h1.setBit.fault.ite Inv.tripStop

theorem Inv.readback {d : Fin 8} {k : Fin 4} {rb : Nat} (h : s.Inv) : (s.readback d k rb).Inv :=
  h.wr.foldl fun _ _ => Inv.readbackOut

theorem Inv.rampMonitor {d : Fin 8} {k : Fin 4} (h : s.Inv) : (s.rampMonitor d k).Inv := by
  unfold State.rampMonitor
  split
  · exact h
  · exact h.updSaf.ite fun h1 => h1.wr.tripStop

theorem Inv.invWatch {d : Fin 8} {k i : Fin 4} {cell q : Nat} {used : Bool} (h : s.Inv) : (s.invWatch d k i cell q used).Inv :=
  h.updSaf.ite Inv.degrade

theorem Inv.cellWatch {d : Fin 8} {k : Fin 4} (h : s.Inv) : (s.cellWatch d k).Inv := h.invWatch.invWatch.invWatch.invWatch

theorem Inv.causeStart {d : Fin 8} {k : Fin 4} {c : Nat} (h : s.Inv) : (s.causeStart d k c).Inv :=
  ((((h.tripStop.ite fun _ => h.rampStop).ite fun _ => h.rampStop).ite fun _ => h.rampStop).ite fun _ => h.rampStop).ite
    fun _ => h

theorem Inv.countTrip {d : Fin 8} {k : Fin 4} (h : s.Inv) : (s.countTrip d k).Inv := h.updSaf.ite Inv.wr

theorem Inv.inputStops {d : Fin 8} {k : Fin 4} {n : Nat} (h : s.Inv) : (s.inputStops d k n).Inv :=
  (h.onPorts fun _ _ h1 => h1.ite Inv.causeStart).ite fun _ => h

theorem Inv.inputFilter {d : Fin 8} {k : Fin 4} {n : Fin 8} {level : Bool} (h : s.Inv) : (s.inputFilter d k n level).Inv :=
  (h.setFilt.inputStops.ite fun _ => h.setFilt.contactSeen).ite fun _ => h.setFilt.contactSeen

theorem Inv.permitScan {d : Fin 8} {k : Fin 4} (h : s.Inv) : (s.permitScan d k).Inv := (h.ite Inv.wr).ite fun _ => h.wr
theorem Inv.lockEnable {d : Fin 8} {k : Fin 4} (h : s.Inv) : (s.lockEnable d k).Inv := h.clrBit.ite fun _ => h.setBit

theorem Inv.unlockScan {d : Fin 8} {k : Fin 4} (h : s.Inv) : (s.unlockScan d k).Inv :=
  (h.ite Inv.wr).lockEnable.ite Inv.psRequest

theorem Inv.scanTimers {d : Fin 8} {k : Fin 4} (h : s.Inv) : (s.scanTimers d k).Inv := h.updSaf

theorem Inv.firstCause {d : Fin 8} {k : Fin 4} {free : Bool} {old : BitVec 16} (h : s.Inv) :
    (s.firstCause d k free old).Inv := by
  unfold State.firstCause
  split
  · exact h.ite Inv.wr
  · exact h

theorem Inv.scanPort {d : Fin 8} {k : Fin 4} {raw rb : Nat} (h : s.Inv) : (s.scanPort d k raw rb).Inv :=
  (((h.wr.scanTimers.readback.rampMonitor.cellWatch.ite Inv.wr).ite fun h1 => (h1.ite Inv.countTrip).foldl
    fun _ _ => Inv.causeStart).firstCause.foldl fun _ _ h1 => h1.ite Inv.causeOff).permitScan.unlockScan.applyRow.ite
    fun _ => h.wr.readback.applyRow

theorem Inv.safetyScan {d : Fin 8} {inputs : Vector Byte 4} {rb : Vector (BitVec 4) 4} (h : s.Inv) :
    (s.safetyScan d inputs rb).Inv :=
  (h.wrB.onPorts fun _ _ => Inv.scanPort).ite fun _ => h

theorem Inv.contactTimeout {d : Fin 8} {k : Fin 4} {n : Fin 2} (h : s.Inv) : (s.contactTimeout d k n).Inv := by
  unfold State.contactTimeout
  split
  · exact h
  · exact ((h.updSaf.wr.setBit.wr.causeOn.ite Inv.reqFault).ite fun _ => h.updSaf).ite fun _ => h.updSaf.ite Inv.tripStop

theorem Inv.insulation {d : Fin 8} {k : Fin 4} {up um : Nat} (h : s.Inv) : (s.insulation d k up um).Inv := by
  unfold State.insulation
  dsimp only
  refine Inv.ite ?_ fun _ => h
  refine Inv.ite ?_ fun _ => h.updSaf.setSout
  split
  · exact h.setSout
  · exact ((h.setSout.updSaf.wr.wr.wrB.wrB.ite Inv.setBit).updSaf.ite Inv.causeStart).ite fun _ => h.setSout.updSaf.wr

theorem Inv.tripClear {d : Fin 8} {k : Fin 4} (h : s.Inv) : (s.tripClear d k).Inv :=
  h.latchClear.latchClear.causeOff.ite fun _ => h

theorem Inv.degradedOut {d : Fin 8} {k : Fin 4} (h : s.Inv) : (s.degradedOut d k).Inv :=
  (h.wr.updSaf.causeStart.ite fun _ => h.wr.updSaf).ite fun _ => h

theorem Inv.unlockSet {d : Fin 8} {k : Fin 4} (h : s.Inv) : (s.unlockSet d k).Inv :=
  h.ite fun h1 => h1.wr.lockEnable.ite Inv.causeOff

theorem Inv.safetyCorr {d : Fin 8} (h : s.Inv) : (s.safetyCorr d).Inv := h.typed.wr.wr

theorem Inv.safetyDiag {d : Fin 8} {b : Nat} (h : s.Inv) : (s.safetyDiag d b).Inv :=
  ((h.setWord.ite Inv.wr).wr.setInhDie.haltDie.onPorts fun _ _ h1 => h1.tripStop.dropSout.reqFault).regionFault

theorem Inv.cellTests {d : Fin 8} {comps : BitVec 8} {pilots : BitVec 4} {inputs : BitVec 32} (h : s.Inv) :
    (s.cellTests d comps pilots inputs).Inv :=
  ((h.foldl fun _ _ h1 => h1.ite Inv.fault).foldl fun _ _ h1 => h1.ite Inv.fault).foldl fun _ _ h1 => h1.ite Inv.fault

theorem Inv.selftestDone {d : Fin 8} {r : SelfTest} (h : s.Inv) : (s.selftestDone d r).Inv :=
  ((h.cellTests.wr.wrB.wrB.onPorts fun _ _ => Inv.loadWindows).ite fun _ => h.cellTests.wr.safetyDiag).ite fun _ => h

/-! ## Load switches and thermal block (Machine/Lsw.lean) -/

theorem Inv.updLsw {d : Fin 8} {n : Fin 12} {f : LswChan → LswChan} (h : s.Inv) : (s.updLsw d n f).Inv := h.typed
theorem Inv.lswOut {d : Fin 8} {n : Fin 12} (h : s.Inv) : (s.lswOut d n).Inv := h.wrB
theorem Inv.lswSet {d : Fin 8} {n : Fin 12} {st : Nat} (h : s.Inv) : (s.lswSet d n st).Inv := (h.wr.ite Inv.setBit).lswOut
theorem Inv.inrush {d : Fin 8} {n : Fin 12} (h : s.Inv) : (s.inrush d n).Inv := h.updLsw.wr.wr.lswSet

theorem Inv.lswFault {d : Fin 8} {n : Fin 12} {code next x : Nat} (h : s.Inv) : (s.lswFault d n code next x).Inv :=
  ((h.updLsw.wr.wr.log.errRegs.fcnt.lswSet.ite fun _ => h.updLsw.wr.wr.log.errRegs.fcnt.lswSet.retireElem).ite
    fun _ => h.updLsw.wr.wr.log.lswSet).ite fun _ => h

theorem Inv.lswShort {d : Fin 8} {n : Fin 12} (h : s.Inv) : (s.lswShort d n).Inv := h.lswFault
theorem Inv.lswRequest {d : Fin 8} {n : Fin 12} (h : s.Inv) : (s.lswRequest d n).Inv := (h.updLsw.ite Inv.inrush).ite fun _ => h

theorem Inv.lswWithdraw {d : Fin 8} {n : Fin 12} (h : s.Inv) : (s.lswWithdraw d n).Inv :=
  (h.updLsw.ite fun h1 => h1.updLsw.wr.lswSet).ite fun _ => h

theorem Inv.lswPeriod {d : Fin 8} {n : Fin 12} (h : s.Inv) : (s.lswPeriod d n).Inv := h.updLsw.lswOut.ite fun _ => h

theorem Inv.lswLimit {d : Fin 8} {n : Fin 12} (h : s.Inv) : (s.lswLimit d n).Inv :=
  (h.lswShort.ite fun _ => h.wr.updLsw.lswOut).ite fun _ => h

theorem Inv.lswRetry {d : Fin 8} {n : Fin 12} (h : s.Inv) : (s.lswRetry d n).Inv :=
  (h.updLsw.lswOut.ite fun _ => h.updLsw.wr).ite fun _ => h

theorem Inv.lswUnhold {d : Fin 8} {n : Fin 12} (h : s.Inv) : (s.lswUnhold d n).Inv := by
  unfold State.lswUnhold
  split
  · exact h
  · exact h.updLsw.wr.lswOut

theorem Inv.lswWindowEnd {d : Fin 8} {n : Fin 12} (h : s.Inv) : (s.lswWindowEnd d n).Inv :=
  (h.updLsw.lswSet.ite fun _ => h.lswShort.ite fun _ => h).ite fun _ => h

theorem Inv.lswLatch {d : Fin 8} {n : Fin 12} {byGroup : Bool} (h : s.Inv) : (s.lswLatch d n byGroup).Inv := h.updLsw.wr.lswSet

theorem Inv.lswHot {d : Fin 8} {n : Fin 12} {temp : BitVec 16} (h : s.Inv) : (s.lswHot d n temp).Inv :=
  ((h.wr.lswFault.ite fun _ => h.wr).ite fun _ => h.wr.lswLatch.log).ite fun _ => h.wr

theorem Inv.lswCool {d : Fin 8} {n : Fin 12} {temp : BitVec 16} (h : s.Inv) : (s.lswCool d n temp).Inv := h.wr.ite Inv.inrush
theorem Inv.clrLatch {d : Fin 8} {n : Fin 12} (h : s.Inv) : (s.clrLatch d n).Inv := h.wr.wr.ite fun _ => h.updLsw.wr.lswSet

theorem Inv.onGroup {k : Fin 4} {f : State → Fin 12 → State} (hf : ∀ y n, y.Inv → (f y n).Inv) (h : s.Inv) :
    (s.onGroup k f).Inv :=
  Inv.foldl (fun y n hy => Inv.ite hy fun _ => hf y n hy) h

theorem Inv.groupThrottle {d : Fin 8} {k : Fin 4} {temp : BitVec 16} (h : s.Inv) : (s.groupThrottle d k temp).Inv :=
  h.wr.ite fun h1 => h1.wr.setBit

theorem Inv.groupThrottleEnd {d : Fin 8} {k : Fin 4} {temp : BitVec 16} (h : s.Inv) : (s.groupThrottleEnd d k temp).Inv :=
  h.wr.ite fun h1 => h1.wr.onGroup fun _ _ => Inv.lswUnhold

theorem Inv.groupOff {d : Fin 8} {k : Fin 4} {temp : BitVec 16} (h : s.Inv) : (s.groupOff d k temp).Inv :=
  ((h.wr.wr.setBit.ite Inv.wr).onGroup fun _ _ h1 => h1.wr.lswOut.ite fun _ => h1.wr.lswLatch).ite fun _ => h.wr

theorem Inv.groupFree {d : Fin 8} {k : Fin 4} (h : s.Inv) : (s.groupFree d k).Inv := h.wr.wr.onGroup fun _ _ h1 => h1.wr.lswOut

theorem Inv.groupResume {d : Fin 8} {k : Fin 4} {temp : BitVec 16} (h : s.Inv) : (s.groupResume d k temp).Inv :=
  h.wr.ite Inv.groupFree

theorem Inv.groupClr {d : Fin 8} {k : Fin 4} (h : s.Inv) : (s.groupClr d k).Inv := h.wr.ite fun _ => h.groupFree
theorem Inv.openLoad {d : Fin 8} {n : Fin 12} (h : s.Inv) : (s.openLoad d n).Inv := h.ite fun h1 => h1.wr.wr.info
theorem Inv.railOff {d : Fin 8} (h : s.Inv) : (s.railOff d).Inv := h.wr.foldl fun _ _ h1 => h1.updLsw.wr.wr.lswOut
theorem Inv.railOn {d : Fin 8} (h : s.Inv) : (s.railOn d).Inv := h.wr.foldl fun _ _ h1 => h1.wr.lswOut.ite fun _ => h1.wr.inrush
theorem Inv.lswRelease {d : Fin 8} (h : s.Inv) : (s.lswRelease d).Inv := h.foldl fun _ _ => Inv.wr

theorem Inv.takeTemps {d : Fin 8} {v : Vector (BitVec 16) 4} (h : s.Inv) : (s.takeTemps d v).Inv :=
  (h.foldl fun _ _ => Inv.wr).wr.wr

theorem Inv.thmBand {d : Fin 8} {i : Nat} {t : Int} {st ev : Fld} {code : Nat} (h : s.Inv) : (s.thmBand d i t st ev code).Inv :=
  (h.ite fun h1 => h1.wr.wr.info).ite fun _ => h.ite Inv.wr

theorem Inv.thermalBegin {d : Fin 8} {t : Int} (h : s.Inv) : (s.thermalBegin d t).Inv :=
  (h.setInhDie.haltDie.dieTrip.typed.wr.meterSend.log.ite
    fun _ => h.setInhDie.haltDie.dieTrip.typed.wr.meterCommit.siteTrip.log).ownRelease.ite
    fun _ => (h.setInhDie.haltDie.dieTrip.typed.wr.meterSend.log.ite
    fun _ => h.setInhDie.haltDie.dieTrip.typed.wr.meterCommit.siteTrip.log).claimDrop

theorem Inv.tempSample {d : Fin 8} {v : Vector (BitVec 16) 4} (h : s.Inv) : (s.tempSample d v).Inv :=
  ((h.takeTemps.typed.thmBand.thmBand.ite fun _ => h.takeTemps.typed.thermalBegin).ite fun _ => h.takeTemps.typed).ite
    fun _ => h

theorem Inv.thermalRelease {d : Fin 8} (h : s.Inv) : (s.thermalRelease d).Inv :=
  h.ite fun h1 => (h1.onPorts fun _ _ => Inv.dropSout).lswRelease

theorem Inv.thermalStop {d : Fin 8} (h : s.Inv) : (s.thermalStop d).Inv := h.ite fun h1 => h1.typed.ite fun h2 => h2.updMeter.wr
theorem Inv.tcomp (h : s.Inv) : s.tcomp.Inv := h.wrI.typed.ite fun _ => h
theorem Inv.refCompensate {d : Fin 8} {temp : BitVec 16} (h : s.Inv) : (s.refCompensate d temp).Inv := h.ite fun h1 => h1.typed

/-! ## Profiles, demand, billing and rates (Machine/Bounds.lean) -/

theorem Inv.updProf {two : Bool} {f : Profile → Profile} (h : s.Inv) : (s.updProf two f).Inv := h.updMeter
theorem Inv.addProf {two : Bool} {e : ProfEntry} (h : s.Inv) : (s.addProf two e).Inv := h.updProf

theorem Inv.closeProf {two : Bool} {t : Int} {dur extra : Nat} (h : s.Inv) : (s.closeProf two t dur extra).Inv :=
  h.addProf.updProf.ite fun _ => h

theorem Inv.openProf {two : Bool} {t : Int} {extra : Nat} (h : s.Inv) : (s.openProf two t extra).Inv := h.updProf

theorem Inv.zeroEntries {two : Bool} {ends : List Int} {bits : Nat} (h : s.Inv) : (s.zeroEntries two ends bits).Inv :=
  h.foldl fun _ _ => Inv.addProf

theorem Inv.closeDemand {t : Int} (h : s.Inv) : (s.closeDemand t).Inv := h.updMeter
theorem Inv.openDemand {t : Int} (h : s.Inv) : (s.openDemand t).Inv := h.updMeter
theorem Inv.billClose {t : Int} {cause : Nat} (h : s.Inv) : (s.billClose t cause).Inv := h.updMeter.meterLog

theorem Inv.activate {t : Int} (h : s.Inv) : (s.activate t).Inv := by
  unfold State.activate
  split
  · exact h
  · exact h.updMeter.meterLog.stream

theorem Inv.setRate {t : Int} {nominal : Bool} (h : s.Inv) : (s.setRate t nominal).Inv := by
  unfold State.setRate
  split
  · exact h
  · exact h.updMeter.meterLog.ite fun _ => h

theorem Inv.foldHeld (h : s.Inv) : s.foldHeld.Inv := h.updMeter.updMeter
theorem Inv.toQ0 (h : s.Inv) : s.toQ0.Inv := h.updMeter
theorem Inv.announceWords (h : s.Inv) : s.announceWords.Inv := h.onUsed fun _ _ h1 => h1.xlkSent.ite fun _ => h1
theorem Inv.announce {t : Int} (h : s.Inv) : (s.announce t).Inv := h.ite fun h1 => h1.updMeter.announceWords

theorem Inv.boundaryProf {two : Bool} {t : Int} (h : s.Inv) : (s.boundaryProf two t).Inv :=
  h.ite fun h1 => h1.closeProf.openProf

theorem Inv.boundaryCommit (h : s.Inv) : s.boundaryCommit.Inv := by
  unfold State.boundaryCommit
  split
  · exact h
  · exact (((h.meterGather.markNow.ite fun h1 => h1.closeDemand.openDemand).boundaryProf.boundaryProf.ite Inv.billClose).ite
      Inv.activate).setRate.updMeter.foldHeld.toQ0.ite fun _ => h

theorem Inv.restoreProf {two : Bool} {td tr : Int} {doubt : Nat} (h : s.Inv) : (s.restoreProf two td tr doubt).Inv :=
  h.closeProf.zeroEntries.openProf.ite fun _ => h.updProf

theorem Inv.restored (h : s.Inv) : s.restored.Inv := by
  unfold State.restored
  dsimp only
  split
  · exact h.openProf.openProf.openDemand.setRate.updMeter
  · exact ((((h.meterLog.closeDemand.updMeter.ite fun _ => h.meterLog.closeDemand).openDemand.ite
      fun _ => h.meterLog).restoreProf.restoreProf.foldl fun _ _ h1 => h1.ite Inv.billClose).ite Inv.activate).setRate.updMeter

theorem Inv.restoration (h : s.Inv) : s.restoration.Inv :=
  (h.updMeter.restored.updMeter.toQ0.ite fun _ => h.updMeter).ite fun _ => h

theorem Inv.stepProf {two : Bool} {told tnew : Int} (h : s.Inv) : (s.stepProf two told tnew).Inv :=
  (h.closeProf.ite Inv.zeroEntries).openProf

theorem Inv.stepTransaction {told tnew : Int} (h : s.Inv) : (s.stepTransaction told tnew).Inv :=
  (((h.meterGather.markAll.closeDemand.openDemand.ite Inv.updMeter).stepProf.stepProf.foldl fun _ _ h1 => h1.ite
    Inv.billClose).ite Inv.activate).setRate.updMeter.foldHeld.toQ0

theorem Inv.meterStep {told tnew : Int} (h : s.Inv) : (s.meterStep told tnew).Inv :=
  (h.meterLog.stepTransaction.ite fun _ => h.meterLog).ite fun _ => h

theorem Inv.utcChange (h : s.Inv) : s.utcChange.Inv := (h.meterLog.ite fun _ => h.updMeter.meterLog).ite fun _ => h

/-! ## Meter parameters, calendar and tokens (Machine/MeterParam.lean) -/

theorem Inv.paramMark {id role : Nat} (h : s.Inv) : (s.paramMark id role).Inv := h.meterLog.markAll

theorem Inv.paramWrite {role id scope : Nat} {v : List Nat} (h : s.Inv) : (s.paramWrite role id scope v).2.Inv := by
  unfold State.paramWrite
  refine Inv.iteSnd h (Inv.iteSnd ?_ ?_)
  · split
    · exact Inv.pair (Inv.paramMark (Inv.calStart h))
    · exact h
  · exact Inv.iteSnd (Inv.pair (Inv.updMeter (Inv.stream (Inv.paramMark h)))) (Inv.pair (Inv.updMeter (Inv.stream (Inv.paramMark h))))

theorem Inv.updParam {p : Nat} {f : PortParam → PortParam} (h : s.Inv) : (s.updParam p f).Inv :=
  Inv.dite (fun _ => h.updMeter) fun _ => h

theorem Inv.updSite {f : SiteParam → SiteParam} (h : s.Inv) : (s.updSite f).Inv := h.updMeter
theorem Inv.loadMap {p : Fin 32} (h : s.Inv) : (s.loadMap p).Inv := h.wr
theorem Inv.clearProf {two : Bool} (h : s.Inv) : (s.clearProf two).Inv := h.updProf

theorem Inv.paramApply {key : Nat} {w : List Word} (h : s.Inv) : (s.paramApply key w).Inv := by
  unfold State.paramApply
  dsimp only
  split
  · exact Inv.dite (fun _ => h.updParam.loadMap) fun _ => h.updParam
  · exact h.updParam
  · exact h.updParam
  · exact h.updParam
  · exact h.updParam
  · exact h.updParam
  · exact h.updSite
  · exact (h.clearProf.ite fun _ => h).updSite
  · exact (h.clearProf.ite fun _ => h).updSite
  · exact h.updSite
  · exact h.updSite
  · exact h.updSite
  · exact h.updSite
  · exact h.updSite
  · exact h.updSite
  · exact (h.updMeter.ite fun _ => h).updSite
  · exact h

theorem Inv.paramTick (h : s.Inv) : s.paramTick.Inv := h.ite fun h1 => h1.updMeter.foldl fun _ _ => Inv.paramApply
theorem Inv.siteApply (h : s.Inv) : s.siteApply.Inv := (h.updMeter.foldl fun _ _ => Inv.paramApply).wr
theorem Inv.paramStart (h : s.Inv) : s.paramStart.Inv := (h.foldl (fun _ _ => Inv.loadMap)).wr
theorem Inv.setRtc {t : Int} (h : s.Inv) : (s.setRtc t).Inv := h.typed.wr.wr
theorem Inv.timeSet {t : Int} (h : s.Inv) : (s.timeSet t).2.Inv := h.iteSnd (h.setRtc.iteSnd (h.iteSnd h.typed))
theorem Inv.calLoad {l : List Byte} (h : s.Inv) : (s.calLoad l).2.Inv := h.updMeter.meterLog.iteSnd h.updMeter.stream
theorem Inv.calActivate (h : s.Inv) : s.calActivate.2.Inv := h.iteSnd h.updMeter
theorem Inv.calDiscard (h : s.Inv) : s.calDiscard.2.Inv := h.iteSnd h.updMeter

theorem Inv.tokenEnter {digits : List Nat} (h : s.Inv) : (s.tokenEnter digits).2.Inv :=
  h.iteSnd (h.updMeter.meterLog.ite fun _ => h.updMeter)

theorem Inv.tokenApply (h : s.Inv) : s.tokenApply.Inv := by
  unfold State.tokenApply
  split
  · exact h
  · exact h.updMeter.accountEvent.meterLog.stream.stream

theorem Inv.bindAccount {p a : Nat} (h : s.Inv) : (s.bindAccount p a).2.Inv := by
  unfold State.bindAccount
  split
  · exact Inv.iteSnd h (Inv.iteSnd h (Inv.pair (Inv.updMeter h)))
  · exact h

theorem Inv.releaseAccount {p : Nat} (h : s.Inv) : (s.releaseAccount p).2.Inv :=
  (h.foldl (fun _ _ => Inv.debit)).updMeter.iteSnd h

/-! ## COSEM services (Machine/Apdu.lean) -/

theorem Inv.cosemValue {r : Role} {o : CosemObject} {attr : Nat} (h : s.Inv) : (s.cosemValue r o attr).2.Inv := by
  unfold State.cosemValue
  split
  · exact h
  · cases o with
    | demand maximum => exact Inv.iteSnd h h
    | profile two => exact Inv.iteSnd h (Inv.iteSnd h h)
    | recordKey peer => exact Inv.iteSnd (Inv.pair (Inv.freeBytes h)) h
    | _ => exact h

theorem Inv.cosemGet {r : Role} {o : CosemObject} {attr : Nat} (h : s.Inv) : (s.cosemGet r o attr).2.Inv :=
  h.iteSnd (h.iteSnd (h.iteSnd (h.iteSnd (h.iteSnd h.cosemValue))))

theorem Inv.cosemSet {r : Role} {o : CosemObject} {attr : Nat} {v : List Word} (h : s.Inv) :
    (s.cosemSet r o attr v).2.Inv := by
  unfold State.cosemSet
  refine Inv.iteSnd h (Inv.iteSnd h ?_)
  cases o with
  | clock => exact Inv.iteSnd (Inv.pair (Inv.timeSet h)) h
  | profile two =>
    exact Inv.iteSnd (Inv.iteSnd (Inv.pair (Inv.paramWrite h)) (Inv.pair (Inv.paramWrite h)))
      (Inv.iteSnd (Inv.pair (Inv.paramWrite h)) h)
  | portParams p => exact Inv.iteSnd (Inv.pair (Inv.paramWrite h)) h
  | calendarObj => exact Inv.pair (Inv.calLoad h)
  | _ => exact h

theorem Inv.cosemAct {r : Role} {o : CosemObject} {method : Nat} {v : List Word} (h : s.Inv) :
    (s.cosemAct r o method v).2.Inv := by
  unfold State.cosemAct
  refine Inv.iteSnd h ?_
  cases o with
  | clock => exact Inv.iteSnd h (Inv.iteSnd (Inv.pair (Inv.timeSet h)) h)
  | calendarObj =>
    exact Inv.iteSnd h (Inv.iteSnd (Inv.pair (Inv.calActivate h)) (Inv.iteSnd (Inv.pair (Inv.calDiscard h)) h))
  | tokenGateway =>
    exact Inv.iteSnd h (Inv.iteSnd (Inv.pair (Inv.tokenEnter h))
      (Inv.iteSnd (Inv.pair (Inv.bindAccount h)) (Inv.iteSnd (Inv.pair (Inv.releaseAccount h)) h)))
  | _ => exact h

theorem Inv.apdu {r : Role} {a : Apdu} (h : s.Inv) : (s.apdu r a).2.Inv := by
  unfold State.apdu
  split
  · exact h.cosemGet
  · exact h.iteSnd h.cosemSet
  · exact h.iteSnd h.cosemAct

theorem Inv.assocOpen {i : DlmsIf} {r : Role} {authenticated : Bool} (h : s.Inv) : (s.assocOpen i r authenticated).Inv :=
  (h.ite Inv.updMeter).ite fun _ => h

theorem Inv.dlmsApdu {i : DlmsIf} {r : Role} {a : Apdu} (h : s.Inv) : (s.dlmsApdu i r a).Inv :=
  ((h.ite Inv.updMeter).apdu.updMeter.ite fun _ => h.updMeter).ite fun _ => h

/-! ## Status block (Machine/Window.lean) -/

theorem Inv.statusUpdate (h : s.Inv) : s.statusUpdate.Inv := h.setMwords.ite Inv.wr

/-! ## Twin operation (Machine/Twin.lean) -/

theorem Inv.updTwin {f : Twin → Twin} (h : s.Inv) : (s.updTwin f).Inv := h.typed
theorem Inv.twnEvt {f : Fld} (h : s.Inv) : (s.twnEvt f).Inv := h.raise
theorem Inv.toHeld {cause : Nat} (h : s.Inv) : (s.toHeld cause).Inv := h.setRole.wr.wr.updTwin
theorem Inv.outputsOn (h : s.Inv) : s.outputsOn.Inv := h.wr.updTwin
theorem Inv.claimRaise (h : s.Inv) : s.claimRaise.Inv := h.wr.updTwin

theorem Inv.portsAvailable (h : s.Inv) : s.portsAvailable.Inv :=
  (h.claimRaise.ite fun _ => h.ite fun h2 => h2.setRole.updTwin.claimRaise).ite fun _ => h

theorem Inv.resyncStart (h : s.Inv) : s.resyncStart.Inv :=
  ((h.setRole.wr.updTwin.wr.wr.ite fun _ => h.setRole.wr.updTwin.wr.twnEvt.setRole).ite
    fun _ => h.setRole.wr.updTwin.wr.setRole).ite fun _ => h

theorem Inv.settle {p : PeerHello} (h : s.Inv) : (s.settle p).Inv :=
  (h.updTwin.ite fun h1 => h1.setRole.ite fun _ => h1.twnEvt.claimDrop.toHeld.ite fun _ => h1.twnEvt.setRole).ite
    fun _ => h.updTwin.ite fun h2 => h2.toHeld.resyncStart

theorem Inv.linkTrained {p : PeerHello} (h : s.Inv) : (s.linkTrained p).Inv := by
  unfold State.linkTrained
  dsimp only
  refine Inv.ite ?_ fun _ => h
  split
  · exact h.freeWord.updTwin.twnEvt
  · exact (h.freeWord.updTwin.setSlotAttr.setCache.wr.wr.twnEvt.wr.wr.updTwin.settle.ite
      fun _ => h.freeWord.updTwin.setSlotAttr.setCache.wr.wr.twnEvt.wr.wr.updTwin.wr.updTwin.toHeld.ite
      fun _ => h.freeWord.updTwin.setSlotAttr.setCache.wr.wr.twnEvt.wr.wr.updTwin.wr.updTwin).ite
      fun _ => h.freeWord.updTwin.twnEvt

theorem Inv.trainTimeout (h : s.Inv) : s.trainTimeout.Inv := (h.setRole.updTwin.ite Inv.portsAvailable).ite fun _ => h
theorem Inv.linkFall (h : s.Inv) : s.linkFall.Inv := h.wr.wr.twnEvt.setCache.setSlotAttr.typed.updTwin.ite Inv.toHeld

theorem Inv.linkDown (h : s.Inv) : s.linkDown.Inv :=
  ((h.linkFall.ite Inv.toHeld).ite fun _ => h.linkFall.setRole).ite fun _ => h

theorem Inv.heartbeat {hb : Heartbeat} (h : s.Inv) : (s.heartbeat hb).Inv :=
  (((h.wr.wrB.wr.ite Inv.twnEvt).updTwin.ite Inv.updTwin).ite fun h1 => h1.typed.onUsed fun _ _ => Inv.wr).ite fun _ => h

theorem Inv.heartbeatMiss (h : s.Inv) : s.heartbeatMiss.Inv :=
  (h.satCnt.updTwin.ite fun h1 => h1.twnEvt.ite Inv.updTwin).ite fun _ => h

theorem Inv.twinEdge (h : s.Inv) : s.twinEdge.Inv := h.ite Inv.updTwin
theorem Inv.keeperExpiry (h : s.Inv) : s.keeperExpiry.Inv := (h.claimDrop.updTwin.ite fun _ => h.ownRelease).ite fun _ => h

theorem Inv.antlIn {level : Bool} (h : s.Inv) : (s.antlIn level).Inv :=
  ((h.wrB.ite Inv.outputsOn).ite Inv.updTwin).ite fun _ => h.wrB.outputsOff.ite fun h2 => h2.toHeld.resyncStart

theorem Inv.claimWithdraw {settling : Bool} (h : s.Inv) : (s.claimWithdraw settling).Inv :=
  (h.wr.updTwin.toHeld.ite Inv.resyncStart).ite fun _ => h

theorem Inv.outputEnable {gap : Nat} (h : s.Inv) : (s.outputEnable gap).Inv :=
  ((h.updTwin.outputsOn.wr.ite fun _ => h.updTwin.outputsOn).ite fun _ => h.updTwin).ite fun _ => h

theorem Inv.latchRelease (h : s.Inv) : s.latchRelease.Inv :=
  (h.onDies fun _ _ => Inv.onPorts fun _ _ => Inv.wr).updTwin.ite fun _ => h

theorem Inv.sendRecord (h : s.Inv) : s.sendRecord.Inv := h.updTwin.updMeter.wr.wr
theorem Inv.sendCounters (h : s.Inv) : s.sendCounters.Inv := h.typed.updTwin

theorem Inv.twinTick (h : s.Inv) : s.twinTick.Inv :=
  ((h.satCnt.ite Inv.sendCounters).ite Inv.updTwin).ite fun _ => (h.satCnt.ite Inv.sendCounters).updTwin.sendRecord

theorem Inv.adoptCounter {r : Role} {kcv : Word} {ctr : DWord} (h : s.Inv) : (s.adoptCounter r kcv ctr).Inv := by
  unfold State.adoptCounter
  split
  · exact h
  · exact h.ite fun h1 => h1.wr.wr

theorem Inv.loadPort {e : PortEntry} (h : s.Inv) : (s.loadPort e).Inv :=
  h.wr.wrB.wrB.wrB.wrB.wr.wrB.wrB.wrB.wr.wrB.wr.wr.wr.wr.wr.wr.wr.wrB.wrB.updOvr.updMeter.updSaf.ite Inv.updSaf

theorem Inv.loadOut {e : OutEntry} (h : s.Inv) : (s.loadOut e).Inv := by
  unfold State.loadOut
  refine Inv.foldl (fun _ _ h1 => ?_) (h.foldl fun _ _ => Inv.wr).wr
  split
  · exact h1.wrB.wr.wr
  · exact h1

theorem Inv.realign {r : HandoverRec} (h : s.Inv) : (s.realign r).Inv := h.updMeter

theorem Inv.applyItem {i : ChangeItem} (h : s.Inv) : (s.applyItem i).Inv := by
  unfold State.applyItem
  split
  · exact Inv.dite (fun _ => h.storeRecord.updMeter) fun _ => h.storeRecord
  · exact h.updMeter
  · exact h.updMeter.ite fun _ => h.updMeter
  · exact h.updMeter.accountEvent
  · exact h.updMeter
  · exact h.foldl fun _ _ h1 => h1.wr.ite fun _ => h1
  · exact h.paramApply

theorem Inv.loadRecord {r : HandoverRec} (h : s.Inv) : (s.loadRecord r).Inv :=
  ((((((h.foldl (fun _ _ => Inv.loadPort)).foldl fun _ _ => Inv.dataSet).foldl fun _ _ => Inv.dataSet).typed.updMeter.foldl
    (fun _ _ => Inv.loadOut)).foldl fun _ _ => Inv.adoptCounter).realign.foldl (fun _ _ => Inv.applyItem)).updTwin.wr.wr

theorem Inv.discardRecord {rseq : Word} (h : s.Inv) : (s.discardRecord rseq).Inv := h.satCnt.twnEvt.wr.updTwin.ite Inv.toHeld
theorem Inv.resyncDone (h : s.Inv) : s.resyncDone.Inv := h.wr.twnEvt.setRole.wr.wr.wr.updTwin

theorem Inv.recordReceive {r : HandoverRec} (h : s.Inv) : (s.recordReceive r).Inv :=
  ((((h.loadRecord.wr.ite fun _ => h.loadRecord.updTwin.ite Inv.resyncDone).ite fun _ => h.twnEvt.toHeld).ite
    fun _ => h.discardRecord).ite fun _ => h.discardRecord).ite fun _ => h

theorem Inv.regionCopy {c : RegionCopy} (h : s.Inv) : (s.regionCopy c).Inv := by
  unfold State.regionCopy
  refine Inv.ite ?_ fun _ => h
  refine Inv.ite ?_ (fun h1 => h1.wr.updTwin)
  refine Inv.wr ?_
  refine Inv.updTwin ?_
  split
  · exact h.updMeter
  · exact h.updMeter
  · exact h.updMeter
  · exact h.updMeter.foldl (fun _ _ => Inv.loadMap)
  · exact h.updMeter

theorem Inv.meterTakeover {bits : Nat} (h : s.Inv) : (s.meterTakeover bits).Inv := h.updMeter.meterLog.markAll
theorem Inv.binsRestart {d : Fin 8} (h : s.Inv) : (s.binsRestart d).Inv := h.updOxe.typed

theorem Inv.takeClaim {detect : Nat} (h : s.Inv) : (s.takeClaim detect).Inv :=
  (h.setRole.claimRaise.twnEvt.satCnt.wr.onDies (fun _ _ => Inv.binsRestart)).wr.updTwin

theorem Inv.takeover (h : s.Inv) : s.takeover.Inv :=
  ((h.takeClaim.updTwin.meterTakeover.ite fun _ => h.toHeld).ite fun _ => h.toHeld).ite fun _ => h

theorem Inv.heldClaim (h : s.Inv) : s.heldClaim.Inv :=
  (h.wr.takeClaim.updTwin.meterTakeover.foldl fun _ _ h1 => h1.ite Inv.tripStop).ite fun _ => h

theorem Inv.followingCheck (h : s.Inv) : s.followingCheck.Inv :=
  ((h.updTwin.ite fun _ => h.claimDrop.toHeld.twnEvt.updTwin).ite fun _ => h).ite fun _ => h

theorem Inv.plannedAsk {thenHeld : Bool} (h : s.Inv) : (s.plannedAsk thenHeld).Inv := h.updTwin

theorem Inv.plannedRelease (h : s.Inv) : s.plannedRelease.Inv :=
  (h.claimDrop.updTwin.twnEvt.satCnt.setRole.wr.ite fun _ => h.claimDrop.updTwin.twnEvt.satCnt.toHeld).ite fun _ => h

theorem Inv.mainsNotice (h : s.Inv) : s.mainsNotice.Inv := h.ite Inv.plannedAsk

theorem Inv.forcedRole {n : Nat} (h : s.Inv) : (s.forcedRole n).2.Inv := by
  unfold State.forcedRole
  split
  · exact h.plannedAsk.iteSnd h
  · exact (h.plannedAsk.iteSnd h).iteSnd (h.claimDrop.toHeld.iteSnd h.toHeld)
  · exact h.resyncStart.iteSnd h
  · exact h.updTwin.iteSnd h
  · exact h

/-! ## Resets, wipes and supplies (Machine/Resets.lean) -/

theorem Inv.clearCounts {d : Nat} (h : s.Inv) : (s.clearCounts d).Inv := h.typed
theorem Inv.resetInh {d : Fin 8} (h : s.Inv) : (s.resetInh d).Inv := h.typed
theorem Inv.wipeSram {d : Fin 8} (h : s.Inv) : (s.wipeSram d).Inv := h.zeroRange.zeroRange.zeroRange.ite Inv.zeroRange
theorem Inv.dieParts {d : Fin 8} {keepMeter : Bool} (h : s.Inv) : (s.dieParts d keepMeter).Inv := h.typed
theorem Inv.leadParts (h : s.Inv) : s.leadParts.Inv := h.typed
theorem Inv.coreReset {d : Fin 8} (h : s.Inv) : (s.coreReset d).Inv := (h.onPorts fun _ _ h1 => h1.markPort.updPm).updMeter
theorem Inv.headReset (h : s.Inv) : s.headReset.Inv := h.updMeter.wr
theorem Inv.journalCut (h : s.Inv) : s.journalCut.Inv := h.freeWord.updMeter.ite fun _ => h

theorem Inv.dieReset {d : Fin 8} {keepMeter : Bool} (h : s.Inv) : (s.dieReset d keepMeter).Inv :=
  (((((h.coreReset.ite fun _ => h).ite fun h1 => h1.journalCut.headReset).onPorts fun _ _ h1 => h1.ite
    Inv.sessionStop).acqLeave.resetRegs.wrB.wipeSram.dieParts.clearCounts.resetInh.placeLanes.ite
    fun _ => (((h.coreReset.ite fun _ => h).ite fun h2 => h2.journalCut.headReset).onPorts fun _ _ h2 => h2.ite
    Inv.sessionStop).acqLeave.resetRegs.wrB.wipeSram.dieParts.clearCounts.resetInh).ite Inv.leadParts).typed

theorem Inv.eraseRetired {d : Fin 8} {level block index : Nat} (h : s.Inv) : (s.eraseRetired d level block index).Inv :=
  h.typed.setFaultTimes.wr

theorem Inv.chipBack (h : s.Inv) : s.chipBack.Inv := h.ite fun h1 => h1.eraseRetired.typed.info
theorem Inv.setPwr {f : Fld} {v : Nat} (h : s.Inv) : (s.setPwr f v).Inv := h.wr.typed

theorem Inv.pwrReset (h : s.Inv) : s.pwrReset.Inv :=
  ((h.outputsOff.onDies fun _ _ => Inv.dieReset).chipBack.resetRegs.onDies
    (fun _ _ => Inv.placeLanes)).siteApply.wrB.typed.onDies fun _ _ h1 => h1.typed

theorem Inv.rtcAdd {n : Nat} (h : s.Inv) : (s.rtcAdd n).Inv := h.ite fun h1 => h1.wr.wr
theorem Inv.keepReset (h : s.Inv) : s.keepReset.Inv := h.zeroRoot.typed.wr.setWord

theorem Inv.meterTamper {c : Option TamperCause} (h : s.Inv) : (s.meterTamper c).Inv := by
  unfold State.meterTamper
  split
  · exact h.tamperOn
  · exact h.tamperOn
  · exact h.meterLog
  · exact h.freeWord.meterLog

theorem Inv.tamperAct {c : Option TamperCause} (h : s.Inv) : (s.tamperAct c).Inv :=
  (((h.keyAbort.chipFault.ite fun _ => h.keyAbort.log).ite Inv.claimDrop).ite Inv.toHeld).meterTamper

theorem Inv.tamper {c : TamperCause} (h : s.Inv) : (s.tamper c).Inv :=
  h.keepReset.wr.satCnt.tamperAct.ite fun _ => h.keepReset.wr.satCnt.typed

theorem Inv.keepLoss (h : s.Inv) : s.keepLoss.Inv := h.keepReset.setWord.wr.satCnt.typed

theorem Inv.powerOn {lost ac strapB : Bool} {outage : Nat} (h : s.Inv) : (s.powerOn lost ac strapB outage).Inv :=
  (h.typed.rtcAdd.pwrReset.ite Inv.keepLoss).setPwr.setPwr.setPwr.setPwr

theorem Inv.zeroMram {r : Nat} (h : s.Inv) : (s.zeroMram r).Inv := by
  have hm := Sparse.wf_drop (fun _ => (0 : Byte)) (fun k => decide (k / 0x100000000 < 8) && decide (0x20000000 ≤ k % 0x100000000) &&
    decide (k % 0x100000000 < 0x20800000) && Config.mramRegion (k % 0x100000000 - 0x20000000) == r) h.1
  exact ⟨hm, h.2⟩

theorem Inv.wipeM {i : Nat} (h : s.Inv) : (s.wipeM i).Inv := by
  unfold State.wipeM
  split
  · exact h.zeroMram.typed
  · exact (h.zeroMram.foldl fun _ _ h1 => h1.ite Inv.clearSlot).typed
  · exact h.zeroMram.typed
  · exact h.zeroMram.typed
  · exact h.zeroMram

theorem Inv.wipeQ {i : Nat} (h : s.Inv) : (s.wipeQ i).Inv := by
  unfold State.wipeQ
  split
  · exact h.updMeter
  · exact h.updMeter
  · exact h.updMeter
  · exact ((h.onDies fun _ _ h1 => h1.typed).updMeter.foldl (fun _ _ => Inv.loadMap)).wr
  · exact h.updMeter

theorem Inv.wipeRegions {mask : Nat} (h : s.Inv) : (s.wipeRegions mask).Inv :=
  ((((h.foldl fun _ _ h1 => h1.ite Inv.wipeM).foldl fun _ _ h1 => h1.ite Inv.wipeQ).ite Inv.zeroRoot).ite
    fun h1 => h1.openProf.openProf.openDemand).typed.wr

theorem Inv.keyRestart (h : s.Inv) : s.keyRestart.Inv := h.typed

theorem Inv.lifeRestart (h : s.Inv) : s.lifeRestart.Inv := by
  unfold State.lifeRestart
  split
  · exact h
  · refine Inv.siteApply ?_
    refine Inv.onDies (fun _ _ h1 => h1.dieReset.ite fun _ => h1) ?_
    refine Inv.keyRestart ?_
    refine Inv.ite ?_ fun _ => ?_
    · refine Inv.ite ?_ (fun h1 => h1.updMeter.wr)
      split
      · exact h.typed
      · exact (h.typed.wr.satCnt.wrB.ite fun h1 => h1.typed).typed.wipeRegions.info
    · refine Inv.updMeter ?_
      refine Inv.headReset ?_
      refine Inv.updMeter ?_
      refine Inv.markAll ?_
      refine Inv.meterCommit ?_
      split
      · exact h.typed
      · exact (h.typed.wr.satCnt.wrB.ite fun h2 => h2.typed).typed.wipeRegions.info

theorem Inv.twinNotice {last : Bool} (h : s.Inv) : (s.twinNotice last).Inv := h.ite Inv.updTwin
theorem Inv.mainsLoss (h : s.Inv) : s.mainsLoss.Inv := h.setPwr.wr.setPwr.info.twinNotice.ite fun _ => h

theorem Inv.pwrDown {level : Nat} (h : s.Inv) : (s.pwrDown level).Inv :=
  (((h.typed.setPwr.setPwr.setPwr.onUsed fun _ _ h1 => h1.setInhDie.haltDie.dieTrip).meterGather.foldl fun _ _ h1 => h1.ite
    Inv.sessionStop).ite fun h1 => h1.updMeter.meterLog).info.ownRelease.ite fun _ => h

theorem Inv.pwrDownRelease (h : s.Inv) : s.pwrDownRelease.Inv :=
  (h.typed.onUsed fun _ _ h1 => (h1.onPorts fun _ _ => Inv.dropSout).lswRelease).ite fun _ => h

theorem Inv.pwrDownRemove (h : s.Inv) : s.pwrDownRemove.Inv := h.outputsOff.typed.ite fun _ => h
theorem Inv.coldStart (h : s.Inv) : s.coldStart.Inv := h.pwrReset.setPwr.setPwr

theorem Inv.holdupCommit (h : s.Inv) : s.holdupCommit.Inv :=
  (h.meterCommit.twinNotice.updMeter.typed.ite Inv.coldStart).ite fun _ => h

theorem Inv.mainsReturn (h : s.Inv) : s.mainsReturn.Inv := by
  unfold State.mainsReturn
  split
  · exact h.ite fun h1 => h1.updTwin.wr.setPwr.setPwr.info
  · exact h.coldStart
  · exact h.typed

theorem Inv.releasePorts (h : s.Inv) : s.releasePorts.Inv :=
  h.ite fun h1 => (h1.onUsed fun _ _ h2 => h2.ite (Inv.onPorts fun _ _ h3 => h3.ite fun h4 => h4.setInh.setInh)).portsAvailable

theorem Inv.holdupReady {level : Nat} (h : s.Inv) : (s.holdupReady level).Inv := h.setPwr.setPwr.releasePorts.ite fun _ => h
theorem Inv.holdupTimeout (h : s.Inv) : s.holdupTimeout.Inv := h.chipFault.ite fun _ => h
theorem Inv.battery {v1 v2 : Byte} (h : s.Inv) : (s.battery v1 v2).Inv := h.wr.wr.wrB.wrB
theorem Inv.railNote {ok : Bool} (h : s.Inv) : (s.railNote ok).Inv := (h.setPwr.wr.typed.onUsed fun _ _ h1 => h1.wrB.wr.wr).info

theorem Inv.railBegin {f : Fld} (h : s.Inv) : (s.railBegin f).Inv :=
  (h.setPwr.railNote.onUsed (fun _ _ => Inv.railOff)).ite fun _ => h

theorem Inv.latchLost (h : s.Inv) : s.latchLost.Inv :=
  (h.freeWord.updTwin.onUsed fun _ _ h1 => h1.freeWord.updTwin.onPorts fun _ _ => Inv.wr).ite fun _ => h

theorem Inv.railLow (h : s.Inv) : s.railLow.Inv := h.freeWord.railBegin.ite Inv.latchLost

theorem Inv.railUvEnd (h : s.Inv) : s.railUvEnd.Inv :=
  (h.setPwr.typed.onUsed fun _ _ h1 => h1.wr.wr).railNote.ite fun h1 => (h1.onUsed (fun _ _ => Inv.railOn)).releasePorts

theorem Inv.railOvEnd (h : s.Inv) : s.railOvEnd.Inv :=
  h.setPwr.railNote.ite fun h1 => (h1.onUsed fun _ _ h2 => h2.railOn.ite fun _ => h2).releasePorts

theorem Inv.railFault {f : Fld} (h : s.Inv) : (s.railFault f).Inv := h.typed.onUsed fun _ _ h1 => h1.wr.railOff
theorem Inv.rootLockLoss (h : s.Inv) : s.rootLockLoss.Inv := (h.typed.onUsed fun _ _ h1 => h1.setInhDie.haltDie).chipFault

/-! ## Start of the dies (Machine/Boot.lean) -/

theorem Inv.setEpoch {n : Nat} (h : s.Inv) : (s.setEpoch n).Inv := h.wr.wr
theorem Inv.startTime (h : s.Inv) : s.startTime.Inv := (h.ite Inv.setEpoch).wr

theorem Inv.startTrial (h : s.Inv) : s.startTrial.Inv :=
  (h.setWord.typed.wr.ite fun _ => h.setWord.typed.wr.info).ite fun _ => h.setWord

theorem Inv.freeSlots (h : s.Inv) : s.freeSlots.Inv := h.foldl fun _ _ => Inv.setHeader
theorem Inv.pendTampers (h : s.Inv) : s.pendTampers.Inv := h.typed.foldl fun _ _ h1 => h1.log.meterTamper

theorem Inv.bootBegin (h : s.Inv) : s.bootBegin.Inv :=
  ((h.ite Inv.wipeRegions).startTime.startTrial.freeSlots.wr.setMreg.typed.onDies fun _ _ => Inv.setInhDie).pendTampers

theorem Inv.xlkShow {d : Fin 8} (h : s.Inv) : (s.xlkShow d).Inv := h.wr.wrB
theorem Inv.supplyShow {d : Fin 8} (h : s.Inv) : (s.supplyShow d).Inv := (h.ite Inv.setWord).wr.wr.wr.wr.wr

theorem Inv.wipeDone {d : Fin 8} (h : s.Inv) : (s.wipeDone d).Inv :=
  ((h.wipeSram.typed.supplyShow.ite Inv.regionFault).ite fun _ => h.wipeSram.typed.supplyShow.bootBegin).ite fun _ => h

theorem Inv.bootFail {cls why : Nat} (h : s.Inv) : (s.bootFail cls why).Inv := h.ite fun h1 => h1.wr.wr

theorem Inv.coreBack {p : Fin 8 → Bool} (h : s.Inv) : (s.coreBack p).Inv := by
  unfold State.coreBack
  refine Inv.onDies (fun _ _ h1 => ?_) h
  refine Inv.ite h1 (fun h2 => ?_)
  split
  · exact h2.updMeter.meterLog
  · exact h2

theorem Inv.journalReplay (h : s.Inv) : s.journalReplay.Inv := by
  unfold State.journalReplay
  split
  · exact h
  · exact h.updMeter.meterLog

theorem Inv.meterBegin {b : Nat} (h : s.Inv) : (s.meterBegin b).Inv :=
  h.wr.wr.setMreg.journalReplay.updMeter.paramStart.coreBack

theorem Inv.meterStart (h : s.Inv) : s.meterStart.Inv :=
  ((h.bootFail.ite Inv.meterBegin).ite fun _ => h.meterBegin).ite fun _ => h

theorem Inv.passOver {b : Nat} (h : s.Inv) : (s.passOver b).Inv := by
  unfold State.passOver
  split
  · exact h.bootFail
  · exact h.bootFail

theorem Inv.setMregs {b : Nat} (h : s.Inv) : (s.setMregs b).Inv := h.foldl fun _ _ => Inv.setMreg
theorem Inv.trialDrop (h : s.Inv) : s.trialDrop.Inv := h.ite fun h1 => h1.typed.wr.wr.info

theorem Inv.firstSafety {b : Nat} (h : s.Inv) : (s.firstSafety b).Inv := by
  unfold State.firstSafety
  refine Inv.ite ?_ fun _ => h
  refine Inv.onDies (fun _ _ h1 => ?_) h
  refine Inv.ite ?_ fun _ => h1
  split
  · exact h1
  · exact h1.typed.foldl fun _ _ => Inv.wr

theorem Inv.startRole (h : s.Inv) : s.startRole.Inv := (h.ite fun h1 => h1.setRole.resyncStart).ite fun _ => h.claimDrop.toHeld
theorem Inv.startInh (h : s.Inv) : s.startInh.Inv := h.onDies fun _ _ => Inv.setInhDie
theorem Inv.startStaged (h : s.Inv) : s.startStaged.Inv := h.stagedCheck.wr

theorem Inv.runSet {b cert : Nat} (h : s.Inv) : (s.runSet b cert).Inv := by
  unfold State.runSet
  refine Inv.startRole ?_
  refine Inv.startInh ?_
  refine Inv.startStaged ?_
  refine Inv.firstSafety ?_
  split
  · exact h.wr.wr.wrB.setMregs.setMreg.typed.wr
  · exact h.wr.wr.wrB.setMregs.setMreg.typed

theorem Inv.holdEnter (h : s.Inv) : s.holdEnter.Inv :=
  (h.setMregs.setMreg.wr.onUsed fun _ _ h1 => (h1.setInhDie.haltDie.onPorts
    fun _ _ => Inv.dropSout).lswRelease).typed.info.startStaged.startInh.startRole

theorem Inv.recoveryOnly (h : s.Inv) : s.recoveryOnly.Inv :=
  h.setMregs.setMreg.typed.startStaged.startInh.claimDrop.ite Inv.toHeld

theorem Inv.bootChoice (h : s.Inv) : s.bootChoice.Inv := by
  unfold State.bootChoice
  dsimp only
  refine Inv.ite ?_ fun _ => h
  refine Inv.ite ?_ fun _ => h.meterStart.recoveryOnly
  split
  · exact h.meterStart.runSet.info.ite fun _ => h.meterStart.runSet
  · split
    · exact h.meterStart.passOver.trialDrop.wr.typed.runSet.info
    · exact h.meterStart.passOver.holdEnter.info.trialDrop

theorem Inv.measReport {d : Fin 8} (h : s.Inv) : (s.measReport d).Inv := by
  unfold State.measReport
  dsimp only
  refine Inv.ite ?_ fun _ => h
  split
  · exact h.typed
  · exact h.bootFail.regionFault.ite fun _ => (h.foldl fun _ _ => Inv.setImage).setCerts.typed

theorem Inv.dieStart {d : Fin 8} (h : s.Inv) : (s.dieStart d).Inv := (h.typed.wrB.xlkShow.foldl fun _ _ => Inv.wr).typed

theorem Inv.portDies (h : s.Inv) : s.portDies.Inv :=
  ((h.onDies fun _ _ h1 => h1.ite Inv.dieStart).wr.typed.coreBack.releasePorts.ite fun _ => h).ite fun _ => h

theorem Inv.slotOpen (h : s.Inv) : s.slotOpen.Inv := h.ite fun h1 => h1.keyStoreStart.typed

theorem Inv.lcsConfirm {r : Requester} {v : Word} (h : s.Inv) : (s.lcsConfirm r v).Inv := by
  unfold State.lcsConfirm
  split
  · exact h.info.ite fun _ => h.wr.wr.wr.typed.wr.keyConfirm.stagedCheck
  · exact h.accessEvent

theorem Inv.trialExpiry (h : s.Inv) : s.trialExpiry.Inv := h.ite fun h1 => h1.typed

theorem Inv.mreg7Ext {r : Requester} {v : Word} (h : s.Inv) : (s.mreg7Ext r v).Inv :=
  h.accessEvent.ite fun _ => h.wr.setMreg.foldl fun _ _ => Inv.wr

theorem Inv.stageChecked (h : s.Inv) : s.stageChecked.Inv := h.typed.stagedCheck.wr.ite fun _ => h

theorem Inv.shutRecover {d : Fin 8} {v : Vector (BitVec 16) 4} (h : s.Inv) : (s.shutRecover d v).Inv :=
  (h.takeTemps.ite fun h1 => h1.dieReset.ite fun _ => h1.setBit.typed.log).ite fun _ => h

/-! ## Delayed resets, links, retire and reinstate (Machine/Faults.lean) -/

theorem Inv.regionReset {d : Fin 8} (h : s.Inv) : (s.regionReset d).Inv := h.ite Inv.dieReset
theorem Inv.chipReset (h : s.Inv) : s.chipReset.Inv := h.ite Inv.pwrReset

theorem Inv.dieWatchdog {d : Fin 8} (h : s.Inv) : (s.dieWatchdog d).Inv :=
  (h.regionFault.dieReset.ite fun _ => h.regionFault).ite fun _ => h

theorem Inv.laneGone {d : Fin 8} {block lane link : Nat} (h : s.Inv) : (s.laneGone d block lane link).Inv :=
  (h.log.errRegs.fcnt.ite fun _ => h.log).retireElem

theorem Inv.xlkLaneFail {d : Fin 8} {lane : Nat} (h : s.Inv) : (s.xlkLaneFail d lane).Inv :=
  (h.setBit.xlkFirst.laneGone.xlkShow.ite fun h1 => h1.wr.xlkFirst.regionFault).ite fun _ => h

theorem Inv.twinLaneFail {lane : Nat} (h : s.Inv) : (s.twinLaneFail lane).Inv :=
  ((h.laneGone.ite Inv.wr).ite Inv.linkDown).ite fun _ => h

theorem Inv.xlkState {d : Fin 8} {toLead : Bool} {w : Word} {bad : Bool} (h : s.Inv) : (s.xlkState d toLead w bad).Inv :=
  (h.xlkSent.typed.ite fun _ => h.xlkSent.wr.xlkFirst).ite fun _ => h

theorem Inv.xlkError {d : Fin 8} {cls : Nat} (h : s.Inv) : (s.xlkError d cls).Inv := h.wr.xlkFirst.satCnt.xlkSent.ite fun _ => h

theorem Inv.remoteWrite {src dst : Fin 8} (h : s.Inv) : (s.remoteWrite src dst).Inv := by
  unfold State.remoteWrite
  split
  · exact h
  · exact (h.updOxe.xlkSent.ite Inv.remoteSet).ite fun _ => h

theorem Inv.retireCmd {d : Fin 8} {level block index counter : Nat} (h : s.Inv) :
    (s.retireCmd d level block index counter).Inv :=
  Inv.dite (fun _ => h.retireElem.laneOut) fun _ => h.retireElem.ite Inv.dieReset

theorem Inv.cellBack {d : Fin 8} {c : Nat} (h : s.Inv) : (s.cellBack d c).Inv :=
  Inv.dite (fun _ => (h.ite fun h1 => h1.undegrade.ite fun _ => h1).ite fun _ => h.undegrade.ite fun _ => h) fun _ => h

theorem Inv.laneBack {d : Fin 8} {k : Fin 3} (h : s.Inv) : (s.laneBack d k).Inv :=
  (h.wr.wr.updLane.ite fun h1 => h1.wr.setPhase.clearPairs.ite Inv.laneCal).onPorts fun _ _ => Inv.undegrade

theorem Inv.reinstateCmd {d : Fin 8} {level block index : Nat} (h : s.Inv) : (s.reinstateCmd d level block index).Inv :=
  ((Inv.dite (fun _ => (h.ite Inv.eraseRetired).info.laneBack)
    fun _ => ((((h.ite Inv.eraseRetired).info.ite fun h1 => h1.clrBit.clrBit.typed).ite
    fun _ => (h.ite Inv.eraseRetired).info.ite Inv.wr).ite fun _ => (h.ite Inv.eraseRetired).info.xlkShow).ite
    fun _ => (h.ite Inv.eraseRetired).info.wr.wr).ite fun _ => (h.ite Inv.eraseRetired).info.ite fun h2 => h2.wr.cellBack).ite
    fun _ => h.typed

theorem Inv.releaseDies (h : s.Inv) : s.releaseDies.Inv := h.onDies fun _ _ h1 => h1.ite fun h2 => h2.typed.dieReset

/-! ## Power allocation (Machine/Alloc.lean) -/

theorem Inv.c4Start {d : Fin 8} {read : State → List Nat} (h : s.Inv) : (s.c4Start d read).2.Inv :=
  Inv.iteSnd h (Inv.iteSnd (Inv.trigWhole h) (Inv.eccMeet (Inv.trigWhole h)))

theorem Inv.setCyc {d n : Fin 8} {c : Nat} (h : s.Inv) : (s.setCyc d n c).Inv := h.wr.ite Inv.wr
theorem Inv.awSet {off : Nat} {x : Int} (h : s.Inv) : (s.awSet off x).Inv := h.dataSet

theorem Inv.awSets {off : Nat} {l : List Int} (h : s.Inv) : (s.awSets off l).Inv := by
  induction l generalizing s off with
  | nil => exact h
  | cons x t ih => exact ih (Inv.awSet h)

theorem Inv.allocDefaults (h : s.Inv) : s.allocDefaults.Inv := h.awSets.awSets.awSets
theorem Inv.sendWord {d : Fin 8} {dst word : Nat} {v : Int} (h : s.Inv) : (s.sendWord d dst word v).Inv := h.updOxe

theorem Inv.sendReport {d : Fin 8} (h : s.Inv) : (s.sendReport d).Inv :=
  ((h.c4Start.foldl fun _ _ => Inv.foldl fun _ _ => Inv.sendWord).sendWord.setCyc.ite fun _ => h.c4Start).ite fun _ => h

theorem Inv.takeBuffer {blk : Nat} {b : Fin 4} (h : s.Inv) : (s.takeBuffer blk b).Inv := h.typed
theorem Inv.takeGrid {blk : Nat} {first : Bool} (h : s.Inv) : (s.takeGrid blk first).1.Inv := h.typed

theorem Inv.slowUpdate {blk : Nat} {f : Int} {first changed back : Bool} (h : s.Inv) :
    (s.slowUpdate blk f first changed back).Inv :=
  ((h.awSet.ite fun _ => h).awSets.ite fun _ => (h.awSet.ite fun _ => h).awSet.awSets.ite Inv.awSets).ite
    fun _ => (h.awSet.ite fun _ => h).awSets

theorem Inv.allocFirst (h : s.Inv) : s.allocFirst.Inv :=
  ((h.c4Start.foldl fun _ _ => Inv.takeBuffer).takeGrid.slowUpdate.typed.wr.ite fun _ => h.c4Start.ctxFault).ite
    fun _ => h.c4Start

theorem Inv.allocOut {d : Fin 8} {word : Nat} {v : Int} (h : s.Inv) : (s.allocOut d word v).Inv :=
  (h.sendWord.ite fun _ => h.remoteSet).ite fun _ => h

theorem Inv.writeRecords {off : Nat} {l : List (Int × Int × Int × Int)} (h : s.Inv) : (s.writeRecords off l).Inv := h.awSets

theorem Inv.keepPorts {l : List (Nat × Grant)} (h : s.Inv) : (s.keepPorts l).Inv :=
  h.foldl fun _ _ h1 => Inv.dite (fun _ => h1.typed) fun _ => h1

theorem Inv.sendPorts {blk : Nat} {l : List (Nat × Grant)} (h : s.Inv) : (s.sendPorts blk l).Inv :=
  h.foldl fun _ _ h1 => h1.allocOut.allocOut

theorem Inv.openWords {off n : Nat} (h : s.Inv) : (s.openWords off n).Inv := h.typed.awSets

theorem Inv.allocSolve {ph : AllocPhase} (h : s.Inv) : (s.allocSolve ph).Inv :=
  (h.typed.writeRecords.writeRecords.sendPorts.foldl fun _ _ => Inv.onDies
    fun _ _ => Inv.allocOut).keepPorts.awSets.awSets.awSets.typed.openWords.openWords.setCyc

theorem Inv.allocSecond (h : s.Inv) : s.allocSecond.Inv := by
  unfold State.allocSecond
  split
  · exact h
  · exact h.typed.ite fun h1 => h1.allocSolve.wr

theorem Inv.portRelease {p : Fin 32} (h : s.Inv) : (s.portRelease p).Inv := h.ite fun h1 => h1.typed.awSets.awSet.allocOut

theorem Inv.bufferLost {b : Fin 4} (h : s.Inv) : (s.bufferLost b).Inv :=
  h.ite fun h1 => h1.typed.awSet.onDies fun _ _ => Inv.allocOut

theorem Inv.gridLost {i : Fin 2} (h : s.Inv) : (s.gridLost i).Inv := h.ite fun h1 => h1.typed.awSets.awSet
theorem Inv.candidateZero {d : Fin 8} {k : Fin 4} (h : s.Inv) : (s.candidateZero d k).Inv := h.ite fun h1 => h1.wr.outPath

/-! ## CAN controllers (Machine/CanBus.lean) -/

theorem Inv.updCan {d : Fin 8} {j : Fin 2} {f : Can → Can} (h : s.Inv) : (s.updCan d j f).Inv := h.typed
theorem Inv.canEvt {d : Fin 8} {j : Fin 2} {f : Fld} (h : s.Inv) : (s.canEvt d j f).Inv := h.wr
theorem Inv.canConfine {d : Fin 8} {j : Fin 2} (h : s.Inv) : (s.canConfine d j).Inv := (h.ite Inv.canEvt).wr.ite fun _ => h

theorem Inv.canTxError {d : Fin 8} {j : Fin 2} (h : s.Inv) : (s.canTxError d j).Inv :=
  h.freeWord.wr.wr.wr.wr.canEvt.ite fun _ => h.wr.canConfine

theorem Inv.canRxError {d : Fin 8} {j : Fin 2} (h : s.Inv) : (s.canRxError d j).Inv := (h.wr.ite fun _ => h.wr).canConfine

theorem Inv.canRxGood {d : Fin 8} {j : Fin 2} (h : s.Inv) : (s.canRxGood d j).Inv :=
  h.wr.canConfine.ite fun _ => h.freeWord.wr.wr.canConfine

theorem Inv.canErrCode {d : Fin 8} {j : Fin 2} {code : Nat} {dataPhase : Bool} (h : s.Inv) :
    (s.canErrCode d j code dataPhase).Inv :=
  h.wr.ite fun _ => h.wr

theorem Inv.canInitClear {d : Fin 8} {j : Fin 2} (h : s.Inv) : (s.canInitClear d j).Inv :=
  ((h.wr.wr.wr.wr.canConfine.ite fun _ => h.wr.wr.updCan).ite fun _ => h.canEvt).ite fun _ => h

theorem Inv.canRecover {d : Fin 8} {j : Fin 2} (h : s.Inv) : (s.canRecover d j).Inv := h.ite fun h1 => h1.wr.wr.wr.wr.wr.updCan
theorem Inv.canUncorr {d : Fin 8} {j : Fin 2} {buf : Nat} (h : s.Inv) : (s.canUncorr d j buf).Inv := h.canEvt.fault
theorem Inv.canForget {d : Fin 8} {j : Fin 2} {b : Nat} (h : s.Inv) : (s.canForget d j b).Inv := h.updCan
theorem Inv.canDrop {d : Fin 8} {j : Fin 2} {b : Nat} (h : s.Inv) : (s.canDrop d j b).Inv := h.clrBit.setBit.canEvt.canForget

theorem Inv.canRxBad {d : Fin 8} {j : Fin 2} {o : Nat} (h : s.Inv) : (s.canRxBad d j o).Inv :=
  h.setMword.zeroRange.eccMend.canUncorr

theorem Inv.canUpsetAt {d : Fin 8} {j : Fin 2} {o : Nat} (h : s.Inv) : (s.canUpsetAt d j o).Inv := by
  unfold State.canUpsetAt
  split
  · exact h
  · exact h.eccMend.canEvt
  · exact ((h.ite fun h1 => h1.canUncorr.canDrop).ite fun _ => h.canRxBad).ite fun _ => h

theorem Inv.canUpset {k : Nat} (h : s.Inv) : (s.canUpset k).Inv :=
  ((h.ite Inv.canUpsetAt).ite fun _ => h.canUpsetAt).ite fun _ => h

theorem Inv.canFilterErrs {d : Fin 8} {j : Fin 2} {last : Option Nat} (h : s.Inv) : (s.canFilterErrs d j last).Inv :=
  h.foldl fun _ _ h1 => h1.ite fun h2 => h2.canEvt.fault

theorem Inv.canStore {d : Fin 8} {j : Fin 2} {off : Nat} {f : CanFrame} {sieve : Nat} {unmatched : Bool} (h : s.Inv) :
    (s.canStore d j off f sieve unmatched).Inv :=
  h.setMword.setMword.setMword.setBytes

theorem Inv.canQueue {d : Fin 8} {j : Fin 2} {q : Nat} {f : CanFrame} {sieve : Nat} {unmatched : Bool} (h : s.Inv) :
    (s.canQueue d j q f sieve unmatched).Inv :=
  (h.satCnt.canEvt.ite fun h1 => h1.canStore.wr.canEvt.wr).ite fun _ => h.canStore.wr.canEvt.wr.wrB.ite Inv.canEvt

theorem Inv.canSlot {d : Fin 8} {j : Fin 2} {slot : Nat} {f : CanFrame} {sieve : Nat} (h : s.Inv) :
    (s.canSlot d j slot f sieve).Inv :=
  (h.ite Inv.canEvt).canStore.setBit.canEvt

theorem Inv.canFiltered {d : Fin 8} {j : Fin 2} {f : CanFrame} (h : s.Inv) : (s.canFiltered d j f).Inv := by
  unfold State.canFiltered
  dsimp only
  refine Inv.ite ?_ fun _ => h
  split
  · split
    · exact h.canFilterErrs.canQueue
    · exact h.canFilterErrs.canQueue
    · exact h.canFilterErrs.canSlot
    · exact h.canFilterErrs
  · split
    · exact h.canFilterErrs.canQueue
    · exact h.canFilterErrs.canQueue
    · exact h.canFilterErrs

theorem Inv.abdNext {d : Fin 8} {j : Fin 2} (h : s.Inv) : (s.abdNext d j).Inv :=
  (h.updCan.satCnt.wr.canEvt.ite fun _ => h.updCan.satCnt.wr).ite fun _ => h.updCan.wr

theorem Inv.abdGood {d : Fin 8} {j : Fin 2} (h : s.Inv) : (s.abdGood d j).Inv :=
  h.setWord.setWord.wr.wr.updCan.canEvt.ite fun _ => h.updCan

theorem Inv.abdStart {d : Fin 8} {j : Fin 2} (h : s.Inv) : (s.abdStart d j).Inv := h.ite fun h1 => h1.wr.wr.wr.updCan

theorem Inv.canReceive {d : Fin 8} {j : Fin 2} {f : CanFrame} (h : s.Inv) : (s.canReceive d j f).Inv :=
  ((h.canRxGood.ite fun _ => h).updCan.canFiltered.ite fun _ => h).ite fun _ => h.abdGood

theorem Inv.canClashRx {d : Fin 8} {j : Fin 2} {id : Nat} {ext : Bool} {pos : Nat} (h : s.Inv) :
    (s.canClashRx d j id ext pos).Inv :=
  h.wr.wr.wr.wrB.canEvt.info

theorem Inv.canBusError {d : Fin 8} {j : Fin 2} {id : Nat} {ext : Bool} {pos code : Nat} {place : CanErrAt} (h : s.Inv) :
    (s.canBusError d j id ext pos code place).Inv :=
  (((h.canErrCode.canRxError.ite fun _ => h.canErrCode).updCan.canClashRx.ite fun _ => (h.canErrCode.canRxError.ite
    fun _ => h.canErrCode).updCan).ite fun _ => h).ite fun _ => h.abdNext.ite fun _ => h.abdGood

theorem Inv.abdDwell {d : Fin 8} {j : Fin 2} (h : s.Inv) : (s.abdDwell d j).Inv := h.ite Inv.abdNext

theorem Inv.canRelease {d : Fin 8} {j : Fin 2} {q last : Nat} (h : s.Inv) : (s.canRelease d j q last).Inv :=
  h.wr.wr.wr.ite fun _ => h

theorem Inv.canRequestOne {d : Fin 8} {j : Fin 2} {b : Nat} (h : s.Inv) : (s.canRequestOne d j b).Inv :=
  (((h.setBit.canForget.canEvt.ite fun _ => h.setBit.canForget).ite fun _ => h.canUncorr.canDrop).ite fun _ => h.canDrop).ite
    fun _ => h

theorem Inv.canRequest {d : Fin 8} {j : Fin 2} {mask : Nat} (h : s.Inv) : (s.canRequest d j mask).Inv :=
  (h.foldl fun _ _ h1 => h1.ite Inv.canRequestOne).ite fun _ => h

theorem Inv.canAbort {d : Fin 8} {j : Fin 2} {mask : Nat} (h : s.Inv) : (s.canAbort d j mask).Inv :=
  h.foldl fun _ _ h1 => h1.ite fun h2 => h2.clrBit.canForget

theorem Inv.canFailed {d : Fin 8} {j : Fin 2} {b : Nat} {bit : Option Nat} (h : s.Inv) : (s.canFailed d j b bit).Inv :=
  (h.canDrop.ite fun h1 => h1.wr.wrB.canEvt.info).ite fun _ => h.updCan

theorem Inv.canCount {d : Fin 8} {j : Fin 2} {e : CanTxEnd} (h : s.Inv) : (s.canCount d j e).Inv := by
  unfold State.canCount
  split
  · exact h.wr.canConfine
  · exact h
  · exact h.canErrCode.canTxError
  · exact h.canErrCode.canTxError

theorem Inv.canBuffer {d : Fin 8} {j : Fin 2} {b : Nat} {e : CanTxEnd} (h : s.Inv) : (s.canBuffer d j b e).Inv := by
  unfold State.canBuffer
  split
  · exact h.setMword.clrBit.setBit.canEvt.canForget
  · exact h.canFailed
  · exact h.canFailed

theorem Inv.canReference {d : Fin 8} {j : Fin 2} {e : CanTxEnd} (h : s.Inv) : (s.canReference d j e).Inv := by
  unfold State.canReference
  split
  · exact h.wr.wr.updCan
  · exact h

theorem Inv.canAttempt {d : Fin 8} {j : Fin 2} {e : CanTxEnd} (h : s.Inv) : (s.canAttempt d j e).Inv := by
  unfold State.canAttempt
  refine Inv.ite ?_ fun _ => h
  refine Inv.ite ?_ fun _ => h.canReference.canCount
  split
  · exact h
  · exact h.canBuffer.canCount

theorem Inv.canRefDue {d : Fin 8} {j : Fin 2} (h : s.Inv) : (s.canRefDue d j).Inv := (h.ite Inv.canEvt).updCan.ite fun _ => h

/-! ## Cooling and copper thermometry (Machine/Cooling.lean) -/

theorem Inv.cwSet {d : Fin 8} {off : Nat} {x : Int} (h : s.Inv) : (s.cwSet d off x).Inv := h.dataSet
theorem Inv.updCopper {d : Fin 8} {k : Fin 4} {f : Copper → Copper} (h : s.Inv) : (s.updCopper d k f).Inv := h.typed

theorem Inv.coolDefaults {d : Fin 8} (h : s.Inv) : (s.coolDefaults d).Inv :=
  (h.foldl fun _ _ h1 => h1.cwSet.cwSet.cwSet.cwSet.cwSet).cwSet.cwSet.cwSet.cwSet.cwSet.cwSet.cwSet

theorem Inv.copperEdge {d : Fin 8} {k : Fin 4} (h : s.Inv) : (s.copperEdge d k).Inv := h.updCopper
theorem Inv.modelPort {d : Fin 8} {k : Fin 4} (h : s.Inv) : (s.modelPort d k).Inv := h.cwSet.updCopper

theorem Inv.copperLoop {d : Fin 8} {k : Fin 4} (h : s.Inv) : (s.copperLoop d k).Inv :=
  h.cwSet.updCopper.cwSet.dataSet.ite fun _ => h.cwSet.updCopper

theorem Inv.c5Step {d : Fin 8} (h : s.Inv) : (s.c5Step d).Inv :=
  ((h.onPorts fun _ _ h1 => h1.modelPort.copperLoop).ite fun h1 => h1.typed).cwSet.typed.cwSet

theorem Inv.c5Fire {d : Fin 8} (h : s.Inv) : (s.c5Fire d).Inv :=
  ((h.trigWhole.eccMeet.freeWord.c5Step.setCyc.ite fun _ => h.trigWhole.eccMeet).ite fun _ => h.trigWhole.ctxFault).ite
    fun _ => h.trigWhole

theorem Inv.timerEdge {d : Fin 8} (h : s.Inv) : (s.timerEdge d).Inv :=
  (h.updOxe.foldl fun _ _ h1 => (h1.trigEvent.ite fun _ => h1.c5Fire).ite fun _ => h1).ite fun _ => h

theorem Inv.coolLoss {d : Fin 8} (h : s.Inv) : (s.coolLoss d).Inv :=
  (h.onPorts fun _ _ h1 => h1.updCopper.cwSet).typed.cwSet.evtPush.evtPush.ite fun _ => h

theorem Inv.coolRestore {d : Fin 8} (h : s.Inv) : (s.coolRestore d).Inv :=
  (h.onPorts fun _ _ => Inv.updCopper).typed.ite fun _ => h

theorem Inv.pumpIdle {d : Fin 8} (h : s.Inv) : (s.pumpIdle d).Inv := h.typed.cwSet.ite fun _ => h

theorem Inv.copperReject {d : Fin 8} {k : Fin 4} {met : Bool} (h : s.Inv) : (s.copperReject d k met).Inv :=
  ((h.cwSet.updCopper.fault.ite fun _ => h.cwSet.updCopper).ite fun _ => h.cwSet.updCopper).ite fun _ => h.cwSet

theorem Inv.copperRead {d : Fin 8} {k : Fin 4} (h : s.Inv) : (s.copperRead d k).Inv := h.corLatch.corLatch.updCopper

theorem Inv.copperResult {d : Fin 8} {k : Fin 4} {kv ki : Nat} (h : s.Inv) : (s.copperResult d k kv ki).Inv := by
  unfold State.copperResult
  split
  · exact h.copperRead.copperReject
  · exact h.copperRead.copperReject.ite fun _ => h.copperRead.cwSet.cwSet.updCopper

theorem Inv.copperReference {d : Fin 8} {k : Fin 4} {results : List Nat} (h : s.Inv) : (s.copperReference d k results).Inv :=
  h.ite fun h1 => h1.updCopper.cwSet

theorem Inv.thermoFallback {d : Fin 8} {k : Fin 4} (h : s.Inv) : (s.thermoFallback d k).Inv :=
  h.ite fun h1 => h1.updCopper.cwSet

/-! ## Command gate (Machine/Gate.lean) -/

theorem Inv.updLock {i : Fin 5} {f : Lockout → Lockout} (h : s.Inv) : (s.updLock i f).Inv := h.typed
theorem Inv.badTag {i : Fin 5} (h : s.Inv) : (s.badTag i).Inv := h.updLock.setBit.info.ite fun _ => h.updLock
theorem Inv.consume {i : Fin 5} {c : Nat} (h : s.Inv) : (s.consume i c).Inv := h.wr.wr.typed

theorem Inv.lockEnd {r : Role} (h : s.Inv) : (s.lockEnd r).Inv := by
  unfold State.lockEnd
  split
  · exact h
  · exact h.clrBit

theorem Inv.gateCheck {e : Envelope} (h : s.Inv) : (s.gateCheck e).2.Inv :=
  h.iteSnd (h.iteSnd (h.iteSnd (h.badTag.iteSnd (h.updLock.iteSnd h.updLock.consume))))

theorem Inv.updSafCore {d : Fin 8} {f : Saf → Saf} (h : s.Inv) : (s.updSafCore d f).Inv := h.typed
theorem Inv.wrongPassword {d : Fin 8} (h : s.Inv) : (s.wrongPassword d).Inv := h.updSafCore.ite Inv.wr

theorem Inv.blame {e : Envelope} (h : s.Inv) : (s.blame e).Inv := by
  unfold State.blame
  refine Inv.ite ?_ fun _ => h
  refine Inv.ite (h.ite Inv.calLoad) fun _ => ?_
  split
  · exact h.wrongPassword.ite fun _ => h
  · exact h

theorem Inv.respond {e : Envelope} {v : Verdict} (h : s.Inv) : (s.respond e v).Inv :=
  h.putPayload.publish.wrapCnt.ite fun _ => h.putPayload.publish.wrapCnt

theorem Inv.gateRun {k : Fin 8} {code : Nat} {mine : List Word → Bool} {bad : State → Envelope → Bool}
    {run : State → Envelope → Verdict × State} (hr : ∀ y e, y.Inv → (run y e).2.Inv) (h : s.Inv) :
    (s.gateRun k code mine bad run).Inv := by
  have hc {e} : (s.gateCheck e).2.Inv := Inv.gateCheck h
  unfold State.gateRun
  dsimp only
  split
  · exact h
  split
  · exact Inv.respond h
  split
  · exact h
  split
  · exact Inv.respond hc
  split
  · exact Inv.respond (Inv.blame hc)
  split
  · exact Inv.respond hc
  · exact Inv.respond (hr _ _ hc)

theorem Inv.meterRun {k : Fin 8} {code : Nat} {bad turned : State → Envelope → Bool}
    {ask : State → Envelope → Answer × State} (ha : ∀ y e, y.Inv → (ask y e).2.Inv) (h : s.Inv) :
    (s.meterRun k code bad turned ask).Inv := by
  have hc {e} : (s.gateCheck e).2.Inv := Inv.gateCheck h
  unfold State.meterRun
  dsimp only
  split
  · exact h
  split
  · exact Inv.respond h
  split
  · exact h
  split
  · exact Inv.respond hc
  split
  · exact Inv.respond hc
  split
  · exact Inv.respond hc
  split
  · exact Inv.respond hc
  split
  · exact Inv.respond hc
  split
  · exact Inv.respond (ha _ _ hc)
  · exact Inv.typed (Inv.putPayload (Inv.setHeader (ha _ _ hc)))

theorem Inv.meterAnswer (h : s.Inv) : s.meterAnswer.Inv := by
  unfold State.meterAnswer
  split
  · exact h
  · exact h.typed.claimSlot.putPayload.publish.takeSlot.respond

/-! ## Commands of the gate (Machine/GateCmd.lean) -/

theorem Inv.statusRun {e : Envelope} (h : s.Inv) : (s.statusRun e).2.Inv := h

theorem Inv.logRun {e : Envelope} (h : s.Inv) : (s.logRun e).2.Inv := by
  unfold State.logRun
  dsimp only
  split
  · exact h
  · next heq => exact Inv.ofSnd heq (Inv.bulkResult h)

theorem Inv.beginRun {e : Envelope} (h : s.Inv) : (s.beginRun e).2.Inv :=
  (h.ite (Inv.onDies fun _ _ => Inv.setImage)).typed.voidPending.stagedCheck

theorem Inv.dataRun {e : Envelope} (h : s.Inv) : (s.dataRun e).2.Inv := h.iteSnd h.takeSlot.typed
theorem Inv.addCert {b : Nat} {l : List Byte} (h : s.Inv) : (s.addCert b l).Inv := h.onDies fun _ _ => Inv.setCerts

theorem Inv.endRun {e : Envelope} (h : s.Inv) : (s.endRun e).2.Inv := by
  unfold State.endRun
  split
  · exact h
  · exact (h.addCert.ite fun _ => h.onDies fun _ _ => Inv.setImage).typed.stagedCheck.wr

theorem Inv.changeLog {d : Fin 8} {kind counter : Nat} (h : s.Inv) : (s.changeLog d kind counter).Inv := h.updSafCore.wr
theorem Inv.digestOut {d : Fin 8} (h : s.Inv) : (s.digestOut d).Inv := h.foldl fun _ _ => Inv.wr

theorem Inv.acknowledge {d : Fin 8} {m : BitVec 4} (h : s.Inv) : (s.acknowledge d m).Inv :=
  h.onPorts fun _ _ h1 => h1.ite fun h2 => h2.wr.ite Inv.wr

theorem Inv.safetyRun {e : Envelope} (h : s.Inv) : (s.safetyRun e).2.Inv := by
  unfold State.safetyRun
  split
  · refine Inv.iteSnd h ?_
    split
    · exact h.updSafCore.digestOut.changeLog.acknowledge.changeLog.ite fun _ => h.updSafCore.digestOut.changeLog
    · exact h
  · exact h

theorem Inv.passwordRun {e : Envelope} (h : s.Inv) : (s.passwordRun e).2.Inv := by
  unfold State.passwordRun
  split
  · refine Inv.iteSnd h ?_
    split
    · exact h.freeBytes.updSafCore.digestOut.changeLog
    · exact h
  · exact h

theorem Inv.paramRun {e : Envelope} (h : s.Inv) : (s.paramRun e).2.Inv := h.paramWrite
theorem Inv.timeRun {e : Envelope} (h : s.Inv) : (s.timeRun e).2.Inv := Inv.pair (Inv.timeSet h)
theorem Inv.calRun {e : Envelope} (h : s.Inv) : (s.calRun e).2.Inv := h.calLoad
theorem Inv.actRun {e : Envelope} (h : s.Inv) : (s.actRun e).2.Inv := h.calActivate
theorem Inv.discardRun {e : Envelope} (h : s.Inv) : (s.discardRun e).2.Inv := h.calDiscard

theorem Inv.activateRun {e : Envelope} (h : s.Inv) : (s.activateRun e).2.Inv := by
  unfold State.activateRun
  dsimp only
  split
  · exact h
  · exact h.wr.wr.typed

theorem Inv.closeMeter (h : s.Inv) : s.closeMeter.Inv :=
  ((h.billClose.foldl fun _ _ h1 => h1.ite Inv.closingRecord).updMeter.foldl (fun _ _ => Inv.signRecord)).ite fun _ => h

theorem Inv.lifeRun {e : Envelope} (h : s.Inv) : (s.lifeRun e).2.Inv := by
  unfold State.lifeRun
  split
  · exact h
  · exact (h.ite Inv.closeMeter).typed

theorem Inv.roleRun {e : Envelope} (h : s.Inv) : (s.roleRun e).2.Inv := h.forcedRole

theorem Inv.retireRun {e : Envelope} (h : s.Inv) : (s.retireRun e).2.Inv := by
  unfold State.retireRun
  split
  · exact h.iteSnd h.retireCmd
  · exact h

theorem Inv.reinstateRun {e : Envelope} (h : s.Inv) : (s.reinstateRun e).2.Inv := by
  unfold State.reinstateRun
  split
  · exact h.iteSnd h.reinstateCmd
  · exact h

theorem Inv.apduAsk {a : Apdu} {e : Envelope} (h : s.Inv) : (State.apduAsk a s e).2.Inv := h.apdu
theorem Inv.recordsAsk {e : Envelope} (h : s.Inv) : (s.recordsAsk e).2.Inv := h
theorem Inv.profileAsk {e : Envelope} (h : s.Inv) : (s.profileAsk e).2.Inv := h.iteSnd h
theorem Inv.meterLogAsk {e : Envelope} (h : s.Inv) : (s.meterLogAsk e).2.Inv := h
theorem Inv.meterStatusAsk {e : Envelope} (h : s.Inv) : (s.meterStatusAsk e).2.Inv := h

/-! ## Power-line links (Machine/Plc.lean) -/

theorem Inv.updPlc {d : Fin 8} {f : Plc → Plc} (h : s.Inv) : (s.updPlc d f).Inv := h.typed
theorem Inv.plcLoad {d : Fin 8} (h : s.Inv) : (s.plcLoad d).Inv := h.wr.wr.ite fun _ => h

theorem Inv.plcLoadDone {d : Fin 8} (h : s.Inv) : (s.plcLoadDone d).Inv :=
  ((h.wr.wr.updPlc.onPorts fun _ _ => Inv.fault).ite fun _ => h.wr.wr.updPlc).ite fun _ => h

theorem Inv.updHerd {f : Herd → Herd} (h : s.Inv) : (s.updHerd f).Inv := h.typed
theorem Inv.modemRestart {d : Fin 8} {k : Fin 4} (h : s.Inv) : (s.modemRestart d k).Inv := h.wr.wr.wr.updPlc
theorem Inv.herdRestart (h : s.Inv) : s.herdRestart.Inv := h.updPlc.updHerd

theorem Inv.modemWatchdog {d : Fin 8} {m : Fin 5} (h : s.Inv) : (s.modemWatchdog d m).Inv :=
  (Inv.dite (fun _ => h.ite fun h1 => h1.modemRestart.fault) fun _ => h.ite fun h1 => h1.herdRestart.fault).ite fun _ => h

theorem Inv.blankRun {d : Fin 8} {m : Fin 5} {kk e : Nat} {symbols : List (List Int)} (h : s.Inv) :
    (s.blankRun d m kk e symbols).2.Inv :=
  h.updPlc

theorem Inv.modemRing {d : Fin 8} {base head log2n : Fld} {k : Nat} {frame : List Byte} (h : s.Inv) :
    (s.modemRing d base head log2n k frame).Inv :=
  h.ite fun h1 => h1.bufPut.descDone.wr

theorem Inv.toneSet {d : Fin 8} {k : Fin 4} {peer mode fails : Nat} (h : s.Inv) : (s.toneSet d k peer mode fails).Inv :=
  h.updPlc.wr

theorem Inv.toneFail {d : Fin 8} {k : Fin 4} {peer : Nat} (h : s.Inv) : (s.toneFail d k peer).Inv :=
  h.toneSet.ite fun _ => h.toneSet

theorem Inv.setNack {d : Fin 8} {k : Fin 4} {b : Bool} (h : s.Inv) : (s.setNack d k b).Inv := h.updPlc

theorem Inv.vehicleFrame {d : Fin 8} {k : Fin 4} {peer : Nat} {symbols : List (List Int)} {failed : Bool} (h : s.Inv) :
    (s.vehicleFrame d k peer symbols failed).Inv :=
  ((h.blankRun.wr.freeWord.freeBytes.toneSet.setNack.modemRing.ite fun _ => h.blankRun.wr.toneFail.setNack).ite
    fun _ => h.blankRun.wr.wrapCnt.setNack).ite fun _ => h

theorem Inv.roboUp {d : Fin 8} {k : Fin 4} {peer : Nat} (h : s.Inv) : (s.roboUp d k peer).Inv := h.toneSet.ite fun _ => h
theorem Inv.shareHerd {run : Option Nat} (h : s.Inv) : (s.shareHerd run).Inv := h.stream

theorem Inv.slacSet {d : Fin 8} {k : Fin 4} {run : Nat} {profile : List Nat} (h : s.Inv) : (s.slacSet d k run profile).Inv :=
  h.ite fun h1 => (h1.shareHerd.ite fun _ => h1).typed

theorem Inv.slacWrite {x : SlacSet} {best : Option Nat} {gap : Nat} (h : s.Inv) : (s.slacWrite x best gap).Inv := by
  unfold State.slacWrite
  split
  · exact h.wr.wr.wr
  · exact h.wr.wr.wr.wr.ite Inv.wr

theorem Inv.slacDecision {run : Nat} (h : s.Inv) : (s.slacDecision run).Inv := by
  unfold State.slacDecision
  dsimp only
  split
  · exact h
  · refine Inv.ite ?_ fun _ => h
    refine Inv.ite ?_ fun _ => h.typed
    refine Inv.meterLog ?_
    refine Inv.foldl (fun _ _ => Inv.slacWrite) ?_
    refine Inv.typed ?_
    split
    · exact h
    · exact h.freeWord

theorem Inv.herdSend {dest mode : Nat} {payload : List Byte} {seq : Nat} (h : s.Inv) : (s.herdSend dest mode payload seq).Inv :=
  (h.freeWord.ite fun _ => h).updHerd

theorem Inv.herdTransmit {p : HerdPoll} (h : s.Inv) : (s.herdTransmit p).Inv := h.herdSend.updHerd

theorem Inv.herdStart {node : Nat} {payload : List Byte} (h : s.Inv) : (s.herdStart node payload).Inv :=
  h.updHerd.herdTransmit.ite fun _ => h

theorem Inv.herdMode {node mode : Nat} (h : s.Inv) : (s.herdMode node mode).Inv := h.wr.wr.shareHerd.ite fun _ => h
theorem Inv.herdNoise {node : Nat} (h : s.Inv) : (s.herdNoise node).Inv := Inv.dite (fun _ => h.updHerd) fun _ => h

theorem Inv.herdImpulse {node : Nat} (h : s.Inv) : (s.herdImpulse node).Inv :=
  ((h.wrapCnt.satCnt.ite Inv.herdMode).ite fun _ => h.wrapCnt.satCnt.herdMode).herdNoise

theorem Inv.herdFail {node : Nat} (h : s.Inv) : (s.herdFail node).Inv := (h.wr.herdMode.ite fun _ => h.wr).herdNoise
theorem Inv.herdMissed {node n : Nat} (h : s.Inv) : (s.herdMissed node n).Inv := Inv.dite (fun _ => h.updHerd) fun _ => h

theorem Inv.herdDrop {p : HerdPoll} (h : s.Inv) : (s.herdDrop p).Inv :=
  (h.satCnt.wr.updHerd.herdMissed.ite fun h1 => h1.wr.wr).ite fun _ => h.satCnt.wr.updHerd

theorem Inv.herdRetry {p : HerdPoll} (h : s.Inv) : (s.herdRetry p).Inv := h.herdTransmit.ite fun _ => h.herdDrop
theorem Inv.herdPresent {node : Nat} (h : s.Inv) : (s.herdPresent node).Inv := h.wr.herdMissed

theorem Inv.herdTaken {p : HerdPoll} {f : HerdFrame} (h : s.Inv) : (s.herdTaken p f).Inv := by
  unfold State.herdTaken
  refine Inv.ite ?_ (fun _ => (h.herdPresent.herdFail.ite fun _ => h.herdPresent.herdImpulse).herdRetry)
  split
  · exact h.herdFail.updHerd
  · exact h.modemRing.wr.wr.herdPresent.updHerd

theorem Inv.herdReply {node : Nat} {f : HerdFrame} (h : s.Inv) : (s.herdReply node f).Inv := by
  unfold State.herdReply
  split
  · exact h
  · exact ((h.blankRun.herdTaken.ite fun _ => h.blankRun.herdImpulse.updHerd).ite fun _ => h.blankRun).ite fun _ => h

theorem Inv.herdTimeout {node : Nat} (h : s.Inv) : (s.herdTimeout node).Inv := by
  unfold State.herdTimeout
  split
  · exact h
  · exact (h.herdFail.ite fun _ => h).herdRetry.ite fun _ => h

theorem Inv.herdBroadcast {payload : List Byte} (h : s.Inv) : (s.herdBroadcast payload).Inv := h.herdSend.updHerd.ite fun _ => h

theorem Inv.herdCopy (h : s.Inv) : s.herdCopy.Inv := by
  unfold State.herdCopy
  split
  · exact h
  · exact h.herdSend.updHerd.ite fun _ => h.updHerd

theorem Inv.herdQuiet {node : Nat} (h : s.Inv) : (s.herdQuiet node).Inv := h.herdMode.ite fun _ => h

/-! ## Time unit (Machine/TimeUnit.lean) -/

theorem Inv.updTsu {d : Fin 8} {f : Tsu → Tsu} (h : s.Inv) : (s.updTsu d f).Inv := h.typed
theorem Inv.updServo {f : Servo → Servo} (h : s.Inv) : (s.updServo f).Inv := h.typed
theorem Inv.counterEdge {d : Fin 8} (h : s.Inv) : (s.counterEdge d).Inv := (h.updTsu.wr.wr.ite Inv.wr).ite Inv.setEpoch

theorem Inv.applyIncrement {d : Fin 8} (h : s.Inv) : (s.applyIncrement d).Inv := by
  unfold State.applyIncrement
  dsimp only
  split
  · exact h
  · exact h.updTsu

theorem Inv.incrementMessage {d : Fin 8} (h : s.Inv) : (s.incrementMessage d).Inv := by
  unfold State.incrementMessage
  split
  · exact h
  · exact h.updTsu.wrI.wrI

theorem Inv.resyncTick {d : Fin 8} (h : s.Inv) : (s.resyncTick d).Inv := (h.wr.ite fun _ => h.wr.wr.updTsu.wr.wr).ite fun _ => h

theorem Inv.setSource {n : Nat} (h : s.Inv) : (s.setSource n).Inv :=
  ((h.wr.wr.ite Inv.wr).ite fun h1 => h1.meterLog.markNow).ite fun _ => h

theorem Inv.takeResiduals (h : s.Inv) : s.takeResiduals.Inv := by
  unfold State.takeResiduals
  refine Inv.foldl (fun _ _ h1 => ?_) h
  split
  · exact h1.updServo
  · exact h1

theorem Inv.stepTo {t : Int} (h : s.Inv) : (s.stepTo t).Inv := h.setEpoch.updServo.meterStep
theorem Inv.autoSelect (h : s.Inv) : s.autoSelect.Inv := h.ite Inv.wr

theorem Inv.adopt (h : s.Inv) : s.adopt.Inv := by
  unfold State.adopt
  dsimp only
  split
  · exact h
  · exact h.wr.stepTo.setSource

theorem Inv.servoTick (h : s.Inv) : s.servoTick.Inv :=
  ((h.takeResiduals.autoSelect.ite Inv.adopt).setSource.ite fun _ => h.takeResiduals.setSource).wr.updServo.wrI.wrB

theorem Inv.sendIncrement (h : s.Inv) : s.sendIncrement.Inv := h.updTsu.onDies fun _ _ h1 => h1.ite fun h2 => h2.updTsu.xlkSent
theorem Inv.residualWrite {d : Fin 2} {hi : Word} (h : s.Inv) : (s.residualWrite d hi).Inv := h.updServo.wr
theorem Inv.domTimeout {d : Fin 2} (h : s.Inv) : (s.domTimeout d).Inv := h.wr
theorem Inv.holdoverEnd (h : s.Inv) : s.holdoverEnd.Inv := h.ite Inv.setSource

theorem Inv.domSelect {r : Requester} {sel : Fin 2} (h : s.Inv) : (s.domSelect r sel).Inv := by
  unfold State.domSelect
  split
  · exact h.wr.ite fun _ => h.wr
  · exact h.accessEvent

theorem Inv.stepApply (h : s.Inv) : s.stepApply.Inv := by
  unfold State.stepApply
  split
  · exact h.ite fun h1 => h1.updServo.stepTo.wr
  · exact h

theorem Inv.rtcRewrite (h : s.Inv) : s.rtcRewrite.Inv := h.ite Inv.setRtc

theorem Inv.nsRead {r : Requester} {d : Fin 8} (h : s.Inv) : (s.nsRead r d).Inv :=
  (h.updTsu.typed.ite fun _ => h.typed).ite fun _ => h.accessFault.typed

theorem Inv.ethReceive {m : Fin 2} {frame : List Byte} {sfd : Nat} (h : s.Inv) : (s.ethReceive m frame sfd).Inv := h.updServo

theorem Inv.ethStamp {m : Fin 2} {id : BitVec 16} {dom : Bool} {sfd : Nat} (h : s.Inv) : (s.ethStamp m id dom sfd).Inv :=
  h.updServo.wr.ite fun _ => h.wr.satCnt

theorem Inv.ethPop {m : Fin 2} (h : s.Inv) : (s.ethPop m).Inv := by
  unfold State.ethPop
  split
  · exact h.typed
  · exact h.updServo.wr.wr.wr.typed

theorem Inv.poTimes {d n : Fin 8} (h : s.Inv) : (s.poTimes d n).2.Inv := h.iteSnd h.freeWord.freeWord
theorem Inv.setPo {d n : Fin 8} {p : PulseOut} (h : s.Inv) : (s.setPo d n p).Inv := h.updTsu
theorem Inv.poEnd {d n : Fin 8} (h : s.Inv) : (s.poEnd d n).Inv := h.wr.wr

theorem Inv.poArm {d n : Fin 8} (h : s.Inv) : (s.poArm d n).Inv :=
  ((h.ite fun h1 => h1.wr.wr).poTimes.wr.wr.setPo.ite fun _ => (h.ite fun h2 => h2.wr.wr).poEnd.setPo).ite fun _ => h

theorem Inv.poEdge {d n : Fin 8} (h : s.Inv) : (s.poEdge d n).Inv :=
  ((h.poTimes.acqEvent.poEnd.setPo.ite fun _ => h.poTimes.acqEvent.setPo).ite fun _ => h.poTimes.acqEvent.setPo).ite fun _ => h

theorem Inv.capture {d : Fin 8} {src param : Nat} (h : s.Inv) : (s.capture d src param).Inv :=
  h.foldl fun _ _ h1 => (h1.ite Inv.wr).wr.wr.wr.wr.ite fun _ => h1

/-! ## Grid edge and site tick (Machine/Tick.lean) -/

theorem Inv.degEdge {d : Fin 8} {k : Fin 4} (h : s.Inv) : (s.degEdge d k).Inv :=
  h.ite fun h1 => (h1.wr.updSaf.ite Inv.degradedOut).ite fun _ => h1.updSaf

theorem Inv.portEdge {d : Fin 8} {k : Fin 4} (h : s.Inv) : (s.portEdge d k).Inv :=
  (h.flushUrgent.updStl.copperEdge.ite Inv.rampStep).degEdge

theorem Inv.dieEdge {d : Fin 8} (h : s.Inv) : (s.dieEdge d).Inv :=
  (h.onPorts fun _ _ => Inv.portEdge).sqEdge.sqEdge.genEdge.timerEdge.waitEvent.ite fun _ => h

theorem Inv.rtcEdge (h : s.Inv) : s.rtcEdge.Inv := (h.updServo.rtcAdd.ite fun _ => h.updServo).ite fun _ => h
theorem Inv.clockEdge {d : Fin 8} (h : s.Inv) : (s.clockEdge d).Inv := h.ite fun h1 => h1.counterEdge.wr
theorem Inv.tickFalls (h : s.Inv) : s.tickFalls.Inv := h.ite Inv.updServo
theorem Inv.upsetsIn {l : List (Nat × Bool)} (h : s.Inv) : (s.upsetsIn l).Inv := h.foldl fun _ _ h1 => h1.upset.canUpset

theorem Inv.gridEdge (h : s.Inv) : s.gridEdge.Inv :=
  ((h.typed.upsetsIn.typed.onDies (fun _ _ => Inv.clockEdge)).rtcEdge.tickFalls.onDies
    (fun _ _ => Inv.dieEdge)).allocSecond.twinEdge.ite fun _ => h

theorem Inv.clockTick {d : Fin 8} (h : s.Inv) : (s.clockTick d).Inv := h.ite fun h1 => h1.wrapCnt.resyncTick
theorem Inv.dieTick {d : Fin 8} (h : s.Inv) : (s.dieTick d).Inv := h.ite fun h1 => h1.meterSend.trigAll.waitEvent

theorem Inv.siteTick (h : s.Inv) : s.siteTick.Inv :=
  (((h.updServo.onDies (fun _ _ => Inv.clockTick)).servoTick.tcomp.sendIncrement.paramTick.twinTick.releaseDies.onDies
    (fun _ _ => Inv.dieTick)).onDies (fun _ _ => Inv.sendReport)).allocFirst.ite fun _ => h

/-! ## Writes on the bus (Machine/RegWrite.lean) -/

theorem Inv.firstClear {d : Nat} {r : RegD} {w : Word} (h : s.Inv) : (s.firstClear d r w).Inv := by
  unfold State.firstClear
  split
  · exact h
  · exact h.ite Inv.wr

theorem Inv.clrBits {d off : Nat} {v : Word} (h : s.Inv) : (s.clrBits d off v).Inv :=
  (((h.ite fun h1 => h1.wr.wr.wr).ite fun _ => h.wr.wr.wr).ite fun _ => h.wr.wr.wr).ite fun _ => h

theorem Inv.twinDisable (h : s.Inv) : s.twinDisable.Inv :=
  (h.linkDown.setRole.updTwin.ite Inv.portsAvailable).ite fun _ => h.linkDown

theorem Inv.windowSet {d : Fin 8} {n : Nat} (h : s.Inv) : (s.windowSet d n).Inv :=
  (h.ite Inv.coolDefaults).ite fun _ => h.allocDefaults

theorem Inv.safeEvents {d : Fin 8} {old new : Word} (h : s.Inv) : (s.safeEvents d old new).Inv :=
  h.foldl fun _ _ h1 => h1.ite Inv.trigEvent

theorem Inv.pulseOff {d : Fin 8} {i : Nat} (h : s.Inv) : (s.pulseOff d i).Inv := h.ite fun h1 => h1.poEnd.setPo
theorem Inv.ctxEnable {d n : Fin 8} (h : s.Inv) : (s.ctxEnable d n).Inv := (h.wr.ite fun _ => h).ite fun _ => h.ite Inv.wr

theorem Inv.pulseCtrl {d : Fin 8} {i : Nat} {old new : Word} (h : s.Inv) : (s.pulseCtrl d i old new).Inv :=
  (h.setPo.ite fun _ => h).pulseOff

theorem Inv.ringRestart {d : Fin 8} {wptr wrap : Fld} {i : Nat} (h : s.Inv) : (s.ringRestart d wptr wrap i).Inv := h.wr.wr

theorem Inv.canFdOff {d : Fin 8} {j : Fin 2} (h : s.Inv) : (s.canFdOff d j).Inv :=
  (h.foldl fun _ _ h1 => h1.ite Inv.canDrop).ite fun _ => h

theorem Inv.canControl {d : Fin 8} {j : Fin 2} {init : Bool} (h : s.Inv) : (s.canControl d j init).Inv :=
  ((h.wr.ite fun _ => h).canFdOff.wr.updCan.wr.ite fun _ => (h.wr.ite fun _ => h).canFdOff.wr.updCan).ite
    fun _ => (h.wr.ite fun _ => h).canFdOff

theorem Inv.afterWrite {d : Fin 8} {off i : Nat} {old new : Word} (h : s.Inv) : (s.afterWrite d off i old new).Inv :=
  ((((((((((h.ite (Inv.foldl fun _ _ => Inv.lswOut)).ite fun _ => h.pulseCtrl).ite fun _ => h.wr.setSout).ite fun _ => h.ite
    Inv.wr).ite fun _ => h.canControl).ite fun _ => h.ite Inv.twinDisable).ite fun _ => h.safeEvents).ite
    fun _ => h.windowSet).ite fun _ => h.ite Inv.ringRestart).ite fun _ => h.ringRestart).ite fun _ => h.ctxEnable

theorem Inv.regRefused {t : State} {d : Fin 8} {off i : Nat} {v : Word} (h : s.Inv) (e : s.regRefused d off i v = some t) : t.Inv := by
  unfold State.regRefused at e
  dsimp only at e
  split at e
  · split at e
    · exact Option.some.inj e ▸ Inv.adcErr h
    · cases e
  split at e
  · split at e
    · exact Option.some.inj e ▸ Inv.oxeErr h
    · cases e
  split at e
  · split at e
    · cases e
    · exact Option.some.inj e ▸ Inv.wr h
  · cases e

theorem Inv.badRequest {d : Fin 8} {off i : Nat} {v : Word} (h : s.Inv) : (s.badRequest d off i v).Inv := h.ite Inv.psRefuse

theorem Inv.regWrite {d : Fin 8} {a i j : Nat} {r : RegD} {v : Word} (h : s.Inv) : (s.regWrite d a r i j v).Inv := by
  unfold State.regWrite
  split
  · next e => exact Inv.regRefused h e
  · exact Inv.badRequest (Inv.afterWrite (Inv.clrBits (Inv.firstClear (Inv.setWord h))))

theorem Inv.pkgWrite {a : Nat} {r : RegD} {i j : Nat} {v : Word} (h : s.Inv) : (s.pkgWrite a r i j v).Inv := h.setWord.clrBits

theorem Inv.opWrite {r : Requester} {off : Nat} {v : Word} (h : s.Inv) : (s.opWrite r off v).Inv :=
  (h.setOpReg.ite fun _ => h.setOpReg).ite fun _ => h.setOpReg.ite fun _ => h

theorem Inv.oxeMemWrite {d : Fin 8} {off : Nat} {v : Word} (h : s.Inv) : (s.oxeMemWrite d off v).Inv :=
  ((h.ite Inv.setMword).ite fun _ => h.ite Inv.updOxe).ite fun _ => h.setMword.ite fun _ => h.oxeErr

theorem Inv.canRamWrite {d : Fin 8} {off : Nat} {v : Word} (h : s.Inv) : (s.canRamWrite d off v).Inv := by
  unfold State.canRamWrite
  exact h.setMword.ite fun _ => h

theorem Inv.regionWrite {r : Requester} {d : Fin 8} {a off : Nat} {v : Word} (h : s.Inv) : (s.regionWrite r d a off v).Inv := by
  unfold State.regionWrite
  refine Inv.ite ?_ (fun _ => (h.accessEvent.ite fun _ => h.accessFault).ite fun _ => h.oxeMemWrite)
  refine Inv.ite ?_ (fun _ => (h.accessEvent.ite fun _ => h.accessFault).ite fun _ => h.canRamWrite)
  refine Inv.ite ?_ (fun _ => (h.accessEvent.ite fun _ => h.accessFault).ite fun _ => h.opWrite)
  split
  · exact (h.accessEvent.ite fun _ => h.accessFault).ite fun _ => h.regWrite
  · exact (h.accessEvent.ite fun _ => h.accessFault).ite fun _ => h

theorem Inv.globalWrite {r : Requester} {a : Nat} {v : Word} (h : s.Inv) : (s.globalWrite r a v).Inv := by
  unfold State.globalWrite
  refine Inv.ite h.accessEvent fun _ => ?_
  split
  · exact h.pkgWrite
  · exact h

theorem Inv.windowStore {r : Requester} {off n : Nat} {v : Word} (h : s.Inv) : (s.windowStore r off n v).Inv := by
  unfold State.windowStore
  refine Inv.ite ?_ fun _ => h.windowWrite
  refine Inv.ite ?_ fun _ => h.accessEvent
  refine Inv.ite ?_ fun _ => h.accessFault
  split
  · exact h.windowWrite.ite fun _ => h.smwErr
  · exact h.windowWrite

theorem Inv.peripheralWrite {r : Requester} {a n : Nat} {v : Word} (h : s.Inv) : (s.peripheralWrite r a n v).Inv :=
  Inv.dite (fun _ => (h.regionWrite.ite fun _ => h).ite fun _ => h.accessFault) fun _ => h.accessFault

theorem Inv.mramWrite {d : Fin 8} {a n : Nat} {v : Word} (h : s.Inv) : (s.mramWrite d a n v).Inv := h.setBytes.ite fun _ => h

theorem Inv.busWrite {r : Requester} {a n : Nat} {v : Word} (h : s.Inv) : (s.busWrite r a n v).Inv :=
  ((((((((h.accessFault.ite fun h1 => h1.ite fun _ => h.globalWrite).ite fun _ => h.peripheralWrite).ite
    fun _ => h.windowStore.ite fun _ => h).ite fun _ => h.accessEvent.ite fun _ => h.mramWrite).ite fun _ => (h.setBytes.ite
    fun _ => h).ite fun _ => h.accessEvent).ite fun _ => h).ite fun _ => h.accessFault).ite fun _ => h.wr).ite fun _ => h

/-! ## Host port (Machine/Hpi.lean) -/

theorem Inv.hpiReadOne {addr : Nat} (h : s.Inv) : (s.hpiReadOne addr).2.Inv := by
  unfold State.hpiReadOne
  refine Inv.iteSnd h.hostRead ?_
  split
  · exact h
  · exact h.accessFault.freeWord

theorem Inv.hpiReadMany {addr n : Nat} (h : s.Inv) : (s.hpiReadMany addr n).2.Inv := by
  induction n generalizing s addr with
  | zero => exact h
  | succ n ih => exact ih (Inv.hpiReadOne h)

theorem Inv.hpiWriteOne {addr : Nat} {v : Word} (h : s.Inv) : (s.hpiWriteOne addr v).Inv := by
  unfold State.hpiWriteOne
  refine Inv.ite ?_ fun _ => h.hostWrite
  split
  · exact h.busWrite
  · exact h.accessFault

theorem Inv.hpiWriteMany {addr : Nat} {l : List Word} (h : s.Inv) : (s.hpiWriteMany addr l).Inv := by
  induction l generalizing s addr with
  | nil => exact h
  | cons w t ih => exact ih (Inv.hpiWriteOne h)

/-! ## Meter commands (Machine/MeterCmd.lean) -/

theorem Inv.reverseTamper {p : Fin 32} {peak : Nat} (h : s.Inv) : (s.reverseTamper p peak).Inv :=
  h.tamperOn.markSess.ite fun _ => h

theorem Inv.shuntTamper {p : Fin 32} {shunt hall : Int} (h : s.Inv) : (s.shuntTamper p shunt hall).Inv :=
  h.ite fun h1 => h1.tamperOn.degrade

theorem Inv.neutralTamper {mv : Nat} (h : s.Inv) : (s.neutralTamper mv).Inv := h.ite Inv.tamperOn
theorem Inv.magneticTamper {p : Fin 32} (h : s.Inv) : (s.magneticTamper p).Inv := h.ite Inv.tamperOn

/-! ## Readout of the capture SRAM (Machine/Readout.lean) -/

theorem Inv.copyBytes {d : Fin 8} {o n : Nat} (h : s.Inv) : (s.copyBytes d o n).2.Inv :=
  Inv.iteSnd h (Inv.pair (Inv.freeBytes h))

theorem Inv.copyEnd {d : Fin 8} {status : Nat} (h : s.Inv) : (s.copyEnd d status).Inv := h.wr.wr.wr
theorem Inv.copyNowhere {d : Fin 8} (h : s.Inv) : (s.copyNowhere d).Inv := h.freeWord.copyEnd

theorem Inv.copyPieces {n : Nat} (h : s.Inv) : (State.copyPieces n s).Inv := by
  induction n generalizing s with
  | zero => exact h
  | succ n ih =>
    unfold State.copyPieces
    dsimp only
    split
    · exact Inv.copyEnd h
    split
    · exact h
    · refine ih (Inv.wr (Inv.ite ?_ Inv.wr))
      exact Inv.publish (Inv.putPayload (Inv.claimSlot (Inv.copyBytes h)))

theorem Inv.copySram {d : Fin 8} (h : s.Inv) : (s.copySram d).Inv := h.copyNowhere.ite fun _ => h.copyBytes.setBytes.copyEnd

/-! ## The commands -/

/-- Every command completes in a state whose stores are in canonical form again. -/
theorem Inv.exec (h : s.Inv) (c : Instr) : Yields c s State.Inv := by
  cases c with
  | registerWrite => exact ⟨_, rfl, h.busWrite⟩
  | powerOn => exact ⟨_, rfl, h.powerOn⟩
  | nresetIn => exact ⟨_, rfl, h.pwrReset⟩
  | supplyReset => exact ⟨_, rfl, h.pwrReset⟩
  | softwareDieReset => exact ⟨_, rfl, h.dieReset.ite fun _ => h⟩
  | resetWipeDone => exact ⟨_, rfl, h.wipeDone⟩
  | meterHeadStart => exact ⟨_, rfl, h.meterStart⟩
  | portDieMeasurementReport => exact ⟨_, rfl, h.measReport⟩
  | bootSetChoice => exact ⟨_, rfl, h.bootChoice⟩
  | portDieRelease => exact ⟨_, rfl, h.portDies⟩
  | slotOpen => exact ⟨_, rfl, h.slotOpen⟩
  | powerfailRecordSign => exact ⟨_, rfl, h.powerfailSign⟩
  | restoration => exact ⟨_, rfl, h.restoration⟩
  | mainsLoss => exact ⟨_, rfl, h.mainsLoss⟩
  | mainsReturn => exact ⟨_, rfl, h.mainsReturn⟩
  | pwrDown => exact ⟨_, rfl, h.pwrDown⟩
  | pwrDownOutputRelease => exact ⟨_, rfl, h.pwrDownRelease⟩
  | pwrDownPowerRemoval => exact ⟨_, rfl, h.pwrDownRemove⟩
  | holdupCommit => exact ⟨_, rfl, h.holdupCommit⟩
  | holdupReady => exact ⟨_, rfl, h.holdupReady⟩
  | holdupTimeout => exact ⟨_, rfl, h.holdupTimeout⟩
  | batteryMeasurement => exact ⟨_, rfl, h.battery⟩
  | railUndervoltage => exact ⟨_, rfl, h.railLow⟩
  | railUndervoltageEnd => exact ⟨_, rfl, h.railUvEnd⟩
  | railOvervoltage => exact ⟨_, rfl, h.railBegin⟩
  | railOvervoltageEnd => exact ⟨_, rfl, h.railOvEnd⟩
  | reversePolarity => exact ⟨_, rfl, h.railFault⟩
  | gndLost => exact ⟨_, rfl, h.railFault⟩
  | rootLockLoss => exact ⟨_, rfl, h.rootLockLoss⟩
  | tamper => exact ⟨_, rfl, h.tamper⟩
  | xlinkStateWord => exact ⟨_, rfl, h.xlkState⟩
  | xlinkWordError => exact ⟨_, rfl, h.xlkError⟩
  | remoteWordWrite => exact ⟨_, rfl, h.remoteWrite⟩
  | xlinkLaneFail => exact ⟨_, rfl, h.xlkLaneFail⟩
  | slotSubmit => exact ⟨_, rfl, h.windowWrite⟩
  | slotConsume => exact ⟨_, rfl, h.windowWrite⟩
  | slotClaim =>
    refine ⟨_, rfl, ?_⟩
    split
    · exact h.claimSlot
    · exact h
  | slotPublish => exact ⟨_, rfl, h.smwErr.ite fun _ => h.publish⟩
  | slotTake => exact ⟨_, rfl, h.smwErr.ite fun _ => h.takeSlot⟩
  | payloadWrite => exact ⟨_, rfl, h.windowWrite⟩
  | earlyRead => exact ⟨_, rfl, (((h.accessFault.typed.ite fun _ => h.typed).ite fun _ => h.winEcc.typed).ite
    fun _ => h.hostRead.typed).ite fun _ => h.wr.typed⟩
  | statusBlockUpdate => exact ⟨_, rfl, h.ite Inv.statusUpdate⟩
  | statusHeartbeat => exact ⟨_, rfl, h.ite Inv.setMword⟩
  | status => exact ⟨_, rfl, h.gateRun (fun _ _ => Inv.statusRun)⟩
  | eventLogRead => exact ⟨_, rfl, h.gateRun (fun _ _ => Inv.logRun)⟩
  | dieLogRead => exact ⟨_, rfl, h.gateRun (fun _ _ => Inv.logRun)⟩
  | changeLogRead => exact ⟨_, rfl, h.gateRun (fun _ _ => Inv.logRun)⟩
  | retirementRecordsRead => exact ⟨_, rfl, h.gateRun (fun _ _ => Inv.logRun)⟩
  | imageStagingBegin => exact ⟨_, rfl, h.gateRun (fun _ _ => Inv.beginRun)⟩
  | imageStagingData => exact ⟨_, rfl, h.gateRun (fun _ _ => Inv.dataRun)⟩
  | imageStagingEnd => exact ⟨_, rfl, h.gateRun (fun _ _ => Inv.endRun)⟩
  | stageCheckDone => exact ⟨_, rfl, h.stageChecked⟩
  | safetyConfigurationWrite => exact ⟨_, rfl, h.gateRun (fun _ _ => Inv.safetyRun)⟩
  | safetyPasswordChange => exact ⟨_, rfl, h.gateRun (fun _ _ => Inv.passwordRun)⟩
  | meterParameterWrite => exact ⟨_, rfl, h.gateRun (fun _ _ => Inv.paramRun)⟩
  | timeSetBeyondSlewLimit => exact ⟨_, rfl, h.gateRun (fun _ _ => Inv.timeRun)⟩
  | passiveCalendarLoad => exact ⟨_, rfl, h.gateRun (fun _ _ => Inv.calRun)⟩
  | calendarActivation => exact ⟨_, rfl, h.gateRun (fun _ _ => Inv.actRun)⟩
  | calendarDiscard => exact ⟨_, rfl, h.gateRun (fun _ _ => Inv.discardRun)⟩
  | imageActivation => exact ⟨_, rfl, h.gateRun (fun _ _ => Inv.activateRun)⟩
  | lifeCycleChange => exact ⟨_, rfl, h.gateRun (fun _ _ => Inv.lifeRun)⟩
  | forcedPlannedHandover => exact ⟨_, rfl, h.gateRun (fun _ _ => Inv.roleRun)⟩
  | forcedHeld => exact ⟨_, rfl, h.gateRun (fun _ _ => Inv.roleRun)⟩
  | forcedResync => exact ⟨_, rfl, h.gateRun (fun _ _ => Inv.roleRun)⟩
  | forcedRepair => exact ⟨_, rfl, h.gateRun (fun _ _ => Inv.roleRun)⟩
  | retire => exact ⟨_, rfl, h.gateRun (fun _ _ => Inv.retireRun)⟩
  | reinstate => exact ⟨_, rfl, h.gateRun (fun _ _ => Inv.reinstateRun)⟩
  | xdlmsApdu => exact ⟨_, rfl, h.meterRun fun _ => fun _ => Inv.apduAsk⟩
  | sessionRecordsRead => exact ⟨_, rfl, h.meterRun (fun _ _ => Inv.recordsAsk)⟩
  | profileEntriesRead => exact ⟨_, rfl, h.meterRun (fun _ _ => Inv.profileAsk)⟩
  | meterLogRead => exact ⟨_, rfl, h.meterRun (fun _ _ => Inv.meterLogAsk)⟩
  | meterStatus => exact ⟨_, rfl, h.meterRun (fun _ _ => Inv.meterStatusAsk)⟩
  | meterReply => exact ⟨_, rfl, h.meterAnswer⟩
  | lockoutEnd => exact ⟨_, rfl, h.lockEnd⟩
  | twinCounterMessage => exact ⟨_, rfl, h.ite Inv.adoptCounter⟩
  | lifeCycleRestart => exact ⟨_, rfl, h.lifeRestart⟩
  | lcsConfirm => exact ⟨_, rfl, h.lcsConfirm⟩
  | trialWindowExpiry => exact ⟨_, rfl, h.trialExpiry⟩
  | mreg7Extension => exact ⟨_, rfl, h.mreg7Ext⟩
  | hpiReadWords => exact ⟨_, rfl, (h.hpiReadMany.typed.ite fun _ => h.wr.typed).ite fun _ => h.typed⟩
  | hpiWriteWords => exact ⟨_, rfl, ((h.hpiWriteMany.ite Inv.wr).ite fun _ => h.wr).ite fun _ => h⟩
  | hpiReadStat => exact ⟨_, rfl, h.typed.ite fun _ => h.typed⟩
  | badOpc => exact ⟨_, rfl, h.wr.ite fun _ => h⟩
  | keyWrite => exact ⟨_, rfl, h.keyWrite⟩
  | keyErase => exact ⟨_, rfl, h.keyErase⟩
  | enc => exact ⟨_, rfl, h.keyGo⟩
  | dec => exact ⟨_, rfl, h.keyGo⟩
  | cmac => exact ⟨_, rfl, h.keyGo⟩
  | cmacChk => exact ⟨_, rfl, h.keyGo⟩
  | sign => exact ⟨_, rfl, h.keyGo⟩
  | ecdh => exact ⟨_, rfl, h.keyGo⟩
  | wrap => exact ⟨_, rfl, h.keyGo⟩
  | unwrap => exact ⟨_, rfl, h.keyGo⟩
  | derive => exact ⟨_, rfl, h.keyGo⟩
  | migrate => exact ⟨_, rfl, h.keyGo⟩
  | genkey => exact ⟨_, rfl, h.keyGo⟩
  | pubkey => exact ⟨_, rfl, h.keyGo⟩
  | sha256 => exact ⟨_, rfl, h.keyGo⟩
  | sha384 => exact ⟨_, rfl, h.keyGo⟩
  | verify => exact ⟨_, rfl, h.keyGo⟩
  | random => exact ⟨_, rfl, h.keyGo⟩
  | keyOpStart => exact ⟨_, rfl, h.keyStart⟩
  | keyOpDone => exact ⟨_, rfl, h.keyDone⟩
  | entropyTestFail => exact ⟨_, rfl, h.entropyFail⟩
  | conversionResult => exact ⟨_, rfl, h.conversion⟩
  | sequencerRoundStart => exact ⟨_, rfl, h.roundStart⟩
  | sequenceCommit => exact ⟨_, rfl, h.seqCommit⟩
  | commitCheckDone => exact ⟨_, rfl, h.commitDone⟩
  | sequencerRun => exact ⟨_, rfl, h.sqRun⟩
  | sequencerStop => exact ⟨_, rfl, h.sqStop⟩
  | adcSoftReset => exact ⟨_, rfl, h.adcReset⟩
  | refSelect => exact ⟨_, rfl, h.refSelect⟩
  | refReadyRise => exact ⟨_, rfl, h.refReady⟩
  | refLost => exact ⟨_, rfl, h.refLost⟩
  | refinTimeout => exact ⟨_, rfl, h.ite fun h1 => h1.wr.wr⟩
  | tripWindowEnable => exact ⟨_, rfl, h.winEnable⟩
  | comparatorTrip => exact ⟨_, rfl, h.compTrip⟩
  | comparatorRelease => exact ⟨_, rfl, h.clrBit⟩
  | tripLatchClear => exact ⟨_, rfl, h.latchClear⟩
  | cellCmFault => exact ⟨_, rfl, h.ite Inv.cellCm⟩
  | syscalZeroStep => exact ⟨_, rfl, h.syscalGo⟩
  | syscalFullStep => exact ⟨_, rfl, h.syscalGo⟩
  | syscalComplete => exact ⟨_, rfl, h.calComplete⟩
  | syscalTimeout => exact ⟨_, rfl, h.ite Inv.calEnd⟩
  | selfcalStart => exact ⟨_, rfl, h.selfcalStart⟩
  | selfcalDone => exact ⟨_, rfl, h.selfcalDone⟩
  | rotationDue => exact ⟨_, rfl, h.rotationDue⟩
  | now => exact ⟨_, rfl, (h.rotationDue.ite fun _ => h.selfcalStart.rotationDue).ite fun _ => h⟩
  | overlapStart => exact ⟨_, rfl, h.overlapStart⟩
  | overlapEnd => exact ⟨_, rfl, h.overlapEnd⟩
  | voteEnd => exact ⟨_, rfl, h.voteEnd⟩
  | judgedSwap => exact ⟨_, rfl, h.judgedSwap⟩
  | exitCheckDone => exact ⟨_, rfl, h.exitCheck⟩
  | laneLost => exact ⟨_, rfl, h.laneLost⟩
  | unservedPositionTakeover => exact ⟨_, rfl, h.takeUnserved⟩
  | contextTrigger => exact ⟨_, rfl, h.trigTake⟩
  | contextDispatch => exact ⟨_, rfl, h.dispatch⟩
  | budgetExceeded =>
    refine ⟨_, rfl, ?_⟩
    split
    · exact h.ite Inv.ctxFault
    · exact h
  | illegalInstruction =>
    refine ⟨_, rfl, ?_⟩
    split
    · split
      · exact h.ctxFault.ite fun _ => h
      · exact h.ctxFault
    · exact h
  | waitTimeout =>
    refine ⟨_, rfl, ?_⟩
    split
    · exact h.ite Inv.waitWake
    · exact h
  | engineRun => exact ⟨_, rfl, h.engineRun⟩
  | engineCrcDone => exact ⟨_, rfl, h.engineCrcDone⟩
  | engineStop => exact ⟨_, rfl, h.engineStop⟩
  | contextRestart => exact ⟨_, rfl, h.ctxRestart⟩
  | swtrig => exact ⟨_, rfl, h.trigEvent⟩
  | clrFlags => exact ⟨_, rfl, h.clearFlags⟩
  | clrMax => exact ⟨_, rfl, h.wr⟩
  | overrideRamp => exact ⟨_, rfl, h.overrideStart⟩
  | overrideZero => exact ⟨_, rfl, h.overrideStart⟩
  | overrideRelease => exact ⟨_, rfl, h.overrideRelease⟩
  | coefEntryWrite => exact ⟨_, rfl, h.coefWrite⟩
  | genSync => exact ⟨_, rfl, h.updOxe.onPorts fun _ _ h1 => h1.typed⟩
  | corrClear => exact ⟨_, rfl, h.wr.updOxe⟩
  | corrReadLatch => exact ⟨_, rfl, h.corLatch⟩
  | evtqPop => exact ⟨_, rfl, h.evtPop⟩
  | capBufferRelease => exact ⟨_, rfl, h.capRelease⟩
  | olcNop => exact ⟨_, rfl, h.olcRun fun _ => Inv.olcNop⟩
  | olcLdi => exact ⟨_, rfl, h.olcRun fun _ => Inv.olcLdi⟩
  | olcLdk => exact ⟨_, rfl, h.olcRun fun _ => Inv.olcLdk⟩
  | olcMov => exact ⟨_, rfl, h.olcRun fun _ => Inv.olcMov⟩
  | olcLds => exact ⟨_, rfl, h.olcRun fun _ => Inv.olcLds⟩
  | olcLdr => exact ⟨_, rfl, h.olcRun fun _ => Inv.olcLdr⟩
  | olcStr => exact ⟨_, rfl, h.olcRun fun _ => Inv.olcStr⟩
  | olcLdd => exact ⟨_, rfl, h.olcRun fun _ => Inv.olcLdd⟩
  | olcStd => exact ⟨_, rfl, h.olcRun fun _ => Inv.olcStd⟩
  | olcLda => exact ⟨_, rfl, h.olcRun fun _ => Inv.olcLda⟩
  | olcMva => exact ⟨_, rfl, h.olcRun fun _ => Inv.olcMva⟩
  | olcClra => exact ⟨_, rfl, h.olcRun fun _ => Inv.olcClra⟩
  | olcLdp => exact ⟨_, rfl, h.olcRun fun _ => Inv.olcLdp⟩
  | olcRdw => exact ⟨_, rfl, h.olcRun fun _ => Inv.olcRdw⟩
  | olcAdd => exact ⟨_, rfl, h.olcRun fun _ => Inv.olcAdd⟩
  | olcSub => exact ⟨_, rfl, h.olcRun fun _ => Inv.olcSub⟩
  | olcAddi => exact ⟨_, rfl, h.olcRun fun _ => Inv.olcAddi⟩
  | olcNeg => exact ⟨_, rfl, h.olcRun fun _ => Inv.olcNeg⟩
  | olcAbs => exact ⟨_, rfl, h.olcRun fun _ => Inv.olcAbs⟩
  | olcMin => exact ⟨_, rfl, h.olcRun fun _ => Inv.olcMin⟩
  | olcMax => exact ⟨_, rfl, h.olcRun fun _ => Inv.olcMax⟩
  | olcShl => exact ⟨_, rfl, h.olcRun fun _ => Inv.olcShl⟩
  | olcShr => exact ⟨_, rfl, h.olcRun fun _ => Inv.olcShr⟩
  | olcMul => exact ⟨_, rfl, h.olcRun fun _ => Inv.olcMul⟩
  | olcMulv => exact ⟨_, rfl, h.olcRun fun _ => Inv.olcMulv⟩
  | olcMac => exact ⟨_, rfl, h.olcRun fun _ => Inv.olcMac⟩
  | olcMacv => exact ⟨_, rfl, h.olcRun fun _ => Inv.olcMacv⟩
  | olcDiv => exact ⟨_, rfl, h.olcRun fun _ => Inv.olcDiv⟩
  | olcFsum => exact ⟨_, rfl, h.olcRun fun _ => Inv.olcFsum⟩
  | olcSeln => exact ⟨_, rfl, h.olcRun fun _ => Inv.olcSeln⟩
  | olcIntg => exact ⟨_, rfl, h.olcRun fun _ => Inv.olcIntg⟩
  | olcFilt => exact ⟨_, rfl, h.olcRun fun _ => Inv.olcFilt⟩
  | olcLim => exact ⟨_, rfl, h.olcRun fun _ => Inv.olcLim⟩
  | olcTrack => exact ⟨_, rfl, h.olcRun fun _ => Inv.olcTrack⟩
  | olcMinsel => exact ⟨_, rfl, h.olcRun fun _ => Inv.olcMinsel⟩
  | olcMaxsel => exact ⟨_, rfl, h.olcRun fun _ => Inv.olcMaxsel⟩
  | olcInj => exact ⟨_, rfl, h.olcRun fun _ => Inv.olcInj⟩
  | olcCap => exact ⟨_, rfl, h.olcRun fun _ => Inv.olcCap⟩
  | olcCorr => exact ⟨_, rfl, h.olcRun fun _ => Inv.olcCorr⟩
  | olcOut => exact ⟨_, rfl, h.olcRun fun _ => Inv.olcOut⟩
  | olcOutu => exact ⟨_, rfl, h.olcRun fun _ => Inv.olcOutu⟩
  | olcEvt => exact ⟨_, rfl, h.olcRun fun _ => Inv.olcEvt⟩
  | olcBfs => exact ⟨_, rfl, h.olcRun fun _ => Inv.olcBfs⟩
  | olcBfc => exact ⟨_, rfl, h.olcRun fun _ => Inv.olcBfc⟩
  | olcClf => exact ⟨_, rfl, h.olcRun fun _ => Inv.olcClf⟩
  | olcBr => exact ⟨_, rfl, h.olcRun fun _ => Inv.olcBr⟩
  | olcBeq => exact ⟨_, rfl, h.olcRun fun _ => Inv.olcBeq⟩
  | olcBne => exact ⟨_, rfl, h.olcRun fun _ => Inv.olcBne⟩
  | olcBlt => exact ⟨_, rfl, h.olcRun fun _ => Inv.olcBlt⟩
  | olcBge => exact ⟨_, rfl, h.olcRun fun _ => Inv.olcBge⟩
  | olcLoop => exact ⟨_, rfl, h.olcRun fun _ => Inv.olcLoop⟩
  | olcCall => exact ⟨_, rfl, h.olcRun fun _ => Inv.olcCall⟩
  | olcRet => exact ⟨_, rfl, h.olcRun fun _ => Inv.olcRet⟩
  | olcWait => exact ⟨_, rfl, h.olcRun fun _ => Inv.olcWait⟩
  | olcEnd => exact ⟨_, rfl, h.olcRun fun _ => Inv.olcEnd⟩
  | portHoldExpiry => exact ⟨_, rfl, h.portRelease⟩
  | bufferLiveTimeout => exact ⟨_, rfl, h.bufferLost⟩
  | g0MeasurementLost => exact ⟨_, rfl, h.gridLost⟩
  | g1MeasurementLost => exact ⟨_, rfl, h.gridLost⟩
  | allocationHoldExpiry => exact ⟨_, rfl, h.candidateZero⟩
  | psreqIdle => exact ⟨_, rfl, h.psRequest⟩
  | psreqConnected => exact ⟨_, rfl, h.psRequest⟩
  | psreqAuthorising => exact ⟨_, rfl, h.psRequest⟩
  | psreqCableCheck => exact ⟨_, rfl, h.psRequest⟩
  | psreqPrecharge => exact ⟨_, rfl, h.psRequest⟩
  | psreqCharging => exact ⟨_, rfl, h.psRequest⟩
  | psreqRampDown => exact ⟨_, rfl, h.psRequest⟩
  | psreqWeldCheck => exact ⟨_, rfl, h.psRequest⟩
  | psreqUnlock => exact ⟨_, rfl, h.psRequest⟩
  | psreqFault => exact ⟨_, rfl, h.psRequest⟩
  | psreqRetired => exact ⟨_, rfl, h.psRequest⟩
  | pilotMeasurement => exact ⟨_, rfl, h.pilotMeasure⟩
  | pilotModeWrite => exact ⟨_, rfl, h.pilotMode⟩
  | t1sLinkChange => exact ⟨_, rfl, h.t1sLink⟩
  | t1sLinkDownTimeout => exact ⟨_, rfl, h.t1sDown⟩
  | t1sTransmit => exact ⟨_, rfl, h.t1sSend⟩
  | t1sReceive => exact ⟨_, rfl, h.t1sReceive⟩
  | jabber => exact ⟨_, rfl, h.t1sSend⟩
  | periodicFrame => exact ⟨_, rfl, h.periodicFrame⟩
  | returnFrame => exact ⟨_, rfl, h.returnFrame⟩
  | returnFrameMiss => exact ⟨_, rfl, h.returnMiss⟩
  | rxlost => exact ⟨_, rfl, h.rxLost⟩
  | halt => exact ⟨_, rfl, h.haltAssert⟩
  | release => exact ⟨_, rfl, h.haltRelease⟩
  | cableCheckInsulation => exact ⟨_, rfl, h.cableIso⟩
  | cableCheckTimeout => exact ⟨_, rfl, h.ite Inv.reqFault⟩
  | prechargeTimeout => exact ⟨_, rfl, h.ite Inv.psRequest⟩
  | coolingLoss => exact ⟨_, rfl, h.coolLoss⟩
  | coolingRestore => exact ⟨_, rfl, h.coolRestore⟩
  | pumpIdleTimeout => exact ⟨_, rfl, h.pumpIdle⟩
  | copperResult => exact ⟨_, rfl, h.copperResult⟩
  | copperReference => exact ⟨_, rfl, h.copperReference⟩
  | thermometryFallback => exact ⟨_, rfl, h.thermoFallback⟩
  | load => exact ⟨_, rfl, h.plcLoad⟩
  | modemLoadDone => exact ⟨_, rfl, h.plcLoadDone⟩
  | modemWatchdog => exact ⟨_, rfl, h.modemWatchdog⟩
  | vehicleFrameReceive => exact ⟨_, rfl, h.vehicleFrame⟩
  | roboModeStepUp => exact ⟨_, rfl, h.roboUp⟩
  | slacSetSend => exact ⟨_, rfl, h.slacSet⟩
  | slacDecision => exact ⟨_, rfl, h.slacDecision⟩
  | herdPoll => exact ⟨_, rfl, h.ite Inv.herdStart⟩
  | herdReply => exact ⟨_, rfl, h.herdReply⟩
  | herdReplyTimeout => exact ⟨_, rfl, h.herdTimeout⟩
  | herdBroadcast => exact ⟨_, rfl, h.herdBroadcast⟩
  | herdBroadcastCopy => exact ⟨_, rfl, h.herdCopy⟩
  | herdLostNodePoll => exact ⟨_, rfl, h.herdStart.ite fun _ => h⟩
  | herdQuietRestore => exact ⟨_, rfl, h.herdQuiet⟩
  | canInitClear => exact ⟨_, rfl, h.canInitClear⟩
  | canFrameReceive => exact ⟨_, rfl, h.canReceive⟩
  | canTxRequest => exact ⟨_, rfl, h.canRequest⟩
  | canTxAttemptEnd => exact ⟨_, rfl, h.canAttempt⟩
  | canBusOffRecovery => exact ⟨_, rfl, h.canRecover⟩
  | canTxAbort => exact ⟨_, rfl, h.canAbort⟩
  | canBusError => exact ⟨_, rfl, h.canBusError⟩
  | canQueueRelease => exact ⟨_, rfl, h.canRelease⟩
  | canAbdStart => exact ⟨_, rfl, h.abdStart⟩
  | canAbdDwellExpiry => exact ⟨_, rfl, h.abdDwell⟩
  | canReferenceDue => exact ⟨_, rfl, h.canRefDue⟩
  | gridEdge => exact ⟨_, rfl, h.gridEdge⟩
  | siteTick => exact ⟨_, rfl, h.siteTick⟩
  | incrementApply => exact ⟨_, rfl, h.onDies (fun _ _ => Inv.applyIncrement)⟩
  | timeIncrementMessage => exact ⟨_, rfl, h.incrementMessage⟩
  | tsuNsRead => exact ⟨_, rfl, h.nsRead⟩
  | residualWrite => exact ⟨_, rfl, h.residualWrite⟩
  | domainTimeout => exact ⟨_, rfl, h.domTimeout⟩
  | holdoverExpiry => exact ⟨_, rfl, h.holdoverEnd⟩
  | domainSelect => exact ⟨_, rfl, h.domSelect⟩
  | stepApply => exact ⟨_, rfl, h.stepApply⟩
  | rtcRewrite => exact ⟨_, rfl, h.rtcRewrite⟩
  | utcOffsetChange => exact ⟨_, rfl, h.utcChange⟩
  | ethTxTimestamp => exact ⟨_, rfl, h.ethStamp⟩
  | ethTsqPop => exact ⟨_, rfl, h.ethPop⟩
  | arm => exact ⟨_, rfl, h.poArm⟩
  | pulseEdge => exact ⟨_, rfl, h.poEdge⟩
  | captureEvent => exact ⟨_, rfl, h.capture⟩
  | acqArm => exact ⟨_, rfl, h.acqArm⟩
  | force => exact ⟨_, rfl, h.acqFire⟩
  | acqStop => exact ⟨_, rfl, h.acqHalt⟩
  | acqDisable => exact ⟨_, rfl, h.wr.acqSetSt⟩
  | acqSegmentComplete => exact ⟨_, rfl, h.acqSegDone⟩
  | acqPostComplete => exact ⟨_, rfl, h.acqPostDone⟩
  | groupFire => exact ⟨_, rfl, h.groupFire⟩
  | groupArm => exact ⟨_, rfl, h.wr⟩
  | disarm => exact ⟨_, rfl, h.groupClear.wr.typed⟩
  | gatherBlock => exact ⟨_, rfl, h.ite fun h1 => h1.xlkSent.foldl fun _ _ => Inv.acqWord⟩
  | gatherOverflow => exact ⟨_, rfl, h.ite Inv.gathLost⟩
  | readoutGo => exact ⟨_, rfl, h.wr.wr.ite fun _ => h⟩
  | readoutDone => exact ⟨_, rfl, ((h.copyNowhere.ite fun _ => h.copyPieces).ite fun _ => h.copySram).ite fun _ => h⟩
  | meterIncrementReceive => exact ⟨_, rfl, h.meterReceive⟩
  | meterIncrementAck => exact ⟨_, rfl, h.meterAck⟩
  | meterCommit => exact ⟨_, rfl, h.meterCommit⟩
  | reactiveHalfCycle => exact ⟨_, rfl, h.reactive⟩
  | recordSign => exact ⟨_, rfl, h.recordSign⟩
  | tamperReverseCurrent => exact ⟨_, rfl, h.reverseTamper⟩
  | tamperShuntBypass => exact ⟨_, rfl, h.shuntTamper⟩
  | tamperMissingNeutral => exact ⟨_, rfl, h.neutralTamper⟩
  | tamperMagneticField => exact ⟨_, rfl, h.magneticTamper⟩
  | meterTamperEnd => exact ⟨_, rfl, h.tamperOff⟩
  | twinMeterWindow => exact ⟨_, rfl, h.twinWindow⟩
  | boundaryAnnounce => exact ⟨_, rfl, h.announce⟩
  | boundaryCommit => exact ⟨_, rfl, h.boundaryCommit⟩
  | dlmsAssociationOpen => exact ⟨_, rfl, h.assocOpen⟩
  | dlmsApdu => exact ⟨_, rfl, h.dlmsApdu⟩
  | tokenTransaction => exact ⟨_, rfl, h.tokenApply⟩
  | safetyScan => exact ⟨_, rfl, h.safetyScan⟩
  | safetyInputFilter => exact ⟨_, rfl, h.inputFilter⟩
  | tripOpenExpiry => exact ⟨_, rfl, h.ite Inv.tripEnd⟩
  | rampDeadline => exact ⟨_, rfl, h.ite Inv.rampEnd⟩
  | contactTimeout => exact ⟨_, rfl, h.contactTimeout⟩
  | insulationWindow => exact ⟨_, rfl, h.insulation⟩
  | temperatureStopTimer => exact ⟨_, rfl, h.ite Inv.causeStart⟩
  | flowTimeout => exact ⟨_, rfl, h.ite Inv.causeStart⟩
  | tripClear => exact ⟨_, rfl, h.tripClear⟩
  | degradedTimeExpiry => exact ⟨_, rfl, h.degradedOut⟩
  | unlockOkSet => exact ⟨_, rfl, h.unlockSet⟩
  | safetyPasswordLockoutEnd => exact ⟨_, rfl, h.typed.wr⟩
  | safetyDiagnosticFault => exact ⟨_, rfl, h.safetyDiag.ite fun _ => h.safetyCorr⟩
  | selftestDone => exact ⟨_, rfl, h.selftestDone⟩
  | lswRequest => exact ⟨_, rfl, h.lswRequest⟩
  | lswRequestWithdraw => exact ⟨_, rfl, h.lswWithdraw⟩
  | lswPwmPeriod => exact ⟨_, rfl, h.lswPeriod⟩
  | lswLimitOff => exact ⟨_, rfl, h.lswLimit⟩
  | lswRetryDue => exact ⟨_, rfl, h.lswRetry⟩
  | lswInrushWindowEnd => exact ⟨_, rfl, h.lswWindowEnd⟩
  | lswRestartDelayEnd => exact ⟨_, rfl, h.ite Inv.inrush⟩
  | lswThermalOff => exact ⟨_, rfl, h.lswHot⟩
  | lswThermalRestart => exact ⟨_, rfl, h.lswCool⟩
  | clrLatch => exact ⟨_, rfl, h.clrLatch⟩
  | groupThrottle => exact ⟨_, rfl, h.groupThrottle⟩
  | groupThrottleEnd => exact ⟨_, rfl, h.groupThrottleEnd⟩
  | groupOff => exact ⟨_, rfl, h.groupOff⟩
  | groupResume => exact ⟨_, rfl, h.groupResume⟩
  | groupLatchClr => exact ⟨_, rfl, h.groupClr⟩
  | openLoad => exact ⟨_, rfl, h.openLoad⟩
  | dieTempSample => exact ⟨_, rfl, h.tempSample⟩
  | shutdownOutputRelease => exact ⟨_, rfl, h.thermalRelease⟩
  | shutdownClockStop => exact ⟨_, rfl, h.thermalStop⟩
  | shutdownRecovery => exact ⟨_, rfl, h.shutRecover⟩
  | referenceCompensation => exact ⟨_, rfl, h.refCompensate⟩
  | twinLinkTrained => exact ⟨_, rfl, h.linkTrained⟩
  | twinLinkTrainTimeout => exact ⟨_, rfl, h.trainTimeout⟩
  | twinLinkDown => exact ⟨_, rfl, h.linkDown⟩
  | heartbeatReceive => exact ⟨_, rfl, h.heartbeat⟩
  | heartbeatMiss => exact ⟨_, rfl, h.heartbeatMiss⟩
  | claimKeeperExpiry => exact ⟨_, rfl, h.keeperExpiry⟩
  | antlInChange => exact ⟨_, rfl, h.antlIn⟩
  | claimWithdraw => exact ⟨_, rfl, h.claimWithdraw⟩
  | handoverRecordReceive => exact ⟨_, rfl, h.recordReceive⟩
  | takeover => exact ⟨_, rfl, h.takeover⟩
  | outputEnable => exact ⟨_, rfl, h.outputEnable⟩
  | latchRelease => exact ⟨_, rfl, h.latchRelease⟩
  | heldClaim => exact ⟨_, rfl, h.heldClaim⟩
  | followingCheck => exact ⟨_, rfl, h.followingCheck⟩
  | plannedRelease => exact ⟨_, rfl, h.plannedRelease⟩
  | twinMainsNotice => exact ⟨_, rfl, h.mainsNotice⟩
  | resyncRegionCopyDone => exact ⟨_, rfl, h.regionCopy⟩
  | regionResetDelay => exact ⟨_, rfl, h.regionReset⟩
  | chipResetDelay => exact ⟨_, rfl, h.chipReset⟩
  | dieWatchdog => exact ⟨_, rfl, h.dieWatchdog⟩
  | ethFrameReceive => exact ⟨_, rfl, h.ethReceive⟩
  | twinLinkLaneFail => exact ⟨_, rfl, h.twinLaneFail⟩

end Sys2Proof.Machine.State

namespace Sys2Proof.Machine

/-- Settles O60: a step idles or runs the command in front, and every command keeps the stores canonical. -/
theorem everyStepKeepsStoresCanonical : Obligations.EveryStepKeepsStoresCanonical := by
  unfold Obligations.EveryStepKeepsStoresCanonical
  intro s t h hstep
  unfold step at hstep
  split at hstep
  · cases hstep
    exact h
  · next c rest _ =>
    obtain ⟨u, hu, hinv⟩ := State.Inv.exec (s := { s with pending := rest }) h c
    rw [hu] at hstep
    cases hstep
    exact hinv

/-- Settles O59. -/
theorem resetKeepsStoresCanonical : Obligations.ResetKeepsStoresCanonical :=
  ⟨State.Inv.reset, rfl, fun _ => rfl, fun _ => rfl⟩

end Sys2Proof.Machine

/-! # Writes on the bus

Where a write goes is said once for each range of addresses (`busWrite_…`), who may write in `mayStore_core` and
`denied_…`, what a field reads after its register's write in `fieldNext_…` and `bitsOf_regNext`, and which writes do more than that in
`regWrite_…`; the clauses of O57 are short uses of these. -/

namespace Sys2Proof.Machine

/-! ## The register map -/

/-- Fields from bit `n` upwards: rising, without overlap, within the word. -/
def fieldsFit : Nat → List FieldD → Bool
  | n, [] => decide (n ≤ 32)
  | n, f :: t => decide (n ≤ f.lo) && fieldsFit (f.lo + f.w) t

/-- A register stands in its block, its fields fit its word, and what a field takes in an out-of-range write's place fits the
field (`takenAs_le` says why copy 2 and the value 0 stand for all). -/
def regFits (b : Nat) (r : RegD) : Bool :=
  decide (r.off / 0x10000 = b) && fieldsFit 0 r.fields && r.fields.all (fun f => decide (takenAs r.off f.lo 2 0 < 2 ^ f.w))

theorem regFits_of_mem_blockTable {b : Nat} : ∀ r ∈ RegMap.blockTable b, regFits b r = true := by
  unfold RegMap.blockTable
  split
  case h_21 => exact fun _ h => nomatch h
  all_goals decide

/-- A register is the one its offset names. -/
theorem eq_of_mem_blockTable {b o : Nat} {r x : RegD} (h : r ∈ RegMap.blockTable b) (ho : r.off = o)
    (hx : ∀ y ∈ RegMap.blockTable (o / 0x10000), y.off = o → y = x) : r = x := by
  have hb := regFits_of_mem_blockTable r h
  simp only [regFits, Bool.and_eq_true, decide_eq_true_eq] at hb
  obtain ⟨⟨hb, -⟩, -⟩ := hb
  subst ho
  exact hx r (hb ▸ h) rfl

theorem eq_of_locate {r : RegD} {off i j : Nat} (h : RegD.locate r off = some (i, j)) :
    off = r.off + i * r.s1 + j * r.s2 ∧ i < r.n1 ∧ j < r.n2 := by
  unfold RegD.locate at h
  simp only [Option.ite_none_left_eq_some, Option.ite_none_right_eq_some, Option.some.injEq, Prod.mk.injEq] at h
  obtain ⟨hlt, ⟨he, hi, hj⟩, rfl, rfl⟩ := h
  exact ⟨by omega, hi, hj⟩

/-- Where a register found in a die's region stands in the map. -/
theorem mem_blockTable_of_findReg {d : Fin 8} {off i j : Nat} {r : RegD} (hoff : off < 0x1000000)
    (h : findReg (regAddr d off) = some (r, i, j)) :
    r ∈ RegMap.blockTable (off / 0x10000) ∧ off = r.off + i * r.s1 + j * r.s2 ∧ i < r.n1 ∧ j < r.n2 := by
  have hd : (regAddr d off - 0x40000000) / 0x1000000 = d := by
    have := d.isLt
    unfold regAddr
    omega
  have hm : (regAddr d off - 0x40000000) % 0x1000000 = off := by
    unfold regAddr
    omega
  have hlo : ¬ regAddr d off < 0x40000000 := by
    unfold regAddr
    omega
  unfold findReg at h
  obtain ⟨x, hx, he⟩ := List.exists_of_findSome?_eq_some h
  simp only [hm, Option.map_eq_some_iff, Prod.mk.injEq, Prod.exists] at he
  obtain ⟨i', j', hl, rfl, rfl, rfl⟩ := he
  unfold regTable at hx
  have hp : (d : Nat) ≠ pkgDie := by
    have := d.isLt
    unfold pkgDie
    omega
  simp only [hd, hm, if_neg hlo, if_neg hp, if_pos d.isLt] at hx
  exact ⟨List.mem_of_mem_filter hx, eq_of_locate hl⟩

/-! ## Values taken -/

theorem takenAs_le (off lo i v : Nat) : takenAs off lo i v ≤ max v (takenAs off lo 2 0) := by
  have key : ∀ e ∈ takenTable ++ takenTable2, e.2 i v ≤ max v (e.2 2 0) := by
    simp only [takenTable, takenTable2, List.cons_append, List.nil_append, List.forall_mem_cons, clampN]
    simp only [List.not_mem_nil, false_implies, implies_true, and_true]
    split_ands
    all_goals grind
  unfold takenAs
  split
  · next e he => exact key e (List.mem_of_find?_eq_some he)
  · exact Nat.le_max_left ..

/-! ## Fields packed into a word -/

section

variable {x : FieldD → Nat} {lo n : Nat}

/-- Values of fields added up at their places. -/
def packed (x : FieldD → Nat) (n : Nat) (l : List FieldD) : Nat := l.foldl (fun n f => n + x f * 2 ^ f.lo) n

/-- A field's value above smaller ones. -/
theorem add_mul_lt {f : FieldD} (hlo : lo ≤ f.lo) (hn : n < 2 ^ lo) (hx : x f < 2 ^ f.w) : n + x f * 2 ^ f.lo < 2 ^ (f.lo + f.w) := by
  have hn' : n < 2 ^ f.lo := Nat.lt_of_lt_of_le hn (Nat.pow_le_pow_right (by decide) hlo)
  have hs : (x f + 1) * 2 ^ f.lo ≤ 2 ^ f.w * 2 ^ f.lo := Nat.mul_le_mul_right _ hx
  rw [Nat.add_mul, Nat.one_mul] at hs
  rw [Nat.pow_add, Nat.mul_comm (2 ^ f.lo)]
  omega

theorem packed_lt {l : List FieldD} (hl : fieldsFit lo l = true) (hn : n < 2 ^ lo) (hx : ∀ f ∈ l, x f < 2 ^ f.w) :
    packed x n l < 2 ^ 32 := by
  induction l generalizing lo n with
  | nil => exact Nat.lt_of_lt_of_le hn (Nat.pow_le_pow_right (by decide) (of_decide_eq_true hl))
  | cons f t ih =>
    simp only [fieldsFit, Bool.and_eq_true, decide_eq_true_eq] at hl
    obtain ⟨hlo, ht⟩ := hl
    obtain ⟨hf, hx⟩ := List.forall_mem_cons.mp hx
    exact ih ht (add_mul_lt hlo hn hf) hx

/-- The fields above keep what stands below them. -/
theorem packed_mod {l : List FieldD} (hl : fieldsFit lo l = true) (hn : n < 2 ^ lo) (hx : ∀ f ∈ l, x f < 2 ^ f.w) :
    packed x n l % 2 ^ lo = n := by
  induction l generalizing lo n with
  | nil => exact Nat.mod_eq_of_lt hn
  | cons f t ih =>
    simp only [fieldsFit, Bool.and_eq_true, decide_eq_true_eq] at hl
    obtain ⟨hlo, ht⟩ := hl
    obtain ⟨hf, hx⟩ := List.forall_mem_cons.mp hx
    have h1 : packed x n (f :: t) % 2 ^ (f.lo + f.w) = n + x f * 2 ^ f.lo := ih ht (add_mul_lt hlo hn hf) hx
    have hd : 2 ^ lo ∣ 2 ^ (f.lo + f.w) := Nat.pow_dvd_pow 2 (by omega)
    have hm : 2 ^ lo ∣ x f * 2 ^ f.lo := Nat.dvd_mul_left_of_dvd (Nat.pow_dvd_pow 2 hlo) _
    rw [← Nat.mod_mod_of_dvd _ hd, h1, Nat.add_mod, Nat.mod_eq_zero_of_dvd hm, Nat.add_zero, Nat.mod_mod, Nat.mod_eq_of_lt hn]

/-- Each field reads its value. -/
theorem bitsOf_packed {l : List FieldD} (hl : fieldsFit lo l = true) (hn : n < 2 ^ lo) (hx : ∀ f ∈ l, x f < 2 ^ f.w)
    {f : FieldD} (hf : f ∈ l) : bitsOf (packed x n l) f.lo f.w = x f := by
  induction l generalizing lo n with
  | nil => cases hf
  | cons g t ih =>
    simp only [fieldsFit, Bool.and_eq_true, decide_eq_true_eq] at hl
    obtain ⟨hlo, ht⟩ := hl
    have hg := hx g List.mem_cons_self
    have hxt : ∀ f ∈ t, x f < 2 ^ f.w := fun f hf => hx f (List.mem_cons_of_mem _ hf)
    have hn' := add_mul_lt hlo hn hg
    cases hf with
    | head =>
      have h1 : packed x n (f :: t) % 2 ^ (f.lo + f.w) = n + x f * 2 ^ f.lo := packed_mod ht hn' hxt
      have hlt : n < 2 ^ f.lo := Nat.lt_of_lt_of_le hn (Nat.pow_le_pow_right (by decide) hlo)
      rw [bitsOf, ← Nat.mod_mul_right_div_self, ← Nat.pow_add, h1, Nat.add_mul_div_right _ _ (Nat.two_pow_pos _),
        Nat.div_eq_of_lt hlt, Nat.zero_add]
    | tail _ hf => exact ih ht hn' hxt hf

/-- A bit in no field is zero. -/
theorem testBit_packed {l : List FieldD} (hl : fieldsFit lo l = true) (hn : n < 2 ^ lo) (hx : ∀ f ∈ l, x f < 2 ^ f.w)
    {b : Nat} (hb : lo ≤ b) (hout : ∀ f ∈ l, b < f.lo ∨ f.lo + f.w ≤ b) : (packed x n l).testBit b = false := by
  have low : n.testBit b = false := Nat.testBit_lt_two_pow (Nat.lt_of_lt_of_le hn (Nat.pow_le_pow_right (by decide) hb))
  induction l generalizing lo n with
  | nil => exact low
  | cons f t ih =>
    simp only [fieldsFit, Bool.and_eq_true, decide_eq_true_eq] at hl
    obtain ⟨hlo, ht⟩ := hl
    obtain ⟨hf, hxt⟩ := List.forall_mem_cons.mp hx
    obtain ⟨hfb, hout⟩ := List.forall_mem_cons.mp hout
    have hn' := add_mul_lt hlo hn hf
    rcases hfb with h | h
    · have h1 : packed x n (f :: t) % 2 ^ (f.lo + f.w) = n + x f * 2 ^ f.lo := packed_mod ht hn' hxt
      have h2 : (packed x n (f :: t) % 2 ^ (f.lo + f.w)).testBit b = (packed x n (f :: t)).testBit b := by
        rw [Nat.testBit_mod_two_pow, decide_eq_true (by omega), Bool.true_and]
      have hlt : n < 2 ^ f.lo := Nat.lt_of_lt_of_le hn (Nat.pow_le_pow_right (by decide) hlo)
      rw [← h2, h1, Nat.add_comm, Nat.mul_comm, Nat.testBit_two_pow_mul_add _ hlt, if_pos h, low]
    · exact ih ht hn' hxt h hout (Nat.testBit_lt_two_pow (Nat.lt_of_lt_of_le hn' (Nat.pow_le_pow_right (by decide) h)))

end

theorem bitsOf_lt (n lo w : Nat) : bitsOf n lo w < 2 ^ w := Nat.mod_lt _ (Nat.two_pow_pos w)

/-! ## A register's word after a write -/

namespace State

variable {s : State} {d : Fin 8} {r : RegD} {i j : Nat} {old v : Word} {f : FieldD}

theorem fieldNext_lt {b o x : Nat} (hr : regFits b r = true) (hf : f ∈ r.fields) (ho : o < 2 ^ f.w) (hx : x < 2 ^ f.w) :
    s.fieldNext d r i j f o x < 2 ^ f.w := by
  simp only [regFits, Bool.and_eq_true, decide_eq_true_eq, List.all_eq_true] at hr
  obtain ⟨-, htaken⟩ := hr
  have hput : (if s.fieldFree d r.off f.lo i x then takenAs r.off f.lo i x else o) < 2 ^ f.w := by
    split
    · exact Nat.lt_of_le_of_lt (takenAs_le ..) (Nat.max_lt.mpr ⟨hx, htaken f hf⟩)
    · exact ho
  have hand : ∀ y, o &&& y < 2 ^ f.w := fun y => Nat.lt_of_le_of_lt Nat.and_le_left ho
  have hor := Nat.or_lt_two_pow ho hx
  unfold fieldNext
  cases f.acc <;> grind

/-- What a field reads after a write. -/
theorem bitsOf_regNext {b : Nat} (hr : regFits b r = true) (hf : f ∈ r.fields) :
    bitsOf (s.regNext d r i j old v).toNat f.lo f.w =
      s.fieldNext d r i j f (bitsOf old.toNat f.lo f.w) (bitsOf v.toNat f.lo f.w) := by
  have hx : ∀ g ∈ r.fields, s.fieldNext d r i j g (bitsOf old.toNat g.lo g.w) (bitsOf v.toNat g.lo g.w) < 2 ^ g.w :=
    fun g hg => fieldNext_lt hr hg (bitsOf_lt ..) (bitsOf_lt ..)
  simp only [regFits, Bool.and_eq_true] at hr
  obtain ⟨⟨-, hfit⟩, -⟩ := hr
  have e : (s.regNext d r i j old v).toNat =
      packed (fun g => s.fieldNext d r i j g (bitsOf old.toNat g.lo g.w) (bitsOf v.toNat g.lo g.w)) 0 r.fields :=
    Nat.mod_eq_of_lt (packed_lt (n := 0) hfit (by decide) hx)
  rw [e, bitsOf_packed hfit (by decide) hx hf]

/-- Reserved bits read zero after a write (R9). -/
theorem getLsbD_regNext_reserved {b k : Nat} (hr : regFits b r = true) (hout : ∀ g ∈ r.fields, k < g.lo ∨ g.lo + g.w ≤ k) :
    (s.regNext d r i j old v).getLsbD k = false := by
  have hx : ∀ g ∈ r.fields, s.fieldNext d r i j g (bitsOf old.toNat g.lo g.w) (bitsOf v.toNat g.lo g.w) < 2 ^ g.w :=
    fun g hg => fieldNext_lt hr hg (bitsOf_lt ..) (bitsOf_lt ..)
  simp only [regFits, Bool.and_eq_true] at hr
  obtain ⟨⟨-, hfit⟩, -⟩ := hr
  have h := testBit_packed hfit (n := 0) (by decide) hx (Nat.zero_le k) hout
  rw [regNext, BitVec.getLsbD_ofNat]
  unfold packed at h
  rw [h, Bool.and_false]

end State

theorem get_upd_same {α : Type} {n : Nat} (x : Vector α n) (i : Fin n) (f : α → α) : (upd x i f).get i = f (x.get i) :=
  Vector.getElem_set_self ..

theorem get_upd_ne {α : Type} {n : Nat} (x : Vector α n) {i k : Fin n} (f : α → α) (h : k ≠ i) : (upd x i f).get k = x.get k :=
  Vector.getElem_set_ne _ _ (fun e => h (Fin.ext e.symm))

theorem testBit_eq_bitOf (n k : Nat) : n.testBit k = bitOf n k := by
  rw [Nat.testBit_eq_decide_div_mod_eq]
  rfl

namespace State

variable {s x : State} {l : List Nat}

/-! ## Writing registers only -/

theorem writesOnly_refl : WritesOnly l s s := ⟨rfl, fun _ _ => rfl⟩

theorem writesOnly_setWord {a : Nat} {v : Word} (ha : a ∈ l) (h : WritesOnly l s x) : WritesOnly l s (x.setWord a v) := by
  obtain ⟨hx, hw⟩ := h
  refine ⟨?_, fun b hb => ?_⟩
  · obtain ⟨g, rfl⟩ : ∃ g, x = { s with regs := g } := ⟨_, hx⟩
    rfl
  · rw [word_setWord_ne x v (ne_of_mem_of_not_mem ha hb).symm, hw b hb]

theorem writesOnly_wr {d : Nat} {f : Fld} {v i j : Nat} (ha : fldAddr d f i j ∈ l) (h : WritesOnly l s x) :
    WritesOnly l s (x.wr d f v i j) := writesOnly_setWord ha h

theorem writesOnly_raise {d : Nat} {ev first : Fld} {i : Nat} (he : fldAddr d ev i 0 ∈ l) (hf : fldAddr d first i 0 ∈ l)
    (h : WritesOnly l s x) : WritesOnly l s (x.raise d ev first i) := by
  unfold raise
  dsimp only
  split
  · exact writesOnly_wr hf (writesOnly_wr he h)
  · exact writesOnly_wr he h

/-- A one-bit field raised reads 1. -/
theorem on_wr_one {d : Nat} {f : Fld} {i j : Nat} (h : f.lo + f.w ≤ 32) (hw : f.w = 1) : (s.wr d f 1 i j).on d f i j = true := by
  rw [on, rd_wr_same s d f 1 i j h, hw]
  rfl

theorem on_raise {d : Nat} {ev first : Fld} {i : Nat} (h : ev.lo + ev.w ≤ 32) (hw : ev.w = 1) (ha : ev.lo + ev.w ≤ first.lo) :
    (s.raise d ev first i).on d ev i = true := by
  unfold raise
  dsimp only
  split
  · rw [on, rd_wr_apart _ _ _ _ _ _ _ _ _ _ (Or.inr (Or.inr ha))]
    exact on_wr_one h hw
  · exact on_wr_one h hw

theorem bit_setBit {d : Nat} {f : Fld} {k i j : Nat} (h : f.lo + f.w ≤ 32) (hk : k < f.w) :
    (s.setBit d f k i j).bit d f k i j = true := by
  rw [bit, setBit, rd_wr_same _ _ _ _ _ _ h, ← testBit_eq_bitOf, Nat.testBit_mod_two_pow, Nat.testBit_or, Nat.testBit_two_pow_self]
  simp [hk]

/-! ## Refused accesses -/

/-- The access is logged; the core that made it takes a fault when `b` says so. -/
def Denied (b : Bool) (r : Requester) (a : Nat) (s t : State) : Prop :=
  t = { s with logs := t.logs, coreFault := t.coreFault } ∧
    (t.logs.get (whoDie r)).entries.getLast?.map (fun x => (x.code, x.data)) = some (0x0001, [a, whoCode r]) ∧
    t.coreFault = (if (b && faultCore r) = true then some (r, a) else s.coreFault)

theorem getLast?_addEntry (l : EventLog) {cap : Nat} (hcap : 0 < cap) (e : LogEntry) :
    (addEntry l cap e).entries.getLast? = some { e with no := l.next } := by
  have h : (l.entries ++ [{ e with no := l.next }]).getLast? = some { e with no := l.next } := List.getLast?_concat ..
  unfold addEntry
  dsimp only
  split
  · next hlen => rw [List.getLast?_drop, if_neg (by omega), h]
  · exact h

/-- The newest entry of a die's log after an event of that die. -/
theorem getLast?_log (s : State) (d : Fin 8) (code cls block index count : Nat) (data : List Nat) :
    ((s.log d code cls block index count data).logs.get d).entries.getLast?.map (fun x => (x.code, x.data)) = some (code, data) := by
  unfold log
  dsimp only
  split
  · rw [get_upd_same, getLast?_addEntry _ (by decide)]
    rfl
  · next hd =>
    rw [get_upd_ne _ _ hd, get_upd_same, getLast?_addEntry _ (by decide)]
    rfl

theorem denied_accessEvent (s : State) (r : Requester) (a : Nat) : Denied false r a s (s.accessEvent (whoDie r) a (whoCode r)) :=
  ⟨rfl, getLast?_log .., rfl⟩

theorem denied_accessFault (s : State) (r : Requester) (a : Nat) : Denied true r a s (s.accessFault r a) :=
  ⟨rfl, getLast?_log s .., rfl⟩

end State

theorem yields_write {s : State} {r : Requester} {a n : Nat} {v : Word} {P : State → Prop} (h : P (s.busWrite r a n v)) :
    Yields (.registerWrite r a n v) s P := ⟨_, rfl, h⟩

namespace State

variable {s : State} {r : Requester} {a n : Nat} {v : Word}

/-! ## By the address (R22, R24) -/

/-- The requester is not a debug port that does not answer. -/
def Awake (s : State) (r : Requester) : Prop := (∀ x, r ≠ .debug x) ∨ s.debugOn = true

/-- A width and alignment the bus takes. -/
def Wide (a n : Nat) : Prop := (n = 1 ∨ n = 2 ∨ n = 4) ∧ a % n = 0

/-- A write that is judged by its address. -/
def Fits (s : State) (r : Requester) (a n : Nat) : Prop := Awake s r ∧ Wide a n ∧ (r = .hostPort → n = 4)

theorem awake_iff : Awake s r ↔ ¬(faultCore r = false ∧ r ≠ .hostPort ∧ s.debugOn = false) := by
  cases r <;> simp [Awake, faultCore]

theorem wide_iff : Wide a n ↔ ¬((n ≠ 1 ∧ n ≠ 2 ∧ n ≠ 4) ∨ a % n ≠ 0) := by
  unfold Wide
  omega

theorem busWrite_asleep (h : ¬Awake s r) : s.busWrite r a n v = s := by
  rw [awake_iff, not_not] at h
  rw [busWrite, if_pos h]

theorem busWrite_misaligned (hw : r = .hostPort) (h : ¬(n = 4 ∧ a % 4 = 0)) :
    s.busWrite r a n v = s.wr 0 F.HPI_STAT_MISALIGN 1 := by
  rw [busWrite, if_neg (fun k => k.2.1 hw), if_pos ⟨hw, by omega⟩]

theorem busWrite_not_wide (ha : Awake s r) (hp : r ≠ .hostPort) (h : ¬Wide a n) : s.busWrite r a n v = s.accessFault r a := by
  rw [wide_iff, not_not] at h
  rw [busWrite, if_neg (awake_iff.mp ha), if_neg (fun k => hp k.1), if_pos h]

/-- A write that fits passes the three checks before its address is looked at. -/
theorem Fits.passes (h : Fits s r a n) : ¬(faultCore r = false ∧ r ≠ .hostPort ∧ s.debugOn = false) ∧
    ¬(r = .hostPort ∧ (n ≠ 4 ∨ a % 4 ≠ 0)) ∧ ¬((n ≠ 1 ∧ n ≠ 2 ∧ n ≠ 4) ∨ a % n ≠ 0) := by
  obtain ⟨ha, hw, hp⟩ := h
  refine ⟨awake_iff.mp ha, ?_, wide_iff.mp hw⟩
  rintro ⟨hr, hn⟩
  obtain ⟨-, hal⟩ := hw
  obtain rfl := hp hr
  omega

theorem busWrite_bootRom (h : Fits s r a n) (ha : a < 0x100000) : s.busWrite r a n v = s := by
  obtain ⟨hasleep, hmis, hwide⟩ := h.passes
  rw [busWrite, if_neg hasleep, if_neg hmis, if_neg hwide, if_pos ha]

theorem busWrite_outside (h : Fits s r a n) (h0 : ¬(0 ≤ a ∧ a < 0x100000)) (h1 : ¬(0x10000000 ≤ a ∧ a < 0x10200000))
    (h2 : ¬(0x20000000 ≤ a ∧ a < 0x20800000)) (h3 : ¬(0x30000000 ≤ a ∧ a < 0x30200000))
    (h4 : ¬(0x40000000 ≤ a ∧ a < 0x48000000)) (h6 : ¬(0x60000000 ≤ a ∧ a < 0x60010000)) :
    s.busWrite r a n v = s.accessFault r a := by
  obtain ⟨hasleep, hmis, hwide⟩ := h.passes
  rw [busWrite, if_neg hasleep, if_neg hmis, if_neg hwide, if_neg (by omega), if_neg h1, if_neg h2, if_neg h3, if_neg h4, if_neg h6]

theorem busWrite_sram (h : Fits s r a n) (ha : 0x10000000 ≤ a ∧ a < 0x10200000) : s.busWrite r a n v =
    if !machineCore r then s.accessEvent (whoDie r) a (whoCode r)
    else if s.dieShut (whoDie r) then s
    else s.setBytes (sramKey (whoDie r) a) (leBytes n v.toNat) := by
  obtain ⟨hasleep, hmis, hwide⟩ := h.passes
  rw [busWrite, if_neg hasleep, if_neg hmis, if_neg hwide, if_neg (by omega), if_pos ha]

theorem busWrite_mram (h : Fits s r a n) (ha : 0x20000000 ≤ a ∧ a < 0x20800000) : s.busWrite r a n v =
    if machineCore r then s.mramWrite (whoDie r) a n v else s.accessEvent (whoDie r) a (whoCode r) := by
  obtain ⟨hasleep, hmis, hwide⟩ := h.passes
  rw [busWrite, if_neg hasleep, if_neg hmis, if_neg hwide, if_neg (by omega), if_neg (by omega), if_pos ha]

theorem busWrite_global (h : Fits s r a n) (ha : 0x60000000 ≤ a ∧ a < 0x60010000) : s.busWrite r a n v =
    if n = 4 then s.globalWrite r a v else s.accessFault r a := by
  obtain ⟨hasleep, hmis, hwide⟩ := h.passes
  rw [busWrite, if_neg hasleep, if_neg hmis, if_neg hwide, if_neg (by omega), if_neg (by omega), if_neg (by omega), if_neg (by omega),
    if_neg (by omega), if_pos ha]

/-! ## SRAM and MRAM -/

/-- The requester is a machine-mode core of die `e`, or the debug port there. -/
def CoreOf (e : Fin 8) (r : Requester) : Prop := (∃ c, r = .app e c false) ∨ r = .debug e

theorem CoreOf.whoDie {e : Fin 8} (h : CoreOf e r) : whoDie r = e := by
  rcases h with ⟨c, rfl⟩ | rfl <;> rfl

theorem CoreOf.machineCore {e : Fin 8} (h : CoreOf e r) : machineCore r = true := by
  rcases h with ⟨c, rfl⟩ | rfl <;> rfl

/-- The bytes of a word stored, and nothing else. -/
def Stored (k n : Nat) (v : Word) (s t : State) : Prop :=
  t.bytes k n = leBytes n v.toNat ∧ StoresAt k n s t ∧ t.pending = s.pending

theorem stored_setBytes (s : State) (k n : Nat) (v : Word) : Stored k n v s (s.setBytes k (leBytes n v.toNat)) := by
  have h := bytes_setBytes s k (leBytes n v.toNat)
  rw [length_leBytes] at h
  refine ⟨h, ⟨fun a ha => byte_setBytes_out _ s k a ?_, setBytes_regs ..⟩, setBytes_pending ..⟩
  rwa [length_leBytes]

theorem stored_sram {e : Fin 8} (h : Fits s r a n) (hr : CoreOf e r) (ha : 0x10000000 ≤ a ∧ a < 0x10200000)
    (hd : s.dieShut e = false) :
    Stored (sramKey e a) n v s (s.busWrite r a n v) := by
  rw [busWrite_sram h ha, hr.machineCore, hr.whoDie, hd]
  exact stored_setBytes ..

theorem busWrite_sram_shut {e : Fin 8} (h : Fits s r a n) (hr : CoreOf e r) (ha : 0x10000000 ≤ a ∧ a < 0x10200000)
    (hd : s.dieShut e = true) : s.busWrite r a n v = s := by
  rw [busWrite_sram h ha, hr.machineCore, hr.whoDie, hd]
  rfl

theorem stored_mram {e : Fin 8} (h : Fits s r a n) (hr : CoreOf e r) (ha : 0x20000000 ≤ a ∧ a < 0x20800000)
    (hm : ¬Config.mramRegion (a - 0x20000000) = 7 ∨ s.lifeState = 3) : Stored (sramKey e a) n v s (s.busWrite r a n v) := by
  rw [busWrite_mram h ha, hr.machineCore, hr.whoDie, if_pos rfl, mramWrite, if_neg (by tauto)]
  exact stored_setBytes ..

/-- The scratch region takes a write in MAINTENANCE only (R81). -/
theorem busWrite_scratch {e : Fin 8} (h : Fits s r a n) (hr : CoreOf e r) (ha : 0x20000000 ≤ a ∧ a < 0x20800000)
    (hm : Config.mramRegion (a - 0x20000000) = 7) (hl : s.lifeState ≠ 3) : s.busWrite r a n v = s := by
  rw [busWrite_mram h ha, hr.machineCore, hr.whoDie, if_pos rfl, mramWrite, if_pos ⟨hm, hl⟩]

theorem denied_memory (h : Fits s r a n) (ha : (0x10000000 ≤ a ∧ a < 0x10200000) ∨ (0x20000000 ≤ a ∧ a < 0x20800000))
    (hr : machineCore r = false) : Denied false r a s (s.busWrite r a n v) := by
  rcases ha with ha | ha
  · rw [busWrite_sram h ha, hr]
    exact denied_accessEvent ..
  · rw [busWrite_mram h ha, hr]
    exact denied_accessEvent ..

/-! ## Rights (R13, R95) -/

theorem mayStore_core {e : Fin 8} {c : Fin 2} {d off : Nat} (h : e = 0 ∨ keyWords off = false ∧ extWords off = false) :
    s.mayStore (.app e c false) d off false = true := by
  rcases h with rfl | ⟨hk, hx⟩
  · rfl
  · simp [mayStore, hk, hx]

/-! ## Peripheral regions and the package range -/

/-- No block of die `d` lies at an offset (R22, R23). -/
def Vacant (d : Fin 8) (off : Nat) : Prop :=
  (0x30000 ≤ off ∧ off < 0x40000) ∨ (0x50000 ≤ off ∧ off < 0x60000) ∨ (0x70000 ≤ off ∧ off < 0x80000) ∨
    (0x150000 ≤ off ∧ off < 0x200000) ∨ 0x260000 ≤ off ∨ (d ≠ 0 ∧ 0x200000 ≤ off)

theorem occupied_eq_false_iff {d : Fin 8} {off : Nat} : occupied d off = false ↔ Vacant d off := by
  have hd : d = 0 ↔ (d : Nat) = 0 := Fin.ext_iff
  unfold occupied Vacant
  dsimp only
  split
  · simp only [Bool.and_eq_false_iff, bne_eq_false_iff_eq]
    omega
  · simp only [Bool.and_eq_false_iff, decide_eq_false_iff_not]
    omega

/-- An aligned word in a block of a die that is present. -/
def Here (s : State) (d : Fin 8) (a n off : Nat) : Prop :=
  n = 4 ∧ a % 4 = 0 ∧ off < 0x1000000 ∧ a = regAddr d off ∧ s.present d = true ∧ ¬Vacant d off

theorem busWrite_peripheral {d : Fin 8} {off : Nat} (h : Fits s r a n) (hoff : off < 0x1000000) (ha : a = regAddr d off) :
    s.busWrite r a n v =
      if n ≠ 4 ∨ !s.present d ∨ !occupied d off then s.accessFault r a
      else if s.dieShut d then s
      else s.regionWrite r d a off v := by
  have hd := d.isLt
  have h1 : (a - 0x40000000) / 0x1000000 = d := by
    unfold regAddr at ha
    omega
  have h2 : (a - 0x40000000) % 0x1000000 = off := by
    unfold regAddr at ha
    omega
  have h3 : 0x40000000 ≤ a ∧ a < 0x48000000 := by
    unfold regAddr at ha
    omega
  obtain ⟨hasleep, hmis, hwide⟩ := h.passes
  rw [busWrite, if_neg hasleep, if_neg hmis, if_neg hwide, if_neg (by omega), if_neg (by omega), if_neg (by omega),
    if_neg (by omega), if_pos h3]
  unfold peripheralWrite
  simp only [h1, h2, hd, dite_true, Fin.eta]

theorem denied_peripheral {d : Fin 8} {off : Nat} (h : Fits s r a n) (hoff : off < 0x1000000) (ha : a = regAddr d off)
    (hn : n ≠ 4 ∨ s.present d = false ∨ Vacant d off) : Denied true r a s (s.busWrite r a n v) := by
  rw [busWrite_peripheral h hoff ha, if_pos]
  · exact denied_accessFault ..
  · simpa [occupied_eq_false_iff] using hn

theorem busWrite_here {d : Fin 8} {off : Nat} (hw : Awake s r) (h : Here s d a n off) :
    s.busWrite r a n v = if s.dieShut d then s else s.regionWrite r d a off v := by
  obtain ⟨hn, hal, hoff, ha, hp, hv⟩ := h
  subst hn
  rw [busWrite_peripheral ⟨hw, ⟨by omega, hal⟩, fun _ => rfl⟩ hoff ha, if_neg]
  simpa [hp, occupied_eq_false_iff] using hv

theorem busWrite_global_unlisted {e : Fin 8} {c : Fin 2} (h : Fits s r a n) (ha : 0x60000000 ≤ a ∧ a < 0x60010000)
    (hr : r = .app e c false) (hn : n = 4) (hf : findReg a = none) : s.busWrite r a n v = s := by
  subst hr
  rw [busWrite_global h ha, if_pos hn, globalWrite, hf, if_pos (mayStore_core (Or.inr (by decide)))]

theorem denied_global (h : Fits s r a n) (ha : 0x60000000 ≤ a ∧ a < 0x60010000) (hn : n ≠ 4) :
    Denied true r a s (s.busWrite r a n v) := by
  rw [busWrite_global h ha, if_neg hn]
  exact denied_accessFault ..

end State

end Sys2Proof.Machine

namespace Sys2Proof.Machine.State

variable {s : State} {r : Requester} {a n off : Nat} {v : Word} {d e : Fin 8} {c : Fin 2}

/-! ## Engine memories, message RAM and the key store's operation registers -/

theorem busWrite_runs (hw : ∀ x, r ≠ .debug x) (h : Here s d a n off) (hd : s.dieShut d = false) :
    s.busWrite r a n v = s.regionWrite r d a off v := by
  rw [busWrite_here (Or.inl hw) h, hd]
  rfl

theorem Here.addr (h : Here s d a n off) : a = regAddr d off := by
  obtain ⟨-, -, -, ha, -, -⟩ := h
  exact ha

/-- Below the key store, a core writes whatever register is not named for SAFE. -/
theorem open_of_lt (h : off < 0x200040) : e = 0 ∨ keyWords off = false ∧ extWords off = false := by
  right
  have hx : F.LCS_MREG7_EXT.off = 0x250200 := rfl
  simp only [keyWords, extWords, hx, Bool.and_eq_false_iff, decide_eq_false_iff_not]
  omega

/-- The operation registers are no key words. -/
theorem open_of_op (h : 0x200080 ≤ off) (h' : off < 0x200098) : e = 0 ∨ keyWords off = false ∧ extWords off = false := by
  right
  have hx : F.LCS_MREG7_EXT.off = 0x250200 := rfl
  simp only [keyWords, extWords, hx, Bool.and_eq_false_iff, decide_eq_false_iff_not]
  omega

theorem canRam_iff : canRam off = true ↔ 0x0D0000 ≤ off ∧ off < 0x0D8000 ∧ 0x100 ≤ (off - 0x0D0000) % 0x4000 := by
  simp only [canRam, Bool.and_eq_true, decide_eq_true_eq, and_assoc]

/-- A load error of the engine: the bit is set and only the error register is written. -/
theorem loadRefused_oxeErr (s : State) (d : Fin 8) : (s.oxeErr d F.OXE_ERR_LOAD_REFUSED).on d F.OXE_ERR_LOAD_REFUSED = true ∧
    WritesOnly [fldAddr d F.OXE_ERR_LOAD_REFUSED 0 0] s (s.oxeErr d F.OXE_ERR_LOAD_REFUSED) :=
  ⟨on_raise (ev := F.OXE_ERR_LOAD_REFUSED) (first := F.OXE_ERR_FIRST) (by decide) rfl (by decide),
    writesOnly_raise (first := F.OXE_ERR_FIRST) (List.mem_singleton.mpr rfl) (List.mem_singleton.mpr rfl) writesOnly_refl⟩

/-- A word of memory written, and nothing else. -/
def WordStored (a : Nat) (v : Word) (s t : State) : Prop := t.mword a = v ∧ StoresAt a 4 s t ∧ t.pending = s.pending

theorem wordStored_setMword (s : State) (a : Nat) (v : Word) : WordStored a v s (s.setMword a v) :=
  ⟨mword_setMword_same .., ⟨fun _ => byte_setMword_out _ _ _ _, setMword_regs ..⟩, setMword_pending ..⟩

theorem oxeMemWrite_program (h : off < 0x098000) (hr : s.on d F.OXE_CTRL_RUN = false) (hl : s.on d F.OXE_CTRL_LOCK = false) :
    s.oxeMemWrite d off v = s.setMword (regAddr d off) v := by
  rw [oxeMemWrite, if_pos h, hr, hl]
  rfl

theorem oxeMemWrite_data (h1 : 0x0A8000 ≤ off) (h2 : off < 0x0AA000) : s.oxeMemWrite d off v = s.setMword (regAddr d off) v := by
  rw [oxeMemWrite, if_neg (by omega), if_neg (by omega), if_pos ⟨h1, h2⟩]

theorem canRamWrite_idle (hc : canRam off = true) (hp : ∀ y < 2, s.rd d F.CAN_TX_PEND y = 0) :
    s.canRamWrite d off v = s.setMword (regAddr d off) v := by
  obtain ⟨hlo, hhi, -⟩ := canRam_iff.mp hc
  have hpend : ∀ k, s.bit d F.CAN_TX_PEND k ((off - 0x0D0000) / 0x4000) = false := by
    intro k
    rw [bit, hp _ (by omega), ← testBit_eq_bitOf, Nat.zero_testBit]
  unfold canRamWrite
  simp [hpend]

/-- Operation register `x` of a bank holds a value, and nothing else has changed. -/
def OpStored (b x : Nat) (v : Word) (s t : State) : Prop :=
  t.opReg b x = v ∧ (∀ b' y, y < 8 → b' ≠ b ∨ y ≠ x → t.opReg b' y = s.opReg b' y) ∧ t.regs = s.regs ∧ Keeps s t

theorem opStored_setOpReg (s : State) (b : Nat) {x : Nat} (hx : x < 8) (v : Word) : OpStored b x v s (s.setOpReg b x v) := by
  refine ⟨Sparse.get_set_same .., fun b' y hy hne => Sparse.get_set_ne _ _ _ ?_, rfl, rfl, rfl, rfl⟩
  omega

section

variable (h : Here s d a n off) (hd : s.dieShut d = false) (hr : r = .app e c false)

include h hd hr

theorem busWrite_oxeMem (h1 : 0x090000 ≤ off) (h2 : off < 0x0C0000) : s.busWrite r a n v = s.oxeMemWrite d off v := by
  subst hr
  rw [busWrite_runs (by simp) h hd, regionWrite, if_pos ⟨h1, h2⟩, if_pos (mayStore_core (open_of_lt (by omega)))]

theorem busWrite_canRam (hc : canRam off = true) : s.busWrite r a n v = s.canRamWrite d off v := by
  subst hr
  obtain ⟨hlo, hhi, -⟩ := canRam_iff.mp hc
  rw [busWrite_runs (by simp) h hd, regionWrite, if_neg (by omega), if_pos hc, if_pos (mayStore_core (open_of_lt (by omega)))]

theorem busWrite_op (h1 : 0x200080 ≤ off) (h2 : off < 0x200098) : s.busWrite r a n v = s.opWrite r off v := by
  subst hr
  have hc : ¬canRam off = true := by
    rw [canRam_iff]
    omega
  rw [busWrite_runs (by simp) h hd, regionWrite, if_neg (by omega), if_neg hc, if_pos ⟨h1, h2⟩,
    if_pos (mayStore_core (open_of_op h1 h2))]

/-- A program word under the load rule (R187). -/
theorem busWrite_program_refused (h1 : 0x090000 ≤ off) (h2 : off < 0x098000)
    (hl : s.on d F.OXE_CTRL_RUN = true ∨ s.on d F.OXE_CTRL_LOCK = true) :
    s.busWrite r a n v = s.oxeErr d F.OXE_ERR_LOAD_REFUSED := by
  rw [busWrite_oxeMem h hd hr h1 (by omega), oxeMemWrite, if_pos h2, if_pos (by rwa [Bool.or_eq_true])]

theorem wordStored_memory
    (hm : (0x090000 ≤ off ∧ off < 0x098000 ∧ s.on d F.OXE_CTRL_RUN = false ∧ s.on d F.OXE_CTRL_LOCK = false) ∨
      (0x0A8000 ≤ off ∧ off < 0x0AA000) ∨ (canRam off = true ∧ ∀ y < 2, s.rd d F.CAN_TX_PEND y = 0)) :
    WordStored a v s (s.busWrite r a n v) := by
  suffices he : s.busWrite r a n v = s.setMword a v from he ▸ wordStored_setMword s a v
  have ha := h.addr
  subst ha
  rcases hm with ⟨h1, h2, hrun, hlock⟩ | ⟨h1, h2⟩ | ⟨hc, hp⟩
  · rw [busWrite_oxeMem h hd hr h1 (by omega), oxeMemWrite_program h2 hrun hlock]
  · rw [busWrite_oxeMem h hd hr (by omega) (by omega), oxeMemWrite_data h1 h2]
  · rw [busWrite_canRam h hd hr hc, canRamWrite_idle hc hp]

/-- A transmit buffer with its request pending takes no word (R299). -/
theorem busWrite_canRam_pending (hc : canRam off = true) (ho : 0x3680 ≤ (off - 0x0D0000) % 0x4000)
    (hp : s.bit d F.CAN_TX_PEND (((off - 0x0D0000) % 0x4000 - 0x3680) / 76) ((off - 0x0D0000) / 0x4000) = true) :
    s.busWrite r a n v = s := by
  rw [busWrite_canRam h hd hr hc, canRamWrite, if_pos ⟨ho, hp⟩]

/-- The first word of a coefficient entry waits for its second one. -/
theorem coefLow_busWrite (h1 : 0x0A0000 ≤ off) (h2 : off < 0x0A8000) (h8 : off % 8 = 0) :
    ((off - 0x0A0000) / 8, v) ∈ ((s.busWrite r a n v).oxe.get d).coefLow ∧ (s.busWrite r a n v).regs = s.regs ∧
      Keeps s (s.busWrite r a n v) := by
  rw [busWrite_oxeMem h hd hr (by omega) (by omega), oxeMemWrite, if_neg (by omega), if_pos ⟨h1, h2⟩, if_pos h8]
  refine ⟨?_, rfl, rfl, rfl, rfl⟩
  dsimp only [updOxe]
  rw [get_upd_same]
  exact List.mem_append_right _ (List.mem_singleton.mpr rfl)

theorem opStored_operand {x : Nat} (h1 : 1 ≤ x) (h4 : x ≤ 4) (ho : off = 0x200080 + 4 * x) :
    OpStored (keyBank r) x v s (s.busWrite r a n v) := by
  have hx : (off - 0x200080) / 4 = x := by omega
  rw [busWrite_op h hd hr (by omega) (by omega), opWrite, hx, if_neg (by omega), if_pos h4]
  exact opStored_setOpReg s _ (by omega) v

theorem busWrite_opc (ho : off = 0x200080) :
    s.busWrite r a n v = if bitOf v.toNat 31 then s else s.setOpReg (keyBank r) 0 (v &&& opcMask) := by
  have hx : (off - 0x200080) / 4 = 0 := by omega
  rw [busWrite_op h hd hr (by omega) (by omega), opWrite, hx]
  rfl

theorem busWrite_opc_go (ho : off = 0x200080) (hg : bitOf v.toNat 31 = true) : s.busWrite r a n v = s := by
  rw [busWrite_opc h hd hr ho, if_pos hg]

theorem opStored_opc (ho : off = 0x200080) (hg : bitOf v.toNat 31 = false) :
    OpStored (keyBank r) 0 (v &&& opcMask) s (s.busWrite r a n v) := by
  rw [busWrite_opc h hd hr ho, hg]
  exact opStored_setOpReg s _ (by decide) _

end

variable {i j : Nat} {reg : RegD} {f : FieldD}

/-! ## Registers: rights -/

/-- The word at the address is a word of a die's peripheral region and none of its memories or operation registers. -/
def InRegisters (s : State) (d : Fin 8) (a n off : Nat) : Prop :=
  Here s d a n off ∧ s.dieShut d = false ∧ ¬(0x090000 ≤ off ∧ off < 0x0C0000) ∧ canRam off = false ∧
    ¬(0x200080 ≤ off ∧ off < 0x200098)

/-- A refused write of a die's region faults the core for a key word only (R95). -/
theorem denied_region (s : State) (r : Requester) (a off : Nat) :
    Denied (keyWords off) r a s (if keyWords off then s.accessFault r a else s.accessEvent (whoDie r) a (whoCode r)) := by
  cases keyWords off with
  | true => exact denied_accessFault ..
  | false => exact denied_accessEvent ..

theorem busWrite_unlisted (h : InRegisters s d a n off) (hr : r = .app e c false)
    (ho : e = 0 ∨ keyWords off = false ∧ extWords off = false) (hf : findReg a = none) : s.busWrite r a n v = s := by
  subst hr
  obtain ⟨hh, hd, hm, hc, hk⟩ := h
  rw [busWrite_runs (by simp) hh hd, regionWrite, if_neg hm, if_neg (by simp [hc]), if_neg hk, hf]
  exact if_pos (mayStore_core ho)

theorem busWrite_register (hw : ∀ x, r ≠ .debug x) (h : InRegisters s d a n off) (hf : findReg a = some (reg, i, j)) :
    s.busWrite r a n v =
    if s.mayStore r d off (reg.fields.any (fun f => f.safe)) then s.regWrite d a reg i j v
    else if keyWords off then s.accessFault r a else s.accessEvent (whoDie r) a (whoCode r) := by
  obtain ⟨hh, hd, hm, hc, hk⟩ := h
  rw [busWrite_runs hw hh hd, regionWrite, if_neg hm, if_neg (by simp [hc]), if_neg hk, hf]

theorem busWrite_register_core (h : InRegisters s d a n off) (hf : findReg a = some (reg, i, j)) (hr : r = .app e c false)
    (hs : ¬reg.fields.any (fun g => g.safe) = true) (ho : e = 0 ∨ keyWords off = false ∧ extWords off = false) :
    s.busWrite r a n v = s.regWrite d a reg i j v := by
  subst hr
  rw [Bool.not_eq_true] at hs
  rw [busWrite_register (by simp) h hf, hs, if_pos (mayStore_core ho)]

theorem busWrite_register_safe (h : InRegisters s d a n off) (hf : findReg a = some (reg, i, j)) (hr : r = .safe d)
    (hs : reg.fields.any (fun g => g.safe) = true) : s.busWrite r a n v = s.regWrite d a reg i j v := by
  subst hr
  rw [busWrite_register (by simp) h hf, hs, if_pos]
  simp [mayStore]

theorem denied_register (hw : ∀ x, r ≠ .debug x) (h : InRegisters s d a n off) (hf : findReg a = some (reg, i, j))
    (hm : s.mayStore r d off (reg.fields.any (fun f => f.safe)) = false) : Denied (keyWords off) r a s (s.busWrite r a n v) := by
  rw [busWrite_register hw h hf, hm]
  exact denied_region ..

/-- A register named for SAFE takes no write of a core. -/
theorem denied_register_named (h : InRegisters s d a n off) (hf : findReg a = some (reg, i, j)) (hr : r = .app e c false)
    (hs : reg.fields.any (fun g => g.safe) = true) : Denied (keyWords off) r a s (s.busWrite r a n v) := by
  subst hr
  exact denied_register (by simp) h hf (by rw [hs]; rfl)

/-- User mode and the loop engine write no register. -/
theorem denied_register_user (h : InRegisters s d a n off) (hf : findReg a = some (reg, i, j))
    (hr : (∃ x y, r = .app x y true) ∨ r = .loop e) : Denied (keyWords off) r a s (s.busWrite r a n v) := by
  rcases hr with ⟨x, y, rfl⟩ | rfl
  · exact denied_register (by simp) h hf rfl
  · exact denied_register (by simp) h hf rfl

/-! ## Registers: access codes (R10) -/

/-- Registers whose write does more than change their fields. -/
def busyOffs : List Nat :=
  [F.OXE_CTX_CFG_EN.off, F.OXE_CTX_DWIN_DBASE.off, F.OXE_SAFE_EVT_EVT.off, F.TWN_CTRL_EN.off, F.CAN_CTRL_INIT.off,
   F.ACQ_U_CTRL_EN.off, F.SAF_OUT_CMD.off, F.TSU_PO_CTRL_MODE.off, F.LSW_SAFE_EN_EN.off, F.DIE_ERR_CLR.off, F.SMW_EARLY_READ_CLR.off,
   F.ADC_RING_BASE.off, F.ADC_RING_SIZE_SIZE.off, F.STL_RING_SIZE_SIZE.off]

theorem clrBits_of_ne (h1 : off ≠ F.DIE_ERR_CLR.off) (h2 : off ≠ F.SMW_EARLY_READ_CLR.off) : s.clrBits d off v = s := by
  have hd : (d : Nat) ≠ pkgDie := by
    have := d.isLt
    unfold pkgDie
    omega
  simp [clrBits, h1, h2, hd]

theorem firstClear_of_none {w : Word} (h : firstOf reg.off = none) : s.firstClear d reg w = s := by
  rw [firstClear, h]

theorem badRequest_of_ne (h : off ≠ F.STL_PSREQ.off) : s.badRequest d off i v = s := if_neg (fun k => h k.1)

theorem afterWrite_of_not_mem {old new : Word} (h : off ∉ busyOffs) : s.afterWrite d off i old new = s := by
  simp only [busyOffs, List.mem_cons, List.not_mem_nil, not_or, or_false] at h
  simp [afterWrite, h]

/-- A write that no rule refuses to a register without a FIRST field and outside `busyOffs`. -/
theorem regWrite_of_not_mem (hr : s.regRefused d reg.off i v = none) (hf : firstOf reg.off = none) (hb : reg.off ∉ busyOffs) :
    s.regWrite d a reg i j v = (s.setWord a (s.regNext d reg i j (s.word a) v)).badRequest d reg.off i v := by
  have h1 : reg.off ≠ F.DIE_ERR_CLR.off := fun he => hb (he ▸ by decide)
  have h2 : reg.off ≠ F.SMW_EARLY_READ_CLR.off := fun he => hb (he ▸ by decide)
  simp only [regWrite, hr, firstClear_of_none hf, clrBits_of_ne h1 h2, afterWrite_of_not_mem hb]

/-- What a field takes from a write that is free. -/
def took (s : State) (d : Fin 8) (off lo i x old : Nat) : Nat := if s.fieldFree d off lo i x = true then takenAs off lo i x else old

/-- A register's fields after a write, by their access codes; reserved bits read zero. -/
def Coded (d : Fin 8) (a : Nat) (reg : RegD) (i j : Nat) (f : FieldD) (v : Word) (s t : State) : Prop :=
  WritesOnly [a] s t ∧ (∀ b, b < 32 → (∀ g ∈ reg.fields, b < g.lo ∨ g.lo + g.w ≤ b) → (t.word a).getLsbD b = false) ∧
  (f ∈ reg.fields →
    let was := bitsOf (s.word a).toNat f.lo f.w
    let put := bitsOf v.toNat f.lo f.w
    let now := bitsOf (t.word a).toNat f.lo f.w
    (f.acc = .ro ∨ hasRow reg.off f.lo i j = true → now = was) ∧
    (hasRow reg.off f.lo i j = false →
      (f.acc = .w1c → now = was &&& (2 ^ f.w - 1 - put)) ∧ (f.acc = .rw → now = s.took d reg.off f.lo i put was) ∧
      (f.acc = .rwl ∨ (f.acc = .rwu ∧ i < 2) → now = if s.locked d reg.off = true then was else s.took d reg.off f.lo i put was) ∧
      (f.acc = .w1s → plainW1 reg.off f.lo = true → now = was ||| put)))

section

variable {old x : Nat}

theorem fieldNext_of_hasRow (h : hasRow reg.off f.lo i j = true) : s.fieldNext d reg i j f old x = old := if_pos h

theorem fieldNext_ro (h : f.acc = .ro) : s.fieldNext d reg i j f old x = old := by simp [fieldNext, h]

variable (hh : hasRow reg.off f.lo i j = false)

include hh

theorem fieldNext_rw (h : f.acc = .rw) : s.fieldNext d reg i j f old x = s.took d reg.off f.lo i x old := by
  simp [fieldNext, hh, h, took]

theorem fieldNext_rwl (h : f.acc = .rwl) :
    s.fieldNext d reg i j f old x = if s.locked d reg.off = true then old else s.took d reg.off f.lo i x old := by
  simp [fieldNext, hh, h, took]

theorem fieldNext_rwu (h : f.acc = .rwu) (hi : i < 2) :
    s.fieldNext d reg i j f old x = if s.locked d reg.off = true then old else s.took d reg.off f.lo i x old := by
  simp [fieldNext, hh, h, hi, took]

theorem fieldNext_w1c (h : f.acc = .w1c) : s.fieldNext d reg i j f old x = old &&& (2 ^ f.w - 1 - x) := by
  simp [fieldNext, hh, h]

theorem fieldNext_w1s (h : f.acc = .w1s) (hp : plainW1 reg.off f.lo = true) : s.fieldNext d reg i j f old x = old ||| x := by
  simp [fieldNext, hh, h, hp]

end

theorem coded_setWord {b : Nat} (hr : regFits b reg = true) :
    Coded d a reg i j f v s (s.setWord a (s.regNext d reg i j (s.word a) v)) := by
  refine ⟨writesOnly_setWord (List.mem_singleton.mpr rfl) writesOnly_refl, fun k _ hk => ?_, fun hf => ?_⟩
  · rw [word_setWord_same]
    exact getLsbD_regNext_reserved hr hk
  · dsimp only
    rw [word_setWord_same, bitsOf_regNext hr hf]
    refine ⟨?_, fun hh => ⟨fieldNext_w1c hh, fieldNext_rw hh, ?_, fieldNext_w1s hh⟩⟩
    · rintro (h | h)
      · exact fieldNext_ro h
      · exact fieldNext_of_hasRow h
    · rintro (h | ⟨h, hi⟩)
      · exact fieldNext_rwl hh h
      · exact fieldNext_rwu hh h hi

theorem InRegisters.located (h : InRegisters s d a n off) (hf : findReg a = some (reg, i, j)) :
    reg ∈ RegMap.blockTable (off / 0x10000) ∧ a = regAddr d (reg.off + i * reg.s1 + j * reg.s2) ∧ i < reg.n1 ∧ j < reg.n2 := by
  obtain ⟨⟨-, -, hlt, ha, -, -⟩, -⟩ := h
  obtain ⟨hmem, hoff, hi, hj⟩ := mem_blockTable_of_findReg hlt (ha ▸ hf)
  exact ⟨hmem, hoff ▸ ha, hi, hj⟩

theorem InRegisters.psreq (h : InRegisters s d a n off) (hf : findReg a = some (reg, i, j)) (ho : reg.off = F.STL_PSREQ.off) :
    a = fldAddr d F.STL_PSREQ i 0 ∧ i < 4 := by
  obtain ⟨hmem, ha, hi, hj⟩ := h.located hf
  have hreg : reg = RegMap.r_STL_PSREQ := eq_of_mem_blockTable hmem ho (by decide)
  subst hreg
  obtain rfl : j = 0 := Nat.lt_one_iff.mp hj
  exact ⟨ha, hi⟩

/-- A request register is not the one that shows the role. -/
theorem shadowing_setWord_psreq {w : Word} (hi : i < 4) : (s.setWord (fldAddr d F.STL_PSREQ i 0) w).shadowing = s.shadowing := by
  have hne : fldAddr 0 F.TWN_STAT_ROLE 0 0 ≠ fldAddr d F.STL_PSREQ i 0 := by
    simp only [fldAddr, regAddr, F.TWN_STAT_ROLE, F.STL_PSREQ]
    omega
  simp only [shadowing, role, rd, word_setWord_ne s w hne]

/-- A write that is not refused and does nothing beside. -/
def Quiet (s : State) (d : Fin 8) (reg : RegD) (i : Nat) (v : Word) : Prop :=
  (reg.off ≠ F.STL_PSREQ.off ∨ v.toNat % 16 ≤ 10 ∨ s.shadowing = true) ∧ s.regRefused d reg.off i v = none ∧
    firstOf reg.off = none ∧ reg.off ∉ busyOffs

theorem regWrite_quiet (h : InRegisters s d a n off) (hf : findReg a = some (reg, i, j)) (hq : Quiet s d reg i v) :
    s.regWrite d a reg i j v = s.setWord a (s.regNext d reg i j (s.word a) v) := by
  obtain ⟨hps, hr, hfirst, hb⟩ := hq
  rw [regWrite_of_not_mem hr hfirst hb, badRequest, if_neg]
  rintro ⟨ho, hv, hs⟩
  obtain ⟨ha, hi⟩ := h.psreq hf ho
  rw [ha, shadowing_setWord_psreq hi] at hs
  rcases hps with hps | hps | hps
  · exact hps ho
  · omega
  · simp [hs] at hps

theorem coded_core (h : InRegisters s d a n off) (hf : findReg a = some (reg, i, j)) (hr : r = .app e c false)
    (hs : ¬reg.fields.any (fun g => g.safe) = true) (ho : e = 0 ∨ keyWords off = false ∧ extWords off = false)
    (hq : Quiet s d reg i v) : Coded d a reg i j f v s (s.busWrite r a n v) := by
  obtain ⟨hmem, -⟩ := h.located hf
  rw [busWrite_register_core h hf hr hs ho, regWrite_quiet h hf hq]
  exact coded_setWord (regFits_of_mem_blockTable reg hmem)

theorem coded_safe (h : InRegisters s d a n off) (hf : findReg a = some (reg, i, j)) (hr : r = .safe d)
    (hs : reg.fields.any (fun g => g.safe) = true) (hq : Quiet s d reg i v) : Coded d a reg i j f v s (s.busWrite r a n v) := by
  obtain ⟨hmem, -⟩ := h.located hf
  rw [busWrite_register_safe h hf hr hs, regWrite_quiet h hf hq]
  exact coded_setWord (regFits_of_mem_blockTable reg hmem)

/-! ## Registers that refuse a write, and rings that restart -/

/-- A request of STL_PSREQ that names no state fails (R248). -/
def PsFailed (d : Fin 8) (a : Nat) (k : Fin 4) (tgt : Nat) (s t : State) : Prop :=
  t.on d F.STL_PSTATE_REFUSED k = true ∧ t.rd d F.STL_PSTATE_REF_REQ k = tgt ∧ t.bit d F.STL_EVT_REFUSED k = true ∧
    t.psState d k = s.psState d k ∧ WritesOnly [a, fldAddr d F.STL_PSTATE_REFUSED k 0, fldAddr d F.STL_EVT_REFUSED 0 0] s t

/-- A port's state register is not the event register. -/
theorem pstate_ne_evt {f : Fld} {k : Nat} (ho : f.off = 0x100800) (h1 : f.s1 = 0x10) (h2 : f.s2 = 0) :
    fldAddr d f k 0 ≠ fldAddr d F.STL_EVT_REFUSED 0 0 := by
  simp only [fldAddr, regAddr, F.STL_EVT_REFUSED, ho, h1, h2]
  omega

theorem psFailed_psRefuse {k : Fin 4} {tgt : Nat} {w : Word} (hk : fldAddr d F.STL_PSTATE_STATE k 0 ≠ a) (ht : tgt < 16) :
    PsFailed d a k tgt s ((s.setWord a w).psRefuse d k tgt) := by
  have hevt : ∀ (x : State) (u : Nat) (f : Fld), f.off = 0x100800 → f.s1 = 0x10 → f.s2 = 0 →
      (x.wr d F.STL_EVT_REFUSED u).rd d f k = x.rd d f k := fun x u f ho h1 h2 =>
    rd_wr_apart _ _ _ _ _ _ _ _ _ _ (Or.inl (pstate_ne_evt ho h1 h2))
  have hreq : ∀ (x : State) (u : Nat) (f : Fld), f.lo + f.w ≤ 9 → (x.wr d F.STL_PSTATE_REF_REQ u k).rd d f k = x.rd d f k :=
    fun x u f hlo => rd_wr_apart _ _ _ _ _ _ _ _ _ _ (Or.inr (Or.inr hlo))
  unfold psRefuse PsFailed
  refine ⟨?_, ?_, bit_setBit (by decide) k.isLt, ?_, ?_⟩
  · rw [on, setBit, hevt _ _ _ rfl rfl rfl, hreq _ _ _ (by decide)]
    exact on_wr_one (by decide) rfl
  · rw [setBit, hevt _ _ _ rfl rfl rfl, rd_wr_same _ _ _ _ _ _ (by decide)]
    exact Nat.mod_eq_of_lt ht
  · rw [psState, setBit, hevt _ _ _ rfl rfl rfl, hreq _ _ _ (by decide), rd_wr_apart _ _ _ _ _ _ _ _ _ _ (Or.inr (by decide)), rd,
      word_setWord_ne _ _ hk]
    rfl
  · exact writesOnly_wr (by simp) (writesOnly_wr (List.mem_cons_of_mem _ List.mem_cons_self)
      (writesOnly_wr (List.mem_cons_of_mem _ List.mem_cons_self) (writesOnly_setWord List.mem_cons_self writesOnly_refl)))

theorem regRefused_ring {q : Fin 2} (ho : reg.off = F.ADC_RING_BASE.off ∨ reg.off = F.ADC_RING_SIZE_SIZE.off) (hi : i / 4 % 2 = q.val) :
    s.regRefused d reg.off i v = if (s.seqr d q).run != .stopped then some (s.adcErr d F.ADC_ERR_CFG_BUSY) else none := by
  have hq : (⟨i / 4 % 2, Nat.mod_lt _ (by decide)⟩ : Fin 2) = q := Fin.ext hi
  rw [regRefused, if_pos ho, hq]

/-- Both positions of a ring are reset, and only their registers written. -/
theorem ringRestart_effect (x : State) (i : Nat) :
    (x.ringRestart d F.ADC_RING_WPTR_WPTR F.ADC_RING_WRAP_WRAP i).rd d F.ADC_RING_WPTR_WPTR i = 0 ∧
      (x.ringRestart d F.ADC_RING_WPTR_WPTR F.ADC_RING_WRAP_WRAP i).rd d F.ADC_RING_WRAP_WRAP i = 0 := by
  have hne : fldAddr d F.ADC_RING_WPTR_WPTR i 0 ≠ fldAddr d F.ADC_RING_WRAP_WRAP i 0 := by
    simp only [fldAddr, regAddr, F.ADC_RING_WPTR_WPTR, F.ADC_RING_WRAP_WRAP]
    omega
  refine ⟨?_, rd_wr_same _ _ _ _ _ _ (by decide)⟩
  rw [ringRestart, rd_wr_apart _ _ _ _ _ _ _ _ _ _ (Or.inl hne)]
  exact rd_wr_same _ _ _ _ _ _ (by decide)

theorem afterWrite_ring {old new : Word} (ho : off = F.ADC_RING_BASE.off ∨ off = F.ADC_RING_SIZE_SIZE.off) :
    s.afterWrite d off i old new = s.ringRestart d F.ADC_RING_WPTR_WPTR F.ADC_RING_WRAP_WRAP i := by
  rcases ho with rfl | rfl <;> rfl

section

variable (h : InRegisters s d a n off) (hf : findReg a = some (reg, i, j)) (hr : r = .app e c false)
    (hs : ¬reg.fields.any (fun g => g.safe) = true) (hlt : off < 0x200040)

include h hf hr hs hlt

theorem psFailed_request (ho : reg.off = F.STL_PSREQ.off) (hv : 11 ≤ v.toNat % 16) (hw : s.shadowing = false) :
    PsFailed d a ⟨i % 4, Nat.mod_lt _ (by decide)⟩ (v.toNat % 16) s (s.busWrite r a n v) := by
  obtain ⟨ha, hi⟩ := h.psreq hf ho
  rw [busWrite_register_core h hf hr hs (open_of_lt hlt), regWrite_of_not_mem, badRequest, if_pos]
  · refine psFailed_psRefuse ?_ (Nat.mod_lt _ (by decide))
    rw [ha]
    simp only [fldAddr, regAddr, F.STL_PSTATE_STATE, F.STL_PSREQ]
    omega
  · rw [ha, shadowing_setWord_psreq hi]
    exact ⟨ho, hv, hw⟩
  · rw [ho]
    rfl
  · rw [ho]
    decide
  · rw [ho]
    decide

/-- FIRST clears with the last event bit of ADC_ERR. -/
theorem adcErr_cleared (ho : reg.off = F.ADC_ERR_FIRST.off)
    (hv : ∀ g ∈ reg.fields, g.acc = .w1c → bitsOf v.toNat g.lo g.w = 2 ^ g.w - 1) :
    (s.busWrite r a n v).rd d F.ADC_ERR_FIRST = 0 ∧ WritesOnly [a] s (s.busWrite r a n v) := by
  obtain ⟨hmem, ha, hi, hj⟩ := h.located hf
  have hfit := regFits_of_mem_blockTable reg hmem
  have hreg : reg = RegMap.r_ADC_ERR := eq_of_mem_blockTable hmem ho (by decide)
  have hrow : ∀ g : FieldD, hasRow reg.off g.lo i j = false := fun g => by
    rw [ho]
    rfl
  have hzero : reg.fields.all (fun x => x.acc != .w1c || bitsOf (s.regNext d reg i j (s.word a) v).toNat x.lo x.w == 0) = true := by
    refine List.all_eq_true.mpr fun g hg => ?_
    cases hacc : g.acc == .w1c with
    | false => rw [bne, hacc]; rfl
    | true =>
      have hacc' := eq_of_beq hacc
      rw [bitsOf_regNext hfit hg, fieldNext_w1c (hrow g) hacc', hv g hg hacc', Nat.sub_self]
      simp
  have hfirst : firstOf reg.off = some F.ADC_ERR_FIRST := by
    rw [ho]
    rfl
  have hrefused : s.regRefused d reg.off i v = none := by
    rw [ho]
    rfl
  have hclr : reg.off ≠ F.DIE_ERR_CLR.off ∧ reg.off ≠ F.SMW_EARLY_READ_CLR.off ∧ reg.off ∉ busyOffs ∧
      reg.off ≠ F.STL_PSREQ.off := by
    rw [ho]
    decide
  obtain ⟨h1, h2, h3, h4⟩ := hclr
  have haddr : fldAddr d F.ADC_ERR_FIRST 0 0 = a := by
    subst hreg
    obtain rfl : i = 0 := Nat.lt_one_iff.mp hi
    obtain rfl : j = 0 := Nat.lt_one_iff.mp hj
    exact ha.symm
  rw [busWrite_register_core h hf hr hs (open_of_lt hlt)]
  simp only [regWrite, hrefused, firstClear, hfirst, if_pos hzero, clrBits_of_ne h1 h2, afterWrite_of_not_mem h3, badRequest_of_ne h4]
  exact ⟨rd_wr_same _ _ _ _ _ _ (by decide), writesOnly_wr (List.mem_singleton.mpr haddr)
    (writesOnly_setWord (List.mem_singleton.mpr rfl) writesOnly_refl)⟩

/-- A ring register of a running sequencer keeps its word (R141). -/
theorem ringBase_busy {q : Fin 2} (ho : reg.off = F.ADC_RING_BASE.off) (hi : i / 4 % 2 = q.val)
    (hq : (s.seqr d q).run ≠ .stopped) :
    (s.busWrite r a n v).word a = s.word a ∧ (s.busWrite r a n v).on d F.ADC_ERR_CFG_BUSY = true ∧
      WritesOnly [fldAddr d F.ADC_ERR_CFG_BUSY 0 0] s (s.busWrite r a n v) := by
  have he : s.busWrite r a n v = s.adcErr d F.ADC_ERR_CFG_BUSY := by
    rw [busWrite_register_core h hf hr hs (open_of_lt hlt), regWrite, regRefused_ring (Or.inl ho) hi, if_pos (bne_iff_ne.mpr hq)]
  have hw : WritesOnly [fldAddr d F.ADC_ERR_CFG_BUSY 0 0] s (s.adcErr d F.ADC_ERR_CFG_BUSY) :=
    writesOnly_raise (List.mem_singleton.mpr rfl) (List.mem_singleton.mpr rfl) writesOnly_refl
  have hne : a ∉ [fldAddr d F.ADC_ERR_CFG_BUSY 0 0] := by
    obtain ⟨-, ha, -, -⟩ := h.located hf
    rw [List.mem_singleton, ha, ho]
    simp only [fldAddr, regAddr, F.ADC_ERR_CFG_BUSY, F.ADC_RING_BASE]
    omega
  rw [he]
  exact ⟨hw.2 a hne, on_raise (by decide) rfl (by decide), hw⟩

/-- A configured ring counts from position 0. -/
theorem ring_restarts {q : Fin 2} (ho : reg.off = F.ADC_RING_BASE.off ∨ reg.off = F.ADC_RING_SIZE_SIZE.off) (hi : i / 4 % 2 = q.val)
    (hq : (s.seqr d q).run = .stopped) :
    (s.busWrite r a n v).rd d F.ADC_RING_WPTR_WPTR i = 0 ∧ (s.busWrite r a n v).rd d F.ADC_RING_WRAP_WRAP i = 0 ∧
      WritesOnly [a, fldAddr d F.ADC_RING_WPTR_WPTR i 0, fldAddr d F.ADC_RING_WRAP_WRAP i 0] s (s.busWrite r a n v) := by
  have hoff : firstOf reg.off = none ∧ reg.off ≠ F.DIE_ERR_CLR.off ∧ reg.off ≠ F.SMW_EARLY_READ_CLR.off ∧
      reg.off ≠ F.STL_PSREQ.off := by
    rcases ho with ho | ho <;> rw [ho] <;> decide
  obtain ⟨h1, h2, h3, h4⟩ := hoff
  have he : s.busWrite r a n v = (s.setWord a (s.regNext d reg i j (s.word a) v)).ringRestart d F.ADC_RING_WPTR_WPTR
      F.ADC_RING_WRAP_WRAP i := by
    rw [busWrite_register_core h hf hr hs (open_of_lt hlt), regWrite, regRefused_ring ho hi, hq]
    simp only [bne_self_eq_false, Bool.false_eq_true, if_false, firstClear_of_none h1, clrBits_of_ne h2 h3, afterWrite_ring ho,
      badRequest_of_ne h4]
  obtain ⟨hptr, hwrap⟩ := ringRestart_effect (d := d) (s.setWord a (s.regNext d reg i j (s.word a) v)) i
  rw [he]
  exact ⟨hptr, hwrap, writesOnly_wr (by simp) (writesOnly_wr (by simp) (writesOnly_setWord List.mem_cons_self writesOnly_refl))⟩

/-- A threshold out of order is refused (R429). -/
theorem threshold_refused (ho : reg.off = F.THM_LVL_LEVEL.off) (hi : i = 1)
    (hl : s.locked d reg.off = false) (hv : v.toNat % 256 ≤ s.rd d F.THM_LVL_LEVEL 0 ∨ s.rd d F.THM_LVL_LEVEL 2 ≤ v.toNat % 256) :
    (s.busWrite r a n v).on d F.THM_EVT_CFG_REFUSED = true ∧
      WritesOnly [fldAddr d F.THM_EVT_CFG_REFUSED 0 0] s (s.busWrite r a n v) := by
  have hlev : s.levelsOk d i v.toNat = false := by
    subst hi
    simp only [levelsOk, Bool.and_eq_false_iff, decide_eq_false_iff_not, if_true, if_neg (show (0 : Nat) ≠ 1 by decide),
      if_neg (show (2 : Nat) ≠ 1 by decide)]
    omega
  have href : s.regRefused d reg.off i v = some (s.wr d F.THM_EVT_CFG_REFUSED 1) := by
    rw [ho] at hl ⊢
    have h1 : ¬(F.THM_LVL_LEVEL.off = F.ADC_RING_BASE.off ∨ F.THM_LVL_LEVEL.off = F.ADC_RING_SIZE_SIZE.off) := by decide
    have h2 : ¬(F.OXE_CTX_CFG_EN.off ≤ F.THM_LVL_LEVEL.off ∧ F.THM_LVL_LEVEL.off ≤ F.OXE_CTX_DWIN_DBASE.off) := by decide
    rw [regRefused, if_neg h1, if_neg h2, if_pos rfl, hl, hlev]
    rfl
  rw [busWrite_register_core h hf hr hs (open_of_lt hlt), regWrite, href]
  exact ⟨on_wr_one (by decide) rfl, writesOnly_wr (List.mem_singleton.mpr rfl) writesOnly_refl⟩

end

end Sys2Proof.Machine.State

namespace Sys2Proof.Machine

open State

/-- Settles O57, clause by clause: the lemmas above in the order of the statement. -/
theorem busWritesAndAccessCodes : Obligations.BusWritesAndAccessCodes := by
  unfold Obligations.BusWritesAndAccessCodes
  intro s r d a n off i j v reg f e c q c0 core refused denied awake wide fits inside sram mram scratch stored vacant runs open_ here
    was put took plain named coded
  have coreOf : core ∨ r = .debug e → CoreOf e r := Or.imp_left fun hr => ⟨c, hr⟩
  refine ⟨fun h => yields_write (busWrite_asleep h), fun ha hp hw => yields_write ?_, fun hp hw => yields_write ?_,
    fun hf hi => yields_write (busWrite_bootRom hf hi.2), fun hf h0 h1 h2 h3 h4 h6 => yields_write ?_,
    fun hf hr => ⟨fun hi hd => yields_write (stored_sram hf (coreOf hr) hi hd),
      fun hi hd => yields_write (busWrite_sram_shut hf (coreOf hr) hi hd),
      fun hi hm => yields_write (stored_mram hf (coreOf hr) hi hm),
      fun hi hm hl => yields_write (busWrite_scratch hf (coreOf hr) hi hm hl)⟩,
    fun hf hi hm => yields_write (denied_memory hf hi hm),
    fun hf ho ha hn => yields_write (denied_peripheral hf ho ha hn),
    fun hw hh hd => yields_write ?_, fun hh hd h1 h2 h3 hf => ?_,
    fun hh hd hr h1 h2 h3 ho hf => yields_write (busWrite_unlisted ⟨hh, hd, h1, h2, h3⟩ hr ho hf),
    fun hh hd hr h1 h2 hl => yields_write ?_, fun hh hd hr hm => yields_write (wordStored_memory hh hd hr hm),
    fun hh hd hr hc ho hp => yields_write (busWrite_canRam_pending hh hd hr hc ho hp),
    fun hh hd hr h1 h2 h8 => yields_write (coefLow_busWrite hh hd hr h1 h2 h8),
    fun hh hd hr x h1 h4 ho => yields_write (opStored_operand hh hd hr h1 h4 ho),
    fun hh hd hr ho hg => yields_write (busWrite_opc_go hh hd hr ho hg),
    fun hh hd hr ho hg => yields_write (opStored_opc hh hd hr ho hg),
    fun hf hi hr hn hu => yields_write (busWrite_global_unlisted hf hi hr hn hu),
    fun hf hi hn => yields_write (denied_global hf hi hn)⟩
  · rw [busWrite_not_wide ha hp hw]
    exact denied_accessFault s r a
  · rw [busWrite_misaligned hp hw]
    exact ⟨on_wr_one (by decide) rfl, writesOnly_wr (List.mem_singleton.mpr rfl) writesOnly_refl⟩
  · rw [busWrite_outside hf h0 h1 h2 h3 h4 h6]
    exact denied_accessFault s r a
  · rw [busWrite_here hw hh, if_pos (Bool.not_eq_false _ ▸ hd)]
  · have hp : InRegisters s d a n off := ⟨hh, hd, h1, h2, h3⟩
    exact ⟨fun hr hs ho hq => yields_write (coded_core hp hf hr hs ho hq),
      fun hr hs hq => yields_write (coded_safe hp hf hr hs hq),
      fun hr hs => yields_write (denied_register_named hp hf hr hs),
      fun hr => yields_write (denied_register_user hp hf hr),
      fun hr hs hlt ho hv hw => yields_write (psFailed_request hp hf hr hs hlt ho hv hw),
      fun hr hs hlt ho hv => yields_write (adcErr_cleared hp hf hr hs hlt ho hv),
      fun hr hs hlt ho hi hq => yields_write (ringBase_busy hp hf hr hs hlt ho hi hq),
      fun hr hs hlt ho hi hq => yields_write (ring_restarts hp hf hr hs hlt ho hi hq),
      fun hr hs hlt ho hi hl hv => yields_write (threshold_refused hp hf hr hs hlt ho hi hl hv)⟩
  · rw [busWrite_program_refused hh hd hr h1 h2 hl]
    exact loadRefused_oxeErr s d

end Sys2Proof.Machine

/-! # The key store's requests

Sixteen operations are one: each is `keyGo` with its code. What an operation register reads after a write to another, and what the
retest of the entropy source leaves alone, stand first. -/

namespace Sys2Proof.Machine

namespace State

variable {s : State}

/-! ## Operation registers -/

@[simp] theorem opReg_setOpReg_same (b x : Nat) (v : Word) : (s.setOpReg b x v).opReg b x = v := Sparse.get_set_same ..

theorem opReg_setOpReg_ne {b x y : Nat} (v : Word) (h : y ≠ x) : (s.setOpReg b x v).opReg b y = s.opReg b y :=
  Sparse.get_set_ne _ _ _ (by omega)

/-- KEY_OPC itself is no part of a request's operands. -/
theorem keyReq_setOpReg_zero (r : Requester) (op opc : Nat) (v : Word) :
    (s.setOpReg (keyBank r) 0 v).keyReq r op opc = s.keyReq r op opc := by
  unfold keyReq
  dsimp only
  rw [opReg_setOpReg_ne v (by decide : 1 ≠ 0), opReg_setOpReg_ne v (by decide : 2 ≠ 0), opReg_setOpReg_ne v (by decide : 3 ≠ 0),
    opReg_setOpReg_ne v (by decide : 4 ≠ 0)]

/-! ## A request asked for (R35, R92) -/

/-- KEY_OPC as a request leaves it. -/
def opcWord (op opc : Nat) : Word := BitVec.ofNat 32 (opc &&& 0x3F03F) ||| BitVec.ofNat 32 (op * 256)

variable {r : Requester} {op opc : Nat}

theorem keyGo_queued (hp : (partition r).isSome = true) (hr : s.keys.root.isSome = true) (hq : s.keys.queue.length < 8) :
    s.keyGo r op opc =
      ({ s.setOpReg (keyBank r) 0 (opcWord op opc) with
          keys := { (s.setOpReg (keyBank r) 0 (opcWord op opc)).keys with queue := s.keys.queue ++ [s.keyReq r op opc] } }).setOpReg
        (keyBank r) 5 (s.opReg (keyBank r) 5 ||| 0x200) := by
  obtain ⟨p, hp⟩ := Option.isSome_iff_exists.mp hp
  obtain ⟨root, hr⟩ := Option.isSome_iff_exists.mp hr
  have hroot : (s.setOpReg (keyBank r) 0 (opcWord op opc)).keys.root.isNone = false := by simp [setOpReg, hr]
  rw [← keyReq_setOpReg_zero r op opc (opcWord op opc), ← opReg_setOpReg_ne (opcWord op opc) (by decide : 5 ≠ 0)]
  unfold keyGo
  rw [hp]
  exact (if_neg (ne_true_of_eq_false hroot)).trans (if_neg (Nat.not_le_of_lt hq))

theorem keyGo_busy (hp : (partition r).isSome = true) (hr : s.keys.root.isSome = true) (hq : 8 ≤ s.keys.queue.length) :
    s.keyGo r op opc = (s.setOpReg (keyBank r) 0 (opcWord op opc)).opFinish (keyBank r) 6 := by
  obtain ⟨p, hp⟩ := Option.isSome_iff_exists.mp hp
  obtain ⟨root, hr⟩ := Option.isSome_iff_exists.mp hr
  have hroot : (s.setOpReg (keyBank r) 0 (opcWord op opc)).keys.root.isNone = false := by simp [setOpReg, hr]
  unfold keyGo
  rw [hp]
  exact (if_neg (ne_true_of_eq_false hroot)).trans (if_pos hq)

theorem keyGo_rootless (hp : (partition r).isSome = true) (hr : s.keys.root.isSome = false) :
    s.keyGo r op opc = (s.setOpReg (keyBank r) 0 (opcWord op opc)).opFinish (keyBank r) 3 := by
  obtain ⟨p, hp⟩ := Option.isSome_iff_exists.mp hp
  have hroot : (s.setOpReg (keyBank r) 0 (opcWord op opc)).keys.root.isNone = true := by simpa [setOpReg] using hr
  unfold keyGo
  rw [hp]
  exact if_pos hroot

theorem keyGo_barred (hp : (partition r).isSome = false) :
    s.keyGo r op opc = s.accessEvent (whoDie r) (fldAddr 0 F.KEY_OPC_SLOT 0 0) (whoCode r) := by
  rw [Option.isSome_eq_false_iff, Option.isNone_iff_eq_none] at hp
  unfold keyGo
  rw [hp]

/-- What `keyGo` does in each of the four cases, which O6 states of each operation. -/
def TakesRequest (s : State) (r : Requester) (op opc : Nat) (c : Instr) : Prop :=
  ((partition r).isSome = true →
    (s.keys.root.isSome = true → s.keys.queue.length < 8 → Yields c s (fun t =>
      t.keys.queue = s.keys.queue ++ [s.keyReq r op opc] ∧
      t.opReg (keyBank r) 5 = s.opReg (keyBank r) 5 ||| 0x200 ∧
      t.keys.cache = s.keys.cache ∧ t.regs = s.regs ∧ Keeps s t)) ∧
    (s.keys.root.isSome = true → 8 ≤ s.keys.queue.length → Yields c s (fun t =>
      t.keys.queue = s.keys.queue ∧ t.opReg (keyBank r) 5 = 0x106 ∧ t.regs = s.regs ∧ Keeps s t)) ∧
    (s.keys.root.isSome = false → Yields c s (fun t =>
      t.keys.queue = s.keys.queue ∧ t.opReg (keyBank r) 5 = 0x103 ∧ t.regs = s.regs ∧ Keeps s t))) ∧
  ((partition r).isSome = false → Yields c s (fun t => t.keys = s.keys ∧ t.regs = s.regs ∧ Keeps s t))

theorem takesRequest_of_exec {c : Instr} (hc : exec c s = .next (s.keyGo r op opc)) : TakesRequest s r op opc c := by
  refine ⟨fun hp => ⟨fun hr hq => ⟨_, hc, ?_⟩, fun hr hq => ⟨_, hc, ?_⟩, fun hr => ⟨_, hc, ?_⟩⟩, fun hp => ⟨_, hc, ?_⟩⟩
  · rw [keyGo_queued hp hr hq]
    exact ⟨rfl, opReg_setOpReg_same .., rfl, rfl, rfl, rfl, rfl⟩
  · rw [keyGo_busy hp hr hq]
    exact ⟨rfl, opReg_setOpReg_same .., rfl, rfl, rfl, rfl⟩
  · rw [keyGo_rootless hp hr]
    exact ⟨rfl, opReg_setOpReg_same .., rfl, rfl, rfl, rfl⟩
  · rw [keyGo_barred hp]
    exact ⟨rfl, rfl, rfl, rfl, rfl⟩

/-! ## The next request (R35) -/

theorem keyRank_cases (q : KeyReq) : keyRank q = 0 ∨ keyRank q = 1 ∨ keyRank q = 2 := by
  unfold keyRank
  split <;> simp

theorem nextReq_ranks {l : List KeyReq} {q : KeyReq} (h : nextReq l = some q) : q ∈ l ∧ ∀ x ∈ l, keyRank q ≤ keyRank x := by
  unfold nextReq at h
  split at h
  · next safe _ hsafe =>
    cases h
    have h0 : keyRank q = 0 := by simpa using List.find?_some hsafe
    exact ⟨List.mem_of_find?_eq_some hsafe, fun x _ => by omega⟩
  · next meter hsafe hmeter =>
    cases h
    have h1 : keyRank q = 1 := by simpa using List.find?_some hmeter
    refine ⟨List.mem_of_find?_eq_some hmeter, fun x hx => ?_⟩
    have hx0 : keyRank x ≠ 0 := by simpa using List.find?_eq_none.mp hsafe x hx
    omega
  · next hsafe hmeter =>
    refine ⟨List.mem_of_head? h, fun x hx => ?_⟩
    have hx0 : keyRank x ≠ 0 := by simpa using List.find?_eq_none.mp hsafe x hx
    have hx1 : keyRank x ≠ 1 := by simpa using List.find?_eq_none.mp hmeter x hx
    have := keyRank_cases q
    have := keyRank_cases x
    omega

/-! ## A request taken up (R93, R104) -/

variable {q : KeyReq}

theorem keys_entropyRetest : (s.entropyRetest q).keys = s.keys := by
  unfold entropyRetest
  split
  · exact wr_keys ..
  · rfl

theorem keeps_entropyRetest : Keeps s (s.entropyRetest q) := by
  unfold entropyRetest
  split
  · exact ⟨wr_mem .., wr_pending .., wr_now ..⟩
  · exact ⟨rfl, rfl, rfl⟩

theorem word_entropyRetest {a : Nat} (h : a ≠ fldAddr 0 F.KEY_STAT_ENTROPY_OK 0 0) : (s.entropyRetest q).word a = s.word a := by
  unfold entropyRetest
  split
  · exact word_wr_ne _ _ _ _ _ _ _ h
  · rfl

theorem slotKey_entropyRetest (n : Nat) : (s.entropyRetest q).slotKey n = s.slotKey n := by
  have h : (s.entropyRetest q).on 0 F.KEY_SLOT_ATTR_VALID n = s.on 0 F.KEY_SLOT_ATTR_VALID n := by
    unfold on rd
    rw [word_entropyRetest]
    simp only [fldAddr, regAddr, F.KEY_SLOT_ATTR_VALID, F.KEY_STAT_ENTROPY_OK]
    omega
  unfold slotKey
  rw [h, keys_entropyRetest]

/-- The state of a request that has left the queue after the source's retest. -/
def tookUp (s : State) (q : KeyReq) : State :=
  { s.entropyRetest q with keys := { (s.entropyRetest q).keys with queue := (s.entropyRetest q).keys.queue.erase q } }

theorem keyStart_taken (hrun : s.keys.running = none) (hq : nextReq s.keys.queue = some q) :
    s.keyStart =
      if (s.entropyRetest q).reqVerdict q = 0 then
        ({ s.tookUp q with keys := { (s.tookUp q).keys with running := some (q, ((s.tookUp q).slotKey q.slot).getD []) } }).setOpReg
          (keyBank q.who) 5 ((s.tookUp q).opReg (keyBank q.who) 5 &&& 0xFFFFFDFF)
      else (s.tookUp q).opFinish (keyBank q.who) ((s.entropyRetest q).reqVerdict q) := by
  unfold keyStart
  rw [hrun, hq]
  rfl

theorem keyStart_idle (h : s.keys.running.isSome = true ∨ s.keys.queue = []) : s.keyStart = s := by
  unfold keyStart
  split
  · next q hrun hq =>
    rw [hrun] at h
    obtain h | h := h
    · cases h
    · rw [h] at hq
      cases hq
  · rfl

theorem queue_tookUp : (s.tookUp q).keys.queue = s.keys.queue.erase q := by
  unfold tookUp
  rw [keys_entropyRetest]

theorem running_tookUp : (s.tookUp q).keys.running = s.keys.running := by
  unfold tookUp
  rw [keys_entropyRetest]

theorem opReg_tookUp (b i : Nat) : (s.tookUp q).opReg b i = s.opReg b i := by
  unfold tookUp opReg
  rw [keys_entropyRetest]

theorem slotKey_tookUp (n : Nat) : (s.tookUp q).slotKey n = s.slotKey n :=
  Eq.trans rfl (slotKey_entropyRetest (q := q) n)

theorem keeps_tookUp : Keeps s (s.tookUp q) := keeps_entropyRetest (q := q)

end State

open State

/-- Settles O6: each operation is `keyGo` with its code. -/
theorem keyRequestTaken : Obligations.KeyRequestTaken := by
  unfold Obligations.KeyRequestTaken
  intro s r w e he
  have hexec : exec e.2 s = .next (s.keyGo r e.1 w.toNat) := by
    simp only [List.mem_cons, List.not_mem_nil, or_false] at he
    rcases he with rfl | rfl | rfl | rfl | rfl | rfl | rfl | rfl | rfl | rfl | rfl | rfl | rfl | rfl | rfl | rfl <;> rfl
  exact takesRequest_of_exec hexec

/-- Settles O7: `nextReq_ranks` for the order, `keyStart_taken` for what becomes of the request. -/
theorem keyRequestOrder : Obligations.KeyRequestOrder := by
  unfold Obligations.KeyRequestOrder
  intro s
  refine ⟨fun q hrun hq => ⟨nextReq_ranks hq, fun hv => ⟨_, rfl, ?_⟩, fun hv => ⟨_, rfl, ?_⟩⟩, fun h => ⟨_, rfl, keyStart_idle h⟩⟩
  · rw [keyStart_taken hrun hq, if_pos hv, ← slotKey_tookUp (q := q), ← opReg_tookUp (q := q)]
    exact ⟨rfl, queue_tookUp, opReg_setOpReg_same .., keeps_tookUp (q := q)⟩
  · rw [keyStart_taken hrun hq, if_neg hv]
    exact ⟨running_tookUp.trans hrun, queue_tookUp, opReg_setOpReg_same .., keeps_tookUp (q := q)⟩

end Sys2Proof.Machine

/-! # Reset and resets

State.reset is the state of the canonical stores. O12 and O13 speak of every state, and so also of register files that list a register
twice: the first entry is the one read, and a reset that drops it lets the second one show. -/

namespace Sys2Proof.Machine

open State

/-- A command has one outcome. -/
theorem yields_iff {c : Instr} {s u : State} {P : State → Prop} (h : exec c s = .next u) : Yields c s P ↔ P u := by
  unfold Yields
  rw [h]
  simp

theorem exec_nresetIn (s : State) : exec .nresetIn s = .next s.pwrReset := rfl

theorem exec_softwareDieReset {s : State} {d : Fin 8} (h : s.pkg.die.get d ≠ .off) :
    exec (.softwareDieReset d) s = .next (s.dieReset d false) :=
  congrArg Host.Outcome.next (if_neg h)

/-- Settles O11: the stores of `State.reset` list nothing, and every die and port stands alike. -/
theorem resetState : Obligations.ResetState := by
  unfold Obligations.ResetState
  obtain ⟨-, hpending, hbyte, hword⟩ := resetKeepsStoresCanonical
  exact ⟨hword, hbyte, by decide, by decide, rfl, rfl, hpending⟩

namespace State

/-- Reset, but for a register file that lists ADC_LANE_CAL0 of die 1 twice: as it is read, lane 0 is not retired; behind that entry
stands one with RETIRED. -/
def laneListedTwice : State :=
  { State.reset with regs := [(fldAddr 1 F.ADC_LANE_CAL_RETIRED 0 0, 0), (fldAddr 1 F.ADC_LANE_CAL_RETIRED 0 0, 2)] }

theorem laneListedTwice_retired : ∀ (d : Fin 8) (k : Fin 3), laneListedTwice.on d F.ADC_LANE_CAL_RETIRED k = false := by decide

theorem findReg_adcStat : findReg (fldAddr 1 F.ADC_STAT 0 0) = some (RegMap.r_ADC_STAT, 0, 0) := by decide

/-- A die reset retires the lane, and lanes 1 and 2 take the positions. -/
theorem dieReset_laneListedTwice : (laneListedTwice.dieReset 1 false).word (fldAddr 1 F.ADC_STAT 0 0) ≠ resetWord (fldAddr 1 F.ADC_STAT 0 0) := by
  decide +kernel

set_option maxRecDepth 2000 in
/-- So does a PWR reset. -/
theorem pwrReset_laneListedTwice : laneListedTwice.pwrReset.word (fldAddr 1 F.ADC_STAT 0 0) ≠ resetWord (fldAddr 1 F.ADC_STAT 0 0) := by
  decide +kernel

end State

/-- Refutes O12 at `laneListedTwice`: every lane of die 1 reads as not retired, and yet the reset leaves ADC_STAT of die 1 apart from
its reset value. -/
theorem not_pwrResetEffect : ¬ Obligations.PwrResetEffect := by
  unfold Obligations.PwrResetEffect
  intro h
  obtain ⟨hword, -⟩ := (yields_iff (exec_nresetIn _)).mp (h laneListedTwice .nresetIn List.mem_cons_self (by decide))
  exact pwrReset_laneListedTwice (hword _ _ _ _ findReg_adcStat (by decide) rfl (fun d k _ => laneListedTwice_retired d k))

/-- Refutes O13 at `laneListedTwice`, by the same register of the die that is reset. -/
theorem not_powerOnAndDieReset : ¬ Obligations.PowerOnAndDieReset := by
  unfold Obligations.PowerOnAndDieReset
  intro h
  obtain ⟨-, hreset, -⟩ := h laneListedTwice false false false 0 1
  obtain ⟨-, -, hword, -⟩ := (yields_iff (exec_softwareDieReset (by decide))).mp (hreset (by decide))
  exact dieReset_laneListedTwice
    (hword _ _ _ _ findReg_adcStat (by decide) (by decide) (.inl rfl) rfl (fun _ k => laneListedTwice_retired 1 k))

end Sys2Proof.Machine

/-! # What the operations of ports, safety core and fault hierarchy leave alone

The register file falls into zones: the blocks of the dies and the registers of the package. A write of an output operation stays in a
few of them. `Still` says so for one operation after another, with the typed state such operations keep. -/

namespace Sys2Proof.Machine.State

/-! ## Zones of the register file -/

/-- The block of a die register, or beyond them one zone for each register of the package. -/
def zone (a : Nat) : Nat := if a < 0x60000000 then a % 0x1000000 / 0x10000 else 0x100 + (a - 0x60000000) / 4

/-- A field whose first sixteen copies lie in the listed zones. -/
def fits (Z : List Nat) (f : Fld) : Bool :=
  Z.contains (f.off / 0x10000) && decide (f.off < 0x1000000) && decide (f.off % 0x10000 + 15 * f.s1 < 0x10000)

/-- Words outside the listed zones are as they were. -/
def Confined (Z : List Nat) (s t : State) : Prop := ∀ a, zone a ∉ Z → t.word a = s.word a

theorem zone_die {f : Fld} {d i : Nat} (hd : d < 8) (hi : i < 16) (ho : f.off < 0x1000000)
    (hs : f.off % 0x10000 + 15 * f.s1 < 0x10000) : zone (fldAddr d f i 0) = f.off / 0x10000 := by
  have hm : i * f.s1 ≤ 15 * f.s1 := Nat.mul_le_mul_right _ (by omega)
  unfold zone fldAddr regAddr
  rw [if_pos (by omega)]
  omega

theorem zone_pkg {f : Fld} : zone (fldAddr pkgDie f 0 0) = 0x100 + f.off / 4 := by
  unfold zone fldAddr regAddr pkgDie
  rw [if_neg (by omega)]
  omega

variable {s x y : State} {Z : List Nat}

theorem Confined.refl : Confined Z s s := fun _ _ => rfl

theorem Confined.trans (h : Confined Z s x) (k : Confined Z x y) : Confined Z s y := fun a ha => (k a ha).trans (h a ha)

theorem Confined.mono {Z' : List Nat} (h : Confined Z s x) (hz : Z ⊆ Z') : Confined Z' s x := fun a ha => h a (fun m => ha (hz m))

theorem Confined.rd (h : Confined Z s x) (d : Nat) (f : Fld) (i j : Nat) (hz : zone (fldAddr d f i j) ∉ Z) :
    x.rd d f i j = s.rd d f i j := by
  unfold State.rd
  rw [h _ hz]

theorem Confined.setWord (h : Confined Z s x) {a : Nat} {v : Word} (hz : zone a ∈ Z) : Confined Z s (x.setWord a v) :=
  h.trans (fun _ hb => word_setWord_ne _ _ (fun e => hb (e ▸ hz)))

theorem zone_of_fits {f : Fld} {d i : Nat} (hf : fits Z f = true) (hd : d < 8) (hi : i < 16) : zone (fldAddr d f i 0) ∈ Z := by
  simp only [fits, Bool.and_eq_true, decide_eq_true_eq, List.contains_iff_mem] at hf
  obtain ⟨⟨hz, ho⟩, hs⟩ := hf
  exact (zone_die hd hi ho hs).symm ▸ hz

theorem Confined.wr (h : Confined Z s x) {d v i : Nat} {f : Fld} (hf : fits Z f = true := by decide) (hd : d < 8 := by omega)
    (hi : i < 16 := by omega) : Confined Z s (x.wr d f v i) := h.setWord (zone_of_fits hf hd hi)

theorem Confined.wrPkg (h : Confined Z s x) {v : Nat} {f : Fld} (hf : 0x100 + f.off / 4 ∈ Z := by decide) :
    Confined Z s (x.wr pkgDie f v) := h.setWord (zone_pkg.symm ▸ hf)

/-! ## The halt of a port -/

/-- A field that lies in no port's STL_P_HALT. -/
def sparesHalt (f : Fld) : Bool :=
  decide (f.off < 0x1000000) && decide (f.off % 0x10000 + 15 * f.s1 < 0x10000) &&
    (List.range 16).all (fun i => (List.range 4).all (fun k => f.off + i * f.s1 != 0x100110 + k * 0x40))

theorem halt_ne_of_spares {f : Fld} {e i : Nat} (d : Fin 8) (k : Fin 4) (hf : sparesHalt f = true) (hi : i < 16) :
    fldAddr d F.STL_P_HALT_HALTED k 0 ≠ fldAddr e f i 0 := by
  simp only [sparesHalt, Bool.and_eq_true, decide_eq_true_eq, List.all_eq_true, List.mem_range, bne_iff_ne] at hf
  obtain ⟨⟨ho, hs⟩, hf⟩ := hf
  have hne := hf i hi k k.isLt
  have hm : i * f.s1 ≤ 15 * f.s1 := Nat.mul_le_mul_right _ (by omega)
  simp only [fldAddr, regAddr, F.STL_P_HALT_HALTED]
  omega

/-! ## What output operations keep -/

/-- The zones that outputs, roles and error registers are in: the error registers and counts of a die, acquisition, engine, safety
core, Stage Link, load switch, twin, and the package's error register. -/
def outZones : List Nat := [0x00, 0x06, 0x08, 0x0C, 0x10, 0x11, 0x21, 0x108]

/-- From `s` to `t` an output operation has run: keys, meter, images, front end, fault records, queue and package are as they were,
words outside `outZones` too; no INH cause and no halt has been taken back. -/
structure Still (s t : State) : Prop where
  words : Confined outZones s t
  keys : t.keys = s.keys
  meter : t.meter = s.meter
  lcs : t.lcs = s.lcs
  adc : t.adc = s.adc
  lsw : t.lsw = s.lsw
  faults : t.faults = s.faults
  pending : t.pending = s.pending
  pkg : t.pkg = { s.pkg with inh := t.pkg.inh }
  inh : ∀ p c, s.inhBy p c = true → t.inhBy p c = true
  halt : ∀ (d : Fin 8) (k : Fin 4), s.on d F.STL_P_HALT_HALTED k = true → t.on d F.STL_P_HALT_HALTED k = true

theorem Still.refl : Still s s := ⟨Confined.refl, rfl, rfl, rfl, rfl, rfl, rfl, rfl, rfl, fun _ _ => id, fun _ _ => id⟩

theorem Still.trans (h : Still s x) (k : Still x y) : Still s y where
  words := h.words.trans k.words
  keys := k.keys.trans h.keys
  meter := k.meter.trans h.meter
  lcs := k.lcs.trans h.lcs
  adc := k.adc.trans h.adc
  lsw := k.lsw.trans h.lsw
  faults := k.faults.trans h.faults
  pending := k.pending.trans h.pending
  pkg := k.pkg.trans (by rw [h.pkg])
  inh := fun p c hp => k.inh p c (h.inh p c hp)
  halt := fun d j hp => k.halt d j (h.halt d j hp)

/-- A change of registers and of typed state that `Still` does not speak of. -/
theorem Still.step {t : State} (h : Still s x) (hw : Confined outZones x t)
    (hh : ∀ (d : Fin 8) (k : Fin 4), x.on d F.STL_P_HALT_HALTED k = true → t.on d F.STL_P_HALT_HALTED k = true)
    (hk : t.keys = x.keys := by rfl) (hm : t.meter = x.meter := by rfl) (hl : t.lcs = x.lcs := by rfl) (ha : t.adc = x.adc := by rfl)
    (hs : t.lsw = x.lsw := by rfl) (hf : t.faults = x.faults := by rfl) (hp : t.pending = x.pending := by rfl)
    (hg : t.pkg = x.pkg := by rfl) : Still s t :=
  h.trans ⟨hw, hk, hm, hl, ha, hs, hf, hp, by rw [hg], fun p c hi => by unfold inhBy at *; rwa [hg], hh⟩

/-- A change of typed state that `Still` does not speak of. -/
theorem Still.same {t : State} (h : Still s x) (hr : t.regs = x.regs := by rfl) (hk : t.keys = x.keys := by rfl)
    (hm : t.meter = x.meter := by rfl) (hl : t.lcs = x.lcs := by rfl) (ha : t.adc = x.adc := by rfl) (hw : t.lsw = x.lsw := by rfl)
    (hf : t.faults = x.faults := by rfl) (hp : t.pending = x.pending := by rfl) (hg : t.pkg = x.pkg := by rfl) : Still s t :=
  have word (a : Nat) : t.word a = x.word a := by unfold State.word; rw [hr]
  h.step (fun a _ => word a) (fun d k hi => by unfold State.on State.rd at *; rwa [word]) hk hm hl ha hw hf hp hg

theorem Still.setHaltWord (h : Still s x) {a : Nat} {v : Word} (hz : zone a ∈ outZones)
    (hh : ∀ (d : Fin 8) (k : Fin 4), x.on d F.STL_P_HALT_HALTED k = true → (x.setWord a v).on d F.STL_P_HALT_HALTED k = true) :
    Still s (x.setWord a v) := h.step (Confined.refl.setWord hz) hh

theorem Still.setWord (h : Still s x) {a : Nat} {v : Word} (hz : zone a ∈ outZones)
    (hh : ∀ (d : Fin 8) (k : Fin 4), fldAddr d F.STL_P_HALT_HALTED k 0 ≠ a) : Still s (x.setWord a v) :=
  h.setHaltWord hz (fun d k hp => by unfold State.on State.rd at *; rwa [word_setWord_ne _ _ (hh d k)])

theorem Still.wr (h : Still s x) {d v i : Nat} {f : Fld} (hf : fits outZones f = true := by decide)
    (hh : sparesHalt f = true := by decide) (hd : d < 8 := by omega) (hi : i < 16 := by omega) : Still s (x.wr d f v i) :=
  h.setWord (zone_of_fits hf hd hi) (fun e k => halt_ne_of_spares e k hh hi)

theorem Still.wrPkg (h : Still s x) {v : Nat} {f : Fld} (hf : 0x100 + f.off / 4 ∈ outZones := by decide)
    (hh : sparesHalt f = true := by decide) : Still s (x.wr pkgDie f v) :=
  h.setWord (zone_pkg.symm ▸ hf) (fun e k => halt_ne_of_spares e k hh (by decide))

theorem Still.setBit (h : Still s x) {d k i : Nat} {f : Fld} (hf : fits outZones f = true := by decide)
    (hh : sparesHalt f = true := by decide) (hd : d < 8 := by omega) (hi : i < 16 := by omega) : Still s (x.setBit d f k i) :=
  h.wr hf hh hd hi

theorem Still.satCnt (h : Still s x) {d i : Nat} {f : Fld} (hf : fits outZones f = true := by decide)
    (hh : sparesHalt f = true := by decide) (hd : d < 8 := by omega) (hi : i < 16 := by omega) : Still s (x.satCnt d f i) :=
  h.wr hf hh hd hi

theorem Still.wrapCnt (h : Still s x) {d i : Nat} {f : Fld} (hf : fits outZones f = true := by decide)
    (hh : sparesHalt f = true := by decide) (hd : d < 8 := by omega) (hi : i < 16 := by omega) : Still s (x.wrapCnt d f i) :=
  h.wr hf hh hd hi

theorem Still.wrB (h : Still s x) {d i : Nat} {f : Fld} {b : Bool} (hf : fits outZones f = true := by decide)
    (hh : sparesHalt f = true := by decide) (hd : d < 8 := by omega) (hi : i < 16 := by omega) : Still s (x.wrB d f b i) :=
  h.wr hf hh hd hi

theorem Still.ite {c : Prop} [Decidable c] {t u : State} (ht : Still s t) (hu : Still s u) : Still s (if c then t else u) := by
  split
  · exact ht
  · exact hu

theorem Still.foldl {α : Type} (f : State → α → State) (hf : ∀ y a, Still y (f y a)) (l : List α) (h : Still s x) :
    Still s (l.foldl f x) := by
  induction l generalizing x with
  | nil => exact h
  | cons a t ih => exact ih (h.trans (hf x a))

theorem Still.onPorts {f : State → Fin 4 → State} (hf : ∀ y k, Still y (f y k)) (h : Still s x) : Still s (x.onPorts f) :=
  h.foldl f hf _

theorem Still.onUsed {f : State → Fin 8 → State} (hf : ∀ y d, Still y (f y d)) (h : Still s x) : Still s (x.onUsed f) :=
  h.foldl _ (fun y d => by split; exacts [hf y d, .refl]) _

theorem Still.log (h : Still s x) (d : Fin 8) (code cls block index count : Nat) (data : List Nat) :
    Still s (x.log d code cls block index count data) := h.same

theorem Still.info (h : Still s x) (d : Fin 8) (code block index : Nat) (data : List Nat) :
    Still s (x.info d code block index data) := h.same

/-! ## Acquisition -/

theorem Still.updAcq (h : Still s x) (d u : Fin 8) (f : AcqUnit → AcqUnit) : Still s (x.updAcq d u f) := h.same

theorem Still.setBytes (h : Still s x) (k : Nat) (l : List Byte) : Still s (x.setBytes k l) := by
  induction l generalizing x k with
  | nil => exact h
  | cons b l ih => exact ih (x := x.setByte k b) h.same (k + 1)

theorem Still.groupSettle (h : Still s x) (d u : Fin 8) : Still s (x.groupSettle d u) := by
  refine h.foldl _ (fun y g => ?_) _
  dsimp only
  have hy : Still y { y with group := upd y.group g (fun _ =>
      { wait := (y.group.get g).wait.filter (fun v => v ≠ d.val * 8 + u.val) }) } := Still.refl.same
  exact .ite (.ite hy.wr hy) .refl

theorem Still.acqSetSt (h : Still s x) (d u : Fin 8) (st : Nat) : Still s (x.acqSetSt d u st) :=
  .ite h.wr (h.wr.groupSettle d u)

theorem Still.acqRing (h : Still s x) (d u : Fin 8) (g : AcqTrig) : Still s (x.acqRing d u g) :=
  (h.acqSetSt d u 3).updAcq d u _

theorem Still.acqPut (h : Still s x) (d u : Fin 8) (v : AcqSample) : Still s (x.acqPut d u v) := by
  unfold State.acqPut
  dsimp only
  exact .updAcq (.ite (.wr (.setBytes h _ _)) (.setBytes h _ _)) _ _ _

theorem Still.acqTrigger (h : Still s x) (d u : Fin 8) (g : AcqTrig) : Still s (x.acqTrigger d u g) := by
  unfold State.acqTrigger
  refine .ite (h.acqRing d u g) (.foldl _ (fun y v => ?_) _ ((h.acqSetSt d u 3).updAcq d u _))
  exact .ite .refl (Still.refl.acqPut d u v)

theorem Still.acqAsk (h : Still s x) (d u : Fin 8) (t : Nat) : Still s (x.acqAsk d u t) := .ite (h.updAcq d u _) h

theorem Still.acqFire (h : Still s x) (d u : Fin 8) (src t : Nat) : Still s (x.acqFire d u src t) :=
  .ite h (.ite (h.acqAsk d u t) (.ite (h.acqTrigger d u _) (.ite h.satCnt h)))

theorem Still.acqEvent (h : Still s x) (d : Fin 8) (src param t : Nat) : Still s (x.acqEvent d src param t) :=
  h.foldl _ (fun _ u => .ite (Still.refl.acqFire d u src t) .refl) _

/-! ## INH, halt and frames -/

theorem inhBy_putInh (p : Fin 32) (c : Fin 12) (b : Bool) (p' : Fin 32) (c' : Fin 12) :
    (s.putInh p c b).inhBy p' c' = if p' = p ∧ c' = c then b else s.inhBy p' c' := by
  have hbit : (BitVec.ofNat 12 (2 ^ c.val)).getLsbD c'.val = decide (c' = c) := by
    simp only [BitVec.getLsbD_ofNat, Nat.testBit_two_pow, c'.isLt, decide_true, Bool.true_and, Fin.ext_iff, eq_comm]
  unfold inhBy putInh
  by_cases hp : p' = p
  · subst hp
    simp only [get_upd_same, true_and]
    cases b <;>
      simp only [Bool.false_eq_true, if_false, if_true, BitVec.getLsbD_and, BitVec.getLsbD_or, BitVec.getLsbD_not, hbit, c'.isLt] <;>
      by_cases hc : c' = c <;> simp [hc]
  · simp [get_upd_ne, hp]

theorem Still.putInh (h : Still s x) (p : Fin 32) (c : Fin 12) : Still s (x.putInh p c true) :=
  h.trans ⟨Confined.refl, rfl, rfl, rfl, rfl, rfl, rfl, rfl, rfl,
    fun p' c' hi => by rw [inhBy_putInh]; split; exacts [rfl, hi], fun _ _ => id⟩

theorem Still.setInh (h : Still s x) (p : Fin 32) (c : Fin 12) : Still s (x.setInh p c true) :=
  .ite ((h.putInh p c).acqEvent _ _ _ _) (h.putInh p c)

theorem Still.setInhDie (h : Still s x) (d : Fin 8) (c : Fin 12) : Still s (x.setInhDie d c true) :=
  (((h.setInh _ c).setInh _ c).setInh _ c).setInh _ c

theorem Still.updStl (h : Still s x) (d : Fin 8) (k : Fin 4) (f : StlPort → StlPort) : Still s (x.updStl d k f) := h.same

theorem Still.sendUrgent (h : Still s x) (d : Fin 8) (k : Fin 4) (v : Word) (ovr : Bool) : Still s (x.sendUrgent d k v ovr) :=
  h.wr.wrapCnt.updStl d k _

theorem Still.urgentNext (h : Still s x) (d : Fin 8) (k : Fin 4) : Still s (x.urgentNext d k) := by
  unfold State.urgentNext
  dsimp only
  refine .ite h ?_
  split
  · exact h.updStl d k _
  · exact ((h.updStl d k _).sendUrgent d k _ _).updStl d k _

theorem Still.queueUrgent (h : Still s x) (d : Fin 8) (k : Fin 4) (v : Word) (ovr : Bool) : Still s (x.queueUrgent d k v ovr) := by
  unfold State.queueUrgent
  dsimp only
  have hn := (h.urgentNext d k).urgentNext d k
  have hc := Still.ite (c := ((((x.urgentNext d k).urgentNext d k).link d k).urgent.isSome : Prop)) (hn.satCnt (i := k)
    (f := F.STL_P_CNT_URG_REPL) (d := d)) hn
  refine .ite h ?_
  split
  · exact .ite (hc.updStl d k _) ((hc.updStl d k _).sendUrgent d k v ovr)
  · exact .ite ((hc.updStl d k _).sendUrgent d k v ovr) (hc.updStl d k _)

theorem on_wr_apart {d v i j d' i' j' : Nat} {f g : Fld} (h : Apart d f i j d' g i' j') :
    (s.wr d f v i j).on d' g i' j' = s.on d' g i' j' := by
  unfold on
  rw [rd_wr_apart _ _ _ _ _ _ _ _ _ _ h]

/-- The halt asserted on one port takes none back from another. -/
theorem on_halt_wr_one {d e : Fin 8} {k j : Fin 4} (h : s.on e F.STL_P_HALT_HALTED j = true) :
    (s.wr d F.STL_P_HALT_HALTED 1 k).on e F.STL_P_HALT_HALTED j = true := by
  by_cases c : e = d ∧ j = k
  · obtain ⟨rfl, rfl⟩ := c
    exact on_wr_one (by decide) rfl
  · rw [on_wr_apart (Or.inl _), h]
    simp only [fldAddr, regAddr, F.STL_P_HALT_HALTED]
    omega

theorem Still.haltSet (h : Still s x) (d : Fin 8) (k : Fin 4) (src : Nat) : Still s (x.haltSet d k src) := by
  have hone : Still s (x.wr d F.STL_P_HALT_HALTED 1 k) :=
    h.setHaltWord (zone_of_fits (by decide) (by omega) (by omega)) (fun _ _ hp => on_halt_wr_one hp)
  have hsrc : Still s ((x.wr d F.STL_P_HALT_HALTED 1 k).wr d F.STL_P_HALT_SRC src k) :=
    hone.setHaltWord (zone_of_fits (by decide) (by omega) (by omega))
      (fun e j hp => (on_wr_apart (.inr (by decide))).trans hp)
  exact .ite h (hsrc.setBit.updStl d k _)

/-- The halt of a port reads 1 once it is asserted. -/
theorem on_haltSet (d : Fin 8) (k : Fin 4) (src : Nat) : (s.haltSet d k src).on d F.STL_P_HALT_HALTED k = true := by
  unfold haltSet
  split
  · assumption
  · have hone : (s.wr d F.STL_P_HALT_HALTED 1 k).on d F.STL_P_HALT_HALTED k = true := on_wr_one (by decide) rfl
    have hsrc : ((s.wr d F.STL_P_HALT_HALTED 1 k).wr d F.STL_P_HALT_SRC src k).on d F.STL_P_HALT_HALTED k = true := by
      rwa [on_wr_apart (.inr (by decide))]
    exact ((Still.refl.setBit (f := F.STL_EVT_HALTED)).updStl d k _).halt d k hsrc

theorem Still.haltAssert (h : Still s x) (d : Fin 8) (k : Fin 4) (src : Nat) : Still s (x.haltAssert d k src) :=
  .ite (h.haltSet d k src) ((h.haltSet d k src).acqEvent _ _ _ _)

theorem on_haltAssert (d : Fin 8) (k : Fin 4) (src : Nat) : (s.haltAssert d k src).on d F.STL_P_HALT_HALTED k = true := by
  unfold haltAssert
  dsimp only
  split
  · exact on_haltSet d k src
  · exact (Still.refl.acqEvent _ _ _ _).halt d k (on_haltSet d k src)

theorem Still.haltDie (h : Still s x) (d : Fin 8) (src : Nat) : Still s (x.haltDie d src) :=
  (((h.haltAssert d 0 src).haltAssert d 1 src).haltAssert d 2 src).haltAssert d 3 src

/-! ## Overrides and stops -/

theorem Still.updOvr (h : Still s x) (d : Fin 8) (k : Fin 4) (f : OvrState → OvrState) : Still s (x.updOvr d k f) := h.same

theorem Still.overrideStart (h : Still s x) (d : Fin 8) (k : Fin 4) (ramp : Option Nat) : Still s (x.overrideStart d k ramp) := by
  unfold State.overrideStart
  cases ramp with
  | none => exact (h.wr.wr.wr.wr.updOvr d k _).queueUrgent d k _ true
  | some r => exact (h.wr.wr.wr.wrB.updOvr d k _).queueUrgent d k _ true

theorem Still.updSaf (h : Still s x) (d : Fin 8) (k : Fin 4) (f : SafPort → SafPort) : Still s (x.updSaf d k f) := h.same

theorem Still.causeOn (h : Still s x) (d : Fin 8) (k : Fin 4) (c : Nat) : Still s (x.causeOn d k c) :=
  .ite h (.ite (h.updSaf d k _).wr.wr (h.updSaf d k _).wr)

theorem Still.stopMark (h : Still s x) (d : Fin 8) (k : Fin 4) (kind c : Nat) : Still s (x.stopMark d k kind c) :=
  h.wr.setBit.info d _ _ _ _

theorem Still.tripStop (h : Still s x) (d : Fin 8) (k : Fin 4) (c : Nat) : Still s (x.tripStop d k c) :=
  .ite (h.causeOn d k c)
    ((((((h.setInh _ _).haltAssert d k 1).overrideStart d k none).causeOn d k c).updSaf d k _).stopMark d k 2 c)

theorem Still.dieTrip (h : Still s x) (d : Fin 8) (c : Nat) : Still s (x.dieTrip d c) :=
  h.onPorts (fun _ k => Still.refl.tripStop d k c)

theorem Still.siteTrip (h : Still s x) (c : Nat) : Still s (x.siteTrip c) := h.onUsed (fun _ d => Still.refl.dieTrip d c)

theorem Still.degrade (h : Still s x) (d : Fin 8) (k : Fin 4) (q : Nat) : Still s (x.degrade d k q) := by
  have hu := h.updSaf d k (fun p => { p with degCauses := p.degCauses ++ [q] })
  exact .ite (h.tripStop d k 12) (.ite (hu.wr.wr.wr.setBit.updSaf d k _) hu)

/-! ## Roles and claims -/

theorem Still.setRole (h : Still s x) (r cause : Nat) : Still s (x.setRole r cause) :=
  .ite h.wr.wr (h.wr.wr.info 0 _ _ _ _)

theorem Still.twin (h : Still s x) (v : Twin) : Still s { x with twin := v } := h.same

theorem Still.latchOutputs (h : Still s x) : Still s x.latchOutputs :=
  have hd : Still s (x.onDies (fun s d => s.onPorts (fun s k => s.wr d F.SAF_OUT_LATCHED (s.soutDrive d k) k))) :=
    h.foldl _ (fun _ _ => Still.refl.onPorts (fun _ _ => Still.refl.wr)) _
  hd.twin _

theorem Still.outputsOff (h : Still s x) : Still s x.outputsOff := .ite h.latchOutputs.wr h

theorem Still.claimDrop (h : Still s x) : Still s x.claimDrop := by
  unfold State.claimDrop
  exact (Still.outputsOff (.ite (h.twin _) h)).wr

theorem Still.ownRelease (h : Still s x) : Still s x.ownRelease := .ite (h.claimDrop.setRole 3 8) h

theorem Still.toHeld (h : Still s x) (cause : Nat) : Still s (x.toHeld cause) := (h.setRole 3 cause).wr.wr.twin _

theorem Still.claimRaise (h : Still s x) : Still s x.claimRaise := h.wr.twin _

theorem Still.portsAvailable (h : Still s x) : Still s x.portsAvailable :=
  .ite h (.ite (.ite ((h.setRole 1 0).twin _).claimRaise h) h.claimRaise)

/-! ## Error registers -/

theorem Still.wrBPkg (h : Still s x) {b : Bool} {f : Fld} (hf : 0x100 + f.off / 4 ∈ outZones := by decide)
    (hh : sparesHalt f = true := by decide) : Still s (x.wrB pkgDie f b) := h.wrPkg hf hh

theorem Still.errRegs (h : Still s x) (d : Fin 8) (level block code count : Nat) (perm : Bool) :
    Still s (x.errRegs d level block code count perm) := by
  have first : Still s (if x.rd d F.DIE_ERR_FIRST = 0 then (x.wr d F.DIE_ERR_FIRST code).wr d F.DIE_ERR_BLOCK block else x) :=
    .ite h.wr.wr h
  have pkg {y : State} (hy : Still s y) : Still s (if y.rd pkgDie F.PKG_ERR_FIRST = 0 then
      (y.wr pkgDie F.PKG_ERR_FIRST code).wr pkgDie F.PKG_ERR_DIE d else y) := .ite hy.wrPkg.wrPkg hy
  unfold State.errRegs
  exact .ite (.ite h (.ite first.wr first))
    (.ite (pkg (.ite h (.ite first.wr first))).wrPkg.wrBPkg (pkg (.ite h (.ite first.wr first))))

theorem Still.fcnt (h : Still s x) (d : Fin 8) (level count : Nat) : Still s (x.fcnt d level count) :=
  .ite h.satCnt (.ite h.satCnt (.ite h.wr h))

end Sys2Proof.Machine.State

/-! # Faults: what a chip fault and a region fault leave alone -/

namespace Sys2Proof.Machine.State

variable {s x y : State}

/-- The zones of a fault's writes: those of outputs, and the presence register, in which a retired die shows. -/
def faultZones : List Nat := 0x101 :: outZones

/-- From `s` to `t` a fault may have been counted and answered: `Still` but for the fault records and where the dies stand. -/
structure Steady (s t : State) : Prop where
  words : Confined faultZones s t
  keys : t.keys = s.keys
  meter : t.meter = s.meter
  lcs : t.lcs = s.lcs
  adc : t.adc = s.adc
  pending : t.pending = s.pending
  rootLock : t.pkg.rootLock = s.pkg.rootLock
  inh : ∀ p c, s.inhBy p c = true → t.inhBy p c = true
  halt : ∀ (d : Fin 8) (k : Fin 4), s.on d F.STL_P_HALT_HALTED k = true → t.on d F.STL_P_HALT_HALTED k = true

theorem Steady.trans (h : Steady s x) (k : Steady x y) : Steady s y where
  words := h.words.trans k.words
  keys := k.keys.trans h.keys
  meter := k.meter.trans h.meter
  lcs := k.lcs.trans h.lcs
  adc := k.adc.trans h.adc
  pending := k.pending.trans h.pending
  rootLock := k.rootLock.trans h.rootLock
  inh := fun p c hp => k.inh p c (h.inh p c hp)
  halt := fun d j hp => k.halt d j (h.halt d j hp)

theorem Still.steady (h : Still s x) : Steady s x where
  words := h.words.mono (List.subset_cons_self ..)
  keys := h.keys
  meter := h.meter
  lcs := h.lcs
  adc := h.adc
  pending := h.pending
  rootLock := by rw [h.pkg]
  inh := h.inh
  halt := h.halt

theorem Steady.refl : Steady s s := Still.refl.steady

theorem Steady.still (h : Steady s x) (k : Still x y) : Steady s y := h.trans k.steady

/-- Fault records and the dies' places are no part of `Steady`. -/
theorem Steady.places (h : Steady s x) (v : Faults) (w : Vector DieRun 8) :
    Steady s { x with faults := v, pkg := { x.pkg with die := w } } := h.trans { Steady.refl (s := x) with }

theorem Steady.foldl {α : Type} (f : State → α → State) (hf : ∀ y a, Steady y (f y a)) (l : List α) (h : Steady s x) :
    Steady s (l.foldl f x) := by
  induction l generalizing x with
  | nil => exact h
  | cons a t ih => exact ih (h.trans (hf x a))

theorem Steady.ite {c : Prop} [Decidable c] {t u : State} (ht : Steady s t) (hu : Steady s u) : Steady s (if c then t else u) := by
  split
  · exact ht
  · exact hu

theorem Steady.portDiesOff (h : Steady s x) : Steady s x.portDiesOff :=
  h.foldl _ (fun _ d => .ite (.ite .refl ((Still.refl.setInhDie d Inh.reset).steady.places _ _)) .refl) _

/-- A die's RETIRED bit lies in a faults' zone. -/
theorem Steady.dieRetired (h : Steady s x) (k : Nat) : Steady s (x.setBit pkgDie F.PKG_DIES_RETIRED k) := by
  have hw : Confined faultZones x (x.setBit pkgDie F.PKG_DIES_RETIRED k) := Confined.refl.wrPkg
  have hh (d : Fin 8) (j : Fin 4) : fldAddr d F.STL_P_HALT_HALTED j 0 ≠ fldAddr pkgDie F.PKG_DIES_RETIRED 0 0 :=
    halt_ne_of_spares d j (by decide) (by decide)
  exact h.trans { Steady.refl (s := x) with
    words := hw
    halt := fun d j hp => (on_wr_apart (Or.inl (hh d j))).trans hp }

theorem Steady.retiredEffect (h : Steady s x) {d : Fin 8} {level block index : Nat} (hb : block ≠ 0x04) :
    Steady s (x.retiredEffect d level block index) := by
  unfold State.retiredEffect
  simp only [hb, false_and, and_false, if_false]
  by_cases hlsw : level = 1 ∧ block = 0x11 ∧ index < 12
  · rw [if_pos hlsw]
    obtain ⟨-, -, hi⟩ := hlsw
    exact h.still (Still.refl.wr.wr.wr)
  · rw [if_neg hlsw]
    exact .ite ((h.dieRetired d).still (Still.refl.setInhDie d Inh.reset) |>.places _ _)
      (.ite (Steady.portDiesOff (h.places _ _)) h)

theorem Steady.retireElem (h : Steady s x) {d : Fin 8} {level block index code count : Nat} {byCommand : Bool} {extra : Nat}
    (hb : block ≠ 0x04) : Steady s (x.retireElem d level block index code count byCommand extra) :=
  (((h.places _ x.pkg.die).still Still.refl.satCnt).retiredEffect hb).still (Still.refl.info d _ _ _ _)

/-- Fault times replaced: a counted fault changes nothing else of the fault records before it retires. -/
def withCounts (s : State) (c : List (Nat × List Nat)) : State := { s with faults := { s.faults with counts := c } }

theorem countFault_retired {d : Fin 8} {level block index code : Nat} {data : List Nat} (hr : s.isRetired d level block index = true) :
    s.countFault d level block index code data = (s, false) := by
  unfold countFault
  rw [if_pos hr]

theorem countFault_quiet {d : Fin 8} {level block index code : Nat} {data : List Nat} (hr : s.isRetired d level block index = false)
    (hq : s.inResponse d level = true) :
    s.countFault d level block index code data = (s.log d code 0 block index 0 data, false) := by
  unfold countFault
  rw [if_neg (ne_true_of_eq_false hr), if_pos hq]

/-- A fault that counts is logged and shown, and retires its element or not. -/
theorem countFault_counted {d : Fin 8} {level block index code : Nat} {data : List Nat} (hr : s.isRetired d level block index = false)
    (hq : s.inResponse d level = false) :
    ∃ c y n, Still (s.withCounts c) y ∧ (s.countFault d level block index code data = (y, false) ∨
      s.countFault d level block index code data = (y.retireElem d level block index code n false code, true)) := by
  unfold countFault
  rw [if_neg (ne_true_of_eq_false hr), if_neg (ne_true_of_eq_false hq)]
  dsimp only
  have counted (key : Nat) (times : List Nat) (cls i n : Nat) (perm : Bool) : ∃ c, Still (s.withCounts c)
      ((((s.setFaultTimes key times).log d code cls block i n data).errRegs d level block code times.length perm).fcnt d level
        times.length) := ⟨_, ((Still.refl.log d _ _ _ _ _ _).errRegs d level block code _ _).fcnt d level _⟩
  have pick {p : Prop} [Decidable p] {y z : State} :
      (if p then (z, true) else (y, false)) = (y, false) ∨ (if p then (z, true) else (y, false)) = (z, true) := by
    split
    · exact .inr rfl
    · exact .inl rfl
  exact (counted _ _ _ _ _ _).imp (fun _ hc => ⟨_, _, hc, pick⟩)

theorem Steady.countFault (h : Steady s x) {d : Fin 8} {level block index code : Nat} {data : List Nat} (hb : block ≠ 0x04) :
    Steady s (x.countFault d level block index code data).1 := by
  cases hr : x.isRetired d level block index with
  | true => rwa [countFault_retired hr]
  | false =>
    cases hq : x.inResponse d level with
    | true =>
      rw [countFault_quiet hr hq]
      exact h.still (Still.refl.log d _ _ _ _ _ _)
    | false =>
      obtain ⟨c, y, n, hy, e | e⟩ := countFault_counted (code := code) (data := data) hr hq <;> rw [e]
      · exact (h.places _ x.pkg.die).still hy
      · exact ((h.places _ x.pkg.die).still hy).retireElem hb

theorem Steady.chipFault (h : Steady s x) (code : Nat) (data : List Nat) (tampered : Bool) :
    Steady s (x.chipFault code data tampered) := by
  have stopped : Steady s ((x.countFault 0 4 0 0 code data).1.siteTrip 14).ownRelease :=
    (h.countFault (by decide)).still (Still.refl.siteTrip 14).ownRelease
  unfold State.chipFault
  refine .ite h (.ite (h.still (Still.refl.log 0 _ _ _ _ _ _)) (.ite ?_ (stopped.places _ _)))
  exact .ite (stopped.still (Still.refl.setRole 3 8)) stopped

theorem Steady.regionFault (h : Steady s x) (d : Fin 8) (code : Nat) (data : List Nat) : Steady s (x.regionFault d code data) := by
  have stopped : Steady s ((x.countFault d 3 0 0 code data).1.dieTrip d 14).ownRelease :=
    (h.countFault (by decide)).still (Still.refl.dieTrip d 14).ownRelease
  unfold State.regionFault
  exact .ite (h.chipFault _ _ _) (.ite h (.ite (h.still (Still.refl.log d _ _ _ _ _ _)) (.ite stopped (stopped.places _ _))))

end Sys2Proof.Machine.State

/-! # Loss of root lock and tampers (R18, R90) -/

namespace Sys2Proof.Machine

namespace State

variable {s x y : State}

/-! ## Loss of root lock -/

theorem inhBy_setInh (p : Fin 32) (c : Fin 12) : (s.setInh p c true).inhBy p c = true := by
  have hput : (s.putInh p c true).inhBy p c = true := by rw [inhBy_putInh]; exact if_pos ⟨rfl, rfl⟩
  unfold setInh
  dsimp only
  split
  · exact (Still.refl.acqEvent _ _ _ _).inh _ _ hput
  · exact hput

theorem inhBy_setInhDie (d : Fin 8) (k : Fin 4) (c : Fin 12) : (s.setInhDie d c true).inhBy (portOf d k) c = true := by
  unfold setInhDie
  have keep {y : State} {p : Fin 32} (j : Fin 4) (h : y.inhBy p c = true) : (y.setInh (portOf d j) c true).inhBy p c = true :=
    (Still.refl.setInh _ _).inh _ _ h
  match k with
  | 0 => exact keep 3 (keep 2 (keep 1 (inhBy_setInh ..)))
  | 1 => exact keep 3 (keep 2 (inhBy_setInh ..))
  | 2 => exact keep 3 (inhBy_setInh ..)
  | 3 => exact inhBy_setInh ..

theorem on_haltDie (d : Fin 8) (k : Fin 4) (src : Nat) : (s.haltDie d src).on d F.STL_P_HALT_HALTED k = true := by
  unfold haltDie
  have keep {y : State} {i : Fin 4} (j : Fin 4) (h : y.on d F.STL_P_HALT_HALTED i = true) :
      (y.haltAssert d j src).on d F.STL_P_HALT_HALTED i = true := (Still.refl.haltAssert d j src).halt d i h
  match k with
  | 0 => exact keep 3 (keep 2 (keep 1 (on_haltAssert ..)))
  | 1 => exact keep 3 (keep 2 (on_haltAssert ..))
  | 2 => exact keep 3 (on_haltAssert ..)
  | 3 => exact on_haltAssert ..

theorem Still.dieUsed (h : Still s x) (d : Nat) : x.dieUsed d = s.dieUsed d := by
  unfold State.dieUsed State.present bit
  rw [h.words.rd _ _ _ _ (by decide), h.words.rd _ _ _ _ (by decide)]

/-- What an operation achieves for a die in use, and output operations keep, holds after it has run on every die in use. -/
theorem onUsed_each {f : State → Fin 8 → State} {d : Fin 8} {P : State → Prop} (hf : ∀ y e, Still y (f y e)) (hd : s.dieUsed d = true)
    (hdo : ∀ y, P (f y d)) (hkeep : ∀ y z, Still y z → P y → P z) : P (s.onUsed f) := by
  obtain ⟨l, r, hl⟩ := List.append_of_mem (List.mem_finRange d)
  have hstep (y : State) (e : Fin 8) : Still y (if y.dieUsed e = true then f y e else y) := .ite (hf y e) .refl
  have hused := (Still.refl (s := s).foldl _ hstep l).dieUsed d
  unfold onUsed onDies
  rw [hl, List.foldl_append, List.foldl_cons, if_pos (hused.trans hd)]
  exact hkeep _ _ (Still.refl.foldl _ hstep r) (hdo _)

/-- Every port of a die driven by loss of root lock and halted. -/
def lockLost (s : State) (d : Fin 8) : State := (s.setInhDie d Inh.rootLock true).haltDie d 1

theorem Still.lockLost (h : Still s x) (d : Fin 8) : Still s (x.lockLost d) := (h.setInhDie d _).haltDie d 1

theorem rootLockLoss_eq (s : State) : s.rootLockLoss =
    (({ s with pkg := { s.pkg with rootLock := false } } : State).onUsed lockLost).chipFault 0x4001 [] false := rfl

theorem rootLockLoss_effect (s : State) : s.rootLockLoss.pkg.rootLock = false ∧ s.rootLockLoss.mem = s.mem ∧
    ∀ (d : Fin 8) (k : Fin 4), s.dieUsed d = true →
      s.rootLockLoss.inhBy (portOf d k) Inh.rootLock = true ∧ s.rootLockLoss.on d F.STL_P_HALT_HALTED k = true := by
  rw [rootLockLoss_eq]
  generalize hu : ({ s with pkg := { s.pkg with rootLock := false } } : State) = u
  have hstep (y : State) (e : Fin 8) : Still y (y.lockLost e) := Still.refl.lockLost e
  have hall : Still u (u.onUsed lockLost) := Still.refl.onUsed hstep
  have hend : Steady (u.onUsed lockLost) ((u.onUsed lockLost).chipFault 0x4001 [] false) := Steady.refl.chipFault ..
  have hcalm : Calm u ((u.onUsed lockLost).chipFault 0x4001 [] false) :=
    calm_chipFault _ _ _ (calm_onUsed _ (fun y e => calm_haltDie _ _ (calm_setInhDie _ _ _ (calm_refl y))) (calm_refl u))
  refine ⟨?_, ?_, fun d k hd => ?_⟩
  · rw [hend.rootLock, hall.pkg, ← hu]
  · rw [hcalm.1, ← hu]
  · have hdu : u.dieUsed d = true := hu ▸ hd
    exact onUsed_each (P := fun y => ∀ z, Steady y z → z.inhBy (portOf d k) Inh.rootLock = true ∧ z.on d F.STL_P_HALT_HALTED k = true)
      hstep hdu
      (fun y z hz => ⟨hz.inh _ _ ((Still.refl.haltDie d 1).inh _ _ (inhBy_setInhDie d k _)), hz.halt d k (on_haltDie d k 1)⟩)
      (fun y z hyz hy v hv => hy v (hyz.steady.trans hv)) _ hend

/-! ## Tampers -/

theorem foldl_writes {α : Type} {f : State → α → State} (hf : ∀ y a, ∃ g, f y a = { y with regs := g }) (l : List α) (s : State) :
    ∃ g, l.foldl f s = { s with regs := g } := by
  induction l generalizing s with
  | nil => exact ⟨_, rfl⟩
  | cons a t ih =>
    obtain ⟨g, hg⟩ := hf s a
    obtain ⟨g', hg'⟩ := ih (f s a)
    exact ⟨g', by rw [List.foldl_cons, hg', hg]⟩

/-- The root secret and the cache go; beside them only slot attributes change. -/
theorem zeroRoot_eq (s : State) : ∃ g, s.zeroRoot = { s with keys := { s.keys with root := none, cache := [] }, regs := g } := by
  unfold zeroRoot
  refine foldl_writes (fun y n => ?_) _ _
  split
  · exact ⟨_, rfl⟩
  · exact ⟨_, rfl⟩

/-- The tamper's part that needs no power: KEEP is reset and the cause noted and counted (R90). -/
def causeNoted (s : State) (c : TamperCause) : State := ((s.keepReset).wr 0 (tamperFld (some c)) 1).satCnt 0 F.KEY_TAMPER_COUNT

theorem causeNoted_eq (s : State) (c : TamperCause) : ∃ g, s.causeNoted c =
    { s with keys := { s.keys with root := none, cache := [] }, servo := { s.servo with rtcFrac := 0 }, regs := g } := by
  obtain ⟨g, hg⟩ := zeroRoot_eq s
  unfold causeNoted keepReset
  rw [hg]
  exact ⟨_, rfl⟩

theorem on_causeNoted (s : State) (c : TamperCause) : (s.causeNoted c).on 0 (tamperFld (some c)) = true := by
  unfold causeNoted satCnt
  cases c <;> exact (on_wr_apart (.inr (by decide))).trans (on_wr_one (by decide) rfl)

theorem rd_keepReset (s : State) : s.keepReset.rd 0 F.TSU_RTC_SEC = 0 := by
  unfold keepReset State.rd
  rw [word_setWord_ne _ _ (by decide)]
  exact rd_wr_same _ 0 F.TSU_RTC_SEC 0 0 0 (by decide)

theorem rd_causeNoted (s : State) (c : TamperCause) : (s.causeNoted c).rd 0 F.TSU_RTC_SEC = 0 := by
  have apart {f : Fld} (hf : f.off = F.KEY_TAMPER.off) (hs : f.s1 = 0) : Apart 0 f 0 0 0 F.TSU_RTC_SEC 0 0 := by
    refine .inl ?_
    simp only [fldAddr, regAddr, hf, hs, Nat.zero_mul]
    decide
  unfold causeNoted satCnt
  rw [rd_wr_apart _ _ F.KEY_TAMPER_COUNT _ _ _ _ _ _ _ (apart rfl rfl),
    rd_wr_apart _ _ (tamperFld (some c)) _ _ _ _ _ _ _ (apart (by cases c <;> rfl) (by cases c <;> rfl)), rd_keepReset]

/-- From `s` to `t` the window has been written to, and operation registers: root secret, slot cache and queue are as they were, and
every word outside the window's block. -/
structure WindowOnly (s t : State) : Prop where
  root : t.keys.root = s.keys.root
  cache : t.keys.cache = s.keys.cache
  pending : t.pending = s.pending
  words : Confined [0x22] s t

theorem WindowOnly.refl : WindowOnly s s := ⟨rfl, rfl, rfl, Confined.refl⟩

theorem WindowOnly.trans (h : WindowOnly s x) (k : WindowOnly x y) : WindowOnly s y :=
  ⟨k.root.trans h.root, k.cache.trans h.cache, k.pending.trans h.pending, h.words.trans k.words⟩

theorem WindowOnly.wr (h : WindowOnly s x) {v i : Nat} {f : Fld} (hf : fits [0x22] f = true := by decide) (hi : i < 16 := by omega) :
    WindowOnly s (x.wr 0 f v i) := ⟨h.root, h.cache, h.pending, h.words.wr hf (by decide) hi⟩

theorem WindowOnly.ite {c : Prop} [Decidable c] {t u : State} (ht : WindowOnly s t) (hu : WindowOnly s u) :
    WindowOnly s (if c then t else u) := by
  split
  · exact ht
  · exact hu

theorem WindowOnly.foldl {α : Type} (f : State → α → State) (hf : ∀ y a, WindowOnly y (f y a)) (l : List α) (h : WindowOnly s x) :
    WindowOnly s (l.foldl f x) := by
  induction l generalizing x with
  | nil => exact h
  | cons a t ih => exact ih (h.trans (hf x a))

theorem WindowOnly.setBytes (h : WindowOnly s x) (k : Nat) (l : List Byte) : WindowOnly s (x.setBytes k l) := by
  induction l generalizing x k with
  | nil => exact h
  | cons b l ih => exact ih (x := x.setByte k b) ⟨h.root, h.cache, h.pending, h.words⟩ (k + 1)

theorem WindowOnly.setMword (h : WindowOnly s x) (k : Nat) (v : Word) : WindowOnly s (x.setMword k v) := h.setBytes k _

theorem WindowOnly.smwErr (h : WindowOnly s x) (slot : Nat) {f : Fld} (hf : fits [0x22] f = true := by decide) :
    WindowOnly s (x.smwErr f slot) := by
  unfold State.smwErr State.raise
  exact WindowOnly.wr (.ite (.wr (.wr (.ite h.wr h) hf)) (.wr (.ite h.wr h) hf))

theorem WindowOnly.publish (h : WindowOnly s x) (i seq len : Nat) : WindowOnly s (x.publish i seq len) :=
  .ite h (.ite (h.setMword _ _).wr (.ite (h.setMword _ _).wr (.ite (h.setMword _ _).wr (h.setMword _ _))))

theorem WindowOnly.hostHeader (h : WindowOnly s x) (r : Requester) (i : Nat) (w : Word) : WindowOnly s (x.hostHeader r i w) :=
  .ite (h.smwErr _) (.ite (h.setMword _ _) (.ite (h.setMword _ _) (h.smwErr _)))

theorem WindowOnly.hostWrite (h : WindowOnly s x) (r : Requester) (off : Nat) (v : Word) : WindowOnly s (x.hostWrite r off v) := by
  unfold State.hostWrite
  split
  · exact h.smwErr 0
  · exact .ite (h.hostHeader r _ v) (.ite (h.smwErr _) (h.setMword _ v))

theorem WindowOnly.deviceWrite (h : WindowOnly s x) (off : Nat) (v : Word) : WindowOnly s (x.deviceWrite off v) := by
  unfold State.deviceWrite
  split
  · exact .ite (h.setMword _ v) (h.smwErr 0)
  · refine .ite (.ite ?_ (.ite (h.publish _ _ _) (.ite ?_ (h.smwErr _)))) (.ite (h.setMword _ v) (h.smwErr _))
    · exact .ite (h.setMword _ _) h
    · exact .ite (h.setMword _ _) h

theorem WindowOnly.opPut (h : WindowOnly s x) (r : Requester) (a : Nat) (l : List Byte) : WindowOnly s (x.opPut r a l) := by
  unfold State.opPut
  split
  · exact h.setBytes _ l
  · exact h.foldl _ (fun y _ => .ite (WindowOnly.refl.deviceWrite _ _) (WindowOnly.refl.hostWrite r _ _)) _
  · exact h

theorem WindowOnly.opFinish (h : WindowOnly s x) (b status : Nat) : WindowOnly s (x.opFinish b status) :=
  ⟨h.root, h.cache, h.pending, h.words⟩

/-- What an abort of the key store's requests leaves: none runs, none waits (R90). -/
theorem keyAbort_effect (s : State) : WindowOnly s s.keyAbort ∧ s.keyAbort.keys.running = none ∧ s.keyAbort.keys.queue = [] := by
  refine ⟨?_, rfl, rfl⟩
  unfold keyAbort
  dsimp only
  refine WindowOnly.trans (WindowOnly.foldl _ (fun y q => WindowOnly.refl.opFinish _ 3) _ ?_) ⟨rfl, rfl, rfl, Confined.refl⟩
  split
  · exact (WindowOnly.refl.foldl _ (fun y b => WindowOnly.refl.opPut _ _ _) _).opFinish _ 3
  · exact .refl

theorem foldl_meter {α : Type} {f : State → α → State} (hf : ∀ y a, ∃ m, f y a = { y with meter := m }) (l : List α) (s : State) :
    ∃ m, l.foldl f s = { s with meter := m } := by
  induction l generalizing s with
  | nil => exact ⟨_, rfl⟩
  | cons a t ih =>
    obtain ⟨m, hm⟩ := hf s a
    obtain ⟨m', hm'⟩ := ih (f s a)
    exact ⟨m', by rw [List.foldl_cons, hm', hm]⟩

theorem meterLog_eq (s : State) (code port : Nat) (data : List Int) : ∃ m, s.meterLog code port data = { s with meter := m } := by
  unfold meterLog
  dsimp only
  split
  · exact ⟨_, rfl⟩
  · exact ⟨_, rfl⟩

theorem tamperOn_eq (s : State) (code port : Nat) (data : List Int) : ∃ m, s.tamperOn code port data = { s with meter := m } := by
  unfold tamperOn
  split
  · exact ⟨_, rfl⟩
  · obtain ⟨m, hm⟩ := meterLog_eq (s.updMeter (fun m => { m with tampers := m.tampers ++ [(code, port)] })) code port data
    dsimp only
    rw [hm]
    unfold markNow
    exact foldl_meter (fun y p => ⟨_, rfl⟩) _ _

/-- The meter's entry of a tamper changes the meter alone, and draws a free value at most. -/
theorem meterTamper_eq (s : State) (c : Option TamperCause) : ∃ m n, s.meterTamper c = { s with meter := m, freeIdx := n } := by
  unfold meterTamper
  dsimp only
  split
  · exact (tamperOn_eq s _ _ _).imp fun m hm => ⟨_, hm⟩
  · exact (tamperOn_eq s _ _ _).imp fun m hm => ⟨_, hm⟩
  · exact (meterLog_eq s _ _ _).imp fun m hm => ⟨_, hm⟩
  · exact (meterLog_eq s.freeWord.2 _ _ _).imp fun m hm => ⟨_, hm⟩

/-- What a powered module does at a tamper, before the meter's entry (R90). -/
def tamperStop (s : State) : State :=
  let s := s.keyAbort
  let causes := [(s.word (fldAddr 0 F.KEY_TAMPER 0 0)).toNat]
  let s := if s.faults.chipRetired then s.log 0 0x4002 0 0 0xFF 0 causes else s.chipFault 0x4002 causes true
  let s := if s.on 0 F.TWN_STAT_CLAIM_OWN then s.claimDrop else s
  if s.role = 2 then s.toHeld 7 else s

theorem tamperStop_steady (s : State) : Steady s.keyAbort s.tamperStop := by
  unfold tamperStop
  have stop (causes : List Nat) : Steady s.keyAbort (if s.keyAbort.faults.chipRetired then s.keyAbort.log 0 0x4002 0 0 0xFF 0 causes
      else s.keyAbort.chipFault 0x4002 causes true) := .ite (Still.refl.log ..).steady (Steady.refl.chipFault ..)
  have drop (y : State) : Still y (if y.on 0 F.TWN_STAT_CLAIM_OWN then y.claimDrop else y) := .ite Still.refl.claimDrop .refl
  have held (y : State) : Still y (if y.role = 2 then y.toHeld 7 else y) := .ite (Still.refl.toHeld 7) .refl
  exact ((stop _).still (drop _)).still (held _)

theorem tamperAct_eq (s : State) (c : TamperCause) : ∃ m n, s.tamperAct (some c) = { s.tamperStop with meter := m, freeIdx := n } :=
  meterTamper_eq s.tamperStop (some c)

theorem tamperAct_effect (s : State) (c : TamperCause) (hon : s.on 0 (tamperFld (some c)) = true) :
    (s.tamperAct (some c)).keys.root = s.keys.root ∧ (s.tamperAct (some c)).keys.cache = s.keys.cache ∧
      (s.tamperAct (some c)).on 0 (tamperFld (some c)) = true ∧ (s.tamperAct (some c)).keys.running = none ∧
      (s.tamperAct (some c)).keys.queue = [] ∧ (s.tamperAct (some c)).pending = s.pending := by
  obtain ⟨habort, hrun, hqueue⟩ := keyAbort_effect s
  have hstop := tamperStop_steady s
  have hword : s.tamperStop.word (fldAddr 0 (tamperFld (some c)) 0 0) = s.word (fldAddr 0 (tamperFld (some c)) 0 0) :=
    (hstop.words _ (by cases c <;> decide)).trans (habort.words _ (by cases c <;> decide))
  obtain ⟨m, n, h⟩ := tamperAct_eq s c
  rw [h]
  refine ⟨?_, ?_, ?_, ?_, ?_, hstop.pending.trans habort.pending⟩
  · exact hstop.keys ▸ habort.root
  · exact hstop.keys ▸ habort.cache
  · unfold State.on State.rd at hon ⊢
    exact hword ▸ hon
  · exact hstop.keys ▸ hrun
  · exact hstop.keys ▸ hqueue

theorem pkg_causeNoted (s : State) (c : TamperCause) : (s.causeNoted c).pkg = s.pkg := by
  obtain ⟨g, hg⟩ := causeNoted_eq s c
  rw [hg]

theorem tamper_off {c : TamperCause} (h : s.pkg.die.get 0 = .off) : s.tamper c =
    { s.causeNoted c with pkg := { s.pkg with tamperPend := s.pkg.tamperPend ++ [some c] } } := by
  rw [← pkg_causeNoted s c] at h ⊢
  exact if_pos h

theorem tamper_powered {c : TamperCause} (h : s.pkg.die.get 0 ≠ .off) : s.tamper c = (s.causeNoted c).tamperAct (some c) := by
  rw [← pkg_causeNoted s c] at h
  exact if_neg h

end State

/-- Settles O16. Every port's INH and halt are asserted before the chip fault, which takes none of them back; what runs after the
zeroing of the root secret writes the window, outputs, fault records and the meter, and none of these holds KEY_TAMPER. -/
theorem rootLockAndTamper : Obligations.RootLockAndTamper := by
  unfold Obligations.RootLockAndTamper
  intro s c
  obtain ⟨g, hg⟩ := s.causeNoted_eq c
  refine ⟨⟨_, rfl, s.rootLockLoss_effect⟩, fun hoff => ⟨_, rfl, ?_⟩, fun hpow => ⟨_, rfl, ?_⟩⟩
  · have hon := s.on_causeNoted c
    have hrtc := s.rd_causeNoted c
    rw [State.tamper_off hoff]
    rw [hg] at hon hrtc ⊢
    exact ⟨rfl, rfl, hon, hrtc, rfl, rfl, rfl, rfl, rfl⟩
  · obtain ⟨hroot, hcache, hon, hrun, hqueue, hpend⟩ := State.tamperAct_effect _ c (s.on_causeNoted c)
    rw [State.tamper_powered hpow]
    rw [hg] at hroot hcache hpend
    exact ⟨hg ▸ hroot, hg ▸ hcache, hon, hrun, hqueue, hg ▸ hpend⟩

end Sys2Proof.Machine

/-! # XLINK and twin link lanes, and what a region fault leaves (R31, R32, R34, R197, R461) -/

namespace Sys2Proof.Machine

namespace State

variable {s x y : State}

/-! ## A region fault -/

/-- A die put out of service: off, its own response over. -/
def dieOff (s : State) (d : Fin 8) : State :=
  { s with pkg := { s.pkg with die := s.pkg.die.set d .off },
           faults := { s.faults with regionResp := s.faults.regionResp.set d false,
                                     regionDue := s.faults.regionDue.set d false } }

theorem retiredEffect_region (s : State) (d : Fin 8) : s.retiredEffect d 3 0 0 =
    ((s.setBit pkgDie F.PKG_DIES_RETIRED d.val).setInhDie d Inh.reset true).dieOff d := by
  unfold retiredEffect
  rw [if_neg (by decide), if_neg (by decide), if_neg (by decide), if_neg (by decide), if_pos rfl]
  rfl

/-- A port die retired as a region: its record stands, and it is off. -/
theorem retireElem_region (s : State) (d : Fin 8) (code n : Nat) : ∃ r : RetRec, r.die = d.val ∧ r.level = 3 ∧ r.block = 0 ∧ r.index = 0 ∧
    (s.retireElem d 3 0 0 code n false code).faults.retired = s.faults.retired ++ [r] ∧
    (s.retireElem d 3 0 0 code n false code).pkg.die = s.pkg.die.set d .off := by
  refine ⟨{ die := d, level := 3, block := 0, index := 0, code := code, tai := s.tai d, count := n }, rfl, rfl, rfl, rfl, ?_, ?_⟩
  all_goals
    unfold retireElem
    dsimp only [info, log]
    rw [retiredEffect_region]
    generalize hv : satCnt _ _ _ = v
    have hinh := Still.refl (s := v.setBit pkgDie F.PKG_DIES_RETIRED d.val).setInhDie d Inh.reset
    dsimp only [dieOff]
  · rw [hinh.faults, ← hv]
    rfl
  · rw [hinh.pkg, ← hv]
    rfl

theorem isRetired_of_mem {r : RetRec} {d level block index : Nat} (hl : level ≠ 4) (hr : r ∈ s.faults.retired) (h : r.die = d)
    (h1 : r.level = level) (h2 : r.block = block) (h3 : r.index = index) : s.isRetired d level block index = true := by
  unfold isRetired
  rw [if_neg hl, List.any_eq_true]
  exact ⟨r, hr, by simp [h, h1, h2, h3]⟩

theorem isRetired_congr {l : List RetRec} {d level block index : Nat} (hl : level ≠ 4) (ht : x.faults.retired = s.faults.retired ++ l)
    (hr : ∀ r ∈ l, r.level ≠ level) : x.isRetired d level block index = s.isRetired d level block index := by
  have hnone : l.any (fun r => r.die == d && r.level == level && r.block == block && r.index == index) = false := by
    rw [List.any_eq_false]
    intro r hm
    simp [hr r hm]
  unfold isRetired
  rw [if_neg hl, if_neg hl, ht, List.any_append, hnone, Bool.or_false]

/-- What a region fault of a port die does to the retirement records and to where the dies stand (R461). -/
structure RegionEffect (d : Fin 8) (s t : State) : Prop where
  faulted : RegionFaulted d t
  die : ∀ e, e ≠ d → t.pkg.die.get e = s.pkg.die.get e
  retired : ∃ l : List RetRec, t.faults.retired = s.faults.retired ++ l ∧ ∀ r ∈ l, r.level = 3

theorem regionFault_effect {d : Fin 8} (hd : d ≠ 0) (s : State) (code : Nat) (data : List Nat) :
    RegionEffect d s (s.regionFault d code data) := by
  have self : ∃ l : List RetRec, s.faults.retired = s.faults.retired ++ l ∧ ∀ r ∈ l, r.level = 3 := ⟨[], by simp⟩
  unfold regionFault
  rw [if_neg hd]
  cases hr : s.isRetired d 3 0 0 with
  | true => exact ⟨.inr (.inr hr), fun _ _ => rfl, self⟩
  | false =>
    cases hq : s.inResponse d 3 with
    | true =>
      refine ⟨?_, fun _ _ => rfl, self⟩
      have hresp : s.faults.chipResp = true ∨ s.faults.regionResp.get d = true := by simpa [inResponse] using hq
      exact hresp.elim (fun h => .inr (.inl h)) (fun h => .inl h)
    | false =>
      have stop (z : State) : Still z (z.dieTrip d 14).ownRelease := (Still.refl.dieTrip d 14).ownRelease
      obtain ⟨c, y, n, hy, e | e⟩ := countFault_counted (code := code) (data := data) hr hq
      all_goals simp only [e, if_true, if_false, Bool.false_eq_true]
      · refine ⟨.inl ?_, fun e he => ?_, [], ?_, by simp⟩
        · exact Vector.getElem_set_self ..
        · rw [(stop y).pkg, hy.pkg]
          rfl
        · rw [List.append_nil]
          exact congrArg (·.retired) ((stop y).faults.trans hy.faults)
      · obtain ⟨r, h0, h1, h2, h3, hret, hdie⟩ := retireElem_region y d code n
        have hrec : ((y.retireElem d 3 0 0 code n false code).dieTrip d 14).ownRelease.faults.retired = s.faults.retired ++ [r] := by
          rw [(stop _).faults, hret, hy.faults]
          rfl
        refine ⟨.inr (.inr (isRetired_of_mem (by decide) (r := r) (hrec ▸ by simp) h0 h1 h2 h3)), fun e he => ?_, [r], hrec, by simpa using h1⟩
        rw [(stop _).pkg, hdie, hy.pkg]
        exact Vector.getElem_set_ne _ _ (fun h => he (Fin.ext h.symm))

/-! ## A lane retired (R34) -/

/-- The zones of fault counts and error registers. -/
def errZones : List Nat := [0x00, 0x108]

theorem Confined.ite {Z : List Nat} {c : Prop} [Decidable c] {t u : State} (ht : Confined Z s t) (hu : Confined Z s u) :
    Confined Z s (if c then t else u) := by
  split
  · exact ht
  · exact hu

theorem Confined.wrBPkg {Z : List Nat} (h : Confined Z s x) {b : Bool} {f : Fld} (hf : 0x100 + f.off / 4 ∈ Z := by decide) :
    Confined Z s (x.wrB pkgDie f b) := h.wrPkg hf

/-- A change of typed state. -/
theorem Confined.same {Z : List Nat} (h : Confined Z s x) {t : State} (hr : t.regs = x.regs) : Confined Z s t := by
  intro a ha
  rw [← h a ha]
  unfold State.word
  rw [hr]

theorem Confined.satCnt {Z : List Nat} (h : Confined Z s x) {d i : Nat} {f : Fld} (hf : fits Z f = true := by decide)
    (hd : d < 8 := by omega) (hi : i < 16 := by omega) : Confined Z s (x.satCnt d f i) := h.wr hf hd hi

theorem Confined.log {Z : List Nat} (h : Confined Z s x) (d : Fin 8) (code cls block index count : Nat) (data : List Nat) :
    Confined Z s (x.log d code cls block index count data) := h

theorem Confined.info {Z : List Nat} (h : Confined Z s x) (d : Fin 8) (code block index : Nat) (data : List Nat) :
    Confined Z s (x.info d code block index data) := h

theorem Confined.errRegs (h : Confined errZones s x) (d : Fin 8) (level block code count : Nat) (perm : Bool) :
    Confined errZones s (x.errRegs d level block code count perm) := by
  have first : Confined errZones s (if x.rd d F.DIE_ERR_FIRST = 0 then (x.wr d F.DIE_ERR_FIRST code).wr d F.DIE_ERR_BLOCK block else x) :=
    .ite h.wr.wr h
  have pkg {y : State} (hy : Confined errZones s y) : Confined errZones s (if y.rd pkgDie F.PKG_ERR_FIRST = 0 then
      (y.wr pkgDie F.PKG_ERR_FIRST code).wr pkgDie F.PKG_ERR_DIE d else y) := .ite hy.wrPkg.wrPkg hy
  unfold State.errRegs
  exact .ite (.ite h (.ite first.wr first))
    (.ite ((pkg (.ite h (.ite first.wr first))).wrPkg.wrBPkg) (pkg (.ite h (.ite first.wr first))))

theorem Confined.fcnt (h : Confined errZones s x) (d : Fin 8) (level count : Nat) : Confined errZones s (x.fcnt d level count) :=
  .ite h.wr (.ite h.wr (.ite h.wr h))

/-- A lane of a link that fails is retired; the registers show it in counts and error registers. -/
theorem laneGone_effect (s : State) (d : Fin 8) {block : Nat} (lane link : Nat) (hb : block ≠ 0x04) (hb' : block ≠ 0x11) :
    Confined errZones s (s.laneGone d block lane link) ∧ ∃ r : RetRec, r.die = d.val ∧ r.level = 1 ∧ r.block = block ∧ r.index = lane ∧
      (s.laneGone d block lane link).faults.retired = s.faults.retired ++ [r] := by
  have effect (y : State) : y.retiredEffect d 1 block lane = y := by
    unfold retiredEffect
    simp [hb, hb']
  have noted : ∀ y : State, Confined errZones s y → y.faults = s.faults →
      Confined errZones s (y.retireElem d 1 block lane 0x100A 1 false 0x100A) ∧ ∃ r : RetRec, r.die = d.val ∧ r.level = 1 ∧
        r.block = block ∧ r.index = lane ∧
        (y.retireElem d 1 block lane 0x100A 1 false 0x100A).faults.retired = s.faults.retired ++ [r] := by
    intro y hy hf
    unfold retireElem
    dsimp only
    rw [effect, ← hf]
    refine ⟨Confined.info (Confined.satCnt ?_) d _ _ _ _, _, rfl, rfl, rfl, rfl, rfl⟩
    exact hy.same rfl
  unfold laneGone
  dsimp only
  split
  · exact noted _ (Confined.refl.log d _ _ _ _ _ _) rfl
  · refine noted _ (((Confined.refl.log d _ _ _ _ _ _).errRegs d _ _ _ _ _).fcnt d 1 1) ?_
    exact (((Still.refl.log d _ _ _ _ _ _).errRegs d _ _ _ _ _).fcnt d 1 1).faults

end State

end Sys2Proof.Machine

namespace Sys2Proof.Machine

namespace State

variable {s x y : State}

/-! ## Lanes of a link -/

theorem foldl_lanes_le (p : Nat → Bool) (l : List Nat) (n : Nat) :
    l.foldl (fun (n : Nat) (k : Nat) => if p k = true then n else n + 2 ^ k) n ≤ n + (l.map (2 ^ ·)).sum := by
  induction l generalizing n with
  | nil => simp
  | cons k t ih =>
    have hk : (if p k = true then n else n + 2 ^ k) ≤ n + 2 ^ k := by
      split
      · exact Nat.le_add_right ..
      · exact Nat.le_refl _
    rw [List.foldl_cons, List.map_cons, List.sum_cons, ← Nat.add_assoc]
    exact (ih _).trans (Nat.add_le_add_right hk _)

theorem xlkLanes_lt (s : State) (d : Fin 8) : s.xlkLanes d < 16 := Nat.lt_succ_of_le (foldl_lanes_le (s.isRetired d 1 0x14) (List.range 4) 0)

theorem twinLanes_lt (s : State) : s.twinLanes < 16 := Nat.lt_succ_of_le (foldl_lanes_le (s.isRetired 0 1 0x21) (List.range 4) 0)

theorem xlkLanes_congr {d : Fin 8} (h : x.faults = s.faults) : x.xlkLanes d = s.xlkLanes d := by
  unfold xlkLanes isRetired
  rw [h]

theorem twinLanes_congr (h : x.faults = s.faults) : x.twinLanes = s.twinLanes := by
  unfold twinLanes isRetired
  rw [h]

theorem rd_xlkFirst {e c d i j : Nat} {g : Fld} (h : Apart e F.XLK_ERR_FIRST 0 0 d g i j) : (s.xlkFirst e c).rd d g i j = s.rd d g i j := by
  unfold xlkFirst
  split
  · exact rd_wr_apart _ _ _ _ _ _ _ _ _ _ h
  · rfl

/-- A field of XLK_STAT lies in another register than XLK_ERR. -/
theorem apart_err_stat (d : Nat) {f g : Fld} (hf : f.off = 0x140008) (hg : g.off = 0x140004) : Apart d f 0 0 d g 0 0 := by
  refine .inl ?_
  simp only [fldAddr, regAddr, hf, hg, Nat.zero_mul]
  omega

theorem apart_stat_err (d : Nat) {f g : Fld} (hf : f.off = 0x140004) (hg : g.off = 0x140008) : Apart d f 0 0 d g 0 0 := by
  refine .inl ?_
  simp only [fldAddr, regAddr, hf, hg, Nat.zero_mul]
  omega

theorem zone_xlk (d : Fin 8) {f : Fld} (hf : f.off / 0x10000 = 0x14) (ho : f.off % 0x10000 + 15 * f.s1 < 0x10000) :
    zone (fldAddr d f 0 0) = 0x14 := (zone_die (by omega) (by omega) (by omega) ho).trans hf

/-- XLINK's lane retired, before the link is found too narrow. -/
def laneRetired (s : State) (d : Fin 8) (lane : Nat) : State := ((s.setBit d F.XLK_ERR_LANE_FAIL lane).xlkFirst d 2).laneGone d 0x14 lane d.val

theorem xlkLaneFail_eq {d : Fin 8} {lane : Nat} (hd : d ≠ 0) (hr : s.isRetired d 1 0x14 lane = false) : s.xlkLaneFail d lane =
    if laneCount ((s.laneRetired d lane).xlkLanes d) < 2 then
      ((((s.laneRetired d lane).xlkShow d).wr d F.XLK_STAT_UP 0).xlkFirst d 4).regionFault d 0x3001 [(s.laneRetired d lane).xlkLanes d]
    else (s.laneRetired d lane).xlkShow d := by
  unfold xlkLaneFail
  simp [hd, hr]
  rfl

/-- A lane's retirement in the registers of its link, and in the records. -/
theorem laneRetired_effect (s : State) (d : Fin 8) (lane : Fin 4) :
    (s.laneRetired d lane).isRetired d 1 0x14 lane = true ∧ (s.laneRetired d lane).bit d F.XLK_ERR_LANE_FAIL lane = true ∧
      (s.laneRetired d lane).on d F.XLK_STAT_UP = s.on d F.XLK_STAT_UP := by
  obtain ⟨hw, r, h0, h1, h2, h3, hret⟩ :=
    laneGone_effect ((s.setBit d F.XLK_ERR_LANE_FAIL lane).xlkFirst d 2) d (block := 0x14) lane d.val (by decide) (by decide)
  refine ⟨isRetired_of_mem (by decide) (r := r) ?_ h0 h1 h2 h3, ?_, ?_⟩
  · unfold laneRetired
    rw [hret]
    simp
  · unfold laneRetired bit
    rw [hw.rd _ _ _ _ (by rw [zone_xlk d (by decide) (by decide)]; decide), rd_xlkFirst (.inr (by decide))]
    exact bit_setBit (by decide) lane.isLt
  · unfold laneRetired on
    rw [hw.rd _ _ _ _ (by rw [zone_xlk d (by decide) (by decide)]; decide), rd_xlkFirst (apart_err_stat d rfl rfl)]
    exact congrArg (· != 0) (rd_wr_apart _ _ _ _ _ _ _ _ _ _ (apart_err_stat d rfl rfl))

/-- The lanes shown are those that are not retired; nothing else that a lane's failure shows changes. -/
theorem xlkShow_effect (s : State) (d : Fin 8) : (s.xlkShow d).rd d F.XLK_STAT_LANES_OK = s.xlkLanes d ∧
    (s.xlkShow d).rd d F.XLK_ERR_LANE_FAIL = s.rd d F.XLK_ERR_LANE_FAIL ∧ (s.xlkShow d).on d F.XLK_STAT_UP = s.on d F.XLK_STAT_UP ∧
    (s.xlkShow d).faults = s.faults := by
  unfold xlkShow wrB on
  refine ⟨?_, ?_, ?_, ?_⟩
  · rw [rd_wr_apart _ _ _ _ _ _ _ _ _ _ (.inr (by decide)), rd_wr_same _ _ _ _ _ _ (by decide)]
    exact Nat.mod_eq_of_lt (s.xlkLanes_lt d)
  · rw [rd_wr_apart _ _ _ _ _ _ _ _ _ _ (apart_stat_err d rfl rfl), rd_wr_apart _ _ _ _ _ _ _ _ _ _ (apart_stat_err d rfl rfl)]
  · rw [rd_wr_apart _ _ _ _ _ _ _ _ _ _ (.inr (by decide)), rd_wr_apart _ _ _ _ _ _ _ _ _ _ (.inr (by decide))]
  · exact (wr_faults ..).trans (wr_faults ..)

/-- What a failing lane of a port die's link does: it is retired and shown, and the link stays up on two lanes at least (R34). -/
structure LaneFailed (s t : State) (d : Fin 8) (lane : Fin 4) : Prop where
  retired : t.isRetired d 1 0x14 lane = true
  shown : t.bit d F.XLK_ERR_LANE_FAIL lane = true
  lanes : t.rd d F.XLK_STAT_LANES_OK = t.xlkLanes d
  down : laneCount (t.xlkLanes d) < 2 → t.on d F.XLK_STAT_UP = false
  up : 2 ≤ laneCount (t.xlkLanes d) → t.on d F.XLK_STAT_UP = s.on d F.XLK_STAT_UP

theorem laneFailed_of_wide {d : Fin 8} {lane : Fin 4} (hw : 2 ≤ laneCount ((s.laneRetired d lane).xlkLanes d)) :
    LaneFailed s ((s.laneRetired d lane).xlkShow d) d lane := by
  obtain ⟨hret, hbit, hup⟩ := laneRetired_effect s d lane
  obtain ⟨hlanes, herr, hup', hf⟩ := xlkShow_effect (s.laneRetired d lane) d
  have hx : ((s.laneRetired d lane).xlkShow d).xlkLanes d = (s.laneRetired d lane).xlkLanes d := xlkLanes_congr hf
  refine ⟨?_, ?_, hlanes.trans hx.symm, fun h => ?_, fun _ => hup'.trans hup⟩
  · unfold isRetired at hret ⊢
    rwa [hf]
  · unfold bit at hbit ⊢
    rwa [herr]
  · rw [hx] at h
    omega

/-- The link shown down, before the region's fault. -/
def linkDropped (s : State) (d : Fin 8) (lane : Nat) : State :=
  (((s.laneRetired d lane).xlkShow d).wr d F.XLK_STAT_UP 0).xlkFirst d 4

theorem laneFailed_of_narrow {d : Fin 8} {lane : Fin 4} (hd : d ≠ 0) (data : List Nat)
    (hw : laneCount ((s.laneRetired d lane).xlkLanes d) < 2) :
    LaneFailed s ((s.linkDropped d lane).regionFault d 0x3001 data) d lane := by
  obtain ⟨hret, hbit, hup⟩ := laneRetired_effect s d lane
  obtain ⟨hlanes, herr, hup', hf⟩ := xlkShow_effect (s.laneRetired d lane) d
  have steady : Steady (s.linkDropped d lane) ((s.linkDropped d lane).regionFault d 0x3001 data) := Steady.refl.regionFault ..
  have kept (f : Fld) (hz : f.off / 0x10000 = 0x14) (ho : f.off % 0x10000 + 15 * f.s1 < 0x10000) :
      ((s.linkDropped d lane).regionFault d 0x3001 data).rd d f = (s.linkDropped d lane).rd d f :=
    steady.words.rd _ _ _ _ (by rw [zone_xlk d hz ho]; decide)
  have hfd : (s.linkDropped d lane).faults = (s.laneRetired d lane).faults := by
    unfold linkDropped xlkFirst
    split
    · rw [wr_faults, wr_faults, hf]
    · rw [wr_faults, hf]
  obtain ⟨-, -, l, hl, hl3⟩ := regionFault_effect hd (s.linkDropped d lane) 0x3001 data
  have hsame (k : Nat) : ((s.linkDropped d lane).regionFault d 0x3001 data).isRetired d 1 0x14 k =
      (s.laneRetired d lane).isRetired d 1 0x14 k :=
    isRetired_congr (by decide) (hfd ▸ hl) (fun r hr => by rw [hl3 r hr]; decide)
  have hx : ((s.linkDropped d lane).regionFault d 0x3001 data).xlkLanes d = (s.laneRetired d lane).xlkLanes d := by
    unfold xlkLanes
    simp only [hsame]
  refine ⟨(hsame lane).trans hret, ?_, ?_, fun _ => ?_, fun h => ?_⟩
  · unfold bit at hbit ⊢
    rw [kept _ (by decide) (by decide)]
    unfold linkDropped
    rw [rd_xlkFirst (.inr (by decide)), rd_wr_apart _ _ _ _ _ _ _ _ _ _ (apart_stat_err d rfl rfl), herr]
    exact hbit
  · rw [hx, kept _ (by decide) (by decide), ← hlanes]
    unfold linkDropped
    rw [rd_xlkFirst (apart_err_stat d rfl rfl), rd_wr_apart _ _ _ _ _ _ _ _ _ _ (.inr (by decide))]
  · unfold on
    rw [kept _ (by decide) (by decide)]
    unfold linkDropped
    rw [rd_xlkFirst (apart_err_stat d rfl rfl), rd_wr_same _ _ _ _ _ _ (by decide)]
    rfl
  · rw [hx] at h
    omega

theorem xlkLaneFail_effect {d : Fin 8} {lane : Fin 4} (hd : d ≠ 0) (hr : s.isRetired d 1 0x14 lane = false) :
    LaneFailed s (s.xlkLaneFail d lane) d lane := by
  rw [xlkLaneFail_eq hd hr]
  split
  · next h => exact laneFailed_of_narrow hd _ h
  · next h => exact laneFailed_of_wide (by omega)

/-! ## The twin link's lanes -/

theorem linkUp_wr {f : Fld} {v : Nat} (h : Apart 0 f 0 0 0 F.TWN_STAT_LINK_UP 0 0) : (s.wr 0 f v).linkUp = s.linkUp := on_wr_apart h

theorem linkUp_setRole (r cause : Nat) : (s.setRole r cause).linkUp = s.linkUp := by
  have h : ((s.wr 0 F.TWN_STAT_ROLE r).wr 0 F.TWN_STAT_HELD_CAUSE cause).linkUp = s.linkUp := by
    rw [linkUp_wr (.inr (by decide)), linkUp_wr (.inr (by decide))]
  unfold setRole
  dsimp only
  split
  · exact h
  · exact h

theorem linkUp_toHeld (cause : Nat) : (s.toHeld cause).linkUp = s.linkUp := by
  have h : (((s.setRole 3 cause).wr 0 F.TWN_STAT_SYNCED 0).wr 0 F.TWN_RESYNC_BUSY 0).linkUp = s.linkUp := by
    rw [linkUp_wr (.inl (by decide)), linkUp_wr (.inr (by decide)), linkUp_setRole]
  exact h

theorem linkUp_twnEvt {f : Fld} (h : Apart 0 f 0 0 0 F.TWN_STAT_LINK_UP 0 0) : (s.twnEvt f).linkUp = s.linkUp := by
  unfold twnEvt State.raise
  dsimp only
  split
  · rw [linkUp_wr (.inl (by decide)), linkUp_wr h]
  · exact linkUp_wr h

theorem linkUp_same (h : x.regs = s.regs) : x.linkUp = s.linkUp := by
  unfold linkUp on rd word
  rw [h]

/-- What the link's fall takes with it, once LINK_UP reads 0. -/
def linkLoose (s : State) : State :=
  let s := (s.setCache 3 none).setSlotAttr 3 0
  let s : State := { s with servo := { s.servo with peer := none } }
  let s := s.updTwin (fun t => { t with peerFlags := (false, false, false), planned := 0 })
  if s.on 0 F.TWN_RESYNC_BUSY then s.toHeld 4 else s

theorem linkFall_eq (s : State) : s.linkFall =
    (((s.wr 0 F.TWN_STAT_LINK_UP 0).wr 0 F.TWN_STAT_LANES_OK 0).twnEvt F.TWN_EVT_LINK_DOWN).linkLoose := rfl

theorem linkUp_linkLoose (s : State) : s.linkLoose.linkUp = s.linkUp := by
  have hslot : ((s.setCache 3 none).setSlotAttr 3 0).linkUp = s.linkUp := by
    unfold linkUp on rd setSlotAttr
    rw [word_setWord_ne _ _ (by decide)]
    rfl
  unfold linkLoose
  generalize (s.setCache 3 none).setSlotAttr 3 0 = z at hslot ⊢
  dsimp only
  split
  · rw [linkUp_toHeld]
    exact (linkUp_same rfl).trans hslot
  · exact (linkUp_same rfl).trans hslot

theorem linkUp_linkFall (s : State) : s.linkFall.linkUp = false := by
  rw [linkFall_eq, linkUp_linkLoose, linkUp_twnEvt (.inl (by decide)), linkUp_wr (.inr (by decide))]
  unfold linkUp on
  rw [rd_wr_same _ _ _ _ _ _ (by decide)]
  rfl

theorem linkUp_linkDown (s : State) : s.linkDown.linkUp = false := by
  unfold linkDown
  split
  · next h => simpa using h
  · dsimp only
    split
    · rw [linkUp_setRole, linkUp_linkFall]
    · split
      · rw [linkUp_toHeld, linkUp_linkFall]
      · exact linkUp_linkFall s

theorem faults_linkFall (s : State) : s.linkFall.faults = s.faults := by
  have hraise (z : State) : (z.twnEvt F.TWN_EVT_LINK_DOWN).faults = z.faults := by
    unfold twnEvt State.raise
    dsimp only
    split
    · rw [wr_faults, wr_faults]
    · rw [wr_faults]
  have hloose (z : State) : z.linkLoose.faults = z.faults := by
    unfold linkLoose
    dsimp only
    split
    · rw [(Still.refl.toHeld 4).faults]
      rfl
    · rfl
  rw [linkFall_eq, hloose, hraise, wr_faults, wr_faults]

theorem faults_linkDown (s : State) : s.linkDown.faults = s.faults := by
  unfold linkDown
  split
  · rfl
  · dsimp only
    split
    · rw [(Still.refl.setRole 0 0).faults, faults_linkFall]
    · split
      · rw [(Still.refl.toHeld 4).faults, faults_linkFall]
      · exact faults_linkFall s

theorem twinLaneFail_effect {lane : Fin 4} (hr : s.isRetired 0 1 0x21 lane = false) :
    (s.twinLaneFail lane).isRetired 0 1 0x21 lane = true ∧
      (laneCount (s.twinLaneFail lane).twinLanes < 2 → (s.twinLaneFail lane).linkUp = false) ∧
      (2 ≤ laneCount (s.twinLaneFail lane).twinLanes → s.linkUp = true →
        (s.twinLaneFail lane).linkUp = true ∧ (s.twinLaneFail lane).rd 0 F.TWN_STAT_LANES_OK = (s.twinLaneFail lane).twinLanes) := by
  obtain ⟨hw, r, h0, h1, h2, h3, hret⟩ := laneGone_effect s 0 (block := 0x21) lane 8 (by decide) (by decide)
  have hgone : (s.laneGone 0 0x21 lane 8).isRetired 0 1 0x21 lane = true :=
    isRetired_of_mem (by decide) (r := r) (hret ▸ by simp) h0 h1 h2 h3
  have hlink : (s.laneGone 0 0x21 lane 8).linkUp = s.linkUp := congrArg (· != 0) (hw.rd _ _ _ _ (by decide))
  generalize hy : s.laneGone 0 0x21 lane 8 = y at hgone hlink
  have hshow : ∃ z, z = (if y.linkUp then y.wr 0 F.TWN_STAT_LANES_OK y.twinLanes else y) ∧ z.faults = y.faults ∧ z.linkUp = y.linkUp ∧
      (y.linkUp = true → z.rd 0 F.TWN_STAT_LANES_OK = y.twinLanes) := by
    refine ⟨_, rfl, ?_⟩
    split
    · refine ⟨wr_faults .., linkUp_wr (.inr (by decide)), fun _ => ?_⟩
      rw [rd_wr_same _ _ _ _ _ _ (by decide)]
      exact Nat.mod_eq_of_lt y.twinLanes_lt
    · next h => exact ⟨rfl, rfl, fun h' => absurd h' h⟩
  obtain ⟨z, hz, hzf, hzl, hzo⟩ := hshow
  have heq : s.twinLaneFail lane = if laneCount y.twinLanes < 2 then z.linkDown else z := by
    unfold twinLaneFail
    rw [if_neg (ne_true_of_eq_false hr), hy, hz]
  have hf : (s.twinLaneFail lane).faults = y.faults := by
    rw [heq]
    split
    · rw [faults_linkDown, hzf]
    · exact hzf
  have ht : (s.twinLaneFail lane).twinLanes = y.twinLanes := twinLanes_congr hf
  rw [ht]
  refine ⟨?_, fun h => ?_, fun h hup => ?_⟩
  · unfold isRetired at hgone ⊢
    rwa [hf]
  · rw [heq, if_pos h]
    exact linkUp_linkDown z
  · rw [heq, if_neg (by omega)]
    exact ⟨by rw [hzl, hlink, hup], hzo (hlink.trans hup)⟩

/-! ## Words of the link -/

/-- Messages sent and received, byte memory, queue and clock are as they were. -/
structure MessagesKept (s t : State) : Prop where
  sendq : ∀ e : Fin 8, (t.oxe.get e).sendq = (s.oxe.get e).sendq
  remote : ∀ e : Fin 8, (t.oxe.get e).remote = (s.oxe.get e).remote
  keeps : Keeps s t

theorem MessagesKept.refl : MessagesKept s s := ⟨fun _ => rfl, fun _ => rfl, rfl, rfl, rfl⟩

theorem MessagesKept.trans (h : MessagesKept s x) (k : MessagesKept x y) : MessagesKept s y :=
  ⟨fun e => (k.sendq e).trans (h.sendq e), fun e => (k.remote e).trans (h.remote e), k.keeps.1.trans h.keeps.1,
    k.keeps.2.1.trans h.keeps.2.1, k.keeps.2.2.trans h.keeps.2.2⟩

theorem MessagesKept.updCtx (d n : Fin 8) (f : CtxState → CtxState) : MessagesKept s (s.updCtx d n f) := by
  have get (e : Fin 8) : ((s.updCtx d n f).oxe.get e).sendq = (s.oxe.get e).sendq ∧
      ((s.updCtx d n f).oxe.get e).remote = (s.oxe.get e).remote := by
    unfold State.updCtx State.updOxe
    by_cases he : e = d
    · subst he
      rw [get_upd_same]
      exact ⟨rfl, rfl⟩
    · rw [get_upd_ne _ _ he]
      exact ⟨rfl, rfl⟩
  exact ⟨fun e => (get e).1, fun e => (get e).2, rfl, rfl, rfl⟩

theorem MessagesKept.setWord (h : MessagesKept s x) {a : Nat} {v : Word} : MessagesKept s (x.setWord a v) :=
  ⟨h.sendq, h.remote, h.keeps⟩

theorem MessagesKept.wr (h : MessagesKept s x) {d : Nat} {f : Fld} {v i j : Nat} : MessagesKept s (x.wr d f v i j) := h.setWord

theorem Calm.keeps (h : Calm s x) : Keeps s x := ⟨h.1, h.2.1, h.2.2.1⟩

theorem MessagesKept.waitWake (d n : Fin 8) (vd outcome : Nat) : MessagesKept s (s.waitWake d n vd outcome) :=
  ((MessagesKept.updCtx d n _).trans (MessagesKept.updCtx d n _)).wr

/-- The contexts' waiting for an event is no part of what a die has sent or received. -/
theorem MessagesKept.waitEvent (d : Fin 8) (ev param : Nat) : MessagesKept s (s.waitEvent d ev param) := by
  unfold State.waitEvent
  generalize List.finRange 8 = l
  induction l generalizing s with
  | nil => exact .refl
  | cons n t ih =>
    refine MessagesKept.trans ?_ ih
    dsimp only
    split
    · split
      · exact .waitWake d n _ 1
      · exact .refl
    · exact .refl

/-- A remote word arrives (R196, R197). -/
theorem remoteSet_effect (s : State) (d : Fin 8) (i : Nat) (v : Word) :
    (∃ n, (i, v, n) ∈ ((s.remoteSet d i v).oxe.get d).remote) ∧ Keeps s (s.remoteSet d i v) ∧
      ∀ e, e ≠ d → ((s.remoteSet d i v).oxe.get e).sendq = (s.oxe.get e).sendq := by
  have kept := MessagesKept.waitEvent (s := s.updOxe d (fun o =>
    { o with remote := (o.remote.filter (fun e => e.1 != i)) ++ [(i, (v, s.tick d))] })) d 3 i
  refine ⟨⟨s.tick d, ?_⟩, kept.keeps, fun e he => ?_⟩
  · unfold remoteSet
    dsimp only
    rw [kept.remote]
    unfold updOxe
    rw [get_upd_same]
    exact List.mem_append_right _ (List.mem_singleton_self _)
  · unfold remoteSet
    dsimp only
    rw [kept.sendq]
    unfold updOxe
    rw [get_upd_ne _ _ he]

theorem on_uncorr_xlkFirst {d c : Nat} : ((s.wr d F.XLK_ERR_UNCORR 1).xlkFirst d c).on d F.XLK_ERR_UNCORR = true := by
  unfold on
  rw [rd_xlkFirst (.inr (by decide))]
  exact on_wr_one (by decide) rfl

/-- The counts of words by class lie in registers of their own. -/
theorem rd_xlkSent (d e : Fin 8) (cls n : Nat) {f : Fld} (hc : cls < 4) (hf : f.off / 0x10000 = 0x14) (ho : f.off % 0x10000 < 0x10) :
    (s.xlkSent d cls n).rd e f = s.rd e f := by
  unfold xlkSent rd
  dsimp only
  rw [word_setWord_ne]
  simp only [fldAddr, regAddr, F.XLK_CLS_CNT]
  omega

theorem calm_xlkFirst (d c : Nat) (h : Calm s x) : Calm s (x.xlkFirst d c) := by
  unfold xlkFirst
  split
  · exact calm_wr _ _ _ _ _ h
  · exact h

theorem pkg_xlkFirst (d c : Nat) : (s.xlkFirst d c).pkg = s.pkg := by
  unfold xlkFirst
  split
  · exact wr_pkg ..
  · rfl

theorem pkg_xlkSent (d : Fin 8) (cls n : Nat) : (s.xlkSent d cls n).pkg = s.pkg := setWord_pkg ..

/-! ## State words and word errors -/

theorem xlkState_good {d : Fin 8} (hd : d ≠ 0) (hu : s.xlkUp d = true) (b : Bool) (w : Word) :
    (s.xlkState d b w false).pkg.link0.get d = (if b then (w, (s.pkg.link0.get d).2) else ((s.pkg.link0.get d).1, w)) ∧
      (∀ e, e ≠ d → (s.xlkState d b w false).pkg.link0.get e = s.pkg.link0.get e) ∧ Keeps s (s.xlkState d b w false) := by
  have h : s.xlkState d b w false = { s.xlkSent (if b then d else 0) 0 1 with pkg := { s.pkg with
      link0 := upd s.pkg.link0 d (fun x => if b then (w, x.2) else (x.1, w)) } } := by
    unfold xlkState
    simp [hd, hu, pkg_xlkSent]
  rw [h]
  exact ⟨get_upd_same .., fun e he => get_upd_ne _ _ he, Calm.keeps (calm_pkg _ (calm_xlkSent _ _ _ (calm_refl s)))⟩

theorem xlkState_bad {d : Fin 8} (hd : d ≠ 0) (hu : s.xlkUp d = true) (b : Bool) (w : Word) :
    (s.xlkState d b w true).pkg = s.pkg ∧ (s.xlkState d b w true).on (if b then 0 else d.val) F.XLK_ERR_UNCORR = true ∧
      Keeps s (s.xlkState d b w true) := by
  have h : s.xlkState d b w true = ((s.xlkSent (if b then d else 0) 0 1).wr (if b then 0 else d.val) F.XLK_ERR_UNCORR 1).xlkFirst
      (if b then 0 else d.val) 1 := by
    unfold xlkState
    cases b <;> simp [hd, hu]
  rw [h]
  have hcalm := calm_xlkFirst (if b then 0 else d.val) 1
    (calm_wr (if b then 0 else d.val) F.XLK_ERR_UNCORR 1 0 0 (calm_xlkSent (if b then d else 0) 0 1 (calm_refl s)))
  refine ⟨?_, on_uncorr_xlkFirst, hcalm.keeps⟩
  rw [pkg_xlkFirst, wr_pkg, pkg_xlkSent]

theorem xlkError_effect {d : Fin 8} (hd : d ≠ 0) (hu : s.xlkUp d = true) (c : Fin 3) :
    (s.xlkError d c).on d F.XLK_ERR_UNCORR = true ∧
      (s.xlkError d c).rd d F.XLK_CRC_CNT_RETX = satInc (2 ^ F.XLK_CRC_CNT_RETX.w - 1) (s.rd d F.XLK_CRC_CNT_RETX) ∧
      (s.xlkError d c).pkg = s.pkg ∧ Keeps s (s.xlkError d c) := by
  have h : s.xlkError d c = (((s.wr d F.XLK_ERR_UNCORR 1).xlkFirst d 1).satCnt d F.XLK_CRC_CNT_RETX).xlkSent d (c + 1) 1 := by
    unfold xlkError
    simp [hd, hu]
  have apart {f g : Fld} (hf : f.off = 0x140008) (hg : g.off = 0x14000C) : Apart d f 0 0 d g 0 0 ∧ Apart d g 0 0 d f 0 0 := by
    refine ⟨.inl ?_, .inl ?_⟩
    all_goals
      simp only [fldAddr, regAddr, hf, hg, Nat.zero_mul]
      omega
  have hsat (n : Nat) (hn : n < 65536) : satInc 65535 n % 65536 = satInc 65535 n := by
    unfold satInc
    split <;> omega
  rw [h]
  refine ⟨?_, ?_, ?_, (calm_xlkSent _ _ _ (calm_satCnt _ _ _ _ (calm_xlkFirst _ _ (calm_wr _ _ _ _ _ (calm_refl s))))).keeps⟩
  · unfold on satCnt
    rw [rd_xlkSent _ _ _ _ (by omega) (by decide) (by decide), rd_wr_apart _ _ _ _ _ _ _ _ _ _ (apart rfl rfl).2]
    exact on_uncorr_xlkFirst
  · rw [rd_xlkSent _ _ _ _ (by omega) (by decide) (by decide)]
    unfold satCnt
    rw [rd_wr_same _ _ _ _ _ _ (by decide), rd_xlkFirst (apart rfl rfl).1, rd_wr_apart _ _ _ _ _ _ _ _ _ _ (apart rfl rfl).1]
    exact hsat _ (rd_lt _ _ _ _ _ (by decide))
  · unfold satCnt
    rw [pkg_xlkSent, wr_pkg, pkg_xlkFirst, wr_pkg]

/-! ## Messages -/

theorem remoteWrite_effect {src dst : Fin 8} {m : StrMsg} (hm : (s.oxe.get src).sendq.find? (fun m => m.dst == dst.val) = some m)
    (hne : src ≠ dst) (hu : s.xlkUp (if src = 0 then dst else src) = true) :
    ((s.remoteWrite src dst).oxe.get src).sendq = (s.oxe.get src).sendq.erase m ∧ Keeps s (s.remoteWrite src dst) ∧
      (s.pkg.die.get dst = .running → ∃ n, (m.word, m.value, n) ∈ ((s.remoteWrite src dst).oxe.get dst).remote) := by
  obtain ⟨y, hy⟩ : ∃ y, y = s.updOxe src (fun o => { o with sendq := o.sendq.erase m }) := ⟨_, rfl⟩
  have hsent : (y.oxe.get src).sendq = (s.oxe.get src).sendq.erase m := by
    rw [hy]
    unfold updOxe
    rw [get_upd_same]
  have hk : Keeps s y := by
    rw [hy]
    exact ⟨rfl, rfl, rfl⟩
  have hlink : MessagesKept y (y.xlkSent src 1 2) := MessagesKept.refl.setWord
  have h : s.remoteWrite src dst = if s.pkg.die.get dst = .running then (y.xlkSent src 1 2).remoteSet dst m.word m.value
      else y.xlkSent src 1 2 := by
    unfold remoteWrite
    rw [hm]
    simp [hu, hy]
  have keeps {z : State} (hz : Keeps (y.xlkSent src 1 2) z) : Keeps s z :=
    ⟨hz.1.trans (hlink.keeps.1.trans hk.1), hz.2.1.trans (hlink.keeps.2.1.trans hk.2.1), hz.2.2.trans (hlink.keeps.2.2.trans hk.2.2)⟩
  rw [h]
  split
  · obtain ⟨hmem, hset, hq⟩ := remoteSet_effect (y.xlkSent src 1 2) dst m.word m.value
    exact ⟨(hq src hne).trans ((hlink.sendq src).trans hsent), keeps hset, fun _ => hmem⟩
  · next hr => exact ⟨(hlink.sendq src).trans hsent, keeps ⟨rfl, rfl, rfl⟩, fun h' => absurd h' hr⟩

theorem remoteWrite_down {src dst : Fin 8} (hu : s.xlkUp (if src = 0 then dst else src) = false) : s.remoteWrite src dst = s := by
  unfold remoteWrite
  split
  · rfl
  · simp [hu]

end State

/-- Settles O30. -/
theorem xlinkWords : Obligations.XlinkWords := by
  unfold Obligations.XlinkWords
  intro s d src dst b w c lane
  refine ⟨fun hd hu => ⟨⟨_, rfl, State.xlkState_good hd hu b w⟩, ⟨_, rfl, State.xlkState_bad hd hu b w⟩,
      ⟨_, rfl, State.xlkError_effect hd hu c⟩⟩, fun h => ⟨_, rfl, ?_⟩, fun m hm hne => ⟨fun hu => ⟨_, rfl, State.remoteWrite_effect hm hne hu⟩,
      fun hu => ⟨_, rfl, State.remoteWrite_down hu⟩⟩, fun hr hd => ⟨_, rfl, ?_⟩, fun hr => ⟨_, rfl, State.twinLaneFail_effect hr⟩⟩
  · rcases h with rfl | h
    · rfl
    · unfold State.xlkState
      simp [h]
  · obtain ⟨hret, hbit, hlanes, hdown, hup⟩ := State.xlkLaneFail_effect hd hr
    exact ⟨hret, hbit, hlanes, hdown, hup⟩

end Sys2Proof.Machine

/-! # The start (R21, R65, R72, R308, R430 to R432) -/

namespace Sys2Proof

/-- A key whose entries are dropped reads as an unlisted one; every other key reads as before. -/
theorem Sparse.get_drop {α : Type} (dflt : Nat → α) (p : Nat → Bool) (l : List (Nat × α)) (k : Nat) :
    Sparse.get dflt (Sparse.drop p l) k = if p k = true then dflt k else Sparse.get dflt l k := by
  induction l with
  | nil => simp [drop, get]
  | cons e t ih =>
    unfold drop at ih ⊢
    by_cases he : e.1 = k
    · subst he
      cases hp : p e.1 with
      | true => simpa [List.filter_cons, hp] using ih
      | false => simp [hp, get]
    · cases hp : p e.1 with
      | true => simpa [List.filter_cons, hp, get, he] using ih
      | false => simpa [List.filter_cons, hp, get, he] using ih

namespace Machine

namespace State

variable {s x y : State}

/-! ## The wipe -/

theorem byte_zeroRange (s : State) (k n a : Nat) : (s.zeroRange k n).byte a = if k ≤ a ∧ a < k + n then 0 else s.byte a := by
  unfold byte zeroRange
  rw [Sparse.get_drop]
  simp only [Bool.and_eq_true, decide_eq_true_eq]

/-- A key of a die's host SRAM. -/
def HostKey (k : Nat) : Prop := 0x10000000 ≤ k % 0x100000000 ∧ k % 0x100000000 < 0x10200000

/-- The dies stand where they stood, and a byte of host SRAM that read zero does so still. -/
structure ZeroKept (s t : State) : Prop where
  die : t.pkg.die = s.pkg.die
  zero : ∀ k, HostKey k → s.byte k = 0 → t.byte k = 0

theorem ZeroKept.refl : ZeroKept s s := ⟨rfl, fun _ _ => id⟩

theorem ZeroKept.trans (h : ZeroKept s x) (k : ZeroKept x y) : ZeroKept s y := ⟨k.die.trans h.die, fun a ha hz => k.zero a ha (h.zero a ha hz)⟩

theorem ZeroKept.same {t : State} (h : ZeroKept s x) (hm : t.mem = x.mem := by rfl) (hd : t.pkg.die = x.pkg.die := by rfl) : ZeroKept s t :=
  h.trans ⟨hd, fun k _ hz => (byte_of_mem hm k).trans hz⟩

theorem ZeroKept.setWord (h : ZeroKept s x) {a : Nat} {v : Word} : ZeroKept s (x.setWord a v) := h.same

theorem ZeroKept.wr (h : ZeroKept s x) {d : Nat} {f : Fld} {v i j : Nat} : ZeroKept s (x.wr d f v i j) := h.setWord

theorem ZeroKept.ite {c : Prop} [Decidable c] {t u : State} (ht : ZeroKept s t) (hu : ZeroKept s u) : ZeroKept s (if c then t else u) := by
  split
  · exact ht
  · exact hu

theorem ZeroKept.foldl {α : Type} (f : State → α → State) (hf : ∀ y a, ZeroKept y (f y a)) (l : List α) (h : ZeroKept s x) :
    ZeroKept s (l.foldl f x) := by
  induction l generalizing x with
  | nil => exact h
  | cons a t ih => exact ih (h.trans (hf x a))

theorem ZeroKept.updMeter (h : ZeroKept s x) (f : Meter → Meter) : ZeroKept s (x.updMeter f) := h.same

theorem ZeroKept.keys (h : ZeroKept s x) (v : Keys) : ZeroKept s { x with keys := v } := h.same

theorem ZeroKept.lcs (h : ZeroKept s x) (v : Lcs) : ZeroKept s { x with lcs := v } := h.same

theorem ZeroKept.adc (h : ZeroKept s x) (v : Vector Adc 8) : ZeroKept s { x with adc := v } := h.same

theorem ZeroKept.cool (h : ZeroKept s x) (v : Vector Cooling 8) : ZeroKept s { x with cool := v } := h.same

theorem ZeroKept.logs (h : ZeroKept s x) (v : Vector EventLog 8) : ZeroKept s { x with logs := v } := h.same

theorem ZeroKept.zeroMram (h : ZeroKept s x) (r : Nat) : ZeroKept s (x.zeroMram r) := by
  refine h.trans ⟨rfl, fun k _ hz => ?_⟩
  unfold byte State.zeroMram at *
  rw [Sparse.get_drop]
  split
  · rfl
  · exact hz

theorem ZeroKept.clearSlot (h : ZeroKept s x) (n : Nat) : ZeroKept s (x.clearSlot n) := by
  have hattr : ZeroKept s (x.setSlotAttr n (x.emptyAttr n)) := h.setWord
  exact (hattr.wr.keys _).keys _

theorem ZeroKept.wipeM (h : ZeroKept s x) (i : Nat) : ZeroKept s (x.wipeM i) := by
  unfold State.wipeM
  split
  · exact (h.zeroMram 3).cool _
  · exact ((h.zeroMram 4).foldl _ (fun _ n => .ite (ZeroKept.refl.clearSlot n) .refl) _).keys _
  · exact (h.zeroMram 5).logs _
  · exact (h.zeroMram 6).adc _
  · exact h.zeroMram 7

theorem ZeroKept.wipeQ (h : ZeroKept s x) (i : Nat) : ZeroKept s (x.wipeQ i) := by
  unfold State.wipeQ
  split
  · exact h.updMeter _
  · exact h.updMeter _
  · exact h.updMeter _
  · have hadc := h.foldl (fun s d => { s with adc := upd s.adc d (fun a =>
      { a with m6 := a.m6.filter (fun e => !s.isMeterCell d (e.1 / 6)) }) }) (fun _ _ => ZeroKept.refl.adc _) (List.finRange 8)
    exact ((hadc.updMeter _).foldl _ (fun _ p => ZeroKept.refl.wr) _).wr
  · exact h.updMeter _

theorem ZeroKept.zeroRoot (h : ZeroKept s x) : ZeroKept s x.zeroRoot := by
  obtain ⟨g, hg⟩ := zeroRoot_eq x
  rw [hg]
  exact h.same

theorem ZeroKept.openProf (h : ZeroKept s x) (two : Bool) (t : Int) (extra : Nat) : ZeroKept s (x.openProf two t extra) := by
  unfold State.openProf State.updProf
  exact h.updMeter _

theorem ZeroKept.wipeRegions (h : ZeroKept s x) (mask : Nat) : ZeroKept s (x.wipeRegions mask) := by
  have hM := h.foldl (fun (s : State) (i : Nat) => if bitOf mask i then s.wipeM i else s)
    (fun _ i => .ite (ZeroKept.refl.wipeM i) .refl) (List.range 5)
  have hQ := hM.foldl (fun (s : State) (i : Nat) => if bitOf mask (5 + i) then s.wipeQ i else s)
    (fun _ i => .ite (ZeroKept.refl.wipeQ i) .refl) (List.range 5)
  have hroot := ZeroKept.ite (c := bitOf mask 10 = true) hQ.zeroRoot hQ
  unfold State.wipeRegions
  exact ((ZeroKept.ite (((hroot.openProf _ _ _).openProf _ _ _).updMeter _) hroot).lcs _).wr

/-! ## The lead die's boot ROM -/

theorem ZeroKept.setMreg (h : ZeroKept s x) (n : Nat) (l : List Byte) : ZeroKept s (x.setMreg n l) :=
  h.foldl _ (fun _ _ => ZeroKept.refl.wr) _

theorem ZeroKept.startTime (h : ZeroKept s x) : ZeroKept s x.startTime :=
  (ZeroKept.ite h.wr.wr h).wr

theorem ZeroKept.startTrial (h : ZeroKept s x) : ZeroKept s x.startTrial := by
  unfold State.startTrial
  dsimp only
  generalize hv : x.setWord _ _ = z
  have hz : ZeroKept s z := hv ▸ h.setWord
  refine .ite hz (.ite ?_ ?_)
  · exact (hz.lcs _).wr.logs _
  · exact (hz.lcs _).wr

theorem pkg_setBytes (l : List Byte) (s : State) (k : Nat) : (s.setBytes k l).pkg = s.pkg := by
  induction l generalizing s k with
  | nil => rfl
  | cons b t ih => exact ih (s.setByte k b) (k + 1)

/-- A header lies in the window, not in host SRAM. -/
theorem ZeroKept.setHeader (h : ZeroKept s x) (i : Nat) (w : Word) : ZeroKept s (x.setHeader i w) := by
  refine h.trans ⟨congrArg (·.die) (pkg_setBytes ..), fun k hk hz => ?_⟩
  unfold State.setHeader
  rw [byte_setMword_out _ _ _ _ ?_]
  · exact hz
  · unfold HostKey at hk
    unfold winKey
    omega

theorem ZeroKept.setInh_false (h : ZeroKept s x) (p : Fin 32) (c : Fin 12) : ZeroKept s (x.setInh p c false) := h.same

theorem ZeroKept.setInhDie_false (h : ZeroKept s x) (d : Fin 8) (c : Fin 12) : ZeroKept s (x.setInhDie d c false) :=
  (((h.setInh_false _ c).setInh_false _ c).setInh_false _ c).setInh_false _ c

theorem ZeroKept.freeSlots (h : ZeroKept s x) : ZeroKept s x.freeSlots := h.foldl _ (fun _ _ => ZeroKept.refl.setHeader _ _) _

theorem ZeroKept.pendTampers (h : ZeroKept s x) : ZeroKept s x.pendTampers := by
  unfold State.pendTampers
  refine ZeroKept.foldl _ (fun y c => ?_) _ (h.same (t := { x with pkg := { x.pkg with tamperPend := [] } }))
  obtain ⟨m, n, e⟩ := meterTamper_eq (y.log 0 0x4002 0 0 0xFF 0 [(y.word (fldAddr 0 F.KEY_TAMPER 0 0)).toNat]) c
  rw [e]
  exact ZeroKept.refl.same

/-- The life-cycle state from before LEAD_OK is cleared. -/
def bootHead (s : State) : State :=
  ((if s.lcs.wipeMask ≠ 0 then s.wipeRegions s.lcs.wipeMask else s).startTime.startTrial).freeSlots

theorem ZeroKept.bootHead (h : ZeroKept s x) : ZeroKept s x.bootHead := (ZeroKept.ite (h.wipeRegions _) h).startTime.startTrial.freeSlots

/-- What the boot ROM does once LEAD_OK reads 0. -/
def bootTail (s : State) : State :=
  let s := s.setMreg 7 (List.replicate 32 0)
  let s : State := { s with lcs := { s.lcs with mismatches := Vector.replicate 8 0, reported := Vector.replicate 8 false } }
  (s.onDies (fun s d => s.setInhDie d Inh.hold false)).pendTampers

theorem bootBegin_eq (s : State) : s.bootBegin = (s.bootHead.wr pkgDie F.PKG_DIES_LEAD_OK 0).bootTail := rfl

theorem ZeroKept.bootTail (h : ZeroKept s x) : ZeroKept s x.bootTail :=
  (ZeroKept.foldl _ (fun _ d => ZeroKept.refl.setInhDie_false d _) _ ((h.setMreg _ _).lcs _)).pendTampers

theorem Confined.foldl {α : Type} {Z : List Nat} (h : Confined Z s x) (f : State → α → State) (l : List α)
    (hf : ∀ y, ∀ a ∈ l, Confined Z y (f y a)) : Confined Z s (l.foldl f x) := by
  induction l generalizing x with
  | nil => exact h
  | cons a t ih => exact ih (h.trans (hf x a List.mem_cons_self)) (fun y b hb => hf y b (List.mem_cons_of_mem _ hb))

theorem Confined.setMreg (h : Confined [0x25] s x) {n : Nat} (hn : n < 8) (l : List Byte) : Confined [0x25] s (x.setMreg n l) := by
  refine h.foldl _ _ (fun y k hk => Confined.refl.setWord ?_)
  have hk8 := List.mem_range.mp hk
  have ha : fldAddr 0 F.LCS_MREG n k = 0x40250100 + n * 32 + k * 4 := by
    simp only [fldAddr, regAddr, F.LCS_MREG]
    omega
  rw [ha, List.mem_singleton]
  unfold zone
  rw [if_pos (by omega)]
  omega

theorem Confined.pendTampers {Z : List Nat} (h : Confined Z s x) : Confined Z s x.pendTampers := by
  unfold State.pendTampers
  refine Confined.foldl (h.same (t := { x with pkg := { x.pkg with tamperPend := [] } }) rfl) _ _ (fun y c _ => ?_)
  obtain ⟨m, n, e⟩ := meterTamper_eq (y.log 0 0x4002 0 0 0xFF 0 [(y.word (fldAddr 0 F.KEY_TAMPER 0 0)).toNat]) c
  rw [e]
  exact Confined.refl.same rfl

theorem Confined.setInhDie_false {Z : List Nat} (h : Confined Z s x) (d : Fin 8) (c : Fin 12) :
    Confined Z s (x.setInhDie d c false) := by
  have one {y : State} (hy : Confined Z s y) (p : Fin 32) : Confined Z s (y.setInh p c false) := hy
  exact one (one (one (one h _) _) _) _

theorem Confined.lcs {Z : List Nat} (h : Confined Z s x) (v : Lcs) : Confined Z s { x with lcs := v } := h

/-- After LEAD_OK the boot ROM writes the measurement registers alone. -/
theorem confined_bootTail (s : State) : Confined [0x25] s s.bootTail :=
  (((Confined.refl.setMreg (by decide) _).lcs _).foldl _ _ (fun _ d _ => Confined.refl.setInhDie_false d _)).pendTampers

theorem on_leadOk_bootBegin (s : State) : s.bootBegin.on pkgDie F.PKG_DIES_LEAD_OK = false := by
  rw [bootBegin_eq]
  unfold on
  rw [(confined_bootTail _).rd _ _ _ _ (by decide), rd_wr_same _ _ _ _ _ _ (by decide)]
  rfl

theorem ZeroKept.bootBegin (h : ZeroKept s x) : ZeroKept s x.bootBegin := by
  rw [bootBegin_eq]
  exact h.bootHead.wr.bootTail

/-! ## RESET_WIPE_DONE -/

/-- A die out of the wipe, before it starts: its memories zero, itself in its boot ROM. -/
def unwiped (s : State) (d : Fin 8) : State :=
  let s := s.wipeSram d
  { s with pkg := { s.pkg with die := s.pkg.die.set d .boot }, lcs := { s.lcs with reported := s.lcs.reported.set d false } }

theorem wipeDone_wiping {d : Fin 8} (h : s.pkg.die.get d = .wiping) : s.wipeDone d =
    if d = 0 then ((s.unwiped d).supplyShow d).bootBegin
    else if laneCount (((s.unwiped d).supplyShow d).xlkLanes d) < 2 then
      ((s.unwiped d).supplyShow d).regionFault d 0x3001 [((s.unwiped d).supplyShow d).xlkLanes d]
    else (s.unwiped d).supplyShow d := by
  unfold wipeDone
  rw [if_neg (fun hn => hn h)]
  rfl

/-- Nothing but registers has changed. -/
def RegsOnly (s t : State) : Prop := ∃ g, t = { s with regs := g }

theorem RegsOnly.refl : RegsOnly s s := ⟨_, rfl⟩

theorem RegsOnly.setWord (h : RegsOnly s x) {a : Nat} {v : Word} : RegsOnly s (x.setWord a v) := by
  obtain ⟨g, rfl⟩ := h
  exact ⟨_, rfl⟩

theorem RegsOnly.wr (h : RegsOnly s x) {d : Nat} {f : Fld} {v i j : Nat} : RegsOnly s (x.wr d f v i j) := h.setWord

theorem RegsOnly.ite {c : Prop} [Decidable c] {t u : State} (ht : RegsOnly s t) (hu : RegsOnly s u) : RegsOnly s (if c then t else u) := by
  split
  · exact ht
  · exact hu

theorem regsOnly_supplyShow (s : State) (d : Fin 8) : RegsOnly s (s.supplyShow d) := by
  unfold supplyShow
  exact (RegsOnly.ite RegsOnly.refl.setWord .refl).wr.wr.wr.wr.wr

theorem wipeSram_eq (s : State) (d : Fin 8) : ∃ m u, s.wipeSram d = { s with mem := m, upsets := u } := by
  unfold wipeSram
  split
  · exact ⟨_, _, rfl⟩
  · exact ⟨_, _, rfl⟩

theorem byte_wipeSram (s : State) (d : Fin 8) {a : Nat} (h0 : 0x10000000 ≤ a) (h1 : a < 0x10200000) :
    (s.wipeSram d).byte (sramKey d a) = 0 := by
  have hin : sramKey d 0x10000000 ≤ sramKey d a ∧ sramKey d a < sramKey d 0x10000000 + 0x200000 := by
    unfold sramKey
    omega
  have zero {y : State} {k n b : Nat} (h : y.byte b = 0) : (y.zeroRange k n).byte b = 0 := by
    rw [byte_zeroRange, h, ite_self]
  have hz := zero (k := regAddr d 0) (n := 0x1000000) (zero (k := capKey d 0) (n := 0x400000)
    ((byte_zeroRange s (sramKey d 0x10000000) 0x200000 _).trans (if_pos hin)))
  unfold wipeSram
  dsimp only
  split
  · exact zero hz
  · exact hz

/-- What stands once a wiping die's memories are zero and its supply is shown. -/
theorem unwiped_effect (s : State) (d : Fin 8) :
    (∀ a, 0x10000000 ≤ a → a < 0x10200000 → ((s.unwiped d).supplyShow d).byte (sramKey d a) = 0) ∧
      ((s.unwiped d).supplyShow d).pkg.die = s.pkg.die.set d .boot ∧
      ((s.unwiped d).supplyShow d).lcs.reported.get d = false ∧ ((s.unwiped d).supplyShow d).faults = s.faults := by
  obtain ⟨g, hg⟩ := regsOnly_supplyShow (s.unwiped d) d
  obtain ⟨m, u, hw⟩ := wipeSram_eq s d
  have hb (a : Nat) (h0 : 0x10000000 ≤ a) (h1 : a < 0x10200000) := byte_wipeSram s d h0 h1
  rw [hg]
  unfold unwiped
  rw [hw] at hb ⊢
  exact ⟨hb, rfl, Vector.getElem_set_self .., rfl⟩

theorem hostKey_sramKey (d : Fin 8) {a : Nat} (h0 : 0x10000000 ≤ a) (h1 : a < 0x10200000) : HostKey (sramKey d a) := by
  unfold HostKey sramKey
  omega

/-- What RESET_WIPE_DONE leaves of a wiping die (R21, R34, R65). -/
structure WipeEnded (s t : State) (d : Fin 8) : Prop where
  zero : ∀ a, 0x10000000 ≤ a → a < 0x10200000 → t.byte (sramKey d a) = 0
  others : ∀ e, e ≠ d → t.pkg.die.get e = s.pkg.die.get e
  lead : d = 0 → t.pkg.die.get d = .boot ∧ t.on pkgDie F.PKG_DIES_LEAD_OK = false
  wide : d ≠ 0 → 2 ≤ laneCount (s.xlkLanes d) → t.pkg.die.get d = .boot ∧ t.lcs.reported.get d = false
  narrow : d ≠ 0 → laneCount (s.xlkLanes d) < 2 → RegionFaulted d t

theorem get_set_self {α : Type} (v : Vector α 8) (d : Fin 8) (r : α) : (v.set d r).get d = r := Vector.getElem_set_self ..

theorem get_set_ne {α : Type} (v : Vector α 8) {d e : Fin 8} (r : α) (h : e ≠ d) : (v.set d r).get e = v.get e :=
  Vector.getElem_set_ne _ _ (fun he => h (Fin.ext he.symm))

theorem wipeDone_effect {d : Fin 8} (h : s.pkg.die.get d = .wiping) : WipeEnded s (s.wipeDone d) d := by
  obtain ⟨hzero, hdie, hrep, hf⟩ := unwiped_effect s d
  rw [wipeDone_wiping h]
  generalize (s.unwiped d).supplyShow d = u at hzero hdie hrep hf ⊢
  have hlanes : u.xlkLanes d = s.xlkLanes d := xlkLanes_congr hf
  have others (e : Fin 8) (he : e ≠ d) : u.pkg.die.get e = s.pkg.die.get e := by rw [hdie, get_set_ne _ _ he]
  have self : u.pkg.die.get d = .boot := by rw [hdie, get_set_self]
  rw [hlanes]
  split
  · next h0 =>
    have hk : ZeroKept u u.bootBegin := ZeroKept.refl.bootBegin
    exact ⟨fun a ha hb => hk.zero _ (hostKey_sramKey d ha hb) (hzero a ha hb), fun e he => by rw [hk.die, others e he],
      fun _ => ⟨by rw [hk.die, self], on_leadOk_bootBegin u⟩, fun hn => absurd h0 hn, fun hn => absurd h0 hn⟩
  · next hd =>
    split
    · next hw =>
      obtain ⟨hfault, hkept, -⟩ := regionFault_effect hd u 0x3001 [s.xlkLanes d]
      have hm := (calm_regionFault d 0x3001 [s.xlkLanes d] (calm_refl u)).1
      exact ⟨fun a ha hb => (byte_of_mem hm _).trans (hzero a ha hb), fun e he => (hkept e he).trans (others e he),
        fun h0 => absurd h0 hd, fun _ h2 => absurd hw (by omega), fun _ _ => hfault⟩
    · next hw =>
      exact ⟨hzero, others, fun h0 => absurd h0 hd, fun _ _ => ⟨self, hrep⟩, fun _ h2 => absurd h2 hw⟩

end State

end Machine

end Sys2Proof

/-! # Reports, release and recovery of port dies (R72, R308, R430 to R432) -/

namespace Sys2Proof.Machine

namespace State

variable {s x y : State}

/-! ## PORT_DIE_MEASUREMENT_REPORT -/

theorem image_setImage (s : State) (d b c : Nat) (l : List Byte) (d' b' c' : Nat) :
    (s.setImage d b c l).image d' b' c' = if imageKey d' b' c' = imageKey d b c then l else s.image d' b' c' := by
  have hother : imageKey d' b' c' ≠ imageKey d b c → (s.lcs.images.filter (fun e => e.1 != imageKey d b c)).find?
      (fun e => e.1 == imageKey d' b' c') = s.lcs.images.find? (fun e => e.1 == imageKey d' b' c') := by
    intro h
    rw [List.find?_filter]
    congr 1
    funext e
    by_cases he : e.1 = imageKey d' b' c'
    · simp [he, h]
    · simp [he]
  have hself : (s.lcs.images.filter (fun e => e.1 != imageKey d b c)).find? (fun e => e.1 == imageKey d b c) = none := by
    simp [List.find?_eq_none]
  unfold image setImage
  dsimp only
  by_cases h : imageKey d' b' c' = imageKey d b c
  · rw [h, if_pos rfl]
    cases l with
    | nil => simp [hself]
    | cons a t => simp [List.find?_append, hself]
  · rw [if_neg h, ← hother h]
    cases l with
    | nil => simp
    | cons a t => simp [List.find?_append, Ne.symm h]

/-- One image of a die replaced by the lead die's. -/
def takeImage (d b : Nat) (s : State) (c : Nat) : State := s.setImage d b c (s.image 0 b c)

theorem foldl_takeImage (d b : Nat) (l : List Nat) (s : State) :
    ∃ im, l.foldl (takeImage d b) s = { s with lcs := { s.lcs with images := im } } := by
  induction l generalizing s with
  | nil => exact ⟨_, rfl⟩
  | cons c t ih =>
    obtain ⟨im, h⟩ := ih (s.takeImage d b c)
    exact ⟨im, by rw [List.foldl_cons, h]; rfl⟩

theorem imageKey_ne {d b c c' : Nat} (hd : d ≠ 0) (hc' : c' < 8) : imageKey 0 b c' ≠ imageKey d b c := by
  unfold imageKey
  omega

theorem image_foldl_takeImage {d b : Nat} (hd : d ≠ 0) {l : List Nat} {c : Nat} (hc : c < 8) (h : c ∈ l) (s : State) :
    (l.foldl (takeImage d b) s).image d b c = s.image 0 b c := by
  have lead (y : State) (a : Nat) : (y.takeImage d b a).image 0 b c = y.image 0 b c := by
    unfold takeImage
    rw [image_setImage, if_neg (imageKey_ne hd hc)]
  have keep (l : List Nat) (y : State) (hy : y.image d b c = y.image 0 b c) : (l.foldl (takeImage d b) y).image d b c = y.image 0 b c := by
    induction l generalizing y with
    | nil => exact hy
    | cons a t ih =>
      rw [List.foldl_cons, ih (y.takeImage d b a) ?_, lead]
      rw [lead]
      unfold takeImage
      rw [image_setImage]
      split
      · next he =>
        have : a = c := by
          unfold imageKey at he
          omega
        rw [this]
      · exact hy
  induction l generalizing s with
  | nil => cases h
  | cons a t ih =>
    rw [List.foldl_cons]
    by_cases ha : c = a
    · subst ha
      rw [keep t _ ?_, lead]
      rw [lead]
      unfold takeImage
      rw [image_setImage, if_pos rfl]
    · rw [ih ((List.mem_cons.mp h).resolve_left ha), lead]

/-- Where the port die's report of an image differs from the lead die's. -/
def differs (s : State) (d : Fin 8) (c : Nat) : Bool := reportOf (s.image d s.measBank c) != reportOf (s.image 0 s.measBank c)

/-- The lead die's images and certificates taken over by a port die. -/
def takeImages (s : State) (d b : Nat) : State :=
  let s := (List.range 6).foldl (takeImage d b) s
  s.setCerts d b (((List.range 8).map (fun i => s.certBytes 0 b i)).filter (fun x => !x.isEmpty))

theorem measReport_eq {d : Fin 8} (hd : d ≠ 0) (hb : s.pkg.die.get d = .boot) (h0 : s.pkg.die.get 0 = .running)
    (hl : 2 ≤ laneCount (s.xlkLanes d)) : s.measReport d =
      match (List.range 6).find? (s.differs d) with
      | none => { s with lcs := { s.lcs with reported := s.lcs.reported.set d true } }
      | some c =>
        if s.lcs.mismatches.get d = 0 then
          { s.takeImages d s.measBank with
            lcs := { (s.takeImages d s.measBank).lcs with mismatches := (s.takeImages d s.measBank).lcs.mismatches.set d 1 } }
        else ((s.bootFail c 7).regionFault d 0x3002 [c]) := by
  unfold measReport
  rw [if_neg]
  · rfl
  · simp [hd, hb, h0]
    omega

theorem image_setCerts (s : State) (d b : Nat) (l : List (List Byte)) (d' b' c' : Nat) : (s.setCerts d b l).image d' b' c' = s.image d' b' c' := rfl

theorem image_mismatches (s : State) (v : Vector Nat 8) (d' b' c' : Nat) :
    ({ s with lcs := { s.lcs with mismatches := v } } : State).image d' b' c' = s.image d' b' c' := rfl

theorem takeImages_effect {d b : Nat} (hd : d ≠ 0) (s : State) :
    (∃ im ce, s.takeImages d b = { s with lcs := { s.lcs with images := im, certs := ce } }) ∧
      ∀ c, c < 6 → (s.takeImages d b).image d b c = s.image 0 b c := by
  obtain ⟨im, h⟩ := foldl_takeImage d b (List.range 6) s
  unfold takeImages
  dsimp only
  refine ⟨?_, fun c hc => ?_⟩
  · rw [h]
    exact ⟨_, _, rfl⟩
  · rw [image_setCerts, image_foldl_takeImage hd (by omega) (List.mem_range.mpr hc)]

theorem reports_alike {d : Fin 8} (h : (List.range 6).find? (s.differs d) = none) (c : Nat) (hc : c < 6) :
    reportOf (s.image d s.measBank c) = reportOf (s.image 0 s.measBank c) := by
  simpa [differs] using List.find?_eq_none.mp h c (List.mem_range.mpr hc)

theorem find_differs_none {d : Fin 8} (h : ∀ c, c < 6 → reportOf (s.image d s.measBank c) = reportOf (s.image 0 s.measBank c)) :
    (List.range 6).find? (s.differs d) = none :=
  List.find?_eq_none.mpr (fun c hc => by simp [differs, h c (List.mem_range.mp hc)])

/-- What a port die's report comes to (R72): agreement, the lead die's images taken over, or a region fault. -/
theorem measReport_effect {d : Fin 8} (hd : d ≠ 0) (hb : s.pkg.die.get d = .boot) (h0 : s.pkg.die.get 0 = .running)
    (hl : 2 ≤ laneCount (s.xlkLanes d)) :
    ((∀ c, c < 6 → reportOf (s.image d s.measBank c) = reportOf (s.image 0 s.measBank c)) ∧ (s.measReport d).lcs.reported.get d = true) ∨
      (s.lcs.mismatches.get d = 0 ∧ (∀ c, c < 6 → (s.measReport d).image d s.measBank c = s.image 0 s.measBank c) ∧
        (s.measReport d).lcs.mismatches.get d = 1 ∧ (s.measReport d).lcs.reported = s.lcs.reported ∧
        (s.measReport d).regs = s.regs ∧ Keeps s (s.measReport d)) ∨
      (s.lcs.mismatches.get d ≠ 0 ∧ RegionFaulted d (s.measReport d)) := by
  rw [measReport_eq hd hb h0 hl]
  split
  · next hn => exact .inl ⟨reports_alike hn, get_set_self ..⟩
  · next c hc =>
    split
    · next hm =>
      obtain ⟨⟨im, ce, he⟩, himg⟩ := takeImages_effect (d := d) (by omega) s
      refine .inr (.inl ⟨hm, fun c hc => (image_mismatches ..).trans (himg c hc), ?_⟩)
      rw [he]
      exact ⟨get_set_self .., rfl, rfl, rfl, rfl, rfl⟩
    · next hm => exact .inr (.inr ⟨hm, (regionFault_effect hd _ _ _).faulted⟩)

end State

end Sys2Proof.Machine

/-! # Release and recovery of port dies (R308, R430 to R432) -/

namespace Sys2Proof.Machine

namespace State

variable {s x y : State}

/-! ## A port die released -/

/-- Two fields of a die in different registers or bits. -/
def apartFields (f g : Fld) : Bool :=
  (f.off != g.off && decide (f.off < 0x1000000) && decide (g.off < 0x1000000)) || decide (f.lo + f.w ≤ g.lo) || decide (g.lo + g.w ≤ f.lo)

theorem apart_of_apartFields (d : Fin 8) {f g : Fld} (h : apartFields f g = true) : Apart d f 0 0 d g 0 0 := by
  simp only [apartFields, Bool.or_eq_true, Bool.and_eq_true, decide_eq_true_eq, bne_iff_ne] at h
  unfold Apart fldAddr regAddr
  omega

/-- A field of one die lies in no register of another die's. -/
theorem apart_dies {d e : Fin 8} (h : e ≠ d) {f g : Fld} (hf : f.off < 0x1000000) (hg : g.off < 0x1000000) : Apart d f 0 0 e g 0 0 := by
  refine .inl ?_
  unfold fldAddr regAddr
  omega

/-- From `s` to `t` registers of die `e` and its run state may have changed, and responses ended. -/
structure DieStarted (e : Fin 8) (s t : State) : Prop where
  rd : ∀ (d : Fin 8) (f : Fld), d ≠ e → f.off < 0x1000000 → t.rd d f = s.rd d f
  die : ∀ d, d ≠ e → t.pkg.die.get d = s.pkg.die.get d
  retired : t.faults.retired = s.faults.retired

theorem DieStarted.refl {e : Fin 8} : DieStarted e s s := ⟨fun _ _ _ _ => rfl, fun _ _ => rfl, rfl⟩

theorem DieStarted.wr {e : Fin 8} (h : DieStarted e s x) {f : Fld} {v : Nat} (hf : f.off < 0x1000000 := by decide) :
    DieStarted e s (x.wr e f v) :=
  ⟨fun d g hd hg => (rd_wr_apart _ _ _ _ _ _ _ _ _ _ (apart_dies hd hf hg)).trans (h.rd d g hd hg),
    fun d hd => (congrArg (·.die.get d) (wr_pkg ..)).trans (h.die d hd), (congrArg (·.retired) (wr_faults ..)).trans h.retired⟩

/-- The time fields a port die takes from the lead die at its release (R311). -/
def timeFields : List Fld := [F.TSU_NS, F.TSU_TALLY, F.TSU_TICK, F.TSU_GRID, F.TSU_TCOMP, F.TSU_APPLIED]

/-- A field of the lead die's copied. -/
def takeField (d : Fin 8) (s : State) (f : Fld) : State := s.wr d f (s.rd 0 f)

/-- A die that runs, its response over. -/
def runDie (s : State) (d : Fin 8) : State :=
  { s with pkg := { s.pkg with die := s.pkg.die.set d .running },
           faults := { s.faults with regionResp := s.faults.regionResp.set d false } }

/-- A die's run state and link as its release sets them, before it takes the time. -/
def linked (s : State) (d : Fin 8) : State :=
  let s := s.runDie d
  (s.wrB d F.XLK_STAT_UP (decide (2 ≤ laneCount (s.xlkLanes d)))).xlkShow d

/-- The clock's fraction, correction and queue taken. -/
def takeClock (s : State) (d : Fin 8) : State :=
  { s with tsu := upd s.tsu d (fun t =>
      { t with frac := (s.tsu.get 0).frac, corr := (s.tsu.get 0).corr, queue := (s.tsu.get 0).queue }) }

theorem rd_takeClock (s : State) (d : Fin 8) (e : Nat) (f : Fld) : (s.takeClock d).rd e f = s.rd e f := rfl

theorem pkg_takeClock (s : State) (d : Fin 8) : (s.takeClock d).pkg = s.pkg := rfl

theorem faults_takeClock (s : State) (d : Fin 8) : (s.takeClock d).faults = s.faults := rfl

theorem dieStart_eq (s : State) (d : Fin 8) : s.dieStart d = (timeFields.foldl (takeField d) (s.linked d)).takeClock d := rfl

theorem DieStarted.takeFields {d : Fin 8} (h : DieStarted d s x) {l : List Fld} (hl : ∀ f ∈ l, f.off < 0x1000000) :
    DieStarted d s (l.foldl (takeField d) x) := by
  induction l generalizing x with
  | nil => exact h
  | cons f t ih => exact ih (h.wr (hl f List.mem_cons_self)) (fun g hg => hl g (List.mem_cons_of_mem _ hg))

theorem rd_takeFields_apart {d : Fin 8} {l : List Fld} {g : Fld} (h : ∀ f ∈ l, apartFields f g = true) (s : State) :
    (l.foldl (takeField d) s).rd d g = s.rd d g := by
  induction l generalizing s with
  | nil => rfl
  | cons f t ih =>
    rw [List.foldl_cons, ih (fun k hk => h k (List.mem_cons_of_mem _ hk))]
    exact rd_wr_apart _ _ _ _ _ _ _ _ _ _ (apart_of_apartFields d (h f List.mem_cons_self))

/-- Each of the fields copied reads as the lead die's. -/
theorem rd_takeFields {d : Fin 8} (hd : d ≠ 0) {l : List Fld} (hp : l.Pairwise (fun f g => apartFields g f = true))
    (hl : ∀ f ∈ l, f.off < 0x1000000 ∧ f.lo + f.w ≤ 32) {g : Fld} (hg : g ∈ l) (s : State) :
    (l.foldl (takeField d) s).rd d g = s.rd 0 g := by
  induction l generalizing s with
  | nil => cases hg
  | cons f t ih =>
    obtain ⟨hf, ht⟩ := List.pairwise_cons.mp hp
    obtain ⟨ho, hw⟩ := hl f List.mem_cons_self
    rw [List.foldl_cons]
    rcases List.mem_cons.mp hg with rfl | hg
    · rw [rd_takeFields_apart hf]
      exact (rd_wr_same _ _ _ _ _ _ hw).trans (Nat.mod_eq_of_lt (rd_lt _ _ _ _ _ (by omega)))
    · rw [ih ht (fun k hk => hl k (List.mem_cons_of_mem _ hk)) hg]
      exact (DieStarted.refl.wr ho).rd 0 g (Ne.symm hd) (hl g (List.mem_cons_of_mem _ hg)).1

theorem xlkLanes_of_retired {d : Fin 8} (h : x.faults.retired = s.faults.retired) : x.xlkLanes d = s.xlkLanes d := by
  have hr (l : Nat) : x.isRetired d 1 0x14 l = s.isRetired d 1 0x14 l :=
    isRetired_congr (l := []) (by decide) (by rw [h, List.append_nil]) (by simp)
  unfold xlkLanes
  simp only [hr]

theorem linked_effect (s : State) (d : Fin 8) : (s.linked d).pkg.die.get d = .running ∧
    (s.linked d).on d F.XLK_STAT_UP = decide (2 ≤ laneCount (s.xlkLanes d)) ∧ DieStarted d s (s.linked d) := by
  have hlanes : (s.runDie d).xlkLanes d = s.xlkLanes d := xlkLanes_of_retired rfl
  have hstart : DieStarted d s (s.runDie d) := ⟨fun _ _ _ _ => rfl, fun e he => get_set_ne _ _ he, rfl⟩
  unfold linked
  dsimp only
  rw [hlanes]
  refine ⟨?_, ?_, hstart.wr.wr.wr⟩
  · unfold xlkShow wrB
    rw [wr_pkg, wr_pkg, wr_pkg]
    exact get_set_self ..
  · rw [(xlkShow_effect _ d).2.2.1]
    unfold on wrB
    rw [rd_wr_same _ _ _ _ _ _ (by decide)]
    cases decide (2 ≤ laneCount (s.xlkLanes d)) <;> rfl

/-- What PORT_DIE_RELEASE makes of a die that reported (R65, R308, R311). -/
structure Released (s t : State) (d : Fin 8) : Prop where
  die : t.pkg.die.get d = .running
  up : t.on d F.XLK_STAT_UP = decide (2 ≤ laneCount (s.xlkLanes d))
  ns : t.rd d F.TSU_NS = s.rd 0 F.TSU_NS
  tick : t.rd d F.TSU_TICK = s.rd 0 F.TSU_TICK
  grid : t.rd d F.TSU_GRID = s.rd 0 F.TSU_GRID

theorem dieStart_started (s : State) (d : Fin 8) : DieStarted d s (s.dieStart d) := by
  have h := (linked_effect s d).2.2.takeFields (l := timeFields) (by decide)
  rw [dieStart_eq]
  exact ⟨fun e f he hf => (rd_takeClock ..).trans (h.rd e f he hf), fun e he => (congrArg (·.die.get e) (pkg_takeClock ..)).trans (h.die e he),
    (congrArg (·.retired) (faults_takeClock ..)).trans h.retired⟩

theorem pkg_takeFields {d : Fin 8} (l : List Fld) (s : State) : (l.foldl (takeField d) s).pkg = s.pkg := by
  induction l generalizing s with
  | nil => rfl
  | cons f t ih => exact (ih _).trans (wr_pkg ..)

theorem dieStart_released (s : State) {d : Fin 8} (hd : d ≠ 0) : Released s (s.dieStart d) d := by
  obtain ⟨hdie, hup, hstart⟩ := linked_effect s d
  have took {g : Fld} (hg : g ∈ timeFields) (ho : g.off < 0x1000000 := by decide) : (s.dieStart d).rd d g = s.rd 0 g := by
    rw [dieStart_eq, rd_takeClock]
    exact (rd_takeFields hd (by decide) (by decide) hg _).trans (hstart.rd 0 g (Ne.symm hd) ho)
  refine ⟨?_, ?_, took (by decide), took (by decide), took (by decide)⟩
  · rw [dieStart_eq, pkg_takeClock, pkg_takeFields, hdie]
  · unfold on
    rw [dieStart_eq, rd_takeClock, rd_takeFields_apart (by decide)]
    exact hup

theorem Released.started {d e : Fin 8} (h : Released s x d) (he : d ≠ e) (k : DieStarted e x y) : Released s y d :=
  ⟨(k.die d he).trans h.die, (congrArg (· != 0) (k.rd d _ he (by decide))).trans h.up, (k.rd d _ he (by decide)).trans h.ns,
    (k.rd d _ he (by decide)).trans h.tick, (k.rd d _ he (by decide)).trans h.grid⟩

theorem DieStarted.released {d e : Fin 8} (h0 : (0 : Fin 8) ≠ e) (h : DieStarted e s x) (k : Released x y d) : Released s y d :=
  ⟨k.die, k.up.trans (by rw [xlkLanes_of_retired h.retired]), k.ns.trans (h.rd 0 _ h0 (by decide)), k.tick.trans (h.rd 0 _ h0 (by decide)),
    k.grid.trans (h.rd 0 _ h0 (by decide))⟩

end State

end Sys2Proof.Machine

namespace Sys2Proof.Machine

namespace State

variable {s x y : State}

/-! ## PORT_DIE_RELEASE -/

/-- A port die that PORT_DIE_RELEASE starts. -/
def readyToRun (s : State) (d : Fin 8) : Bool :=
  decide (d ≠ 0) && s.dieUsed d && decide (s.pkg.die.get d = .boot) && s.lcs.reported.get d

/-- One die of the release. -/
def releaseDie (ready : Fin 8 → Bool) (s : State) (d : Fin 8) : State := if ready d then s.dieStart d else s

theorem Released.later {d : Fin 8} {ready : Fin 8 → Bool} {l : List (Fin 8)} (hl : d ∉ l) (h : Released s x d) :
    Released s (l.foldl (releaseDie ready) x) d := by
  induction l generalizing x with
  | nil => exact h
  | cons e t ih =>
    obtain ⟨he, ht⟩ := not_or.mp (fun h => hl (List.mem_cons.mpr h))
    refine ih ht ?_
    unfold releaseDie
    split
    · exact h.started he (dieStart_started x e)
    · exact h

theorem Released.earlier {d : Fin 8} {ready : Fin 8 → Bool} (h0 : ready 0 = false) {l : List (Fin 8)}
    (h : Released (l.foldl (releaseDie ready) s) y d) : Released s y d := by
  induction l generalizing s with
  | nil => exact h
  | cons e t ih =>
    have ht := ih h
    unfold releaseDie at ht
    split at ht
    · next he =>
      have hne : (0 : Fin 8) ≠ e := by
        rintro rfl
        rw [h0] at he
        cases he
      exact (dieStart_started s e).released hne ht
    · exact ht

theorem released_onDies {d : Fin 8} {ready : Fin 8 → Bool} (h0 : ready 0 = false) (hd : ready d = true) :
    Released s (s.onDies (releaseDie ready)) d := by
  obtain ⟨l, r, hl⟩ := List.append_of_mem (List.mem_finRange d)
  have hnot : d ∉ r := by
    have hnd := List.nodup_finRange 8
    rw [hl] at hnd
    exact (List.nodup_cons.mp (List.nodup_append.mp hnd).2.1).1
  have hne : d ≠ 0 := by
    rintro rfl
    rw [h0] at hd
    cases hd
  unfold onDies
  rw [hl, List.foldl_append, List.foldl_cons]
  refine Released.earlier h0 (l := l) (Released.later hnot ?_)
  unfold releaseDie
  rw [if_pos hd]
  exact dieStart_released _ hne

/-- Words outside the zones of outputs, and where the dies stand, are as they were. -/
structure PortsOut (s t : State) : Prop where
  words : Confined outZones s t
  die : t.pkg.die = s.pkg.die

theorem PortsOut.refl : PortsOut s s := ⟨.refl, rfl⟩

theorem PortsOut.trans (h : PortsOut s x) (k : PortsOut x y) : PortsOut s y := ⟨h.words.trans k.words, k.die.trans h.die⟩

theorem PortsOut.still (h : PortsOut s x) (k : Still x y) : PortsOut s y := h.trans ⟨k.words, by rw [k.pkg]⟩

theorem PortsOut.ite {c : Prop} [Decidable c] {t u : State} (ht : PortsOut s t) (hu : PortsOut s u) : PortsOut s (if c then t else u) := by
  split
  · exact ht
  · exact hu

theorem PortsOut.foldl {α : Type} (f : State → α → State) (hf : ∀ y a, PortsOut y (f y a)) (l : List α) (h : PortsOut s x) :
    PortsOut s (l.foldl f x) := by
  induction l generalizing x with
  | nil => exact h
  | cons a t ih => exact ih (h.trans (hf x a))

theorem PortsOut.setInh_false (h : PortsOut s x) (p : Fin 32) (c : Fin 12) : PortsOut s (x.setInh p c false) := h.trans ⟨.refl, rfl⟩

theorem PortsOut.releasePorts (h : PortsOut s x) : PortsOut s x.releasePorts := by
  have port (d : Fin 8) (y : State) (k : Fin 4) : PortsOut y (if bitOf (y.pkg.inh.get (portOf d k)).toNat Inh.reset.val then
      (y.setInh (portOf d k) Inh.reset false).setInh (portOf d k) Inh.state true else y) :=
    .ite ((PortsOut.refl.setInh_false _ _).still (Still.refl.setInh _ _)) .refl
  have die (y : State) (d : Fin 8) : PortsOut y (if y.pkg.die.get d = .running then y.onPorts (fun s k =>
      if bitOf (s.pkg.inh.get (portOf d k)).toNat Inh.reset.val then
        (s.setInh (portOf d k) Inh.reset false).setInh (portOf d k) Inh.state true else s) else y) :=
    .ite (PortsOut.refl.foldl _ (port d) _) .refl
  exact .ite ((h.foldl _ (fun y d => .ite (die y d) .refl) _).still Still.refl.portsAvailable) h

/-- What PORT_DIE_RELEASE does once the port dies are started. -/
def releaseTail (ready : Fin 8 → Bool) (s : State) : State :=
  let s := s.wr pkgDie F.PKG_DIES_LEAD_OK 1
  let s := { s with faults := { s.faults with chipResp := false } }
  (s.coreBack ready).releasePorts

theorem coreBack_eq (s : State) (p : Fin 8 → Bool) : ∃ m, s.coreBack p = { s with meter := m } := by
  refine foldl_meter (fun y d => ?_) _ _
  split
  · split
    · exact meterLog_eq (y.updMeter _) ..
    · exact ⟨_, rfl⟩
  · exact ⟨_, rfl⟩

theorem portsOut_coreBack (s : State) (p : Fin 8 → Bool) : PortsOut s (s.coreBack p) := by
  obtain ⟨m, h⟩ := coreBack_eq s p
  rw [h]
  exact ⟨.refl, rfl⟩

theorem portsOut_chipResp (s : State) : PortsOut s { s with faults := { s.faults with chipResp := false } } := ⟨.refl, rfl⟩

theorem releaseTail_effect (ready : Fin 8 → Bool) (s : State) : PortsOut (s.wr pkgDie F.PKG_DIES_LEAD_OK 1) (s.releaseTail ready) :=
  ((portsOut_chipResp _).trans (portsOut_coreBack _ _)).releasePorts

/-- A port die that starts and has not reported. -/
def holdsUp (s : State) (d : Fin 8) : Bool :=
  decide (d ≠ 0) && s.dieUsed d && !s.faults.regionResp.get d &&
    (decide (s.pkg.die.get d = .wiping) || (decide (s.pkg.die.get d = .boot) && !s.lcs.reported.get d))

theorem portDies_released (hl : s.leadRuns = true) (hg : s.rd 0 F.TSU_GRID = 0)
    (hw : s.on pkgDie F.PKG_DIES_LEAD_OK = true ∨ ∀ e : Fin 8, e ≠ 0 → s.dieUsed e = true → s.faults.regionResp.get e = false →
      s.pkg.die.get e ≠ .wiping ∧ (s.pkg.die.get e = .boot → s.lcs.reported.get e = true)) :
    s.portDies = (s.onDies (releaseDie s.readyToRun)).releaseTail s.readyToRun := by
  have hwaits : s.on pkgDie F.PKG_DIES_LEAD_OK = true ∨ (List.finRange 8).any s.holdsUp = false := by
    refine hw.imp_right (fun h => List.any_eq_false.mpr (fun d _ hd => ?_))
    unfold holdsUp at hd
    simp only [Bool.and_eq_true, Bool.or_eq_true, decide_eq_true_eq, Bool.not_eq_true'] at hd
    obtain ⟨⟨⟨h0, hu⟩, hr⟩, hdie⟩ := hd
    obtain ⟨hwipe, hboot⟩ := h d h0 hu hr
    rcases hdie with hdie | ⟨hdie, hrep⟩
    · exact hwipe hdie
    · exact absurd (hboot hdie) (ne_true_of_eq_false hrep)
  have hgo : (!s.on pkgDie F.PKG_DIES_LEAD_OK && (List.finRange 8).any s.holdsUp) = false := by
    rcases hwaits with h | h <;> simp [h]
  unfold portDies
  rw [if_neg (by simp [hl, hg])]
  exact if_neg (ne_true_of_eq_false hgo)

theorem portDies_effect (hl : s.leadRuns = true) (hg : s.rd 0 F.TSU_GRID = 0)
    (hw : s.on pkgDie F.PKG_DIES_LEAD_OK = true ∨ ∀ e : Fin 8, e ≠ 0 → s.dieUsed e = true → s.faults.regionResp.get e = false →
      s.pkg.die.get e ≠ .wiping ∧ (s.pkg.die.get e = .boot → s.lcs.reported.get e = true)) :
    s.portDies.on pkgDie F.PKG_DIES_LEAD_OK = true ∧ ∀ d, s.readyToRun d = true → Released s s.portDies d := by
  rw [portDies_released hl hg hw]
  have hready : s.readyToRun 0 = false := rfl
  have hall (d : Fin 8) (hd : s.readyToRun d = true) : Released s (s.onDies (releaseDie s.readyToRun)) d := released_onDies hready hd
  generalize s.onDies (releaseDie s.readyToRun) = u at hall ⊢
  obtain ⟨hwords, hdie⟩ := releaseTail_effect s.readyToRun u
  have rd (d : Fin 8) (f : Fld) (hz : outZones.contains (f.off / 0x10000) = false) (ho : f.off % 0x10000 + 15 * f.s1 < 0x10000)
      (hf : f.off < 0x1000000) : (u.releaseTail s.readyToRun).rd d f = u.rd d f := by
    rw [hwords.rd d f 0 0 (by rw [zone_die d.isLt (by decide) hf ho]; simpa using hz)]
    refine rd_wr_apart _ _ _ _ _ _ _ _ _ _ (.inl ?_)
    simp only [fldAddr, regAddr, pkgDie, F.PKG_DIES_LEAD_OK]
    omega
  refine ⟨?_, fun d hd => ?_⟩
  · unfold on
    rw [hwords.rd _ _ _ _ (by decide), rd_wr_same _ _ _ _ _ _ (by decide)]
    rfl
  · obtain ⟨h1, h2, h3, h4, h5⟩ := hall d hd
    refine ⟨?_, ?_, (rd d _ (by decide) (by decide) (by decide)).trans h3, (rd d _ (by decide) (by decide) (by decide)).trans h4,
      (rd d _ (by decide) (by decide) (by decide)).trans h5⟩
    · rw [hdie, wr_pkg, h1]
    · unfold on at h2 ⊢
      rw [rd d _ (by decide) (by decide) (by decide), h2]

/-! ## SHUTDOWN_RECOVERY -/

/-- A die put where its service has it at a reset. -/
def placeDie (s : State) (d : Fin 8) : State :=
  { s with pkg := { s.pkg with die := s.pkg.die.set d (s.afterReset d) },
           faults := { s.faults with regionDue := s.faults.regionDue.set d false } }

theorem die_placeDie (s : State) (d : Fin 8) : (s.placeDie d).pkg.die.get d = (s.placeDie d).afterReset d := get_set_self ..

theorem die_dieReset (s : State) (d : Fin 8) (keepMeter : Bool) :
    (s.dieReset d keepMeter).pkg.die.get d = (s.dieReset d keepMeter).afterReset d := by
  obtain ⟨u, hu⟩ : ∃ u : State, s.dieReset d keepMeter = u.placeDie d := ⟨_, rfl⟩
  rw [hu]
  exact die_placeDie u d

theorem regsOnly_takeTemps (s : State) (d : Fin 8) (v : Vector (BitVec 16) 4) : RegsOnly s (s.takeTemps d v) := by
  obtain ⟨g, hg⟩ := foldl_writes (fun (y : State) (k : Fin 4) => ⟨_, rfl⟩) (List.finRange 4) s
    (f := fun s k => s.wr d F.THM_S_TEMP (v.get k).toNat k.val)
  unfold takeTemps
  rw [hg]
  exact RegsOnly.wr (RegsOnly.wr ⟨g, rfl⟩)

/-- The temperature registers are no thresholds. -/
theorem rd_thmLvl_takeTemps (s : State) (d : Fin 8) (v : Vector (BitVec 16) 4) {f : Fld} (hf : f.off = 0x20020 ∧ f.s1 = 4) {i : Nat}
    (hi : i < 4) : (s.takeTemps d v).rd d f i = s.rd d f i := by
  have apart {g : Fld} {k : Nat} (hg : g.off = 0x20010 ∧ g.s1 = 4 ∧ k < 4 ∨ g.off = 0x20004 ∧ g.s1 = 0) :
      fldAddr d f i 0 ≠ fldAddr d g k 0 := by
    unfold fldAddr regAddr
    rw [hf.1, hf.2]
    rcases hg with ⟨h1, h2, h3⟩ | ⟨h1, h2⟩ <;> rw [h1, h2] <;> omega
  have sensors (l : List (Fin 4)) (y : State) :
      (l.foldl (fun (s : State) (k : Fin 4) => s.wr d F.THM_S_TEMP (v.get k).toNat k.val) y).rd d f i = y.rd d f i := by
    induction l generalizing y with
    | nil => rfl
    | cons k t ih => exact (ih _).trans (rd_wr_apart _ _ _ _ _ _ _ _ _ _ (.inl (apart (.inl ⟨rfl, rfl, k.isLt⟩))))
  unfold takeTemps
  dsimp only
  rw [rd_wr_apart _ _ _ _ _ _ _ _ _ _ (.inl (apart (.inr ⟨rfl, rfl⟩))), rd_wr_apart _ _ _ _ _ _ _ _ _ _ (.inl (apart (.inr ⟨rfl, rfl⟩))),
    sensors]

theorem thmCold_takeTemps {d : Fin 8} {v : Vector (BitVec 16) 4} (h : ∀ k : Fin 4, sens (v.get k) < s.thmLevel d 2 - s.thmHyst d 2) :
    (List.finRange 4).all (fun k => decide (sens (v.get k) < (s.takeTemps d v).thmLevel d 2 - (s.takeTemps d v).thmHyst d 2)) = true := by
  rw [List.all_eq_true]
  intro k _
  unfold thmLevel thmHyst at h ⊢
  rw [rd_thmLvl_takeTemps s d v ⟨rfl, rfl⟩ (by decide), rd_thmLvl_takeTemps s d v ⟨rfl, rfl⟩ (by decide)]
  exact decide_eq_true (h k)

/-- A die latched off after its third shut-down within the hour (R432). -/
def latchOff (s : State) (d : Fin 8) : State :=
  { s.setBit pkgDie F.PKG_DIES_LATCHED_OFF d.val with pkg := { s.pkg with die := s.pkg.die.set d .off } }

theorem latchOff_effect (s : State) (d : Fin 8) (data : List Nat) :
    ((s.latchOff d).log d 0x3007 0 0 0xFF 0 data).pkg.die.get d = .off ∧
      ((s.latchOff d).log d 0x3007 0 0 0xFF 0 data).bit pkgDie F.PKG_DIES_LATCHED_OFF d.val = true :=
  ⟨get_set_self .., bit_setBit (s := s) (by decide) d.isLt⟩

theorem shutRecover_cold {d : Fin 8} {v : Vector (BitVec 16) 4} (ht : s.pkg.die.get d = .thermal)
    (h : ∀ k : Fin 4, sens (v.get k) < s.thmLevel d 2 - s.thmHyst d 2) : s.shutRecover d v =
      if 3 ≤ (s.lsw.get d).downs.length then ((s.takeTemps d v).latchOff d).log d 0x3007 0 0 0xFF 0 []
      else (s.takeTemps d v).dieReset d false := by
  have hdowns : ((s.takeTemps d v).lsw.get d).downs = (s.lsw.get d).downs := by
    obtain ⟨g, hg⟩ := regsOnly_takeTemps s d v
    rw [hg]
  unfold shutRecover
  rw [if_neg (fun hn => hn ht)]
  dsimp only
  rw [if_pos (thmCold_takeTemps h), hdowns]
  rfl

end State

/-- Settles O18. The boot ROM's start keeps the zeroed host SRAM zero (`ZeroKept`); a report compares the images, and a die that takes the
lead die's keeps them apart by key; what follows the release of a die writes output registers alone (`PortsOut`). -/
theorem startSequence : Obligations.StartSequence := by
  unfold Obligations.StartSequence
  intro s d
  refine ⟨fun h => ⟨_, rfl, ?_⟩, fun h => ⟨_, rfl, ?_⟩, fun hd hb h0 hl => ⟨fun hall => ⟨_, rfl, ?_⟩, ⟨_, rfl, State.measReport_effect hd hb h0 hl⟩⟩,
    fun hl hg hw => ⟨_, rfl, ?_⟩, fun v ht hc => ⟨fun hn => ⟨_, rfl, ?_⟩, fun hn => ⟨_, rfl, ?_⟩⟩⟩
  · obtain ⟨hzero, hothers, hlead, hwide, hnarrow⟩ := State.wipeDone_effect h
    exact ⟨hzero, hothers, hlead, hwide, hnarrow⟩
  · unfold State.wipeDone
    exact if_pos h
  · rw [State.measReport_eq hd hb h0 hl, State.find_differs_none hall]
  · obtain ⟨hok, hrel⟩ := State.portDies_effect hl hg hw
    refine ⟨hok, fun hd hu hb hrep => ?_⟩
    obtain ⟨hdie, hup, hns, htick, hgrid⟩ := hrel d (by simp [State.readyToRun, hd, hu, hb, hrep])
    exact ⟨hdie, hup, hns, htick, hgrid.trans hg⟩
  · rw [State.shutRecover_cold ht hc, if_neg (by omega)]
    exact State.die_dieReset ..
  · rw [State.shutRecover_cold ht hc, if_pos hn]
    exact (s.takeTemps d v).latchOff_effect d []

end Sys2Proof.Machine

/-! # Conversions (R134, R138 to R143, R157)

A result's destinations write disjoint things: the meter's path typed state, acquisition its own zone, rings and calibration registers
of the front end that are neither latest-sample nor trip registers. -/

namespace Sys2Proof.Machine

namespace State

variable {s x y : State}

/-! ## The meter's path -/

/-- From `s` to `t` the meter may have been fed: meter and typed front end alone have changed, the sequencers not. -/
def Fed (s t : State) : Prop := ∃ m a, t = { s with meter := m, adc := a } ∧ ∀ e : Fin 8, (a.get e).sq = (s.adc.get e).sq

theorem Fed.refl : Fed s s := ⟨_, _, rfl, fun _ => rfl⟩

theorem Fed.trans (h : Fed s x) (k : Fed x y) : Fed s y := by
  obtain ⟨m, a, rfl, ha⟩ := h
  obtain ⟨n, b, rfl, hb⟩ := k
  exact ⟨n, b, rfl, fun e => (hb e).trans (ha e)⟩

theorem Fed.updMeter (h : Fed s x) (f : Meter → Meter) : Fed s (x.updMeter f) := h.trans ⟨_, _, rfl, fun _ => rfl⟩

theorem Fed.updAdc (h : Fed s x) (d : Fin 8) {f : Adc → Adc} (hf : ∀ a, (f a).sq = a.sq := by intro _; rfl) : Fed s (x.updAdc d f) := by
  refine h.trans ⟨_, _, rfl, fun e => ?_⟩
  by_cases he : e = d
  · subst he
    rw [get_upd_same]
    exact hf _
  · rw [get_upd_ne _ _ he]

theorem Fed.ite {c : Prop} [Decidable c] {t u : State} (ht : Fed s t) (hu : Fed s u) : Fed s (if c then t else u) := by
  split
  · exact ht
  · exact hu

theorem Fed.foldl {α : Type} (f : State → α → State) (hf : ∀ y a, Fed y (f y a)) (l : List α) (h : Fed s x) : Fed s (l.foldl f x) := by
  induction l generalizing x with
  | nil => exact h
  | cons a t ih => exact ih (h.trans (hf x a))

theorem Fed.creditSite (h : Fed s x) (id n : Nat) (late : Bool) : Fed s (x.creditSite id n late) :=
  .ite h (.ite (h.updMeter _) (h.updMeter _))

theorem Fed.sitePhase (h : Fed s x) (k : Fin 3) (code : Int) (t : Nat) : Fed s (x.sitePhase k code t) := by
  unfold State.sitePhase
  dsimp only
  split
  · have hc {id id' n : Nat} {late : Bool} := (h.creditSite id n late).creditSite id' n late
    exact (Fed.ite (hc.updMeter _) hc).updMeter _
  · exact h.updMeter _

theorem Fed.siteSample (h : Fed s x) (c : Fin 8) (code : Int) (t : Nat) : Fed s (x.siteSample c code t) := by
  unfold State.siteSample
  dsimp only
  split
  · exact (h.updMeter _).sitePhase _ _ _
  · exact h.updMeter _

theorem Fed.updPm (h : Fed s x) (p : Fin 32) (f : PortMeter → PortMeter) : Fed s (x.updPm p f) := h.updMeter _

theorem Fed.meterCurr (h : Fed s x) (p : Fin 32) (code : Int) (t : Nat) : Fed s (x.meterCurr p code t) := .ite h (h.updPm p _)

theorem Fed.meterFeed (h : Fed s x) (d : Fin 8) (cell gain : Nat) (v : Int) (t : Nat) : Fed s (x.meterFeed d cell gain v t) := by
  have step {c : Prop} [Decidable c] {y : State} {f : State → State} (hf : ∀ z, Fed z (f z)) (hy : Fed s y) :
      Fed s (if c then f y else y) := .ite (hy.trans (hf y)) hy
  unfold State.meterFeed
  split
  · exact step (fun _ => Fed.refl.meterCurr _ v t) (step (fun _ => Fed.refl.updPm _ _) (step (fun _ => Fed.refl.updPm _ _) h))
  · split
    · exact h.siteSample _ _ _
    · exact h

theorem Fed.keepLast (h : Fed s x) (d : Fin 8) (cell : Nat) (v : Int) (r : Bool) : Fed s (x.keepLast d cell v r) := h.updAdc d

theorem Fed.meterPath (h : Fed s x) (d : Fin 8) (q : Fin 2) (cell gain : Nat) (v : Int) (t ts : Nat) :
    Fed s (x.meterPath d q cell gain v t ts) :=
  .ite h (((h.updAdc d).keepLast d _ _ _).meterFeed d _ _ _ _)

theorem Fed.fillLost (h : Fed s x) (d : Fin 8) (q : Fin 2) (a : SeqSet) (lo hi : Nat) : Fed s (x.fillLost d q a lo hi) :=
  h.foldl _ (fun y c => by
    dsimp only
    split
    · exact (Fed.refl.keepLast d c.cell (y.meterLast d c.cell) true).meterFeed d _ _ _ _
    · exact .refl) _

/-- A slot of the round done: beside the meter's path it moves the sequencer on, and leaves its marker. -/
theorem slotDone_effect (s : State) (d : Fin 8) (q : Fin 2) (a : SeqSet) (i t : Nat) :
    ∃ m v, s.slotDone d q a i t = { s with meter := m, adc := v } ∧ ((v.get d).sq.get q).swap = (s.seqr d q).swap := by
  have hfed : Fed s (if (s.seqr d q).lossy then s.fillLost d q a (s.seqr d q).slot i else s) := .ite (Fed.refl.fillLost ..) .refl
  unfold slotDone
  dsimp only
  generalize (if (s.seqr d q).lossy then s.fillLost d q a (s.seqr d q).slot i else s) = y at hfed ⊢
  obtain ⟨m, v, rfl, hv⟩ := hfed
  refine ⟨m, _, rfl, ?_⟩
  rw [get_upd_same]
  dsimp only
  rw [get_upd_same]
  exact congrArg (·.swap) (congrArg (·.get q) (hv d))

end State

end Sys2Proof.Machine

namespace Sys2Proof.Machine

namespace State

variable {s x y : State}

/-! ## Acquisition and contexts -/

theorem Still.acqEntry (h : Still s x) (d u : Fin 8) (entry t : Nat) : Still s (x.acqEntry d u entry t) := .ite (h.acqFire d u 3 t) h

/-- A word taken into a unit's delay line and, where the unit records, into its segment (R327, R328). -/
def acqTake (s : State) (d u : Fin 8) (w : Word) (t dec : Nat) : State :=
  let st := s.acqSt d u
  let a := s.acqU d u
  let keep := decide ((a.decim + 1) % dec = 0)
  let x : AcqSample := { word := w, t := t, chg := a.chg }
  let s := s.updAcq d u (fun a => { a with decim := a.decim + 1 })
  let s := if keep then s.updAcq d u (fun a => { a with line := (a.line ++ [x]).drop ((a.line.length + 1) - 64), chg := false })
    else s
  if keep && ((st = 2 && decide (u.val < 2)) || (st = 3 && decide (a.left ≠ 0))) then s.acqPut d u x else s

/-- The level trigger judged on a word of its cell (R332). -/
def acqCross (s : State) (d u : Fin 8) (w : Word) (t : Nat) : State :=
  if s.rd d F.ACQ_U_TRIG_SRC u = 2 ∧ bitsOf w.toNat 16 7 = s.rd d F.ACQ_U_TRIG_TCELL u then
    let r := acqLevel (s.acqU d u) (s.rd d F.ACQ_U_TRIG_EDGE u) (sext 16 (s.rd d F.ACQ_U_THR_THRESH u))
      (s.rd d F.ACQ_U_THR_HYST u) (sext 16 w.toNat) t
    let s := s.updAcq d u (fun _ => r.2)
    match r.1 with
    | some tt => (s.acqFire d u 2 tt).updAcq d u (fun a => { a with rising := r.2.rising, falling := r.2.falling })
    | none => s
  else s

theorem acqWord_eq (s : State) (d u : Fin 8) (w : Word) (t dec : Nat) (entryEnd : Bool) : s.acqWord d u w t dec entryEnd =
    if s.acqSt d u = 2 ∨ s.acqSt d u = 3 ∨ s.acqSt d u = 4 then
      if entryEnd then ((s.acqTake d u w t dec).acqCross d u w t).acqEntry d u (bitsOf w.toNat 23 4) t
      else (s.acqTake d u w t dec).acqCross d u w t
    else s := rfl

theorem Still.acqTake (h : Still s x) (d u : Fin 8) (w : Word) (t dec : Nat) : Still s (x.acqTake d u w t dec) := by
  have hline {y : State} (hy : Still s y) {c : Prop} [Decidable c] {f : AcqUnit → AcqUnit} :
      Still s (if c then y.updAcq d u f else y) := .ite (hy.updAcq d u f) hy
  have hput {y : State} (hy : Still s y) {c : Prop} [Decidable c] {v : AcqSample} : Still s (if c then y.acqPut d u v else y) :=
    .ite (hy.acqPut d u v) hy
  exact hput (hline (h.updAcq d u _))

theorem Still.acqCross (h : Still s x) (d u : Fin 8) (w : Word) (t : Nat) : Still s (x.acqCross d u w t) := by
  unfold State.acqCross
  split
  · dsimp only
    split
    · exact ((h.updAcq d u _).acqFire d u 2 _).updAcq d u _
    · exact h.updAcq d u _
  · exact h

theorem Still.acqWord (h : Still s x) (d u : Fin 8) (w : Word) (t dec : Nat) (entryEnd : Bool) :
    Still s (x.acqWord d u w t dec entryEnd) := by
  have htake := (h.acqTake d u w t dec).acqCross d u w t
  rw [acqWord_eq]
  exact .ite (.ite (htake.acqEntry d u _ t) htake) h

theorem Still.acqResult (h : Still s x) (d : Fin 8) (q : Fin 2) (entry : Nat) (w : Word) (t : Nat) (e : Bool) :
    Still s (x.acqResult d q entry w t e) :=
  h.foldl _ (fun _ u => .ite .refl (.ite (Still.refl.acqWord d u _ _ _ _) (.ite (Still.refl.acqEntry d u _ _) .refl))) _

theorem Still.updOxe (h : Still s x) (d : Fin 8) (f : Oxe → Oxe) : Still s (x.updOxe d f) := h.same

theorem Still.updCtx (h : Still s x) (d n : Fin 8) (f : CtxState → CtxState) : Still s (x.updCtx d n f) := h.updOxe d _

theorem Still.waitWake (h : Still s x) (d n : Fin 8) (vd outcome : Nat) : Still s (x.waitWake d n vd outcome) := by
  unfold State.waitWake
  exact ((h.updCtx d n _).updCtx d n _).wr

theorem Still.waitEvent (h : Still s x) (d : Fin 8) (ev param : Nat) : Still s (x.waitEvent d ev param) := by
  refine h.foldl _ (fun y n => ?_) _
  split
  · exact .ite (Still.refl.waitWake d n _ _) .refl
  · exact .refl

theorem Still.trigEvent (h : Still s x) (d n : Fin 8) (src : Nat) : Still s (x.trigEvent d n src) := by
  have hcount : Still s (x.trigCount d n src).2 := by
    unfold State.trigCount
    split
    · exact h.updCtx d n _
    · exact h
  exact .ite (hcount.updCtx d n _) hcount

theorem Still.trigAll (h : Still s x) (d : Fin 8) (src : Nat) (p : Fin 8 → Bool) : Still s (x.trigAll d src p) :=
  h.foldl _ (fun _ n => .ite (Still.refl.trigEvent d n src) .refl) _

theorem Still.entryDone (h : Still s x) (d : Fin 8) (q : Fin 2) (entry : Nat) : Still s (x.entryDone d q entry) :=
  (h.waitEvent d 4 _).trigAll d 1 _

theorem Still.shuntSum (h : Still s x) (d : Fin 8) (cell : Nat) (v : Int) : Still s (x.shuntSum d cell v) := .ite h.same h

/-! ## Trips -/

theorem Still.hwTrip (h : Still s x) (d : Fin 8) (k : Fin 4) (t : Nat) : Still s (x.hwTrip d k t) := by
  have ev (y : State) {c : Prop} [Decidable c] {src param : Nat} : Still y (if c then y else y.acqEvent d src param t) :=
    .ite .refl (Still.refl.acqEvent d src param t)
  exact (((h.putInh _ _).haltSet d k 2).trans (ev _)).trans (ev _)

/-- A fast trip drives INH and halts the port (R37, R39, R260). -/
theorem hwTrip_effect (s : State) (d : Fin 8) (k : Fin 4) (t : Nat) :
    (s.hwTrip d k t).inhBy (portOf d k) Inh.trip = true ∧ (s.hwTrip d k t).on d F.STL_P_HALT_HALTED k = true := by
  have ev (y : State) {c : Prop} [Decidable c] {src param : Nat} : Still y (if c then y else y.acqEvent d src param t) :=
    .ite .refl (Still.refl.acqEvent d src param t)
  have hinh : ((s.putInh (portOf d k) Inh.trip true).haltSet d k 2).inhBy (portOf d k) Inh.trip = true :=
    (Still.refl.haltSet d k 2).inh _ _ (by rw [inhBy_putInh]; exact if_pos ⟨rfl, rfl⟩)
  have hhalt := on_haltSet (s := s.putInh (portOf d k) Inh.trip true) d k 2
  have hend : Still ((s.putInh (portOf d k) Inh.trip true).haltSet d k 2) (s.hwTrip d k t) := (ev _).trans (ev _)
  exact ⟨hend.inh _ _ hinh, hend.halt d k hhalt⟩

/-- A value outside the window that its entry selects. -/
def leavesWindow (s : State) (d : Fin 8) (cell w : Nat) (v : Int) : Bool :=
  s.winOn d cell w && (decide (v < s.rdI d F.ADC_TW_LOW cell w) || decide (s.rdI d F.ADC_TW_HIGH cell w < v))

/-- A comparison with a window changes nothing, or notes the trip of its cell and trips the port. -/
theorem winCheck_cases (s : State) (d : Fin 8) (cell w : Nat) (v : Int) (t : Nat) :
    s.winCheck d cell w v t = s ∨ cell < 64 ∧ Still (s.setBit d F.ADC_TRIP (cell % 32) (cell / 32)) (s.winCheck d cell w v t) := by
  unfold winCheck
  split
  · split
    · exact .inr ⟨by omega, .ite (Still.refl.hwTrip d _ t) ((Still.refl.hwTrip d _ t).acqEvent d 6 _ _)⟩
    · exact .inl rfl
  · exact .inl rfl

/-- A value that leaves its window latches the trip of its cell, drives INH and halts the port (R143). -/
structure Tripped (t : State) (d : Fin 8) (cell : Nat) (port : Fin 4) : Prop where
  latch : t.bit d F.ADC_TRIP (cell % 32) (cell / 32) = true
  inh : t.inhBy (portOf d port) Inh.trip = true
  halt : t.on d F.STL_P_HALT_HALTED port = true

theorem zone_adc (d : Fin 8) {f : Fld} {i : Nat} (hi : f.off + i * f.s1 < 0x50000) (ho : 0x40000 ≤ f.off) : zone (fldAddr d f i 0) = 0x04 := by
  unfold zone fldAddr regAddr
  rw [if_pos (by omega)]
  omega

theorem winCheck_trips {d : Fin 8} {cell w : Nat} {v : Int} {t : Nat} (hc : cell < 64) (h : s.leavesWindow d cell w v = true) :
    Tripped (s.winCheck d cell w v t) d cell ⟨cell / 16, by omega⟩ := by
  have hport : cell / 16 < 4 := by omega
  have heq : s.winCheck d cell w v t =
      if s.bit d F.ADC_TRIP (cell % 32) (cell / 32) then (s.setBit d F.ADC_TRIP (cell % 32) (cell / 32)).hwTrip d ⟨cell / 16, hport⟩ t
      else ((s.setBit d F.ADC_TRIP (cell % 32) (cell / 32)).hwTrip d ⟨cell / 16, hport⟩ t).acqEvent d 6 cell t := by
    unfold winCheck
    rw [dif_pos hport]
    exact if_pos h
  obtain ⟨hinh, hhalt⟩ := hwTrip_effect (s.setBit d F.ADC_TRIP (cell % 32) (cell / 32)) d ⟨cell / 16, hport⟩ t
  have hlatch : (s.setBit d F.ADC_TRIP (cell % 32) (cell / 32)).bit d F.ADC_TRIP (cell % 32) (cell / 32) = true :=
    bit_setBit (by decide) (by simp only [F.ADC_TRIP]; omega)
  have hend : Still ((s.setBit d F.ADC_TRIP (cell % 32) (cell / 32)).hwTrip d ⟨cell / 16, hport⟩ t) (s.winCheck d cell w v t) := by
    rw [heq]
    exact .ite .refl (Still.refl.acqEvent d 6 cell t)
  have hall := (Still.refl.hwTrip d _ t).trans hend
  refine ⟨?_, hend.inh _ _ hinh, hend.halt _ _ hhalt⟩
  unfold bit at hlatch ⊢
  rwa [hall.words.rd _ _ _ _ (by rw [zone_adc d (by simp only [F.ADC_TRIP]; omega) (by decide)]; decide)]

end State

end Sys2Proof.Machine

namespace Sys2Proof.Machine

namespace State

variable {s x y : State}

/-! ## The latest-sample word -/

/-- The word of a result (R138, R140). -/
def resultWord (s : State) (d : Fin 8) (q : Fin 2) (entry cell : Nat) (c : ConvResult) : Word :=
  BitVec.ofNat 32 (uns 16 c.v + cell * 2 ^ 16 + entry * 2 ^ 23 + (if c.ok then s.posLane d q else 3) * 2 ^ 27 +
    b2n c.sat * 2 ^ 29 + b2n (entDiag c.ent && bitsOf c.ent.toNat 18 2 != 0 && s.holdsClaim) * 2 ^ 30 + b2n (s.seqr d q).swap * 2 ^ 31)

theorem b2n_cases (b : Bool) : b = true ∧ b2n b = 1 ∨ b = false ∧ b2n b = 0 := by cases b <;> decide

theorem clampI_bounds {lo hi : Int} (h : lo ≤ hi) (v : Int) : lo ≤ clampI lo hi v ∧ clampI lo hi v ≤ hi := by
  unfold clampI
  split
  · omega
  · split <;> omega

theorem sext_uns {v : Int} (h0 : -32768 ≤ v) (h1 : v ≤ 32767) {n : Nat} (hn : n % 65536 = uns 16 v) : sext 16 n = v := by
  unfold uns at hn
  unfold sext
  split <;> simp_all <;> omega

theorem posLane_lt (s : State) (d : Fin 8) (q : Fin 2) : s.posLane d q < 4 := by
  unfold posLane
  split
  · exact rd_lt _ _ _ _ _ (by decide)
  · exact rd_lt _ _ _ _ _ (by decide)

/-- What the fields of a result's word say. -/
structure WordSays (s : State) (d : Fin 8) (q : Fin 2) (entry cell : Nat) (c : ConvResult) (n : Nat) : Prop where
  value : sext 16 n = c.v
  cell : bitsOf n 16 7 = cell
  entry : bitsOf n 23 4 = entry
  lane : bitsOf n 27 2 = if c.ok then s.posLane d q else 3
  sat : bitOf n 29 = c.sat
  swap : bitOf n 31 = (s.seqr d q).swap

theorem resultWord_says {d : Fin 8} {q : Fin 2} {entry cell : Nat} {c : ConvResult} (he : entry < 16) (hc : cell < 72)
    (h0 : -32768 ≤ c.v) (h1 : c.v ≤ 32767) : WordSays s d q entry cell c (s.resultWord d q entry cell c).toNat := by
  unfold resultWord
  have hu : uns 16 c.v < 65536 := by
    unfold uns
    omega
  have hl : (if c.ok then s.posLane d q else 3) < 4 := by
    split
    · exact s.posLane_lt d q
    · decide
  have hsat := b2n_cases c.sat
  have how := b2n_cases (entDiag c.ent && bitsOf c.ent.toNat 18 2 != 0 && s.holdsClaim)
  have hswap := b2n_cases (s.seqr d q).swap
  generalize hlane : (if c.ok then s.posLane d q else 3) = l at hl ⊢
  generalize b2n (entDiag c.ent && bitsOf c.ent.toNat 18 2 != 0 && s.holdsClaim) = ow at how ⊢
  generalize hsw : (s.seqr d q).swap = sw at hswap ⊢
  have hn : (BitVec.ofNat 32 (uns 16 c.v + cell * 2 ^ 16 + entry * 2 ^ 23 + l * 2 ^ 27 + b2n c.sat * 2 ^ 29 + ow * 2 ^ 30 +
      b2n sw * 2 ^ 31)).toNat = uns 16 c.v + cell * 2 ^ 16 + entry * 2 ^ 23 + l * 2 ^ 27 + b2n c.sat * 2 ^ 29 + ow * 2 ^ 30 +
      b2n sw * 2 ^ 31 := by
    rw [BitVec.toNat_ofNat]
    exact Nat.mod_eq_of_lt (by omega)
  rw [hn]
  refine ⟨sext_uns h0 h1 (by omega), ?_, ?_, ?_, ?_, ?_⟩
  · unfold bitsOf
    omega
  · unfold bitsOf
    omega
  · rw [hlane]
    unfold bitsOf
    omega
  · unfold bitOf
    rcases hsat with ⟨e, hb⟩ | ⟨e, hb⟩
    · rw [hb, e, beq_iff_eq]
      omega
    · rw [hb, e, beq_eq_false_iff_ne]
      omega
  · rw [hsw]
    unfold bitOf
    rcases hswap with ⟨e, hb⟩ | ⟨e, hb⟩
    · rw [hb, e, beq_iff_eq]
      omega
    · rw [hb, e, beq_eq_false_iff_ne]
      omega

/-! ## What the destinations keep -/

/-- A field of the front end that lies in no latest-sample register and in no trip register. -/
def sparesSample (f : Fld) : Bool :=
  decide (f.off < 0x1000000) && (List.range 16).all (fun i =>
    let a := f.off + i * f.s1
    decide (a < 0x1000000) && (decide (a < 0x41200) || decide (0x41320 ≤ a)) && (decide (a < 0x41390) || decide (0x41398 ≤ a)))

/-- From `s` to `t` the destinations of a result have been served, but for its word and its trip: latest samples, trips, and commands
waiting are as they were, no INH cause and no halt has been taken back. -/
structure Sampled (s t : State) : Prop where
  last : ∀ (d : Fin 8) (c : Nat), c < 72 → t.word (fldAddr d F.ADC_LAST c 0) = s.word (fldAddr d F.ADC_LAST c 0)
  trip : ∀ (d : Fin 8) (j : Nat), j < 2 → t.word (fldAddr d F.ADC_TRIP j 0) = s.word (fldAddr d F.ADC_TRIP j 0)
  pending : t.pending = s.pending
  inh : ∀ p c, s.inhBy p c = true → t.inhBy p c = true
  halt : ∀ (d : Fin 8) (k : Fin 4), s.on d F.STL_P_HALT_HALTED k = true → t.on d F.STL_P_HALT_HALTED k = true

theorem Sampled.refl : Sampled s s := ⟨fun _ _ _ => rfl, fun _ _ _ => rfl, rfl, fun _ _ => id, fun _ _ => id⟩

theorem Sampled.trans (h : Sampled s x) (k : Sampled x y) : Sampled s y :=
  ⟨fun d c hc => (k.last d c hc).trans (h.last d c hc), fun d j hj => (k.trip d j hj).trans (h.trip d j hj), k.pending.trans h.pending,
    fun p c hp => k.inh p c (h.inh p c hp), fun d j hp => k.halt d j (h.halt d j hp)⟩

theorem Sampled.ite {c : Prop} [Decidable c] {t u : State} (ht : Sampled s t) (hu : Sampled s u) : Sampled s (if c then t else u) := by
  split
  · exact ht
  · exact hu

theorem Still.sampled (h : Still s x) : Sampled s x where
  last d c hc := h.words _ (by rw [zone_adc d (by simp only [F.ADC_LAST]; omega) (by decide)]; decide)
  trip d j hj := h.words _ (by rw [zone_adc d (by simp only [F.ADC_TRIP]; omega) (by decide)]; decide)
  pending := h.pending
  inh := h.inh
  halt := h.halt

/-- A change of the meter and of the typed front end. -/
theorem Sampled.fed (h : Sampled s x) {m : Meter} {a : Vector Adc 8} : Sampled s { x with meter := m, adc := a } :=
  h.trans ⟨fun _ _ _ => rfl, fun _ _ _ => rfl, rfl, fun _ _ => id, fun _ _ => id⟩

theorem Sampled.updAdc (h : Sampled s x) (d : Fin 8) (f : Adc → Adc) : Sampled s (x.updAdc d f) := h.fed

theorem Sampled.wr (h : Sampled s x) {d : Fin 8} {f : Fld} {v i : Nat} (hh : sparesHalt f = true := by decide)
    (hf : sparesSample f = true := by decide) (hi : i < 16 := by omega) : Sampled s (x.wr d f v i) := by
  simp only [sparesSample, Bool.and_eq_true, Bool.or_eq_true, List.all_eq_true, decide_eq_true_eq, List.mem_range] at hf
  obtain ⟨-, hf⟩ := hf
  obtain ⟨⟨ha, hlast⟩, htrip⟩ := hf i hi
  refine h.trans ⟨fun e c hc => word_wr_ne _ _ _ _ _ _ _ ?_, fun e j hj => word_wr_ne _ _ _ _ _ _ _ ?_, wr_pending ..,
    fun p c hi => ?_, fun e k hk => ?_⟩
  · simp only [fldAddr, regAddr, F.ADC_LAST]
    omega
  · simp only [fldAddr, regAddr, F.ADC_TRIP]
    omega
  · unfold inhBy at hi ⊢
    rwa [wr_pkg]
  · exact (on_wr_apart (.inl (halt_ne_of_spares e k hh hi))).trans hk

theorem Sampled.bufPut (h : Sampled s x) (d : Fin 8) (a : Nat) (l : List Byte) : Sampled s (x.bufPut d a l) := by
  unfold State.bufPut
  split
  · exact h.trans (Still.refl.setBytes _ l).sampled
  · exact h

/-- A word put into one of the rings. -/
theorem Sampled.ringPut (h : Sampled s x) (d : Fin 8) {i : Nat} (w : Word) (hi : i < 16) :
    Sampled s (x.ringPut d F.ADC_RING_BASE F.ADC_RING_SIZE_SIZE F.ADC_RING_WPTR_WPTR F.ADC_RING_WRAP_WRAP i w) :=
  .ite h (.ite ((h.bufPut d _ _).wr.wr) ((h.bufPut d _ _).wr))

theorem Sampled.zeroFlag (h : Sampled s x) (d : Fin 8) : Sampled s (x.zeroFlag d) := h.wr

theorem Sampled.calEnd (h : Sampled s x) (d : Fin 8) (st : Nat) : Sampled s (x.calEnd d st) := by
  unfold State.calEnd
  split
  · exact h
  · have hb := (h.updAdc d (fun a => { a with coll := none })).wr (d := d) (f := F.ADC_SYSCAL_STAT_BUSY) (v := 0) (i := 0)
    exact .ite (hb.updAdc d _) (hb.wr.zeroFlag d)

theorem Sampled.calSample (h : Sampled s x) (d : Fin 8) (cell gain : Nat) (r : Int) (rail : Bool) (t : Nat) :
    Sampled s (x.calSample d cell gain r rail t) := by
  unfold State.calSample
  split
  · exact h
  · have hs {c : Prop} [Decidable c] {f : Adc → Adc} : Sampled s (if c then x.updAdc d f else x.wr d F.ADC_SYSCAL_STAT_SAT_ABORT 1) :=
      .ite (h.updAdc d f) h.wr
    exact .ite h (.ite (hs.calEnd d 4) ((h.updAdc d _).wr))

theorem compareResult_eq (s : State) (d : Fin 8) (new : Bool) (entry cell gain t : Nat) (r : Int) (usable : Bool) :
    ∃ a, s.compareResult d new entry cell gain t r usable = { s with adc := a } := by
  unfold compareResult
  dsimp only
  split
  · split
    · exact ⟨_, rfl⟩
    · exact ⟨_, rfl⟩
  · exact ⟨_, rfl⟩

theorem Sampled.compareResult (h : Sampled s x) (d : Fin 8) (new : Bool) (entry cell gain t : Nat) (r : Int) (usable : Bool) :
    Sampled s (x.compareResult d new entry cell gain t r usable) := by
  obtain ⟨a, ha⟩ := compareResult_eq x d new entry cell gain t r usable
  rw [ha]
  exact h.fed (m := x.meter)

theorem Sampled.meterPath (h : Sampled s x) (d : Fin 8) (q : Fin 2) (cell gain : Nat) (v : Int) (t ts : Nat) :
    Sampled s (x.meterPath d q cell gain v t ts) := by
  obtain ⟨m, a, ha, -⟩ := (Fed.refl (s := x)).meterPath d q cell gain v t ts
  rw [ha]
  exact h.fed

end State

end Sys2Proof.Machine

namespace Sys2Proof.Machine

namespace State

variable {s x y : State}

/-! ## A result of a position's holder -/

/-- The last cell of an entry with TRIG. -/
def endsEntry (s : State) (d : Fin 8) (a : SeqSet) (cell : Nat) (c : ConvResult) : Bool :=
  bitOf c.ent.toNat 25 && ((entryCells c.ent a.scans).filter (s.cellLive d)).getLast? == some cell

/-- The result written to its latest-sample register and offered to acquisition. -/
def noted (s : State) (d : Fin 8) (q : Fin 2) (entry cell : Nat) (c : ConvResult) (w : Word) (trig : Bool) (t : Nat) : State :=
  let s := (s.setWord (fldAddr d F.ADC_LAST cell 0) w).updOxe d (fun o =>
    { o with fresh := o.fresh ||| BitVec.ofNat 72 (2 ^ cell), sample := o.sample.setIfInBounds cell w })
  let s := if c.ok then s.shuntSum d cell c.v else s
  s.acqResult d q entry w t trig

/-- The result compared with its window. -/
def windowed (s : State) (d : Fin 8) (cell : Nat) (c : ConvResult) (t : Nat) : State :=
  if !entDiag c.ent && c.ok then s.winCheck d cell (entWin c.ent) c.v t else s

/-- The destinations after the trip window. -/
def delivered (s : State) (d : Fin 8) (q : Fin 2) (entry cell : Nat) (c : ConvResult) (rail : Bool) (w : Word) (trig : Bool) (t : Nat) :
    State :=
  let s := if bitOf c.ent.toNat 24 then
    s.ringPut d F.ADC_RING_BASE F.ADC_RING_SIZE_SIZE F.ADC_RING_WPTR_WPTR F.ADC_RING_WRAP_WRAP (4 * q.val + bitsOf c.ent.toNat 22 2) w
    else s
  let s := if entDiag c.ent then s.updAdc d (fun x => { x with diagEnd := x.diagEnd.filter (fun y => y.1 != cell) ++ [(cell, some t)] })
    else if c.ok then (s.meterPath d q cell c.gain c.v t (entTs c.ent)).calSample d cell c.gain c.r rail t
    else s
  let s := if s.beside d = some q then s.compareResult d false entry cell c.gain t c.r (!c.sat && c.ok) else s
  if trig then s.entryDone d q entry else s

/-- The result's slot of the round taken. -/
def slotted (s : State) (d : Fin 8) (q : Fin 2) (a : SeqSet) (entry cell t : Nat) : State :=
  ((convSlots a).findIdx? (fun x => x.entry == entry && x.cell == cell)).elim s (fun i => s.slotDone d q a i t)

theorem holderResult_eq (s : State) (d : Fin 8) (q : Fin 2) (a : SeqSet) (entry cell : Nat) (c : ConvResult) (rail : Bool) (t : Nat) :
    s.holderResult d q a entry cell c rail t =
      (((s.slotted d q a entry cell t).noted d q entry cell c ((s.slotted d q a entry cell t).resultWord d q entry cell c)
        ((s.slotted d q a entry cell t).endsEntry d a cell c) t).windowed d cell c t).delivered d q entry cell c rail
        ((s.slotted d q a entry cell t).resultWord d q entry cell c) ((s.slotted d q a entry cell t).endsEntry d a cell c) t := rfl

theorem slotted_effect (s : State) (d : Fin 8) (q : Fin 2) (a : SeqSet) (entry cell t : Nat) :
    ∃ m v, s.slotted d q a entry cell t = { s with meter := m, adc := v } ∧ ((v.get d).sq.get q).swap = (s.seqr d q).swap := by
  unfold slotted
  cases (convSlots a).findIdx? (fun x => x.entry == entry && x.cell == cell) with
  | none => exact ⟨_, _, rfl, rfl⟩
  | some i => exact slotDone_effect s d q a i t

theorem noted_effect (s : State) (d : Fin 8) (q : Fin 2) (entry cell : Nat) (c : ConvResult) (w : Word) (trig : Bool) (t : Nat) :
    Still (s.setWord (fldAddr d F.ADC_LAST cell 0) w) (s.noted d q entry cell c w trig t) :=
  (Still.ite ((Still.refl.updOxe d _).shuntSum d _ _) (Still.refl.updOxe d _)).acqResult d q _ _ _ _

theorem delivered_sampled (s : State) (d : Fin 8) (q : Fin 2) (entry cell : Nat) (c : ConvResult) (rail : Bool) (w : Word) (trig : Bool)
    (t : Nat) : Sampled s (s.delivered d q entry cell c rail w trig t) := by
  have step {c : Prop} [Decidable c] {y : State} {f : State → State} (hf : ∀ z, Sampled z (f z)) (hy : Sampled s y) :
      Sampled s (if c then f y else y) := .ite (hy.trans (hf y)) hy
  have hi : 4 * q.val + bitsOf c.ent.toNat 22 2 < 16 := by
    have := bitsOf_lt c.ent.toNat 22 2
    omega
  unfold delivered
  refine step (fun z => (Still.refl.entryDone d q _).sampled) (step (fun z => Sampled.refl.compareResult ..) ?_)
  have hring : Sampled s _ := step (c := bitOf c.ent.toNat 24 = true) (fun z => Sampled.refl.ringPut d w hi) (Sampled.refl (s := s))
  exact .ite (hring.updAdc d _) (.ite ((hring.meterPath d q _ _ _ _ _).calSample d _ _ _ _ _) hring)

/-- The comparison leaves latest samples and waiting commands alone, and the meter. -/
theorem windowed_effect (s : State) (d : Fin 8) (cell : Nat) (c : ConvResult) (t : Nat) :
    (∀ (e : Fin 8) (n : Nat), n < 72 → (s.windowed d cell c t).word (fldAddr e F.ADC_LAST n 0) = s.word (fldAddr e F.ADC_LAST n 0)) ∧
      (s.windowed d cell c t).meter = s.meter ∧ (s.windowed d cell c t).pending = s.pending := by
  have same : (∀ (e : Fin 8) (n : Nat), n < 72 → s.word (fldAddr e F.ADC_LAST n 0) = s.word (fldAddr e F.ADC_LAST n 0)) ∧
    s.meter = s.meter ∧ s.pending = s.pending := ⟨fun _ _ _ => rfl, rfl, rfl⟩
  unfold windowed
  split
  · rcases winCheck_cases s d cell (entWin c.ent) c.v t with h | ⟨hc, h⟩
    · rw [h]
      exact same
    · refine ⟨fun e n hn => (h.sampled.last e n hn).trans (word_wr_ne _ _ _ _ _ _ _ ?_), h.meter.trans (wr_meter ..), h.pending.trans (wr_pending ..)⟩
      simp only [fldAddr, regAddr, F.ADC_LAST, F.ADC_TRIP]
      omega
  · exact same

/-- What a holder's result comes to (R134, R138 to R143). -/
structure Held (s t : State) (d : Fin 8) (q : Fin 2) (entry cell : Nat) (c : ConvResult) : Prop where
  word : WordSays s d q entry cell c (t.word (fldAddr d F.ADC_LAST cell 0)).toNat
  pending : t.pending = s.pending
  trips : ∀ h : cell < 64, entDiag c.ent = false → c.ok = true → s.leavesWindow d cell (entWin c.ent) c.v = true →
    Tripped t d cell ⟨cell / 16, by omega⟩

theorem Tripped.sampled {d : Fin 8} {cell : Nat} {port : Fin 4} (hc : cell < 64) (h : Tripped x d cell port) (k : Sampled x y) :
    Tripped y d cell port := by
  refine ⟨?_, k.inh _ _ h.inh, k.halt _ _ h.halt⟩
  have hl := h.latch
  unfold bit State.rd at hl ⊢
  rwa [k.trip d _ (by omega)]

/-- The window registers are the front end's, and no latest sample. -/
theorem leavesWindow_noted (s : State) (d : Fin 8) (q : Fin 2) (entry cell : Nat) (c : ConvResult) (w : Word) (trig : Bool) (t : Nat)
    {win : Nat} (hw : win < 2) (hc : cell < 64) (v : Int) :
    (s.noted d q entry cell c w trig t).leavesWindow d cell win v = s.leavesWindow d cell win v := by
  have hwords := (noted_effect s d q entry cell c w trig t).words
  have kept {f : Fld} {i j : Nat} (ho : 0x41380 ≤ f.off) (hi : f.off + i * f.s1 + j * f.s2 < 0x50000) :
      (s.noted d q entry cell c w trig t).rd d f i j = s.rd d f i j := by
    have hz : zone (fldAddr d f i j) = 0x04 := by
      unfold zone fldAddr regAddr
      rw [if_pos (by omega)]
      omega
    rw [hwords.rd _ _ _ _ (by rw [hz]; decide)]
    unfold State.rd
    rw [word_setWord_ne]
    unfold fldAddr regAddr
    simp only [F.ADC_LAST]
    omega
  unfold leavesWindow winOn rdI
  rw [kept (by decide) (by simp only [F.ADC_TWEN]; omega), kept (by decide) (by simp only [F.ADC_TW_LOW]; omega),
    kept (by decide) (by simp only [F.ADC_TW_HIGH]; omega)]

theorem posLane_typed (m : Meter) (v : Vector Adc 8) (d : Fin 8) (q : Fin 2) :
    ({ s with meter := m, adc := v } : State).posLane d q = s.posLane d q := rfl

theorem leavesWindow_typed (m : Meter) (v : Vector Adc 8) (d : Fin 8) (cell w : Nat) (x : Int) :
    ({ s with meter := m, adc := v } : State).leavesWindow d cell w x = s.leavesWindow d cell w x := rfl

theorem seqr_typed (m : Meter) (v : Vector Adc 8) (d : Fin 8) (q : Fin 2) :
    ({ s with meter := m, adc := v } : State).seqr d q = (v.get d).sq.get q := rfl

theorem entWin_lt (e : Word) : entWin e < 2 := bitsOf_lt _ 16 1

theorem holderResult_effect {d : Fin 8} {q : Fin 2} {a : SeqSet} {entry cell : Nat} {c : ConvResult} {rail : Bool} {t : Nat}
    (he : entry < 16) (hc : cell < 72) (h0 : -32768 ≤ c.v) (h1 : c.v ≤ 32767) :
    Held s (s.holderResult d q a entry cell c rail t) d q entry cell c := by
  obtain ⟨m, v, hslot, hswap⟩ := slotted_effect s d q a entry cell t
  rw [holderResult_eq]
  generalize s.slotted d q a entry cell t = u at hslot ⊢
  have hw := resultWord_says (s := u) (d := d) (q := q) (c := c) he hc h0 h1
  generalize u.resultWord d q entry cell c = w at hw ⊢
  generalize u.endsEntry d a cell c = trig
  have hnoted := noted_effect u d q entry cell c w trig t
  have hwin := leavesWindow_noted u d q entry cell c w trig t (entWin_lt c.ent)
  generalize u.noted d q entry cell c w trig t = n at hnoted hwin ⊢
  have hdel := delivered_sampled (n.windowed d cell c t) d q entry cell c rail w trig t
  obtain ⟨hlast, -, hpend⟩ := windowed_effect n d cell c t
  refine ⟨?_, ?_, fun h64 hd hok hl => ?_⟩
  · rw [hdel.last d cell hc, hlast d cell hc, hnoted.sampled.last d cell hc, word_setWord_same]
    obtain ⟨e1, e2, e3, e4, e5, e6⟩ := hw
    refine ⟨e1, e2, e3, ?_, e5, ?_⟩
    · rw [e4, hslot, posLane_typed]
    · rw [e6, hslot, seqr_typed, hswap]
  · rw [hdel.pending, hpend, hnoted.pending, setWord_pending, hslot]
  · have hleave : n.leavesWindow d cell (entWin c.ent) c.v = true := by
      rw [hwin h64, hslot, leavesWindow_typed, hl]
    have hwd : n.windowed d cell c t = n.winCheck d cell (entWin c.ent) c.v t := by
      unfold windowed
      rw [if_pos (by simp [hd, hok])]
    rw [hwd] at hdel ⊢
    exact (winCheck_trips h64 hleave).sampled h64 hdel

/-- The newcomer's result is judged and compared alone (R157). -/
theorem newcomerResult_effect (s : State) (d : Fin 8) (entry : Nat) {cell : Nat} (hc : cell < 72) (c : ConvResult) (t : Nat) :
    (s.newcomerResult d entry cell c t).word (fldAddr d F.ADC_LAST cell 0) = s.word (fldAddr d F.ADC_LAST cell 0) ∧
      (s.newcomerResult d entry cell c t).meter = s.meter ∧ (s.newcomerResult d entry cell c t).pending = s.pending := by
  obtain ⟨hlast, hm, hp⟩ := windowed_effect s d cell c t
  obtain ⟨a, ha⟩ := compareResult_eq (s.windowed d cell c t) d true entry cell c.gain t c.r (!c.sat && c.ok)
  have h : s.newcomerResult d entry cell c t = { s.windowed d cell c t with adc := a } := ha
  rw [h]
  exact ⟨hlast d cell hc, hm, hp⟩

end State

end Sys2Proof.Machine

/-! # Comparators, latches and windows (R39, R144, R145, R471) -/

namespace Sys2Proof.Machine

namespace State

variable {s x y : State}

/-! ## What acquisition may change -/

/-- From `s` to `t` acquisition has run: registers, byte memory, units and groups alone may have changed. -/
def Acquired (s t : State) : Prop := ∃ r m u a g, t = { s with regs := r, mem := m, upsets := u, acq := a, group := g }

theorem Acquired.refl : Acquired s s := ⟨_, _, _, _, _, rfl⟩

theorem Acquired.trans (h : Acquired s x) (k : Acquired x y) : Acquired s y := by
  obtain ⟨r, m, u, a, g, rfl⟩ := h
  obtain ⟨r', m', u', a', g', rfl⟩ := k
  exact ⟨_, _, _, _, _, rfl⟩

theorem Acquired.ite {c : Prop} [Decidable c] {t u : State} (ht : Acquired s t) (hu : Acquired s u) : Acquired s (if c then t else u) := by
  split
  · exact ht
  · exact hu

theorem Acquired.foldl {α : Type} (f : State → α → State) (hf : ∀ y a, Acquired y (f y a)) (l : List α) (h : Acquired s x) :
    Acquired s (l.foldl f x) := by
  induction l generalizing x with
  | nil => exact h
  | cons a t ih => exact ih (h.trans (hf x a))

theorem Acquired.wr (h : Acquired s x) {d : Nat} {f : Fld} {v i j : Nat} : Acquired s (x.wr d f v i j) := by
  obtain ⟨r, m, u, a, g, rfl⟩ := h
  exact ⟨_, _, _, _, _, rfl⟩

theorem Acquired.updAcq (h : Acquired s x) (d u : Fin 8) (f : AcqUnit → AcqUnit) : Acquired s (x.updAcq d u f) := by
  obtain ⟨r, m, u, a, g, rfl⟩ := h
  exact ⟨_, _, _, _, _, rfl⟩

theorem Acquired.setBytes (h : Acquired s x) (k : Nat) (l : List Byte) : Acquired s (x.setBytes k l) := by
  induction l generalizing x k with
  | nil => exact h
  | cons b l ih =>
    obtain ⟨r, m, u, a, g, rfl⟩ := h
    exact ih ⟨_, _, _, _, _, rfl⟩ (k + 1)

theorem Acquired.groupSettle (h : Acquired s x) (d u : Fin 8) : Acquired s (x.groupSettle d u) := by
  refine h.foldl _ (fun y g => ?_) _
  dsimp only
  have hy : Acquired y { y with group := upd y.group g (fun _ =>
      { wait := (y.group.get g).wait.filter (fun v => v ≠ d.val * 8 + u.val) }) } := ⟨_, _, _, _, _, rfl⟩
  exact .ite (.ite hy.wr hy) .refl

theorem Acquired.acqSetSt (h : Acquired s x) (d u : Fin 8) (st : Nat) : Acquired s (x.acqSetSt d u st) :=
  .ite h.wr (h.wr.groupSettle d u)

theorem Acquired.acqPut (h : Acquired s x) (d u : Fin 8) (v : AcqSample) : Acquired s (x.acqPut d u v) :=
  .updAcq (.ite (.wr (.setBytes h _ _)) (.setBytes h _ _)) _ _ _

theorem Acquired.acqTrigger (h : Acquired s x) (d u : Fin 8) (g : AcqTrig) : Acquired s (x.acqTrigger d u g) := by
  unfold State.acqTrigger
  refine .ite ((h.acqSetSt d u 3).updAcq d u _) (.foldl _ (fun y v => ?_) _ ((h.acqSetSt d u 3).updAcq d u _))
  exact .ite .refl (Acquired.refl.acqPut d u v)

theorem Acquired.acqFire (h : Acquired s x) (d u : Fin 8) (src t : Nat) : Acquired s (x.acqFire d u src t) :=
  .ite h (.ite (.ite (h.updAcq d u _) h) (.ite (h.acqTrigger d u _) (.ite h.wr h)))

theorem Acquired.acqEvent (h : Acquired s x) (d : Fin 8) (src param t : Nat) : Acquired s (x.acqEvent d src param t) :=
  h.foldl _ (fun _ u => .ite (Acquired.refl.acqFire d u src t) .refl) _

theorem Acquired.pkg (h : Acquired s x) : x.pkg = s.pkg := by
  obtain ⟨r, m, u, a, g, rfl⟩ := h
  rfl

/-! ## INH follows the latches (R37, R39) -/

/-- One cause of one port's INH set or cleared; every other stays. -/
theorem inhBy_setInh_eq (p : Fin 32) (c : Fin 12) (b : Bool) (p' : Fin 32) (c' : Fin 12) :
    (s.setInh p c b).inhBy p' c' = if p' = p ∧ c' = c then b else s.inhBy p' c' := by
  have h : (s.setInh p c b).pkg = (s.putInh p c b).pkg := by
    have hacq : Acquired (s.putInh p c b) (s.setInh p c b) := .ite (Acquired.refl.acqEvent ..) .refl
    exact hacq.pkg
  rw [← inhBy_putInh]
  unfold inhBy
  rw [h]

theorem confined_setInh (p : Fin 32) (c : Fin 12) (b : Bool) : Confined outZones s (s.setInh p c b) := by
  cases b with
  | true => exact (Still.refl.setInh p c).words
  | false => exact Confined.refl

theorem tripLatched_congr (h : Confined outZones s x) (d : Fin 8) (k : Fin 4) : x.tripLatched d k = s.tripLatched d k := by
  unfold tripLatched
  rw [h.rd _ _ _ _ (by rw [zone_adc d (by simp only [F.ADC_TRIP]; omega) (by decide)]; decide),
    h.rd _ _ _ _ (by rw [zone_adc d (by decide) (by decide)]; decide)]

theorem portOf_inj {d : Fin 8} {j k : Fin 4} : portOf d j = portOf d k ↔ j = k := by
  simp only [portOf, Fin.ext_iff]
  omega

theorem tripInh_effect (s : State) (d : Fin 8) : Confined outZones s (s.tripInh d) ∧
    ∀ p : Fin 4, (s.tripInh d).inhBy (portOf d p) Inh.trip = (s.tripInh d).tripLatched d p := by
  have fold (l : List (Fin 4)) (y : State) :
      Confined outZones y (l.foldl (fun s k => s.setInh (portOf d k) Inh.trip (s.tripLatched d k)) y) ∧
        ∀ p : Fin 4, (l.foldl (fun s k => s.setInh (portOf d k) Inh.trip (s.tripLatched d k)) y).inhBy (portOf d p) Inh.trip =
          if p ∈ l then y.tripLatched d p else y.inhBy (portOf d p) Inh.trip := by
    induction l generalizing y with
    | nil => exact ⟨.refl, fun p => by simp⟩
    | cons k t ih =>
      have hstep : Confined outZones y (y.setInh (portOf d k) Inh.trip (y.tripLatched d k)) := confined_setInh _ _ _
      obtain ⟨hw, hi⟩ := ih (y.setInh (portOf d k) Inh.trip (y.tripLatched d k))
      refine ⟨hstep.trans hw, fun p => ?_⟩
      rw [List.foldl_cons, hi p, tripLatched_congr hstep, inhBy_setInh_eq]
      simp only [portOf_inj, and_true, List.mem_cons]
      by_cases hp : p = k
      · subst hp
        simp
      · simp [hp]
  obtain ⟨hw, hi⟩ := fold (List.finRange 4) s
  exact ⟨hw, fun p => (hi p).trans ((if_pos (List.mem_finRange p)).trans (tripLatched_congr hw d p).symm)⟩

theorem bitOf_and (a b j : Nat) : bitOf (a &&& b) j = (bitOf a j && bitOf b j) := by
  simp only [← testBit_eq_bitOf, Nat.testBit_and]

theorem bitOf_or (a b j : Nat) : bitOf (a ||| b) j = (bitOf a j || bitOf b j) := by
  simp only [← testBit_eq_bitOf, Nat.testBit_or]

/-- The complement of a mask. -/
theorem bitOf_mask (n m j : Nat) (hj : j < n) : bitOf (2 ^ n - 1 - m % 2 ^ n) j = !bitOf m j := by
  have hm : m % 2 ^ n < 2 ^ n := Nat.mod_lt _ (Nat.two_pow_pos n)
  rw [Nat.sub_sub, Nat.add_comm 1, ← testBit_eq_bitOf, Nat.testBit_two_pow_sub_succ hm, Nat.testBit_mod_two_pow, testBit_eq_bitOf]
  simp [hj]

theorem bitOf_mod {n m j : Nat} (hj : j < n) : bitOf (m % 2 ^ n) j = bitOf m j := by
  rw [← testBit_eq_bitOf, Nat.testBit_mod_two_pow, testBit_eq_bitOf]
  simp [hj]

theorem bitOf_toNat (v : Word) (j : Nat) : bitOf v.toNat j = v.getLsbD j := by
  rw [← testBit_eq_bitOf]
  rfl

/-- The latch bits of the two cell registers with some cleared. -/
theorem latchClear_cells (s : State) (d : Fin 8) (hi : Bool) (v : Word) : s.latchClear d (if hi then .hi else .lo) v.toNat =
    (s.wr d F.ADC_TRIP (s.rd d F.ADC_TRIP (b2n hi) &&& (2 ^ 32 - 1 - v.toNat % 2 ^ 32)) (b2n hi)).tripInh d := by
  cases hi <;> rfl

theorem latchClear_comparators (s : State) (d : Fin 8) (v : Word) : s.latchClear d .comparators v.toNat =
    (s.wr d F.ADC_TC_STAT_TRIP ((s.rd d F.ADC_TC_STAT_TRIP &&& (2 ^ 8 - 1 - v.toNat % 2 ^ 8)) ||| s.rd d F.ADC_TC_STAT_LEVEL)).tripInh d := rfl

theorem bit_wr_same {d : Nat} {f : Fld} {v i j k : Nat} (h : f.lo + f.w ≤ 32) (hk : k < f.w) : (s.wr d f v i j).bit d f k i j = bitOf v k := by
  unfold bit
  rw [rd_wr_same _ _ _ _ _ _ h, bitOf_mod hk]

theorem calm_tripInh (h : Calm s x) (d : Fin 8) : Calm s (x.tripInh d) :=
  calm_onPorts _ (fun y _ => calm_setInh _ _ _ (calm_refl y)) h

/-- A field of the front end outlives INH's following. -/
theorem rd_tripInh (s : State) (d : Fin 8) {f : Fld} {i : Nat} (hi : f.off + i * f.s1 < 0x50000) (ho : 0x40000 ≤ f.off) :
    (s.tripInh d).rd d f i = s.rd d f i := (tripInh_effect s d).1.rd _ _ _ _ (by rw [zone_adc d hi ho]; decide)

/-! ## Comparators -/

theorem compTrip_disabled {d k : Fin 8} (h : s.on d F.ADC_TC_EN k = false) : s.compTrip d k = s := if_neg (ne_true_of_eq_false h)

theorem apart_level_trip (d : Nat) : Apart d F.ADC_TC_STAT_TRIP 0 0 d F.ADC_TC_STAT_LEVEL 0 0 := .inr (by decide)

theorem compTrip_enabled {d k : Fin 8} (h : s.on d F.ADC_TC_EN k = true) : (s.compTrip d k).bit d F.ADC_TC_STAT_TRIP k = true ∧
    (s.compTrip d k).bit d F.ADC_TC_STAT_LEVEL k = true ∧ (s.compTrip d k).inhBy (portOf d ⟨k.val / 2, by omega⟩) Inh.trip = true ∧
    (s.compTrip d k).on d F.STL_P_HALT_HALTED (⟨k.val / 2, by omega⟩ : Fin 4) = true := by
  have hlevel : ((s.setBit d F.ADC_TC_STAT_LEVEL k).setBit d F.ADC_TC_STAT_TRIP k).bit d F.ADC_TC_STAT_LEVEL k = true := by
    have h1 : (s.setBit d F.ADC_TC_STAT_LEVEL k).bit d F.ADC_TC_STAT_LEVEL k = true := bit_setBit (by decide) k.isLt
    unfold bit at h1 ⊢
    rwa [setBit, rd_wr_apart _ _ _ _ _ _ _ _ _ _ (apart_level_trip d)]
  have htrip : ((s.setBit d F.ADC_TC_STAT_LEVEL k).setBit d F.ADC_TC_STAT_TRIP k).bit d F.ADC_TC_STAT_TRIP k = true :=
    bit_setBit (by decide) k.isLt
  obtain ⟨hinh, hhalt⟩ := hwTrip_effect ((s.setBit d F.ADC_TC_STAT_LEVEL k).setBit d F.ADC_TC_STAT_TRIP k) d ⟨k.val / 2, by omega⟩
    (s.devTime d)
  have hev : Still (((s.setBit d F.ADC_TC_STAT_LEVEL k).setBit d F.ADC_TC_STAT_TRIP k).hwTrip d ⟨k.val / 2, by omega⟩ (s.devTime d))
      (s.compTrip d k) := by
    unfold compTrip
    rw [if_pos h]
    exact .ite .refl (Still.refl.acqEvent d 7 k.val _)
  have hall := (Still.refl.hwTrip d ⟨k.val / 2, by omega⟩ (s.devTime d)).trans hev
  have kept (f : Fld) (hf : f.off = 0x41820 ∧ f.s1 = 0) : (s.compTrip d k).rd d f =
      ((s.setBit d F.ADC_TC_STAT_LEVEL k).setBit d F.ADC_TC_STAT_TRIP k).rd d f :=
    hall.words.rd _ _ _ _ (by rw [zone_adc d (by omega) (by omega)]; decide)
  refine ⟨?_, ?_, hev.inh _ _ hinh, hev.halt _ _ hhalt⟩
  · unfold bit at htrip ⊢
    rwa [kept _ (by decide)]
  · unfold bit at hlevel ⊢
    rw [kept _ (by decide)]
    exact hlevel

theorem comparatorRelease_effect (s : State) (d k : Fin 8) : (s.clrBit d F.ADC_TC_STAT_LEVEL k).bit d F.ADC_TC_STAT_LEVEL k = false ∧
    (s.clrBit d F.ADC_TC_STAT_LEVEL k).rd d F.ADC_TC_STAT_TRIP = s.rd d F.ADC_TC_STAT_TRIP ∧
    WritesOnly [fldAddr d F.ADC_TC_STAT_LEVEL 0 0] s (s.clrBit d F.ADC_TC_STAT_LEVEL k) := by
  unfold clrBit
  split
  · next h =>
    refine ⟨?_, rd_wr_apart _ _ _ _ _ _ _ _ _ _ (.inr (by decide)), writesOnly_wr List.mem_cons_self writesOnly_refl⟩
    rw [bit_wr_same (by decide) k.isLt]
    rw [← testBit_eq_bitOf] at h ⊢
    have := Nat.testBit_two_pow_add_eq (s.rd d F.ADC_TC_STAT_LEVEL - 2 ^ k.val) k.val
    rw [Nat.add_sub_cancel' (Nat.ge_two_pow_of_testBit h), h] at this
    simpa using this.symm
  · next h => exact ⟨by simpa [bit] using h, rfl, writesOnly_refl⟩

end State

end Sys2Proof.Machine

namespace Sys2Proof.Machine

namespace State

variable {s x y : State}

/-! ## Windows and common-mode faults -/

/-- A new set of window bits of which one is not covered. -/
def uncovered (s : State) (d : Fin 8) (w : Nat) (hi : Bool) (v : Word) : Bool :=
  (List.range 32).any (fun b => bitOf v.toNat b && !bitOf (s.rd d F.ADC_TWEN w (b2n hi)) b && !s.winCovered d (32 * b2n hi + b) w)

theorem winEnable_eq (s : State) (d : Fin 8) (w : Nat) (hi : Bool) (v : Word) : s.winEnable d w hi v.toNat =
    if s.uncovered d w hi v then
      (s.wr d F.ADC_TWEN (s.rd d F.ADC_TWEN w (b2n hi) &&& v.toNat) w (b2n hi)).adcErr d F.ADC_ERR_TW_UNCOVERED
    else s.wr d F.ADC_TWEN v.toNat w (b2n hi) := rfl

theorem uncovered_iff (s : State) (d : Fin 8) (w : Nat) (hi : Bool) (v : Word) : s.uncovered d w hi v = false ↔
    ∀ b, b < 32 → v.getLsbD b = true → s.bit d F.ADC_TWEN b w (b2n hi) = false → s.winCovered d (32 * b2n hi + b) w = true := by
  unfold uncovered bit
  simp only [List.any_eq_false, List.mem_range, bitOf_toNat, Bool.and_eq_true, Bool.not_eq_true', not_and, Bool.not_eq_false]
  exact ⟨fun h b hb hv ho => h b hb ⟨hv, ho⟩, fun h b hb ⟨hv, ho⟩ => h b hb hv ho⟩

theorem rd_raise {d : Nat} {ev first : Fld} {i d' i' j' : Nat} {g : Fld} (h : Apart d ev i 0 d' g i' j') (h' : Apart d first i 0 d' g i' j') :
    (s.raise d ev first i).rd d' g i' j' = s.rd d' g i' j' := by
  unfold raise
  dsimp only
  split
  · rw [rd_wr_apart _ _ _ _ _ _ _ _ _ _ h', rd_wr_apart _ _ _ _ _ _ _ _ _ _ h]
  · exact rd_wr_apart _ _ _ _ _ _ _ _ _ _ h

theorem winEnable_uncovered {d : Fin 8} {w : Nat} {hi : Bool} {v : Word} (hw : w < 2) (h : s.uncovered d w hi v = true) :
    (s.winEnable d w hi v.toNat).on d F.ADC_ERR_TW_UNCOVERED = true ∧
      (s.winEnable d w hi v.toNat).rd d F.ADC_TWEN w (b2n hi) = s.rd d F.ADC_TWEN w (b2n hi) &&& v.toNat := by
  have hb : b2n hi < 2 := by cases hi <;> decide
  have apart {g : Fld} (hg : g.off = 0x4000C ∧ g.s1 = 0) : Apart d g 0 0 d F.ADC_TWEN w (b2n hi) := by
    refine .inl ?_
    simp only [fldAddr, regAddr, hg, F.ADC_TWEN]
    omega
  rw [winEnable_eq, if_pos h]
  refine ⟨on_raise (by decide) rfl (by decide), ?_⟩
  unfold adcErr
  rw [rd_raise (apart (by decide)) (apart (by decide)), rd_wr_same _ _ _ _ _ _ (by decide)]
  exact Nat.mod_eq_of_lt (Nat.and_lt_two_pow _ v.isLt)

theorem winEnable_covered {d : Fin 8} {w : Nat} {hi : Bool} {v : Word} (h : s.uncovered d w hi v = false) :
    (s.winEnable d w hi v.toNat).rd d F.ADC_TWEN w (b2n hi) = v.toNat ∧
      WritesOnly [fldAddr d F.ADC_TWEN w (b2n hi)] s (s.winEnable d w hi v.toNat) := by
  rw [winEnable_eq, if_neg (ne_true_of_eq_false h)]
  refine ⟨?_, writesOnly_wr List.mem_cons_self writesOnly_refl⟩
  rw [rd_wr_same _ _ _ _ _ _ (by decide)]
  exact Nat.mod_eq_of_lt v.isLt

theorem rd_faults (v : Faults) (d : Nat) (f : Fld) (i j : Nat) : ({ s with faults := v } : State).rd d f i j = s.rd d f i j := rfl

theorem Still.cellLost (h : Still s x) (d : Fin 8) (c : Nat) : Still s (x.cellLost d c) := by
  unfold State.cellLost
  split
  · exact .ite (h.degrade d _ 1) (.ite (h.degrade d _ 0) h)
  · exact h

/-- A cell fault touches no field of the front end but the cell's own RETIRED. -/
theorem rd_cellFault {d : Fin 8} {c code : Nat} {data : List Nat} {g : Fld} {i : Nat} (hc : c < 72)
    (hi : g.off + i * g.s1 < 0x50000) (ho : 0x40000 ≤ g.off) (ha : Apart d F.ADC_CELL_RETIRED c 0 d g i 0) :
    (s.fault d 1 0x04 c code data).rd d g i = s.rd d g i := by
  have hz : zone (fldAddr d g i 0) ∉ outZones := by
    rw [zone_adc d hi ho]
    decide
  have kept {z t : State} (h : Still z t) : t.rd d g i = z.rd d g i := h.words.rd _ _ _ _ hz
  unfold fault
  cases hr : s.isRetired d 1 0x04 c with
  | true => rw [countFault_retired hr]
  | false =>
    cases hq : s.inResponse d 1 with
    | true =>
      rw [countFault_quiet hr hq]
      exact kept (Still.refl.log ..)
    | false =>
      obtain ⟨l, y, n, hy, e | e⟩ := countFault_counted (code := code) (data := data) hr hq <;> rw [e]
      · exact (kept hy).trans (rd_faults ..)
      · have effect (z : State) : z.retiredEffect d 1 0x04 c = (z.wr d F.ADC_CELL_RETIRED 1 c).cellLost d c := by
          unfold retiredEffect
          rw [if_pos ⟨rfl, rfl, hc⟩]
        unfold retireElem
        dsimp only
        rw [effect]
        refine (kept ((Still.refl.cellLost d c).info d _ _ _ _)).trans ((rd_wr_apart _ _ _ _ _ _ _ _ _ _ ha).trans ?_)
        exact (kept (Still.refl.satCnt (f := F.DIE_FCNT_RETIRED))).trans ((rd_faults ..).trans ((kept hy).trans (rd_faults ..)))

theorem cellCm_effect (s : State) (d : Fin 8) {c : Nat} (hc : c < 72) : (s.cellCm d c).on d F.ADC_CELL_CM_ERR c = true ∧
    (s.cellCm d c).on d F.ADC_ERR_CELL_CM = true ∧ Keeps s (s.cellCm d c) ∧
    (s.on d F.ADC_ERR_CELL_CM = false → (s.cellCm d c).rd d F.ADC_ERR_CELL = c) := by
  have apart {f g : Fld} {i j : Nat} (hf : f.off = 0x4000C ∧ f.s1 = 0) (hg : g.off = 0x41000 ∧ g.s1 = 4 ∧ j < 72) :
      Apart d f i 0 d g j 0 ∧ Apart d g j 0 d f i 0 := by
    obtain ⟨h0, h1⟩ := hf
    obtain ⟨h2, h3, hj⟩ := hg
    refine ⟨.inl ?_, .inl ?_⟩ <;> simp only [fldAddr, regAddr, h0, h1, h2, h3] <;> omega
  have hend {g : Fld} {i : Nat} (hi : g.off + i * g.s1 < 0x50000) (ho : 0x40000 ≤ g.off) (ha : Apart d F.ADC_CELL_RETIRED c 0 d g i 0) :
      (s.cellCm d c).rd d g i = ((((if s.on d F.ADC_ERR_CELL_CM then s else s.wr d F.ADC_ERR_CELL c).wr d F.ADC_CELL_CM_ERR 1 c).adcErr d
        F.ADC_ERR_CELL_CM)).rd d g i := rd_cellFault hc hi ho ha
  refine ⟨?_, ?_, ?_, fun h => ?_⟩
  · unfold on
    rw [hend (by simp only [F.ADC_CELL_CM_ERR]; omega) (by decide) (.inr (by decide))]
    unfold adcErr
    rw [rd_raise (apart (by decide) ⟨rfl, rfl, hc⟩).1 (apart (by decide) ⟨rfl, rfl, hc⟩).1]
    exact on_wr_one (by decide) rfl
  · unfold on
    rw [hend (by decide) (by decide) (apart (by decide) ⟨rfl, rfl, hc⟩).2]
    exact on_raise (by decide) rfl (by decide)
  · have hcalm : Calm s (if s.on d F.ADC_ERR_CELL_CM then s else s.wr d F.ADC_ERR_CELL c) := by
      split
      · exact calm_refl s
      · exact calm_wr _ _ _ _ _ (calm_refl s)
    exact (calm_fault _ _ _ _ _ _ (calm_raise _ _ _ _ (calm_wr _ _ _ _ _ hcalm))).keeps
  · rw [hend (by decide) (by decide) (apart (by decide) ⟨rfl, rfl, hc⟩).2]
    unfold adcErr
    rw [rd_raise (.inr (by decide)) (.inr (by decide)), rd_wr_apart _ _ _ _ _ _ _ _ _ _ (apart (by decide) ⟨rfl, rfl, hc⟩).2,
      if_neg (ne_true_of_eq_false h), rd_wr_same _ _ _ _ _ _ (by decide)]
    exact Nat.mod_eq_of_lt (by simp only [F.ADC_ERR_CELL]; omega)

/-! ## Conversions taken and passed over -/

/-- A conversion that a running position delivers, of an entry that converts the cell. -/
def Delivers (s : State) (d : Fin 8) (q : Fin 2) (a : SeqSet) (entry : Fin 16) (cell : Fin 72) : Prop :=
  s.sqRuns d q = true ∧ (s.seqr d q).unserved = false ∧ entry.val < a.ents.length ∧
    cell.val ∈ entryCells (a.ents.getD entry.val 0) a.scans ∧ s.cellExists d cell.val = true

/-- A cell whose results are put somewhere: enabled and not retired. -/
def Puts (s : State) (d : Fin 8) (cell : Fin 72) : Prop :=
  s.on d F.ADC_CELL_EN cell.val = true ∧ s.on d F.ADC_CELL_RETIRED cell.val = false

/-- The correction of a position's lane (R152). -/
def posCorr (s : State) (d : Fin 8) (q : Fin 2) : Option CorrSet :=
  if h : s.posLane d q < 3 then (s.laneOf d ⟨s.posLane d q, h⟩).working else none

variable {d : Fin 8} {q : Fin 2} {a : SeqSet} {entry : Fin 16} {cell : Fin 72} {code : Int} {rail : Bool} {tm : Nat}

/-- Whether a conversion is passed over, as the model decides it. -/
def passedOver (s : State) (d : Fin 8) (q : Fin 2) (a : SeqSet) (entry : Fin 16) (cell : Fin 72) : Bool :=
  !s.sqRuns d q || (s.seqr d q).unserved || decide (a.ents.length ≤ entry.val) ||
    !(entryCells (a.ents.getD entry.val 0) a.scans).contains cell.val || !s.cellLive d cell.val

theorem passedOver_of_live (hl : s.Delivers d q a entry cell) (hp : s.Puts d cell) : s.passedOver d q a entry cell = false := by
  obtain ⟨hrun, hserved, hlen, hcell, hex⟩ := hl
  obtain ⟨hen, hret⟩ := hp
  unfold passedOver cellLive
  simp only [hrun, hserved, hen, hret, hex, List.contains_iff_mem.mpr hcell, Bool.or_eq_false_iff, decide_eq_false_iff_not]
  simpa using hlen

theorem passedOver_of_not_puts (hp : ¬s.Puts d cell) : s.passedOver d q a entry cell = true := by
  have hlive : s.cellLive d cell = false := by
    unfold Puts at hp
    unfold cellLive
    cases hen : s.on d F.ADC_CELL_EN cell.val
    · simp
    · simpa [hen] using fun _ => hp
  unfold passedOver
  simp [hlive]

theorem conversion_eq (ha : (s.seqr d q).active = some a) (b : Bool) : s.conversion d q entry cell code rail b tm =
    if s.passedOver d q a entry cell then s
    else if b then
      match s.calLane d with
      | none => s
      | some k =>
        if s.beside d = some q then
          s.newcomerResult d entry.val cell.val (s.convResult d a entry.val cell.val (s.laneSet d k) code rail tm) tm
        else s
    else s.holderResult d q a entry.val cell.val (s.convResult d a entry.val cell.val (s.posCorr d q) code rail tm) rail tm := by
  unfold conversion
  rw [ha]
  rfl

theorem conversion_holder (ha : (s.seqr d q).active = some a) (hl : s.Delivers d q a entry cell) (hp : s.Puts d cell) :
    Held s (s.conversion d q entry cell code rail false tm) d q entry.val cell.val
      (s.convResult d a entry.val cell.val (s.posCorr d q) code rail tm) := by
  obtain ⟨h0, h1⟩ := clampI_bounds (lo := -32768) (hi := 32767) (by decide)
    (rhuI ((Config.laneCorr (s.posCorr d q) (entGain (a.ents.getD entry.val 0) a.gains cell.val) code -
      (s.coefOf d cell.val (entGain (a.ents.getD entry.val 0) a.gains cell.val) tm).1) *
        (s.coefOf d cell.val (entGain (a.ents.getD entry.val 0) a.gains cell.val) tm).2) (2 ^ 20))
  rw [conversion_eq ha, passedOver_of_live hl hp]
  exact holderResult_effect entry.isLt cell.isLt h0 h1

theorem conversion_newcomer (ha : (s.seqr d q).active = some a) (hl : s.Delivers d q a entry cell) (hp : s.Puts d cell) :
    (s.conversion d q entry cell code rail true tm).word (fldAddr d F.ADC_LAST cell.val 0) = s.word (fldAddr d F.ADC_LAST cell.val 0) ∧
      (s.conversion d q entry cell code rail true tm).meter = s.meter ∧
      (s.conversion d q entry cell code rail true tm).pending = s.pending := by
  rw [conversion_eq ha, passedOver_of_live hl hp]
  simp only [Bool.false_eq_true, if_false, if_true]
  split
  · exact ⟨rfl, rfl, rfl⟩
  · split
    · exact newcomerResult_effect s d _ cell.isLt _ tm
    · exact ⟨rfl, rfl, rfl⟩

theorem conversion_passed (ha : (s.seqr d q).active = some a) (hp : ¬s.Puts d cell) (b : Bool) :
    s.conversion d q entry cell code rail b tm = s := by
  rw [conversion_eq ha, passedOver_of_not_puts hp]
  rfl

/-! ## Latches cleared -/

theorem tripLatchClear_cells (s : State) (d : Fin 8) (hi : Bool) (v : Word) :
    (∀ j, j < 32 → (s.latchClear d (if hi then .hi else .lo) v.toNat).bit d F.ADC_TRIP j (b2n hi) =
        (s.bit d F.ADC_TRIP j (b2n hi) && !v.getLsbD j)) ∧
      (∀ p : Fin 4, (s.latchClear d (if hi then .hi else .lo) v.toNat).inhBy (portOf d p) Inh.trip =
        (s.latchClear d (if hi then .hi else .lo) v.toNat).tripLatched d p) ∧
      Keeps s (s.latchClear d (if hi then .hi else .lo) v.toNat) := by
  have hb : b2n hi < 2 := by cases hi <;> decide
  rw [latchClear_cells]
  refine ⟨fun j hj => ?_, (tripInh_effect _ d).2, (calm_tripInh (calm_wr _ _ _ _ _ (calm_refl s)) d).keeps⟩
  unfold bit
  rw [rd_tripInh _ _ (by simp only [F.ADC_TRIP]; omega) (by decide), rd_wr_same _ _ _ _ _ _ (by decide), bitOf_mod (by exact hj), bitOf_and,
    bitOf_mask 32 _ _ hj, bitOf_toNat]

theorem tripLatchClear_comparators (s : State) (d : Fin 8) (v : Word) :
    (∀ j, j < 8 → (s.latchClear d .comparators v.toNat).bit d F.ADC_TC_STAT_TRIP j =
        (s.bit d F.ADC_TC_STAT_TRIP j && !v.getLsbD j || s.bit d F.ADC_TC_STAT_LEVEL j)) ∧
      (∀ p : Fin 4, (s.latchClear d .comparators v.toNat).inhBy (portOf d p) Inh.trip = (s.latchClear d .comparators v.toNat).tripLatched d p) ∧
      Keeps s (s.latchClear d .comparators v.toNat) := by
  rw [latchClear_comparators]
  refine ⟨fun j hj => ?_, (tripInh_effect _ d).2, (calm_tripInh (calm_wr _ _ _ _ _ (calm_refl s)) d).keeps⟩
  unfold bit
  rw [rd_tripInh _ _ (by decide) (by decide), rd_wr_same _ _ _ _ _ _ (by decide), bitOf_mod (by exact hj), bitOf_or, bitOf_and,
    bitOf_mask 8 _ _ hj, bitOf_toNat]

end State

/-- Settles O37. A holder's result is followed through its destinations (`holderResult_effect`): what comes after the comparison with the
window keeps latest samples, trips, INH and halts (`Sampled`). -/
theorem conversionsAndTrips : Obligations.ConversionsAndTrips := by
  unfold Obligations.ConversionsAndTrips
  intro s d q entry cell code rail tm k v
  refine ⟨fun a ha => ⟨fun hl hp => ⟨_, rfl, ?_⟩, fun hl hp => ⟨_, rfl, ?_⟩, fun hp b => ⟨_, rfl, State.conversion_passed ha hp b⟩⟩,
    ⟨fun h => ⟨_, rfl, State.compTrip_enabled h⟩, fun h => ⟨_, rfl, State.compTrip_disabled h⟩, ⟨_, rfl, State.comparatorRelease_effect s d k⟩⟩,
    fun hi => ⟨_, rfl, State.tripLatchClear_cells s d hi v⟩, ⟨_, rfl, State.tripLatchClear_comparators s d v⟩, fun win hi => ?_,
    fun h => ⟨_, rfl, ?_⟩, fun h => ⟨_, rfl, if_neg (ne_true_of_eq_false h)⟩⟩
  · obtain ⟨⟨hval, hcell, hentry, hlane, hsat, hswap⟩, hpend, htrips⟩ :=
      State.conversion_holder (code := code) (rail := rail) (tm := tm) ha hl hp
    refine ⟨hval, hcell, hentry, hlane, hsat, hswap, hpend, fun h64 hd hok hwin hout => ?_⟩
    have hleave : s.leavesWindow d cell.val (State.entWin (a.ents.getD entry.val 0))
        (s.convResult d a entry.val cell.val (s.posCorr d q) code rail tm).v = true := by
      unfold State.leavesWindow
      simp only [hwin, Bool.true_and, Bool.or_eq_true, decide_eq_true_eq]
      exact hout
    obtain ⟨hlatch, hinh, hhalt⟩ := htrips h64 hd hok hleave
    exact ⟨hlatch, hinh, hhalt⟩
  · obtain ⟨hword, hrest⟩ := State.conversion_newcomer (code := code) (rail := rail) (tm := tm) ha hl hp
    exact ⟨congrArg BitVec.toNat hword, hrest⟩
  · have hw : (match win with | .a => 0 | .b => 1) < 2 := by cases win <;> decide
    refine ⟨fun hok => ⟨_, rfl, State.winEnable_covered ((s.uncovered_iff d _ hi v).mpr hok)⟩,
      fun hok => ⟨_, rfl, State.winEnable_uncovered hw ?_⟩⟩
    exact (Bool.not_eq_false _).mp (fun h => hok ((s.uncovered_iff d _ hi v).mp h))
  · rw [if_pos h]
    exact s.cellCm_effect d cell.isLt

end Sys2Proof.Machine

/-! # Acquisition: rules of the state's operations

Unit registers, the group's settling, a unit's state code, byte memory, and the header of a segment. -/

namespace Sys2Proof.Machine

namespace State

variable {s x y : State}

/-! ## Unit registers -/

/-- A register of an acquisition unit. -/
def unitReg (f : Fld) : Bool := decide (0x60100 ≤ f.off) && decide (f.off < 0x60140) && decide (f.s1 = 0x40)

/-- Two fields of the units' registers that share no bit. -/
def distinct (f g : Fld) : Bool := f.off != g.off || decide (f.lo + f.w ≤ g.lo) || decide (g.lo + g.w ≤ f.lo)

theorem apart_unit {f g : Fld} {d e u v : Fin 8} (hf : unitReg f = true) (hg : unitReg g = true)
    (h : distinct f g = true ∨ ¬(e = d ∧ v = u)) : Apart d f u 0 e g v 0 := by
  simp only [unitReg, Bool.and_eq_true, decide_eq_true_eq] at hf hg
  simp only [distinct, Bool.or_eq_true, bne_iff_ne, decide_eq_true_eq, Fin.ext_iff] at h
  unfold Apart fldAddr regAddr
  rw [hf.2, hg.2]
  omega

/-- A register of the acquisition engine that lies below the groups'. -/
def belowGroups (f : Fld) : Bool := decide (f.off + 7 * f.s1 < 0x60800)

theorem apart_group {f g : Fld} {d u i : Fin 8} (hf : belowGroups f = true) (hg : 0x60800 ≤ g.off ∧ g.off < 0x60808 ∧ g.s1 = 8) :
    Apart d f u 0 0 g i 0 ∧ Apart 0 g i 0 d f u 0 := by
  have hm : u.val * f.s1 ≤ 7 * f.s1 := Nat.mul_le_mul_right _ (by omega)
  simp only [belowGroups, decide_eq_true_eq] at hf
  unfold Apart fldAddr regAddr
  rw [hg.2.2]
  omega

theorem acqU_updAcq (d u : Fin 8) (f : AcqUnit → AcqUnit) (e v : Fin 8) :
    (s.updAcq d u f).acqU e v = if e = d ∧ v = u then f (s.acqU d u) else s.acqU e v := by
  unfold acqU updAcq
  by_cases he : e = d
  · subst he
    rw [get_upd_same]
    dsimp only
    by_cases hv : v = u
    · subst hv
      rw [get_upd_same, if_pos ⟨rfl, rfl⟩]
    · rw [get_upd_ne _ _ hv, if_neg (fun h => hv h.2)]
  · rw [get_upd_ne _ _ he, if_neg (fun h => he h.1)]

theorem acqU_updAcq_same (d u : Fin 8) (f : AcqUnit → AcqUnit) : (s.updAcq d u f).acqU d u = f (s.acqU d u) := by
  rw [acqU_updAcq, if_pos ⟨rfl, rfl⟩]

theorem rd_updAcq (s : State) (d u : Fin 8) (f : AcqUnit → AcqUnit) (e : Nat) (g : Fld) (i j : Nat) :
    (s.updAcq d u f).rd e g i j = s.rd e g i j := rfl

theorem mem_updAcq (s : State) (d u : Fin 8) (f : AcqUnit → AcqUnit) : (s.updAcq d u f).mem = s.mem := rfl

theorem pending_updAcq (s : State) (d u : Fin 8) (f : AcqUnit → AcqUnit) : (s.updAcq d u f).pending = s.pending := rfl

theorem acqU_of_acq (h : x.acq = s.acq) (d u : Fin 8) : x.acqU d u = s.acqU d u := by
  unfold acqU
  rw [h]

/-! ## Groups and the state code -/

/-- From `s` to `t` a group may have re-armed: groups and their ARMED bits alone have changed. -/
structure Settled (s t : State) : Prop where
  eq : ∃ r g, t = { s with regs := r, group := g }
  words : ∀ a, (∀ g : Fin 8, a ≠ fldAddr 0 F.ACQ_GRP_CTRL_ARMED g 0) → t.word a = s.word a

theorem Settled.refl : Settled s s := ⟨⟨_, _, rfl⟩, fun _ _ => rfl⟩

theorem Settled.trans (h : Settled s x) (k : Settled x y) : Settled s y := by
  obtain ⟨r, g, e⟩ := h.eq
  obtain ⟨r', g', e'⟩ := k.eq
  exact ⟨⟨r', g', by rw [e', e]⟩, fun a ha => (k.words a ha).trans (h.words a ha)⟩

theorem Settled.ite {c : Prop} [Decidable c] {t u : State} (ht : Settled s t) (hu : Settled s u) : Settled s (if c then t else u) := by
  split
  · exact ht
  · exact hu

theorem Settled.foldl {α : Type} (f : State → α → State) (hf : ∀ y a, Settled y (f y a)) (l : List α) (h : Settled s x) :
    Settled s (l.foldl f x) := by
  induction l generalizing x with
  | nil => exact h
  | cons a t ih => exact ih (h.trans (hf x a))

theorem Settled.group (v : Vector AcqGroup 8) : Settled s { s with group := v } := ⟨⟨_, _, rfl⟩, fun _ _ => rfl⟩

theorem Settled.armed (h : Settled s x) (g : Fin 8) : Settled s (x.wr 0 F.ACQ_GRP_CTRL_ARMED 1 g) :=
  h.trans ⟨⟨_, _, rfl⟩, fun _ ha => word_wr_ne _ _ _ _ _ _ _ (ha g)⟩

theorem settled_groupSettle (s : State) (d u : Fin 8) : Settled s (s.groupSettle d u) := by
  refine Settled.refl.foldl _ (fun y g => ?_) _
  dsimp only
  exact .ite (.ite ((Settled.group _).armed g) (.group _)) .refl

theorem Settled.rd (h : Settled s x) {d i : Fin 8} {f : Fld} (hf : belowGroups f = true := by decide) : x.rd d f i = s.rd d f i := by
  unfold State.rd
  rw [h.words]
  intro g
  simp only [belowGroups, decide_eq_true_eq] at hf
  have hm : i.val * f.s1 ≤ 7 * f.s1 := Nat.mul_le_mul_right _ (by omega)
  simp only [fldAddr, regAddr, F.ACQ_GRP_CTRL_ARMED]
  omega

theorem Settled.acq (h : Settled s x) : x.acq = s.acq := by
  obtain ⟨r, g, rfl⟩ := h.eq
  rfl

theorem Settled.mem (h : Settled s x) : x.mem = s.mem := by
  obtain ⟨r, g, rfl⟩ := h.eq
  rfl

theorem Settled.pending (h : Settled s x) : x.pending = s.pending := by
  obtain ⟨r, g, rfl⟩ := h.eq
  rfl

theorem Settled.now (h : Settled s x) : x.now = s.now := by
  obtain ⟨r, g, rfl⟩ := h.eq
  rfl

theorem settled_acqSetSt (s : State) (d u : Fin 8) (st : Nat) : Settled (s.wr d F.ACQ_U_STAT_STATE st u) (s.acqSetSt d u st) :=
  .ite .refl (settled_groupSettle ..)

theorem acqSetSt_recording (s : State) (d u : Fin 8) : s.acqSetSt d u 3 = s.wr d F.ACQ_U_STAT_STATE 3 u := by
  unfold acqSetSt
  exact if_pos rfl

theorem acqSt_acqSetSt (s : State) (d u : Fin 8) {st : Nat} (h : st < 8) : (s.acqSetSt d u st).acqSt d u = st := by
  unfold acqSt
  rw [(settled_acqSetSt s d u st).rd, rd_wr_same _ _ _ _ _ _ (by decide)]
  exact Nat.mod_eq_of_lt h

/-- A unit's other fields, and other units', outlive its state code. -/
theorem rd_acqSetSt {d u e v : Fin 8} {st : Nat} {f : Fld} (hf : unitReg f = true := by decide)
    (h : distinct F.ACQ_U_STAT_STATE f = true ∨ ¬(e = d ∧ v = u) := by decide) (hb : belowGroups f = true := by decide) :
    (s.acqSetSt d u st).rd e f v = s.rd e f v := by
  rw [(settled_acqSetSt s d u st).rd hb]
  exact rd_wr_apart _ _ _ _ _ _ _ _ _ _ (apart_unit (by decide) hf h)

theorem acq_acqSetSt (s : State) (d u : Fin 8) (st : Nat) : (s.acqSetSt d u st).acq = s.acq :=
  (settled_acqSetSt s d u st).acq.trans (wr_acq ..)

theorem mem_acqSetSt (s : State) (d u : Fin 8) (st : Nat) : (s.acqSetSt d u st).mem = s.mem :=
  (settled_acqSetSt s d u st).mem.trans (wr_mem ..)

theorem pending_acqSetSt (s : State) (d u : Fin 8) (st : Nat) : (s.acqSetSt d u st).pending = s.pending :=
  (settled_acqSetSt s d u st).pending.trans (wr_pending ..)

theorem now_acqSetSt (s : State) (d u : Fin 8) (st : Nat) : (s.acqSetSt d u st).now = s.now :=
  (settled_acqSetSt s d u st).now.trans (wr_now ..)

/-! ## Byte memory -/

/-- From `s` to `t` byte memory alone has changed. -/
def MemOnly (s t : State) : Prop := ∃ m u, t = { s with mem := m, upsets := u }

theorem MemOnly.refl : MemOnly s s := ⟨_, _, rfl⟩

theorem MemOnly.setBytes (h : MemOnly s x) (k : Nat) (l : List Byte) : MemOnly s (x.setBytes k l) := by
  induction l generalizing x k with
  | nil => exact h
  | cons b l ih =>
    obtain ⟨m, u, rfl⟩ := h
    exact ih ⟨_, _, rfl⟩ (k + 1)

theorem MemOnly.setMwords (h : MemOnly s x) (k : Nat) (l : List Word) : MemOnly s (x.setMwords k l) := by
  induction l generalizing x k with
  | nil => exact h
  | cons w l ih => exact ih (h.setBytes k _) (k + 4)

theorem MemOnly.regs (h : MemOnly s x) : x.regs = s.regs := by
  obtain ⟨m, u, rfl⟩ := h
  rfl

theorem MemOnly.acq (h : MemOnly s x) : x.acq = s.acq := by
  obtain ⟨m, u, rfl⟩ := h
  rfl

theorem MemOnly.pending (h : MemOnly s x) : x.pending = s.pending := by
  obtain ⟨m, u, rfl⟩ := h
  rfl

theorem byte_setMwords_out (l : List Word) (s : State) (k a : Nat) (h : a < k ∨ k + 4 * l.length ≤ a) : (s.setMwords k l).byte a = s.byte a := by
  induction l generalizing s k with
  | nil => rfl
  | cons w l ih =>
    rw [List.length_cons] at h
    exact (ih (s.setMword k w) (k + 4) (by omega)).trans (byte_setMword_out _ _ _ _ (by omega))

theorem mword_congr {k : Nat} (h : ∀ i, i < 4 → x.byte (k + i) = s.byte (k + i)) : x.mword k = s.mword k := by
  unfold mword bytes
  congr 2
  exact List.map_congr_left (fun i hi => h i (List.mem_range.mp hi))

/-- Words written one after another read back. -/
theorem mwords_setMwords (l : List Word) (s : State) (k : Nat) : (List.range l.length).map (fun j => (s.setMwords k l).mword (k + 4 * j)) = l := by
  induction l generalizing s k with
  | nil => rfl
  | cons w l ih =>
    have hhead : ((s.setMword k w).setMwords (k + 4) l).mword k = w := by
      rw [mword_congr (s := s.setMword k w) (fun i hi => byte_setMwords_out _ _ _ _ (by omega)), mword_setMword_same]
    have htail := ih (s.setMword k w) (k + 4)
    rw [List.length_cons, List.range_succ_eq_map, List.map_cons, List.map_map]
    refine List.cons_eq_cons.mpr ⟨hhead, Eq.trans (List.map_congr_left (fun j _ => ?_)) htail⟩
    show ((s.setMword k w).setMwords (k + 4) l).mword (k + 4 * (j + 1)) = _
    rw [Nat.mul_add, Nat.mul_one, Nat.add_comm (4 * j), Nat.add_assoc]

/-! ## Headers (R337) -/

theorem length_acqHeader (s : State) (d u : Fin 8) : (s.acqHeader d u).length = 8 := rfl

/-- The header of a unit's open segment stands in memory as it was in `q`, and no byte beside it has changed since `s`. -/
structure HeadWritten (s q t : State) (d u : Fin 8) : Prop where
  words : (List.range 8).map (fun j => t.mword (capKey d (s.acqHead d u) + 4 * j)) = q.acqHeader d u
  bytes : ∀ k, k < capKey d (s.acqHead d u) ∨ capKey d (s.acqHead d u) + 32 ≤ k → t.byte k = s.byte k

theorem acqWriteHead_written (s : State) (d u : Fin 8) : HeadWritten s s (s.acqWriteHead d u) d u :=
  ⟨mwords_setMwords (s.acqHeader d u) s _, fun k hk => byte_setMwords_out _ _ _ _ (by rw [length_acqHeader]; omega)⟩

theorem HeadWritten.mem {q t : State} {d u : Fin 8} (h : HeadWritten s q x d u) (hm : t.mem = x.mem) : HeadWritten s q t d u := by
  refine ⟨?_, fun k hk => (byte_of_mem hm k).trans (h.bytes k hk)⟩
  rw [← h.words]
  exact List.map_congr_left (fun j _ => mword_of_mem hm _)

theorem memOnly_acqWriteHead (s : State) (d u : Fin 8) : MemOnly s (s.acqWriteHead d u) := MemOnly.refl.setMwords _ _

end State

end Sys2Proof.Machine

/-! # Arming and force (R327, R328, R330, R331) -/

namespace Sys2Proof.Machine

namespace State

variable {s x y : State} {d u : Fin 8}

/-! ## Arming -/

/-- A configuration that ARM turns away (R330). -/
def ArmBad (s : State) (d u : Fin 8) : Prop :=
  s.rd d F.ACQ_U_LEN_LEN u < 16 ∨
    (u.val < 2 ∧ (262144 < s.rd d F.ACQ_U_LEN_LEN u ∨ s.rd d F.ACQ_U_POST_POST u = 0 ∨ s.rd d F.ACQ_U_LEN_LEN u < s.rd d F.ACQ_U_POST_POST u)) ∨
    (¬u.val < 2 ∧ (65536 < s.rd d F.ACQ_U_LEN_LEN u ∨ s.rd d F.ACQ_U_SEG_SEGS u = 0 ∨ 1024 < s.rd d F.ACQ_U_SEG_SEGS u ∨
      64 < s.rd d F.ACQ_U_SEG_PRE u)) ∨
    s.rd d F.ACQ_U_BASE_BASE u % 32 ≠ 0 ∨ 0x400000 < s.rd d F.ACQ_U_BASE_BASE u + s.rd d F.ACQ_U_SIZE_SIZE u ∨ s.acqOverlap d u = true ∨
    s.rd d F.ACQ_U_SIZE_SIZE u < s.acqNeed d u ∨ (¬u.val < 2 ∧ 6 ≤ s.rd d F.ACQ_U_TRIG_SRC u ∧ s.rd d F.ACQ_U_TRIG_SRC u ≤ 10) ∨
    (s.rd d F.ACQ_U_TRIG_SRC u = 2 ∧ s.acqHasCell d u (s.rd d F.ACQ_U_TRIG_TCELL u) = false) ∨
    (s.on d F.ACQ_U_CFG_GATH u = true ∧ (d ≠ 0 ∨ s.rd d F.ACQ_U_CFG_FMT u = 0 ∨ s.present (s.rd d F.ACQ_U_CFG_SRC_DIE u) = false))

/-- A unit that may be armed: DISABLED no more, DONE or STOPPED. -/
def ArmIdle (s : State) (d u : Fin 8) : Prop := s.acqSt d u = 1 ∨ s.acqSt d u = 5 ∨ s.acqSt d u = 6

theorem acqArmVerdict_busy (h : ¬s.ArmIdle d u) : s.acqArmVerdict d u = 3 := by
  unfold ArmIdle at h
  unfold acqArmVerdict
  exact if_pos (by omega)

theorem acqArmVerdict_read (h : s.ArmIdle d u) (hr : s.acqBeingRead d u = true) : s.acqArmVerdict d u = 6 := by
  unfold ArmIdle at h
  unfold acqArmVerdict
  dsimp only
  rw [if_neg (by omega), if_pos hr]

open Classical in
/-- With the region at rest the verdict is on the configuration alone. -/
theorem acqArmVerdict_config (h : s.ArmIdle d u) (hr : s.acqBeingRead d u = false) :
    s.acqArmVerdict d u = if s.ArmBad d u then 4 else 0 := by
  have hfmt : (!s.on d F.ACQ_U_CFG_FMT u) = true ↔ s.rd d F.ACQ_U_CFG_FMT u = 0 := by simp [on]
  unfold ArmIdle at h
  unfold acqArmVerdict ArmBad
  dsimp only
  rw [if_neg (by omega), if_neg (ne_true_of_eq_false hr)]
  by_cases hc : u.val < 2
  · simp only [hc, hfmt, decide_true, Bool.not_true, Bool.not_eq_true', if_true, true_and, not_true_eq_false, false_and, false_or,
      Bool.false_eq_true, if_false, ite_or]
  · simp only [hc, hfmt, decide_false, Bool.not_false, Bool.not_eq_true', if_false, false_and, not_false_eq_true, true_and, false_or,
      Bool.false_eq_true, ite_or]

theorem acqArm_refused {n : Nat} (hv : s.acqArmVerdict d u = n) (h0 : n ≠ 0) (hn : n < 256) :
    (s.acqArm d u).rd d F.ACQ_U_STAT_STATUS u = n ∧ (s.acqArm d u).acqSt d u = s.acqSt d u ∧
      WritesOnly [fldAddr d F.ACQ_U_STAT_STATE u 0] s (s.acqArm d u) := by
  have h : s.acqArm d u = s.wr d F.ACQ_U_STAT_STATUS n u := by
    unfold acqArm
    rw [hv]
    exact if_pos h0
  rw [h]
  refine ⟨?_, rd_wr_apart _ _ _ _ _ _ _ _ _ _ (apart_unit (by decide) (by decide) (.inl (by decide))),
    writesOnly_wr List.mem_cons_self writesOnly_refl⟩
  rw [rd_wr_same _ _ _ _ _ _ (by decide)]
  exact Nat.mod_eq_of_lt hn

/-- Key of the byte that holds VALID of segment `i`. -/
def validKey (s : State) (d u : Fin 8) (i : Nat) : Nat := capKey d (s.rd d F.ACQ_U_BASE_BASE u + i * s.acqSegBytes d u + 3)

/-- Segments of a unit's region. -/
def segments (s : State) (d u : Fin 8) : Nat := if u.val < 2 then 1 else s.rd d F.ACQ_U_SEG_SEGS u

/-- VALID cleared in one header. -/
def clearValid (d u : Fin 8) (s : State) (i : Nat) : State := s.setByte (s.validKey d u i) (s.byte (s.validKey d u i) &&& 0x7F)

theorem validKey_congr (h : x.regs = s.regs) (d u : Fin 8) (i : Nat) : x.validKey d u i = s.validKey d u i := by
  unfold validKey acqSegBytes acqW on
  simp only [rd_of_regs h]

theorem byte_setByte (s : State) (k : Nat) (v : Byte) (a : Nat) : (s.setByte k v).byte a = if a = k then v else s.byte a := by
  unfold byte setByte
  by_cases h : a = k
  · subst h
    rw [if_pos rfl, Sparse.get_set_same]
  · rw [if_neg h, Sparse.get_set_ne _ _ _ h]

theorem and_and_self (b m : Byte) : b &&& m &&& m = b &&& m := by rw [BitVec.and_assoc, BitVec.and_self]

/-- VALID cleared in the listed headers. -/
theorem clearValids_effect (l : List Nat) (s : State) : MemOnly s (l.foldl (clearValid d u) s) ∧
    (∀ i, i ∈ l → (l.foldl (clearValid d u) s).byte (s.validKey d u i) = s.byte (s.validKey d u i) &&& 0x7F) ∧
    ∀ k, (∀ i, i ∈ l → k ≠ s.validKey d u i) → (l.foldl (clearValid d u) s).byte k = s.byte k := by
  induction l generalizing s with
  | nil => exact ⟨.refl, fun i hi => absurd hi (List.not_mem_nil), fun k _ => rfl⟩
  | cons j t ih =>
    have hone : MemOnly s (s.clearValid d u j) := ⟨_, _, rfl⟩
    obtain ⟨hm, hin, hout⟩ := ih (s.clearValid d u j)
    simp only [validKey_congr hone.regs] at hin hout
    have hbyte (k : Nat) : (s.clearValid d u j).byte k = if k = s.validKey d u j then s.byte (s.validKey d u j) &&& 0x7F else s.byte k :=
      byte_setByte ..
    refine ⟨?_, fun i hi => ?_, fun k hk => ?_⟩
    · obtain ⟨m, v, e⟩ := hone
      obtain ⟨m', v', e'⟩ := hm
      exact ⟨m', v', by rw [List.foldl_cons, e', e]⟩
    · rw [List.foldl_cons]
      by_cases ht : i ∈ t
      · rw [hin i ht, hbyte]
        split
        · next he => rw [he, and_and_self]
        · rfl
      · have hij : i = j := (List.mem_cons.mp hi).resolve_right ht
        subst hij
        by_cases hex : ∃ i', i' ∈ t ∧ s.validKey d u i = s.validKey d u i'
        · obtain ⟨i', hi', he⟩ := hex
          rw [he, hin i' hi', hbyte, if_pos he.symm, he, and_and_self]
        · rw [hout _ (fun i' hi' he => hex ⟨i', hi', he⟩), hbyte, if_pos rfl]
    · rw [List.foldl_cons, hout k (fun i hi => hk i (List.mem_cons_of_mem _ hi)), hbyte, if_neg (hk j List.mem_cons_self)]

theorem acqClearValid_eq (s : State) (d u : Fin 8) : s.acqClearValid d u = (List.range (s.segments d u)).foldl (clearValid d u) s := by
  have h : (if 2 ≤ u.val then s.rd d F.ACQ_U_SEG_SEGS u else 1) = s.segments d u := by
    unfold segments
    by_cases hc : u.val < 2
    · rw [if_neg (by omega), if_pos hc]
    · rw [if_pos (by omega), if_neg hc]
  unfold acqClearValid
  rw [h]
  rfl

/-- What an accepted ARM leaves (R330). -/
structure Armed (s t : State) (d u : Fin 8) : Prop where
  state : t.acqSt d u = 2
  status : t.rd d F.ACQ_U_STAT_STATUS u = 0
  unit : t.acqU d u = AcqUnit.init
  segdone : t.rd d F.ACQ_U_CNT_SEGDONE u = 0
  pending : t.pending = s.pending
  cleared : ∀ i, i < s.segments d u → t.byte (s.validKey d u i) = s.byte (s.validKey d u i) &&& 0x7F
  kept : ∀ k, (∀ i, i < s.segments d u → k ≠ s.validKey d u i) → t.byte k = s.byte k

theorem validKey_status (s : State) (d u : Fin 8) (v i : Nat) : (s.wr d F.ACQ_U_STAT_STATUS v u).validKey d u i = s.validKey d u i := by
  have kept {f : Fld} (hf : unitReg f = true) (hd : distinct F.ACQ_U_STAT_STATUS f = true) :
      (s.wr d F.ACQ_U_STAT_STATUS v u).rd d f u = s.rd d f u := rd_wr_apart _ _ _ _ _ _ _ _ _ _ (apart_unit (by decide) hf (.inl hd))
  unfold validKey acqSegBytes acqW on
  rw [kept (by decide) (by decide), kept (by decide) (by decide), kept (by decide) (by decide)]

theorem segments_status (s : State) (d u : Fin 8) (v : Nat) : (s.wr d F.ACQ_U_STAT_STATUS v u).segments d u = s.segments d u := by
  unfold segments
  rw [rd_wr_apart _ _ _ _ _ _ _ _ _ _ (apart_unit (by decide) (by decide) (.inl (by decide)))]

theorem acqArm_accepted (hv : s.acqArmVerdict d u = 0) : Armed s (s.acqArm d u) d u := by
  obtain ⟨hmem, hin, hout⟩ := clearValids_effect (d := d) (u := u) (List.range (s.segments d u)) (s.wr d F.ACQ_U_STAT_STATUS 0 u)
  obtain ⟨z, hz⟩ : ∃ z, z = (List.range (s.segments d u)).foldl (clearValid d u) (s.wr d F.ACQ_U_STAT_STATUS 0 u) := ⟨_, rfl⟩
  have h : s.acqArm d u =
      (((z.wr d F.ACQ_U_CNT_SEGDONE 0 u).wr d F.ACQ_U_STAT_WIDX 0 u).updAcq d u (fun _ => AcqUnit.init)).acqSetSt d u 2 := by
    unfold acqArm
    dsimp only
    rw [hv, if_neg (fun hn => hn rfl), acqClearValid_eq, segments_status, ← hz]
  rw [← hz] at hmem hin hout
  have hbyte (k : Nat) : (s.wr d F.ACQ_U_STAT_STATUS 0 u).byte k = s.byte k := byte_of_mem (wr_mem ..) k
  simp only [validKey_status, hbyte, List.mem_range] at hin hout
  have hm : (s.acqArm d u).mem = z.mem := by
    rw [h, mem_acqSetSt, mem_updAcq, wr_mem, wr_mem]
  have kept {f : Fld} (hf : unitReg f = true) (h1 : distinct F.ACQ_U_STAT_STATE f = true) (hb : belowGroups f = true) :
      (s.acqArm d u).rd d f u = ((z.wr d F.ACQ_U_CNT_SEGDONE 0 u).wr d F.ACQ_U_STAT_WIDX 0 u).rd d f u := by
    rw [h, rd_acqSetSt hf (.inl h1) hb, rd_updAcq]
  refine ⟨?_, ?_, ?_, ?_, ?_, fun i hi => (byte_of_mem hm _).trans (hin i hi), fun k hk => (byte_of_mem hm _).trans (hout k hk)⟩
  · rw [h, acqSt_acqSetSt _ _ _ (by decide)]
  · rw [kept (by decide) (by decide) (by decide), rd_wr_apart _ _ _ _ _ _ _ _ _ _ (apart_unit (by decide) (by decide) (.inl (by decide))),
      rd_wr_apart _ _ _ _ _ _ _ _ _ _ (apart_unit (by decide) (by decide) (.inl (by decide))), rd_of_regs hmem.regs,
      rd_wr_same _ _ _ _ _ _ (by decide)]
    rfl
  · rw [h, acqU_of_acq (acq_acqSetSt ..), acqU_updAcq_same]
  · rw [kept (by decide) (by decide) (by decide), rd_wr_apart _ _ _ _ _ _ _ _ _ _ (apart_unit (by decide) (by decide) (.inl (by decide))),
      rd_wr_same _ _ _ _ _ _ (by decide)]
    rfl
  · rw [h, pending_acqSetSt, pending_updAcq, wr_pending, wr_pending, hmem.pending, wr_pending]

end State

end Sys2Proof.Machine

namespace Sys2Proof.Machine

namespace State

variable {s x y : State} {d u : Fin 8}

/-! ## A sample written -/

/-- Placing the trigger point touches neither the count, nor what is left, nor the trigger, nor a request. -/
theorem acqPlaceAt_keeps (a : AcqUnit) (i t : Nat) : (acqPlaceAt a i t).n = a.n ∧ (acqPlaceAt a i t).left = a.left ∧
    (acqPlaceAt a i t).trig = a.trig := by
  unfold acqPlaceAt
  split
  · split
    · exact ⟨rfl, rfl, rfl⟩
    · split
      · exact ⟨rfl, rfl, rfl⟩
      · exact ⟨rfl, rfl, rfl⟩
  · exact ⟨rfl, rfl, rfl⟩

/-- A unit after a sample, but for what U0 and U1 keep of it in their ring and the trigger point's place. -/
def takeSample (circ : Bool) (len : Nat) (x : AcqSample) (a : AcqUnit) : AcqUnit :=
  let fl := wordFlags x
  let a := { a with n := a.n + 1, t0 := if a.n = 0 then x.t else a.t0, left := a.left - 1 }
  let a := if circ then { a with ring := (a.ring ++ [(x.t, fl)]).drop ((a.ring.length + 1) - len) }
    else { a with flags := a.flags ||| (if a.n = 1 then fl &&& 0xF else fl),
                  swapIdx := if a.swapIdx.isNone && bitOf x.word.toNat 31 then some (a.n - 1) else a.swapIdx }
  acqPlaceAt a (a.n - 1) x.t

theorem takeSample_keeps (circ : Bool) (len : Nat) (x : AcqSample) (a : AcqUnit) : (takeSample circ len x a).n = a.n + 1 ∧
    (takeSample circ len x a).left = a.left - 1 ∧ (takeSample circ len x a).trig = a.trig := by
  unfold takeSample
  dsimp only
  cases circ <;> exact acqPlaceAt_keeps ..

/-- Key of a segment's sample. -/
def sampleKey (s : State) (d u : Fin 8) (i : Nat) : Nat := capKey d (s.acqHead d u + 32 + i * s.acqW d u)

/-- A unit with a segment writes a sample behind those that it has. -/
theorem acqPut_segment (hc : ¬u.val < 2) (v : AcqSample) : s.acqPut d u v =
    (s.setBytes (s.sampleKey d u (s.acqU d u).n) (leBytes (s.acqW d u) v.word.toNat)).updAcq d u
      (takeSample false (max 1 (s.rd d F.ACQ_U_LEN_LEN u)) v) := by
  have h : decide (u.val < 2) = false := decide_eq_false hc
  unfold acqPut
  rw [h]
  rfl

/-- From `s` to `t` unit `u` of die `d` has written `m` samples of its segment. -/
structure Recorded (s t : State) (d u : Fin 8) (m : Nat) : Prop where
  eq : ∃ mem ups acq, t = { s with mem := mem, upsets := ups, acq := acq }
  n : (t.acqU d u).n = (s.acqU d u).n + m
  left : (t.acqU d u).left = (s.acqU d u).left - m
  trig : (t.acqU d u).trig = (s.acqU d u).trig
  units : ∀ e v, ¬(e = d ∧ v = u) → t.acqU e v = s.acqU e v
  bytes : ∀ k, (∀ i, (s.acqU d u).n ≤ i → i < (s.acqU d u).n + m → k < s.sampleKey d u i ∨ s.sampleKey d u i + s.acqW d u ≤ k) →
    t.byte k = s.byte k

theorem Recorded.none : Recorded s s d u 0 := ⟨⟨_, _, _, rfl⟩, rfl, rfl, rfl, fun _ _ _ => rfl, fun _ _ => rfl⟩

theorem Recorded.regs {m : Nat} (h : Recorded s x d u m) : x.regs = s.regs := by
  obtain ⟨mem, ups, acq, rfl⟩ := h.eq
  rfl

theorem sampleKey_of_regs (h : x.regs = s.regs) (d u : Fin 8) (i : Nat) : x.sampleKey d u i = s.sampleKey d u i := by
  unfold sampleKey acqHead acqSegBytes acqW on
  simp only [rd_of_regs h]

theorem acqW_of_regs (h : x.regs = s.regs) (d u : Fin 8) : x.acqW d u = s.acqW d u := by
  unfold acqW on
  rw [rd_of_regs h]

theorem acqPut_recorded (hc : ¬u.val < 2) (v : AcqSample) : Recorded s (s.acqPut d u v) d u 1 := by
  rw [acqPut_segment hc]
  obtain ⟨m, ups, hm⟩ := (MemOnly.refl (s := s)).setBytes (s.sampleKey d u (s.acqU d u).n) (leBytes (s.acqW d u) v.word.toNat)
  have hout (k : Nat) (hk : k < s.sampleKey d u (s.acqU d u).n ∨ s.sampleKey d u (s.acqU d u).n + s.acqW d u ≤ k) :
      (s.setBytes (s.sampleKey d u (s.acqU d u).n) (leBytes (s.acqW d u) v.word.toNat)).byte k = s.byte k :=
    byte_setBytes_out _ _ _ _ (by rwa [length_leBytes])
  generalize s.setBytes (s.sampleKey d u (s.acqU d u).n) (leBytes (s.acqW d u) v.word.toNat) = z at hm hout ⊢
  have hunit : z.acqU d u = s.acqU d u := acqU_of_acq (by rw [hm]) d u
  obtain ⟨hn, hleft, htrig⟩ := takeSample_keeps false (max 1 (s.rd d F.ACQ_U_LEN_LEN u)) v (s.acqU d u)
  refine ⟨⟨m, ups, _, by rw [hm]; rfl⟩, ?_, ?_, ?_, fun e w hne => ?_, fun k hk => ?_⟩
  · rw [acqU_updAcq_same, hunit, hn]
  · rw [acqU_updAcq_same, hunit, hleft]
  · rw [acqU_updAcq_same, hunit, htrig]
  · rw [acqU_updAcq, if_neg hne]
    exact acqU_of_acq (by rw [hm]) e w
  · exact (byte_of_mem (mem_updAcq ..) k).trans (hout k (hk _ (Nat.le_refl _) (Nat.lt_succ_self _)))

theorem Recorded.trans {m m' : Nat} (h : Recorded s x d u m) (k : Recorded x y d u m') : Recorded s y d u (m + m') := by
  refine ⟨?_, by rw [k.n, h.n, Nat.add_assoc], by rw [k.left, h.left]; omega, k.trig.trans h.trig,
    fun e v hne => (k.units e v hne).trans (h.units e v hne), fun b hb => ?_⟩
  · obtain ⟨mem, ups, acq, e⟩ := h.eq
    obtain ⟨mem', ups', acq', e'⟩ := k.eq
    exact ⟨mem', ups', acq', by rw [e', e]⟩
  · rw [k.bytes b (fun i h0 h1 => ?_), h.bytes b (fun i h0 h1 => hb i h0 (by omega))]
    rw [sampleKey_of_regs h.regs, acqW_of_regs h.regs]
    rw [h.n] at h0 h1
    exact hb i (by omega) (by omega)

/-- A sample written while some are still to come. -/
def putIfLeft (d u : Fin 8) (s : State) (v : AcqSample) : State := if (s.acqU d u).left = 0 then s else s.acqPut d u v

theorem foldl_putIfLeft (hc : ¬u.val < 2) (l : List AcqSample) (s : State) :
    Recorded s (l.foldl (putIfLeft d u) s) d u (min (s.acqU d u).left l.length) := by
  induction l generalizing s with
  | nil =>
    rw [List.length_nil, Nat.min_zero]
    exact Recorded.none
  | cons v t ih =>
    by_cases hl : (s.acqU d u).left = 0
    · have h := ih s
      rw [List.foldl_cons, putIfLeft, if_pos hl]
      rwa [hl, Nat.zero_min] at h ⊢
    · have hone := acqPut_recorded (s := s) (d := d) hc v
      have h := hone.trans (ih (s.acqPut d u v))
      rw [List.foldl_cons, putIfLeft, if_neg hl, List.length_cons]
      rw [hone.left] at h
      have he : 1 + min ((s.acqU d u).left - 1) t.length = min (s.acqU d u).left (t.length + 1) := by omega
      rwa [he] at h

/-! ## A trigger taken (R327, R328, R332) -/

/-- What every trigger does: the unit is RECORDING with its trigger, and no other unit has changed. -/
structure Triggered (s t : State) (d u : Fin 8) (g : AcqTrig) : Prop where
  regs : t.regs = (s.wr d F.ACQ_U_STAT_STATE 3 u).regs
  eq : ∃ r mem ups acq, t = { s with regs := r, mem := mem, upsets := ups, acq := acq }
  trig : (t.acqU d u).trig = some g
  units : ∀ e v, ¬(e = d ∧ v = u) → t.acqU e v = s.acqU e v

theorem regs_updAcq (s : State) (d u : Fin 8) (f : AcqUnit → AcqUnit) : (s.updAcq d u f).regs = s.regs := rfl

theorem setWord_updAcq_eq (s : State) (a : Nat) (w : Word) (d u : Fin 8) (f : AcqUnit → AcqUnit) :
    ∃ r acq, (s.setWord a w).updAcq d u f = { s with regs := r, acq := acq } := ⟨_, _, rfl⟩

/-- A state code written and a unit changed. -/
theorem wr_updAcq_eq (s : State) (v : Nat) (d u : Fin 8) (f : AcqUnit → AcqUnit) :
    ∃ r acq, (s.wr d F.ACQ_U_STAT_STATE v u).updAcq d u f = { s with regs := r, acq := acq } := setWord_updAcq_eq ..

/-- A unit of U0 and U1 as a trigger finds it, before the ring's samples place the trigger point. -/
def awaitPost (post : Nat) (g : AcqTrig) (a : AcqUnit) : AcqUnit :=
  { a with trig := some g, place := none, before := none, rising := false, falling := false, left := post }

/-- The trigger point placed among the samples of the ring. -/
def placeInRing (a : AcqUnit) : AcqUnit := a.ring.zipIdx.foldl (fun b x => acqPlaceAt b (a.n - a.ring.length + x.2) x.1.1) a

theorem placeInRing_keeps (a : AcqUnit) : (placeInRing a).n = a.n ∧ (placeInRing a).left = a.left ∧ (placeInRing a).trig = a.trig := by
  have fold (l : List ((Nat × BitVec 6) × Nat)) (m : Nat) (b : AcqUnit) :
      (l.foldl (fun b x => acqPlaceAt b (m + x.2) x.1.1) b).n = b.n ∧ (l.foldl (fun b x => acqPlaceAt b (m + x.2) x.1.1) b).left = b.left ∧
        (l.foldl (fun b x => acqPlaceAt b (m + x.2) x.1.1) b).trig = b.trig := by
    induction l generalizing b with
    | nil => exact ⟨rfl, rfl, rfl⟩
    | cons p t ih =>
      obtain ⟨h0, h1, h2⟩ := ih (acqPlaceAt b (m + p.2) p.1.1)
      obtain ⟨k0, k1, k2⟩ := acqPlaceAt_keeps b (m + p.2) p.1.1
      exact ⟨h0.trans k0, h1.trans k1, h2.trans k2⟩
  exact fold ..

theorem acqRing_eq (s : State) (d u : Fin 8) (g : AcqTrig) : s.acqRing d u g =
    (s.wr d F.ACQ_U_STAT_STATE 3 u).updAcq d u (fun a => placeInRing (awaitPost (s.rd d F.ACQ_U_POST_POST u) g a)) := by
  unfold acqRing
  rw [acqSetSt_recording]
  rfl

theorem acqRing_triggered (s : State) (d u : Fin 8) (g : AcqTrig) : Triggered s (s.acqRing d u g) d u g ∧
    ((s.acqRing d u g).acqU d u).left = s.rd d F.ACQ_U_POST_POST u ∧ ((s.acqRing d u g).acqU d u).n = (s.acqU d u).n ∧
    (s.acqRing d u g).mem = s.mem := by
  have hunit (e v : Fin 8) : (s.wr d F.ACQ_U_STAT_STATE 3 u).acqU e v = s.acqU e v := acqU_of_acq (wr_acq ..) e v
  obtain ⟨hn, hleft, htrig⟩ := placeInRing_keeps (awaitPost (s.rd d F.ACQ_U_POST_POST u) g (s.acqU d u))
  rw [acqRing_eq]
  refine ⟨⟨regs_updAcq .., ?_, ?_, fun e v hne => ?_⟩, ?_, ?_, ?_⟩
  · obtain ⟨r, acq, e⟩ := wr_updAcq_eq s 3 d u (fun a => placeInRing (awaitPost (s.rd d F.ACQ_U_POST_POST u) g a))
    exact ⟨r, s.mem, s.upsets, acq, e⟩
  · rw [acqU_updAcq_same, hunit, htrig]
    rfl
  · rw [acqU_updAcq, if_neg hne, hunit]
  · rw [acqU_updAcq_same, hunit, hleft]
    rfl
  · rw [acqU_updAcq_same, hunit, hn]
    rfl
  · rw [mem_updAcq, wr_mem]

/-- A unit with segments as a trigger finds it: `total` samples are to come. -/
def awaitSegment (total : Nat) (g : AcqTrig) (a : AcqUnit) : AcqUnit :=
  { a with trig := some g, place := none, before := none, n := 0, t0 := 0, flags := 0, swapIdx := none,
           left := total, rising := false, falling := false }

/-- Samples of the delay line at or before a time. -/
def heldBy (a : AcqUnit) (t : Nat) : List AcqSample := a.line.filter (fun x => decide (x.t ≤ t))

/-- Samples of the delay line that a trigger writes at once. -/
def atOnce (a : AcqUnit) (pre t : Nat) : List AcqSample :=
  (heldBy a t).drop ((heldBy a t).length - pre) ++ a.line.filter (fun x => decide (t < x.t))

theorem length_atOnce (a : AcqUnit) (pre t : Nat) :
    (atOnce a pre t).length = min pre (heldBy a t).length + (a.line.length - (heldBy a t).length) := by
  have hsplit : a.line.length = (heldBy a t).length + (a.line.filter (fun x => decide (t < x.t))).length := by
    have h := List.length_eq_length_filter_add (l := a.line) (fun x => decide (x.t ≤ t))
    simpa [heldBy, ← decide_not] using h
  unfold atOnce
  rw [List.length_append, List.length_drop]
  omega

theorem acqTrigger_segment (hc : ¬u.val < 2) (g : AcqTrig) : s.acqTrigger d u g =
    (atOnce (s.acqU d u) (s.rd d F.ACQ_U_SEG_PRE u) g.time).foldl (putIfLeft d u)
      ((s.wr d F.ACQ_U_STAT_STATE 3 u).updAcq d u (awaitSegment (s.rd d F.ACQ_U_LEN_LEN u -
        (s.rd d F.ACQ_U_SEG_PRE u - min (s.rd d F.ACQ_U_SEG_PRE u) (heldBy (s.acqU d u) g.time).length)) g)) := by
  have kept {f : Fld} (hf : unitReg f = true) (hd : distinct F.ACQ_U_STAT_STATE f = true) :
      (s.wr d F.ACQ_U_STAT_STATE 3 u).rd d f u = s.rd d f u := rd_wr_apart _ _ _ _ _ _ _ _ _ _ (apart_unit (by decide) hf (.inl hd))
  have hdrop : ((heldBy (s.acqU d u) g.time).drop ((heldBy (s.acqU d u) g.time).length - s.rd d F.ACQ_U_SEG_PRE u)).length =
      min (s.rd d F.ACQ_U_SEG_PRE u) (heldBy (s.acqU d u) g.time).length := by
    rw [List.length_drop]
    omega
  unfold acqTrigger
  rw [if_neg hc, acqSetSt_recording, ← hdrop, ← kept (f := F.ACQ_U_SEG_PRE) (by decide) (by decide),
    ← kept (f := F.ACQ_U_LEN_LEN) (by decide) (by decide)]
  rfl

/-- Samples that a trigger of a unit with segments lets its segment have. -/
def segmentTotal (s : State) (d u : Fin 8) (t : Nat) : Nat :=
  s.rd d F.ACQ_U_LEN_LEN u - (s.rd d F.ACQ_U_SEG_PRE u - min (s.rd d F.ACQ_U_SEG_PRE u) (heldBy (s.acqU d u) t).length)

/-- Samples that the delay line holds of them. -/
def segmentReady (s : State) (d u : Fin 8) (t : Nat) : Nat :=
  min (s.rd d F.ACQ_U_SEG_PRE u) (heldBy (s.acqU d u) t).length + ((s.acqU d u).line.length - (heldBy (s.acqU d u) t).length)

theorem acqTrigger_segment_effect (hc : ¬u.val < 2) (g : AcqTrig) : Triggered s (s.acqTrigger d u g) d u g ∧
    ((s.acqTrigger d u g).acqU d u).n = min (s.segmentTotal d u g.time) (s.segmentReady d u g.time) ∧
    ((s.acqTrigger d u g).acqU d u).left =
      s.segmentTotal d u g.time - min (s.segmentTotal d u g.time) (s.segmentReady d u g.time) ∧
    ∀ k, (∀ i, i < min (s.segmentTotal d u g.time) (s.segmentReady d u g.time) →
      k < s.sampleKey d u i ∨ s.sampleKey d u i + s.acqW d u ≤ k) → (s.acqTrigger d u g).byte k = s.byte k := by
  obtain ⟨z, hz⟩ : ∃ z, z = (s.wr d F.ACQ_U_STAT_STATE 3 u).updAcq d u (awaitSegment (s.segmentTotal d u g.time) g) := ⟨_, rfl⟩
  have heq : s.acqTrigger d u g = (atOnce (s.acqU d u) (s.rd d F.ACQ_U_SEG_PRE u) g.time).foldl (putIfLeft d u) z := by
    rw [hz]
    exact acqTrigger_segment hc g
  have hunit : z.acqU d u = awaitSegment (s.segmentTotal d u g.time) g (s.acqU d u) := by
    rw [hz, acqU_updAcq_same, acqU_of_acq (wr_acq ..)]
  have hrec := foldl_putIfLeft (d := d) hc (atOnce (s.acqU d u) (s.rd d F.ACQ_U_SEG_PRE u) g.time) z
  rw [← heq, hunit, length_atOnce] at hrec
  have kept {f : Fld} (hf : unitReg f = true) (hd : distinct F.ACQ_U_STAT_STATE f = true) : z.rd d f u = s.rd d f u := by
    rw [hz, rd_updAcq]
    exact rd_wr_apart _ _ _ _ _ _ _ _ _ _ (apart_unit (by decide) hf (.inl hd))
  have hw : z.acqW d u = s.acqW d u := by
    unfold acqW on
    rw [kept (by decide) (by decide)]
  have hkey (i : Nat) : z.sampleKey d u i = s.sampleKey d u i := by
    unfold sampleKey acqHead acqSegBytes
    rw [hw, kept (by decide) (by decide), kept (by decide) (by decide), kept (by decide) (by decide)]
  refine ⟨⟨?_, ?_, ?_, fun e v hne => ?_⟩, ?_, ?_, fun k hk => ?_⟩
  · rw [hrec.regs, hz, regs_updAcq]
  · obtain ⟨mem, ups, acq, e⟩ := hrec.eq
    obtain ⟨r, acq', e'⟩ := wr_updAcq_eq s 3 d u (awaitSegment (s.segmentTotal d u g.time) g)
    exact ⟨r, mem, ups, acq, by rw [e, hz, e']⟩
  · rw [hrec.trig, hunit]
    rfl
  · rw [hrec.units e v hne, hz, acqU_updAcq, if_neg hne, acqU_of_acq (wr_acq ..)]
  · rw [hrec.n, hunit]
    exact Nat.zero_add _
  · rw [hrec.left, hunit]
    rfl
  · rw [hrec.bytes k (fun i _ h1 => ?_), hz]
    · exact byte_of_mem ((mem_updAcq ..).trans (wr_mem ..)) k
    · rw [hkey, hw]
      rw [hunit] at h1
      exact hk i (by rwa [awaitSegment, Nat.zero_add] at h1)

theorem acqTrigger_triggered (s : State) (d u : Fin 8) (g : AcqTrig) : Triggered s (s.acqTrigger d u g) d u g := by
  by_cases hc : u.val < 2
  · have h : s.acqTrigger d u g = s.acqRing d u g := by
      unfold acqTrigger
      exact if_pos hc
    rw [h]
    exact (acqRing_triggered s d u g).1
  · exact (acqTrigger_segment_effect hc g).1

end State

end Sys2Proof.Machine

namespace Sys2Proof.Machine

namespace State

variable {s x y : State} {d u : Fin 8}

/-! ## FORCE (R331) -/

theorem acqSt_of_triggered {g : AcqTrig} (h : Triggered s x d u g) : x.acqSt d u = 3 := by
  unfold acqSt
  rw [rd_of_regs h.regs, rd_wr_same _ _ _ _ _ _ (by decide)]
  rfl

theorem Triggered.pending {g : AcqTrig} (h : Triggered s x d u g) : x.pending = s.pending := by
  obtain ⟨r, mem, ups, acq, rfl⟩ := h.eq
  rfl

theorem acqW_pos (s : State) (d u : Fin 8) : 0 < s.acqW d u := by
  unfold acqW
  split <;> decide

/-- The samples of a segment that fits into capture SRAM stand one after another behind the header. -/
theorem sampleKey_of_fits {total i : Nat} (h : s.acqHead d u + 32 + s.acqW d u * total ≤ 0x400000) (hi : i < total) :
    s.sampleKey d u i = capKey d (s.acqHead d u) + 32 + i * s.acqW d u := by
  have hle : (i + 1) * s.acqW d u ≤ total * s.acqW d u := Nat.mul_le_mul_right _ hi
  have hpos := s.acqW_pos d u
  rw [Nat.mul_comm] at h
  rw [Nat.add_mul, Nat.one_mul] at hle
  unfold sampleKey capKey
  omega

/-- The trigger that FORCE brings. -/
def forceTrig (s : State) (d u : Fin 8) : AcqTrig := { time := s.devTime d, src := 1, group := none, firerUnit := u, firerDie := d }

/-- A unit that FORCE triggers: of its own, not as a member of a group. -/
def Forced (s : State) (d u : Fin 8) : Prop := s.rd d F.ACQ_U_TRIG_SRC u = 1 ∧ s.on d F.ACQ_U_TRIG_GRP_EN u = false

/-- A member that FORCE makes ask for its group's fire. -/
def Asks (s : State) (d u : Fin 8) : Prop :=
  s.rd d F.ACQ_U_TRIG_SRC u = 1 ∧ s.on d F.ACQ_U_TRIG_GRP_EN u = true ∧ s.on d F.ACQ_U_TRIG_FIRE_EN u = true ∧ s.acqSt d u = 2 ∧
    s.on 0 F.ACQ_GRP_CTRL_ARMED (s.rd d F.ACQ_U_TRIG_GROUP u) = true

theorem force_armed (hf : s.Forced d u) (hs : s.acqSt d u = 2) : s.acqFire d u 1 (s.devTime d) = s.acqTrigger d u (s.forceTrig d u) := by
  obtain ⟨hsrc, hgrp⟩ := hf
  unfold acqFire
  rw [if_neg (fun h => h hsrc), if_neg (ne_true_of_eq_false hgrp)]
  exact if_pos hs

theorem force_busy (hf : s.Forced d u) (hs : s.acqSt d u = 3 ∨ s.acqSt d u = 4) :
    s.acqFire d u 1 (s.devTime d) = s.satCnt d F.ACQ_U_CNT_BUSY_TRIG u := by
  obtain ⟨hsrc, hgrp⟩ := hf
  unfold acqFire
  rw [if_neg (fun h => h hsrc), if_neg (ne_true_of_eq_false hgrp)]
  dsimp only
  rw [if_neg (by omega), if_pos hs]

theorem force_asks (h : s.Asks d u) : s.acqFire d u 1 (s.devTime d) = s.updAcq d u (fun a => { a with own := some (a.own.getD (s.devTime d)) }) := by
  obtain ⟨hsrc, hgrp, hen, hst, harm⟩ := h
  unfold acqFire
  rw [if_neg (fun h => h hsrc), if_pos hgrp]
  unfold acqAsk
  exact if_pos (by simp [hen, hst, harm])

theorem force_idle (h : ¬s.Forced d u ∨ s.acqSt d u < 2 ∨ 4 < s.acqSt d u) (ha : ¬s.Asks d u) : s.acqFire d u 1 (s.devTime d) = s := by
  unfold Forced at h
  unfold Asks at ha
  unfold acqFire
  split
  · rfl
  · next hsrc =>
    split
    · next hgrp =>
      unfold acqAsk
      refine if_neg (fun hc => ha ?_)
      simp only [Bool.and_eq_true, beq_iff_eq] at hc
      obtain ⟨⟨hen, hst⟩, harm⟩ := hc
      exact ⟨by omega, hgrp, hen, hst, harm⟩
    · next hgrp =>
      have hst : s.acqSt d u < 2 ∨ 4 < s.acqSt d u := h.resolve_left (fun hn => hn ⟨by omega, eq_false_of_ne_true hgrp⟩)
      dsimp only
      rw [if_neg (by omega), if_neg (by omega)]

theorem satInc_min (n m : Nat) (h : n ≤ m) : satInc m n = min m (n + 1) := by
  unfold satInc
  split <;> omega

/-- The busy counter saturates. -/
theorem rd_satBusy (s : State) (d u : Fin 8) : (s.satCnt d F.ACQ_U_CNT_BUSY_TRIG u).rd d F.ACQ_U_CNT_BUSY_TRIG u =
    min 255 (s.rd d F.ACQ_U_CNT_BUSY_TRIG u + 1) := by
  have hlt : s.rd d F.ACQ_U_CNT_BUSY_TRIG u < 256 := rd_lt _ _ _ _ _ (by decide)
  unfold satCnt
  rw [rd_wr_same _ _ _ _ _ _ (by decide)]
  have hsat : satInc (2 ^ F.ACQ_U_CNT_BUSY_TRIG.w - 1) (s.rd d F.ACQ_U_CNT_BUSY_TRIG u) = min 255 (s.rd d F.ACQ_U_CNT_BUSY_TRIG u + 1) :=
    satInc_min _ 255 (by omega)
  rw [hsat]
  exact Nat.mod_eq_of_lt (by simp only [F.ACQ_U_CNT_BUSY_TRIG]; omega)

/-- What FORCE leaves of an ARMED unit (R327, R328). -/
structure ForceTaken (s t : State) (d u : Fin 8) : Prop where
  state : t.acqSt d u = 3
  trig : (t.acqU d u).trig = some (s.forceTrig d u)
  pending : t.pending = s.pending
  ring : u.val < 2 → (t.acqU d u).left = s.rd d F.ACQ_U_POST_POST u ∧ (t.acqU d u).n = (s.acqU d u).n ∧ t.mem = s.mem
  segment : ¬u.val < 2 → (t.acqU d u).n = min (s.segmentTotal d u (s.devTime d)) (s.segmentReady d u (s.devTime d)) ∧
    (t.acqU d u).left = s.segmentTotal d u (s.devTime d) - min (s.segmentTotal d u (s.devTime d)) (s.segmentReady d u (s.devTime d)) ∧
    (s.acqHead d u + 32 + s.acqW d u * s.segmentTotal d u (s.devTime d) ≤ 0x400000 →
      ∀ k, k < capKey d (s.acqHead d u) + 32 ∨
          capKey d (s.acqHead d u) + 32 + s.acqW d u * min (s.segmentTotal d u (s.devTime d)) (s.segmentReady d u (s.devTime d)) ≤ k →
        t.byte k = s.byte k)

theorem force_taken (hf : s.Forced d u) (hs : s.acqSt d u = 2) : ForceTaken s (s.acqFire d u 1 (s.devTime d)) d u := by
  rw [force_armed hf hs]
  have ht := acqTrigger_triggered s d u (s.forceTrig d u)
  refine ⟨acqSt_of_triggered ht, ht.trig, ht.pending, fun hc => ?_, fun hc => ?_⟩
  · have h : s.acqTrigger d u (s.forceTrig d u) = s.acqRing d u (s.forceTrig d u) := by
      unfold acqTrigger
      exact if_pos hc
    rw [h]
    exact (acqRing_triggered s d u _).2
  · obtain ⟨-, hn, hleft, hbytes⟩ := acqTrigger_segment_effect (s := s) (d := d) hc (s.forceTrig d u)
    refine ⟨hn, hleft, fun hfit k hk => hbytes k (fun i hi => ?_)⟩
    have hm : i < min (s.segmentTotal d u (s.devTime d)) (s.segmentReady d u (s.devTime d)) := hi
    generalize min (s.segmentTotal d u (s.devTime d)) (s.segmentReady d u (s.devTime d)) = m at hk hm
    have hle : (i + 1) * s.acqW d u ≤ m * s.acqW d u := Nat.mul_le_mul_right _ hm
    rw [sampleKey_of_fits hfit (Nat.lt_of_lt_of_le hi (Nat.min_le_left _ _))]
    rw [Nat.add_mul, Nat.one_mul] at hle
    rw [Nat.mul_comm] at hk
    omega

theorem force_counted (hf : s.Forced d u) (hs : s.acqSt d u = 3 ∨ s.acqSt d u = 4) :
    WritesOnly [fldAddr d F.ACQ_U_CNT_BUSY_TRIG u 0] s (s.acqFire d u 1 (s.devTime d)) ∧
      (s.acqFire d u 1 (s.devTime d)).rd d F.ACQ_U_CNT_BUSY_TRIG u = min 255 (s.rd d F.ACQ_U_CNT_BUSY_TRIG u + 1) := by
  rw [force_busy hf hs]
  exact ⟨writesOnly_wr List.mem_cons_self writesOnly_refl, rd_satBusy s d u⟩

/-! ## STOP and disable (R330, R336) -/

/-- A field of ACQ_EVT. -/
def eventFld (f : Fld) : Bool := decide (f.off = 0x60004) && decide (f.s1 = 0)

theorem apart_event {f g : Fld} {d e u : Fin 8} {i : Nat} (hf : eventFld f = true) (hg : unitReg g = true) :
    Apart d f i 0 e g u 0 ∧ Apart e g u 0 d f i 0 := by
  simp only [eventFld, unitReg, Bool.and_eq_true, decide_eq_true_eq] at hf hg
  obtain ⟨h0, h1⟩ := hf
  obtain ⟨⟨h2, h3⟩, h4⟩ := hg
  refine ⟨.inl ?_, .inl ?_⟩ <;> unfold fldAddr regAddr <;> rw [h1, h4] <;> omega

/-- A unit's state after an event bit of its die is set. -/
theorem acqSt_setBit {f : Fld} (hf : eventFld f = true) (k : Nat) (e v : Fin 8) : (s.setBit d f k).acqSt e v = s.acqSt e v :=
  rd_wr_apart _ _ _ _ _ _ _ _ _ _ (apart_event hf (by decide)).1

/-- A unit brought to a state with an event of its own set. -/
theorem ended_effect {f : Fld} {st : Nat} (hst : st < 8) (hf : eventFld f = true) (hw : f.lo + f.w ≤ 32) (hu : u.val < f.w) :
    ((s.acqSetSt d u st).setBit d f u).acqSt d u = st ∧ ((s.acqSetSt d u st).setBit d f u).bit d f u = true ∧
      ((s.acqSetSt d u st).setBit d f u).mem = s.mem ∧ ((s.acqSetSt d u st).setBit d f u).pending = s.pending ∧
      ((s.acqSetSt d u st).setBit d f u).acq = s.acq :=
  ⟨(acqSt_setBit hf _ d u).trans (acqSt_acqSetSt s d u hst), bit_setBit hw hu, (wr_mem ..).trans (mem_acqSetSt s d u st),
    (wr_pending ..).trans (pending_acqSetSt s d u st), (wr_acq ..).trans (acq_acqSetSt s d u st)⟩

theorem acqHalt_idle {ovf : Bool} (h2 : s.acqSt d u ≠ 2) (h3 : s.acqSt d u ≠ 3) : s.acqHalt d u ovf = s := by
  unfold acqHalt
  exact if_neg (fun h => h.elim h2 h3)

/-- The unit as it stops, its header not yet written. -/
def overflowed (s : State) (d u : Fin 8) (ovf : Bool) : State := if ovf then s.updAcq d u (fun a => { a with flags := a.flags ||| 32 }) else s

theorem acqHalt_eq {ovf : Bool} (h : s.acqSt d u = 2 ∨ s.acqSt d u = 3) : s.acqHalt d u ovf =
    ((if s.acqSt d u = 3 then (s.overflowed d u ovf).acqWriteHead d u else s.overflowed d u ovf).acqSetSt d u 6).setBit d
      F.ACQ_EVT_STOPPED u := by
  unfold acqHalt
  exact if_pos h

theorem overflowed_eq (s : State) (d u : Fin 8) (ovf : Bool) : (s.overflowed d u ovf).mem = s.mem ∧
    (s.overflowed d u ovf).pending = s.pending ∧ (s.overflowed d u ovf).regs = s.regs := by
  cases ovf <;> exact ⟨rfl, rfl, rfl⟩

theorem acqHead_of_regs (h : x.regs = s.regs) (d u : Fin 8) : x.acqHead d u = s.acqHead d u := by
  unfold acqHead acqSegBytes acqW on
  simp only [rd_of_regs h]

/-- What a unit that stops leaves. -/
structure Halted (s t : State) (d u : Fin 8) (ovf : Bool) : Prop where
  state : t.acqSt d u = 6
  event : t.bit d F.ACQ_EVT_STOPPED u = true
  pending : t.pending = s.pending
  head : s.acqSt d u = 3 → HeadWritten s (s.overflowed d u ovf) t d u
  mem : s.acqSt d u = 2 → t.mem = s.mem

theorem acqHalt_halted {ovf : Bool} (h : s.acqSt d u = 2 ∨ s.acqSt d u = 3) : Halted s (s.acqHalt d u ovf) d u ovf := by
  obtain ⟨hm, hp, hr⟩ := overflowed_eq s d u ovf
  have hhead : HeadWritten s (s.overflowed d u ovf) ((s.overflowed d u ovf).acqWriteHead d u) d u := by
    obtain ⟨hw, hb⟩ := acqWriteHead_written (s.overflowed d u ovf) d u
    rw [acqHead_of_regs hr] at hw hb
    exact ⟨hw, fun k hk => (hb k hk).trans (byte_of_mem hm k)⟩
  have hpend : ((s.overflowed d u ovf).acqWriteHead d u).pending = s.pending := (memOnly_acqWriteHead ..).pending.trans hp
  rw [acqHalt_eq h]
  obtain ⟨hst, hbit, hmem, hpend', -⟩ := ended_effect
    (s := if s.acqSt d u = 3 then (s.overflowed d u ovf).acqWriteHead d u else s.overflowed d u ovf) (d := d) (u := u) (f := F.ACQ_EVT_STOPPED)
    (st := 6) (by decide) (by decide) (by decide) u.isLt
  refine ⟨hst, hbit, ?_, fun h3 => hhead.mem ?_, fun h2 => ?_⟩
  · rw [hpend']
    split
    · exact hpend
    · exact hp
  · rw [hmem, if_pos h3]
  · rw [hmem, if_neg (by omega), hm]

theorem acqDisable_effect (s : State) (d u : Fin 8) : ((s.wr d F.ACQ_U_CTRL_EN 0 u).acqSetSt d u 0).acqSt d u = 0 ∧
    ((s.wr d F.ACQ_U_CTRL_EN 0 u).acqSetSt d u 0).on d F.ACQ_U_CTRL_EN u = false ∧ Keeps s ((s.wr d F.ACQ_U_CTRL_EN 0 u).acqSetSt d u 0) ∧
    ((s.wr d F.ACQ_U_CTRL_EN 0 u).acqSetSt d u 0).acq = s.acq := by
  refine ⟨acqSt_acqSetSt _ _ _ (by decide), ?_, ⟨?_, ?_, ?_⟩, ?_⟩
  · unfold on
    rw [rd_acqSetSt (by decide) (.inl (by decide)), rd_wr_same _ _ _ _ _ _ (by decide)]
    rfl
  · rw [mem_acqSetSt, wr_mem]
  · rw [pending_acqSetSt, wr_pending]
  · rw [now_acqSetSt, wr_now]
  · rw [acq_acqSetSt, wr_acq]

/-! ## Completion (R327, R328) -/

/-- A unit with its segment out, the next one open. -/
def closeSegment (a : AcqUnit) : AcqUnit := { a with trig := none, place := none, before := none, n := 0, flags := 0, swapIdx := none }

/-- The segment's header written and the segment counted. -/
def segmentOut (s : State) (d u : Fin 8) : State :=
  ((s.acqWriteHead d u).wr d F.ACQ_U_CNT_SEGDONE (s.rd d F.ACQ_U_CNT_SEGDONE u + 1) u).updAcq d u closeSegment

/-- A unit whose segment is complete. -/
def SegEnds (s : State) (d u : Fin 8) : Prop := ¬u.val < 2 ∧ s.acqSt d u = 3 ∧ (s.acqU d u).left = 0

theorem acqSegDone_eq (h : s.SegEnds d u) : s.acqSegDone d u =
    if (s.segmentOut d u).rd d F.ACQ_U_CNT_SEGDONE u < (s.segmentOut d u).rd d F.ACQ_U_SEG_SEGS u then (s.segmentOut d u).acqSetSt d u 2
    else ((s.segmentOut d u).acqSetSt d u 5).setBit d F.ACQ_EVT_DONE u := by
  have hr := rd_of_regs (memOnly_acqWriteHead s d u).regs d F.ACQ_U_CNT_SEGDONE u 0
  obtain ⟨hc, hst, hleft⟩ := h
  unfold acqSegDone segmentOut
  rw [if_pos ⟨by omega, hst, hleft⟩, ← hr]
  rfl

theorem acqSegDone_idle (h : ¬s.SegEnds d u) : s.acqSegDone d u = s := by
  unfold SegEnds at h
  unfold acqSegDone
  exact if_neg (fun hn => h ⟨by omega, hn.2⟩)

/-- What a complete segment leaves, but for the unit's next state. -/
structure SegmentOut (s t : State) (d u : Fin 8) : Prop where
  head : HeadWritten s s t d u
  segdone : t.rd d F.ACQ_U_CNT_SEGDONE u = (s.rd d F.ACQ_U_CNT_SEGDONE u + 1) % 2048
  segs : t.rd d F.ACQ_U_SEG_SEGS u = s.rd d F.ACQ_U_SEG_SEGS u
  n : (t.acqU d u).n = 0
  trig : (t.acqU d u).trig = none

theorem segmentOut_out (s : State) (d u : Fin 8) : SegmentOut s (s.segmentOut d u) d u := by
  have hregs := (memOnly_acqWriteHead s d u).regs
  unfold segmentOut
  refine ⟨(acqWriteHead_written s d u).mem ?_, ?_, ?_, ?_, ?_⟩
  · rw [mem_updAcq, wr_mem]
  · rw [rd_updAcq, rd_wr_same _ _ _ _ _ _ (by decide)]
    rfl
  · rw [rd_updAcq, rd_wr_apart _ _ _ _ _ _ _ _ _ _ (apart_unit (by decide) (by decide) (.inl (by decide))), rd_of_regs hregs]
  · rw [acqU_updAcq_same]
    rfl
  · rw [acqU_updAcq_same]
    rfl

theorem SegmentOut.setSt (h : SegmentOut s x d u) (st : Nat) : SegmentOut s (x.acqSetSt d u st) d u := by
  refine ⟨h.head.mem (mem_acqSetSt ..), ?_, ?_, ?_, ?_⟩
  · rw [rd_acqSetSt (by decide) (.inl (by decide)), h.segdone]
  · rw [rd_acqSetSt (by decide) (.inl (by decide)), h.segs]
  · rw [acqU_of_acq (acq_acqSetSt ..), h.n]
  · rw [acqU_of_acq (acq_acqSetSt ..), h.trig]

theorem SegmentOut.event (h : SegmentOut s x d u) {f : Fld} (hf : eventFld f = true) (k : Nat) : SegmentOut s (x.setBit d f k) d u := by
  refine ⟨h.head.mem (wr_mem ..), ?_, ?_, ?_, ?_⟩
  · exact (rd_wr_apart _ _ _ _ _ _ _ _ _ _ (apart_event hf (by decide)).1).trans h.segdone
  · exact (rd_wr_apart _ _ _ _ _ _ _ _ _ _ (apart_event hf (by decide)).1).trans h.segs
  · exact (congrArg (·.n) (acqU_of_acq (wr_acq ..) d u)).trans h.n
  · exact (congrArg (·.trig) (acqU_of_acq (wr_acq ..) d u)).trans h.trig

theorem acqSegDone_effect (h : s.SegEnds d u) : SegmentOut s (s.acqSegDone d u) d u ∧
    ((s.rd d F.ACQ_U_CNT_SEGDONE u + 1) % 2048 < s.rd d F.ACQ_U_SEG_SEGS u → (s.acqSegDone d u).acqSt d u = 2) ∧
    (s.rd d F.ACQ_U_SEG_SEGS u ≤ (s.rd d F.ACQ_U_CNT_SEGDONE u + 1) % 2048 →
      (s.acqSegDone d u).acqSt d u = 5 ∧ (s.acqSegDone d u).bit d F.ACQ_EVT_DONE u = true) := by
  have hout := segmentOut_out s d u
  rw [acqSegDone_eq h, hout.segdone, hout.segs]
  split
  · next hlt => exact ⟨hout.setSt 2, fun _ => acqSt_acqSetSt _ _ _ (by decide), fun hge => absurd hlt (by omega)⟩
  · next hge =>
    obtain ⟨hst, hbit, -⟩ := ended_effect (s := s.segmentOut d u) (d := d) (u := u) (f := F.ACQ_EVT_DONE) (st := 5) (by decide) (by decide)
      (by decide) u.isLt
    exact ⟨(hout.setSt 5).event (by decide) _, fun hlt => absurd hlt hge, fun _ => ⟨hst, hbit⟩⟩

/-- A circular unit whose post count is reached. -/
def PostEnds (s : State) (d u : Fin 8) : Prop := u.val < 2 ∧ s.acqSt d u = 3 ∧ (s.acqU d u).left = 0

theorem acqPostDone_idle (h : ¬s.PostEnds d u) : s.acqPostDone d u = s := by
  unfold acqPostDone
  exact if_neg h

theorem acqPostDone_effect (h : s.PostEnds d u) : HeadWritten s s (s.acqPostDone d u) d u ∧ (s.acqPostDone d u).acqSt d u = 5 ∧
    (s.acqPostDone d u).bit d F.ACQ_EVT_DONE u = true := by
  have heq : s.acqPostDone d u = ((s.acqWriteHead d u).acqSetSt d u 5).setBit d F.ACQ_EVT_DONE u := by
    unfold acqPostDone
    exact if_pos h
  obtain ⟨hst, hbit, hmem, -⟩ := ended_effect (s := s.acqWriteHead d u) (d := d) (u := u) (f := F.ACQ_EVT_DONE) (st := 5) (by decide) (by decide)
    (by decide) u.isLt
  rw [heq]
  exact ⟨(acqWriteHead_written s d u).mem hmem, hst, hbit⟩

end State

end Sys2Proof.Machine

/-! # Group fires (R333, R334) -/

namespace Sys2Proof.Machine

namespace State

variable {s x y : State} {g : Fin 8} {P Q : Fin 8 → Fin 8 → Prop}

/-! ## What a fire reaches -/

/-- From `s` to `t` a fire of group `g` may have reached the units `P`: their state codes, busy counters and typed parts; members may have
been added to those that the group waits for. -/
structure Spread (P : Fin 8 → Fin 8 → Prop) (g : Fin 8) (s t : State) : Prop where
  words : ∀ a, (∀ e v : Fin 8, P e v → a ≠ fldAddr e F.ACQ_U_STAT_STATE v 0 ∧ a ≠ fldAddr e F.ACQ_U_CNT_BUSY_TRIG v 0) → t.word a = s.word a
  units : ∀ e v, ¬P e v → t.acqU e v = s.acqU e v
  wait : ∀ n, n ∈ (s.group.get g).wait → n ∈ (t.group.get g).wait
  pending : t.pending = s.pending

theorem Spread.refl : Spread P g s s := ⟨fun _ _ => rfl, fun _ _ _ => rfl, fun _ => id, rfl⟩

theorem Spread.trans (h : Spread P g s x) (k : Spread P g x y) : Spread P g s y :=
  ⟨fun a ha => (k.words a ha).trans (h.words a ha), fun e v hp => (k.units e v hp).trans (h.units e v hp), fun n hn => k.wait n (h.wait n hn),
    k.pending.trans h.pending⟩

theorem Spread.mono (h : Spread P g s x) (hq : ∀ e v, P e v → Q e v) : Spread Q g s x :=
  ⟨fun a ha => h.words a (fun e v hp => ha e v (hq e v hp)), fun e v hn => h.units e v (fun hp => hn (hq e v hp)), h.wait, h.pending⟩

/-- A unit register that a fire does not write, or of a unit that it does not reach. -/
theorem Spread.rd (h : Spread P g s x) {e v : Fin 8} {f : Fld} (hf : unitReg f = true)
    (hd : ¬P e v ∨ f.off ≠ F.ACQ_U_STAT_STATE.off ∧ f.off ≠ F.ACQ_U_CNT_BUSY_TRIG.off) : x.rd e f v = s.rd e f v := by
  have hreg : 0x60100 ≤ f.off ∧ f.off < 0x60140 ∧ f.s1 = 0x40 := by
    simp only [unitReg, Bool.and_eq_true, decide_eq_true_eq] at hf
    exact ⟨hf.1.1, hf.1.2, hf.2⟩
  unfold State.rd
  rw [h.words]
  intro e' v' hp
  have hne : ¬(e' = e ∧ v' = v) ∨ f.off ≠ F.ACQ_U_STAT_STATE.off ∧ f.off ≠ F.ACQ_U_CNT_BUSY_TRIG.off :=
    hd.imp_left (fun hn ⟨he, hv⟩ => hn (he ▸ hv ▸ hp))
  simp only [Fin.ext_iff, F.ACQ_U_STAT_STATE, F.ACQ_U_CNT_BUSY_TRIG] at hne
  unfold fldAddr regAddr
  rw [hreg.2.2]
  simp only [F.ACQ_U_STAT_STATE, F.ACQ_U_CNT_BUSY_TRIG]
  omega

/-- A register outside the units'. -/
theorem Spread.rd_outside (h : Spread P g s x) {d i : Nat} {f : Fld} (hf : f.off + i * f.s1 < 0x60100 ∨ 0x60300 ≤ f.off)
    (ho : f.off + i * f.s1 < 0x1000000) : x.rd d f i = s.rd d f i := by
  unfold State.rd
  rw [h.words]
  intro e v _
  unfold fldAddr regAddr
  simp only [F.ACQ_U_STAT_STATE, F.ACQ_U_CNT_BUSY_TRIG]
  omega

theorem Spread.member (h : Spread P g s x) (e v : Fin 8) : x.member g e v = s.member g e v := by
  unfold State.member on
  rw [h.rd (by decide) (.inr (by decide)), h.rd (by decide) (.inr (by decide))]

theorem Spread.dieUsed (h : Spread P g s x) (e : Nat) : x.dieUsed e = s.dieUsed e := by
  unfold State.dieUsed State.present bit
  rw [h.rd_outside (.inl (by decide)) (by decide), h.rd_outside (.inl (by decide)) (by decide)]

theorem Spread.acqSt (h : Spread P g s x) {e v : Fin 8} (hn : ¬P e v) : x.acqSt e v = s.acqSt e v := h.rd (by decide) (.inl hn)

/-! ## One unit -/

/-- The member `v` of die `e` noted as one that the group waits for. -/
def awaited (s : State) (g e v : Fin 8) : State := { s with group := upd s.group g (fun x => { wait := x.wait ++ [e.val * 8 + v.val] }) }

/-- A fire at one unit: an ARMED member records, another member counts it. -/
def fireUnit (g : Fin 8) (tr : AcqTrig) (e : Fin 8) (s : State) (v : Fin 8) : State :=
  if !s.member g e v then s
  else if s.acqSt e v = 2 then (s.awaited g e v).acqTrigger e v tr
  else s.satCnt e F.ACQ_U_CNT_BUSY_TRIG v

theorem mem_awaited (s : State) (g e v : Fin 8) (n : Nat) :
    n ∈ ((s.awaited g e v).group.get g).wait ↔ n ∈ (s.group.get g).wait ∨ n = e.val * 8 + v.val := by
  unfold awaited
  dsimp only
  rw [get_upd_same]
  simp

theorem group_of_triggered {d u : Fin 8} {tr : AcqTrig} (h : Triggered s x d u tr) : x.group = s.group := by
  obtain ⟨r, mem, ups, acq, rfl⟩ := h.eq
  rfl

theorem word_of_triggered {d u : Fin 8} {tr : AcqTrig} (h : Triggered s x d u tr) {a : Nat} (ha : a ≠ fldAddr d F.ACQ_U_STAT_STATE u 0) :
    x.word a = s.word a := by
  rw [word_of_regs h.regs]
  exact word_wr_ne _ _ _ _ _ _ _ ha

theorem fireUnit_spread (g : Fin 8) (tr : AcqTrig) (e v : Fin 8) (s : State) :
    Spread (fun e' v' => e' = e ∧ v' = v ∧ s.member g e v = true) g s (fireUnit g tr e s v) := by
  cases hm : s.member g e v with
  | false =>
    unfold fireUnit
    rw [hm]
    exact .refl
  | true =>
    unfold fireUnit
    rw [hm]
    simp only [Bool.not_true, Bool.false_eq_true, if_false]
    split
    · have ht := acqTrigger_triggered (s.awaited g e v) e v tr
      refine ⟨fun a ha => word_of_triggered ht (ha e v ⟨rfl, rfl, trivial⟩).1, fun e' v' hn => ht.units e' v' (fun h => hn ⟨h.1, h.2, trivial⟩),
        fun n hn => ?_, ht.pending⟩
      rw [group_of_triggered ht]
      exact (mem_awaited ..).mpr (.inl hn)
    · exact ⟨fun a ha => word_wr_ne _ _ _ _ _ _ _ (ha e v ⟨rfl, rfl, trivial⟩).2, fun e' v' _ => acqU_of_acq (wr_acq ..) e' v',
        fun n hn => (congrArg (fun v : Vector AcqGroup 8 => n ∈ (v.get g).wait) (wr_group ..)).mpr hn, wr_pending ..⟩

/-- What a fire makes of an ARMED member. -/
theorem fireUnit_armed {tr : AcqTrig} {e v : Fin 8} (hm : s.member g e v = true) (hs : s.acqSt e v = 2) :
    (fireUnit g tr e s v).acqSt e v = 3 ∧ e.val * 8 + v.val ∈ ((fireUnit g tr e s v).group.get g).wait ∧
      ((fireUnit g tr e s v).acqU e v).trig = some tr := by
  have ht := acqTrigger_triggered (s.awaited g e v) e v tr
  have h : fireUnit g tr e s v = (s.awaited g e v).acqTrigger e v tr := by
    unfold fireUnit
    rw [hm]
    exact if_pos hs
  rw [h]
  refine ⟨acqSt_of_triggered ht, ?_, ht.trig⟩
  rw [group_of_triggered ht]
  exact (mem_awaited ..).mpr (.inr rfl)

/-- What a fire makes of a member that is not ARMED. -/
theorem fireUnit_busy {tr : AcqTrig} {e v : Fin 8} (hm : s.member g e v = true) (hs : s.acqSt e v ≠ 2) :
    (fireUnit g tr e s v).acqSt e v = s.acqSt e v ∧ (fireUnit g tr e s v).acqU e v = s.acqU e v ∧
      (fireUnit g tr e s v).rd e F.ACQ_U_CNT_BUSY_TRIG v = min 255 (s.rd e F.ACQ_U_CNT_BUSY_TRIG v + 1) := by
  have h : fireUnit g tr e s v = s.satCnt e F.ACQ_U_CNT_BUSY_TRIG v := by
    unfold fireUnit
    rw [hm]
    exact if_neg hs
  rw [h]
  exact ⟨rd_wr_apart _ _ _ _ _ _ _ _ _ _ (apart_unit (by decide) (by decide) (.inl (by decide))), acqU_of_acq (wr_acq ..) e v, rd_satBusy s e v⟩

/-! ## Every unit of every die in use -/

/-- A fire at the units of one die. -/
def fireDie (g : Fin 8) (tr : AcqTrig) (s : State) (e : Fin 8) : State := (List.finRange 8).foldl (fireUnit g tr e) s

/-- A fire at one die of the list: only where it is in use. -/
def fireUsed (g : Fin 8) (tr : AcqTrig) (s : State) (e : Fin 8) : State := if s.dieUsed e then fireDie g tr s e else s

theorem fireUnits_spread {tr : AcqTrig} {e : Fin 8} (l : List (Fin 8)) (s : State) (hq : ∀ v ∈ l, s.member g e v = true → Q e v) :
    Spread Q g s (l.foldl (fireUnit g tr e) s) := by
  induction l generalizing s with
  | nil => exact .refl
  | cons v t ih =>
    have hone : Spread Q g s (fireUnit g tr e s v) := (fireUnit_spread g tr e v s).mono (fun e' v' h => by
      obtain ⟨rfl, rfl, hm⟩ := h
      exact hq v' List.mem_cons_self hm)
    exact hone.trans (ih _ (fun w hw hm => hq w (List.mem_cons_of_mem _ hw) (by rwa [hone.member] at hm)))

theorem fireDies_spread {tr : AcqTrig} (l : List (Fin 8)) (s : State)
    (hq : ∀ e ∈ l, s.dieUsed e = true → ∀ v, s.member g e v = true → Q e v) : Spread Q g s (l.foldl (fireUsed g tr) s) := by
  induction l generalizing s with
  | nil => exact .refl
  | cons e t ih =>
    have hone : Spread Q g s (fireUsed g tr s e) := by
      unfold fireUsed
      split
      · next hu => exact fireUnits_spread _ s (fun v _ hm => hq e List.mem_cons_self hu v hm)
      · exact .refl
    exact hone.trans (ih _ (fun e' he' hu v hm =>
      hq e' (List.mem_cons_of_mem _ he') (by rwa [hone.dieUsed] at hu) v (by rwa [hone.member] at hm)))

theorem split_finRange (e : Fin 8) : ∃ l r, List.finRange 8 = l ++ e :: r ∧ e ∉ l ∧ e ∉ r := by
  obtain ⟨l, r, h⟩ := List.append_of_mem (List.mem_finRange e)
  have hnd := List.nodup_finRange 8
  rw [h] at hnd
  obtain ⟨-, hr, hlr⟩ := List.nodup_append.mp hnd
  exact ⟨l, r, h, fun hm => hlr e hm e List.mem_cons_self rfl, (List.nodup_cons.mp hr).1⟩

/-- A fire comes to a unit of a die in use: before it and after it, other units alone are reached. -/
theorem fire_reaches {tr : AcqTrig} {e v : Fin 8} (hu : s.dieUsed e = true) :
    ∃ y, Spread (fun e' v' => ¬(e' = e ∧ v' = v)) g s y ∧
      Spread (fun e' v' => ¬(e' = e ∧ v' = v)) g (fireUnit g tr e y v) ((List.finRange 8).foldl (fireUsed g tr) s) := by
  obtain ⟨l, r, hl, hel, her⟩ := split_finRange e
  obtain ⟨l', r', hl', hvl, hvr⟩ := split_finRange v
  have hdies {m : List (Fin 8)} (hm : e ∉ m) (y : State) : Spread (fun e' v' => ¬(e' = e ∧ v' = v)) g y (m.foldl (fireUsed g tr) y) :=
    fireDies_spread m y (fun e' he' _ v' _ hev => hm (hev.1 ▸ he'))
  have hunits {m : List (Fin 8)} (hm : v ∉ m) (y : State) : Spread (fun e' v' => ¬(e' = e ∧ v' = v)) g y (m.foldl (fireUnit g tr e) y) :=
    fireUnits_spread m y (fun v' hv' _ hev => hm (hev.2 ▸ hv'))
  have hbefore := hdies hel s
  refine ⟨l'.foldl (fireUnit g tr e) (l.foldl (fireUsed g tr) s), hbefore.trans (hunits hvl _), ?_⟩
  have hfold : (List.finRange 8).foldl (fireUsed g tr) s = r.foldl (fireUsed g tr)
      (r'.foldl (fireUnit g tr e) (fireUnit g tr e (l'.foldl (fireUnit g tr e) (l.foldl (fireUsed g tr) s)) v)) := by
    rw [hl, List.foldl_append, List.foldl_cons]
    generalize l.foldl (fireUsed g tr) s = p at hbefore
    have hdie : fireUsed g tr p e = fireDie g tr p e := if_pos ((hbefore.dieUsed e).trans hu)
    rw [hdie, fireDie, hl', List.foldl_append, List.foldl_cons]
  rw [hfold]
  exact (hunits hvr _).trans (hdies her _)

end State

end Sys2Proof.Machine

namespace Sys2Proof.Machine

namespace State

variable {s x y : State} {g : Fin 8}

/-! ## The members' requests are gone (R334) -/

/-- A member's request dropped. -/
def dropRequest (g e : Fin 8) (s : State) (v : Fin 8) : State :=
  if s.member g e v then s.updAcq e v (fun a => { a with own := none }) else s

/-- Typed units alone have changed, and not unit `v` of die `e`. -/
def OtherUnits (e v : Fin 8) (s t : State) : Prop := (∃ acq, t = { s with acq := acq }) ∧ t.acqU e v = s.acqU e v

theorem OtherUnits.refl {e v : Fin 8} : OtherUnits e v s s := ⟨⟨_, rfl⟩, rfl⟩

theorem OtherUnits.trans {e v : Fin 8} (h : OtherUnits e v s x) (k : OtherUnits e v x y) : OtherUnits e v s y := by
  obtain ⟨⟨a, rfl⟩, hu⟩ := h
  obtain ⟨⟨b, rfl⟩, hv⟩ := k
  exact ⟨⟨b, rfl⟩, hv.trans hu⟩

theorem OtherUnits.foldl {α : Type} {e v : Fin 8} {f : State → α → State} {l : List α} (hf : ∀ y, ∀ a ∈ l, OtherUnits e v y (f y a)) (s : State) :
    OtherUnits e v s (l.foldl f s) := by
  induction l generalizing s with
  | nil => exact .refl
  | cons a t ih => exact (hf s a List.mem_cons_self).trans (ih (fun y b hb => hf y b (List.mem_cons_of_mem _ hb)) (f s a))

theorem dropRequest_other {e v e' v' : Fin 8} (h : ¬(e' = e ∧ v' = v)) (y : State) : OtherUnits e v y (dropRequest g e' y v') := by
  unfold dropRequest
  split
  · exact ⟨⟨_, rfl⟩, by rw [acqU_updAcq, if_neg (fun hc => h ⟨hc.1.symm, hc.2.symm⟩)]⟩
  · exact .refl

/-- The requests of one die's members dropped. -/
def dropDie (g : Fin 8) (s : State) (e : Fin 8) : State := (List.finRange 8).foldl (dropRequest g e) s

theorem groupClear_eq (s : State) (g : Fin 8) : s.groupClear g = (List.finRange 8).foldl (dropDie g) s := rfl

/-- Each member's request is dropped, and nothing else. -/
theorem groupClear_effect (s : State) (g e v : Fin 8) : (∃ acq, s.groupClear g = { s with acq := acq }) ∧
    (s.groupClear g).acqU e v = if s.member g e v then { s.acqU e v with own := none } else s.acqU e v := by
  obtain ⟨l, r, hl, hel, her⟩ := split_finRange e
  obtain ⟨l', r', hl', hvl, hvr⟩ := split_finRange v
  have hdies {m : List (Fin 8)} (hm : e ∉ m) (y : State) : OtherUnits e v y (m.foldl (dropDie g) y) :=
    OtherUnits.foldl (fun y e' he' => OtherUnits.foldl (fun z v' _ =>
      dropRequest_other (fun (h : e' = e ∧ v' = v) => hm (h.1 ▸ he')) z) y) y
  have hunits {m : List (Fin 8)} (hm : v ∉ m) (y : State) : OtherUnits e v y (m.foldl (dropRequest g e) y) :=
    OtherUnits.foldl (fun z v' hv' => dropRequest_other (fun (h : e = e ∧ v' = v) => hm (h.2 ▸ hv')) z) y
  rw [groupClear_eq, hl, List.foldl_append, List.foldl_cons]
  have hbefore := (hdies hel s).trans (hunits hvl _)
  generalize l.foldl (dropDie g) s = p at hbefore
  rw [dropDie, hl', List.foldl_append, List.foldl_cons]
  generalize l'.foldl (dropRequest g e) p = p at hbefore ⊢
  have hafter := (hunits hvr (dropRequest g e p v)).trans (hdies her _)
  obtain ⟨⟨b, hb⟩, hub⟩ := hbefore
  have hmem : p.member g e v = s.member g e v := by
    rw [hb]
    rfl
  have hself : (∃ acq, dropRequest g e p v = { s with acq := acq }) ∧
      (dropRequest g e p v).acqU e v = if s.member g e v then { s.acqU e v with own := none } else s.acqU e v := by
    unfold dropRequest
    rw [hmem]
    split
    · rw [acqU_updAcq_same, hub, hb]
      exact ⟨⟨_, rfl⟩, rfl⟩
    · exact ⟨⟨b, hb⟩, hub⟩
  obtain ⟨⟨c, hc⟩, huc⟩ := hself
  obtain ⟨⟨a, ha⟩, hua⟩ := hafter
  exact ⟨⟨a, by rw [ha, hc]⟩, hua.trans huc⟩

/-! ## GROUP_FIRE -/

/-- The group's registers once it fires: no longer armed, the fire counted, the firing unit named. -/
def fireNoted (s : State) (g d u : Fin 8) : State :=
  ((((s.wr 0 F.ACQ_GRP_CTRL_ARMED 0 g).wrapCnt 0 F.ACQ_GRP_STAT_FIRES g).wr 0 F.ACQ_GRP_STAT_FIRER_UNIT u g).wr 0
    F.ACQ_GRP_STAT_FIRER_DIE d g).wr 0 F.ACQ_EVT_GRP_FIRE 1

/-- A group that fires: armed, by an ARMED member whose source has fired. -/
def Fires (s : State) (g d u : Fin 8) (time : Nat) : Prop :=
  (s.acqU d u).own = some time ∧ s.on 0 F.ACQ_GRP_CTRL_ARMED g = true ∧ s.member g d u = true ∧ s.acqSt d u = 2

/-- The trigger that a group's fire brings to its members. -/
def groupTrig (s : State) (g d u : Fin 8) (time : Nat) : AcqTrig :=
  { time := time, src := s.rd d F.ACQ_U_TRIG_SRC u, group := some g, firerUnit := u, firerDie := d }

theorem groupFire_idle {d u : Fin 8} {time : Nat} (h : ¬s.Fires g d u time) : s.groupFire g d u time = s := by
  unfold groupFire
  refine if_neg (fun hc => h ?_)
  simp only [Bool.and_eq_true, beq_iff_eq] at hc
  obtain ⟨⟨⟨hown, harm⟩, hm⟩, hst⟩ := hc
  exact ⟨hown, harm, hm, hst⟩

theorem groupFire_fires {d u : Fin 8} {time : Nat} (h : s.Fires g d u time) : s.groupFire g d u time =
    (List.finRange 8).foldl (fireUsed g (s.groupTrig g d u time)) ((s.groupClear g).fireNoted g d u) := by
  obtain ⟨hown, harm, hm, hst⟩ := h
  unfold groupFire
  exact if_pos (by simp [hown, harm, hm, hst])

/-- A register of a group. -/
def groupReg (f : Fld) : Bool := decide (0x60800 ≤ f.off) && decide (f.off < 0x60808) && decide (f.s1 = 8)

theorem apart_groupReg {f h : Fld} {i : Fin 8} (hf : groupReg f = true) (hh : groupReg h = true) (hd : distinct f h = true) :
    Apart 0 f i 0 0 h i 0 := by
  simp only [groupReg, Bool.and_eq_true, decide_eq_true_eq] at hf hh
  simp only [distinct, Bool.or_eq_true, bne_iff_ne, decide_eq_true_eq] at hd
  unfold Apart fldAddr regAddr
  rw [hf.2, hh.2]
  omega

theorem apart_groupReg_event {f h : Fld} {i : Fin 8} {j : Nat} (hf : eventFld f = true) (hh : groupReg h = true) :
    Apart 0 f j 0 0 h i 0 := by
  simp only [eventFld, groupReg, Bool.and_eq_true, decide_eq_true_eq] at hf hh
  refine .inl ?_
  unfold fldAddr regAddr
  rw [hf.2, hh.2]
  omega

/-- What the group's registers and GRP_FIRE show of a fire. -/
structure Noted (s t : State) (g d u : Fin 8) : Prop where
  armed : t.on 0 F.ACQ_GRP_CTRL_ARMED g = false
  event : t.on 0 F.ACQ_EVT_GRP_FIRE = true
  fires : t.rd 0 F.ACQ_GRP_STAT_FIRES g = (s.rd 0 F.ACQ_GRP_STAT_FIRES g + 1) % 65536
  unit : t.rd 0 F.ACQ_GRP_STAT_FIRER_UNIT g = u.val
  die : t.rd 0 F.ACQ_GRP_STAT_FIRER_DIE g = d.val

theorem fireNoted_noted (s : State) (g d u : Fin 8) : Noted s (s.fireNoted g d u) g d u := by
  have ap {f h : Fld} (hf : groupReg f = true) (hh : groupReg h = true) (hd : distinct f h = true) : Apart 0 f g 0 0 h g 0 :=
    apart_groupReg hf hh hd
  have ev {h : Fld} (hh : groupReg h = true) : Apart 0 F.ACQ_EVT_GRP_FIRE 0 0 0 h g 0 := apart_groupReg_event (by decide) hh
  unfold fireNoted wrapCnt
  refine ⟨?_, on_wr_one (by decide) rfl, ?_, ?_, ?_⟩
  · unfold on
    rw [rd_wr_apart _ _ _ _ _ _ _ _ _ _ (ev (by decide)), rd_wr_apart _ _ _ _ _ _ _ _ _ _ (ap (by decide) (by decide) (by decide)),
      rd_wr_apart _ _ _ _ _ _ _ _ _ _ (ap (by decide) (by decide) (by decide)),
      rd_wr_apart _ _ _ _ _ _ _ _ _ _ (ap (by decide) (by decide) (by decide)), rd_wr_same _ _ _ _ _ _ (by decide)]
    rfl
  · rw [rd_wr_apart _ _ _ _ _ _ _ _ _ _ (ev (by decide)), rd_wr_apart _ _ _ _ _ _ _ _ _ _ (ap (by decide) (by decide) (by decide)),
      rd_wr_apart _ _ _ _ _ _ _ _ _ _ (ap (by decide) (by decide) (by decide)), rd_wr_same _ _ _ _ _ _ (by decide),
      rd_wr_apart _ _ _ _ _ _ _ _ _ _ (ap (by decide) (by decide) (by decide))]
    exact Nat.mod_mod _ _
  · rw [rd_wr_apart _ _ _ _ _ _ _ _ _ _ (ev (by decide)), rd_wr_apart _ _ _ _ _ _ _ _ _ _ (ap (by decide) (by decide) (by decide)),
      rd_wr_same _ _ _ _ _ _ (by decide)]
    exact Nat.mod_eq_of_lt u.isLt
  · rw [rd_wr_apart _ _ _ _ _ _ _ _ _ _ (ev (by decide)), rd_wr_same _ _ _ _ _ _ (by decide)]
    exact Nat.mod_eq_of_lt d.isLt

/-- A field of a unit, or of the package, outlives what a fire notes. -/
theorem rd_fireNoted (s : State) (g d u : Fin 8) {e i : Nat} {f : Fld} (he : e < 8 → f.off + i * f.s1 < 0x60800 ∧ f.off + i * f.s1 ≠ 0x60004) (ho : f.off + i * f.s1 < 0x1000000) (hp : e < 8 ∨ e = pkgDie) :
    (s.fireNoted g d u).rd e f i = s.rd e f i := by
  have grp {h : Fld} (hh : groupReg h = true) : Apart 0 h g 0 e f i 0 := by
    simp only [groupReg, Bool.and_eq_true, decide_eq_true_eq] at hh
    refine .inl ?_
    unfold fldAddr regAddr
    rw [hh.2]
    unfold pkgDie at hp
    omega
  have ev : Apart 0 F.ACQ_EVT_GRP_FIRE 0 0 e f i 0 := by
    refine .inl ?_
    unfold fldAddr regAddr
    simp only [F.ACQ_EVT_GRP_FIRE]
    unfold pkgDie at hp
    omega
  unfold fireNoted wrapCnt
  rw [rd_wr_apart _ _ _ _ _ _ _ _ _ _ ev, rd_wr_apart _ _ _ _ _ _ _ _ _ _ (grp (by decide)),
    rd_wr_apart _ _ _ _ _ _ _ _ _ _ (grp (by decide)), rd_wr_apart _ _ _ _ _ _ _ _ _ _ (grp (by decide)),
    rd_wr_apart _ _ _ _ _ _ _ _ _ _ (grp (by decide))]

end State

end Sys2Proof.Machine

namespace Sys2Proof.Machine

namespace State

variable {s x y : State} {g d u : Fin 8}

/-! ## What a fire finds -/

/-- The group cleared and its fire noted. -/
def fireReady (s : State) (g d u : Fin 8) : State := (s.groupClear g).fireNoted g d u

theorem rd_groupClear (s : State) (g : Fin 8) (e : Nat) (f : Fld) (i : Nat) : (s.groupClear g).rd e f i = s.rd e f i := by
  obtain ⟨⟨acq, h⟩, -⟩ := groupClear_effect s g 0 0
  rw [h]
  rfl

/-- Unit registers outlive what a fire notes. -/
theorem rd_unit_fireReady (s : State) (g d u e v : Fin 8) {f : Fld} (hf : unitReg f = true) : (s.fireReady g d u).rd e f v = s.rd e f v := by
  simp only [unitReg, Bool.and_eq_true, decide_eq_true_eq] at hf
  have hoff : f.off + v.val * f.s1 < 0x60800 ∧ f.off + v.val * f.s1 ≠ 0x60004 := by
    rw [hf.2]
    omega
  exact (rd_fireNoted _ g d u (fun _ => hoff) (by omega) (.inl e.isLt)).trans (rd_groupClear ..)

theorem member_fireReady (s : State) (g d u e v : Fin 8) : (s.fireReady g d u).member g e v = s.member g e v := by
  unfold member on
  rw [rd_unit_fireReady _ _ _ _ _ _ (by decide), rd_unit_fireReady _ _ _ _ _ _ (by decide)]

theorem acqSt_fireReady (s : State) (g d u e v : Fin 8) : (s.fireReady g d u).acqSt e v = s.acqSt e v := rd_unit_fireReady _ _ _ _ _ _ (by decide)

theorem dieUsed_fireReady (s : State) (g d u : Fin 8) (e : Nat) : (s.fireReady g d u).dieUsed e = s.dieUsed e := by
  have h {f : Fld} (ho : f.off + 0 * f.s1 < 0x1000000) : (s.fireReady g d u).rd pkgDie f = s.rd pkgDie f :=
    (rd_fireNoted _ g d u (fun hlt => absurd hlt (by decide)) ho (.inr rfl)).trans (rd_groupClear ..)
  unfold dieUsed present bit
  rw [h (by decide), h (by decide)]

theorem acq_fireNoted (s : State) (g d u : Fin 8) : (s.fireNoted g d u).acq = s.acq := by
  unfold fireNoted wrapCnt
  simp only [wr_acq]

theorem pending_fireNoted (s : State) (g d u : Fin 8) : (s.fireNoted g d u).pending = s.pending := by
  unfold fireNoted wrapCnt
  simp only [wr_pending]

theorem acqU_fireReady (s : State) (g d u e v : Fin 8) : (s.fireReady g d u).acqU e v =
    if s.member g e v then { s.acqU e v with own := none } else s.acqU e v :=
  (acqU_of_acq (acq_fireNoted ..) e v).trans (groupClear_effect s g e v).2

theorem pending_fireReady (s : State) (g d u : Fin 8) : (s.fireReady g d u).pending = s.pending := by
  obtain ⟨⟨acq, h⟩, -⟩ := groupClear_effect s g 0 0
  refine (pending_fireNoted ..).trans ?_
  rw [h]

theorem noted_fireReady (s : State) (g d u : Fin 8) : Noted s (s.fireReady g d u) g d u := by
  obtain ⟨harm, hev, hfires, hunit, hdie⟩ := fireNoted_noted (s.groupClear g) g d u
  rw [rd_groupClear] at hfires
  exact ⟨harm, hev, hfires, hunit, hdie⟩

/-! ## What a fire leaves (R333, R334) -/

/-- Unit `v` of die `e` after a fire of group `g`. -/
structure FireAt (s t : State) (g : Fin 8) (tr : AcqTrig) (e v : Fin 8) : Prop where
  armed : s.dieUsed e = true → s.member g e v = true → s.acqSt e v = 2 →
    t.acqSt e v = 3 ∧ e.val * 8 + v.val ∈ (t.group.get g).wait ∧ (t.acqU e v).trig = some tr
  busy : s.dieUsed e = true → s.member g e v = true → s.acqSt e v ≠ 2 → t.acqSt e v = s.acqSt e v ∧
    t.acqU e v = { s.acqU e v with own := none } ∧ t.rd e F.ACQ_U_CNT_BUSY_TRIG v = min 255 (s.rd e F.ACQ_U_CNT_BUSY_TRIG v + 1)
  outside : s.dieUsed e = false ∨ s.member g e v = false → t.acqSt e v = s.acqSt e v
  other : s.member g e v = false → t.acqU e v = s.acqU e v

/-- The fire brought to every unit of every die in use. -/
def fireAll (s : State) (g : Fin 8) (tr : AcqTrig) : State := (List.finRange 8).foldl (fireUsed g tr) s

theorem fireAll_spread (s : State) (g : Fin 8) (tr : AcqTrig) :
    Spread (fun e v => s.dieUsed e = true ∧ s.member g e v = true) g s (s.fireAll g tr) :=
  fireDies_spread _ s (fun _ _ hu _ hm => ⟨hu, hm⟩)

theorem fireAll_at (s : State) (g d u : Fin 8) (tr : AcqTrig) (e v : Fin 8) : FireAt s ((s.fireReady g d u).fireAll g tr) g tr e v := by
  have hall := fireAll_spread (s.fireReady g d u) g tr
  have hunit := acqU_fireReady s g d u e v
  have hst := acqSt_fireReady s g d u e v
  have hmem := member_fireReady s g d u e v
  have hused := dieUsed_fireReady s g d u e
  have hcnt := rd_unit_fireReady s g d u e v (f := F.ACQ_U_CNT_BUSY_TRIG) (by decide)
  refine ⟨fun hu hm h2 => ?_, fun hu hm h2 => ?_, fun h => ?_, fun hm => ?_⟩
  · obtain ⟨y, hbefore, hafter⟩ := fire_reaches (tr := tr) (g := g) (v := v) (hused.trans hu)
    have hself : ¬¬(e = e ∧ v = v) := fun h => h ⟨rfl, rfl⟩
    obtain ⟨hst', hwait, htrig⟩ := fireUnit_armed (tr := tr) ((hbefore.member e v).trans (hmem.trans hm)) ((hbefore.acqSt hself).trans (hst.trans h2))
    exact ⟨(hafter.acqSt hself).trans hst', hafter.wait _ hwait, (congrArg (·.trig) (hafter.units e v hself)).trans htrig⟩
  · obtain ⟨y, hbefore, hafter⟩ := fire_reaches (tr := tr) (g := g) (v := v) (hused.trans hu)
    have hself : ¬¬(e = e ∧ v = v) := fun h => h ⟨rfl, rfl⟩
    have hsty : y.acqSt e v = s.acqSt e v := (hbefore.acqSt hself).trans hst
    obtain ⟨hst', hunit', hcnt'⟩ := fireUnit_busy (tr := tr) ((hbefore.member e v).trans (hmem.trans hm)) (fun h => h2 (hsty.symm.trans h))
    rw [if_pos hm] at hunit
    refine ⟨(hafter.acqSt hself).trans (hst'.trans hsty), ((hafter.units e v hself).trans hunit').trans ((hbefore.units e v hself).trans hunit), ?_⟩
    refine (hafter.rd (by decide) (.inl hself)).trans ?_
    rw [hcnt', hbefore.rd (by decide) (.inl hself), hcnt]
  · refine (hall.acqSt ?_).trans hst
    rw [hused, hmem]
    rintro ⟨hu, hm⟩
    rw [hu, hm] at h
    exact h.elim Bool.noConfusion Bool.noConfusion
  · rw [if_neg (ne_true_of_eq_false hm)] at hunit
    refine (hall.units e v ?_).trans hunit
    rw [hmem]
    exact fun h => absurd (hm.symm.trans h.2) Bool.false_ne_true

theorem groupFire_effect {time : Nat} (h : s.Fires g d u time) : Noted s (s.groupFire g d u time) g d u ∧
    (s.groupFire g d u time).pending = s.pending ∧ ∀ e v, FireAt s (s.groupFire g d u time) g (s.groupTrig g d u time) e v := by
  have hall := fireAll_spread (s.fireReady g d u) g (s.groupTrig g d u time)
  obtain ⟨harm, hev, hfires, hunit, hdie⟩ := noted_fireReady s g d u
  have heq : s.groupFire g d u time = (s.fireReady g d u).fireAll g (s.groupTrig g d u time) := groupFire_fires h
  have kept {f : Fld} (hf : groupReg f = true) :
      ((s.fireReady g d u).fireAll g (s.groupTrig g d u time)).rd (0 : Fin 8) f g = (s.fireReady g d u).rd (0 : Fin 8) f g := by
    simp only [groupReg, Bool.and_eq_true, decide_eq_true_eq] at hf
    refine hall.rd_outside (.inr (by omega)) ?_
    rw [hf.2]
    omega
  rw [heq]
  refine ⟨⟨?_, ?_, (kept (by decide)).trans hfires, (kept (by decide)).trans hunit, (kept (by decide)).trans hdie⟩,
    hall.pending.trans (pending_fireReady ..), fun e v => fireAll_at s g d u _ e v⟩
  · unfold on at harm ⊢
    exact (congrArg (· != 0) (kept (by decide))).trans harm
  · unfold on at hev ⊢
    exact (congrArg (· != 0) (hall.rd_outside (d := 0) (i := 0) (f := F.ACQ_EVT_GRP_FIRE) (.inl (by decide)) (by decide))).trans hev

/-! ## GROUP_ARM and DISARM (R334) -/

theorem groupArm_effect (s : State) (g : Fin 8) : (s.wr 0 F.ACQ_GRP_CTRL_ARMED 1 g).on 0 F.ACQ_GRP_CTRL_ARMED g = true ∧
    WritesOnly [fldAddr 0 F.ACQ_GRP_CTRL_ARMED g 0] s (s.wr 0 F.ACQ_GRP_CTRL_ARMED 1 g) :=
  ⟨on_wr_one (by decide) rfl, writesOnly_wr List.mem_cons_self writesOnly_refl⟩

/-- The group as DISARM leaves it. -/
def disarmed (s : State) (g : Fin 8) : State :=
  { (s.groupClear g).wr 0 F.ACQ_GRP_CTRL_ARMED 0 g with group := upd s.group g (fun _ => { wait := [] }) }

theorem withGroup (s : State) (v : Vector AcqGroup 8) : ({ s with group := v }).regs = s.regs ∧ Keeps s { s with group := v } :=
  ⟨rfl, rfl, rfl, rfl⟩

theorem disarmed_effect (s : State) (g : Fin 8) : (s.disarmed g).on 0 F.ACQ_GRP_CTRL_ARMED g = false ∧
    ((s.disarmed g).group.get g).wait = [] ∧ OnlyRegs [fldAddr 0 F.ACQ_GRP_CTRL_ARMED g 0] s (s.disarmed g) := by
  obtain ⟨hregs, hmem, hpend, hnow⟩ :=
    withGroup ((s.groupClear g).wr 0 F.ACQ_GRP_CTRL_ARMED 0 g) (upd s.group g (fun _ => { wait := [] }))
  obtain ⟨⟨acq, hclear⟩, -⟩ := groupClear_effect s g 0 0
  have hkeeps : Keeps s (s.groupClear g) ∧ (s.groupClear g).regs = s.regs := by
    rw [hclear]
    exact ⟨⟨rfl, rfl, rfl⟩, rfl⟩
  obtain ⟨⟨hm, hp, hn⟩, hr⟩ := hkeeps
  refine ⟨?_, ?_, fun a ha => ?_, hmem.trans ((wr_mem ..).trans hm), hpend.trans ((wr_pending ..).trans hp), hnow.trans ((wr_now ..).trans hn)⟩
  · unfold on disarmed
    rw [rd_of_regs hregs, rd_wr_same _ _ _ _ _ _ (by decide)]
    rfl
  · unfold disarmed
    dsimp only
    rw [get_upd_same]
  · exact (word_of_regs hregs a).trans ((word_wr_ne _ _ _ _ _ _ _ (fun h => ha (List.mem_singleton.mpr h))).trans (word_of_regs hr a))

end State

end Sys2Proof.Machine

/-! # Gathered streams (R33, R335, R336) -/

namespace Sys2Proof.Machine

namespace State

variable {s x y : State} {d u : Fin 8}

/-! ## Units that read alike -/

/-- In `s` and `t` unit `u` of die `d` has the same registers. -/
def RegsAlike (s t : State) (d u : Fin 8) : Prop := ∀ f, unitReg f = true → t.rd d f u = s.rd d f u

theorem RegsAlike.acqSt (h : RegsAlike s x d u) : x.acqSt d u = s.acqSt d u := h _ (by decide)

theorem RegsAlike.acqW (h : RegsAlike s x d u) : x.acqW d u = s.acqW d u := by
  unfold State.acqW on
  rw [h _ (by decide)]

theorem RegsAlike.acqHead (h : RegsAlike s x d u) : x.acqHead d u = s.acqHead d u := by
  unfold State.acqHead acqSegBytes
  rw [h.acqW, h _ (by decide), h _ (by decide), h _ (by decide)]

theorem RegsAlike.sampleKey (h : RegsAlike s x d u) (i : Nat) : x.sampleKey d u i = s.sampleKey d u i := by
  unfold State.sampleKey
  rw [h.acqHead, h.acqW]

theorem RegsAlike.acqHeader (h : RegsAlike s x d u) (ha : x.acqU d u = s.acqU d u) : x.acqHeader d u = s.acqHeader d u := by
  unfold State.acqHeader on
  rw [ha, h F.ACQ_U_LEN_LEN (by decide), h F.ACQ_U_CFG_GATH (by decide), h F.ACQ_U_CNT_SEGDONE (by decide),
    h F.ACQ_U_CFG_SRC_DIE (by decide), h F.ACQ_U_CFG_FMT (by decide)]

/-- A register beyond the acquisition engine's. -/
theorem apart_unit_far {e : Nat} {f g : Fld} {i : Nat} (hf : 0x70000 ≤ f.off + i * f.s1) (ho : f.off + i * f.s1 < 0x1000000)
    (hg : unitReg g = true) : Apart e f i 0 d g u 0 := by
  simp only [unitReg, Bool.and_eq_true, decide_eq_true_eq] at hg
  refine .inl ?_
  unfold fldAddr regAddr
  rw [hg.2]
  omega

theorem regsAlike_wr {e : Nat} {f : Fld} {v i : Nat} (hf : 0x70000 ≤ f.off + i * f.s1) (ho : f.off + i * f.s1 < 0x1000000) :
    RegsAlike s (s.wr e f v i) d u := fun _ hg => rd_wr_apart _ _ _ _ _ _ _ _ _ _ (apart_unit_far hf ho hg)

theorem regsAlike_xlkFirst (s : State) (e c : Nat) (d u : Fin 8) : RegsAlike s (s.xlkFirst e c) d u := by
  unfold xlkFirst
  split
  · exact regsAlike_wr (by decide) (by decide)
  · exact fun _ _ => rfl

theorem regsAlike_xlkSent (s : State) (e : Fin 8) (n : Nat) (d u : Fin 8) : RegsAlike s (s.xlkSent e 3 n) d u := by
  intro g hg
  simp only [unitReg, Bool.and_eq_true, decide_eq_true_eq] at hg
  unfold xlkSent State.rd
  dsimp only
  rw [word_setWord_ne]
  unfold fldAddr regAddr
  rw [hg.2]
  simp only [F.XLK_CLS_CNT]
  omega

/-! ## A gathered word (R335) -/

/-- A word that reaches no level trigger and no entry's end trigger is taken, and that is all. -/
theorem acqWord_recording {w : Word} {t dec : Nat} {b : Bool} (hst : s.acqSt d u = 3) (h2 : (s.acqTake d u w t dec).rd d F.ACQ_U_TRIG_SRC u ≠ 2)
    (h3 : (s.acqTake d u w t dec).rd d F.ACQ_U_TRIG_SRC u ≠ 3) : s.acqWord d u w t dec b = s.acqTake d u w t dec := by
  have hcross : (s.acqTake d u w t dec).acqCross d u w t = s.acqTake d u w t dec := by
    unfold acqCross
    exact if_neg (fun h => h2 h.1)
  have hentry (n : Nat) : (s.acqTake d u w t dec).acqEntry d u n t = s.acqTake d u w t dec := by
    unfold acqEntry
    split
    · unfold acqFire
      exact if_pos h3
    · rfl
  rw [acqWord_eq, if_pos (.inr (.inl hst)), hcross, hentry, ite_self]

/-- A unit with one word more for its decimation. -/
def decimated (a : AcqUnit) : AcqUnit := { a with decim := a.decim + 1 }

/-- A unit with a sample in its delay line. -/
def lined (v : AcqSample) (a : AcqUnit) : AcqUnit := { a with line := (a.line ++ [v]).drop ((a.line.length + 1) - 64), chg := false }

/-- The sample that a word makes. -/
def sampleOf (s : State) (d u : Fin 8) (w : Word) (t : Nat) : AcqSample := { word := w, t := t, chg := (s.acqU d u).chg }

theorem acqTake_recording (hst : s.acqSt d u = 3) (hl : (s.acqU d u).left ≠ 0) (w : Word) (t : Nat) :
    s.acqTake d u w t 1 =
      ((s.updAcq d u decimated).updAcq d u (lined (s.sampleOf d u w t))).acqPut d u (s.sampleOf d u w t) := by
  have hcond : (decide (((s.acqU d u).decim + 1) % 1 = 0) && ((decide (s.acqSt d u = 2) && decide (u.val < 2)) ||
      (decide (s.acqSt d u = 3) && decide ((s.acqU d u).left ≠ 0)))) = true := by
    simp [hst, hl, Nat.mod_one]
  have hkeep : decide (((s.acqU d u).decim + 1) % 1 = 0) = true := by simp [Nat.mod_one]
  unfold acqTake
  dsimp only
  rw [if_pos hcond, if_pos hkeep]
  rfl

/-- A gathered word stands as the next sample of its segment. -/
structure WordTaken (s t : State) (d u : Fin 8) (w : Word) : Prop where
  sample : t.bytes (s.sampleKey d u (s.acqU d u).n) (s.acqW d u) = leBytes (s.acqW d u) w.toNat
  n : (t.acqU d u).n = (s.acqU d u).n + 1
  left : (t.acqU d u).left = (s.acqU d u).left - 1
  pending : t.pending = s.pending
  bytes : ∀ k, k < s.sampleKey d u (s.acqU d u).n ∨ s.sampleKey d u (s.acqU d u).n + s.acqW d u ≤ k → t.byte k = s.byte k

theorem bytes_of_mem (h : x.mem = s.mem) (k n : Nat) : x.bytes k n = s.bytes k n := by
  unfold bytes
  exact List.map_congr_left (fun i _ => byte_of_mem h _)

theorem wordTaken_acqPut (hc : ¬u.val < 2) (v : AcqSample) : WordTaken s (s.acqPut d u v) d u v.word := by
  have hrec := acqPut_recorded (s := s) (d := d) hc v
  refine ⟨?_, hrec.n, hrec.left, ?_, fun k hk => hrec.bytes k (fun i h0 h1 => ?_)⟩
  · have h := bytes_setBytes s (s.sampleKey d u (s.acqU d u).n) (leBytes (s.acqW d u) v.word.toNat)
    rw [length_leBytes] at h
    rw [acqPut_segment hc, bytes_of_mem (mem_updAcq ..), h]
  · obtain ⟨mem, ups, acq, e⟩ := hrec.eq
    rw [e]
  · rwa [show i = (s.acqU d u).n by omega]

theorem WordTaken.of_alike {w : Word} (h : WordTaken x y d u w) (hr : RegsAlike s x d u) (hn : (x.acqU d u).n = (s.acqU d u).n)
    (hl : (x.acqU d u).left = (s.acqU d u).left) (hm : x.mem = s.mem) (hp : x.pending = s.pending) : WordTaken s y d u w := by
  obtain ⟨hs, hn', hl', hp', hb⟩ := h
  rw [hn, hr.sampleKey, hr.acqW] at hs hb
  exact ⟨hs, hn'.trans (congrArg (· + 1) hn), hl'.trans (congrArg (· - 1) hl), hp'.trans hp, fun k hk => (hb k hk).trans (byte_of_mem hm k)⟩

theorem wordTaken_acqTake (hc : ¬u.val < 2) (hst : s.acqSt d u = 3) (hl : (s.acqU d u).left ≠ 0) (w : Word) (t : Nat) :
    WordTaken s (s.acqTake d u w t 1) d u w := by
  have hunit : ((s.updAcq d u decimated).updAcq d u (lined (s.sampleOf d u w t))).acqU d u = lined (s.sampleOf d u w t) (decimated (s.acqU d u)) := by
    rw [acqU_updAcq_same, acqU_updAcq_same]
  have hput := wordTaken_acqPut (s := (s.updAcq d u decimated).updAcq d u (lined (s.sampleOf d u w t))) (d := d) hc (s.sampleOf d u w t)
  rw [acqTake_recording hst hl]
  refine hput.of_alike (fun f _ => ?_) (congrArg (·.n) hunit) (congrArg (·.left) hunit) ?_ ?_
  · rw [rd_updAcq, rd_updAcq]
  · rw [mem_updAcq, mem_updAcq]
  · rw [pending_updAcq, pending_updAcq]

theorem rd_acqTake (hc : ¬u.val < 2) (hst : s.acqSt d u = 3) (hl : (s.acqU d u).left ≠ 0) (w : Word) (t : Nat) (f : Fld) :
    (s.acqTake d u w t 1).rd d f u = s.rd d f u := by
  rw [acqTake_recording hst hl, rd_of_regs (acqPut_recorded hc _).regs, rd_updAcq, rd_updAcq]

/-- A recording unit takes a gathered word that triggers nothing. -/
theorem wordTaken_acqWord (hc : ¬u.val < 2) (hst : s.acqSt d u = 3) (hl : (s.acqU d u).left ≠ 0) (h2 : s.rd d F.ACQ_U_TRIG_SRC u ≠ 2)
    (h3 : s.rd d F.ACQ_U_TRIG_SRC u ≠ 3) (w : Word) (t : Nat) (b : Bool) : WordTaken s (s.acqWord d u w t 1 b) d u w := by
  rw [acqWord_recording hst (by rwa [rd_acqTake hc hst hl]) (by rwa [rd_acqTake hc hst hl])]
  exact wordTaken_acqTake hc hst hl w t

/-- A unit of the lead die that gathers. -/
theorem gathers_iff : s.gathers u = true ↔ s.on 0 F.ACQ_U_CFG_GATH u = true ∧ 2 ≤ s.acqSt 0 u ∧ s.acqSt 0 u ≤ 4 := by
  unfold gathers
  rw [Bool.and_eq_true, Bool.and_eq_true, decide_eq_true_eq, decide_eq_true_eq, and_assoc]

/-- The state that a block of one word leaves. -/
theorem gathered_taken (hc : ¬u.val < 2) (hst : s.acqSt 0 u = 3) (hl : (s.acqU 0 u).left ≠ 0) (h2 : s.rd 0 F.ACQ_U_TRIG_SRC u ≠ 2)
    (h3 : s.rd 0 F.ACQ_U_TRIG_SRC u ≠ 3) (e : Fin 8) (n : Nat) (w : Word) (t : Nat) :
    WordTaken s ((s.xlkSent e 3 n).acqWord 0 u w t 1 true) 0 u w := by
  have hr := regsAlike_xlkSent s e n 0 u
  have hunit : (s.xlkSent e 3 n).acqU 0 u = s.acqU 0 u := acqU_of_acq (setWord_acq ..) 0 u
  have hsrc : (s.xlkSent e 3 n).rd 0 F.ACQ_U_TRIG_SRC u = s.rd 0 F.ACQ_U_TRIG_SRC u := hr _ (by decide)
  have htaken := wordTaken_acqWord (s := s.xlkSent e 3 n) (d := 0) hc (hr.acqSt.trans hst) (fun h => hl (by rw [← hunit, h]))
    (fun h => h2 (hsrc.symm.trans h)) (fun h => h3 (hsrc.symm.trans h)) w t true
  exact htaken.of_alike hr (congrArg (·.n) hunit) (congrArg (·.left) hunit) (setWord_mem ..) (setWord_pending ..)

/-! ## A lost block (R33, R336) -/

theorem gathLoses_of_lane (h : s.rd (s.gathDie u) F.XLK_STAT_LANES_OK ≠ 15) : s.gathLoses u = true := by
  unfold gathLoses
  rw [Bool.or_eq_true]
  exact .inl (bne_iff_ne.mpr h)

theorem gathLoses_of_few (h : s.rd (s.gathDie u) F.XLK_STAT_LANES_OK = 15) (hn : (List.finRange 8).countP (fun x => s.present x) ≤ 4) :
    s.gathLoses u = false := by
  have hfew : decide (4 < (List.finRange 8).countP (fun x => s.present x)) = false := decide_eq_false (by omega)
  unfold gathLoses
  rw [h, hfew]
  rfl

/-- The loss noted at the link's die, the unit not yet stopped. -/
def lossNoted (s : State) (e : Nat) : State := (s.wr e F.XLK_ERR_CLS3_SHORT 1).xlkFirst e 3

theorem gathLost_eq (s : State) (u : Fin 8) : s.gathLost u = (s.lossNoted (s.rd 0 F.ACQ_U_CFG_SRC_DIE u)).acqHalt 0 u true := rfl

theorem regsAlike_lossNoted (s : State) (e : Nat) (d u : Fin 8) : RegsAlike s (s.lossNoted e) d u :=
  fun f hf => (regsAlike_xlkFirst _ e 3 d u f hf).trans (regsAlike_wr (by decide) (by decide) f hf)

theorem on_lossNoted (s : State) (e : Nat) : (s.lossNoted e).on e F.XLK_ERR_CLS3_SHORT = true := by
  unfold lossNoted on
  rw [rd_xlkFirst (.inr (by decide))]
  exact on_wr_one (by decide) rfl

theorem acq_lossNoted (s : State) (e : Nat) : (s.lossNoted e).acq = s.acq ∧ (s.lossNoted e).mem = s.mem := by
  unfold lossNoted xlkFirst
  split
  · exact ⟨by rw [wr_acq, wr_acq], by rw [wr_mem, wr_mem]⟩
  · exact ⟨wr_acq .., wr_mem ..⟩

/-- A register beyond the acquisition engine's outlives a unit's stop. -/
theorem rd_acqHalt_far {ovf : Bool} {e i : Nat} {f : Fld} (hf : 0x70000 ≤ f.off + i * f.s1) (ho : f.off + i * f.s1 < 0x1000000) :
    (s.acqHalt d u ovf).rd e f i = s.rd e f i := by
  by_cases hst : s.acqSt d u = 2 ∨ s.acqSt d u = 3
  · rw [acqHalt_eq hst]
    obtain ⟨-, -, hover⟩ := overflowed_eq s d u ovf
    have hregs : (if s.acqSt d u = 3 then (s.overflowed d u ovf).acqWriteHead d u else s.overflowed d u ovf).regs = s.regs := by
      split
      · exact (memOnly_acqWriteHead ..).regs.trans hover
      · exact hover
    generalize (if s.acqSt d u = 3 then (s.overflowed d u ovf).acqWriteHead d u else s.overflowed d u ovf) = z at hregs
    have hevent : Apart d F.ACQ_EVT_STOPPED 0 0 e f i 0 := by
      refine .inl ?_
      unfold fldAddr regAddr
      simp only [F.ACQ_EVT_STOPPED]
      omega
    have hstate : fldAddr e f i 0 ≠ fldAddr d F.ACQ_U_STAT_STATE u 0 := by
      unfold fldAddr regAddr
      simp only [F.ACQ_U_STAT_STATE]
      omega
    have hgroup (g : Fin 8) : fldAddr e f i 0 ≠ fldAddr 0 F.ACQ_GRP_CTRL_ARMED g 0 := by
      unfold fldAddr regAddr
      simp only [F.ACQ_GRP_CTRL_ARMED]
      omega
    refine (rd_wr_apart _ _ _ _ _ _ _ _ _ _ hevent).trans ?_
    unfold rd
    rw [(settled_acqSetSt z d u 6).words _ hgroup, word_wr_ne _ _ _ _ _ _ _ hstate, word_of_regs hregs]
  · rw [acqHalt_idle (fun h => hst (.inl h)) (fun h => hst (.inr h))]

/-- What a lost block leaves of the unit that gathers. -/
structure Lost (s t : State) (u : Fin 8) : Prop where
  short : t.on (s.rd 0 F.ACQ_U_CFG_SRC_DIE u) F.XLK_ERR_CLS3_SHORT = true
  stopped : s.acqSt 0 u = 2 ∨ s.acqSt 0 u = 3 → t.acqSt 0 u = 6 ∧ t.bit 0 F.ACQ_EVT_STOPPED u = true
  head : s.acqSt 0 u = 3 → HeadWritten s (s.updAcq 0 u (fun a => { a with flags := a.flags ||| 32 })) t 0 u
  mem : s.acqSt 0 u ≠ 3 → t.mem = s.mem

theorem gathLost_lost (s : State) (u : Fin 8) : Lost s (s.gathLost u) u := by
  have hr := regsAlike_lossNoted s (s.rd 0 F.ACQ_U_CFG_SRC_DIE u) 0 u
  obtain ⟨hacq, hmem⟩ := acq_lossNoted s (s.rd 0 F.ACQ_U_CFG_SRC_DIE u)
  have hshort := on_lossNoted s (s.rd 0 F.ACQ_U_CFG_SRC_DIE u)
  have hst := hr.acqSt
  rw [gathLost_eq]
  generalize s.lossNoted (s.rd 0 F.ACQ_U_CFG_SRC_DIE u) = z at hr hacq hmem hshort hst ⊢
  refine ⟨?_, fun h => ?_, fun h => ?_, fun h => ?_⟩
  · unfold on at hshort ⊢
    rwa [rd_acqHalt_far (by decide) (by decide)]
  · rw [← hst] at h
    exact ⟨(acqHalt_halted (ovf := true) h).state, (acqHalt_halted (ovf := true) h).event⟩
  · rw [← hst] at h
    obtain ⟨hw, hb⟩ := (acqHalt_halted (ovf := true) (.inr h)).head h
    have hover : RegsAlike (s.updAcq 0 u (fun a => { a with flags := a.flags ||| 32 })) (z.overflowed 0 u true) 0 u := fun f hf =>
      (rd_of_regs (overflowed_eq z 0 u true).2.2 0 f u 0).trans ((hr f hf).trans (rd_updAcq ..).symm)
    have hunit : (z.overflowed 0 u true).acqU 0 u = (s.updAcq 0 u (fun a => { a with flags := a.flags ||| 32 })).acqU 0 u := by
      rw [acqU_updAcq_same]
      rw [overflowed, if_pos rfl, acqU_updAcq_same, acqU_of_acq hacq]
    rw [hr.acqHead] at hw hb
    rw [hover.acqHeader hunit] at hw
    exact ⟨hw, fun k hk => (hb k hk).trans (byte_of_mem hmem k)⟩
  · by_cases h2 : z.acqSt 0 u = 2
    · exact ((acqHalt_halted (ovf := true) (.inl h2)).mem h2).trans hmem
    · rw [acqHalt_idle h2 (by rwa [hst])]
      exact hmem

end State

end Sys2Proof.Machine

/-! # Readout copies (R339) -/

namespace Sys2Proof.Machine

namespace State

variable {s x y : State} {d : Fin 8}

/-! ## Start and end of a copy -/

/-- A copy started. -/
def copyStarted (s : State) (d : Fin 8) : State := (s.wr d F.ACQ_RD_CTRL_BUSY 1).wr d F.ACQ_RD_CTRL_PIECES 0

theorem copyStarted_effect (s : State) (d : Fin 8) : (s.copyStarted d).on d F.ACQ_RD_CTRL_BUSY = true ∧
    (s.copyStarted d).rd d F.ACQ_RD_CTRL_PIECES = 0 ∧ WritesOnly [fldAddr d F.ACQ_RD_CTRL_BUSY 0 0] s (s.copyStarted d) := by
  unfold copyStarted
  refine ⟨?_, ?_, writesOnly_wr (List.mem_singleton.mpr rfl) (writesOnly_wr List.mem_cons_self writesOnly_refl)⟩
  · unfold on
    rw [rd_wr_apart _ _ _ _ _ _ _ _ _ _ (.inr (by decide))]
    exact on_wr_one (by decide) rfl
  · rw [rd_wr_same _ _ _ _ _ _ (by decide)]
    rfl

/-- What the end of a copy leaves. -/
structure CopyEnded (s t : State) (d : Fin 8) (status : Nat) : Prop where
  busy : t.on d F.ACQ_RD_CTRL_BUSY = false
  status : t.rd d F.ACQ_RD_CTRL_STATUS = status
  event : t.on d F.ACQ_EVT_RD_DONE = true
  mem : t.mem = s.mem
  rd : ∀ f, f.off = 0x6001C → F.ACQ_RD_CTRL_STATUS.lo + F.ACQ_RD_CTRL_STATUS.w ≤ f.lo → t.rd d f = s.rd d f

theorem apart_event_ctrl {f : Fld} (hf : f.off = 0x6001C) : Apart d F.ACQ_EVT_RD_DONE 0 0 d f 0 0 := by
  refine .inl ?_
  unfold fldAddr regAddr
  simp only [F.ACQ_EVT_RD_DONE, hf]
  omega

theorem copyEnd_ended (s : State) (d : Fin 8) {status : Nat} (h : status < 256) : CopyEnded s (s.copyEnd d status) d status := by
  unfold copyEnd
  refine ⟨?_, ?_, on_wr_one (by decide) rfl, by simp only [wr_mem], fun f hf hl => ?_⟩
  · unfold on
    rw [rd_wr_apart _ _ _ _ _ _ _ _ _ _ (apart_event_ctrl rfl), rd_wr_apart _ _ _ _ _ _ _ _ _ _ (.inr (by decide)),
      rd_wr_same _ _ _ _ _ _ (by decide)]
    rfl
  · rw [rd_wr_apart _ _ _ _ _ _ _ _ _ _ (apart_event_ctrl rfl), rd_wr_same _ _ _ _ _ _ (by decide)]
    exact Nat.mod_eq_of_lt h
  · simp only [F.ACQ_RD_CTRL_STATUS] at hl
    rw [rd_wr_apart _ _ _ _ _ _ _ _ _ _ (apart_event_ctrl hf),
      rd_wr_apart _ _ _ _ _ _ _ _ _ _ (.inr (.inl (by simp only [F.ACQ_RD_CTRL_STATUS]; omega))),
      rd_wr_apart _ _ _ _ _ _ _ _ _ _ (.inr (.inl (by simp only [F.ACQ_RD_CTRL_BUSY]; omega)))]

/-- Bytes of a copy that lie in capture SRAM are those that it holds. -/
theorem copyBytes_inside {o n : Nat} (h : s.rd d F.ACQ_RD_SRC_SRC + o + n ≤ 0x400000) :
    s.copyBytes d o n = (s.bytes (capKey d (s.rd d F.ACQ_RD_SRC_SRC + o)) n, s) := by
  have hin : min n (0x400000 - (s.rd d F.ACQ_RD_SRC_SRC + o)) = n := by omega
  unfold copyBytes
  dsimp only
  rw [hin, if_pos rfl]

/-! ## A copy to host SRAM -/

/-- What a copy to host SRAM leaves. -/
structure SramCopied (s t : State) (d : Fin 8) : Prop where
  copy : t.bytes (sramKey d (s.rd d F.ACQ_RD_DST)) (s.rd d F.ACQ_RD_LEN_LEN) =
    s.bytes (capKey d (s.rd d F.ACQ_RD_SRC_SRC)) (s.rd d F.ACQ_RD_LEN_LEN)
  busy : t.on d F.ACQ_RD_CTRL_BUSY = false
  status : t.rd d F.ACQ_RD_CTRL_STATUS = 0
  event : t.on d F.ACQ_EVT_RD_DONE = true
  bytes : ∀ k, k < sramKey d (s.rd d F.ACQ_RD_DST) ∨ sramKey d (s.rd d F.ACQ_RD_DST) + s.rd d F.ACQ_RD_LEN_LEN ≤ k → t.byte k = s.byte k

theorem length_bytes (s : State) (k n : Nat) : (s.bytes k n).length = n := by
  unfold bytes
  rw [List.length_map, List.length_range]

theorem copySram_copied (h0 : 0x10000000 ≤ s.rd d F.ACQ_RD_DST) (h1 : s.rd d F.ACQ_RD_DST + s.rd d F.ACQ_RD_LEN_LEN ≤ 0x10200000)
    (h2 : s.rd d F.ACQ_RD_SRC_SRC + s.rd d F.ACQ_RD_LEN_LEN ≤ 0x400000) : SramCopied s (s.copySram d) d := by
  have heq : s.copySram d = (s.setBytes (sramKey d (s.rd d F.ACQ_RD_DST))
      (s.bytes (capKey d (s.rd d F.ACQ_RD_SRC_SRC)) (s.rd d F.ACQ_RD_LEN_LEN))).copyEnd d 0 := by
    unfold copySram
    dsimp only
    rw [if_pos ⟨h0, h1⟩, copyBytes_inside (by omega)]
    rfl
  have hlen := length_bytes s (capKey d (s.rd d F.ACQ_RD_SRC_SRC)) (s.rd d F.ACQ_RD_LEN_LEN)
  have hin := bytes_setBytes s (sramKey d (s.rd d F.ACQ_RD_DST)) (s.bytes (capKey d (s.rd d F.ACQ_RD_SRC_SRC)) (s.rd d F.ACQ_RD_LEN_LEN))
  have hout (k : Nat) (hk : k < sramKey d (s.rd d F.ACQ_RD_DST) ∨ sramKey d (s.rd d F.ACQ_RD_DST) + s.rd d F.ACQ_RD_LEN_LEN ≤ k) :
      (s.setBytes (sramKey d (s.rd d F.ACQ_RD_DST)) (s.bytes (capKey d (s.rd d F.ACQ_RD_SRC_SRC)) (s.rd d F.ACQ_RD_LEN_LEN))).byte k = s.byte k :=
    byte_setBytes_out _ _ _ _ (by rwa [hlen])
  rw [hlen] at hin
  rw [heq]
  generalize s.setBytes (sramKey d (s.rd d F.ACQ_RD_DST)) (s.bytes (capKey d (s.rd d F.ACQ_RD_SRC_SRC)) (s.rd d F.ACQ_RD_LEN_LEN)) = z at hin hout
  obtain ⟨hbusy, hstatus, hevent, hmem, -⟩ := copyEnd_ended z d (status := 0) (by decide)
  exact ⟨(bytes_of_mem hmem _ _).trans hin, hbusy, hstatus, hevent, fun k hk => (byte_of_mem hmem k).trans (hout k hk)⟩

/-! ## A copy to bulk slots -/

/-- A bulk slot's index. -/
def isBulk (i : Nat) : Prop := 16 ≤ i ∧ i ≤ 77

theorem nextBulk_free {i : Nat} (h : s.nextBulk = some i) : isBulk i ∧ s.own i = 3 := by
  unfold nextBulk at h
  obtain ⟨k, hk, rfl⟩ := Option.map_eq_some_iff.mp h
  have hlt := List.mem_range.mp (List.mem_of_find?_eq_some hk)
  have hp := List.find?_some hk
  rw [Bool.and_eq_true, beq_iff_eq, Nat.add_comm 16 k] at hp
  exact ⟨⟨by omega, by omega⟩, hp.2⟩

/-- Keys of a bulk slot's header and payload, which does not reach the end of the window before the slot's. -/
theorem winKey_bulk {i o : Nat} (hi : isBulk i) (ho : o < 0x4000) : winKey (slotBase i + o) = winKey (slotBase i) + o := by
  obtain ⟨h0, h1⟩ := hi
  have hb : slotBase i = 0x8000 + 0x4000 * (i - 16) := by
    unfold slotBase
    rw [if_neg (by omega), if_neg (by omega), if_neg (by omega)]
  unfold winKey
  omega

theorem header_setHeader (s : State) (i : Nat) (w : Word) : (s.setHeader i w).header i = w := mword_setMword_same ..

theorem byte_setHeader_out (s : State) (i : Nat) (w : Word) {a : Nat} (h : winKey (slotBase i) + 4 ≤ a) : (s.setHeader i w).byte a = s.byte a :=
  byte_setMword_out _ _ _ _ (.inr h)

/-- A bulk slot with its words filled in, not yet published. -/
def filled (s : State) (i : Nat) (w : List Word) : State := (s.claimSlot i).putPayload i w

theorem header_filled {i : Nat} (hi : isBulk i) (ho : s.own i = 3) (w : List Word) :
    (s.filled i w).header i = mkHeader 2 (hSeq (s.header i)) (hLen (s.header i)) := by
  have hclaim : s.claimSlot i = s.setHeader i (mkHeader 2 (hSeq (s.header i)) (hLen (s.header i))) := by
    unfold claimSlot
    exact if_pos ho
  unfold filled
  rw [hclaim]
  generalize mkHeader 2 (hSeq (s.header i)) (hLen (s.header i)) = h
  refine Eq.trans ?_ (header_setHeader s i h)
  unfold putPayload
  rw [winKey_bulk (o := 4) hi (by decide)]
  exact mword_congr (fun j hj => byte_setMwords_out _ _ _ _ (.inl (by omega)))

theorem words_filled {i : Nat} (hi : isBulk i) {w : List Word} (hw : w.length ≤ 4095) : (List.range w.length).map ((s.filled i w).slotWord i) = w := by
  refine Eq.trans (List.map_congr_left (fun j hj => ?_)) (mwords_setMwords w (s.claimSlot i) (winKey (slotBase i + 4)))
  have hj := List.mem_range.mp hj
  unfold slotWord filled putPayload
  rw [winKey_bulk (o := 4) hi (by decide), Nat.add_assoc, winKey_bulk (o := 4 + 4 * j) hi (by omega), Nat.add_assoc]

/-- The header of a published slot. -/
def publishedHeader (s : State) (i len : Nat) : Word := mkHeader 1 ((hSeq (s.header i) + 1) % 65536) len

theorem publish_bulk {i len : Nat} (hi : isBulk i) (ho : s.own i = 2) :
    s.publish i 0 len = (s.setHeader i (s.publishedHeader i len)).wr 0 F.SMW_EVT_BULK 1 := by
  obtain ⟨h0, h1⟩ := hi
  have h8 : ¬i < 8 := by omega
  have h9 : i ≠ 9 := by omega
  unfold publish publishedHeader
  dsimp only
  rw [if_neg (fun h => h ho), if_neg h8, if_neg h8, if_neg h9, if_pos h0]

theorem mkHeader_mod (o q l : Nat) : mkHeader o (q % 65536) l = mkHeader o q l := by
  unfold mkHeader
  rw [Nat.mod_mod]

/-- What a published result leaves. -/
structure Published (s t : State) (i : Nat) (w : List Word) : Prop where
  header : t.header i = mkHeader 1 (hSeq (s.header i) + 1) w.length
  words : (List.range w.length).map (t.slotWord i) = w
  rd : ∀ (f : Fld), Apart 0 F.SMW_EVT_BULK 0 0 0 f 0 0 → t.rd 0 f = s.rd 0 f

theorem regs_filled (s : State) (i : Nat) (w : List Word) : (s.filled i w).regs = s.regs := by
  have hclaim : MemOnly s (s.claimSlot i) := by
    unfold claimSlot
    dsimp only
    split
    · exact MemOnly.refl.setBytes _ _
    · exact .refl
  exact (hclaim.setMwords _ _).regs

theorem filled_published {i : Nat} (hi : isBulk i) (ho : s.own i = 3) {w : List Word} (hw : w.length ≤ 4095) :
    Published s ((s.filled i w).publish i 0 w.length) i w := by
  have hhead := header_filled hi ho w
  have hwords := words_filled (s := s) hi hw
  have hregs := regs_filled s i w
  have hown : (s.filled i w).own i = 2 := by
    unfold own
    rw [hhead, hOwn_mkHeader]
  have hpub : (s.filled i w).publishedHeader i w.length = mkHeader 1 (hSeq (s.header i) + 1) w.length := by
    unfold publishedHeader
    rw [hhead, hSeq_mkHeader, Nat.mod_add_mod, mkHeader_mod]
  rw [publish_bulk hi hown, hpub]
  generalize s.filled i w = z at hwords hregs ⊢
  refine ⟨(mword_of_mem (wr_mem ..) _).trans (header_setHeader ..), ?_, fun f hf => ?_⟩
  · refine Eq.trans (List.map_congr_left (fun j hj => ?_)) hwords
    have hj := List.mem_range.mp hj
    refine (mword_of_mem (wr_mem ..) _).trans (mword_congr (fun b hb => byte_setHeader_out _ _ _ ?_))
    rw [Nat.add_assoc, winKey_bulk hi (by omega)]
    omega
  · rw [rd_wr_apart _ _ _ _ _ _ _ _ _ _ hf]
    exact rd_of_regs (((MemOnly.refl (s := z)).setBytes _ _).regs.trans hregs) 0 f 0 0

/-! ### One piece -/

theorem length_wordsOf (l : List Byte) : 4 * (wordsOf l).length ≤ l.length + 3 := by
  fun_induction wordsOf l with
  | case1 a b c d t ih =>
    simp only [List.length_cons]
    omega
  | case2 => exact Nat.zero_le _
  | case3 l h0 h1 =>
    cases l with
    | nil => exact absurd rfl h1
    | cons a t =>
      simp only [List.length_cons, List.length_nil]
      omega

/-- A copy to bulk slots that waits for a slot. -/
theorem copyPieces_waits {fuel : Nat} (hk : s.rd 0 F.ACQ_RD_CTRL_PIECES = 0) (hl : 0 < s.rd 0 F.ACQ_RD_LEN_LEN) (hn : s.nextBulk = none) :
    copyPieces (fuel + 1) s = s := by
  unfold copyPieces
  dsimp only
  rw [hk, if_neg (by omega), hn]

/-- All pieces are out. -/
theorem copyPieces_ends {fuel : Nat} (h : min 65532 (s.rd 0 F.ACQ_RD_LEN_LEN) ≤ pieceBytes * s.rd 0 F.ACQ_RD_CTRL_PIECES) :
    copyPieces (fuel + 1) s = s.copyEnd 0 0 := by
  unfold copyPieces
  exact if_pos h

/-- The words of a copy of one piece. -/
def pieceWords (s : State) : List Word := wordsOf (s.bytes (capKey 0 (s.rd 0 F.ACQ_RD_SRC_SRC)) (s.rd 0 F.ACQ_RD_LEN_LEN))

/-- The first piece published, the copy's registers not yet written. -/
def firstPiece (s : State) (i : Nat) : State := (s.filled i s.pieceWords).publish i 0 s.pieceWords.length

theorem copyPieces_first {i fuel : Nat} (hk : s.rd 0 F.ACQ_RD_CTRL_PIECES = 0) (hl : 0 < s.rd 0 F.ACQ_RD_LEN_LEN) (hn : s.nextBulk = some i)
    (hp : s.rd 0 F.ACQ_RD_LEN_LEN ≤ 16380) (hsrc : s.rd 0 F.ACQ_RD_SRC_SRC + s.rd 0 F.ACQ_RD_LEN_LEN ≤ 0x400000) :
    copyPieces (fuel + 1) s = copyPieces fuel (((s.firstPiece i).wr 0 F.ACQ_RD_CTRL_SLOT i).wr 0 F.ACQ_RD_CTRL_PIECES 1) := by
  have hmin : min pieceBytes (min 65532 (s.rd 0 F.ACQ_RD_LEN_LEN) - pieceBytes * 0) = s.rd 0 F.ACQ_RD_LEN_LEN := by
    unfold pieceBytes
    omega
  have hcopy : s.copyBytes 0 (pieceBytes * 0) (s.rd 0 F.ACQ_RD_LEN_LEN) =
      (s.bytes (capKey 0 (s.rd 0 F.ACQ_RD_SRC_SRC)) (s.rd 0 F.ACQ_RD_LEN_LEN), s) := copyBytes_inside (d := 0) (o := 0) hsrc
  conv_lhs => unfold copyPieces
  dsimp only
  rw [hk, if_neg (by omega), hn]
  dsimp only
  rw [hmin, hcopy, if_pos rfl]
  rfl

/-- What a copy of one piece leaves. -/
structure PieceCopied (s t : State) (i : Nat) : Prop where
  words : (List.range s.pieceWords.length).map (t.slotWord i) = s.pieceWords
  header : t.header i = mkHeader 1 (hSeq (s.header i) + 1) s.pieceWords.length
  pieces : t.rd 0 F.ACQ_RD_CTRL_PIECES = 1
  slot : t.rd 0 F.ACQ_RD_CTRL_SLOT = i
  busy : t.on 0 F.ACQ_RD_CTRL_BUSY = false
  status : t.rd 0 F.ACQ_RD_CTRL_STATUS = 0

theorem copyPieces_copied {i fuel : Nat} (hk : s.rd 0 F.ACQ_RD_CTRL_PIECES = 0) (hl : 0 < s.rd 0 F.ACQ_RD_LEN_LEN) (hn : s.nextBulk = some i)
    (hp : s.rd 0 F.ACQ_RD_LEN_LEN ≤ 16380) (hsrc : s.rd 0 F.ACQ_RD_SRC_SRC + s.rd 0 F.ACQ_RD_LEN_LEN ≤ 0x400000) :
    PieceCopied s (copyPieces (fuel + 2) s) i := by
  obtain ⟨hi, hown⟩ := nextBulk_free hn
  have hlen : s.pieceWords.length ≤ 4095 := by
    have h := length_wordsOf (s.bytes (capKey 0 (s.rd 0 F.ACQ_RD_SRC_SRC)) (s.rd 0 F.ACQ_RD_LEN_LEN))
    rw [length_bytes] at h
    unfold pieceWords
    omega
  obtain ⟨hheader, hwords, hrd⟩ : Published s (s.firstPiece i) i s.pieceWords := filled_published hi hown hlen
  have hlast : ((s.firstPiece i).wr 0 F.ACQ_RD_CTRL_SLOT i).rd 0 F.ACQ_RD_LEN_LEN = s.rd 0 F.ACQ_RD_LEN_LEN := by
    rw [rd_wr_apart _ _ _ _ _ _ _ _ _ _ (.inl (by decide)), hrd _ (.inl (by decide))]
  rw [copyPieces_first hk hl hn hp hsrc]
  generalize s.firstPiece i = p at hheader hwords hlast ⊢
  have hslot : (p.wr 0 F.ACQ_RD_CTRL_SLOT i).rd 0 F.ACQ_RD_CTRL_SLOT = i := by
    rw [rd_wr_same _ _ _ _ _ _ (by decide)]
    exact Nat.mod_eq_of_lt (by simp only [F.ACQ_RD_CTRL_SLOT]; exact Nat.lt_of_le_of_lt hi.2 (by decide))
  have hmem : (p.wr 0 F.ACQ_RD_CTRL_SLOT i).mem = p.mem := wr_mem ..
  generalize p.wr 0 F.ACQ_RD_CTRL_SLOT i = q at hlast hslot hmem ⊢
  have hpieces : (q.wr 0 F.ACQ_RD_CTRL_PIECES 1).rd 0 F.ACQ_RD_CTRL_PIECES = 1 := rd_wr_same _ _ _ _ _ _ (by decide)
  have hslot' : (q.wr 0 F.ACQ_RD_CTRL_PIECES 1).rd 0 F.ACQ_RD_CTRL_SLOT = i := (rd_wr_apart _ _ _ _ _ _ _ _ _ _ (.inr (by decide))).trans hslot
  have hlen' : (q.wr 0 F.ACQ_RD_CTRL_PIECES 1).rd 0 F.ACQ_RD_LEN_LEN = s.rd 0 F.ACQ_RD_LEN_LEN :=
    (rd_wr_apart _ _ _ _ _ _ _ _ _ _ (.inl (by decide))).trans hlast
  have hmem' : (q.wr 0 F.ACQ_RD_CTRL_PIECES 1).mem = p.mem := (wr_mem ..).trans hmem
  generalize q.wr 0 F.ACQ_RD_CTRL_PIECES 1 = r at hpieces hslot' hlen' hmem' ⊢
  rw [copyPieces_ends (by rw [hpieces, hlen']; unfold pieceBytes; omega)]
  obtain ⟨hbusy, hstatus, -, hend, hctrl⟩ := copyEnd_ended r 0 (status := 0) (by decide)
  have hall := hend.trans hmem'
  exact ⟨(List.map_congr_left (fun j _ => mword_of_mem hall _)).trans hwords, (mword_of_mem hall _).trans hheader,
    (hctrl _ rfl (by decide)).trans hpieces, (hctrl _ rfl (by decide)).trans hslot', hbusy, hstatus⟩

end State

end Sys2Proof.Machine

/-! # The acquisition units -/

namespace Sys2Proof.Machine

open State

variable {s : State} {d u g : Fin 8}

theorem member_iff {e v : Fin 8} :
    s.member g e v = true ↔ s.on e F.ACQ_U_TRIG_GRP_EN v = true ∧ s.rd e F.ACQ_U_TRIG_GROUP v = g.val := by
  unfold State.member
  rw [Bool.and_eq_true, beq_iff_eq]

theorem exec_gatherBlock (h : s.gathers u = true) (l : List (Word × Nat)) : exec (.gatherBlock u l) s =
    .next (l.foldl (fun s x => s.acqWord 0 u x.1 x.2 1 true) (s.xlkSent (s.gathDie u) 3 (2 + (l.length + 1) / 2))) :=
  congrArg Host.Outcome.next (if_pos h)

theorem exec_gatherBlock_one (h : s.gathers u = true) (w : Word) (t : Nat) :
    exec (.gatherBlock u [(w, t)]) s = .next ((s.xlkSent (s.gathDie u) 3 (2 + ([(w, t)].length + 1) / 2)).acqWord 0 u w t 1 true) := by
  rw [exec_gatherBlock h, List.foldl_cons, List.foldl_nil]

theorem exec_gatherOverflow (h : s.gathers u = true) (hl : s.gathLoses u = true) : exec (.gatherOverflow u) s = .next (s.gathLost u) :=
  congrArg Host.Outcome.next (if_pos (by rw [h, hl]; rfl))

theorem exec_readoutGo (h : s.on d F.ACQ_RD_CTRL_BUSY = false) : exec (.readoutGo d) s = .next (s.copyStarted d) :=
  congrArg Host.Outcome.next (if_neg (ne_true_of_eq_false h))

theorem exec_readoutDone_idle (h : s.on d F.ACQ_RD_CTRL_BUSY = false) : exec (.readoutDone d) s = .next s :=
  congrArg Host.Outcome.next (if_pos (by rw [h]; rfl))

theorem exec_readoutDone_sram (h : s.on d F.ACQ_RD_CTRL_BUSY = true) (hw : s.on d F.ACQ_RD_CTRL_WIN = false) :
    exec (.readoutDone d) s = .next (s.copySram d) :=
  congrArg Host.Outcome.next ((if_neg (by rw [h]; decide)).trans (if_pos (by rw [hw]; rfl)))

theorem exec_readoutDone_window (h : s.on 0 F.ACQ_RD_CTRL_BUSY = true) (hw : s.on 0 F.ACQ_RD_CTRL_WIN = true) :
    exec (.readoutDone 0) s = .next (copyPieces 6 s) :=
  congrArg Host.Outcome.next ((if_neg (by show ¬(!s.on 0 F.ACQ_RD_CTRL_BUSY) = true; rw [h]; decide)).trans
    ((if_neg (by show ¬(!s.on 0 F.ACQ_RD_CTRL_WIN) = true; rw [hw]; decide)).trans (if_pos rfl)))

/-- A unit of the lead die that does not gather. -/
theorem not_gathers (h : s.on 0 F.ACQ_U_CFG_GATH u = false ∨ s.acqSt 0 u < 2 ∨ 4 < s.acqSt 0 u) : ¬s.gathers u = true := by
  rw [gathers_iff]
  rintro ⟨hg, h2, h4⟩
  rw [hg] at h
  obtain h | h := h
  · exact Bool.noConfusion h
  · omega

/-- Settles O52: a lemma for each command, `groupFire_effect` for the fire of a group. -/
theorem acquisitionUnits : Obligations.AcquisitionUnits := by
  unfold Obligations.AcquisitionUnits
  intro s d u g e v time word rest r st a circ stat headKey headed
  refine ⟨?arm, ?force, ?stop, ?stopIdle, ?disable, ?segment, ?post, ?fire, ?groupArm, ?disarm, ?gather, ?readout⟩
  case arm =>
    refine ⟨fun hi => ?_, fun hi hr => ?_, fun hi hr hb => ?_, fun hi hr hb => ?_⟩
    · exact ⟨_, rfl, acqArm_refused (acqArmVerdict_busy hi) (by decide) (by decide)⟩
    · exact ⟨_, rfl, acqArm_refused (acqArmVerdict_read hi hr) (by decide) (by decide)⟩
    · exact ⟨_, rfl, acqArm_refused ((acqArmVerdict_config hi hr).trans (if_pos hb)) (by decide) (by decide)⟩
    · obtain ⟨hst, hstatus, hunit, hseg, hpend, hclear, hkept⟩ := acqArm_accepted ((acqArmVerdict_config hi hr).trans (if_neg hb))
      exact ⟨_, rfl, hst, hstatus, hunit, hseg, hpend, hclear, hkept⟩
  case force =>
    refine ⟨fun hm hs => ?_, fun hm hs => ⟨_, rfl, force_counted hm hs⟩, fun ha => ⟨_, rfl, force_asks ha⟩, fun hn ha => ?_⟩
    · obtain ⟨hst, htrig, hpend, hring, hseg⟩ := force_taken hm hs
      exact ⟨_, rfl, hst, htrig, hpend, hring, hseg⟩
    · exact ⟨_, rfl, force_idle hn ha⟩
  case stop =>
    intro hs
    obtain ⟨hst, hevent, hpend, hhead, hmem⟩ := acqHalt_halted (ovf := false) hs
    exact ⟨_, rfl, hst, hevent, hpend, fun h3 => ⟨(hhead h3).words, (hhead h3).bytes⟩, hmem⟩
  case stopIdle => exact fun h2 h3 => ⟨_, rfl, acqHalt_idle h2 h3⟩
  case disable => exact ⟨_, rfl, acqDisable_effect s d u⟩
  case segment =>
    refine ⟨fun he => ?_, fun hn => ⟨_, rfl, acqSegDone_idle hn⟩⟩
    obtain ⟨⟨hhead, hseg, -, hcount, htrig⟩, hnext, hlast⟩ := acqSegDone_effect he
    exact ⟨_, rfl, hhead.words, hseg, hcount, htrig, hhead.bytes, hnext, hlast⟩
  case post =>
    refine ⟨fun he => ?_, fun hn => ⟨_, rfl, acqPostDone_idle hn⟩⟩
    obtain ⟨hhead, hst, hevent⟩ := acqPostDone_effect he
    exact ⟨_, rfl, hhead.words, hst, hevent, hhead.bytes⟩
  case fire =>
    have hmember (x y : Fin 8) := member_iff (s := s) (g := g) (e := x) (v := y)
    have hother (hn : ¬(s.on e F.ACQ_U_TRIG_GRP_EN v = true ∧ s.rd e F.ACQ_U_TRIG_GROUP v = g.val)) : s.member g e v = false :=
      eq_false_of_ne_true (fun h => hn ((hmember e v).mp h))
    refine ⟨fun hn => ⟨_, rfl, groupFire_idle (fun hf => ?_)⟩, fun hown hf => ?_⟩
    · obtain ⟨hown, harm, hm, hst⟩ := hf
      exact hn.elim (fun h => h hown) (fun h => h ⟨harm, (hmember d u).mp hm, hst⟩)
    · obtain ⟨harm, hm, hst⟩ := hf
      obtain ⟨⟨hoff, hevent, hfires, hunit, hdie⟩, hpend, hat⟩ :=
        groupFire_effect (d := d) (u := u) (time := time) ⟨hown, harm, (hmember d u).mpr hm, hst⟩
      obtain ⟨harmed, hbusy, houtside, hsame⟩ := hat e v
      exact ⟨_, rfl, hoff, hevent, hfires, hunit, hdie, hpend, fun hu hm => harmed hu ((hmember e v).mpr hm),
        fun hu hm => hbusy hu ((hmember e v).mpr hm), fun h => houtside (h.imp_right hother), fun hn => hsame (hother hn)⟩
  case groupArm => exact ⟨_, rfl, groupArm_effect s g⟩
  case disarm => exact ⟨s.disarmed g, rfl, disarmed_effect s g⟩
  case gather =>
    refine ⟨fun h => ⟨_, rfl, if_neg (not_gathers h)⟩, fun hg hst hc hl h2 h3 => ?_, ⟨gathLoses_of_lane, gathLoses_of_few⟩, fun h => ?_,
      fun hg h2 h4 hl => ?_⟩
    · obtain ⟨hsample, hn, hleft, hpend, hbytes⟩ := gathered_taken hc hst hl h2 h3 (s.gathDie u) (2 + ([(word, time)].length + 1) / 2) word time
      have hst0 : s.acqSt 0 u = 3 := hst
      exact ⟨_, exec_gatherBlock_one (gathers_iff.mpr ⟨hg, by omega, by omega⟩) word time, hsample, hn, hleft, hpend, hbytes⟩
    · refine ⟨_, rfl, if_neg (fun hb => ?_)⟩
      obtain ⟨hg, hl⟩ := Bool.and_eq_true_iff.mp hb
      obtain h | h | h | h := h
      · exact not_gathers (.inl h) hg
      · exact not_gathers (.inr (.inl h)) hg
      · exact not_gathers (.inr (.inr h)) hg
      · exact Bool.noConfusion (h.symm.trans hl)
    · obtain ⟨hshort, hstop, hhead, hmem⟩ := gathLost_lost s u
      refine ⟨_, exec_gatherOverflow (gathers_iff.mpr ⟨hg, h2, h4⟩) hl, hshort, hstop, fun hd hst => ?_, hmem⟩
      subst hd
      exact (hhead hst).words
  case readout =>
    refine ⟨fun hb => ⟨_, rfl, if_pos hb⟩, fun hb => ⟨_, exec_readoutGo hb, copyStarted_effect s d⟩,
      fun hb => ⟨_, exec_readoutDone_idle hb, rfl⟩, fun hb hw h0 h1 h2 => ?_, fun hd hb hw hk hl => ?_⟩
    · obtain ⟨hcopy, hbusy, hstatus, hevent, hbytes⟩ := copySram_copied h0 h1 h2
      exact ⟨_, exec_readoutDone_sram hb hw, hcopy, hbusy, hstatus, hevent, hbytes⟩
    · subst hd
      refine ⟨fun hn => ⟨_, exec_readoutDone_window hb hw, copyPieces_waits hk hl hn⟩, fun i hn hp hsrc => ?_⟩
      obtain ⟨hwords, hheader, hpieces, hslot, hbusy, hstatus⟩ := copyPieces_copied (fuel := 4) hk hl hn hp hsrc
      exact ⟨_, exec_readoutDone_window hb hw, hwords, hheader, hpieces, hslot, hbusy, hstatus⟩

end Sys2Proof.Machine

/-! # Supplies: rules of folds, of zones, and of the release of ports -/

namespace Sys2Proof.Machine

namespace State

variable {s x y : State}

/-! ## Folds over every index -/

/-- What a step makes true of its own index, and no other step takes back, holds of every index at the end. -/
theorem foldl_finRange_each {n : Nat} {f : State → Fin n → State} {P : Fin n → State → Prop} (hdo : ∀ y i, P i (f y i))
    (hkeep : ∀ y i j, i ≠ j → P i y → P i (f y j)) (s : State) (i : Fin n) : P i ((List.finRange n).foldl f s) := by
  have fold (l : List (Fin n)) (y : State) (h : i ∈ l ∨ P i y) : P i (l.foldl f y) := by
    induction l generalizing y with
    | nil => exact h.resolve_left List.not_mem_nil
    | cons j t ih =>
      refine ih (f y j) ?_
      by_cases hj : i = j
      · exact .inr (hj ▸ hdo y i)
      · exact h.imp (fun hm => (List.mem_cons.mp hm).resolve_left hj) (hkeep y i j hj)
  exact fold _ s (.inl (List.mem_finRange i))

/-! ## Confinement to zones -/

section

variable {Z : List Nat}

theorem Confined.onPorts (h : Confined Z s x) {f : State → Fin 4 → State} (hf : ∀ y k, Confined Z y (f y k)) : Confined Z s (x.onPorts f) :=
  h.foldl _ _ (fun y k _ => hf y k)

theorem Confined.onUsed (h : Confined Z s x) {f : State → Fin 8 → State} (hf : ∀ y d, Confined Z y (f y d)) : Confined Z s (x.onUsed f) :=
  h.foldl _ _ (fun y d _ => .ite (hf y d) .refl)

theorem Confined.on (h : Confined Z s x) (d : Nat) (f : Fld) (i j : Nat) (hz : zone (fldAddr d f i j) ∉ Z) :
    x.on d f i j = s.on d f i j := by
  unfold State.on
  rw [h.rd _ _ _ _ hz]

theorem Confined.dieUsed (h : Confined Z s x) (d : Nat) (hz : 0x101 ∉ Z := by decide) : x.dieUsed d = s.dieUsed d := by
  have hzone {f : Fld} (ho : f.off = 4) (h1 : f.s1 = 0) : zone (fldAddr pkgDie f 0 0) ∉ Z := by rw [zone_pkg, ho]; exact hz
  unfold State.dieUsed State.present bit
  rw [h.rd _ _ _ _ (hzone rfl rfl), h.rd _ _ _ _ (hzone rfl rfl)]

end

/-! ## The release of ports (R55, R439) -/

/-- The zones of acquisition and of the twin. -/
def portZones : List Nat := [0x06, 0x21]

theorem Confined.groupSettle (h : Confined portZones s x) (d u : Fin 8) : Confined portZones s (x.groupSettle d u) := by
  refine h.foldl _ _ (fun y g _ => ?_)
  dsimp only
  have hy : Confined portZones y { y with group := upd y.group g (fun _ =>
      { wait := (y.group.get g).wait.filter (fun v => v ≠ d.val * 8 + u.val) }) } := Confined.refl.same rfl
  exact .ite (.ite hy.wr hy) .refl

theorem Confined.acqSetSt (h : Confined portZones s x) (d u : Fin 8) (st : Nat) : Confined portZones s (x.acqSetSt d u st) :=
  .ite h.wr (h.wr.groupSettle d u)

theorem Confined.acqPut (h : Confined portZones s x) (d u : Fin 8) (v : AcqSample) : Confined portZones s (x.acqPut d u v) := by
  have stored (k : Nat) (l : List Byte) : Confined portZones s (x.setBytes k l) := h.same (setBytes_regs ..)
  unfold State.acqPut
  dsimp only
  exact Confined.same (.ite (.wr (stored _ _)) (stored _ _)) rfl

theorem Confined.updAcq (h : Confined portZones s x) (d u : Fin 8) (f : AcqUnit → AcqUnit) : Confined portZones s (x.updAcq d u f) :=
  h.same rfl

theorem Confined.acqTrigger (h : Confined portZones s x) (d u : Fin 8) (g : AcqTrig) : Confined portZones s (x.acqTrigger d u g) := by
  unfold State.acqTrigger
  have hset := h.acqSetSt d u 3
  exact .ite (hset.updAcq d u _) ((hset.updAcq d u _).foldl _ _ (fun y v _ => .ite .refl (Confined.refl.acqPut d u v)))

theorem Confined.acqFire (h : Confined portZones s x) (d u : Fin 8) (src t : Nat) : Confined portZones s (x.acqFire d u src t) :=
  .ite h (.ite (.ite (h.same rfl) h) (.ite (h.acqTrigger d u _) (.ite h.satCnt h)))

theorem Confined.acqEvent (h : Confined portZones s x) (d : Fin 8) (src param t : Nat) : Confined portZones s (x.acqEvent d src param t) :=
  h.foldl _ _ (fun _ u _ => .ite (Confined.refl.acqFire d u src t) .refl)

theorem Confined.setInh (h : Confined portZones s x) (p : Fin 32) (c : Fin 12) (b : Bool) : Confined portZones s (x.setInh p c b) :=
  have hput : Confined portZones s (x.putInh p c b) := h.same rfl
  .ite (hput.acqEvent _ _ _ _) hput

theorem Confined.claimRaise (h : Confined portZones s x) : Confined portZones s x.claimRaise := h.wr.same rfl

theorem Confined.portsAvailable (h : Confined portZones s x) : Confined portZones s x.portsAvailable := by
  have role : Confined portZones s (x.setRole 1 0) := .ite h.wr.wr (h.wr.wr.info 0 _ _ _ _)
  exact .ite h (.ite (.ite (Confined.same role rfl).claimRaise h) h.claimRaise)

/-- One port released: INH passes from the reset's cause to the state's. -/
def releasePort (d : Fin 8) (s : State) (k : Fin 4) : State :=
  if bitOf (s.pkg.inh.get (portOf d k)).toNat Inh.reset.val then
    (s.setInh (portOf d k) Inh.reset false).setInh (portOf d k) Inh.state true else s

/-- The ports of a running die released. -/
def releaseDiePorts (s : State) (d : Fin 8) : State := if s.pkg.die.get d = .running then s.onPorts (releasePort d) else s

theorem releasePorts_eq (s : State) : s.releasePorts =
    if s.leadRuns && s.on pkgDie F.PKG_DIES_LEAD_OK && s.on pkgDie F.PKG_PWR_HOLDUP_READY && s.on pkgDie F.PKG_PWR_V24_OK then
      (s.onUsed releaseDiePorts).portsAvailable
    else s := rfl

/-- The release of ports writes registers of acquisition and of the twin alone. -/
theorem confined_releasePorts (s : State) : Confined portZones s s.releasePorts := by
  have port (d : Fin 8) (y : State) (k : Fin 4) : Confined portZones y (releasePort d y k) :=
    .ite ((Confined.refl.setInh _ _ _).setInh _ _ _) .refl
  rw [releasePorts_eq]
  exact .ite (Confined.refl.onUsed (fun _ d => .ite (Confined.refl.onPorts (port d)) .refl)).portsAvailable .refl

theorem calm_portsAvailable (h : Calm s x) : Calm s x.portsAvailable := by
  have raised {y : State} (hy : Calm s y) : Calm s y.claimRaise := calm_twin _ (calm_wr _ _ _ _ _ hy)
  unfold portsAvailable
  split
  · exact h
  split
  · split
    · exact raised (calm_twin _ (calm_setRole 1 0 h))
    · exact h
  · exact raised h

theorem calm_releasePorts (h : Calm s x) : Calm s x.releasePorts := by
  have port (d : Fin 8) (y : State) (k : Fin 4) : Calm y (releasePort d y k) := by
    unfold releasePort
    split
    · exact calm_setInh _ _ _ (calm_setInh _ _ _ (calm_refl y))
    · exact calm_refl y
  have die (y : State) (d : Fin 8) : Calm y (releaseDiePorts y d) := by
    unfold releaseDiePorts
    split
    · exact calm_onPorts _ (port d) (calm_refl y)
    · exact calm_refl y
  rw [releasePorts_eq]
  split
  · exact calm_portsAvailable (calm_onUsed _ die h)
  · exact h

end State

end Sys2Proof.Machine

/-! # Power-down: the meter head's books, and the supplies' bits -/

namespace Sys2Proof.Machine

namespace State

variable {s x y : State}

/-! ## What the meter head's bookkeeping may change (R344, R345, R353, R386) -/

/-- From `s` to `t` the meter head has kept its books: the meter, the stream for the twin and the counts of XLINK words alone have changed. -/
structure Booked (s t : State) : Prop where
  eq : ∃ m w g, t = { s with meter := m, twin := w, regs := g }
  words : Confined [0x14] s t

theorem Booked.refl : Booked s s := ⟨⟨_, _, _, rfl⟩, .refl⟩

theorem Booked.trans (h : Booked s x) (k : Booked x y) : Booked s y := by
  obtain ⟨m, w, g, e⟩ := h.eq
  obtain ⟨m', w', g', e'⟩ := k.eq
  exact ⟨⟨m', w', g', by rw [e', e]⟩, h.words.trans k.words⟩

theorem Booked.ite {c : Prop} [Decidable c] {t u : State} (ht : Booked s t) (hu : Booked s u) : Booked s (if c then t else u) := by
  split
  · exact ht
  · exact hu

theorem Booked.foldl {α : Type} (h : Booked s x) (f : State → α → State) (l : List α) (hf : ∀ y a, Booked y (f y a)) :
    Booked s (l.foldl f x) := by
  induction l generalizing x with
  | nil => exact h
  | cons a t ih => exact ih (h.trans (hf x a))

theorem Booked.onPorts (h : Booked s x) {f : State → Fin 4 → State} (hf : ∀ y k, Booked y (f y k)) : Booked s (x.onPorts f) :=
  h.foldl _ _ hf

theorem Booked.onUsed (h : Booked s x) {f : State → Fin 8 → State} (hf : ∀ y d, Booked y (f y d)) : Booked s (x.onUsed f) :=
  h.foldl _ _ (fun y d => .ite (hf y d) .refl)

theorem Booked.updMeter (h : Booked s x) (f : Meter → Meter) : Booked s (x.updMeter f) := h.trans ⟨⟨_, _, _, rfl⟩, .refl⟩

theorem Booked.updPm (h : Booked s x) (p : Fin 32) (f : PortMeter → PortMeter) : Booked s (x.updPm p f) := h.updMeter _

theorem Booked.markPort (h : Booked s x) (p : Fin 32) (b : Nat) : Booked s (x.markPort p b) := by
  unfold State.markPort markSess markProf
  exact (h.updMeter _).updMeter _

theorem Booked.xlkSent (h : Booked s x) (d : Fin 8) (n : Nat) : Booked s (x.xlkSent d 2 n) :=
  h.trans ⟨⟨_, _, _, rfl⟩, Confined.refl.setWord (zone_of_fits (by decide) (by omega) (by decide))⟩

theorem Booked.meterLog (h : Booked s x) (code port : Nat) (data : List Int) : Booked s (x.meterLog code port data) := by
  obtain ⟨m, e⟩ := meterLog_eq x code port data
  rw [e]
  exact h.updMeter (fun _ => m)

theorem Booked.stream (h : Booked s x) (i : ChangeItem) : Booked s (x.stream i) := .ite (h.trans ⟨⟨_, _, _, rfl⟩, .refl⟩) h

theorem Booked.accountEvent (h : Booked s x) (a : Nat) (fell : Bool) (bal : Int) : Booked s (x.accountEvent a fell bal) := by
  unfold State.accountEvent
  exact Booked.updMeter (.ite (h.meterLog _ _ _) h) _

theorem Booked.debit (h : Booked s x) (b : Nat × Nat) : Booked s (x.debit b) := by
  unfold State.debit
  exact .accountEvent (.ite (h.updMeter _) ((h.updMeter _).stream _)) _ _ _

/-- A port's increments credited, with METER_GAP where a sample is missing (R345). -/
theorem Booked.credited (h : Booked s x) (p : Fin 32) (gap : Bool) (f : Meter → Meter) (g : PortMeter → PortMeter) :
    Booked s ((if gap then (x.updMeter f).markPort p 32 else x.updMeter f).updPm p g) :=
  .updPm (.ite ((h.updMeter f).markPort p 32) (h.updMeter f)) p g

theorem Booked.meterCommit (h : Booked s x) : Booked s x.meterCommit := by
  unfold State.meterCommit
  refine .ite h (.updMeter (.foldl (h.onPorts fun y k => ?_) _ _ (fun _ b => Booked.refl.debit b)) _)
  exact Booked.refl.credited (portOf 0 k) (y.meter.port.get (portOf 0 k)).gap _ _

theorem Booked.meterReceive (h : Booked s x) (d : Fin 8) : Booked s (x.meterReceive d) := by
  unfold State.meterReceive
  split
  · exact h
  · refine .ite h (.updMeter (h.onPorts fun y k => ?_) _)
    exact Booked.refl.credited (portOf d k) (y.meter.port.get (portOf d k)).gap _ _

theorem Booked.meterAck (h : Booked s x) (d : Fin 8) : Booked s (x.meterAck d) := by
  unfold State.meterAck
  split
  · exact h
  · exact .ite (((h.onPorts (fun _ _ => Booked.refl.updPm _ _)).updMeter _).xlkSent 0 _) h

theorem Booked.meterSend (h : Booked s x) (d : Fin 8) : Booked s (x.meterSend d) :=
  .ite h (((h.updMeter _).onPorts (fun _ _ => Booked.refl.updPm _ _)).xlkSent d _)

theorem Booked.meterGather (h : Booked s x) : Booked s x.meterGather :=
  (((h.onUsed (fun _ d => Booked.refl.meterReceive d)).meterCommit.onUsed
    (fun _ d => ((Booked.refl.meterAck d).meterSend d).meterReceive d)).meterCommit).onUsed (fun _ d => Booked.refl.meterAck d)

theorem Booked.sessionStop (h : Booked s x) (p : Fin 32) (extra : Nat) : Booked s (x.sessionStop p extra) := by
  unfold State.sessionStop
  split
  · exact h
  · exact ((h.foldl _ _ (fun _ b => Booked.refl.debit b)).updMeter _).updMeter _

theorem Booked.pkg (h : Booked s x) : x.pkg = s.pkg := by
  obtain ⟨m, w, g, rfl⟩ := h.eq
  rfl

theorem Booked.keys (h : Booked s x) : x.keys = s.keys := by
  obtain ⟨m, w, g, rfl⟩ := h.eq
  rfl

theorem Booked.mem (h : Booked s x) : x.mem = s.mem := by
  obtain ⟨m, w, g, rfl⟩ := h.eq
  rfl

theorem Booked.inhBy (h : Booked s x) (p : Fin 32) (c : Fin 12) : x.inhBy p c = s.inhBy p c := by
  unfold State.inhBy
  rw [h.pkg]

/-! ## Fields of PKG_PWR and notices to the twin -/

section

variable {f : Fld} {v : Nat}

@[simp] theorem word_setPwr (a : Nat) : (s.setPwr f v).word a = (s.wr pkgDie f v).word a := rfl
@[simp] theorem rd_setPwr (d : Nat) (g : Fld) (i j : Nat) : (s.setPwr f v).rd d g i j = (s.wr pkgDie f v).rd d g i j := rfl
@[simp] theorem on_setPwr (d : Nat) (g : Fld) (i j : Nat) : (s.setPwr f v).on d g i j = (s.wr pkgDie f v).on d g i j := rfl
@[simp] theorem pkg_setPwr : (s.setPwr f v).pkg = s.pkg := wr_pkg s pkgDie f v 0 0
@[simp] theorem faults_setPwr : (s.setPwr f v).faults = s.faults := wr_faults s pkgDie f v 0 0
@[simp] theorem mem_setPwr : (s.setPwr f v).mem = s.mem := wr_mem s pkgDie f v 0 0

theorem Confined.setPwr {Z : List Nat} (h : Confined Z s x) (hf : 0x100 + f.off / 4 ∈ Z := by decide) : Confined Z s (x.setPwr f v) :=
  (Confined.wrPkg h hf).same rfl

end

/-- A one-bit field written 0 reads clear. -/
theorem on_wr_zero {d : Nat} {f : Fld} {i j : Nat} (h : f.lo + f.w ≤ 32) : (s.wr d f 0 i j).on d f i j = false := by
  rw [State.on, rd_wr_same s d f 0 i j h, Nat.zero_mod]
  rfl

theorem twinNotice_eq (s : State) (last : Bool) : ∃ w, s.twinNotice last = { s with twin := w } := by
  unfold twinNotice
  split
  · exact ⟨_, rfl⟩
  · exact ⟨_, rfl⟩

theorem twinNotice_linked (h : s.linkUp = true) (last : Bool) : s.twinNotice last =
    s.updTwin (fun t => if last then { t with finalNotice := true } else { t with lossNotice := true }) := if_pos h

end State

end Sys2Proof.Machine

/-! # Mains loss and power-down (R51 to R54) -/

namespace Sys2Proof.Machine

namespace State

variable {s x y : State}

/-! ## Loss and return before PWR_DOWN -/

/-- PKG_PWR as MAINS_LOSS leaves it. -/
def lossMarked (s : State) : State :=
  ((s.setPwr F.PKG_PWR_MAINS_LOST 1).wr pkgDie F.PKG_PWR_MAINS_LOSS_EVT 1).setPwr F.PKG_PWR_MAINS_OK 0

/-- PKG_PWR as a return of the mains leaves it. -/
def returnMarked (s : State) : State :=
  ((s.wr pkgDie F.PKG_PWR_MAINS_RETURN_EVT 1).setPwr F.PKG_PWR_MAINS_LOST 0).setPwr F.PKG_PWR_MAINS_OK 1

theorem mainsLoss_eq (hpd : s.pkg.pd = .none) (hl : s.on pkgDie F.PKG_PWR_MAINS_LOST = false) :
    s.mainsLoss = (s.lossMarked.info 0 0x0002 0 0xFF []).twinNotice false :=
  if_neg (by simp [hpd, hl])

theorem mainsReturn_eq (hpd : s.pkg.pd = .none) (hl : s.on pkgDie F.PKG_PWR_MAINS_LOST = true) :
    s.mainsReturn = (s.updTwin (fun t => { t with lossNotice := false })).returnMarked.info 0 0x0003 0 0xFF [] := by
  unfold mainsReturn
  rw [hpd]
  exact if_pos hl

/-- From `s` to `t` no word but PKG_PWR has changed, nor where the dies and a power-down stand. -/
structure PwrMarked (s t : State) : Prop where
  words : ∀ a, a ≠ fldAddr pkgDie F.PKG_PWR_MAINS_LOST 0 0 → t.word a = s.word a
  pkg : t.pkg = s.pkg
  keeps : Keeps s t

theorem PwrMarked.refl : PwrMarked s s := ⟨fun _ _ => rfl, rfl, rfl, rfl, rfl⟩

theorem PwrMarked.wr (h : PwrMarked s x) {f : Fld} {v : Nat} (hf : f.off = 0x10 := by rfl) : PwrMarked s (x.wr pkgDie f v) := by
  obtain ⟨hwords, hpkg, hmem, hpend, hnow⟩ := h
  have haddr : fldAddr pkgDie f 0 0 = fldAddr pkgDie F.PKG_PWR_MAINS_LOST 0 0 := by simp [fldAddr, hf, F.PKG_PWR_MAINS_LOST]
  exact ⟨fun a ha => (word_wr_ne _ _ _ _ _ _ _ (haddr ▸ ha)).trans (hwords a ha), by rw [wr_pkg, hpkg], by rw [wr_mem, hmem],
    by rw [wr_pending, hpend], by rw [wr_now, hnow]⟩

theorem PwrMarked.setPwr (h : PwrMarked s x) {f : Fld} {v : Nat} (hf : f.off = 0x10 := by rfl) : PwrMarked s (x.setPwr f v) := by
  obtain ⟨hwords, hpkg, hmem, hpend, hnow⟩ := h.wr (v := v) hf
  exact ⟨hwords, hpkg, hmem, hpend, hnow⟩

theorem lossMarked_effect (s : State) : PwrMarked s s.lossMarked ∧
    s.lossMarked.on pkgDie F.PKG_PWR_MAINS_LOST = true ∧ s.lossMarked.on pkgDie F.PKG_PWR_MAINS_LOSS_EVT = true := by
  unfold lossMarked
  refine ⟨.setPwr (.wr (.setPwr .refl)), ?_, ?_⟩
  · rw [on_setPwr, on_wr_apart (.inr (by decide)), on_wr_apart (.inr (by decide)), on_setPwr, on_wr_one (by decide) rfl]
  · rw [on_setPwr, on_wr_apart (.inr (by decide)), on_wr_one (by decide) rfl]

theorem returnMarked_effect (s : State) : PwrMarked s s.returnMarked ∧
    s.returnMarked.on pkgDie F.PKG_PWR_MAINS_LOST = false ∧ s.returnMarked.on pkgDie F.PKG_PWR_MAINS_RETURN_EVT = true := by
  unfold returnMarked
  refine ⟨.setPwr (.setPwr (.wr .refl)), ?_, ?_⟩
  · rw [on_setPwr, on_wr_apart (.inr (by decide)), on_setPwr, on_wr_zero (by decide)]
  · rw [on_setPwr, on_wr_apart (.inr (by decide)), on_setPwr, on_wr_apart (.inr (by decide)), on_wr_one (by decide) rfl]

theorem mainsLoss_effect (hpd : s.pkg.pd = .none) (hl : s.on pkgDie F.PKG_PWR_MAINS_LOST = false) :
    s.mainsLoss.on pkgDie F.PKG_PWR_MAINS_LOST = true ∧ s.mainsLoss.on pkgDie F.PKG_PWR_MAINS_LOSS_EVT = true ∧
      s.mainsLoss.pkg = s.pkg ∧ OnlyRegs [fldAddr pkgDie F.PKG_PWR_MAINS_LOST 0 0] s s.mainsLoss ∧
      (s.linkUp = true → s.mainsLoss.twin.lossNotice = true) := by
  obtain ⟨⟨hwords, hpkg, hkeeps⟩, hlost, hevt⟩ := lossMarked_effect s
  rw [mainsLoss_eq hpd hl]
  have hnotice (hlink : s.linkUp = true) : ((s.lossMarked.info 0 0x0002 0 0xFF []).twinNotice false).twin.lossNotice = true := by
    rw [twinNotice_linked]
    · rfl
    · unfold linkUp State.on State.rd at hlink ⊢
      rwa [← hwords (fldAddr 0 F.TWN_STAT_LINK_UP 0 0) (by decide)] at hlink
  obtain ⟨w, hw⟩ := twinNotice_eq (s.lossMarked.info 0 0x0002 0 0xFF []) false
  rw [hw] at hnotice ⊢
  exact ⟨hlost, hevt, hpkg, ⟨fun a ha => hwords a (List.ne_of_not_mem_cons ha), hkeeps⟩, hnotice⟩

theorem mainsReturn_effect (hpd : s.pkg.pd = .none) (hl : s.on pkgDie F.PKG_PWR_MAINS_LOST = true) :
    s.mainsReturn.on pkgDie F.PKG_PWR_MAINS_LOST = false ∧ s.mainsReturn.on pkgDie F.PKG_PWR_MAINS_RETURN_EVT = true ∧
      s.mainsReturn.pkg = s.pkg ∧ OnlyRegs [fldAddr pkgDie F.PKG_PWR_MAINS_LOST 0 0] s s.mainsReturn := by
  rw [mainsReturn_eq hpd hl]
  obtain ⟨⟨hwords, hpkg, hkeeps⟩, hlost, hevt⟩ := returnMarked_effect (s.updTwin (fun t => { t with lossNotice := false }))
  exact ⟨hlost, hevt, hpkg, fun a ha => hwords a (List.ne_of_not_mem_cons ha), hkeeps⟩

theorem mainsReturn_remembered (h : s.pkg.pd = .asserted ∨ s.pkg.pd = .released ∨ s.pkg.pd = .removed) :
    s.mainsReturn = { s with pkg := { s.pkg with mainsBack := true } } := by
  unfold mainsReturn
  rcases h with h | h | h <;> rw [h]

theorem mainsReturn_committed (h : s.pkg.pd = .committed) : s.mainsReturn = s.coldStart := by
  unfold mainsReturn
  rw [h]

/-! ## The cold start (R54, R55) -/

/-- A die put where its service has it at the end of a PWR reset. -/
def diePlaced (s : State) (d : Fin 8) : State := { s with pkg := { s.pkg with die := s.pkg.die.set d (s.afterReset d) } }

theorem onDies_diePlaced (s : State) (d : Fin 8) : (s.onDies diePlaced).pkg.die.get d = (s.onDies diePlaced).afterReset d :=
  foldl_finRange_each (P := fun d y => y.pkg.die.get d = y.afterReset d) (fun _ _ => get_set_self ..)
    (fun y _ j hij h => (get_set_ne y.pkg.die (y.afterReset j) hij).trans h) s d

theorem pwrReset_placed (s : State) : ∃ u : State, u.pkg.pd = .none ∧ s.pwrReset = u.onDies diePlaced := by
  unfold pwrReset
  exact ⟨_, rfl, rfl⟩

/-- Where a reset sends a die is read from PKG_DIES and the chip's retirement. -/
theorem afterReset_congr (hw : x.word (fldAddr pkgDie F.PKG_DIES 0 0) = s.word (fldAddr pkgDie F.PKG_DIES 0 0)) (hf : x.faults = s.faults)
    (d : Fin 8) : x.afterReset d = s.afterReset d := by
  have hbit {f : Fld} (h : fldAddr pkgDie f 0 0 = fldAddr pkgDie F.PKG_DIES 0 0) : x.bit pkgDie f d = s.bit pkgDie f d := by
    unfold bit State.rd
    rw [h, hw]
  unfold afterReset State.dieUsed State.present
  rw [hbit (f := F.PKG_DIES_PRESENT) rfl, hbit (f := F.PKG_DIES_RETIRED) rfl, hbit (f := F.PKG_DIES_LATCHED_OFF) rfl, hf]

/-- A PWR reset and the supplies' bits after it: no power-down, the input good, every die where its service has it. -/
theorem coldStart_effect (s : State) : s.coldStart.pkg.pd = .none ∧ s.coldStart.on pkgDie F.PKG_PWR_MAINS_OK = true ∧
    ∀ d, s.coldStart.pkg.die.get d = s.coldStart.afterReset d := by
  obtain ⟨u, hpd, hu⟩ := pwrReset_placed s
  unfold coldStart
  rw [hu]
  refine ⟨?_, ?_, fun d => ?_⟩
  · rw [pkg_setPwr, pkg_setPwr]
    refine List.foldlRecOn (motive := fun y => y.pkg.pd = .none) _ diePlaced hpd (fun y h d _ => ?_)
    exact h
  · rw [on_setPwr, on_wr_apart (.inr (by decide)), on_setPwr, on_wr_one (by decide) rfl]
  · rw [pkg_setPwr, pkg_setPwr, onDies_diePlaced]
    refine (afterReset_congr ?_ ?_ d).symm
    · rw [word_setPwr, word_wr_ne _ _ _ _ _ _ _ (by decide), word_setPwr, word_wr_ne _ _ _ _ _ _ _ (by decide)]
    · rw [faults_setPwr, faults_setPwr]

end State

end Sys2Proof.Machine

/-! # PWR_DOWN to the commit (R52, R53) -/

namespace Sys2Proof.Machine

namespace State

variable {s x y : State}

/-! ## PWR_DOWN -/

/-- The power-down at a stage. -/
def toStage (s : State) (p : PdStage) : State := { s with pkg := { s.pkg with pd := p } }

/-- PKG_PWR and the stage as PWR_DOWN leaves them. -/
def downMarked (s : State) (level : Nat) : State :=
  (((s.toStage .asserted).setPwr F.PKG_PWR_HOLDUP_LVL level).setPwr F.PKG_PWR_MAINS_LOST 0).setPwr F.PKG_PWR_MAINS_OK 0

/-- The ports of a die stopped for a power-down. -/
def downStop (s : State) (d : Fin 8) : State := ((s.setInhDie d Inh.pwrDown true).haltDie d 3).dieTrip d 14

/-- An open session's stop values taken at a power-down (R357). -/
def downSession (s : State) (p : Fin 32) : State := if (s.meter.session.get p).isSome then s.sessionStop p 1 else s

/-- The meter head's books closed at a power-down: the last increments, the sessions' stop values and t_d (R357, R381). -/
def downBooks (s : State) (level : Nat) : State :=
  let s := (List.finRange 32).foldl downSession s.meterGather
  let t := s.utcMs
  if s.meter.running then
    (s.updMeter (fun m => { m with td := if m.restoring && m.td.isSome then m.td else some t })).meterLog 0x01 0xFF [level]
  else s

theorem pwrDown_eq (h : s.pkg.pd = .none) (level : Nat) : s.pwrDown level =
    ((((s.downMarked level).onUsed downStop).downBooks level).info 0 0x0004 0 0xFF [level]).ownRelease := by
  unfold pwrDown
  rw [if_neg (not_not_intro h)]
  unfold downBooks downMarked toStage downSession downStop
  dsimp only

theorem booked_downBooks (s : State) (level : Nat) : Booked s (s.downBooks level) := by
  have hs : Booked s ((List.finRange 32).foldl downSession s.meterGather) :=
    Booked.refl.meterGather.foldl _ _ (fun _ p => .ite (Booked.refl.sessionStop p 1) .refl)
  unfold downBooks
  dsimp only
  exact .ite ((hs.updMeter _).meterLog _ _ _) hs

theorem still_downStop (s : State) (d : Fin 8) : Still s (s.downStop d) := ((Still.refl.setInhDie d _).haltDie d 3).dieTrip d 14

theorem downStop_stops (s : State) (d : Fin 8) (k : Fin 4) :
    (s.downStop d).inhBy (portOf d k) Inh.pwrDown = true ∧ (s.downStop d).on d F.STL_P_HALT_HALTED k = true := by
  have hhalt := Still.refl (s := s.setInhDie d Inh.pwrDown true).haltDie d 3
  have htrip := Still.refl (s := (s.setInhDie d Inh.pwrDown true).haltDie d 3).dieTrip d 14
  exact ⟨htrip.inh _ _ (hhalt.inh _ _ (inhBy_setInhDie d k _)), htrip.halt d k (on_haltDie d k 3)⟩

theorem dieUsed_downMarked (s : State) (level d : Nat) : (s.downMarked level).dieUsed d = s.dieUsed d := by
  have hmark : Confined [0x104] (s.toStage .asserted) (s.downMarked level) := ((Confined.refl.setPwr).setPwr).setPwr
  exact hmark.dieUsed d

/-- What PWR_DOWN asserts, the meter's books and the release of the claim leave asserted. -/
theorem pwrDown_effect (h : s.pkg.pd = .none) (lvl : Byte) : (s.pwrDown lvl.toNat).pkg.pd = .asserted ∧
    (s.pwrDown lvl.toNat).rd pkgDie F.PKG_PWR_HOLDUP_LVL = lvl.toNat ∧
    ∀ (d : Fin 8) (k : Fin 4), s.dieUsed d = true →
      (s.pwrDown lvl.toNat).inhBy (portOf d k) Inh.pwrDown = true ∧ (s.pwrDown lvl.toNat).on d F.STL_P_HALT_HALTED k = true := by
  rw [pwrDown_eq h]
  have hstop : Still (s.downMarked lvl.toNat) ((s.downMarked lvl.toNat).onUsed downStop) := Still.refl.onUsed still_downStop
  have hbook := booked_downBooks ((s.downMarked lvl.toNat).onUsed downStop) lvl.toNat
  have hend : Still (((s.downMarked lvl.toNat).onUsed downStop).downBooks lvl.toNat)
      ((((s.downMarked lvl.toNat).onUsed downStop).downBooks lvl.toNat).info 0 0x0004 0 0xFF [lvl.toNat]).ownRelease :=
    (Still.refl.info 0 _ _ _ _).ownRelease
  refine ⟨?_, ?_, fun d k hd => ?_⟩
  · rw [hend.pkg, hbook.pkg, hstop.pkg]
    rfl
  · rw [hend.words.rd _ _ _ _ (by decide), hbook.words.rd _ _ _ _ (by decide), hstop.words.rd _ _ _ _ (by decide)]
    unfold downMarked
    rw [rd_setPwr, rd_wr_apart _ _ _ _ _ _ _ _ _ _ (.inr (by decide)), rd_setPwr, rd_wr_apart _ _ _ _ _ _ _ _ _ _ (.inr (by decide)),
      rd_setPwr, rd_wr_same _ _ _ _ _ _ (by decide)]
    exact Nat.mod_eq_of_lt lvl.isLt
  · obtain ⟨hinh, hhalt⟩ := onUsed_each (P := fun y => y.inhBy (portOf d k) Inh.pwrDown = true ∧ y.on d F.STL_P_HALT_HALTED k = true)
      still_downStop ((dieUsed_downMarked s lvl.toNat d).trans hd) (fun y => downStop_stops y d k)
      (fun y z hyz hy => ⟨hyz.inh _ _ hy.1, hyz.halt d k hy.2⟩)
    refine ⟨hend.inh _ _ ((hbook.inhBy _ _).trans hinh), hend.halt d k ?_⟩
    rw [hbook.words.on d _ _ _ (by rw [zone_die d.isLt (by omega) (by decide) (by decide)]; decide), hhalt]

/-! ## Registers of one die -/

/-- From `s` to `t` only registers of die `d` that lie in the listed zones have changed, and typed state beside the package's. -/
structure DieLocal (Z : List Nat) (d : Fin 8) (s t : State) : Prop where
  words : Confined Z s t
  others : ∀ a : Nat, a / 0x1000000 ≠ 0x40 + d.val → t.word a = s.word a
  pkg : t.pkg = s.pkg

section

variable {Z : List Nat} {d : Fin 8}

theorem DieLocal.refl : DieLocal Z d s s := ⟨.refl, fun _ _ => rfl, rfl⟩

theorem DieLocal.trans (h : DieLocal Z d s x) (k : DieLocal Z d x y) : DieLocal Z d s y :=
  ⟨h.words.trans k.words, fun a ha => (k.others a ha).trans (h.others a ha), k.pkg.trans h.pkg⟩

theorem DieLocal.ite {c : Prop} [Decidable c] {t u : State} (ht : DieLocal Z d s t) (hu : DieLocal Z d s u) :
    DieLocal Z d s (if c then t else u) := by
  split
  · exact ht
  · exact hu

theorem DieLocal.foldl {α : Type} (h : DieLocal Z d s x) (f : State → α → State) (l : List α) (hf : ∀ y a, DieLocal Z d y (f y a)) :
    DieLocal Z d s (l.foldl f x) := by
  induction l generalizing x with
  | nil => exact h
  | cons a t ih => exact ih (h.trans (hf x a))

theorem fldAddr_die {f : Fld} {i : Nat} (hf : fits Z f = true) (hi : i < 16) : fldAddr d f i 0 / 0x1000000 = 0x40 + d := by
  simp only [fits, Bool.and_eq_true, decide_eq_true_eq] at hf
  obtain ⟨⟨-, ho⟩, hs⟩ := hf
  have hm : i * f.s1 ≤ 15 * f.s1 := Nat.mul_le_mul_right _ (by omega)
  unfold fldAddr regAddr
  omega

theorem DieLocal.wr (h : DieLocal Z d s x) {f : Fld} {v i : Nat} (hf : fits Z f = true := by decide) (hi : i < 16 := by omega) :
    DieLocal Z d s (x.wr d f v i) :=
  ⟨h.words.wr hf, fun a ha => (word_wr_ne _ _ _ _ _ _ _ (fun e => ha ((congrArg (· / 0x1000000) e).trans (fldAddr_die hf hi)))).trans (h.others a ha),
    (wr_pkg ..).trans h.pkg⟩

/-- A change of typed state beside the package's. -/
theorem DieLocal.same (h : DieLocal Z d s x) (hr : y.regs = x.regs := by rfl) (hp : y.pkg = x.pkg := by rfl) : DieLocal Z d s y :=
  have word (a : Nat) : y.word a = x.word a := by unfold State.word; rw [hr]
  ⟨h.words.same hr, fun a ha => (word a).trans (h.others a ha), hp.trans h.pkg⟩

theorem regs_updSaf (s : State) (d : Fin 8) (k : Fin 4) (f : SafPort → SafPort) : (s.updSaf d k f).regs = s.regs := rfl

theorem pkg_updSaf (s : State) (d : Fin 8) (k : Fin 4) (f : SafPort → SafPort) : (s.updSaf d k f).pkg = s.pkg := rfl

/-- The commands of a port's outputs written, the released ones cleared. -/
def soutCleared (s : State) (d : Fin 8) (k : Fin 4) (mask : Nat) : State :=
  s.wr d F.SAF_OUT_CMD (s.rd d F.SAF_OUT_CMD k &&& (15 - mask)) k

theorem dropSout_eq (s : State) (d : Fin 8) (k : Fin 4) (mask : Nat) : ∃ f, s.dropSout d k mask = (s.soutCleared d k mask).updSaf d k f :=
  ⟨_, rfl⟩

theorem DieLocal.dropSout (h : DieLocal [0x0C, 0x11] d s x) (k : Fin 4) (mask : Nat) : DieLocal [0x0C, 0x11] d s (x.dropSout d k mask) := by
  have hw : DieLocal [0x0C, 0x11] d s (x.soutCleared d k mask) := h.wr
  obtain ⟨f, hf⟩ := dropSout_eq x d k mask
  rw [hf]
  exact hw.same (regs_updSaf ..) (pkg_updSaf ..)

theorem DieLocal.lswRelease (h : DieLocal [0x0C, 0x11] d s x) : DieLocal [0x0C, 0x11] d s (x.lswRelease d) :=
  h.foldl _ _ (fun _ _ => DieLocal.refl.wr)

end

/-- An operation on a die that is in use. -/
def ifUsed (f : State → Fin 8 → State) (s : State) (d : Fin 8) : State := if s.dieUsed d then f s d else s

/-- What an operation on the registers of one die achieves for a die in use holds after it has run on every die in use. -/
theorem onUsed_local {Z : List Nat} {f : State → Fin 8 → State} (hf : ∀ y e, DieLocal Z e y (f y e)) (hz : 0x101 ∉ Z) {d : Fin 8}
    (hd : s.dieUsed d = true) {P : State → Prop} (hdo : ∀ y, P (f y d))
    (hkeep : ∀ y z : State, (∀ a : Nat, a / 0x1000000 = 0x40 + d.val → z.word a = y.word a) → P y → P z) : P (s.onUsed f) := by
  obtain ⟨l, r, hl, -, hr⟩ := split_finRange d
  have hstep (y : State) (e : Fin 8) : DieLocal Z e y (ifUsed f y e) := .ite (hf y e) .refl
  have hused : (l.foldl (ifUsed f) s).dieUsed d = true :=
    ((Confined.refl.foldl _ l (fun y e _ => (hstep y e).words)).dieUsed d hz).trans hd
  have hsplit : s.onUsed f = r.foldl (ifUsed f) (f (l.foldl (ifUsed f) s) d) := by
    show (List.finRange 8).foldl (ifUsed f) s = _
    rw [hl, List.foldl_append, List.foldl_cons]
    exact congrArg (r.foldl (ifUsed f)) (if_pos hused)
  have hrest (m : List (Fin 8)) (hm : d ∉ m) (z : State) (hz : P z) : P (m.foldl (ifUsed f) z) := by
    induction m generalizing z with
    | nil => exact hz
    | cons e t ih =>
      obtain ⟨he, ht⟩ := not_or.mp (fun h => hm (List.mem_cons.mpr h))
      exact ih ht _ (hkeep z _ (fun a ha => (hstep z e).others a (by omega)) hz)
  rw [hsplit]
  exact hrest r hr _ (hdo _)

theorem pkg_onUsed {Z : List Nat} {f : State → Fin 8 → State} (hf : ∀ y e, DieLocal Z e y (f y e)) : (s.onUsed f).pkg = s.pkg :=
  List.foldlRecOn (motive := fun y => y.pkg = s.pkg) _ (ifUsed f) rfl (fun y hy e _ => (DieLocal.ite (hf y e) .refl).pkg.trans hy)

theorem confined_onUsed {Z : List Nat} {f : State → Fin 8 → State} (hf : ∀ y e, DieLocal Z e y (f y e)) : Confined Z s (s.onUsed f) :=
  Confined.refl.onUsed (fun y e => (hf y e).words)

/-- A field of a die outlives what leaves the die's words. -/
theorem rd_sameDie {d : Fin 8} {f : Fld} {i : Nat} (h : ∀ a : Nat, a / 0x1000000 = 0x40 + d.val → y.word a = x.word a)
    (hf : decide (f.off + 15 * f.s1 < 0x1000000) = true := by decide) (hi : i < 16 := by omega) : y.rd d f i = x.rd d f i := by
  unfold State.rd
  rw [h]
  have hm : i * f.s1 ≤ 15 * f.s1 := Nat.mul_le_mul_right _ (by omega)
  simp only [decide_eq_true_eq] at hf
  unfold fldAddr regAddr
  omega

/-! ## Output release -/

/-- A die's safety outputs and channels released. -/
def outputsReleased (s : State) (d : Fin 8) : State := (s.onPorts (fun s k => s.dropSout d k 15)).lswRelease d

theorem pwrDownRelease_eq (h : s.pkg.pd = .asserted) :
    s.pwrDownRelease = (s.toStage .released).onUsed outputsReleased :=
  if_neg (not_not_intro h)

theorem outputsReleased_local (s : State) (d : Fin 8) : DieLocal [0x0C, 0x11] d s (s.outputsReleased d) :=
  (DieLocal.refl.foldl _ _ (fun _ k => DieLocal.refl.dropSout k 15)).lswRelease

theorem rd_dropSout (s : State) (d : Fin 8) (k : Fin 4) (mask e : Nat) (f : Fld) (i j : Nat) : (s.dropSout d k mask).rd e f i j =
    (s.soutCleared d k mask).rd e f i j := by
  obtain ⟨g, hg⟩ := dropSout_eq s d k mask
  rw [hg]
  exact rd_of_regs (regs_updSaf ..) e f i j

theorem rd_dropAll (s : State) (d : Fin 8) (k : Fin 4) : (s.onPorts (fun s k => s.dropSout d k 15)).rd d F.SAF_OUT_CMD k = 0 := by
  refine foldl_finRange_each (f := fun s k => s.dropSout d k 15) (P := fun k y => y.rd d F.SAF_OUT_CMD k = 0) (fun y k => ?_)
    (fun y i j hij h => ?_) s k
  · rw [rd_dropSout, soutCleared, rd_wr_same _ _ _ _ _ _ (by decide), Nat.sub_self, Nat.and_zero, Nat.zero_mod]
  · rw [rd_dropSout, soutCleared, rd_wr_apart _ _ _ _ _ _ _ _ _ _ (.inl ?_), h]
    simp only [fldAddr, regAddr, F.SAF_OUT_CMD]
    omega

/-- A channel's output off. -/
def channelOff (d : Fin 8) (s : State) (n : Fin 12) : State := s.wr d F.LSW_CH_STAT_OUT 0 n

theorem lswRelease_eq (s : State) (d : Fin 8) : s.lswRelease d = (List.finRange 12).foldl (channelOff d) s := rfl

theorem lswRelease_off (s : State) (d : Fin 8) (n : Fin 12) : (s.lswRelease d).on d F.LSW_CH_STAT_OUT n = false := by
  rw [lswRelease_eq]
  refine foldl_finRange_each (P := fun n y => y.on d F.LSW_CH_STAT_OUT n = false) (fun _ _ => on_wr_zero (by decide)) (fun y i j hij h => ?_) s n
  refine (on_wr_apart (.inl ?_)).trans h
  simp only [fldAddr, regAddr, F.LSW_CH_STAT_OUT]
  omega

theorem lswRelease_sout (s : State) (d : Fin 8) (k : Fin 4) : (s.lswRelease d).rd d F.SAF_OUT_CMD k = s.rd d F.SAF_OUT_CMD k := by
  rw [lswRelease_eq]
  refine List.foldlRecOn (motive := fun y => y.rd d F.SAF_OUT_CMD k = s.rd d F.SAF_OUT_CMD k) _ (channelOff d) rfl (fun y h n _ => ?_)
  refine (rd_wr_apart _ _ _ _ _ _ _ _ _ _ (.inl ?_)).trans h
  simp only [fldAddr, regAddr, F.SAF_OUT_CMD, F.LSW_CH_STAT_OUT]
  omega

theorem outputsReleased_effect (s : State) (d : Fin 8) : (∀ k : Fin 4, (s.outputsReleased d).rd d F.SAF_OUT_CMD k = 0) ∧
    ∀ n : Fin 12, (s.outputsReleased d).on d F.LSW_CH_STAT_OUT n = false :=
  ⟨fun k => (lswRelease_sout _ d k).trans (rd_dropAll s d k), lswRelease_off _ d⟩

theorem pwrDownRelease_effect (h : s.pkg.pd = .asserted) : s.pwrDownRelease.pkg.pd = .released ∧
    ∀ d : Fin 8, s.dieUsed d = true → (∀ k : Fin 4, s.pwrDownRelease.rd d F.SAF_OUT_CMD k = 0) ∧
      ∀ n : Fin 12, s.pwrDownRelease.on d F.LSW_CH_STAT_OUT n = false := by
  rw [pwrDownRelease_eq h]
  have hused (d : Fin 8) (hd : s.dieUsed d = true) : (s.toStage .released).dieUsed d = true := hd
  generalize hu : s.toStage .released = u at hused ⊢
  refine ⟨?_, fun d hd => ?_⟩
  · rw [pkg_onUsed outputsReleased_local, ← hu]
    rfl
  · refine onUsed_local outputsReleased_local (by decide) (P := fun y => (∀ k : Fin 4, y.rd d F.SAF_OUT_CMD k = 0) ∧
      ∀ n : Fin 12, y.on d F.LSW_CH_STAT_OUT n = false) (hused d hd) (fun y => outputsReleased_effect y d) (fun y z hyz hy => ?_)
    obtain ⟨hsout, hout⟩ := hy
    exact ⟨fun k => (rd_sameDie hyz).trans (hsout k), fun n => (congrArg (· != 0) (rd_sameDie hyz)).trans (hout n)⟩

/-! ## Power removal and commit -/

theorem pwrDownRemove_effect (h : s.pkg.pd = .released) : s.pwrDownRemove.pkg.pd = .removed ∧ (∀ d, s.pwrDownRemove.pkg.die.get d = .off) ∧
    s.pwrDownRemove.meter = s.meter ∧ s.pwrDownRemove.keys = s.keys ∧ s.pwrDownRemove.mem = s.mem := by
  have hoff : Still s s.outputsOff := Still.refl.outputsOff
  obtain ⟨hmem, -⟩ := calm_outputsOff (calm_refl s)
  unfold pwrDownRemove
  rw [if_neg (not_not_intro h)]
  exact ⟨rfl, fun d => Vector.getElem_replicate .., hoff.meter, hoff.keys, hmem⟩

/-- The commit and the final notice, with the meter head stopped. -/
def committed (s : State) : State :=
  ((s.meterCommit.twinNotice true).updMeter (fun m => { m with running := false })).toStage .committed

theorem committed_effect (s : State) : s.committed.pkg = { s.pkg with pd := .committed } ∧ s.committed.meter.running = false ∧
    s.committed.keys = s.keys ∧ s.committed.mem = s.mem ∧ (s.linkUp = true → s.committed.twin.finalNotice = true) := by
  have hbook : Booked s s.meterCommit := Booked.refl.meterCommit
  obtain ⟨w, hw⟩ := twinNotice_eq s.meterCommit true
  have hnotice (hlink : s.linkUp = true) : (s.meterCommit.twinNotice true).twin.finalNotice = true := by
    rw [twinNotice_linked ((hbook.words.on 0 F.TWN_STAT_LINK_UP _ _ (by decide)).trans hlink)]
    rfl
  unfold committed
  rw [hw] at hnotice ⊢
  refine ⟨?_, rfl, hbook.keys, hbook.mem, hnotice⟩
  show { s.meterCommit.pkg with pd := PdStage.committed } = _
  rw [hbook.pkg]

theorem holdupCommit_eq (h : s.pkg.pd = .removed) (hb : s.pkg.mainsBack = false) : s.holdupCommit = s.committed := by
  obtain ⟨hpkg, -⟩ := committed_effect s
  have hback : s.committed.pkg.mainsBack = false := by rw [hpkg, hb]
  exact (if_neg (not_not_intro h)).trans (if_neg (ne_true_of_eq_false hback))

end State

end Sys2Proof.Machine

namespace Sys2Proof.Machine

/-- Settles O14, stage by stage. The meter's books and the release of the claim come between PWR_DOWN's stops and its end; they write the
meter, XLINK counts and outputs' registers alone, so that the stops stand (`Booked`, `Still`). -/
theorem mainsSequence : Obligations.MainsSequence := by
  unfold Obligations.MainsSequence
  intro s lvl
  refine ⟨fun hpd hl => ⟨_, rfl, State.mainsLoss_effect hpd hl⟩, fun hpd hl => ⟨_, rfl, State.mainsReturn_effect hpd hl⟩,
    fun h => ⟨_, rfl, State.mainsReturn_remembered h⟩, fun h => ⟨_, rfl, ?_⟩, fun h => ⟨_, rfl, State.pwrDown_effect h lvl⟩,
    fun h => ⟨_, rfl, State.pwrDownRelease_effect h⟩, fun h => ⟨_, rfl, State.pwrDownRemove_effect h⟩, fun h hb => ⟨_, rfl, ?_⟩⟩
  · rw [State.mainsReturn_committed h]
    exact s.coldStart_effect
  · obtain ⟨hpkg, hrun, hkeys, hmem, hnotice⟩ := s.committed_effect
    rw [State.holdupCommit_eq h hb]
    exact ⟨by rw [hpkg], hrun, by rw [hkeys], hmem, hnotice⟩

end Sys2Proof.Machine

/-! # The hold-up store and the batteries (R55, R58, R462) -/

namespace Sys2Proof.Machine

namespace State

variable {s x y : State}

/-! ## HOLDUP_READY -/

theorem holdupReady_eq (hpd : s.pkg.pd = .none) (hon : s.pkg.die.get 0 ≠ .off) (level : Nat) : s.holdupReady level =
    ((s.setPwr F.PKG_PWR_HOLDUP_READY 1).setPwr F.PKG_PWR_HOLDUP_LVL level).releasePorts :=
  if_neg (by simp [hpd, hon])

theorem holdupReady_effect (hpd : s.pkg.pd = .none) (hon : s.pkg.die.get 0 ≠ .off) (lvl : Byte) :
    (s.holdupReady lvl.toNat).on pkgDie F.PKG_PWR_HOLDUP_READY = true ∧
      (s.holdupReady lvl.toNat).rd pkgDie F.PKG_PWR_HOLDUP_LVL = lvl.toNat ∧ (s.holdupReady lvl.toNat).mem = s.mem := by
  rw [holdupReady_eq hpd hon]
  generalize hu : (s.setPwr F.PKG_PWR_HOLDUP_READY 1).setPwr F.PKG_PWR_HOLDUP_LVL lvl.toNat = u
  have hwords := confined_releasePorts u
  obtain ⟨hmem, -⟩ := calm_releasePorts (calm_refl u)
  refine ⟨?_, ?_, ?_⟩
  · rw [hwords.on _ _ _ _ (by decide), ← hu, on_setPwr, on_wr_apart (.inr (by decide)), on_setPwr, on_wr_one (by decide) rfl]
  · rw [hwords.rd _ _ _ _ (by decide), ← hu, rd_setPwr, rd_wr_same _ _ _ _ _ _ (by decide)]
    exact Nat.mod_eq_of_lt lvl.isLt
  · rw [hmem, ← hu, mem_setPwr, mem_setPwr]

/-! ## HOLDUP_TIMEOUT -/

theorem holdupTimeout_eq (hr : s.on pkgDie F.PKG_PWR_HOLDUP_READY = false) (hon : s.pkg.die.get 0 ≠ .off) :
    s.holdupTimeout = s.chipFault 0x4005 [s.rd pkgDie F.PKG_PWR_HOLDUP_LVL] false :=
  if_neg (by simp [hr, hon])

/-- A die put off. -/
def putOff (s : State) (d : Fin 8) : State := { s with pkg := { s.pkg with die := s.pkg.die.set d .off } }

theorem faults_putOff (s : State) (d : Fin 8) : (s.putOff d).faults = s.faults := rfl

/-- A port die of a retired chip kept in reset (R461). -/
def heldOff (s : State) (d : Fin 8) : State := if d = 0 then s else (s.setInhDie d Inh.reset true).putOff d

theorem portDiesOff_eq (s : State) : s.portDiesOff = s.onUsed heldOff := rfl

theorem faults_portDiesOff (s : State) : s.portDiesOff.faults = s.faults := by
  have hheld (y : State) (d : Fin 8) : (y.heldOff d).faults = y.faults := by
    have hinh : Still y (y.setInhDie d Inh.reset true) := Still.refl.setInhDie d _
    unfold heldOff
    split
    · rfl
    · exact (faults_putOff ..).trans hinh.faults
  rw [portDiesOff_eq]
  refine List.foldlRecOn (motive := fun y => y.faults = s.faults) _ (ifUsed heldOff) rfl (fun y hy d _ => ?_)
  unfold ifUsed
  split
  · exact (hheld y d).trans hy
  · exact hy

theorem retireElem_chip (s : State) (code n extra : Nat) (byCommand : Bool) :
    (s.retireElem 0 4 0 0 code n byCommand extra).faults.chipRetired = true := by
  unfold retireElem retiredEffect
  exact congrArg (·.chipRetired) (faults_portDiesOff _)

/-- A chip fault leaves the chip in its response, or retired (R461). -/
theorem chipFault_responds (s : State) (code : Nat) (data : List Nat) (tampered : Bool) :
    (s.chipFault code data tampered).faults.chipResp = true ∨ (s.chipFault code data tampered).faults.chipRetired = true := by
  unfold chipFault
  split
  · next h => exact .inr h
  · next hr =>
    split
    · next h => exact .inl h
    · next hq =>
      have hstop (y : State) : Still y ((y.siteTrip 14).ownRelease) := (Still.refl.siteTrip 14).ownRelease
      obtain ⟨c, y, n, -, e | e⟩ := countFault_counted (s := s) (d := 0) (level := 4) (block := 0) (index := 0) (code := code) (data := data)
        (Bool.eq_false_of_not_eq_true hr) (by simpa [inResponse] using hq)
      · simp only [e, Bool.false_eq_true, if_false, true_or]
      · simp only [e, if_true]
        right
        have hret := congrArg (·.chipRetired) (hstop (y.retireElem 0 4 0 0 code n false code)).faults
        split
        · exact (congrArg (·.chipRetired) (Still.refl.setRole 3 8).faults).trans (hret.trans (retireElem_chip ..))
        · exact hret.trans (retireElem_chip ..)

theorem holdupTimeout_effect (hr : s.on pkgDie F.PKG_PWR_HOLDUP_READY = false) (hon : s.pkg.die.get 0 ≠ .off) :
    (s.holdupTimeout.faults.chipResp = true ∨ s.holdupTimeout.faults.chipRetired = true) ∧ s.holdupTimeout.mem = s.mem := by
  rw [holdupTimeout_eq hr hon]
  obtain ⟨hmem, -⟩ := calm_chipFault 0x4005 [s.rd pkgDie F.PKG_PWR_HOLDUP_LVL] false (calm_refl s)
  exact ⟨chipFault_responds .., hmem⟩

/-! ## BATTERY_MEASUREMENT -/

theorem on_wrB_same {d : Nat} {f : Fld} {b : Bool} {i j : Nat} (h : f.lo + f.w ≤ 32) (hw : f.w = 1) : (s.wrB d f b i j).on d f i j = b := by
  unfold wrB
  cases b
  · exact on_wr_zero h
  · exact on_wr_one h hw

theorem battery_effect (s : State) (v1 v2 : Byte) :
    (s.battery v1 v2).rd pkgDie F.PKG_BAT_VBAT1 = v1.toNat ∧ (s.battery v1 v2).rd pkgDie F.PKG_BAT_VBAT2 = v2.toNat ∧
      ((s.battery v1 v2).on pkgDie F.PKG_BAT_BAT1_LOW = true ↔ v1.toNat < 125) ∧
      ((s.battery v1 v2).on pkgDie F.PKG_BAT_BAT2_LOW = true ↔ v2.toNat < 125) ∧
      WritesOnly [fldAddr pkgDie F.PKG_BAT_VBAT1 0 0] s (s.battery v1 v2) := by
  have haddr : fldAddr pkgDie F.PKG_BAT_VBAT1 0 0 ∈ [fldAddr pkgDie F.PKG_BAT_VBAT1 0 0] := List.mem_singleton.mpr rfl
  have apartB {z : State} {f g : Fld} {b : Bool} (h : f.lo + f.w ≤ g.lo ∨ g.lo + g.w ≤ f.lo) :
      (z.wrB pkgDie f b).rd pkgDie g = z.rd pkgDie g := rd_wr_apart _ _ _ _ _ _ _ _ _ _ (.inr h)
  unfold battery
  refine ⟨?_, ?_, ?_, ?_, writesOnly_wr haddr (writesOnly_wr haddr (writesOnly_wr haddr (writesOnly_wr haddr writesOnly_refl)))⟩
  · rw [apartB (by decide), apartB (by decide), rd_wr_apart _ _ _ _ _ _ _ _ _ _ (.inr (by decide)), rd_wr_same _ _ _ _ _ _ (by decide)]
    exact Nat.mod_eq_of_lt v1.isLt
  · rw [apartB (by decide), apartB (by decide), rd_wr_same _ _ _ _ _ _ (by decide)]
    exact Nat.mod_eq_of_lt v2.isLt
  · rw [State.on, apartB (by decide), ← State.on, on_wrB_same (by decide) rfl, decide_eq_true_iff]
  · rw [on_wrB_same (by decide) rfl, decide_eq_true_iff]

end State

end Sys2Proof.Machine

/-! # The 24 V rail (R57, R428) -/

namespace Sys2Proof.Machine

namespace State

variable {s x y : State} {d : Fin 8}

/-! ## Channels of a die as a rail condition begins and ends -/

theorem DieLocal.lswOut (h : DieLocal [0x11] d s x) (n : Fin 12) : DieLocal [0x11] d s (x.lswOut d n) := h.wr

theorem DieLocal.updLsw (h : DieLocal [0x11] d s x) (n : Fin 12) (f : LswChan → LswChan) : DieLocal [0x11] d s (x.updLsw d n f) := h.same

theorem on_updLsw (n : Fin 12) (f : LswChan → LswChan) (e : Nat) (g : Fld) (i j : Nat) : (s.updLsw d n f).on e g i j = s.on e g i j :=
  congrArg (· != 0) (rd_of_regs rfl e g i j)

theorem DieLocal.inrush (h : DieLocal [0x11] d s x) (n : Fin 12) : DieLocal [0x11] d s (x.inrush d n) := by
  unfold State.inrush lswSet
  exact DieLocal.lswOut (.ite (.wr (.wr (.wr (.wr (h.updLsw n _))))) (.wr (.wr (.wr (h.updLsw n _))))) n

/-- One channel as a rail condition begins. -/
def channelRailOff (d : Fin 8) (s : State) (n : Fin 12) : State :=
  let s := s.updLsw d n (fun c => { c with window := none, gap := false, since := none })
  ((s.wr d F.LSW_CH_STAT_RAIL_OFF 1 n).wr d F.LSW_CH_STAT_PAUSED 0 n).lswOut d n

/-- One channel as the rail is good again. -/
def channelRailOn (d : Fin 8) (s : State) (n : Fin 12) : State :=
  let s := s.wr d F.LSW_CH_STAT_RAIL_OFF 0 n
  if s.lswReq d n && (s.lswSt d n == 1 || s.lswSt d n == 2) then s.inrush d n else s.lswOut d n

theorem railOff_eq (s : State) (d : Fin 8) : s.railOff d = (List.finRange 12).foldl (channelRailOff d) (s.wr d F.LSW_EVT_RAIL 1) := rfl

theorem railOn_eq (s : State) (d : Fin 8) : s.railOn d = (List.finRange 12).foldl (channelRailOn d) (s.wr d F.LSW_EVT_RAIL 1) := rfl

theorem railOff_local (s : State) (d : Fin 8) : DieLocal [0x11] d s (s.railOff d) := by
  rw [railOff_eq]
  exact DieLocal.refl.wr.foldl _ _ (fun _ n => ((DieLocal.refl.updLsw n _).wr.wr).lswOut n)

theorem railOn_local (s : State) (d : Fin 8) : DieLocal [0x11] d s (s.railOn d) := by
  rw [railOn_eq]
  exact DieLocal.refl.wr.foldl _ _ (fun _ n => .ite (DieLocal.refl.wr.inrush n) (DieLocal.refl.wr.lswOut n))

/-- Two channels' RAIL_OFF lie in different registers. -/
theorem apart_railOff {d : Nat} {m n : Fin 12} (h : m ≠ n) : Apart d F.LSW_CH_STAT_RAIL_OFF n 0 d F.LSW_CH_STAT_RAIL_OFF m 0 := by
  refine .inl ?_
  simp only [fldAddr, regAddr, F.LSW_CH_STAT_RAIL_OFF]
  omega

/-- RAIL_OFF outlives what a channel does to its other fields. -/
theorem railOff_lswOut (n m : Fin 12) : (s.lswOut d n).on d F.LSW_CH_STAT_RAIL_OFF m = s.on d F.LSW_CH_STAT_RAIL_OFF m :=
  on_wr_apart (.inr (by decide))

theorem railOff_inrush (n m : Fin 12) : (s.inrush d n).on d F.LSW_CH_STAT_RAIL_OFF m = s.on d F.LSW_CH_STAT_RAIL_OFF m := by
  unfold inrush lswSet
  rw [railOff_lswOut, if_neg (by decide), on_wr_apart (.inr (by decide)), on_wr_apart (.inr (by decide)), on_wr_apart (.inr (by decide))]
  exact on_updLsw ..

theorem channelRailOff_bits (n m : Fin 12) : (channelRailOff d s n).on d F.LSW_CH_STAT_RAIL_OFF m =
    if m = n then true else s.on d F.LSW_CH_STAT_RAIL_OFF m := by
  unfold channelRailOff
  rw [railOff_lswOut, on_wr_apart (.inr (by decide))]
  split
  · next h => rw [h, on_wr_one (by decide) rfl]
  · next h => rw [on_wr_apart (apart_railOff h), on_updLsw]

theorem channelRailOn_bits (n m : Fin 12) : (channelRailOn d s n).on d F.LSW_CH_STAT_RAIL_OFF m =
    if m = n then false else s.on d F.LSW_CH_STAT_RAIL_OFF m := by
  have hrest : (channelRailOn d s n).on d F.LSW_CH_STAT_RAIL_OFF m = (s.wr d F.LSW_CH_STAT_RAIL_OFF 0 n).on d F.LSW_CH_STAT_RAIL_OFF m := by
    unfold channelRailOn
    dsimp only
    split
    · exact railOff_inrush ..
    · exact railOff_lswOut ..
  rw [hrest]
  split
  · next h => rw [h, on_wr_zero (by decide)]
  · next h => rw [on_wr_apart (apart_railOff h)]

theorem railOff_effect (s : State) (d : Fin 8) (n : Fin 12) : (s.railOff d).on d F.LSW_CH_STAT_RAIL_OFF n = true := by
  rw [railOff_eq]
  exact foldl_finRange_each (P := fun n y => y.on d F.LSW_CH_STAT_RAIL_OFF n = true) (fun y i => (channelRailOff_bits i i).trans (if_pos rfl))
    (fun y i j hij h => (channelRailOff_bits j i).trans ((if_neg hij).trans h)) _ n

theorem railOn_effect (s : State) (d : Fin 8) (n : Fin 12) : (s.railOn d).on d F.LSW_CH_STAT_RAIL_OFF n = false := by
  rw [railOn_eq]
  exact foldl_finRange_each (P := fun n y => y.on d F.LSW_CH_STAT_RAIL_OFF n = false) (fun y i => (channelRailOn_bits i i).trans (if_pos rfl))
    (fun y i j hij h => (channelRailOn_bits j i).trans ((if_neg hij).trans h)) _ n

/-- A field of LSW_RAIL outlives the channels' switching off. -/
theorem rail_railOff {f : Fld} (hf : f.off = 0x110010) (h1 : f.s1 = 0) : (s.railOff d).on d f = s.on d f := by
  have hstat {y : State} {g : Fld} {v : Nat} {n : Fin 12} (ho : g.off = 0x11010C) (hs : g.s1 = 0x20) : (y.wr d g v n).on d f = y.on d f := by
    refine on_wr_apart (.inl ?_)
    simp only [fldAddr, regAddr, hf, h1, ho, hs]
    omega
  rw [railOff_eq]
  refine List.foldlRecOn (motive := fun y => y.on d f = s.on d f) _ (channelRailOff d) (on_wr_apart (.inl ?_)) (fun y h n _ => ?_)
  · simp only [fldAddr, regAddr, hf, h1, F.LSW_EVT_RAIL]
    omega
  · unfold channelRailOff lswOut wrB
    rw [hstat rfl rfl, hstat rfl rfl, hstat rfl rfl, on_updLsw, h]

/-! ## The rail's bits in PKG_PWR -/

/-- PKG_PWR as a change of the rail leaves it. -/
def railMarked (s : State) (ok : Bool) : State := (s.setPwr F.PKG_PWR_V24_OK (b2n ok)).wr pkgDie F.PKG_PWR_V24_EVT 1

/-- The rail's bits shown in a die's LSW_RAIL. -/
def railShown (ok : Bool) (s : State) (d : Fin 8) : State :=
  ((s.wrB d F.LSW_RAIL_V24_OK ok).wr d F.LSW_RAIL_OV (s.rd pkgDie F.PKG_PWR_V24_OV)).wr d F.LSW_RAIL_UV (s.rd pkgDie F.PKG_PWR_V24_UV)

theorem confined_railNote (s : State) (ok : Bool) : Confined [0x11] (s.railMarked ok) (s.railNote ok) := by
  have hshow (y : State) (d : Fin 8) : Confined [0x11] y (railShown ok y d) := Confined.refl.wr.wr.wr
  exact ((Confined.refl.same rfl).onUsed hshow).info 0 _ _ _ _

theorem railNote_dieUsed (s : State) (ok : Bool) (d : Nat) : (s.railNote ok).dieUsed d = s.dieUsed d := by
  have hmark : Confined [0x104] s (s.railMarked ok) := (Confined.refl.setPwr).wrPkg
  exact ((confined_railNote s ok).dieUsed d).trans (hmark.dieUsed d)

/-- V24_OK follows, V24_EVT is set, and the other supplies' bits stay. -/
theorem railNote_effect (s : State) (ok : Bool) : (s.railNote ok).on pkgDie F.PKG_PWR_V24_OK = ok ∧
    (s.railNote ok).on pkgDie F.PKG_PWR_V24_EVT = true ∧
    (s.railNote ok).on pkgDie F.PKG_PWR_V24_OV = s.on pkgDie F.PKG_PWR_V24_OV ∧
    (s.railNote ok).on pkgDie F.PKG_PWR_V24_UV = s.on pkgDie F.PKG_PWR_V24_UV := by
  have hnote := confined_railNote s ok
  rw [hnote.on _ _ _ _ (by decide), hnote.on _ _ _ _ (by decide), hnote.on _ _ _ _ (by decide), hnote.on _ _ _ _ (by decide)]
  unfold railMarked
  refine ⟨?_, on_wr_one (by decide) rfl, ?_, ?_⟩
  · rw [on_wr_apart (.inr (by decide)), on_setPwr]
    exact on_wrB_same (by decide) rfl
  · rw [on_wr_apart (.inr (by decide)), on_setPwr, on_wr_apart (.inr (by decide))]
  · rw [on_wr_apart (.inr (by decide)), on_setPwr, on_wr_apart (.inr (by decide))]

/-! ## Beginnings -/

theorem Confined.channel {Z : List Nat} (h : Confined Z x y) (d : Fin 8) (n : Fin 12) (hz : 0x11 ∉ Z := by decide) :
    y.on d F.LSW_CH_STAT_RAIL_OFF n = x.on d F.LSW_CH_STAT_RAIL_OFF n :=
  h.on d _ _ _ (by rw [zone_die d.isLt (by omega) (by decide) (by decide)]; exact hz)

theorem onUsed_railOff (hd : s.dieUsed d = true) (n : Fin 12) : (s.onUsed railOff).on d F.LSW_CH_STAT_RAIL_OFF n = true :=
  onUsed_local railOff_local (by decide) (P := fun y => y.on d F.LSW_CH_STAT_RAIL_OFF n = true) hd (fun y => railOff_effect y d n)
    (fun y z hyz hy => (congrArg (· != 0) (rd_sameDie hyz)).trans hy)

theorem onUsed_railOn (hd : s.dieUsed d = true) (n : Fin 12) : (s.onUsed railOn).on d F.LSW_CH_STAT_RAIL_OFF n = false :=
  onUsed_local railOn_local (by decide) (P := fun y => y.on d F.LSW_CH_STAT_RAIL_OFF n = false) hd (fun y => railOn_effect y d n)
    (fun y z hyz hy => (congrArg (· != 0) (rd_sameDie hyz)).trans hy)

/-- A rail condition has begun: its bit, V24_OK clear, V24_EVT, and RAIL_OFF on every channel of every die in use. -/
structure RailBegun (f : Fld) (s t : State) : Prop where
  bit : t.on pkgDie f = true
  bad : t.on pkgDie F.PKG_PWR_V24_OK = false
  evt : t.on pkgDie F.PKG_PWR_V24_EVT = true
  off : ∀ (d : Fin 8) (n : Fin 12), s.dieUsed d = true → t.on d F.LSW_CH_STAT_RAIL_OFF n = true

theorem railBegin_begun {f : Fld} (hf : f = F.PKG_PWR_V24_UV ∨ f = F.PKG_PWR_V24_OV) (h : s.on pkgDie f = false) :
    RailBegun f s (s.railBegin f) := by
  have heq : s.railBegin f = ((s.setPwr f 1).railNote false).onUsed railOff := if_neg (ne_true_of_eq_false h)
  have hused (d : Nat) : ((s.setPwr f 1).railNote false).dieUsed d = s.dieUsed d := by
    have hset : Confined [0x104] s (s.setPwr f 1) := Confined.refl.setPwr (by rcases hf with rfl | rfl <;> decide)
    exact (railNote_dieUsed ..).trans (hset.dieUsed d)
  have hbit : (s.setPwr f 1).on pkgDie f = true := by
    rw [on_setPwr]
    rcases hf with rfl | rfl <;> exact on_wr_one (by decide) rfl
  obtain ⟨hok, hevt, hov, huv⟩ := railNote_effect (s.setPwr f 1) false
  have hoff : Confined [0x11] ((s.setPwr f 1).railNote false) (s.railBegin f) := heq ▸ confined_onUsed railOff_local
  refine ⟨?_, ?_, ?_, fun d n hd => ?_⟩
  · rcases hf with rfl | rfl
    · rw [hoff.on _ _ _ _ (by decide), huv, hbit]
    · rw [hoff.on _ _ _ _ (by decide), hov, hbit]
  · rw [hoff.on _ _ _ _ (by decide), hok]
  · rw [hoff.on _ _ _ _ (by decide), hevt]
  · rw [heq]
    exact onUsed_railOff ((hused d).trans hd) n

/-- Latch cells losing what they hold are no register of a channel or of the supplies (R57). -/
theorem confined_latchLost (s : State) : Confined [0x0C] s s.latchLost := by
  have draw {y z : State} (h : Confined [0x0C] y z) (f : Twin → Twin) : Confined [0x0C] y (z.freeWord.2.updTwin f) := h.same rfl
  unfold latchLost
  exact .ite .refl ((draw .refl _).onUsed (fun _ _ => (draw .refl _).onPorts (fun _ _ => Confined.refl.wr)))

theorem railLow_begun (h : s.on pkgDie F.PKG_PWR_V24_UV = false) : RailBegun F.PKG_PWR_V24_UV s s.railLow := by
  obtain ⟨hbit, hbad, hevt, hoff⟩ := railBegin_begun (s := s.freeWord.2) (.inl rfl) h
  have hlatch : Confined [0x0C] (s.freeWord.2.railBegin F.PKG_PWR_V24_UV) s.railLow := .ite (confined_latchLost _) .refl
  exact ⟨(hlatch.on _ _ _ _ (by decide)).trans hbit, (hlatch.on _ _ _ _ (by decide)).trans hbad, (hlatch.on _ _ _ _ (by decide)).trans hevt,
    fun d n hd => (hlatch.channel d n).trans (hoff d n hd)⟩

/-! ## Ends -/

/-- The state with other findings of the supply monitors. -/
def withSupply (s : State) (v : Supply) : State := { s with sup := v }

/-- Every die's feed without a fault. -/
def feedsGood (s : State) : State := s.withSupply { s.sup with feed := Vector.replicate 8 0 }

/-- The end of an undervoltage noted: UV, REVERSE and GND_LOST clear (log entry 31). -/
def uvEnded (s : State) : State :=
  (s.setPwr F.PKG_PWR_V24_UV 0).feedsGood.onUsed (fun s d => (s.wr d F.LSW_RAIL_REVERSE 0).wr d F.LSW_RAIL_GND_LOST 0)

theorem confined_feedsGood (s : State) : Confined [0x11] s s.feedsGood := Confined.refl.same rfl

theorem confined_uvEnded (s : State) : Confined [0x11] (s.setPwr F.PKG_PWR_V24_UV 0) s.uvEnded :=
  (confined_feedsGood _).onUsed (fun _ _ => Confined.refl.wr.wr)

/-- What ends a rail condition where no other stands: V24_OK and its event, the channels by `f`, and the ports released. -/
def railGood (f : State → Fin 8 → State) (s : State) : State := ((s.railNote true).onUsed f).releasePorts

theorem railUvEnd_eq (h : s.on pkgDie F.PKG_PWR_V24_OV = false) : s.railUvEnd = railGood railOn s.uvEnded := by
  have hov : s.uvEnded.on pkgDie F.PKG_PWR_V24_OV = false := by
    rw [(confined_uvEnded s).on _ _ _ _ (by decide), on_setPwr, on_wr_apart (.inr (by decide)), h]
  have heq : s.railUvEnd = if !s.uvEnded.on pkgDie F.PKG_PWR_V24_OV then
      ((s.uvEnded.railNote (!s.uvEnded.on pkgDie F.PKG_PWR_V24_OV)).onUsed (fun s d => s.railOn d)).releasePorts
    else s.uvEnded.railNote (!s.uvEnded.on pkgDie F.PKG_PWR_V24_OV) := rfl
  rw [heq, hov]
  exact if_pos rfl

/-- The channels of a die with the rail good again, unless its feed has a fault. -/
def railOnUnlessBad (s : State) (d : Fin 8) : State := if s.railBad d then s else s.railOn d

theorem railOvEnd_eq (h : s.on pkgDie F.PKG_PWR_V24_UV = false) :
    s.railOvEnd = railGood railOnUnlessBad (s.setPwr F.PKG_PWR_V24_OV 0) := by
  have huv : (s.setPwr F.PKG_PWR_V24_OV 0).on pkgDie F.PKG_PWR_V24_UV = false := by
    rw [on_setPwr, on_wr_apart (.inr (by decide)), h]
  generalize hu : s.setPwr F.PKG_PWR_V24_OV 0 = u at huv
  have heq : s.railOvEnd = if !u.on pkgDie F.PKG_PWR_V24_UV then
      ((u.railNote (!u.on pkgDie F.PKG_PWR_V24_UV)).onUsed railOnUnlessBad).releasePorts
    else u.railNote (!u.on pkgDie F.PKG_PWR_V24_UV) := hu ▸ rfl
  rw [heq, huv]
  exact if_pos rfl

theorem railGood_confined {f : State → Fin 8 → State} (hf : ∀ y d, DieLocal [0x11] d y (f y d)) (s : State) :
    Confined (0x11 :: portZones) (s.railNote true) (railGood f s) :=
  (Confined.mono (confined_onUsed hf) (by decide)).trans (Confined.mono (confined_releasePorts _) (List.subset_cons_self ..))

theorem railUvEnd_effect (h : s.on pkgDie F.PKG_PWR_V24_OV = false) : s.railUvEnd.on pkgDie F.PKG_PWR_V24_UV = false ∧
    s.railUvEnd.on pkgDie F.PKG_PWR_V24_OK = true ∧
    ∀ (d : Fin 8) (n : Fin 12), s.dieUsed d = true → s.railUvEnd.on d F.LSW_CH_STAT_RAIL_OFF n = false := by
  have hused (d : Nat) : (s.uvEnded.railNote true).dieUsed d = s.dieUsed d := by
    have hset : Confined [0x104] s (s.setPwr F.PKG_PWR_V24_UV 0) := Confined.refl.setPwr
    exact (railNote_dieUsed ..).trans (((confined_uvEnded s).dieUsed d).trans (hset.dieUsed d))
  obtain ⟨hok, -, -, huv⟩ := railNote_effect s.uvEnded true
  have hgood := railGood_confined railOn_local s.uvEnded
  rw [railUvEnd_eq h]
  refine ⟨?_, ?_, fun d n hd => ?_⟩
  · rw [hgood.on _ _ _ _ (by decide), huv, (confined_uvEnded s).on _ _ _ _ (by decide), on_setPwr, on_wr_zero (by decide)]
  · rw [hgood.on _ _ _ _ (by decide), hok]
  · exact ((confined_releasePorts _).channel d n).trans (onUsed_railOn ((hused d).trans hd) n)

theorem railOvEnd_effect (h : s.on pkgDie F.PKG_PWR_V24_UV = false) : s.railOvEnd.on pkgDie F.PKG_PWR_V24_OV = false ∧
    s.railOvEnd.on pkgDie F.PKG_PWR_V24_OK = true := by
  have hlocal (y : State) (d : Fin 8) : DieLocal [0x11] d y (y.railOnUnlessBad d) := .ite .refl (railOn_local y d)
  obtain ⟨hok, -, hov, -⟩ := railNote_effect (s.setPwr F.PKG_PWR_V24_OV 0) true
  have hgood := railGood_confined hlocal (s.setPwr F.PKG_PWR_V24_OV 0)
  rw [railOvEnd_eq h, hgood.on _ _ _ _ (by decide), hgood.on _ _ _ _ (by decide), hok, hov, on_setPwr, on_wr_zero (by decide)]
  exact ⟨rfl, rfl⟩

/-! ## REVERSE_POLARITY and GND_LOST -/

/-- A feed's fault shown, and the die's channels off. -/
def feedFault (f : Fld) (s : State) (d : Fin 8) : State := (s.wr d f 1).railOff d

theorem railFault_eq (s : State) (f : Fld) : ∃ v, s.railFault f = (s.withSupply v).onUsed (feedFault f) := ⟨_, rfl⟩

theorem railFault_effect {f : Fld} (hf : f = F.LSW_RAIL_REVERSE ∨ f = F.LSW_RAIL_GND_LOST) (hd : s.dieUsed d = true) :
    (s.railFault f).on d f = true ∧ ∀ n : Fin 12, (s.railFault f).on d F.LSW_CH_STAT_RAIL_OFF n = true := by
  have hlocal (y : State) (e : Fin 8) : DieLocal [0x11] e y (feedFault f y e) :=
    (DieLocal.refl.wr (by rcases hf with rfl | rfl <;> decide)).trans (railOff_local _ e)
  have hdo (y : State) : (feedFault f y d).on d f = true ∧ ∀ n : Fin 12, (feedFault f y d).on d F.LSW_CH_STAT_RAIL_OFF n = true := by
    have hone : (y.wr d f 1).on d f = true := by rcases hf with rfl | rfl <;> exact on_wr_one (by decide) rfl
    refine ⟨(rail_railOff ?_ ?_).trans hone, railOff_effect _ d⟩ <;> rcases hf with rfl | rfl <;> rfl
  obtain ⟨v, hv⟩ := railFault_eq s f
  have hdv : (s.withSupply v).dieUsed d = true := hd
  rw [hv]
  refine onUsed_local (P := fun y => y.on d f = true ∧ ∀ n : Fin 12, y.on d F.LSW_CH_STAT_RAIL_OFF n = true) hlocal (by decide) hdv hdo
    (fun y z hyz hy => ?_)
  obtain ⟨hbit, hoff⟩ := hy
  refine ⟨(congrArg (· != 0) (rd_sameDie hyz ?_)).trans hbit, fun n => (congrArg (· != 0) (rd_sameDie hyz)).trans (hoff n)⟩
  rcases hf with rfl | rfl <;> decide

end State

/-- Settles O15. What follows the noting of a rail's change stays in the zones of channels, acquisition and twin (`DieLocal`, `Confined`),
so that PKG_PWR's bits stand; RAIL_OFF of a channel is written in the channel's own turn alone. -/
theorem supplyMonitors : Obligations.SupplyMonitors := by
  unfold Obligations.SupplyMonitors
  intro s lvl v1 v2
  refine ⟨fun hpd hon => ⟨_, rfl, State.holdupReady_effect hpd hon lvl⟩, fun hr hon => ⟨_, rfl, State.holdupTimeout_effect hr hon⟩,
    ⟨_, rfl, s.battery_effect v1 v2⟩, fun e he hoff => ?_, fun hov => ⟨_, rfl, State.railUvEnd_effect hov⟩,
    fun huv => ⟨_, rfl, State.railOvEnd_effect huv⟩, fun e he => ?_⟩
  · obtain rfl | rfl : e = _ ∨ e = _ := by simpa using he
    · obtain ⟨hbit, hbad, hevt, hall⟩ := State.railLow_begun hoff
      exact ⟨_, rfl, hbit, hbad, hevt, hall⟩
    · obtain ⟨hbit, hbad, hevt, hall⟩ := State.railBegin_begun (.inr rfl) hoff
      exact ⟨_, rfl, hbit, hbad, hevt, hall⟩
  · obtain rfl | rfl : e = _ ∨ e = _ := by simpa using he
    · exact ⟨_, rfl, fun d hd => State.railFault_effect (.inl rfl) hd⟩
    · exact ⟨_, rfl, fun d hd => State.railFault_effect (.inr rfl) hd⟩

end Sys2Proof.Machine

/-! # The command gate (R117, R122)

What the gate itself changes stays apart from what a command does: `GateOnly` says it for the checks and for the response, `Answered`
what a response leaves in its slot, and `gateRun_admits` that an admitted command runs after the checks and is answered. -/

namespace Sys2Proof.Machine

namespace State

variable {s x y : State} {k : Fin 8}

/-! ## What the gate changes -/

/-- From `s` to `t` only the window has changed, its registers, the gate's lockouts and queue for the twin, and the event logs. -/
structure GateOnly (s t : State) : Prop where
  words : Confined [0x22] s t
  rest : ∃ r m u lk tq lg, t = { s with regs := r, mem := m, upsets := u, gate := { s.gate with lock := lk, twinQueue := tq }, logs := lg }

theorem GateOnly.refl : GateOnly s s := ⟨.refl, _, _, _, _, _, _, rfl⟩

theorem GateOnly.trans (h : GateOnly s x) (g : GateOnly x y) : GateOnly s y := by
  obtain ⟨r, m, u, lk, tq, lg, e⟩ := h.rest
  obtain ⟨r', m', u', lk', tq', lg', e'⟩ := g.rest
  exact ⟨h.words.trans g.words, r', m', u', lk', tq', lg', by rw [e', e]⟩

theorem GateOnly.setWord (h : GateOnly s x) {a : Nat} {v : Word} (ha : zone a = 0x22) : GateOnly s (x.setWord a v) :=
  h.trans ⟨Confined.refl.setWord (List.mem_singleton.mpr ha), _, _, _, _, _, _, rfl⟩

theorem GateOnly.wr (h : GateOnly s x) {v : Nat} {f : Fld} (hf : zone (fldAddr 0 f 0 0) = 0x22 := by decide) :
    GateOnly s (x.wr 0 f v) := h.setWord hf

theorem GateOnly.ite {c : Prop} [Decidable c] {t u : State} (ht : GateOnly s t) (hu : GateOnly s u) : GateOnly s (if c then t else u) := by
  split
  · exact ht
  · exact hu

theorem GateOnly.memOnly (h : GateOnly s x) (hm : MemOnly x y) : GateOnly s y := by
  obtain ⟨m, u, rfl⟩ := hm
  exact h.trans ⟨Confined.refl.same rfl, _, _, _, _, _, _, rfl⟩

theorem GateOnly.publish (h : GateOnly s x) (i seq len : Nat) : GateOnly s (x.publish i seq len) := by
  have hm {w : Word} : GateOnly s (x.setHeader i w) := h.memOnly (MemOnly.refl.setBytes _ _)
  exact .ite h (.ite hm.wr (.ite hm.wr (.ite hm.wr hm)))

theorem GateOnly.updLock (h : GateOnly s x) (i : Fin 5) (f : Lockout → Lockout) : GateOnly s (x.updLock i f) :=
  h.trans ⟨Confined.refl.same rfl, _, _, _, _, _, _, rfl⟩

/-! ### Every part but these stays -/

theorem GateOnly.lcs (h : GateOnly s x) : x.lcs = s.lcs := by
  obtain ⟨r, m, u, lk, tq, lg, rfl⟩ := h.rest
  rfl

theorem GateOnly.meter (h : GateOnly s x) : x.meter = s.meter := by
  obtain ⟨r, m, u, lk, tq, lg, rfl⟩ := h.rest
  rfl

theorem GateOnly.keys (h : GateOnly s x) : x.keys = s.keys := by
  obtain ⟨r, m, u, lk, tq, lg, rfl⟩ := h.rest
  rfl

theorem GateOnly.saf (h : GateOnly s x) : x.saf = s.saf := by
  obtain ⟨r, m, u, lk, tq, lg, rfl⟩ := h.rest
  rfl

theorem GateOnly.twin (h : GateOnly s x) : x.twin = s.twin := by
  obtain ⟨r, m, u, lk, tq, lg, rfl⟩ := h.rest
  rfl

theorem GateOnly.faults (h : GateOnly s x) : x.faults = s.faults := by
  obtain ⟨r, m, u, lk, tq, lg, rfl⟩ := h.rest
  rfl

theorem GateOnly.pending (h : GateOnly s x) : x.pending = s.pending := by
  obtain ⟨r, m, u, lk, tq, lg, rfl⟩ := h.rest
  rfl

theorem GateOnly.meterSlot (h : GateOnly s x) : x.gate.meterSlot = s.gate.meterSlot := by
  obtain ⟨r, m, u, lk, tq, lg, rfl⟩ := h.rest
  rfl

theorem GateOnly.meterReply (h : GateOnly s x) : x.gate.meterReply = s.gate.meterReply := by
  obtain ⟨r, m, u, lk, tq, lg, rfl⟩ := h.rest
  rfl

theorem GateOnly.rd (h : GateOnly s x) {f : Fld} (hf : zone (fldAddr 0 f 0 0) ≠ 0x22 := by decide) : x.rd 0 f = s.rd 0 f :=
  h.words.rd 0 f 0 0 (fun hm => hf (List.mem_singleton.mp hm))

theorem GateOnly.on (h : GateOnly s x) {f : Fld} (hf : zone (fldAddr 0 f 0 0) ≠ 0x22 := by decide) : x.on 0 f = s.on 0 f := by
  unfold State.on
  rw [h.rd hf]

/-! ## The checks -/

theorem zone_lastCtr (i : Fin 5) (j : Fin 2) : zone (fldAddr 0 F.SMW_LASTCTR i j) = 0x22 := by
  revert i j
  decide

theorem GateOnly.info (h : GateOnly s x) (d : Fin 8) (code block index : Nat) (data : List Nat) : GateOnly s (x.info d code block index data) :=
  h.trans ⟨fun _ _ => rfl, _, _, _, _, _, _, rfl⟩

theorem GateOnly.queue (h : GateOnly s x) (q : List Nat) : GateOnly s { x with gate := { x.gate with twinQueue := q } } :=
  h.trans ⟨fun _ _ => rfl, _, _, _, _, _, _, rfl⟩

theorem gateOnly_badTag (s : State) (i : Fin 5) : GateOnly s (s.badTag i) :=
  .ite (GateOnly.refl.updLock i _) ((GateOnly.refl.updLock i _).wr.info ..)

theorem gateOnly_consume (s : State) (i : Fin 5) (c : Nat) : GateOnly s (s.consume i c) := by
  unfold consume
  exact ((GateOnly.refl.setWord (zone_lastCtr i 0)).setWord (zone_lastCtr i 1)).queue _

theorem gateOnly_gateCheck (s : State) (e : Envelope) : GateOnly s (s.gateCheck e).2 := by
  unfold gateCheck
  dsimp only
  split
  · exact .refl
  split
  · exact .refl
  split
  · exact .refl
  split
  · exact gateOnly_badTag s _
  split
  · exact GateOnly.refl.updLock _ _
  · exact (GateOnly.refl.updLock _ _).trans (gateOnly_consume ..)

theorem mem_badTag (s : State) (i : Fin 5) : (s.badTag i).mem = s.mem := by
  unfold badTag
  dsimp only
  generalize (if (s.gate.lock.get i).span ≠ 0 then _ else _ : Nat) = span
  split
  · rfl
  · rfl

theorem mem_gateCheck (s : State) (e : Envelope) : (s.gateCheck e).2.mem = s.mem := by
  unfold gateCheck
  dsimp only
  split
  · rfl
  split
  · rfl
  split
  · rfl
  split
  · exact mem_badTag s _
  split
  · rfl
  · rfl

theorem gateOnly_passed (s : State) (k : Fin 8) : GateOnly s (s.passed k) := gateOnly_gateCheck ..

theorem mem_passed (s : State) (k : Fin 8) : (s.passed k).mem = s.mem := mem_gateCheck ..

theorem header_of_mem (h : x.mem = s.mem) (i : Nat) : x.header i = s.header i := mword_of_mem h _

theorem own_of_mem (h : x.mem = s.mem) (i : Nat) : x.own i = s.own i := congrArg hOwn (header_of_mem h i)

/-! ## The response -/

/-- The words of a response: status, state, counter, and the data of an accepted command. -/
def answerWords (s : State) (e : Envelope) (v : Verdict) : List Word :=
  let r : Report := match v.report with
    | some r => r
    | none => { state := s.lifeState, kind := 0, object := 0xFF }
  let c := if e.role = 0 ∨ 5 < e.role then 0 else s.lastCounter (roleIdx e.role)
  [BitVec.ofNat 32 (e.code + 65536 * v.status), BitVec.ofNat 32 (r.state % 256 + 256 * r.kind + 4096 * r.object)] ++
    words64 c ++ (if v.status = 0 then v.data else [])

/-- Words of a response. -/
def answerLen (v : Verdict) : Nat := 4 + (if v.status = 0 then v.data else []).length

theorem length_answerWords (s : State) (e : Envelope) (v : Verdict) : (s.answerWords e v).length = answerLen v := by
  simp only [answerWords, answerLen, words64, List.length_append, List.length_cons, List.length_nil]

theorem respond_eq (s : State) (e : Envelope) (v : Verdict) : s.respond e v =
    if v.status = 0 then ((s.putPayload e.slot (s.answerWords e v)).publish e.slot e.seq (s.answerWords e v).length).wrapCnt 0 F.SMW_CMD_CNT_OK
    else ((s.putPayload e.slot (s.answerWords e v)).publish e.slot e.seq (s.answerWords e v).length).wrapCnt 0 F.SMW_CMD_CNT_REFUSED := rfl

theorem gateOnly_respond (s : State) (e : Envelope) (v : Verdict) : GateOnly s (s.respond e v) := by
  have hput : GateOnly s (s.putPayload e.slot (s.answerWords e v)) := GateOnly.refl.memOnly (MemOnly.refl.setMwords _ _)
  rw [respond_eq]
  exact .ite (hput.publish _ _ _).wr (hput.publish _ _ _).wr

theorem mem_respond (s : State) (e : Envelope) (v : Verdict) :
    (s.respond e v).mem = ((s.putPayload e.slot (s.answerWords e v)).publish e.slot e.seq (answerLen v)).mem := by
  rw [respond_eq, length_answerWords]
  split
  · exact wr_mem ..
  · exact wr_mem ..

theorem slotBase_cmd (k : Fin 8) : slotBase k = 0x1000 + 0x400 * k := if_pos k.isLt

/-- Keys of a command slot's header and payload. -/
theorem winKey_cmd (k : Fin 8) {o : Nat} (ho : o < 0x400) : winKey (slotBase k + o) = 0x30001000 + 0x400 * k + o := by
  rw [slotBase_cmd]
  unfold winKey
  omega

theorem winKey_slotBase (k : Fin 8) : winKey (slotBase k) = 0x30001000 + 0x400 * k := winKey_cmd k (o := 0) (by decide)

theorem mem_publish_cmd (k : Fin 8) (seq len : Nat) (h : s.own k = 2) : (s.publish k seq len).mem = (s.setHeader k (mkHeader 1 seq len)).mem := by
  have hq : (if k.val < 8 then seq else (hSeq (s.header k) + 1) % 65536) = seq := if_pos k.isLt
  unfold publish
  rw [if_neg (fun hn => hn h)]
  dsimp only
  rw [hq, if_pos k.isLt]
  exact wr_mem ..

theorem mword_setMwords_head (s : State) (a : Nat) (w : Word) (l : List Word) : (s.setMwords a (w :: l)).mword a = w := by
  show ((s.setMword a w).setMwords (a + 4) l).mword a = w
  rw [mword_congr (s := s.setMword a w) (fun i hi => byte_setMwords_out _ _ _ _ (by omega)), mword_setMword_same]

/-- What a response leaves: its status word and header in the slot, and nothing stored beside its words. -/
structure Answered (e : Envelope) (v : Verdict) (s t : State) : Prop where
  gate : GateOnly s t
  status : t.slotWord e.slot 0 = BitVec.ofNat 32 (e.code + 65536 * v.status)
  header : t.header e.slot = mkHeader 1 e.seq (answerLen v)
  bytes : ∀ a, a < winKey (slotBase e.slot) ∨ winKey (slotBase e.slot) + 4 + 4 * answerLen v ≤ a → t.byte a = s.byte a

theorem respond_answered {e : Envelope} (v : Verdict) (h : s.own e.slot = 2) : Answered e v s (s.respond e v) := by
  have hkey := winKey_slotBase e.slot
  have hkey4 : winKey (slotBase e.slot + 4) = winKey (slotBase e.slot) + 4 := by rw [winKey_cmd _ (by decide), hkey]
  have hout (a : Nat) (ha : a < winKey (slotBase e.slot) + 4 ∨ winKey (slotBase e.slot) + 4 + 4 * answerLen v ≤ a) :
      (s.putPayload e.slot (s.answerWords e v)).byte a = s.byte a :=
    byte_setMwords_out _ _ _ _ (by rw [length_answerWords, hkey4]; exact ha)
  have hown : (s.putPayload e.slot (s.answerWords e v)).own e.slot = 2 :=
    (congrArg hOwn (mword_congr (fun i hi => hout _ (.inl (by omega))))).trans h
  have hmem := (mem_respond s e v).trans (mem_publish_cmd e.slot e.seq (answerLen v) hown)
  refine ⟨gateOnly_respond s e v, ?_, ?_, fun a ha => ?_⟩
  · refine (mword_of_mem hmem _).trans ((mword_setMword_apart _ _ _ _ (.inr ?_)).trans (mword_setMwords_head s _ _ _))
    rw [hkey4]
  · exact (mword_of_mem hmem _).trans (header_setHeader ..)
  · refine (byte_of_mem hmem a).trans ((byte_setMword_out _ _ _ _ ?_).trans (hout a ?_)) <;> omega

/-! ## An admitted command -/

theorem own_of_waiting (h : s.waiting k = true) : s.own k = 2 := by
  simp only [waiting, Bool.and_eq_true, beq_iff_eq] at h
  exact h.1.1

/-- What admission says: the slot waits with the code, every check passes and no state turns the command away. -/
structure Admitted (s : State) (k : Fin 8) (code : Nat) (mine : List Word → Bool) (bad : State → Envelope → Bool) : Prop where
  waits : s.waiting k = true
  code : (s.envelope k).code = code
  mine : mine (s.envelope k).params = true
  check : (s.gateCheck (s.envelope k)).1 = 0
  form : (s.passed k).formOk (s.envelope k) = true
  good : bad (s.passed k) (s.envelope k) = false
  open_ : (s.passed k).turnedAway (s.envelope k) = none

variable {code : Nat} {mine : List Word → Bool} {bad : State → Envelope → Bool}

theorem admitted_of_admits (h : s.admits k code mine bad = true) : Admitted s k code mine bad := by
  simp only [admits, Bool.and_eq_true, beq_iff_eq, Bool.not_eq_true', Option.isNone_iff_eq_none] at h
  obtain ⟨⟨⟨⟨⟨⟨hwait, hcode⟩, hmine⟩, hcheck⟩, hform⟩, hbad⟩, hopen⟩ := h
  exact ⟨hwait, hcode, hmine, hcheck, hform, hbad, hopen⟩

theorem Admitted.own (h : Admitted s k code mine bad) : s.own k = 2 := own_of_waiting h.waits

/-- An admitted command runs after the checks and is answered. -/
theorem Admitted.gateRun_eq (h : Admitted s k code mine bad) (run : State → Envelope → Verdict × State)
    (hk : knownCodes.contains code = true) : s.gateRun k code mine bad run =
      (run (s.passed k) (s.envelope k)).2.respond (s.envelope k) (run (s.passed k) (s.envelope k)).1 := by
  have hform : (!(s.gateCheck (s.envelope k)).2.formOk (s.envelope k) || bad (s.gateCheck (s.envelope k)).2 (s.envelope k)) = false := by
    rw [show (s.gateCheck (s.envelope k)).2 = s.passed k from rfl, h.form, h.good]
    rfl
  have hopen : (s.gateCheck (s.envelope k)).2.turnedAway (s.envelope k) = none := h.open_
  unfold gateRun
  dsimp only
  rw [h.waits, h.code, hk, h.mine]
  simp only [Bool.not_true, Bool.false_eq_true, if_false, ne_eq, not_true_eq_false, decide_false, Bool.or_self, h.check, hform, hopen]
  rfl

/-- What an admitted command leaves whose run stores nothing: its response. -/
theorem Admitted.answered (h : Admitted s k code mine bad) {run : State → Envelope → Verdict × State}
    (hk : knownCodes.contains code = true) (hm : (run (s.passed k) (s.envelope k)).2.mem = s.mem) :
    Answered (s.envelope k) (run (s.passed k) (s.envelope k)).1 (run (s.passed k) (s.envelope k)).2 (s.gateRun k code mine bad run) := by
  rw [h.gateRun_eq run hk]
  exact respond_answered _ ((own_of_mem hm k).trans h.own)

/-- A refusing answer after the checks refuses the command. -/
theorem Answered.refused {v : Verdict} {t : State} (h : Answered (s.envelope k) v x t) (hx : GateOnly s x) (hm : x.mem = s.mem)
    (hv : v.status ≠ 0) : Refused k v.status s t := by
  have hall := hx.trans h.gate
  have hlen : answerLen v = 4 := by
    unfold answerLen
    rw [if_neg hv]
    rfl
  refine ⟨h.status, hlen ▸ h.header, fun a ha => (h.bytes a ?_).trans (byte_of_mem hm a), hall.lcs, hall.meter, hall.keys, hall.saf,
    hall.twin, hall.faults, hall.pending⟩
  rw [hlen]
  exact ha

/-- A command whose run refuses it. -/
theorem Admitted.refused (h : Admitted s k code mine bad) {run : State → Envelope → Verdict × State}
    (hk : knownCodes.contains code = true) {v : Verdict} (hr : run (s.passed k) (s.envelope k) = (v, s.passed k)) (hv : v.status ≠ 0) :
    Refused k v.status s (s.gateRun k code mine bad run) := by
  have ha := h.answered hk (run := run) (by rw [hr]; exact mem_passed s k)
  rw [hr] at ha
  exact ha.refused (gateOnly_passed s k) (mem_passed s k) hv

end State

end Sys2Proof.Machine

/-! # Images, their banks and the report of the checks (R68 to R73, R83) -/

namespace Sys2Proof.Machine

namespace State

variable {s x y z : State}

/-! ## One bit of a field -/

theorem bitOf_two_pow (k j : Nat) : bitOf (2 ^ k) j = decide (k = j) := by
  rw [← testBit_eq_bitOf, Nat.testBit_two_pow]

/-- A set bit taken out of a number leaves the others. -/
theorem bitOf_sub_two_pow {n k : Nat} (h : bitOf n k = true) (j : Nat) : bitOf (n - 2 ^ k) j = (bitOf n j && decide (k ≠ j)) := by
  unfold bitOf at h ⊢
  have hodd : n / 2 ^ k % 2 = 1 := beq_iff_eq.mp h
  have hdiv : (n - 2 ^ k) / 2 ^ k = n / 2 ^ k - 1 := by
    have := Nat.sub_mul_div n (2 ^ k) 1
    rwa [Nat.mul_one] at this
  have hhalf (q : Nat) (hq : q % 2 = 1) : (q - 1) / 2 = q / 2 := by omega
  rcases Nat.lt_trichotomy j k with hlt | heq | hgt
  · obtain ⟨m, hm⟩ := Nat.exists_eq_add_of_lt hlt
    have hpow : 2 ^ k = 2 ^ j * (2 * 2 ^ m) := by rw [hm, Nat.pow_succ, Nat.pow_add]; ring
    have hle : 2 * 2 ^ m ≤ n / 2 ^ j := by
      rw [Nat.le_div_iff_mul_le (Nat.two_pow_pos j), Nat.mul_comm, ← hpow]
      by_contra hn
      rw [Nat.div_eq_of_lt (Nat.lt_of_not_le hn)] at hodd
      cases hodd
    rw [hpow, Nat.sub_mul_div, decide_eq_true (show k ≠ j by omega), Bool.and_true]
    congr 1
    omega
  · subst heq
    rw [hdiv, decide_eq_false (by simp), Bool.and_false]
    exact beq_false_of_ne (by omega)
  · obtain ⟨m, rfl⟩ := Nat.exists_eq_add_of_lt hgt
    have hpow : 2 ^ (k + m + 1) = 2 ^ k * (2 * 2 ^ m) := by rw [Nat.pow_succ, Nat.pow_add]; ring
    simp only [hpow, ← Nat.div_div_eq_div_mul]
    rw [hdiv, hhalf _ hodd, decide_eq_true (show k ≠ k + m + 1 by omega), Bool.and_true]

theorem bit_setBit_any {d : Nat} {f : Fld} {k j : Nat} (h : f.lo + f.w ≤ 32) (hj : j < f.w) :
    (s.setBit d f k).bit d f j = (s.bit d f j || decide (k = j)) := by
  unfold setBit
  rw [bit_wr_same h hj, bitOf_or, bitOf_two_pow]
  rfl

theorem bit_clrBit {d : Nat} {f : Fld} {k j : Nat} (h : f.lo + f.w ≤ 32) (hj : j < f.w) :
    (s.clrBit d f k).bit d f j = (s.bit d f j && decide (k ≠ j)) := by
  unfold clrBit
  split
  · next hk =>
    rw [bit_wr_same h hj, bitOf_sub_two_pow hk]
    rfl
  · next hk =>
    by_cases he : k = j
    · subst he
      unfold bit
      rw [Bool.eq_false_iff.mpr hk]
      rfl
    · simp [he]

theorem writesOnly_setBit {l : List Nat} {d : Nat} {f : Fld} {k i j : Nat} (ha : fldAddr d f i j ∈ l) (h : WritesOnly l s x) :
    WritesOnly l s (x.setBit d f k i j) := writesOnly_wr ha h

theorem writesOnly_clrBit {l : List Nat} {d : Nat} {f : Fld} {k i j : Nat} (ha : fldAddr d f i j ∈ l) (h : WritesOnly l s x) :
    WritesOnly l s (x.clrBit d f k i j) := by
  unfold clrBit
  split
  · exact writesOnly_wr ha h
  · exact h

theorem writesOnly_rd {l : List Nat} (h : WritesOnly l s x) {d : Nat} {f : Fld} {i j : Nat} (hf : fldAddr d f i j ∉ l) : x.rd d f i j = s.rd d f i j := by
  unfold State.rd
  rw [h.2 _ hf]

theorem writesOnly_trans {l : List Nat} (h : WritesOnly l s x) (g : WritesOnly l x y) : WritesOnly l s y := by
  obtain ⟨hx, hw⟩ := h
  obtain ⟨hy, hv⟩ := g
  refine ⟨?_, fun a ha => (hv a ha).trans (hw a ha)⟩
  rw [hx] at hy
  exact hy

/-! ## What the verdict on an image depends on -/

/-- The banks, and the registers that verification and coverage read, are the same. -/
structure SameBanks (s t : State) : Prop where
  images : t.lcs.images = s.lcs.images
  certs : t.lcs.certs = s.lcs.certs
  staging : t.lcs.staging = s.lcs.staging
  torn : t.lcs.torn = s.lcs.torn
  owner : t.lcs.ownerHash = s.lcs.ownerHash
  life : t.lifeState = s.lifeState
  step : t.rd pkgDie F.PKG_ID_STEPPING = s.rd pkgDie F.PKG_ID_STEPPING
  floor : t.rd 0 F.LCS_FLOOR_FLOOR = s.rd 0 F.LCS_FLOOR_FLOOR

theorem SameBanks.refl : SameBanks s s := ⟨rfl, rfl, rfl, rfl, rfl, rfl, rfl, rfl⟩

theorem SameBanks.trans (h : SameBanks s x) (g : SameBanks x y) : SameBanks s y :=
  ⟨g.images.trans h.images, g.certs.trans h.certs, g.staging.trans h.staging, g.torn.trans h.torn, g.owner.trans h.owner,
    g.life.trans h.life, g.step.trans h.step, g.floor.trans h.floor⟩

theorem SameBanks.of_lcs (h : x.lcs = s.lcs) (hl : x.lifeState = s.lifeState)
    (hs : x.rd pkgDie F.PKG_ID_STEPPING = s.rd pkgDie F.PKG_ID_STEPPING) (hf : x.rd 0 F.LCS_FLOOR_FLOOR = s.rd 0 F.LCS_FLOOR_FLOOR) :
    SameBanks s x := ⟨by rw [h], by rw [h], by rw [h], by rw [h], by rw [h], hl, hs, hf⟩

/-- A write of other registers. -/
theorem SameBanks.of_writesOnly {l : List Nat} (h : WritesOnly l s x) (hl : fldAddr 0 F.LCS_STATE_STATE 0 0 ∉ l)
    (hs : fldAddr pkgDie F.PKG_ID_STEPPING 0 0 ∉ l) (hf : fldAddr 0 F.LCS_FLOOR_FLOOR 0 0 ∉ l) : SameBanks s x := by
  have hx := h.1
  exact .of_lcs (by rw [hx]) (writesOnly_rd h hl) (writesOnly_rd h hs) (writesOnly_rd h hf)

theorem SameBanks.image (h : SameBanks s x) (d b c : Nat) : x.image d b c = s.image d b c := by
  unfold State.image
  rw [h.images]

theorem SameBanks.certBytes (h : SameBanks s x) (d b i : Nat) : x.certBytes d b i = s.certBytes d b i := by
  unfold State.certBytes
  rw [h.certs]

theorem SameBanks.imageWhy (h : SameBanks s x) (d b c : Nat) : x.imageWhy d b c = s.imageWhy d b c := by
  have htorn : x.bankTorn b = s.bankTorn b := by
    unfold bankTorn
    rw [h.staging, h.torn]
  unfold State.imageWhy
  rw [h.image, htorn, h.owner, h.step, h.floor]

theorem SameBanks.verified (h : SameBanks s x) (d b c : Nat) : x.verified d b c = s.verified d b c := by
  unfold State.verified
  rw [h.life, h.imageWhy]

theorem SameBanks.certCovers (h : SameBanks s x) (b : Nat) (m : List Byte) (c : Config.Cert) : x.certCovers b m c = s.certCovers b m c := by
  unfold State.certCovers
  simp only [h.verified, h.image, h.step, h.life]

theorem SameBanks.covering (h : SameBanks s x) (b : Nat) (m : List Byte) : x.covering b m = s.covering b m := by
  unfold State.covering
  simp only [h.certBytes, h.certCovers]

/-- An absent image does not verify. -/
theorem verified_of_empty {d b c : Nat} (h : s.image d b c = []) : s.verified d b c = false := by
  have hwhy : s.imageWhy d b c = 1 := by
    unfold imageWhy
    rw [h]
    rfl
  unfold verified
  rw [hwhy]
  split
  · rfl
  · rfl

theorem otherBank_le (s : State) : s.otherBank ≤ 1 := Nat.sub_le ..

/-! ## VALID and COVERED -/

/-- The register of VALID, COVERED and STAGE_DONE. -/
def stagedAddr : Nat := fldAddr 0 F.LCS_STAGED_VALID 0 0

/-- A class of a bank verifies, and no check of it runs. -/
def classGood (s : State) (b c : Nat) : Bool := s.verified 0 b c && !s.lcs.checking.contains c

/-- VALID of a class brought up to date. -/
def markValid (b : Nat) (s : State) (c : Nat) : State :=
  if s.classGood b c then s.setBit 0 F.LCS_STAGED_VALID c else s.clrBit 0 F.LCS_STAGED_VALID c

theorem stagedCheck_eq (s : State) : s.stagedCheck =
    ((List.range 6).foldl (markValid s.otherBank) s).wrB 0 F.LCS_STAGED_COVERED
      (((List.range 6).foldl (markValid s.otherBank) s).lcs.checking.isEmpty &&
        (((List.range 6).foldl (markValid s.otherBank) s).covering s.otherBank ((List.range 6).foldl (markValid s.otherBank) s).meterImage).isSome) := rfl

theorem writesOnly_markValid (b : Nat) (s : State) (c : Nat) : WritesOnly [stagedAddr] s (s.markValid b c) := by
  unfold markValid
  split
  · exact writesOnly_setBit (List.mem_singleton_self _) writesOnly_refl
  · exact writesOnly_clrBit (List.mem_singleton_self _) writesOnly_refl

theorem writesOnly_markValids (b : Nat) (l : List Nat) (h : WritesOnly [stagedAddr] s x) : WritesOnly [stagedAddr] s (l.foldl (markValid b) x) := by
  induction l generalizing x with
  | nil => exact h
  | cons a t ih => exact ih (writesOnly_trans h (writesOnly_markValid b x a))

theorem sameBanks_staged (h : WritesOnly [stagedAddr] s x) : SameBanks s x := .of_writesOnly h (by decide) (by decide) (by decide)

theorem classGood_staged (h : WritesOnly [stagedAddr] s x) (b c : Nat) : x.classGood b c = s.classGood b c := by
  have hx := h.1
  unfold classGood
  rw [(sameBanks_staged h).verified, hx]

theorem bit_markValid {b a c : Nat} (hc : c < 6) : (s.markValid b a).bit 0 F.LCS_STAGED_VALID c =
    if a = c then s.classGood b c else s.bit 0 F.LCS_STAGED_VALID c := by
  unfold markValid
  by_cases he : a = c
  · subst he
    rw [if_pos rfl]
    split
    · next hg => rw [bit_setBit_any (by decide) hc, hg]; simp
    · next hg => rw [bit_clrBit (by decide) hc, Bool.eq_false_iff.mpr hg]; simp
  · rw [if_neg he]
    split
    · rw [bit_setBit_any (by decide) hc]; simp [he]
    · rw [bit_clrBit (by decide) hc]; simp [he]

theorem bit_markValids {b c : Nat} (hc : c < 6) (l : List Nat) (h : WritesOnly [stagedAddr] s x) :
    (l.foldl (markValid b) x).bit 0 F.LCS_STAGED_VALID c = if c ∈ l then s.classGood b c else x.bit 0 F.LCS_STAGED_VALID c := by
  induction l generalizing x with
  | nil => rfl
  | cons a t ih =>
    rw [List.foldl_cons, ih (writesOnly_trans h (writesOnly_markValid b x a)), bit_markValid hc, classGood_staged h]
    by_cases ht : c ∈ t
    · simp [ht]
    · by_cases he : a = c
      · simp [he]
      · simp [ht, he, Ne.symm he]

theorem writesOnly_stagedCheck (s : State) : WritesOnly [stagedAddr] s s.stagedCheck := by
  rw [stagedCheck_eq]
  exact writesOnly_wr (List.mem_singleton_self _) (writesOnly_markValids _ _ writesOnly_refl)

/-- VALID after the report: the class verifies and no check of it runs. -/
theorem bit_stagedCheck {c : Nat} (hc : c < 6) : s.stagedCheck.bit 0 F.LCS_STAGED_VALID c = s.classGood s.otherBank c := by
  rw [stagedCheck_eq]
  unfold wrB bit
  rw [rd_wr_apart _ _ _ _ _ _ _ _ _ _ (.inr (.inr (by decide)))]
  have h := bit_markValids (b := s.otherBank) hc (List.range 6) (writesOnly_refl (s := s))
  rw [if_pos (List.mem_range.mpr hc)] at h
  exact h

/-- COVERED after the report: no check runs, and a certificate covers the other bank. -/
theorem on_stagedCheck (s : State) :
    s.stagedCheck.on 0 F.LCS_STAGED_COVERED = (s.lcs.checking.isEmpty && (s.covering s.otherBank s.meterImage).isSome) := by
  have hw := writesOnly_markValids s.otherBank (List.range 6) (writesOnly_refl (s := s))
  have hb := sameBanks_staged hw
  have hl : ((List.range 6).foldl (markValid s.otherBank) s).lcs = s.lcs := by rw [hw.1]
  have hm : ((List.range 6).foldl (markValid s.otherBank) s).meterImage = s.meterImage := by
    unfold meterImage
    rw [writesOnly_rd hw (by decide), hb.image]
  rw [stagedCheck_eq, on_wrB_same (by decide) rfl, hb.covering, hm, hl]

/-! ## An image replaced on every die -/

theorem imageKey_inj {d b c d' b' c' : Nat} (hb : b < 2) (hc : c < 8) (hb' : b' < 2) (hc' : c' < 8)
    (h : imageKey d b c = imageKey d' b' c') : d = d' ∧ b = b' ∧ c = c' := by
  unfold imageKey at h
  omega

theorem setImages_eq (ds : List (Fin 8)) (b c : Nat) (l : List Byte) (s : State) :
    ∃ im, ds.foldl (fun s d => s.setImage d b c l) s = { s with lcs := { s.lcs with images := im } } := by
  induction ds generalizing s with
  | nil => exact ⟨_, rfl⟩
  | cons d t ih =>
    obtain ⟨im, h⟩ := ih (s.setImage d b c l)
    exact ⟨im, h⟩

theorem image_setImages (ds : List (Fin 8)) {b c b' c' : Nat} (l : List Byte) (s : State) (d : Fin 8) (hb : b < 2) (hc : c < 8)
    (hb' : b' < 2) (hc' : c' < 8) : (ds.foldl (fun s d => s.setImage d b c l) s).image d b' c' =
      if d ∈ ds ∧ b' = b ∧ c' = c then l else s.image d b' c' := by
  induction ds generalizing s with
  | nil => simp
  | cons e t ih =>
    rw [List.foldl_cons, ih, image_setImage]
    by_cases hbc : b' = b ∧ c' = c
    · obtain ⟨rfl, rfl⟩ := hbc
      by_cases hde : d = e
      · simp [hde]
      · have : imageKey d b' c' ≠ imageKey e b' c' := fun h => hde (Fin.ext (imageKey_inj hb' hc' hb hc h).1)
        simp [hde, this]
    · have : imageKey d b' c' ≠ imageKey e b c := fun h => hbc (imageKey_inj hb' hc' hb hc h).2
      rw [if_neg this, if_neg (fun h => hbc h.2), if_neg (fun h => hbc h.2)]

/-- One image put in a bank of every die; the empty one takes it out. -/
theorem onDies_setImage (s : State) {b c : Nat} (l : List Byte) (hb : b < 2) (hc : c < 8) :
    ∃ im, s.onDies (fun s d => s.setImage d b c l) = { s with lcs := { s.lcs with images := im } } ∧
      ∀ t : State, t.lcs.images = im → ∀ (d : Fin 8) b' c', b' < 2 → c' < 8 →
        t.image d b' c' = if b' = b ∧ c' = c then l else s.image d b' c' := by
  obtain ⟨im, him⟩ := setImages_eq (List.finRange 8) b c l s
  refine ⟨im, him, fun t ht d b' c' hb' hc' => ?_⟩
  have h := image_setImages (List.finRange 8) l s d hb hc hb' hc'
  rw [him] at h
  unfold image at h ⊢
  rw [ht]
  simpa only [List.mem_finRange, true_and] using h

/-! ## Keys voided with their class (R102) -/

/-- Only the key store's registers and its pending blobs have changed. -/
structure Voided (s t : State) : Prop where
  words : Confined [0x20] s t
  rest : ∃ r p, t = { s with regs := r, keys := { s.keys with pend := p } }

theorem zone_slotPending {n : Nat} (hn : n < 64) : zone (fldAddr 0 F.KEY_SLOT_ATTR_PENDING n 0) = 0x20 := by
  have ha : fldAddr 0 F.KEY_SLOT_ATTR_PENDING n 0 = 0x40200100 + n * 8 := by
    simp only [fldAddr, regAddr, F.KEY_SLOT_ATTR_PENDING]
    omega
  unfold zone
  rw [ha, if_pos (by omega)]
  omega

theorem Voided.step (h : Voided s x) (p : List (Nat × Option Blob)) {n : Nat} (hn : n < 64) :
    Voided s ((({ x with keys := { x.keys with pend := p } }).wr 0 F.KEY_SLOT_ATTR_PENDING 0 n).wr 0 F.KEY_STAT_PEND_OK 0) := by
  obtain ⟨hw, r, q, rfl⟩ := h
  refine ⟨?_, _, p, rfl⟩
  exact (Confined.setWord (Confined.same hw rfl) (List.mem_singleton.mpr (zone_slotPending hn))).wr

theorem voided_voidPending (s : State) (c : Nat) : Voided s (s.voidPending c) := by
  unfold voidPending
  refine List.foldlRecOn _ _ ⟨.refl, _, _, rfl⟩ (fun y hy n hn => ?_)
  split
  · exact hy.step _ (List.mem_range.mp hn)
  · exact hy

end State

end Sys2Proof.Machine

/-! # Image staging (R67, R83, R109) -/

namespace Sys2Proof.Machine

namespace State

variable {s x y z : State} {k : Fin 8}

/-- Gate steps leave the banks. -/
theorem GateOnly.sameBanks (h : GateOnly s x) : SameBanks s x :=
  .of_lcs h.lcs h.rd (h.words.rd _ _ _ _ (by decide)) h.rd

theorem GateOnly.otherBank (h : GateOnly s x) : x.otherBank = s.otherBank := by
  unfold State.otherBank
  rw [h.on]
  split
  · rw [h.rd]
  · rw [h.rd]

theorem GateOnly.bit (h : GateOnly s x) {f : Fld} (j : Nat) (hf : zone (fldAddr 0 f 0 0) ≠ 0x22 := by decide) : x.bit 0 f j = s.bit 0 f j := by
  unfold State.bit
  rw [h.rd hf]

/-- The status word of an answer is the command's code with the status above it. -/
theorem Answered.okWord {v : Verdict} {t : State} (h : Answered (s.envelope k) v x t) (hv : v.status = 0) {code : Nat}
    (hc : (s.envelope k).code = code) : t.slotWord k 0 = BitVec.ofNat 32 code := by
  have hs := h.status
  rw [hv, hc, Nat.mul_zero, Nat.add_zero] at hs
  exact hs

/-! ## BEGIN -/

/-- The state in which BEGIN voids keys and reports the checks: the class is out of the other bank, its staging is current. -/
structure Begun (s y : State) (c n : Nat) : Prop where
  mem : y.mem = s.mem
  regs : y.regs = s.regs
  staging : y.lcs.staging = some { cls := c, len := n }
  staged : y.lcs.staged = []
  image : ∀ (d : Fin 8) b' c', b' < 2 → c' < 8 → y.image d b' c' = if b' = s.otherBank ∧ c' = c then [] else s.image d b' c'

theorem beginRun_begun (s : State) (e : Envelope) (hc : (e.params.getD 0 0).toNat < 6) :
    ∃ y, s.beginRun e = (okWith [], (y.voidPending (e.params.getD 0 0).toNat).stagedCheck) ∧
      Begun s y (e.params.getD 0 0).toNat (e.params.getD 1 0).toNat := by
  have hb := otherBank_le s
  obtain ⟨im, hdies, himage⟩ := s.onDies_setImage (b := s.otherBank) (c := (e.params.getD 0 0).toNat) [] (by omega) (by omega)
  unfold beginRun
  dsimp only
  rw [if_pos hc, hdies]
  exact ⟨_, rfl, rfl, rfl, rfl, rfl, himage _ rfl⟩

theorem Begun.otherBank {c n : Nat} (h : Begun s y c n) : y.otherBank = s.otherBank := by
  unfold State.otherBank State.on
  simp only [rd_of_regs h.regs]

theorem Voided.otherBank (h : Voided s y) : y.otherBank = s.otherBank := by
  unfold State.otherBank
  rw [h.words.on 0 F.LCS_BOOT_TRIAL 0 0 (by decide)]
  split
  · rw [h.words.rd 0 F.LCS_BANK_PEND_BANK 0 0 (by decide)]
  · rw [h.words.rd 0 F.LCS_BANK_ACTIVE 0 0 (by decide)]

theorem Voided.lcs (h : Voided s y) : y.lcs = s.lcs := by
  obtain ⟨r, p, rfl⟩ := h.rest
  rfl

theorem Voided.mem (h : Voided s y) : y.mem = s.mem := by
  obtain ⟨r, p, rfl⟩ := h.rest
  rfl

theorem lcs_stagedCheck (s : State) : s.stagedCheck.lcs = s.lcs := by rw [(writesOnly_stagedCheck s).1]

theorem mem_stagedCheck (s : State) : s.stagedCheck.mem = s.mem := by rw [(writesOnly_stagedCheck s).1]

theorem image_of_lcs (h : x.lcs = s.lcs) (d b c : Nat) : x.image d b c = s.image d b c := by
  unfold image
  rw [h]

/-- What BEGIN of an image class leaves, the response apart. -/
structure BeginDone (s t : State) (c n : Nat) : Prop where
  staging : t.lcs.staging = some { cls := c, len := n }
  staged : t.lcs.staged = []
  emptied : ∀ d : Fin 8, t.image d s.otherBank c = []
  kept : ∀ (d : Fin 8) c', c' < 6 → t.image d (1 - s.otherBank) c' = s.image d (1 - s.otherBank) c'
  invalid : t.bit 0 F.LCS_STAGED_VALID c = false

theorem Begun.done {c n : Nat} (h : Begun s y c n) (hc : c < 6) : BeginDone s (y.voidPending c).stagedCheck c n := by
  have hb := otherBank_le s
  have hv := voided_voidPending y c
  have hlcs : (y.voidPending c).stagedCheck.lcs = y.lcs := (lcs_stagedCheck _).trans hv.lcs
  have hempty (d : Fin 8) : y.image d s.otherBank c = [] := by rw [h.image d _ _ (by omega) (by omega), if_pos ⟨rfl, rfl⟩]
  refine ⟨by rw [hlcs, h.staging], by rw [hlcs, h.staged], fun d => (image_of_lcs hlcs ..).trans (hempty d), fun d c' hc' => ?_, ?_⟩
  · rw [image_of_lcs hlcs, h.image d _ _ (by omega) (by omega), if_neg (fun hn => absurd hn.1 (by omega))]
  · rw [bit_stagedCheck hc]
    unfold classGood
    rw [verified_of_empty, Bool.false_and]
    rw [image_of_lcs hv.lcs, hv.otherBank, h.otherBank]
    exact hempty 0

theorem BeginDone.gate {c n : Nat} (hs : GateOnly s x) (h : BeginDone x y c n) (hy : GateOnly y z) : BeginDone s z c n := by
  have hbank := hs.otherBank
  refine ⟨by rw [hy.lcs, h.staging], by rw [hy.lcs, h.staged], fun d => ?_, fun d c' hc' => ?_, (hy.bit c).trans h.invalid⟩
  · rw [hy.sameBanks.image, ← hbank, h.emptied]
  · rw [hy.sameBanks.image, ← hbank, h.kept d c' hc', hs.sameBanks.image]

theorem imageStagingBegin_effect (h : s.admits k 0x0010 (fun _ => true) beginBad = true)
    (hc : ((s.envelope k).params.getD 0 0).toNat < 6) :
    (s.gateRun k 0x0010 (fun _ => true) beginBad beginRun).slotWord k 0 = 0x10 ∧
      BeginDone s (s.gateRun k 0x0010 (fun _ => true) beginBad beginRun) ((s.envelope k).params.getD 0 0).toNat
        ((s.envelope k).params.getD 1 0).toNat := by
  have had := admitted_of_admits h
  obtain ⟨y, hrun, hy⟩ := beginRun_begun (s.passed k) (s.envelope k) hc
  have hmem : ((s.passed k).beginRun (s.envelope k)).2.mem = s.mem := by
    rw [hrun]
    exact (mem_stagedCheck _).trans ((voided_voidPending y _).mem.trans (hy.mem.trans (mem_passed s k)))
  have ha := had.answered (run := beginRun) (by decide) hmem
  rw [hrun] at ha
  exact ⟨ha.okWord rfl had.code, (hy.done hc).gate (gateOnly_passed s k) ha.gate⟩

/-! ## DATA -/

theorem bulk_of_dataBad {e : Envelope} (h : s.dataBad e = false) : isBulk (e.params.getD 0 0).toNat := by
  simp only [dataBad, Bool.or_eq_false_iff, decide_eq_false_iff_not, Nat.not_lt] at h
  obtain ⟨⟨⟨-, hlo⟩, hhi⟩, -⟩ := h
  exact ⟨hlo, hhi⟩

/-- A bulk slot lies behind the command slots. -/
theorem winKey_cmd_lt_bulk {i : Nat} (k : Fin 8) (hi : isBulk i) : winKey (slotBase k) + 0x400 ≤ winKey (slotBase i) := by
  obtain ⟨h0, h1⟩ := hi
  have hb : slotBase i = 0x8000 + 0x4000 * (i - 16) := by
    unfold slotBase
    rw [if_neg (by omega), if_neg (by omega), if_neg (by omega)]
  rw [winKey_slotBase, hb]
  unfold winKey
  omega

/-- The bytes submitted in a slot. -/
def slotBytes (s : State) (i : Nat) : List Byte := bytesOf (s.payload i (hLen (s.header i)))

/-- A submitted bulk slot taken for the staging. -/
def gathered (s : State) (i : Nat) : State :=
  { (s.setHeader i (mkHeader 3 (hSeq (s.header i)) 0)) with lcs := { s.lcs with staged := s.lcs.staged ++ s.slotBytes i } }

theorem dataRun_open {e : Envelope} (hst : s.lcs.staging.isSome = true) (ho : s.own (e.params.getD 0 0).toNat = 2) :
    s.dataRun e = (okWith [], s.gathered (e.params.getD 0 0).toNat) := by
  have hn : (s.lcs.staging.isNone || s.own (e.params.getD 0 0).toNat != 2) = false := by
    rw [ho, Option.isNone_eq_false_iff.mpr hst]
    rfl
  unfold dataRun takeSlot
  dsimp only
  rw [hn, if_neg Bool.false_ne_true, if_pos ho]
  rfl

theorem dataRun_closed {e : Envelope} (h : s.lcs.staging = none ∨ s.own (e.params.getD 0 0).toNat ≠ 2) :
    s.dataRun e = (wrongState s.bootMode 4 0xFF, s) := by
  have hn : (s.lcs.staging.isNone || s.own (e.params.getD 0 0).toNat != 2) = true := by
    rcases h with h | h
    · rw [h]
      rfl
    · rw [Bool.or_eq_true, bne_iff_ne]
      exact .inr h
  unfold dataRun
  dsimp only
  rw [hn, if_pos rfl]

theorem slotBytes_of_mem (h : x.mem = s.mem) (i : Nat) : x.slotBytes i = s.slotBytes i := by
  unfold slotBytes
  rw [header_of_mem h]
  exact congrArg bytesOf (List.map_congr_left (fun _ _ => mword_of_mem h _))

theorem header_gathered (s : State) (i : Nat) : (s.gathered i).header i = mkHeader 3 (hSeq (s.header i)) 0 :=
  (header_of_mem (s := s.setHeader i (mkHeader 3 (hSeq (s.header i)) 0)) rfl i).trans (header_setHeader ..)

theorem staged_gathered (s : State) (i : Nat) : (s.gathered i).lcs.staged = s.lcs.staged ++ s.slotBytes i := (rfl)

theorem staging_gathered (s : State) (i : Nat) : (s.gathered i).lcs.staging = s.lcs.staging := (rfl)

theorem imageStagingData_effect (h : s.admits k 0x0011 (fun _ => true) dataBad = true) (hst : s.lcs.staging.isSome = true)
    (ho : s.own ((s.envelope k).params.getD 0 0).toNat = 2) :
    let i := ((s.envelope k).params.getD 0 0).toNat
    let t := s.gateRun k 0x0011 (fun _ => true) dataBad dataRun
    t.slotWord k 0 = 0x11 ∧ t.lcs.staged = s.lcs.staged ++ s.slotBytes i ∧ t.own i = 3 ∧ t.lcs.staging = s.lcs.staging := by
  have had := admitted_of_admits h
  have hgate := gateOnly_passed s k
  have hmem := mem_passed s k
  have hkey := winKey_cmd_lt_bulk k (bulk_of_dataBad had.good)
  have hrun := dataRun_open (s := s.passed k) (e := s.envelope k) (hgate.lcs ▸ hst) ((own_of_mem hmem _).trans ho)
  have hlen : answerLen (okWith []) = 4 := rfl
  have heq := had.gateRun_eq dataRun (by decide)
  rw [hrun] at heq
  generalize ((s.envelope k).params.getD 0 0).toNat = i at hkey heq ⊢
  have hown : ((s.passed k).gathered i).own k = 2 :=
    (congrArg hOwn ((mword_setMword_apart _ _ _ _ (.inl (by omega))).trans (header_of_mem hmem k))).trans had.own
  have ha := respond_answered (e := s.envelope k) (okWith []) hown
  rw [← heq] at ha
  refine ⟨ha.okWord rfl had.code, ?_, ?_, ?_⟩
  · rw [ha.gate.lcs, staged_gathered, slotBytes_of_mem hmem, hgate.lcs]
  · have hword : (s.gateRun k 0x0011 (fun _ => true) dataBad dataRun).header i = ((s.passed k).gathered i).header i :=
      mword_congr (fun j _ => ha.bytes _ (.inr (show winKey (slotBase k) + 4 + 4 * answerLen (okWith []) ≤ _ by rw [hlen]; omega)))
    unfold own
    rw [hword, header_gathered, hOwn_mkHeader]
  · rw [ha.gate.lcs, staging_gathered, hgate.lcs]

theorem imageStagingData_refused (h : s.admits k 0x0011 (fun _ => true) dataBad = true)
    (hno : s.lcs.staging = none ∨ s.own ((s.envelope k).params.getD 0 0).toNat ≠ 2) :
    Refused k 3 s (s.gateRun k 0x0011 (fun _ => true) dataBad dataRun) := by
  have hrun := dataRun_closed (s := s.passed k) (e := s.envelope k)
    (by rw [(gateOnly_passed s k).lcs, own_of_mem (mem_passed s k)]; exact hno)
  exact (admitted_of_admits h).refused (v := wrongState _ 4 0xFF) (by decide) hrun (show 3 ≠ 0 by decide)

/-! ## END -/

/-- What END of an image class leaves, the response apart. -/
structure EndDone (s t : State) (g : Staging) : Prop where
  staging : t.lcs.staging = none
  image : ∀ d : Fin 8, t.image d s.otherBank g.cls = s.lcs.staged.take g.len
  unchecked : t.on 0 F.LCS_STAGED_STAGE_DONE = false
  checking : t.lcs.checking = s.lcs.checking ++ [g.cls]

theorem endRun_done (s : State) (e : Envelope) {g : Staging} (hst : s.lcs.staging = some g) (hc : g.cls < 6) :
    ∃ y, s.endRun e = (okWith [], y) ∧ y.mem = s.mem ∧ EndDone s y g := by
  have hb := otherBank_le s
  obtain ⟨im, hdies, himage⟩ := s.onDies_setImage (b := s.otherBank) (c := g.cls) (s.lcs.staged.take g.len) (by omega) (by omega)
  have hlcs (y : State) (v : Nat) : (y.stagedCheck.wr 0 F.LCS_STAGED_STAGE_DONE v).lcs = y.lcs := (wr_lcs ..).trans (lcs_stagedCheck y)
  have hmem (y : State) (v : Nat) : (y.stagedCheck.wr 0 F.LCS_STAGED_STAGE_DONE v).mem = y.mem := (wr_mem ..).trans (mem_stagedCheck y)
  unfold endRun
  rw [hst]
  dsimp only
  rw [if_pos hc, hdies]
  refine ⟨_, rfl, by rw [hmem], by rw [hlcs], fun d => ?_, on_wr_zero (by decide), by rw [hlcs]⟩
  exact (himage _ (by rw [hlcs]) d _ _ (by omega) (by omega)).trans (if_pos ⟨rfl, rfl⟩)

theorem EndDone.gate {g : Staging} (hs : GateOnly s x) (h : EndDone x y g) (hy : GateOnly y z) : EndDone s z g :=
  ⟨by rw [hy.lcs, h.staging], fun d => by rw [hy.sameBanks.image, ← hs.otherBank, h.image, hs.lcs], hy.on.trans h.unchecked,
    by rw [hy.lcs, h.checking, hs.lcs]⟩

theorem imageStagingEnd_effect (h : s.admits k 0x0012 (fun _ => true) endBad = true) {g : Staging} (hst : s.lcs.staging = some g)
    (hc : g.cls < 6) : (s.gateRun k 0x0012 (fun _ => true) endBad endRun).slotWord k 0 = 0x12 ∧
      EndDone s (s.gateRun k 0x0012 (fun _ => true) endBad endRun) g := by
  have had := admitted_of_admits h
  have hgate := gateOnly_passed s k
  obtain ⟨y, hrun, hmem, hy⟩ := endRun_done (s.passed k) (s.envelope k) (by rw [hgate.lcs, hst]) hc
  have ha := had.answered (run := endRun) (by decide) (by rw [hrun]; exact hmem.trans (mem_passed s k))
  rw [hrun] at ha
  exact ⟨ha.okWord rfl had.code, hy.gate hgate ha.gate⟩

theorem imageStagingEnd_refused (h : s.admits k 0x0012 (fun _ => true) endBad = true) (hst : s.lcs.staging = none) :
    Refused k 3 s (s.gateRun k 0x0012 (fun _ => true) endBad endRun) := by
  have hrun : (s.passed k).endRun (s.envelope k) = (wrongState (s.passed k).bootMode 4 0xFF, s.passed k) := by
    unfold endRun
    rw [(gateOnly_passed s k).lcs, hst]
  exact (admitted_of_admits h).refused (v := wrongState _ 4 0xFF) (by decide) hrun (show 3 ≠ 0 by decide)

end State

open State

/-- Settles O24: the gate's checks and its response touch neither the banks nor the staging, so that what BEGIN, DATA and END leave
is what their runs leave. -/
theorem imageStaging : Obligations.ImageStaging := by
  unfold Obligations.ImageStaging
  intro s k
  refine ⟨fun h hc => ⟨_, rfl, ?_⟩, fun h => ⟨fun hst ho => ⟨_, rfl, imageStagingData_effect h hst ho⟩,
    fun hno => ⟨_, rfl, imageStagingData_refused h hno⟩⟩, fun g h hst hc => ⟨_, rfl, ?_⟩,
    fun h hst => ⟨_, rfl, imageStagingEnd_refused h hst⟩⟩
  · obtain ⟨hword, hdone⟩ := imageStagingBegin_effect h hc
    exact ⟨hword, hdone.staging, hdone.staged, hdone.emptied, hdone.kept, hdone.invalid⟩
  · obtain ⟨hword, hdone⟩ := imageStagingEnd_effect h hst hc
    exact ⟨hword, hdone.staging, hdone.image, hdone.unchecked, hdone.checking⟩

end Sys2Proof.Machine

/-! # Activation and life-cycle transitions (R79 to R84) -/

namespace Sys2Proof.Machine

namespace State

variable {s x y z : State} {k : Fin 8}

theorem GateOnly.lifeState (h : GateOnly s x) : x.lifeState = s.lifeState := h.rd

/-! ## Every reason against is a state's -/

theorem status_busyPort {p : Fin 8 → Fin 4 → Bool} {v : Verdict} (h : s.busyPort p = some v) : v.status = 3 := by
  obtain ⟨q, -, hq⟩ := List.exists_of_findSome?_eq_some h
  dsimp only at hq
  split at hq
  · rw [← Option.some.inj hq]
    rfl
  · cases hq

/-- A reason that is a state's, where there is one. -/
def StateReason (o : Option Verdict) : Prop := ∀ v, o = some v → v.status = 3

theorem StateReason.none : StateReason none := fun _ h => nomatch h

theorem StateReason.wrong (state kind object : Nat) : StateReason (some (wrongState state kind object)) := by
  intro v h
  rw [← Option.some.inj h]
  rfl

theorem StateReason.busy (p : Fin 8 → Fin 4 → Bool) : StateReason (s.busyPort p) := fun _ h => status_busyPort h

theorem StateReason.ite {c : Prop} [Decidable c] {o q : Option Verdict} (ho : StateReason o) (hq : StateReason q) :
    StateReason (if c then o else q) := by
  split
  · exact ho
  · exact hq

theorem stateReason_activateWhy (b : Nat) : StateReason (s.activateWhy b) := by
  unfold activateWhy
  refine .ite (.wrong _ _ _) ?_
  split
  · next v hv => exact fun w hw => status_busyPort (hv.trans hw)
  · exact .ite .none (.wrong _ _ _)

theorem stateReason_lifeWhy (e : Envelope) : StateReason (s.lifeWhy e) := by
  have hquiet : StateReason (if !s.roleQuiet then some (wrongState s.role 2 0xFF) else s.busyPort (fun _ _ => true)) :=
    .ite (.wrong _ _ _) (.busy _)
  have hread : StateReason (if s.readOut e then Option.none else some (wrongState (b2n s.meter.running) 3 0xFF)) := .ite .none (.wrong _ _ _)
  unfold lifeWhy
  dsimp only
  split
  · exact .ite (.wrong _ _ _) (.ite .none (.wrong _ _ _))
  · exact .busy _
  · exact hquiet
  · exact .ite .none (.wrong _ _ _)
  · split
    · next v hv => exact fun w hw => hquiet w (hv.trans hw)
    · exact hread
  · exact hread
  · exact .none

/-! ## Activation -/

/-- The restart that an activation makes due. -/
def activationRestart (s : State) (b : Nat) : Restart :=
  { meterToo := s.verified 0 b 3 && measure (s.image 0 b 3) != measure s.meterImage, newState := none, mask := 0, ownerHash := [] }

/-- An accepted activation's state. -/
def activated (s : State) (b : Nat) : State :=
  { ((s.wr 0 F.LCS_BANK_PENDING 1).wr 0 F.LCS_BANK_PEND_BANK b) with lcs := { s.lcs with restart := some (s.activationRestart b) } }

theorem activateRun_ok {e : Envelope} (h : s.activateWhy (e.params.getD 0 0).toNat = none) :
    s.activateRun e = (okWith [], s.activated (e.params.getD 0 0).toNat) := by
  unfold activateRun
  dsimp only
  rw [h]
  rfl

/-- What an accepted activation leaves, the response apart. -/
structure Activated (s t : State) (b : Nat) : Prop where
  pending : t.on 0 F.LCS_BANK_PENDING = true
  bank : t.rd 0 F.LCS_BANK_PEND_BANK = b
  active : t.rd 0 F.LCS_BANK_ACTIVE = s.rd 0 F.LCS_BANK_ACTIVE
  restart : ∃ r, t.lcs.restart = some r ∧ r.newState = none ∧ r.mask = 0
  images : t.lcs.images = s.lcs.images

theorem activated_effect (s : State) {b : Nat} (hb : b < 2) : Activated s (s.activated b) b := by
  have hregs (f : Fld) : (s.activated b).rd 0 f = ((s.wr 0 F.LCS_BANK_PENDING 1).wr 0 F.LCS_BANK_PEND_BANK b).rd 0 f := rfl
  refine ⟨?_, ?_, ?_, ⟨_, rfl, rfl, rfl⟩, rfl⟩
  · unfold State.on
    rw [hregs, rd_wr_apart _ _ _ _ _ _ _ _ _ _ (.inr (.inr (by decide))), rd_wr_same _ _ _ _ _ _ (by decide)]
    rfl
  · rw [hregs, rd_wr_same _ _ _ _ _ _ (by decide)]
    exact Nat.mod_eq_of_lt hb
  · rw [hregs, rd_wr_apart _ _ _ _ _ _ _ _ _ _ (.inr (.inr (by decide))), rd_wr_apart _ _ _ _ _ _ _ _ _ _ (.inr (.inr (by decide)))]

theorem imageActivation_effect (h : s.admits k 0x0501 (fun _ => true) (oneBad 2) = true)
    (hw : (s.passed k).activateWhy ((s.envelope k).params.getD 0 0).toNat = none) :
    (s.gateRun k 0x0501 (fun _ => true) (oneBad 2) activateRun).slotWord k 0 = 0x0501 ∧
      Activated s (s.gateRun k 0x0501 (fun _ => true) (oneBad 2) activateRun) ((s.envelope k).params.getD 0 0).toNat := by
  have had := admitted_of_admits h
  have hgate := gateOnly_passed s k
  have hb : ((s.envelope k).params.getD 0 0).toNat < 2 := by
    have hgood := had.good
    simp only [oneBad, Bool.or_eq_false_iff, decide_eq_false_iff_not, Nat.not_le] at hgood
    exact hgood.2
  have hrun := activateRun_ok hw
  have hmem : ((s.passed k).activated ((s.envelope k).params.getD 0 0).toNat).mem = s.mem := mem_passed s k
  have ha := had.answered (run := activateRun) (by decide) (by rw [hrun]; exact hmem)
  rw [hrun] at ha
  obtain ⟨hp, hbank, hact, ⟨r, hr, hnew, hmask⟩, him⟩ := activated_effect (s.passed k) hb
  exact ⟨ha.okWord rfl had.code, ha.gate.on.trans hp, ha.gate.rd.trans hbank, ha.gate.rd.trans (hact.trans hgate.rd),
    ⟨r, by rw [ha.gate.lcs, hr], hnew, hmask⟩, by rw [ha.gate.lcs, him, hgate.lcs]⟩

theorem imageActivation_refused (h : s.admits k 0x0501 (fun _ => true) (oneBad 2) = true)
    (hw : (s.passed k).activateWhy ((s.envelope k).params.getD 0 0).toNat ≠ none) :
    Refused k 3 s (s.gateRun k 0x0501 (fun _ => true) (oneBad 2) activateRun) := by
  obtain ⟨v, hv⟩ := Option.ne_none_iff_exists'.mp hw
  have hrun : (s.passed k).activateRun (s.envelope k) = (v, s.passed k) := by
    unfold activateRun
    dsimp only
    rw [hv]
  have hst := stateReason_activateWhy _ v hv
  exact hst ▸ (admitted_of_admits h).refused (by decide) hrun (by rw [hst]; decide)

/-! ## Life cycle -/

/-- The restart that a transition makes due. -/
def transitionRestart (s : State) (e : Envelope) : Restart :=
  { meterToo := false, newState := some (e.params.getD 0 0).toNat, mask := transMask s.lifeState (e.params.getD 0 0).toNat,
    ownerHash := if (e.params.getD 0 0).toNat = 1 then bytesOf (e.params.drop 1) else [] }

theorem lifeRun_ok {e : Envelope} (h : s.lifeWhy e = none) (hn : (e.params.getD 0 0).toNat ≠ 4) :
    s.lifeRun e = (okWith [], { s with lcs := { s.lcs with restart := some (s.transitionRestart e) } }) := by
  unfold lifeRun
  rw [h]
  dsimp only
  rw [if_neg hn]
  rfl

theorem lifeCycleChange_effect (h : s.admits k 0x0601 (fun _ => true) lifeBad = true) (hw : (s.passed k).lifeWhy (s.envelope k) = none)
    (hn : ((s.envelope k).params.getD 0 0).toNat ≠ 4) :
    let n := ((s.envelope k).params.getD 0 0).toNat
    let t := s.gateRun k 0x0601 (fun _ => true) lifeBad lifeRun
    t.slotWord k 0 = 0x0601 ∧ t.lifeState = s.lifeState ∧
      (∃ r, t.lcs.restart = some r ∧ r.newState = some n ∧ r.mask = transMask s.lifeState n) ∧ t.meter = s.meter := by
  have had := admitted_of_admits h
  have hgate := gateOnly_passed s k
  have hrun := lifeRun_ok hw hn
  have ha := had.answered (run := lifeRun) (by decide) (by rw [hrun]; exact mem_passed s k)
  rw [hrun] at ha
  refine ⟨ha.okWord rfl had.code, ha.gate.lifeState.trans hgate.lifeState,
    ⟨(s.passed k).transitionRestart (s.envelope k), by rw [ha.gate.lcs], rfl, ?_⟩, ha.gate.meter.trans hgate.meter⟩
  unfold transitionRestart
  rw [hgate.lifeState]

theorem lifeCycleChange_refused (h : s.admits k 0x0601 (fun _ => true) lifeBad = true)
    (hw : (s.passed k).lifeWhy (s.envelope k) ≠ none) : Refused k 3 s (s.gateRun k 0x0601 (fun _ => true) lifeBad lifeRun) := by
  obtain ⟨v, hv⟩ := Option.ne_none_iff_exists'.mp hw
  have hrun : (s.passed k).lifeRun (s.envelope k) = (v, s.passed k) := by
    unfold lifeRun
    rw [hv]
  have hst := stateReason_lifeWhy _ v hv
  exact hst ▸ (admitted_of_admits h).refused (by decide) hrun (by rw [hst]; decide)

end State

open State

/-- Settles O25: an accepted command's restart is read off its run, and every reason against one is a state's. -/
theorem activationAndLifeCycle : Obligations.ActivationAndLifeCycle := by
  unfold Obligations.ActivationAndLifeCycle
  intro s k
  refine ⟨fun h => ⟨fun hw => ⟨_, rfl, ?_⟩, fun hw => ⟨_, rfl, imageActivation_refused h hw⟩⟩,
    fun h => ⟨fun hw hn => ⟨_, rfl, lifeCycleChange_effect h hw hn⟩, fun hw => ⟨_, rfl, lifeCycleChange_refused h hw⟩⟩⟩
  obtain ⟨hword, hdone⟩ := imageActivation_effect h hw
  exact ⟨hword, hdone.pending, hdone.bank, hdone.active, hdone.restart, hdone.images⟩

end Sys2Proof.Machine

/-! # The meter mailbox (R119, R124, R364, R367) -/

namespace Sys2Proof.Machine

namespace State

variable {s x y z : State} {k : Fin 8} {code : Nat} {mine : List Word → Bool} {bad turned : State → Envelope → Bool}
  {ask : State → Envelope → Answer × State}

/-! ## A request through the gate -/

/-- The request in MBQ, its answer waiting. -/
def handed (s : State) (k : Fin 8) (e : Envelope) (reply : List Word) : State :=
  let s := (s.setHeader 8 (mkHeader 2 e.seq e.words.length)).putPayload 8 e.words
  { s with gate := { s.gate with meterSlot := some k, meterReply := reply } }

/-- A meter request past the checks and the states that turn it away: turned away as no readout, BUSY, refused by the meter head, or
handed over. -/
def mailStep (s : State) (k : Fin 8) (e : Envelope) (turned : State → Envelope → Bool) (ask : State → Envelope → Answer × State) : State :=
  if turned s e then s.respond e s.meterTurned
  else if s.own 8 ≠ 3 || s.own 9 ≠ 3 || s.gate.meterSlot.isSome then s.respond e (refusedWith 6)
  else if (ask s e).1.1 ≠ 0 then (ask s e).2.respond e (refusedWith (ask s e).1.1)
  else (ask s e).2.handed k e (ask s e).1.2

theorem Admitted.meterRun_eq (h : Admitted s k code mine bad) (hk : knownCodes.contains code = true) :
    s.meterRun k code bad turned ask = (s.passed k).mailStep k (s.envelope k) turned ask := by
  have hform : (!(s.gateCheck (s.envelope k)).2.formOk (s.envelope k) || bad (s.gateCheck (s.envelope k)).2 (s.envelope k)) = false := by
    rw [show (s.gateCheck (s.envelope k)).2 = s.passed k from rfl, h.form, h.good]
    rfl
  have hopen : (s.gateCheck (s.envelope k)).2.turnedAway (s.envelope k) = none := h.open_
  unfold meterRun
  dsimp only
  rw [h.waits, h.code, hk]
  simp only [Bool.not_true, Bool.false_eq_true, if_false, ne_eq, not_true_eq_false, h.check, hform, hopen]
  rfl

/-- A free mailbox: both slots free, and no request under way. -/
structure MailboxFree (s : State) : Prop where
  request : s.own 8 = 3
  reply : s.own 9 = 3
  idle : s.gate.meterSlot = none

theorem MailboxFree.busy (h : MailboxFree s) : (s.own 8 ≠ 3 || s.own 9 ≠ 3 || s.gate.meterSlot.isSome) = false := by
  rw [h.request, h.reply, h.idle]
  rfl

theorem MailboxFree.passed (h : MailboxFree s) : MailboxFree (s.passed k) :=
  ⟨(own_of_mem (mem_passed s k) 8).trans h.request, (own_of_mem (mem_passed s k) 9).trans h.reply,
    (gateOnly_passed s k).meterSlot.trans h.idle⟩

theorem busy_passed (h : s.own 8 ≠ 3 ∨ s.own 9 ≠ 3 ∨ s.gate.meterSlot.isSome = true) :
    ((s.passed k).own 8 ≠ 3 || (s.passed k).own 9 ≠ 3 || (s.passed k).gate.meterSlot.isSome) = true := by
  rw [own_of_mem (mem_passed s k), own_of_mem (mem_passed s k), (gateOnly_passed s k).meterSlot, Bool.or_eq_true, Bool.or_eq_true,
    decide_eq_true_eq, decide_eq_true_eq, or_assoc]
  exact h

theorem mailStep_turned {e : Envelope} (ht : turned s e = true) : s.mailStep k e turned ask = s.respond e s.meterTurned := if_pos ht

theorem mailStep_busy {e : Envelope} (ht : turned s e = false)
    (hb : (s.own 8 ≠ 3 || s.own 9 ≠ 3 || s.gate.meterSlot.isSome) = true) : s.mailStep k e turned ask = s.respond e (refusedWith 6) := by
  unfold mailStep
  rw [ht, if_neg Bool.false_ne_true, if_pos hb]

theorem mailStep_free {e : Envelope} (ht : turned s e = false) (hf : MailboxFree s) : s.mailStep k e turned ask =
    if (ask s e).1.1 ≠ 0 then (ask s e).2.respond e (refusedWith (ask s e).1.1) else (ask s e).2.handed k e (ask s e).1.2 := by
  unfold mailStep
  rw [ht, if_neg Bool.false_ne_true, hf.busy, if_neg Bool.false_ne_true]

theorem Admitted.respond_refused (h : Admitted s k code mine bad) {v : Verdict} (hv : v.status ≠ 0) :
    Refused k v.status s ((s.passed k).respond (s.envelope k) v) :=
  (respond_answered (e := s.envelope k) v ((own_of_mem (mem_passed s k) k).trans h.own)).refused (gateOnly_passed s k) (mem_passed s k) hv

theorem Admitted.meterRun_busy (h : Admitted s k code mine bad) (hk : knownCodes.contains code = true)
    (ht : turned (s.passed k) (s.envelope k) = false) (hb : s.own 8 ≠ 3 ∨ s.own 9 ≠ 3 ∨ s.gate.meterSlot.isSome = true) :
    Refused k 6 s (s.meterRun k code bad turned ask) := by
  rw [h.meterRun_eq hk, mailStep_busy ht (busy_passed hb)]
  exact h.respond_refused (v := refusedWith 6) (show 6 ≠ 0 by decide)

/-! ## The mailbox's slots -/

theorem winKey_mbq {o : Nat} (ho : o < 0x400) : winKey (slotBase 8 + o) = 0x30003000 + o := by
  rw [show slotBase 8 = 0x3000 from rfl]
  unfold winKey
  omega

theorem winKey_mbr {o : Nat} (ho : o < 0x4000) : winKey (slotBase 9 + o) = 0x30004000 + o := by
  rw [show slotBase 9 = 0x4000 from rfl]
  unfold winKey
  omega

/-- Command slots end where the mailbox begins. -/
theorem winKey_cmd_below (k : Fin 8) : winKey (slotBase k) + 0x400 ≤ 0x30003000 := by
  have hk := k.isLt
  rw [winKey_slotBase]
  omega

theorem header_of_low (h : ∀ a, a < 0x30003000 → x.byte a = s.byte a) (k : Fin 8) : x.header k = s.header k :=
  mword_congr (fun i _ => h _ (by have := winKey_cmd_below k; omega))

theorem byte_putPayload_low (s : State) {i : Nat} (l : List Word) {a : Nat} (h : a < winKey (slotBase i + 4)) :
    (s.putPayload i l).byte a = s.byte a := byte_setMwords_out _ _ _ _ (.inl h)

/-- What a request handed over leaves. -/
structure Handed (s t : State) (k : Fin 8) (e : Envelope) (reply : List Word) : Prop where
  slot : t.gate.meterSlot = some k
  reply : t.gate.meterReply = reply
  request : t.header 8 = mkHeader 2 e.seq e.words.length
  low : ∀ a, a < 0x30003000 → t.byte a = s.byte a
  meter : t.meter = s.meter

theorem handed_effect (s : State) (k : Fin 8) (e : Envelope) (reply : List Word) : Handed s (s.handed k e reply) k e reply := by
  have hq : winKey (slotBase 8) = 0x30003000 := winKey_mbq (o := 0) (by decide)
  have hq4 : winKey (slotBase 8 + 4) = 0x30003004 := winKey_mbq (by decide)
  have hmem : (s.handed k e reply).mem = ((s.setHeader 8 (mkHeader 2 e.seq e.words.length)).putPayload 8 e.words).mem := rfl
  obtain ⟨m, u, hput⟩ : MemOnly s ((s.setHeader 8 (mkHeader 2 e.seq e.words.length)).putPayload 8 e.words) :=
    (MemOnly.refl.setBytes _ _).setMwords _ _
  refine ⟨rfl, rfl, ?_, fun a ha => ?_, ?_⟩
  · rw [header_of_mem hmem]
    exact (mword_congr (fun i _ => byte_putPayload_low _ _ (by omega))).trans (header_setHeader ..)
  · rw [byte_of_mem hmem, byte_putPayload_low _ _ (by omega)]
    exact byte_setMword_out _ _ _ _ (.inl (by omega))
  · unfold handed
    dsimp only
    rw [hput]

theorem Handed.own {e : Envelope} {r : List Word} (h : Handed x y k e r) : y.own 8 = 2 := by
  unfold State.own
  rw [h.request, hOwn_mkHeader]

theorem Handed.seq {r : List Word} (h : Handed x y k (s.envelope k) r) : hSeq (y.header 8) = (s.envelope k).seq := by
  have hseq : (s.envelope k).seq = hSeq (s.header k) := rfl
  rw [h.request, hSeq_mkHeader, hseq]
  exact Nat.mod_eq_of_lt (Nat.mod_lt _ (by decide))

/-- An admitted request in a free mailbox that the meter head takes. -/
theorem Admitted.meterRun_free (h : Admitted s k code mine bad) (hk : knownCodes.contains code = true)
    (ht : turned (s.passed k) (s.envelope k) = false) (hf : MailboxFree s) (ha : (ask (s.passed k) (s.envelope k)).1.1 = 0) :
    Handed (ask (s.passed k) (s.envelope k)).2 (s.meterRun k code bad turned ask) k (s.envelope k)
      (ask (s.passed k) (s.envelope k)).1.2 := by
  rw [h.meterRun_eq hk, mailStep_free ht hf.passed, if_neg (fun hn => hn ha)]
  exact handed_effect ..

/-- A readout handed over: the reply is what the meter head reads, and neither it nor the command slot has changed. -/
theorem Admitted.readout (h : Admitted s k code mine bad) (hk : knownCodes.contains code = true) {reply : List Word}
    (ha : ask (s.passed k) (s.envelope k) = ((0, reply), s.passed k)) (hf : MailboxFree s) :
    let t := s.meterRun k code bad (fun _ _ => false) ask
    t.gate.meterSlot = some k ∧ t.gate.meterReply = reply ∧ t.own 8 = 2 ∧ hSeq (t.header 8) = (s.envelope k).seq ∧ t.own k = 2 ∧
      t.meter = s.meter := by
  have hh := h.meterRun_free (turned := fun _ _ => false) (ask := ask) hk rfl hf (by rw [ha])
  rw [ha] at hh
  exact ⟨hh.slot, hh.reply, hh.own, hh.seq, (congrArg hOwn ((header_of_low hh.low k).trans (header_of_mem (mem_passed s k) k))).trans h.own,
    hh.meter.trans (gateOnly_passed s k).meter⟩

/-! ## Roles that may not read -/

theorem meterRun_notPermitted (hw : s.waiting k = true) (hc : (s.envelope k).code = code) (hk : knownCodes.contains code = true)
    (hn : s.notPermitted (s.envelope k) = true) : Refused k 5 s (s.meterRun k code bad turned ask) := by
  have hcheck : s.gateCheck (s.envelope k) = (5, s) := if_pos hn
  have hrun : s.meterRun k code bad turned ask = s.respond (s.envelope k) (refusedWith 5) := by
    unfold meterRun
    dsimp only
    rw [hw, hc, hk, hcheck]
    simp only [Bool.not_true, Bool.false_eq_true, if_false, ne_eq, not_true_eq_false]
    exact if_pos (by decide)
  rw [hrun]
  exact (respond_answered (e := s.envelope k) (refusedWith 5) (own_of_waiting hw)).refused .refl rfl (show 5 ≠ 0 by decide)

theorem not_readable {e : Envelope} {n : Nat} (h : e.role < n) : readable e n = false := decide_eq_false (by omega)

/-- Step 2 of R117 for the readouts (R367). -/
theorem notPermitted_readout {e : Envelope}
    (h : (e.code = 0x4002 ∧ e.role < 1) ∨ (e.code = 0x4003 ∧ e.role < 1) ∨
      (e.code = 0x4004 ∧ e.role < (if (e.params.getD 0 0).toNat = 1 then 1 else 2)) ∨ (e.code = 0x4005 ∧ e.role < 1)) :
    s.notPermitted e = true := by
  unfold notPermitted
  rcases h with ⟨hc, hr⟩ | ⟨hc, hr⟩ | ⟨hc, hr⟩ | ⟨hc, hr⟩
  all_goals
    rw [hc]
    simp only [not_readable hr, Bool.not_false, Bool.or_true]

/-! ## xDLMS requests -/

theorem apduTurned_passed (a : Apdu) (e : Envelope) :
    apduTurned a (s.passed k) e = (changes a && (s.standing || s.hold || s.lifeState == 4)) := by
  have hgate := gateOnly_passed s k
  unfold apduTurned standing role hold
  rw [hgate.rd, hgate.on, hgate.lifeState]

theorem status_meterTurned (s : State) : s.meterTurned.status = 3 := by
  unfold meterTurned
  split
  · rfl
  split
  · rfl
  split
  · rfl
  · rfl

theorem Admitted.meterRun_turned (h : Admitted s k code mine bad) (hk : knownCodes.contains code = true)
    (ht : turned (s.passed k) (s.envelope k) = true) : Refused k 3 s (s.meterRun k code bad turned ask) := by
  have hst := status_meterTurned (s.passed k)
  rw [h.meterRun_eq hk, mailStep_turned ht]
  exact hst ▸ h.respond_refused (by rw [hst]; decide)

/-! ## Profile entries -/

theorem profileAsk_restoring {e : Envelope} (h : s.meter.restoring = true) : s.profileAsk e = ((6, []), s) := if_pos h

theorem profileAsk_whole {e : Envelope} (h : s.meter.restoring = false) : s.profileAsk e =
    ((0, s.profilePage ((e.params.getD 0 0).toNat == 1) (e.params.getD 1 0).toNat (e.params.getD 2 0).toNat), s) :=
  if_neg (by rw [h]; exact Bool.false_ne_true)

theorem Admitted.profile_restoring (h : Admitted s k 0x4003 mine bad) (hf : MailboxFree s) (hr : s.meter.restoring = true) :
    Refused k 6 s (s.meterRun k 0x4003 bad (fun _ _ => false) profileAsk) := by
  have ha := profileAsk_restoring (s := s.passed k) (e := s.envelope k) (by rw [(gateOnly_passed s k).meter, hr])
  rw [h.meterRun_eq (by decide), mailStep_free (turned := fun _ _ => false) rfl hf.passed, ha]
  exact h.respond_refused (v := refusedWith 6) (show 6 ≠ 0 by decide)

/-! ## METER_REPLY -/

/-- The reply's words put in MBR and published there, the request slot freed. -/
def replied (s : State) (l : List Word) : State :=
  let s := { s with gate := { s.gate with meterSlot := none, meterReply := [] } }
  (((s.claimSlot 9).putPayload 9 l).publish 9 0 l.length).takeSlot 8

theorem meterAnswer_eq (h : s.gate.meterSlot = some k) : s.meterAnswer =
    (s.replied (s.gate.meterReply.take 4095)).respond ((s.replied (s.gate.meterReply.take 4095)).envelope k)
      (okWith [BitVec.ofNat 32 (hSeq ((s.replied (s.gate.meterReply.take 4095)).header 9)),
        BitVec.ofNat 32 (s.gate.meterReply.take 4095).length]) := by
  unfold meterAnswer
  rw [h]
  rfl

/-- What the mailbox holds after the reply. -/
structure Replied (s t : State) (l : List Word) : Prop where
  idle : t.gate.meterSlot = none
  reply : t.header 9 = mkHeader 1 ((hSeq (s.header 9) + 1) % 65536) l.length
  words : (List.range l.length).map (t.slotWord 9) = l
  request : t.own 8 = 3
  low : ∀ a, a < 0x30003000 → t.byte a = s.byte a

/-- MBR claimed and filled. -/
structure Filled (s t : State) (l : List Word) : Prop where
  header : t.header 9 = mkHeader 2 (hSeq (s.header 9)) (hLen (s.header 9))
  words : (List.range l.length).map (fun j => t.mword (0x30004004 + 4 * j)) = l
  below : ∀ a, a < 0x30004000 → t.byte a = s.byte a
  gate : t.gate = s.gate

theorem filled_mbr (h : s.own 9 = 3) (l : List Word) : Filled s ((s.claimSlot 9).putPayload 9 l) l := by
  have hr : winKey (slotBase 9) = 0x30004000 := winKey_mbr (o := 0) (by decide)
  have hr4 : winKey (slotBase 9 + 4) = 0x30004004 := winKey_mbr (by decide)
  have hclaim : s.claimSlot 9 = s.setHeader 9 (mkHeader 2 (hSeq (s.header 9)) (hLen (s.header 9))) := if_pos h
  obtain ⟨m, u, hput⟩ : MemOnly s ((s.setHeader 9 (mkHeader 2 (hSeq (s.header 9)) (hLen (s.header 9)))).putPayload 9 l) :=
    (MemOnly.refl.setBytes _ _).setMwords _ _
  rw [hclaim]
  refine ⟨(mword_congr (fun i _ => byte_putPayload_low _ _ (by omega))).trans (header_setHeader ..), ?_, fun a ha => ?_, by rw [hput]⟩
  · have hw := mwords_setMwords l (s.setHeader 9 (mkHeader 2 (hSeq (s.header 9)) (hLen (s.header 9)))) (winKey (slotBase 9 + 4))
    rw [hr4] at hw
    exact hw
  · exact (byte_putPayload_low _ _ (by omega)).trans (byte_setMword_out _ _ _ _ (.inl (by omega)))

theorem publish_mbr (h : s.own 9 = 2) (len : Nat) : s.publish 9 0 len =
    (s.setHeader 9 (mkHeader 1 ((hSeq (s.header 9) + 1) % 65536) len)).wr 0 F.SMW_EVT_MBR_READY 1 := by
  unfold publish
  rw [if_neg (fun hn => hn h)]
  rfl

theorem replied_effect (h9 : s.own 9 = 3) (h8 : s.own 8 = 2) {l : List Word} (hl : l.length ≤ 4095) : Replied s (s.replied l) l := by
  have hq : winKey (slotBase 8) = 0x30003000 := winKey_mbq (o := 0) (by decide)
  have hr : winKey (slotBase 9) = 0x30004000 := winKey_mbr (o := 0) (by decide)
  generalize hu : ({ s with gate := { s.gate with meterSlot := none, meterReply := [] } } : State) = u
  have hmem : u.mem = s.mem := by rw [← hu]
  have hfill := filled_mbr ((own_of_mem hmem 9).trans h9) l
  generalize hf : (u.claimSlot 9).putPayload 9 l = f at hfill
  have hown : f.own 9 = 2 := by
    unfold own
    rw [hfill.header, hOwn_mkHeader]
  have hpub := publish_mbr hown l.length
  generalize hp : f.publish 9 0 l.length = p at hpub
  have hpmem : p.mem = (f.setHeader 9 (mkHeader 1 ((hSeq (f.header 9) + 1) % 65536) l.length)).mem := by rw [hpub, wr_mem]
  have hpbelow (a : Nat) (ha : a < 0x30004000) : p.byte a = s.byte a :=
    (byte_of_mem hpmem a).trans ((byte_setMword_out _ _ _ _ (.inl (by omega))).trans ((hfill.below a ha).trans (byte_of_mem hmem a)))
  have hp8 : p.own 8 = 2 := (congrArg hOwn (mword_congr (fun i hi => hpbelow _ (by omega)))).trans h8
  have htake : s.replied l = p.setHeader 8 (mkHeader 3 (hSeq (p.header 8)) 0) := by
    rw [← hp, ← hf, ← hu] at hp8 ⊢
    exact if_pos hp8
  have habove (a : Nat) (ha : 0x30004000 ≤ a) : (s.replied l).byte a = p.byte a := by
    rw [htake]
    exact byte_setMword_out _ _ _ _ (.inr (by omega))
  refine ⟨?_, ?_, ?_, ?_, fun a ha => ?_⟩
  · obtain ⟨m, v, hv⟩ : MemOnly p (p.setHeader 8 (mkHeader 3 (hSeq (p.header 8)) 0)) := MemOnly.refl.setBytes _ _
    obtain ⟨m', v', hv'⟩ : MemOnly f (f.setHeader 9 (mkHeader 1 ((hSeq (f.header 9) + 1) % 65536) l.length)) := MemOnly.refl.setBytes _ _
    rw [htake, hv, hpub, wr_gate, hv', hfill.gate, ← hu]
  · refine (mword_congr (fun i _ => habove _ (by omega))).trans ((mword_of_mem hpmem _).trans ((header_setHeader ..).trans ?_))
    rw [hfill.header, hSeq_mkHeader, header_of_mem hmem, Nat.mod_add_mod]
  · refine Eq.trans (List.map_congr_left (fun j hj => ?_)) hfill.words
    have hj := List.mem_range.mp hj
    unfold slotWord
    rw [Nat.add_assoc, winKey_mbr (by omega), ← Nat.add_assoc]
    refine (mword_congr (fun i _ => habove _ (by omega))).trans ((mword_of_mem hpmem _).trans (mword_setMword_apart _ _ _ _ (.inr ?_)))
    omega
  · unfold own
    rw [htake, header_setHeader, hOwn_mkHeader]
  · rw [htake]
    exact (byte_setMword_out _ _ _ _ (.inl (by omega))).trans (hpbelow a (by omega))

/-- What METER_REPLY leaves. -/
structure MeterAnswered (s t : State) (k : Fin 8) : Prop where
  idle : t.gate.meterSlot = none
  published : t.own 9 = 1
  seq : hSeq (t.header 9) = (hSeq (s.header 9) + 1) % 65536
  freed : t.own 8 = 3
  answered : t.own k = 1
  words : ∀ j, j < s.gate.meterReply.length → j < 4095 → t.slotWord 9 j = s.gate.meterReply.getD j 0
  status : t.slotWord k 0 = BitVec.ofNat 32 (s.envelope k).code

theorem slotWord_of_words {i : Nat} {l : List Word} (h : (List.range l.length).map (s.slotWord i) = l) {j : Nat} (hj : j < l.length) :
    s.slotWord i j = l.getD j 0 := by
  have hget := congrArg (fun m => m[j]?) h
  simp only [List.getElem?_map, List.getElem?_range hj, Option.map_some] at hget
  rw [List.getD_eq_getElem?_getD, ← hget, Option.getD_some]

theorem meterAnswer_effect (h : s.gate.meterSlot = some k) (h9 : s.own 9 = 3) (h8 : s.own 8 = 2) (hk : s.own k = 2) :
    MeterAnswered s s.meterAnswer k := by
  have hkey := winKey_cmd_below k
  have hq : winKey (slotBase 8) = 0x30003000 := winKey_mbq (o := 0) (by decide)
  have hr : winKey (slotBase 9) = 0x30004000 := winKey_mbr (o := 0) (by decide)
  have hrep := replied_effect h9 h8 (l := s.gate.meterReply.take 4095) (by rw [List.length_take]; omega)
  have hown : (s.replied (s.gate.meterReply.take 4095)).own k = 2 := (congrArg hOwn (header_of_low hrep.low k)).trans hk
  have hcode : ((s.replied (s.gate.meterReply.take 4095)).envelope k).code = (s.envelope k).code :=
    congrArg (fun w : Word => bitsOf w.toNat 0 16) (mword_congr (fun i hi => hrep.low _ (by rw [Nat.add_assoc, winKey_cmd k (by decide)]; omega)))
  have ha := respond_answered (e := (s.replied (s.gate.meterReply.take 4095)).envelope k)
    (okWith [BitVec.ofNat 32 (hSeq ((s.replied (s.gate.meterReply.take 4095)).header 9)),
      BitVec.ofNat 32 (s.gate.meterReply.take 4095).length]) hown
  rw [← meterAnswer_eq h] at ha
  have hhigh (a : Nat) (hb : 0x30003000 ≤ a) : s.meterAnswer.byte a = (s.replied (s.gate.meterReply.take 4095)).byte a :=
    ha.bytes a (.inr (show winKey (slotBase k) + 4 + 4 * 6 ≤ a by omega))
  have hword9 : s.meterAnswer.header 9 = mkHeader 1 ((hSeq (s.header 9) + 1) % 65536) (s.gate.meterReply.take 4095).length :=
    (mword_congr (fun i _ => hhigh _ (by omega))).trans hrep.reply
  refine ⟨ha.gate.meterSlot.trans hrep.idle, ?_, ?_, ?_, ?_, fun j hj hj' => ?_, ?_⟩
  · unfold own
    rw [hword9, hOwn_mkHeader]
  · rw [hword9, hSeq_mkHeader, Nat.mod_mod]
  · exact (congrArg hOwn (mword_congr (fun i _ => hhigh _ (by omega)))).trans hrep.request
  · exact (congrArg hOwn ha.header).trans (hOwn_mkHeader ..)
  · have hlen : j < (s.gate.meterReply.take 4095).length := by
      rw [List.length_take]
      omega
    have hmr : s.meterAnswer.slotWord 9 j = (s.replied (s.gate.meterReply.take 4095)).slotWord 9 j :=
      mword_congr (fun i _ => hhigh _ (by rw [Nat.add_assoc (slotBase 9), winKey_mbr (by omega)]; omega))
    rw [hmr, slotWord_of_words hrep.words hlen, List.getD_eq_getElem?_getD, List.getD_eq_getElem?_getD, List.getElem?_take_of_lt hj']
  · have hst := ha.status
    rw [hcode] at hst
    exact hst

/-! ## LOCKOUT_END -/

theorem lockEnd_eq {r : Role} (h : r ≠ .pub) : s.lockEnd r = s.clrBit 0 F.SMW_LOCKOUT_LOCKED (roleIdx (roleCode r)) := by
  cases r with
  | pub => exact absurd rfl h
  | reader | billing | site | service | vendor => rfl

theorem lockEnd_effect {r : Role} (h : r ≠ .pub) : (s.lockEnd r).bit 0 F.SMW_LOCKOUT_LOCKED (roleIdx (roleCode r)) = false ∧
    WritesOnly [fldAddr 0 F.SMW_LOCKOUT_LOCKED 0 0] s (s.lockEnd r) := by
  rw [lockEnd_eq h]
  refine ⟨?_, writesOnly_clrBit (List.mem_singleton_self _) writesOnly_refl⟩
  rw [bit_clrBit (by decide) (roleIdx (roleCode r)).isLt, decide_eq_false (fun hn => hn rfl), Bool.and_false]

end State

open State

/-- Settles O29: a request past the checks is answered at once or put in the mailbox, and METER_REPLY writes MBR, the header of MBQ and the
command slot, which lie apart. -/
theorem meterMailbox : Obligations.MeterMailbox := by
  unfold Obligations.MeterMailbox
  intro s k
  refine ⟨?_, ?_, ?_, ?_, fun hm h9 h8 hk => ⟨_, rfl, ?_⟩, fun hm => ⟨_, rfl, ?_⟩, fun r hr => ⟨_, rfl, lockEnd_effect hr⟩⟩
  · simp only [List.mem_cons, List.not_mem_nil, or_false]
    rintro e (rfl | rfl | rfl) h
    · have had := admitted_of_admits (code := 0x4002) h
      refine ⟨fun h8 h9 hm => ⟨_, rfl, had.readout (by decide) ?_ ⟨h8, h9, hm⟩⟩, fun hb => ⟨_, rfl, had.meterRun_busy (by decide) rfl hb⟩⟩
      unfold recordsAsk recordsPage
      rw [(gateOnly_passed s k).meter]
    · have had := admitted_of_admits (code := 0x4004) h
      refine ⟨fun h8 h9 hm => ⟨_, rfl, had.readout (by decide) ?_ ⟨h8, h9, hm⟩⟩, fun hb => ⟨_, rfl, had.meterRun_busy (by decide) rfl hb⟩⟩
      unfold meterLogAsk meterLogPage
      rw [(gateOnly_passed s k).meter]
    · have had := admitted_of_admits (code := 0x4005) h
      exact ⟨fun h8 h9 hm => ⟨_, rfl, had.readout (by decide) rfl ⟨h8, h9, hm⟩⟩, fun hb => ⟨_, rfl, had.meterRun_busy (by decide) rfl hb⟩⟩
  · simp only [List.mem_cons, List.not_mem_nil, or_false]
    rintro e (rfl | rfl | rfl | rfl) hw hc hr
    · exact ⟨_, rfl, meterRun_notPermitted hw hc (by decide) (notPermitted_readout (.inl ⟨hc, hr⟩))⟩
    · exact ⟨_, rfl, meterRun_notPermitted hw hc (by decide) (notPermitted_readout (.inr (.inl ⟨hc, hr⟩)))⟩
    · exact ⟨_, rfl, meterRun_notPermitted hw hc (by decide) (notPermitted_readout (.inr (.inr (.inl ⟨hc, hr⟩))))⟩
    · exact ⟨_, rfl, meterRun_notPermitted hw hc (by decide) (notPermitted_readout (.inr (.inr (.inr ⟨hc, hr⟩))))⟩
  · intro h h8 h9 hm
    have had := admitted_of_admits h
    refine ⟨fun hr => ⟨_, rfl, ?_⟩, fun hr => ⟨_, rfl, had.profile_restoring ⟨h8, h9, hm⟩ hr⟩⟩
    have hask := profileAsk_whole (s := s.passed k) (e := s.envelope k) (by rw [(gateOnly_passed s k).meter, hr])
    obtain ⟨hslot, -, hown, -, hcmd, hmeter⟩ := had.readout (by decide) hask ⟨h8, h9, hm⟩
    exact ⟨hslot, hown, hcmd, hmeter⟩
  · intro a h
    have had := admitted_of_admits h
    refine ⟨fun hno => ⟨fun h8 h9 hm => ⟨_, rfl, ?_⟩, fun hb => ⟨_, rfl, ?_⟩⟩, fun hyes => ⟨_, rfl, ?_⟩⟩
    · have hh := had.meterRun_free (by decide) ((apduTurned_passed a _).trans hno) ⟨h8, h9, hm⟩ (ask := apduAsk a) rfl
      exact ⟨hh.slot, hh.own, hh.seq⟩
    · exact had.meterRun_busy (by decide) ((apduTurned_passed a _).trans hno) hb
    · exact had.meterRun_turned (by decide) ((apduTurned_passed a _).trans hyes)
  · have ha := meterAnswer_effect hm h9 h8 hk
    exact ⟨ha.idle, ha.published, ha.seq, ha.freed, ha.answered, ha.words, ha.status⟩
  · unfold meterAnswer
    rw [hm]

end Sys2Proof.Machine

/-! # Fields that a port's operations leave

`Spares l` says of an operation that the per-port fields of a list read as before on every port; a write leaves the fields that lie
apart from its own. -/

namespace Sys2Proof.Machine

namespace State

variable {s x y z : State} {d : Fin 8} {k : Fin 4}

/-! ## Keeps -/

theorem keeps_refl : Keeps s s := ⟨rfl, rfl, rfl⟩

theorem keeps_trans (h : Keeps s x) (g : Keeps x y) : Keeps s y :=
  ⟨g.1.trans h.1, g.2.1.trans h.2.1, g.2.2.trans h.2.2⟩

theorem keeps_of_calm (h : Calm s x) : Keeps s x := ⟨h.1, h.2.1, h.2.2.1⟩

theorem keeps_of_regsOnly (h : RegsOnly s x) : Keeps s x := by
  obtain ⟨g, rfl⟩ := h
  exact ⟨rfl, rfl, rfl⟩

theorem keeps_of_booked (h : Booked s x) : Keeps s x := by
  obtain ⟨⟨m, w, g, rfl⟩, -⟩ := h
  exact ⟨rfl, rfl, rfl⟩

theorem keeps_ite {c : Prop} [Decidable c] {t u : State} (ht : Keeps s t) (hu : Keeps s u) : Keeps s (if c then t else u) := by
  split
  · exact ht
  · exact hu

/-! ## Fields apart -/

/-- On every port, two fields of a die lie in different registers or in different bits. -/
def fieldsApart (f g : Fld) : Bool :=
  decide (f.off + 4 * f.s1 < 0x1000000) && decide (g.off + 4 * g.s1 < 0x1000000) &&
    (decide (f.lo + f.w ≤ g.lo) || decide (g.lo + g.w ≤ f.lo) ||
      (List.range 4).all (fun i => (List.range 4).all (fun k => f.off + k * f.s1 != g.off + i * g.s1)))

theorem apart_of_fieldsApart {f g : Fld} (h : fieldsApart f g = true) (d e : Nat) {k i : Nat} (hk : k < 4) (hi : i < 4) :
    Apart d f k 0 e g i 0 := by
  simp only [fieldsApart, Bool.and_eq_true, Bool.or_eq_true, decide_eq_true_eq, List.all_eq_true, List.mem_range, bne_iff_ne] at h
  obtain ⟨⟨hf, hg⟩, (hlo | hhi) | hoff⟩ := h
  · exact .inr (.inl hlo)
  · exact .inr (.inr hhi)
  · have hkf : k * f.s1 ≤ 4 * f.s1 := Nat.mul_le_mul_right _ (by omega)
    have hig : i * g.s1 ≤ 4 * g.s1 := Nat.mul_le_mul_right _ (by omega)
    have hne := hoff i hi k hk
    refine .inl ?_
    unfold fldAddr regAddr
    omega

/-- The listed fields of every port read as before. -/
def Spares (l : List Fld) (s t : State) : Prop := ∀ g ∈ l, ∀ (e : Fin 8) (i : Fin 4), t.rd e g i = s.rd e g i

variable {l : List Fld}

theorem Spares.refl : Spares l s s := fun _ _ _ _ => rfl

theorem Spares.trans (h : Spares l s x) (g : Spares l x y) : Spares l s y := fun f hf e i => (g f hf e i).trans (h f hf e i)

theorem Spares.wr (h : Spares l s x) {f : Fld} {v k : Nat} (hf : l.all (fieldsApart f) = true := by decide) (hk : k < 4 := by omega) :
    Spares l s (x.wr d f v k) := fun g hg e i =>
  (rd_wr_apart _ _ _ _ _ _ _ _ _ _ (apart_of_fieldsApart (List.all_eq_true.mp hf g hg) d e hk i.isLt)).trans (h g hg e i)

theorem Spares.same (h : Spares l s x) {t : State} (ht : t.regs = x.regs) : Spares l s t :=
  fun g hg e i => (rd_of_regs ht ..).trans (h g hg e i)

theorem Spares.ite {c : Prop} [Decidable c] {t u : State} (ht : Spares l s t) (hu : Spares l s u) : Spares l s (if c then t else u) := by
  split
  · exact ht
  · exact hu

/-- Words of other zones change. -/
theorem Spares.confined {Z : List Nat} (h : Spares l s x) (hc : Confined Z x y) (hz : ∀ g ∈ l, fits Z g = false ∧ g.off < 0x1000000 ∧
    g.off % 0x10000 + 15 * g.s1 < 0x10000) : Spares l s y := by
  intro g hg e i
  obtain ⟨hfit, ho, hs⟩ := hz g hg
  refine (hc.rd e g i 0 (fun hm => ?_)).trans (h g hg e i)
  rw [zone_die e.isLt (by omega) ho hs] at hm
  unfold fits at hfit
  rw [List.contains_iff_mem.mpr hm, decide_eq_true ho, decide_eq_true hs] at hfit
  cases hfit

/-! ## Operations of a port's output path -/

/-- Fields that an urgent frame may write. -/
def urgentFields : List Fld := [F.STL_P_STAT_TX_SEQ, F.STL_P_CNT_URGENT, F.STL_P_CNT_URG_REPL]

/-- Fields that a start of the override writes. -/
def overrideFields : List Fld :=
  [F.OXE_PORT_OVR_ACTIVE, F.OXE_PORT_OVR_MODE, F.OXE_PORT_OVR_RAMP_MS, F.OXE_PORT_OVR_AT_ZERO] ++ urgentFields

/-- Fields that a cause writes. -/
def causeFields : List Fld := [F.STL_PSAFE_FAULT_ACT, F.STL_PSAFE_CAUSE]

/-- Fields that a stop's mark writes. -/
def stopFields : List Fld := [F.SAF_P_STAT_STOP, F.SAF_EVT_STOP]

/-- Each listed field lies apart from every field of `w`. -/
def clearOf (l w : List Fld) : Bool := w.all (fun f => l.all (fieldsApart f))

theorem Spares.field (h : Spares l s x) {w : List Fld} (hc : clearOf l w = true) {f : Fld} (hf : f ∈ w) (v : Nat) {k : Nat} (hk : k < 4) :
    Spares l s (x.wr d f v k) := h.wr (List.all_eq_true.mp hc f hf) hk

theorem Spares.wrapCnt (h : Spares l s x) {w : List Fld} (hc : clearOf l w = true) {f : Fld} (hf : f ∈ w) (k : Fin 4) :
    Spares l s (x.wrapCnt d f k) := h.field hc hf _ k.isLt

theorem Spares.satCnt (h : Spares l s x) {w : List Fld} (hc : clearOf l w = true) {f : Fld} (hf : f ∈ w) (k : Fin 4) :
    Spares l s (x.satCnt d f k) := h.field hc hf _ k.isLt

theorem Spares.setBit (h : Spares l s x) {w : List Fld} (hc : clearOf l w = true) {f : Fld} (hf : f ∈ w) (j : Nat) :
    Spares l s (x.setBit d f j) := h.field hc hf _ (by decide)

theorem Spares.updStl (h : Spares l s x) (f : StlPort → StlPort) : Spares l s (x.updStl d k f) := h

theorem Spares.updOvr (h : Spares l s x) (f : OvrState → OvrState) : Spares l s (x.updOvr d k f) := h

theorem Spares.updSaf (h : Spares l s x) (f : SafPort → SafPort) : Spares l s (x.updSaf d k f) := h

theorem Spares.info (h : Spares l s x) (code block index : Nat) (data : List Nat) : Spares l s (x.info d code block index data) := h

theorem clearOf_append {w u : List Fld} : clearOf l (w ++ u) = (clearOf l w && clearOf l u) := List.all_append

theorem Spares.sendUrgent (h : Spares l s x) (hc : clearOf l urgentFields = true) (v : Word) (ovr : Bool) :
    Spares l s (x.sendUrgent d k v ovr) := by
  have h1 : Spares l s (x.wr d F.STL_P_STAT_TX_SEQ ((x.rd d F.STL_P_STAT_TX_SEQ k + 1) % 65536) k) := h.field hc (by decide) _ k.isLt
  exact (h1.wrapCnt (f := F.STL_P_CNT_URGENT) hc (by decide) k).updStl _

theorem Spares.urgentNext (h : Spares l s x) (hc : clearOf l urgentFields = true) : Spares l s (x.urgentNext d k) := by
  unfold State.urgentNext
  dsimp only
  refine .ite h ?_
  split
  · exact h.updStl _
  · exact ((h.updStl _).sendUrgent hc _ _).updStl _

theorem Spares.queueUrgent (h : Spares l s x) (hc : clearOf l urgentFields = true) (v : Word) (ovr : Bool) :
    Spares l s (x.queueUrgent d k v ovr) := by
  have h2 : Spares l s ((x.urgentNext d k).urgentNext d k) := (h.urgentNext hc).urgentNext hc
  unfold State.queueUrgent
  dsimp only
  generalize (x.urgentNext d k).urgentNext d k = y at h2 ⊢
  have h3 : Spares l s (if (y.link d k).urgent.isSome = true then y.satCnt d F.STL_P_CNT_URG_REPL k else y) :=
    .ite (h2.satCnt hc (by decide) k) h2
  refine .ite h ?_
  split
  · exact .ite (h3.updStl _) ((h3.updStl _).sendUrgent hc _ _)
  · exact .ite ((h3.updStl _).sendUrgent hc _ _) (h3.updStl _)

/-- The override's fields of a ramp written. -/
def rampSet (s : State) (d : Fin 8) (k : Fin 4) (r : Nat) : State :=
  (((s.wr d F.OXE_PORT_OVR_ACTIVE 1 k).wr d F.OXE_PORT_OVR_MODE 1 k).wr d F.OXE_PORT_OVR_RAMP_MS (rampTaken r) k).wrB d
    F.OXE_PORT_OVR_AT_ZERO (decide (s.rd d F.OXE_PORT_OUT k = 0)) k

theorem overrideRamp_eq (s : State) (d : Fin 8) (k : Fin 4) (r : Nat) : ∃ f v, s.overrideStart d k (some r) =
    ((s.rampSet d k r).updOvr d k f).queueUrgent d k v true := ⟨_, _, rfl⟩

theorem Spares.rampSet (h : Spares l s x) (hc : clearOf l overrideFields = true) (r : Nat) : Spares l s (x.rampSet d k r) := by
  have h1 : Spares l s (x.wr d F.OXE_PORT_OVR_ACTIVE 1 k) := h.field hc (by decide) _ k.isLt
  have h2 : Spares l s ((x.wr d F.OXE_PORT_OVR_ACTIVE 1 k).wr d F.OXE_PORT_OVR_MODE 1 k) := h1.field hc (by decide) _ k.isLt
  have h3 := h2.field (d := d) hc (f := F.OXE_PORT_OVR_RAMP_MS) (by decide) (rampTaken r) k.isLt
  exact h3.field (d := d) hc (f := F.OXE_PORT_OVR_AT_ZERO) (by decide) _ k.isLt

theorem Spares.overrideRamp (h : Spares l s x) (hc : clearOf l overrideFields = true) (r : Nat) :
    Spares l s (x.overrideStart d k (some r)) := by
  have hu : clearOf l urgentFields = true := by
    rw [overrideFields, clearOf_append, Bool.and_eq_true] at hc
    exact hc.2
  obtain ⟨f, v, heq⟩ := overrideRamp_eq x d k r
  rw [heq]
  exact ((h.rampSet hc r).updOvr f).queueUrgent hu _ _

theorem Spares.causeOn (h : Spares l s x) (hc : clearOf l causeFields = true) (c : Nat) : Spares l s (x.causeOn d k c) := by
  unfold State.causeOn
  dsimp only
  have h1 (f : SafPort → SafPort) : Spares l s ((x.updSaf d k f).wr d F.STL_PSAFE_FAULT_ACT 1 k) :=
    (h.updSaf f).field hc (by decide) _ k.isLt
  exact .ite h (.ite ((h1 _).field (f := F.STL_PSAFE_CAUSE) hc (by decide) c k.isLt) (h1 _))

theorem Spares.stopMark (h : Spares l s x) (hc : clearOf l stopFields = true) (kind c : Nat) : Spares l s (x.stopMark d k kind c) := by
  have h1 : Spares l s (x.wr d F.SAF_P_STAT_STOP kind k) := h.field hc (by decide) _ k.isLt
  exact (h1.setBit (f := F.SAF_EVT_STOP) hc (by decide) _).info _ _ _ _

/-- Fields that a ramp stop writes. -/
def rampFields : List Fld := overrideFields ++ causeFields ++ stopFields

theorem clearOf_ramp (h : clearOf l rampFields = true) :
    clearOf l overrideFields = true ∧ clearOf l causeFields = true ∧ clearOf l stopFields = true := by
  rw [rampFields, clearOf_append, clearOf_append, Bool.and_eq_true, Bool.and_eq_true] at h
  exact ⟨h.1.1, h.1.2, h.2⟩

theorem Spares.rampWrite (h : Spares l s x) (hc : clearOf l overrideFields = true) (c ms : Nat) : Spares l s (x.rampWrite d k c ms) :=
  (h.overrideRamp hc _).updSaf _

theorem Spares.rampBegin (h : Spares l s x) (hc : clearOf l rampFields = true) (c ms : Nat) : Spares l s (x.rampBegin d k c ms) := by
  obtain ⟨ho, hcause, hstop⟩ := clearOf_ramp hc
  exact ((h.causeOn hcause _).rampWrite ho _ _).stopMark hstop _ _

theorem rampBegin_eq (s : State) (d : Fin 8) (k : Fin 4) (c ms : Nat) : ∃ g, s.rampBegin d k c ms =
    (((s.causeOn d k c).overrideStart d k (some ms)).updSaf d k g).stopMark d k 1 c := by
  unfold rampBegin rampWrite
  exact ⟨_, rfl⟩

theorem mode_queueUrgent (s : State) (d : Fin 8) (k : Fin 4) (v : Word) (ovr : Bool) :
    (s.queueUrgent d k v ovr).rd d F.OXE_PORT_OVR_MODE k = s.rd d F.OXE_PORT_OVR_MODE k :=
  Spares.refl.queueUrgent (l := [F.OXE_PORT_OVR_MODE]) (by decide) v ovr _ List.mem_cons_self d k

theorem mode_stopMark (s : State) (d : Fin 8) (k : Fin 4) (kind c : Nat) :
    (s.stopMark d k kind c).rd d F.OXE_PORT_OVR_MODE k = s.rd d F.OXE_PORT_OVR_MODE k :=
  Spares.refl.stopMark (l := [F.OXE_PORT_OVR_MODE]) (by decide) kind c _ List.mem_cons_self d k

theorem mode_rampSet (s : State) (d : Fin 8) (k : Fin 4) (r : Nat) : (s.rampSet d k r).rd d F.OXE_PORT_OVR_MODE k = 1 := by
  unfold rampSet wrB
  rw [rd_wr_apart _ _ _ _ _ _ _ _ _ _ (.inr (.inr (by decide))), rd_wr_apart _ _ _ _ _ _ _ _ _ _ (.inr (.inr (by decide))),
    rd_wr_same _ _ _ _ _ _ (by decide)]
  rfl

theorem mode_overrideRamp (s : State) (d : Fin 8) (k : Fin 4) (r : Nat) : (s.overrideStart d k (some r)).rd d F.OXE_PORT_OVR_MODE k = 1 := by
  obtain ⟨f, v, heq⟩ := overrideRamp_eq s d k r
  rw [heq, mode_queueUrgent, rd_of_regs (updOvr_regs ..), mode_rampSet]

/-- The override's mode after the start of a ramp. -/
theorem mode_rampBegin (s : State) (d : Fin 8) (k : Fin 4) (c ms : Nat) : (s.rampBegin d k c ms).rd d F.OXE_PORT_OVR_MODE k = 1 := by
  obtain ⟨g, hbegin⟩ := rampBegin_eq s d k c ms
  rw [hbegin, mode_stopMark, rd_of_regs (updSaf_regs ..), mode_overrideRamp]

/-! ## An applied transition -/

/-- What a port shows of its transitions. -/
def psShown : List Fld :=
  [F.STL_PSTATE_STATE, F.STL_PSTATE_PREV, F.STL_PSTATE_CHANGES, F.STL_PSTATE_CAUSE, F.STL_EVT_PSCHG]

/-- State, previous state, count and event of a transition. -/
def psHead (s : State) (d : Fin 8) (k : Fin 4) (tgt : Nat) : State :=
  (((s.wr d F.STL_PSTATE_STATE tgt k).wr d F.STL_PSTATE_PREV (s.psState d k) k).wrapCnt d F.STL_PSTATE_CHANGES k).setBit d F.STL_EVT_PSCHG k

/-- The cause that a port enters FAULT with. -/
def psCause (s : State) (d : Fin 8) (k : Fin 4) (tgt : Nat) : State :=
  if tgt = 9 then s.wr d F.STL_PSTATE_CAUSE (s.rd d F.STL_PSAFE_CAUSE k) k else s

/-- The rest of a transition from `st`. -/
def psRest (s : State) (d : Fin 8) (k : Fin 4) (st tgt : Nat) : State :=
  let s := if st = 9 then s.wr d F.STL_PSAFE_CAUSE 0 k else s
  let s := if tgt = 0 then s.wr d F.PLC_M_STAT_MATCHED 0 k else s
  let s := s.updOvr d k (fun o => { o with direct := decide (st = 0 ∧ tgt = 5), written := false })
  let s := if tgt = 0 ∨ tgt = 8 then (s.setInh (portOf d k) Inh.safe false).wr d F.SAF_P_STAT_STOP 0 k else s
  if st = 0 ∧ tgt ≠ 0 then
    let cfg := (s.saf.get d).stored.map (fun c => c.ports.get k)
    s.updSaf d k (fun p => { p with cfg := cfg })
  else s

theorem psApply_eq (s : State) (d : Fin 8) (k : Fin 4) (tgt : Nat) :
    s.psApply d k tgt = ((s.psHead d k tgt).psCause d k tgt).psRest d k (s.psState d k) tgt := rfl

/-- Fields that the rest of a transition writes. -/
def restFields : List Fld := [F.STL_PSAFE_CAUSE, F.PLC_M_STAT_MATCHED, F.SAF_P_STAT_STOP]

theorem Spares.psRest (h : Spares l s x) (hc : clearOf l restFields = true) (st tgt : Nat) : Spares l s (x.psRest d k st tgt) := by
  have clear {y : State} (hy : Spares l s y) : Spares l s (if st = 9 then y.wr d F.STL_PSAFE_CAUSE 0 k else y) :=
    .ite (hy.field hc (by decide) _ k.isLt) hy
  have unmatch {y : State} (hy : Spares l s y) : Spares l s (if tgt = 0 then y.wr d F.PLC_M_STAT_MATCHED 0 k else y) :=
    .ite (hy.field hc (by decide) _ k.isLt) hy
  have stop {y : State} (hy : Spares l s y) : Spares l s (if tgt = 0 ∨ tgt = 8 then
      (y.setInh (portOf d k) Inh.safe false).wr d F.SAF_P_STAT_STOP 0 k else y) :=
    .ite ((hy.same (t := y.setInh (portOf d k) Inh.safe false) rfl).field hc (by decide) _ k.isLt) hy
  have row (f : OvrState → OvrState) := stop ((unmatch (clear h)).updOvr (d := d) (k := k) f)
  unfold State.psRest
  dsimp only
  exact .ite ((row _).updSaf _) (row _)

/-- A transition of port `k` of die `d` to `tgt`, as the registers show it. -/
structure Applied (s t : State) (d : Fin 8) (k : Fin 4) (tgt : Nat) : Prop where
  state : t.psState d k = tgt
  prev : t.rd d F.STL_PSTATE_PREV k = s.psState d k
  changes : t.rd d F.STL_PSTATE_CHANGES k = (s.rd d F.STL_PSTATE_CHANGES k + 1) % 2 ^ F.STL_PSTATE_CHANGES.w
  event : t.bit d F.STL_EVT_PSCHG k = true
  cause : tgt = 9 → t.rd d F.STL_PSTATE_CAUSE k = s.rd d F.STL_PSAFE_CAUSE k
  others : ∀ (e : Fin 8) (i : Fin 4), e ≠ d ∨ i ≠ k → t.psState e i = s.psState e i

theorem Applied.spares {tgt : Nat} (h : Applied s x d k tgt) (hs : Spares psShown x y) : Applied s y d k tgt :=
  ⟨(hs F.STL_PSTATE_STATE (by decide) d k).trans h.state, (hs F.STL_PSTATE_PREV (by decide) d k).trans h.prev,
    (hs F.STL_PSTATE_CHANGES (by decide) d k).trans h.changes,
    (congrArg (bitOf · k) (hs F.STL_EVT_PSCHG (by decide) d 0)).trans h.event,
    fun ht => (hs F.STL_PSTATE_CAUSE (by decide) d k).trans (h.cause ht),
    fun e i hne => (hs F.STL_PSTATE_STATE (by decide) e i).trans (h.others e i hne)⟩

end State

end Sys2Proof.Machine

/-! # Port state requests (R248, R250 to R253, R401) -/

namespace Sys2Proof.Machine

namespace State

variable {s x y z : State} {d : Fin 8} {k : Fin 4} {tgt : Nat}

/-! ## A transition -/

theorem psState_lt (s : State) (d : Fin 8) (k : Fin 4) : s.psState d k < 16 := rd_lt s d F.STL_PSTATE_STATE k 0 (by decide)

/-- Fields that a transition writes first. -/
def headFields : List Fld := [F.STL_PSTATE_STATE, F.STL_PSTATE_PREV, F.STL_PSTATE_CHANGES, F.STL_EVT_PSCHG]

theorem spares_psHead {l : List Fld} (hc : clearOf l headFields = true) : Spares l s (s.psHead d k tgt) := by
  have h1 : Spares l s (s.wr d F.STL_PSTATE_STATE tgt k) := Spares.refl.field hc (by decide) _ k.isLt
  have h2 := h1.field (d := d) (f := F.STL_PSTATE_PREV) hc (by decide) (s.psState d k) k.isLt
  exact (h2.wrapCnt (f := F.STL_PSTATE_CHANGES) hc (by decide) k).setBit (f := F.STL_EVT_PSCHG) hc (by decide) _

/-- The word of a port's state. -/
def psStored : List Fld := [F.STL_PSTATE_STATE, F.STL_PSTATE_PREV, F.STL_PSTATE_CHANGES]

theorem rd_psHead (s : State) (d : Fin 8) (k : Fin 4) (tgt : Nat) :
    (s.psHead d k tgt).rd d F.STL_PSTATE_STATE k = tgt % 16 ∧ (s.psHead d k tgt).rd d F.STL_PSTATE_PREV k = s.psState d k ∧
      (s.psHead d k tgt).rd d F.STL_PSTATE_CHANGES k = (s.rd d F.STL_PSTATE_CHANGES k + 1) % 2 ^ F.STL_PSTATE_CHANGES.w := by
  have h1 := rd_wr_same s d F.STL_PSTATE_STATE tgt k 0 (by decide)
  have hchg1 : Spares [F.STL_PSTATE_CHANGES] s (s.wr d F.STL_PSTATE_STATE tgt k) := Spares.refl.wr (by decide) k.isLt
  generalize ha : s.wr d F.STL_PSTATE_STATE tgt k = a at h1 hchg1
  have h2 := rd_wr_same a d F.STL_PSTATE_PREV (s.psState d k) k 0 (by decide)
  have hst2 : Spares [F.STL_PSTATE_STATE] a (a.wr d F.STL_PSTATE_PREV (s.psState d k) k) := Spares.refl.wr (by decide) k.isLt
  have hchg2 : Spares [F.STL_PSTATE_CHANGES] s (a.wr d F.STL_PSTATE_PREV (s.psState d k) k) := hchg1.wr (by decide) k.isLt
  generalize hb : a.wr d F.STL_PSTATE_PREV (s.psState d k) k = b at h2 hst2 hchg2
  have h3 := rd_wr_same b d F.STL_PSTATE_CHANGES ((b.rd d F.STL_PSTATE_CHANGES k + 1) % 2 ^ F.STL_PSTATE_CHANGES.w) k 0 (by decide)
  have hpast3 : Spares [F.STL_PSTATE_STATE, F.STL_PSTATE_PREV] b (b.wrapCnt d F.STL_PSTATE_CHANGES k) := Spares.refl.wr (by decide) k.isLt
  have hlast (u : State) : Spares psStored u (u.setBit d F.STL_EVT_PSCHG k) := Spares.refl.wr (by decide)
  have hhead : s.psHead d k tgt = (b.wrapCnt d F.STL_PSTATE_CHANGES k).setBit d F.STL_EVT_PSCHG k := by
    rw [← hb, ← ha]
    rfl
  rw [hhead]
  refine ⟨?_, ?_, ?_⟩
  · rw [hlast _ _ (by decide), hpast3 _ (by decide), hst2 _ (by decide), h1]
    rfl
  · rw [hlast _ _ (by decide), hpast3 _ (by decide), h2]
    exact Nat.mod_eq_of_lt (psState_lt s d k)
  · rw [hlast _ _ (by decide)]
    refine h3.trans ?_
    rw [Nat.mod_mod, hchg2 _ (by decide)]

theorem fldAddr_psState_ne {e : Fin 8} {i : Fin 4} (h : e ≠ d ∨ i ≠ k) : fldAddr e F.STL_PSTATE_STATE i 0 ≠ fldAddr d F.STL_PSTATE_STATE k 0 := by
  have hne : e.val ≠ d.val ∨ i.val ≠ k.val := h.imp (fun h he => h (Fin.ext he)) (fun h he => h (Fin.ext he))
  simp only [fldAddr, regAddr, F.STL_PSTATE_STATE]
  omega

theorem psState_psHead_other {e : Fin 8} {i : Fin 4} (h : e ≠ d ∨ i ≠ k) : (s.psHead d k tgt).psState e i = s.psState e i := by
  have h1 : Spares [F.STL_PSTATE_STATE] (s.wr d F.STL_PSTATE_STATE tgt k)
      ((s.wr d F.STL_PSTATE_STATE tgt k).wr d F.STL_PSTATE_PREV (s.psState d k) k) := Spares.refl.wr (by decide) k.isLt
  have h2 := (h1.wrapCnt (d := d) (w := [F.STL_PSTATE_CHANGES]) (f := F.STL_PSTATE_CHANGES) (by decide) (by decide) k).setBit (d := d)
    (w := [F.STL_EVT_PSCHG]) (f := F.STL_EVT_PSCHG) (by decide) (by decide) k
  exact (h2 _ List.mem_cons_self e i).trans (rd_wr_apart _ _ _ _ _ _ _ _ _ _ (.inl (fldAddr_psState_ne h)))

theorem psHead_applied (s : State) (d : Fin 8) (k : Fin 4) (htgt : tgt < 16) :
    Applied s ((s.psHead d k tgt).psCause d k tgt) d k tgt := by
  have hcause : Spares [F.STL_PSTATE_STATE, F.STL_PSTATE_PREV, F.STL_PSTATE_CHANGES, F.STL_EVT_PSCHG] (s.psHead d k tgt)
      ((s.psHead d k tgt).psCause d k tgt) := .ite (Spares.refl.wr (by decide) k.isLt) .refl
  obtain ⟨hst, hprev, hchg⟩ := rd_psHead s d k tgt
  refine ⟨(hcause _ (by decide) d k).trans (hst.trans (Nat.mod_eq_of_lt htgt)), (hcause _ (by decide) d k).trans hprev,
    (hcause _ (by decide) d k).trans hchg, (congrArg (bitOf · k) (hcause F.STL_EVT_PSCHG (by decide) d 0)).trans
      (bit_setBit (by decide) k.isLt), fun h9 => ?_, fun e i hne => (hcause _ (by decide) e i).trans (psState_psHead_other hne)⟩
  unfold psCause
  rw [if_pos h9, rd_wr_same _ _ _ _ _ _ (by decide),
    spares_psHead (l := [F.STL_PSAFE_CAUSE]) (by decide) _ List.mem_cons_self d k]
  exact Nat.mod_eq_of_lt (rd_lt s d F.STL_PSAFE_CAUSE k 0 (by decide))

theorem psApply_applied (s : State) (d : Fin 8) (k : Fin 4) (htgt : tgt < 16) : Applied s (s.psApply d k tgt) d k tgt := by
  rw [psApply_eq]
  exact (psHead_applied s d k htgt).spares (Spares.refl.psRest (by decide) _ _)

/-- Fields that a judged request may write. -/
def judgeFields : List Fld :=
  headFields ++ restFields ++ [F.STL_PSTATE_CAUSE, F.STL_PSTATE_REFUSED, F.STL_PSTATE_REF_REQ, F.STL_EVT_REFUSED]

theorem spares_psJudge {l : List Fld} (hc : clearOf l judgeFields = true) (w : PsWriter) : Spares l s (s.psJudge d k tgt w) := by
  rw [judgeFields, clearOf_append, clearOf_append, Bool.and_eq_true, Bool.and_eq_true] at hc
  obtain ⟨⟨hhead, hrest⟩, hmore⟩ := hc
  have hcause : Spares l s ((s.psHead d k tgt).psCause d k tgt) :=
    .ite ((spares_psHead hhead).field hmore (by decide) _ k.isLt) (spares_psHead hhead)
  have h1 : Spares l s (s.wr d F.STL_PSTATE_REFUSED 1 k) := Spares.refl.field hmore (by decide) _ k.isLt
  have h2 := h1.field (d := d) (f := F.STL_PSTATE_REF_REQ) hmore (by decide) tgt k.isLt
  unfold psJudge
  refine .ite .refl (.ite ?_ (h2.setBit (f := F.STL_EVT_REFUSED) hmore (by decide) _))
  rw [psApply_eq]
  exact hcause.psRest hrest _ _

/-! ## The table -/

/-- What the rows of R248 ask of a port, beside its state. -/
structure PsView where
  ty : Nat
  permit : Bool
  unlock : Bool
  clean : Bool
  cc : Bool
  life : Bool

/-- What a port's registers and the life cycle say of it. -/
def psView (s : State) (d : Fin 8) (k : Fin 4) : PsView :=
  { ty := s.portType d k, permit := s.on d F.STL_PSAFE_PERMIT k, unlock := s.on d F.STL_PSAFE_UNLOCK_OK k,
    clean := !s.on d F.STL_PSAFE_FAULT_ACT k, cc := s.on d F.STL_PSAFE_CC_PASS k, life := s.lifeState == 1 || s.lifeState == 2 }

/-- A row of the table of R248: its writers may take a port from a state of `src` to `dst` while `cond` holds. -/
def psRow (st tgt : Nat) (w : PsWriter) (src : List Nat) (dst : Nat) (who : List PsWriter) (cond : Bool) : Bool :=
  tgt == dst && src.contains st && decide (w ∈ who) && cond

/-- The table of R248 as its rows list it. -/
def PsView.listed (v : PsView) (st tgt : Nat) (w : PsWriter) : Bool :=
  let veh : Bool := v.ty == 1 || v.ty == 2
  let row := psRow st tgt w
  (v.ty != 0 || st != 0) && (
      row [0] 1 [.host] (veh && v.life) || row [0] 5 [.host] (v.ty == 3 && v.permit && v.life) || row [1] 2 [.host] true ||
      row [1, 2] 8 [.host] true || row [2] 3 [.host] v.permit ||
      row [3] 4 [.host] (v.permit && v.cc) || row [4] 5 [.host] v.permit ||
      row [3, 4, 5] 6 [.host, .safe] true || row [6] 7 [.safe] true || row [7] 8 [.safe] (veh && v.unlock) ||
      row [7] 0 [.safe] (v.ty == 3 && v.unlock) || row [8] 0 [.host] v.unlock ||
      row [0, 1, 2, 3, 4, 5, 6, 7, 8] 9 [.safe] true || row [0, 1, 2, 7, 8] 9 [.host] true ||
      row [9] 8 [.host] (veh && v.clean && v.unlock) || row [9] 0 [.host] (v.ty == 3 && v.clean && v.unlock) ||
      row [0, 9] 10 [.host] true || row [10] 0 [.host] v.clean)

/-- The model's judgement goes by the table's rows. -/
theorem psAllowed_eq_listed (w : PsWriter) (ht : tgt ≤ 10) : s.psAllowed d k tgt w = (s.psView d k).listed (s.psState d k) tgt w := by
  have hst := psState_lt s d k
  unfold psAllowed PsView.listed psView psRow sessionsOn
  dsimp only
  generalize s.psState d k = st at hst
  generalize s.on d F.STL_PSAFE_PERMIT k = permit
  generalize s.on d F.STL_PSAFE_UNLOCK_OK k = unlock
  generalize s.on d F.STL_PSAFE_FAULT_ACT k = act
  generalize s.on d F.STL_PSAFE_CC_PASS k = cc
  generalize (s.lifeState == 1 || s.lifeState == 2) = life
  generalize (s.portType d k == 1 || s.portType d k == 2) = veh
  generalize (s.portType d k == 3) = three
  rw [Bool.or_comm]
  congr 1
  cases w
  all_goals
    simp only [List.mem_cons, List.not_mem_nil, or_false, or_true, reduceCtorEq, or_self, decide_true, decide_false, Bool.and_false,
      Bool.false_and, Bool.and_true, Bool.or_false]
    interval_cases tgt <;> simp only [Nat.reduceBEq, Bool.false_and, Bool.or_false, Bool.false_or, Bool.true_and] <;>
      interval_cases st <;> simp only [List.contains_cons, List.contains_nil, Nat.reduceBEq, Nat.reduceLeDiff, decide_true, decide_false,
        Bool.or_false, Bool.or_true, Bool.false_or, Bool.true_and, Bool.false_and]

/-! ## A refused request -/

/-- What a refused request shows, and that it changes nothing else. -/
structure PsRefused (s t : State) (d : Fin 8) (k : Fin 4) (tgt : Nat) : Prop where
  state : t.psState d k = s.psState d k
  refused : t.on d F.STL_PSTATE_REFUSED k = true
  request : t.rd d F.STL_PSTATE_REF_REQ k = tgt
  event : t.bit d F.STL_EVT_REFUSED k = true
  only : WritesOnly [fldAddr d F.STL_PSTATE_REFUSED k 0, fldAddr d F.STL_EVT_REFUSED 0 0] s t

theorem psRefuse_effect (s : State) (d : Fin 8) (k : Fin 4) (htgt : tgt < 16) : PsRefused s (s.psRefuse d k tgt) d k tgt := by
  have hlast (u : State) : Spares [F.STL_PSTATE_STATE, F.STL_PSTATE_REFUSED, F.STL_PSTATE_REF_REQ] u (u.setBit d F.STL_EVT_REFUSED k) :=
    Spares.refl.wr (by decide)
  have hreq (u : State) : Spares [F.STL_PSTATE_STATE, F.STL_PSTATE_REFUSED] u (u.wr d F.STL_PSTATE_REF_REQ tgt k) :=
    Spares.refl.wr (by decide) k.isLt
  have hset : Spares [F.STL_PSTATE_STATE] s (s.wr d F.STL_PSTATE_REFUSED 1 k) := Spares.refl.wr (by decide) k.isLt
  unfold psRefuse
  refine ⟨?_, ?_, ?_, bit_setBit (by decide) k.isLt, ?_⟩
  · unfold psState
    rw [hlast _ _ (by decide), hreq _ _ (by decide), hset _ (by decide)]
  · unfold on
    rw [hlast _ _ (by decide), hreq _ _ (by decide), rd_wr_same _ _ _ _ _ _ (by decide)]
    rfl
  · rw [hlast _ _ (by decide), rd_wr_same _ _ _ _ _ _ (by decide)]
    exact Nat.mod_eq_of_lt htgt
  · exact writesOnly_setBit (by simp) (writesOnly_wr List.mem_cons_self (writesOnly_wr List.mem_cons_self writesOnly_refl))

/-! ## Requests -/

variable {w : PsWriter}

theorem psJudge_shadow (h : s.shadowing = true) : s.psJudge d k tgt w = s := if_pos h

theorem psJudge_applied (h : s.shadowing = false) (ha : s.psAllowed d k tgt w = true) : s.psJudge d k tgt w = s.psApply d k tgt := by
  unfold psJudge
  rw [h, if_neg Bool.false_ne_true, if_pos ha]

theorem psJudge_refused (h : s.shadowing = false) (ha : s.psAllowed d k tgt w = false) : s.psJudge d k tgt w = s.psRefuse d k tgt := by
  unfold psJudge
  rw [h, if_neg Bool.false_ne_true, ha, if_neg Bool.false_ne_true]

theorem psRequest_shadow (h : s.shadowing = true) : s.psRequest d k tgt w = s := by
  unfold psRequest
  rw [h, Bool.true_or, if_pos rfl, psJudge_shadow h]

theorem psRequest_refused (h : s.shadowing = false) (ha : s.psAllowed d k tgt w = false) (htgt : tgt < 16) :
    PsRefused s (s.psRequest d k tgt w) d k tgt := by
  unfold psRequest
  rw [ha, Bool.not_false, Bool.or_true, if_pos rfl, psJudge_refused h ha]
  exact psRefuse_effect s d k htgt

/-- Nothing but registers of the listed zones has changed. -/
structure RegsIn (Z : List Nat) (s t : State) : Prop where
  regs : RegsOnly s t
  words : Confined Z s t

section

variable {Z : List Nat}

theorem RegsIn.refl : RegsIn Z s s := ⟨.refl, .refl⟩

theorem RegsIn.setWord (h : RegsIn Z s x) {a : Nat} {v : Word} (ha : zone a ∈ Z) : RegsIn Z s (x.setWord a v) :=
  ⟨h.regs.setWord, h.words.setWord ha⟩

theorem RegsIn.wr (h : RegsIn Z s x) {f : Fld} {v i j : Nat} (ha : zone (fldAddr d f i j) ∈ Z) : RegsIn Z s (x.wr d f v i j) := h.setWord ha

theorem RegsIn.ite {c : Prop} [Decidable c] {t u : State} (ht : RegsIn Z s t) (hu : RegsIn Z s u) : RegsIn Z s (if c then t else u) := by
  split
  · exact ht
  · exact hu

end

theorem zone_window (d : Fin 8) {f : Fld} {i j : Nat} (hf : f.off = 0x41400 ∧ f.s1 = 8 ∧ f.s2 = 4 ∨ f.off = 0x41380 ∧ f.s1 = 8 ∧ f.s2 = 4)
    (hi : i < 64) (hj : j < 2) : zone (fldAddr d f i j) = 0x04 := by
  unfold zone fldAddr regAddr
  rcases hf with ⟨ho, h1, h2⟩ | ⟨ho, h1, h2⟩
  · rw [ho, h1, h2, if_pos (by omega)]
    omega
  · rw [ho, h1, h2, if_pos (by omega)]
    omega

/-- One enable of a window loaded. -/
def windowEnable (d : Fin 8) (c : CellWin) (s : State) (win : Nat) (on : Bool) : State :=
  if !on then s.clrBit d F.ADC_TWEN (c.cell % 32) win (c.cell / 32)
  else if s.winOn d c.cell win || s.winCovered d c.cell win then s.setBit d F.ADC_TWEN (c.cell % 32) win (c.cell / 32)
  else s.adcErr d F.ADC_ERR_TW_UNCOVERED

theorem RegsIn.windowEnable (h : RegsIn [0x04] s x) {c : CellWin} (hc : c.cell < 64) {win : Nat} (hw : win < 2) (on : Bool) :
    RegsIn [0x04] s (windowEnable d c x win on) := by
  have hz : zone (fldAddr d F.ADC_TWEN win (c.cell / 32)) ∈ [0x04] :=
    List.mem_singleton.mpr (zone_window d (.inr ⟨rfl, rfl, rfl⟩) (by omega) (by omega))
  have he : zone (fldAddr d F.ADC_ERR_TW_UNCOVERED 0 0) ∈ [0x04] := zone_of_fits (by decide) d.isLt (by decide)
  unfold State.windowEnable
  refine .ite ?_ (.ite (h.wr hz) ?_)
  · unfold clrBit
    exact .ite (h.wr hz) h
  · unfold adcErr raise
    exact .ite ((h.wr he).wr (zone_of_fits (by decide) d.isLt (by decide))) (h.wr he)

/-- Windows and comparators loaded write registers of the converters. -/
theorem loadWindows_effect (s : State) (d : Fin 8) (k : Fin 4) : RegsIn [0x04] s (s.loadWindows d k) := by
  unfold loadWindows
  split
  · exact .refl
  · next c hc =>
    dsimp only
    refine List.foldlRecOn _ _ (List.foldlRecOn _ _ .refl (fun y hy w hw => ?_)) (fun y hy i hi => hy.setWord ?_)
    · have hcell : w.cell < 64 := by
        have hk := (List.mem_filter.mp hw).2
        rw [beq_iff_eq] at hk
        omega
      have hz {f : Fld} (hf : f.off = 0x41400 ∧ f.s1 = 8 ∧ f.s2 = 4) {j : Nat} (hj : j < 2) : zone (fldAddr d f w.cell j) ∈ [0x04] :=
        List.mem_singleton.mpr (zone_window d (.inl hf) hcell hj)
      have hvals := (((hy.wr (f := F.ADC_TW_LOW) (v := uns 16 w.aLow) (hz ⟨rfl, rfl, rfl⟩ (j := 0) (by decide))).wr (f := F.ADC_TW_HIGH)
        (v := uns 16 w.aHigh) (hz ⟨rfl, rfl, rfl⟩ (j := 0) (by decide))).wr (f := F.ADC_TW_LOW) (v := uns 16 w.bLow)
        (hz ⟨rfl, rfl, rfl⟩ (j := 1) (by decide))).wr (f := F.ADC_TW_HIGH) (v := uns 16 w.bHigh) (hz ⟨rfl, rfl, rfl⟩ (j := 1) (by decide))
      exact (hvals.windowEnable hcell (win := 0) (by decide) w.aEn).windowEnable hcell (win := 1) (by decide) w.bEn
    · have hi8 : i < 16 := by
        simp only [List.mem_cons, List.not_mem_nil, or_false] at hi
        omega
      exact zone_of_fits (by decide) d.isLt hi8

theorem booked_sessionStart (s : State) (d : Fin 8) (k : Fin 4) : Booked s (s.sessionStart d k) :=
  ((Booked.refl.updMeter _).updMeter _).stream _

/-- What follows an applied request: the session's values, CC_PASS, or the ramp. -/
def psFollow (s : State) (d : Fin 8) (k : Fin 4) (tgt : Nat) : State :=
  if tgt = 1 then s.sessionStart d k
  else if tgt = 3 then s.wr d F.STL_PSAFE_CC_PASS 0 k
  else if tgt = 6 then s.rampBegin d k 0 (s.cfg d k).normalRamp
  else if tgt = 0 ∨ tgt = 8 ∨ tgt = 10 then s.sessionStop (portOf d k) 0
  else s

theorem psRequest_eq (h : s.shadowing = false) (ha : s.psAllowed d k tgt w = true) : ∃ c : Bool, s.psRequest d k tgt w =
    (if c then (s.psApply d k tgt).loadWindows d k else s.psApply d k tgt).psFollow d k tgt := by
  refine ⟨decide (s.psState d k = 0) && decide (tgt < 9), ?_⟩
  unfold psRequest
  rw [h, ha, Bool.not_true, Bool.or_self, if_neg Bool.false_ne_true, psJudge_applied h ha]
  rfl

theorem spares_psFollow (s : State) (d : Fin 8) (k : Fin 4) (tgt : Nat) : Spares psShown s (s.psFollow d k tgt) :=
  have hbook {t : State} (h : Booked s t) : Spares psShown s t := Spares.refl.confined h.words (by decide)
  .ite (hbook (booked_sessionStart ..)) (.ite (Spares.refl.wr (by decide) k.isLt) (.ite (Spares.refl.rampBegin (by decide) _ _)
    (.ite (hbook (Booked.refl.sessionStop _ _)) .refl)))

theorem keeps_psFollow (s : State) (d : Fin 8) (k : Fin 4) (tgt : Nat) : Keeps s (s.psFollow d k tgt) :=
  keeps_ite (keeps_of_booked (booked_sessionStart ..)) (keeps_ite (keeps_of_calm (calm_wr _ _ _ _ _ (calm_refl s)))
    (keeps_ite (keeps_of_calm (calm_rampBegin _ _ _ _ (calm_refl s))) (keeps_ite (keeps_of_booked (Booked.refl.sessionStop _ _)) keeps_refl)))

/-- An applied request: the transition, and what belongs to its target. -/
structure Requested (s t : State) (d : Fin 8) (k : Fin 4) (tgt : Nat) : Prop where
  applied : Applied s t d k tgt
  keeps : Keeps s t
  ramp : tgt = 6 → t.rd d F.OXE_PORT_OVR_MODE k = 1
  check : tgt = 3 → t.on d F.STL_PSAFE_CC_PASS k = false

theorem psRequest_applied (h : s.shadowing = false) (ha : s.psAllowed d k tgt w = true) (htgt : tgt < 16) :
    Requested s (s.psRequest d k tgt w) d k tgt := by
  obtain ⟨c, heq⟩ := psRequest_eq h ha
  obtain ⟨hregs, hconf⟩ := loadWindows_effect (s.psApply d k tgt) d k
  have hload : Spares psShown (s.psApply d k tgt) (if c = true then (s.psApply d k tgt).loadWindows d k else s.psApply d k tgt) :=
    .ite (Spares.refl.confined hconf (by decide)) .refl
  have hkeep : Keeps (s.psApply d k tgt) (if c = true then (s.psApply d k tgt).loadWindows d k else s.psApply d k tgt) :=
    keeps_ite (keeps_of_regsOnly hregs) keeps_refl
  rw [heq]
  generalize (if c = true then (s.psApply d k tgt).loadWindows d k else s.psApply d k tgt) = y at hload hkeep
  refine ⟨((psApply_applied s d k htgt).spares hload).spares (spares_psFollow y d k tgt),
    keeps_trans (keeps_trans (keeps_of_calm (calm_psApply _ _ _ (calm_refl s))) hkeep) (keeps_psFollow y d k tgt), ?_, ?_⟩
  · rintro rfl
    exact mode_rampBegin ..
  · rintro rfl
    exact on_wr_zero (by decide)

/-! ## Cable check (R252) -/

/-- What the insulation measurement writes of ISO, with its event. -/
def isoFields : List Fld := [F.SAF_P_ISO_RISO, F.SAF_P_ISO_VALID, F.SAF_P_ISO_WARN, F.SAF_P_ISO_FAULT, F.SAF_EVT_INSUL_WARN]

/-- A measurement noted. -/
def isoNoted (s : State) (d : Fin 8) (k : Fin 4) (ohm : Nat) : State :=
  let s := (s.wr d F.SAF_P_ISO_RISO (min 65535 ohm) k).wr d F.SAF_P_ISO_VALID 1 k
  let s := s.wrB d F.SAF_P_ISO_WARN (decide (ohm < 500)) k
  let s := s.wrB d F.SAF_P_ISO_FAULT (decide (ohm < 100)) k
  if ohm < 500 then s.setBit d F.SAF_EVT_INSUL_WARN k else s

theorem cableIso_eq {ohm : Nat} (h : s.psState d k = 3) : s.cableIso d k ohm =
    if 100 ≤ ohm then (s.isoNoted d k ohm).wr d F.STL_PSAFE_CC_PASS 1 k
    else (s.isoNoted d k ohm).rampStop d k 2 ((s.isoNoted d k ohm).cfg d k).insulRamp := if_neg (fun hn => hn h)

/-- What ISO shows of a measurement. -/
structure IsoShown (t : State) (d : Fin 8) (k : Fin 4) (ohm : Nat) : Prop where
  riso : t.rd d F.SAF_P_ISO_RISO k = min 65535 ohm
  valid : t.on d F.SAF_P_ISO_VALID k = true
  warn : t.on d F.SAF_P_ISO_WARN k = true ↔ ohm < 500
  fault : t.on d F.SAF_P_ISO_FAULT k = true ↔ ohm < 100
  event : ohm < 500 → t.bit d F.SAF_EVT_INSUL_WARN k = true

theorem on_of_rd {e : Nat} {f : Fld} {i j : Nat} (h : x.rd e f i j = s.rd e f i j) : x.on e f i j = s.on e f i j := by
  unfold on
  rw [h]

theorem IsoShown.spares {ohm : Nat} (h : IsoShown x d k ohm) (hs : Spares isoFields x y) : IsoShown y d k ohm := by
  have hwarn := on_of_rd (hs F.SAF_P_ISO_WARN (by decide) d k)
  have hfault := on_of_rd (hs F.SAF_P_ISO_FAULT (by decide) d k)
  exact ⟨(hs F.SAF_P_ISO_RISO (by decide) d k).trans h.riso, (on_of_rd (hs F.SAF_P_ISO_VALID (by decide) d k)).trans h.valid,
    hwarn ▸ h.warn, hfault ▸ h.fault, fun ho => (congrArg (bitOf · k) (hs F.SAF_EVT_INSUL_WARN (by decide) d 0)).trans (h.event ho)⟩

theorem isoNoted_shown (s : State) (d : Fin 8) (k : Fin 4) (ohm : Nat) : IsoShown (s.isoNoted d k ohm) d k ohm := by
  have hevent (u : State) : Spares [F.SAF_P_ISO_RISO, F.SAF_P_ISO_VALID, F.SAF_P_ISO_WARN, F.SAF_P_ISO_FAULT] u
      (if ohm < 500 then u.setBit d F.SAF_EVT_INSUL_WARN k else u) := .ite (Spares.refl.wr (by decide)) .refl
  have hfault (u : State) : Spares [F.SAF_P_ISO_RISO, F.SAF_P_ISO_VALID, F.SAF_P_ISO_WARN] u
      (u.wrB d F.SAF_P_ISO_FAULT (decide (ohm < 100)) k) := Spares.refl.wr (by decide) k.isLt
  have hwarn (u : State) : Spares [F.SAF_P_ISO_RISO, F.SAF_P_ISO_VALID] u (u.wrB d F.SAF_P_ISO_WARN (decide (ohm < 500)) k) :=
    Spares.refl.wr (by decide) k.isLt
  have hvalid (u : State) : Spares [F.SAF_P_ISO_RISO] u (u.wr d F.SAF_P_ISO_VALID 1 k) := Spares.refl.wr (by decide) k.isLt
  unfold isoNoted
  dsimp only
  refine ⟨?_, ?_, ?_, ?_, fun ho => ?_⟩
  · rw [hevent _ _ (by decide), hfault _ _ (by decide), hwarn _ _ (by decide), hvalid _ _ (by decide), rd_wr_same _ _ _ _ _ _ (by decide)]
    exact Nat.mod_eq_of_lt (Nat.lt_of_le_of_lt (Nat.min_le_left ..) (by decide))
  · rw [on_of_rd (hevent _ _ (by decide) d k), on_of_rd (hfault _ _ (by decide) d k), on_of_rd (hwarn _ _ (by decide) d k)]
    exact on_wr_one (by decide) rfl
  · rw [on_of_rd (hevent _ _ (by decide) d k), on_of_rd (hfault _ _ (by decide) d k), on_wrB_same (by decide) rfl, decide_eq_true_eq]
  · rw [on_of_rd (hevent _ _ (by decide) d k), on_wrB_same (by decide) rfl, decide_eq_true_eq]
  · rw [if_pos ho]
    exact bit_setBit (by decide) k.isLt

theorem spares_isoNoted {l : List Fld} (hc : clearOf l isoFields = true) (ohm : Nat) : Spares l s (s.isoNoted d k ohm) := by
  have h1 : Spares l s (s.wr d F.SAF_P_ISO_RISO (min 65535 ohm) k) := Spares.refl.field hc (by decide) _ k.isLt
  have h2 := h1.field (d := d) (f := F.SAF_P_ISO_VALID) hc (by decide) 1 k.isLt
  have h3 := h2.field (d := d) (f := F.SAF_P_ISO_WARN) hc (by decide) (b2n (decide (ohm < 500))) k.isLt
  have h4 := h3.field (d := d) (f := F.SAF_P_ISO_FAULT) hc (by decide) (b2n (decide (ohm < 100))) k.isLt
  exact .ite (h4.setBit (f := F.SAF_EVT_INSUL_WARN) hc (by decide) _) h4

theorem regsIn_isoNoted (s : State) (d : Fin 8) (k : Fin 4) (ohm : Nat) : RegsIn [0x0C] s (s.isoNoted d k ohm) := by
  have hz {f : Fld} (hf : fits [0x0C] f = true) : zone (fldAddr d f k 0) ∈ [0x0C] := zone_of_fits hf d.isLt (by omega)
  have h : RegsIn [0x0C] s ((((s.wr d F.SAF_P_ISO_RISO (min 65535 ohm) k).wr d F.SAF_P_ISO_VALID 1 k).wrB d F.SAF_P_ISO_WARN
      (decide (ohm < 500)) k).wrB d F.SAF_P_ISO_FAULT (decide (ohm < 100)) k) :=
    (((RegsIn.refl.wr (hz (by decide))).wr (hz (by decide))).wr (hz (by decide))).wr (hz (by decide))
  exact .ite (h.wr (zone_of_fits (by decide) d.isLt (by decide))) h

theorem Confined.shadowing {Z : List Nat} (h : Confined Z s x) (hz : 0x21 ∉ Z) : x.shadowing = s.shadowing := by
  have hzone : zone (fldAddr 0 F.TWN_STAT_ROLE 0 0) = 0x21 := by decide
  unfold State.shadowing role
  rw [h.rd 0 F.TWN_STAT_ROLE 0 0 (hzone ▸ hz)]

/-! ### The stop of an energised port -/

theorem rampStop_energised (h : 3 ≤ s.psState d k ∧ s.psState d k ≤ 5) (c ms : Nat) : s.rampStop d k c ms =
    if (s.safPort d k).tripOpen.isSome then s.causeOn d k c else (s.psJudge d k 6 .safe).rampBegin d k c ms := by
  unfold rampStop
  dsimp only
  rw [if_pos h]

theorem faultAct_causeOn {c : Nat} (h : c ≠ 0) : (s.causeOn d k c).on d F.STL_PSAFE_FAULT_ACT k = true := by
  unfold causeOn
  dsimp only
  rw [if_neg h]
  split
  · rw [on_wr_apart (.inr (.inr (by decide)))]
    exact on_wr_one (by decide) rfl
  · exact on_wr_one (by decide) rfl

theorem faultAct_rampBegin {c : Nat} (h : c ≠ 0) (ms : Nat) : (s.rampBegin d k c ms).on d F.STL_PSAFE_FAULT_ACT k = true := by
  have hramp : Spares [F.STL_PSAFE_FAULT_ACT] (s.causeOn d k c) (s.rampBegin d k c ms) :=
    (Spares.refl.rampWrite (by decide) _ _).stopMark (by decide) _ _
  rw [on_of_rd (hramp _ List.mem_cons_self d k), faultAct_causeOn h]

/-- RAMP_DOWN is listed for an energised port, whoever asks. -/
theorem psAllowed_ramp (h : 3 ≤ s.psState d k ∧ s.psState d k ≤ 5) (w : PsWriter) : s.psAllowed d k 6 w = true := by
  rw [psAllowed_eq_listed _ (by decide)]
  obtain ⟨h3, h5⟩ := h
  unfold PsView.listed psRow
  generalize s.psState d k = st at h3 h5
  cases w <;> interval_cases st <;> simp

theorem clearOf_ramp_iso : clearOf isoFields rampFields = true := by decide

theorem spares_rampStop_iso (h : 3 ≤ s.psState d k ∧ s.psState d k ≤ 5) (c ms : Nat) : Spares isoFields s (s.rampStop d k c ms) := by
  rw [rampStop_energised h]
  exact .ite (Spares.refl.causeOn (clearOf_ramp clearOf_ramp_iso).2.1 _) ((spares_psJudge (by decide) _).rampBegin clearOf_ramp_iso _ _)

theorem faultAct_rampStop (h : 3 ≤ s.psState d k ∧ s.psState d k ≤ 5) {c : Nat} (hc : c ≠ 0) (ms : Nat) :
    (s.rampStop d k c ms).on d F.STL_PSAFE_FAULT_ACT k = true := by
  rw [rampStop_energised h]
  split
  · exact faultAct_causeOn hc
  · exact faultAct_rampBegin hc ms

/-- A ramp stop of an energised port without a trip stop: RAMP_DOWN, and the ramp. -/
theorem rampStop_begins (h : 3 ≤ s.psState d k ∧ s.psState d k ≤ 5) (hs : s.shadowing = false) (ht : (s.safPort d k).tripOpen = none)
    (c ms : Nat) : (s.rampStop d k c ms).psState d k = 6 ∧ (s.rampStop d k c ms).rd d F.OXE_PORT_OVR_MODE k = 1 := by
  have hap : Applied s (s.psApply d k 6) d k 6 := psApply_applied s d k (by decide)
  rw [rampStop_energised h, ht, Option.isSome_none, if_neg Bool.false_ne_true, psJudge_applied hs (psAllowed_ramp h _)]
  exact ⟨(hap.spares (Spares.refl.rampBegin (by decide) c ms)).state, mode_rampBegin ..⟩

/-- What the measurement leaves. -/
structure CableChecked (s t : State) (d : Fin 8) (k : Fin 4) (ohm : Nat) : Prop where
  shown : IsoShown t d k ohm
  keeps : Keeps s t
  pass : 100 ≤ ohm → t.on d F.STL_PSAFE_CC_PASS k = true ∧ t.psState d k = 3
  fault : ohm < 100 → t.on d F.STL_PSAFE_FAULT_ACT k = true
  stop : ohm < 100 → s.shadowing = false → (s.safPort d k).tripOpen = none → t.psState d k = 6 ∧ t.rd d F.OXE_PORT_OVR_MODE k = 1

theorem cableIso_checked {ohm : Nat} (h : s.psState d k = 3) : CableChecked s (s.cableIso d k ohm) d k ohm := by
  have hshown := isoNoted_shown s d k ohm
  have hregsIn := regsIn_isoNoted s d k ohm
  have hregs := hregsIn.regs
  have hstate : (s.isoNoted d k ohm).psState d k = 3 :=
    (spares_isoNoted (l := [F.STL_PSTATE_STATE]) (by decide) ohm _ List.mem_cons_self d k).trans h
  have hsaf : (s.isoNoted d k ohm).safPort d k = s.safPort d k := by
    obtain ⟨g, hg⟩ := hregs
    rw [hg]
    rfl
  have hshadow : (s.isoNoted d k ohm).shadowing = s.shadowing := hregsIn.words.shadowing (by decide)
  rw [cableIso_eq h]
  generalize s.isoNoted d k ohm = y at hshown hregsIn hregs hstate hsaf hshadow
  have hen : 3 ≤ y.psState d k ∧ y.psState d k ≤ 5 := by omega
  by_cases ho : 100 ≤ ohm
  · rw [if_pos ho]
    have hpass (l : List Fld) (hl : l.all (fieldsApart F.STL_PSAFE_CC_PASS) = true) : Spares l y (y.wr d F.STL_PSAFE_CC_PASS 1 k) :=
      Spares.refl.wr hl k.isLt
    exact ⟨hshown.spares (hpass _ (by decide)), keeps_trans (keeps_of_regsOnly hregs) (keeps_of_calm (calm_wr _ _ _ _ _ (calm_refl y))),
      fun _ => ⟨on_wr_one (by decide) rfl, (hpass [F.STL_PSTATE_STATE] (by decide) _ List.mem_cons_self d k).trans hstate⟩,
      fun hlt => absurd ho (by omega), fun hlt => absurd ho (by omega)⟩
  · rw [if_neg ho]
    exact ⟨hshown.spares (spares_rampStop_iso hen _ _),
      keeps_trans (keeps_of_regsOnly hregs) (keeps_of_calm (calm_rampStop _ _ _ _ (calm_refl y))), fun hge => absurd hge ho,
      fun _ => faultAct_rampStop hen (by decide) _, fun _ hs ht => rampStop_begins hen (hshadow ▸ hs) (hsaf ▸ ht) _ _⟩

/-! ## Timeouts -/

theorem reqFault_shadow (h : s.shadowing = true) : s.reqFault d k = s := by
  unfold reqFault
  rw [psJudge_shadow h, ite_self]

theorem psAllowed_fault (h : s.psState d k = 3) : s.psAllowed d k 9 .safe = true := by
  rw [psAllowed_eq_listed _ (by decide)]
  unfold PsView.listed psRow
  rw [h]
  simp

theorem reqFault_applied (h : s.psState d k = 3) (hs : s.shadowing = false) : Applied s (s.reqFault d k) d k 9 := by
  unfold reqFault
  rw [if_pos (by omega), psJudge_applied hs (psAllowed_fault h)]
  exact psApply_applied s d k (by decide)

/-! ### A lost type 2 link (R246) -/

theorem t1sDown_eq (hty : s.portType d k = 2) (hl : s.on d F.T1S_P_STAT_LINK k = false) : s.t1sDown d k =
    if s.psState d k = 1 ∨ s.psState d k = 2 ∨ s.psState d k = 7 ∨ s.psState d k = 8 then s.psRequest d k 8 .host
    else if 3 ≤ s.psState d k ∧ s.psState d k ≤ 6 then s.psRequest d k 6 .host else s := by
  unfold t1sDown
  dsimp only
  rw [if_neg (by rw [hty, hl]; simp)]

theorem t1sDown_idle (h : s.portType d k ≠ 2 ∨ s.on d F.T1S_P_STAT_LINK k = true ∨ s.psState d k = 0 ∨ 9 ≤ s.psState d k ∨ s.shadowing = true) :
    s.t1sDown d k = s := by
  have quiet (h : s.psState d k = 0 ∨ 9 ≤ s.psState d k) : s.t1sDown d k = s := by
    unfold t1sDown
    dsimp only
    rw [if_neg (c := s.psState d k = 1 ∨ _) (by omega), if_neg (c := 3 ≤ s.psState d k ∧ _) (by omega), ite_self]
  rcases h with h | h | h | h | h
  · exact if_pos (.inl h)
  · exact if_pos (.inr h)
  · exact quiet (.inl h)
  · exact quiet (.inr h)
  · unfold t1sDown
    simp only [psRequest_shadow h, ite_self]

theorem psAllowed_unlock (h : s.psState d k = 1 ∨ s.psState d k = 2) : s.psAllowed d k 8 .host = true := by
  rw [psAllowed_eq_listed _ (by decide)]
  unfold PsView.listed psRow
  rcases h with h | h <;> rw [h] <;> simp

theorem psAllowed_late (h : 6 ≤ s.psState d k ∧ s.psState d k ≤ 8) :
    s.psAllowed d k (if s.psState d k = 6 then 6 else 8) .host = false := by
  rw [psAllowed_eq_listed _ (by split <;> decide)]
  obtain ⟨h6, h8⟩ := h
  unfold PsView.listed psRow
  generalize s.psState d k = st at h6 h8
  interval_cases st <;> simp

theorem t1sDown_late (hty : s.portType d k = 2) (hl : s.on d F.T1S_P_STAT_LINK k = false) (h : 6 ≤ s.psState d k ∧ s.psState d k ≤ 8) :
    s.t1sDown d k = s.psRequest d k (if s.psState d k = 6 then 6 else 8) .host := by
  rw [t1sDown_eq hty hl]
  by_cases h6 : s.psState d k = 6
  · rw [if_neg (by omega), if_pos (by omega), if_pos h6]
  · rw [if_pos (by omega), if_neg h6]

end State

open State

/-- Settles O45: the model's judgement goes by the rows of the table; what follows an applied request leaves the registers that show it. -/
theorem portStateRequests : Obligations.PortStateRequests := by
  unfold Obligations.PortStateRequests
  intro s d k w ohm
  dsimp only
  refine ⟨?_, fun h => ⟨_, rfl, ?_⟩, fun h => ⟨⟨_, rfl, if_pos h⟩, ⟨_, rfl, if_neg h⟩⟩, fun h hs => ⟨_, rfl, ?_⟩, fun h hs => ⟨_, rfl, ?_⟩,
    fun h => ⟨_, rfl, if_neg h⟩, fun hty hl hs => ⟨fun h => ⟨_, rfl, ?_⟩, fun h3 h5 => ⟨_, rfl, ?_⟩, fun h6 h8 => ⟨_, rfl, ?_⟩⟩,
    fun h => ⟨_, rfl, t1sDown_idle h⟩, fun hs => ⟨⟨_, rfl, ?_⟩, ⟨_, rfl, ?_⟩⟩⟩
  · intro x hx
    have hrow : x.1 ≤ 10 ∧ exec x.2 s = .next (s.psRequest d k x.1 w) := by
      simp only [List.mem_cons, List.not_mem_nil, or_false] at hx
      rcases hx with rfl | rfl | rfl | rfl | rfl | rfl | rfl | rfl | rfl | rfl | rfl <;> exact ⟨by simp, rfl⟩
    obtain ⟨hle, hexec⟩ := hrow
    refine ⟨fun hs => ⟨_, hexec, psRequest_shadow hs⟩, fun hs hl => ⟨_, hexec, ?_⟩, fun hs hl => ⟨_, hexec, ?_⟩⟩
    · have hr := psRequest_applied hs ((psAllowed_eq_listed w hle).trans hl) (by omega)
      exact ⟨hr.applied.state, hr.applied.prev, hr.applied.changes, hr.applied.event, hr.keeps, hr.applied.cause, hr.ramp, hr.check,
        hr.applied.others⟩
    · have hr := psRequest_refused hs ((psAllowed_eq_listed w hle).trans hl) (by omega)
      exact ⟨hr.state, hr.refused, hr.request, hr.event, hr.only⟩
  · have hc := cableIso_checked (ohm := ohm) h
    exact ⟨hc.shown.riso, hc.shown.valid, hc.shown.warn, hc.shown.fault, hc.shown.event, hc.keeps, hc.pass, hc.fault, hc.stop⟩
  · rw [if_pos h]
    exact ⟨(reqFault_applied h hs).state, keeps_of_calm (calm_reqFault _ _ (calm_refl s))⟩
  · rw [if_pos h]
    have hr := psRequest_applied hs (psAllowed_ramp (s := s) (d := d) (k := k) (by omega) .host) (by decide)
    exact ⟨hr.applied.state, hr.ramp rfl, hr.keeps⟩
  · rw [t1sDown_eq hty hl, if_pos (by omega)]
    have hr := psRequest_applied hs (psAllowed_unlock h) (by decide)
    exact ⟨hr.applied.state, hr.applied.prev, hr.keeps⟩
  · rw [t1sDown_eq hty hl, if_neg (by omega), if_pos (by omega)]
    have hr := psRequest_applied hs (psAllowed_ramp ⟨h3, h5⟩ .host) (by decide)
    exact ⟨hr.applied.state, hr.applied.prev, hr.ramp rfl, hr.keeps⟩
  · rw [t1sDown_late hty hl ⟨h6, h8⟩]
    have hr := psRequest_refused hs (psAllowed_late ⟨h6, h8⟩) (by split <;> decide)
    exact ⟨hr.state, hr.refused, hr.request, hr.event, hr.only⟩
  · rw [reqFault_shadow hs, ite_self]
  · rw [psRequest_shadow hs, ite_self]

end Sys2Proof.Machine

/-! # Trial, confirmation and the report of the checks (R71, R83, R85, R99) -/

namespace Sys2Proof.Machine

/-! ## Bytes of a digest in registers -/

theorem leNat_lt (l : List Byte) : leNat l < 256 ^ l.length := by
  induction l with
  | nil => exact Nat.one_pos
  | cons b t ih =>
    have hb := b.isLt
    rw [leNat, List.length_cons, Nat.pow_succ]
    omega

theorem leBytes_leNat (l : List Byte) : leBytes l.length (leNat l) = l := by
  induction l with
  | nil => rfl
  | cons b t ih =>
    have hb := b.isLt
    rw [List.length_cons, leBytes, leNat, show (b.toNat + 256 * leNat t) / 256 = leNat t by omega, ih]
    congr 1
    apply BitVec.eq_of_toNat_eq
    rw [BitVec.toNat_ofNat]
    omega

/-- A list of words' bytes is its pieces of four. -/
theorem flatMap_fours (n : Nat) (l : List Byte) (h : l.length = 4 * n) : (List.range n).flatMap (fun k => (l.drop (4 * k)).take 4) = l := by
  induction n generalizing l with
  | zero => exact (List.length_eq_zero_iff.mp h).symm
  | succ n ih =>
    rw [List.range_succ_eq_map, List.flatMap_cons, List.flatMap_map]
    have htail := ih (l.drop 4) (by rw [List.length_drop]; omega)
    simp only [List.drop_drop] at htail
    conv_rhs => rw [← List.take_append_drop 4 l, ← htail]
    rw [Nat.mul_zero, List.drop_zero]
    congr 2
    funext k
    rw [Nat.succ_eq_add_one, Nat.mul_add, Nat.mul_one, Nat.add_comm (4 * k)]

theorem leBytes_field {l : List Byte} {k : Nat} (h : k + 4 ≤ l.length) : leBytes 4 (field l k 4 % 2 ^ 32) = (l.drop k).take 4 := by
  have hlen : ((l.drop k).take 4).length = 4 := by
    rw [List.length_take, List.length_drop]
    omega
  have hfield : field l k 4 = leNat ((l.drop k).take 4) := by
    unfold field slice
    dsimp only
    rw [hlen, Nat.sub_self, List.replicate_zero, List.append_nil]
  have hlt := leNat_lt ((l.drop k).take 4)
  have hbytes := leBytes_leNat ((l.drop k).take 4)
  rw [hlen] at hlt hbytes
  rw [hfield, Nat.mod_eq_of_lt (show _ < 2 ^ 32 from hlt), hbytes]

namespace State

variable {s x y z : State}

/-! ## MREG -/

theorem fldAddr_mreg_ne {n j k : Nat} (h : j ≠ k) : fldAddr 0 F.LCS_MREG n j ≠ fldAddr 0 F.LCS_MREG n k := by
  simp only [fldAddr, regAddr, F.LCS_MREG]
  omega

theorem rd_mregWords (ks : List Nat) (g : Nat → Nat) (s : State) (n j : Nat) :
    (ks.foldl (fun s k => s.wr 0 F.LCS_MREG (g k) n k) s).rd 0 F.LCS_MREG n j = if j ∈ ks then g j % 2 ^ 32 else s.rd 0 F.LCS_MREG n j := by
  induction ks generalizing s with
  | nil => simp
  | cons k t ih =>
    rw [List.foldl_cons, ih]
    by_cases hk : j = k
    · subst hk
      rw [rd_wr_same _ _ _ _ _ _ (by decide), show F.LCS_MREG.w = 32 from rfl]
      simp only [List.mem_cons, true_or, if_true, ite_self]
    · rw [rd_wr_apart _ _ _ _ _ _ _ _ _ _ (.inl (fldAddr_mreg_ne hk))]
      simp only [List.mem_cons, hk, false_or]

/-- A measurement register reads the digest put in it. -/
theorem mreg_setMreg (s : State) (n : Nat) {l : List Byte} (h : l.length = 32) : (s.setMreg n l).mreg n = l := by
  refine Eq.trans (List.flatMap_congr (fun k hk => ?_)) (flatMap_fours 8 l h)
  have hk := List.mem_range.mp hk
  unfold setMreg
  rw [rd_mregWords, if_pos (List.mem_range.mpr hk), leBytes_field (by omega)]

theorem mreg_congr {n : Nat} (h : ∀ k, k < 8 → x.rd 0 F.LCS_MREG n k = s.rd 0 F.LCS_MREG n k) : x.mreg n = s.mreg n :=
  List.flatMap_congr (fun k hk => by rw [h k (List.mem_range.mp hk)])

/-! ## MREG7's extension (R71) -/

theorem fldAddr_ext_ne {j k : Nat} (h : j ≠ k) : fldAddr 0 F.LCS_MREG7_EXT j 0 ≠ fldAddr 0 F.LCS_MREG7_EXT k 0 := by
  simp only [fldAddr, regAddr, F.LCS_MREG7_EXT]
  omega

theorem fldAddr_mreg_ext {n j k : Nat} (hn : n < 8) (hj : j < 8) : fldAddr 0 F.LCS_MREG n j ≠ fldAddr 0 F.LCS_MREG7_EXT k 0 := by
  simp only [fldAddr, regAddr, F.LCS_MREG, F.LCS_MREG7_EXT]
  omega

/-- The words of the extension zeroed. -/
def extCleared (s : State) : State := (List.range 8).foldl (fun (s : State) (k : Nat) => s.wr 0 F.LCS_MREG7_EXT 0 k) s

theorem rd_extWords (ks : List Nat) (s : State) (j : Nat) : (ks.foldl (fun (s : State) (k : Nat) => s.wr 0 F.LCS_MREG7_EXT 0 k) s).rd 0
    F.LCS_MREG7_EXT j = if j ∈ ks then 0 else s.rd 0 F.LCS_MREG7_EXT j := by
  induction ks generalizing s with
  | nil => simp
  | cons k t ih =>
    rw [List.foldl_cons, ih]
    by_cases hk : j = k
    · subst hk
      rw [rd_wr_same _ _ _ _ _ _ (by decide)]
      simp
    · rw [rd_wr_apart _ _ _ _ _ _ _ _ _ _ (.inl (fldAddr_ext_ne hk))]
      simp only [List.mem_cons, hk, false_or]

theorem mreg_extCleared (s : State) {n : Nat} (hn : n < 8) : s.extCleared.mreg n = s.mreg n := by
  refine mreg_congr (fun j hj => ?_)
  exact List.foldlRecOn (motive := fun y : State => y.rd 0 F.LCS_MREG n j = s.rd 0 F.LCS_MREG n j) _ _ rfl
    (fun y hy k _ => (rd_wr_apart _ _ _ _ _ _ _ _ _ _ (.inl (fldAddr_mreg_ext hn hj))).trans hy)

/-- The words of the extension, the last just written. -/
def extBytes (s : State) (v : Word) : List Byte :=
  (List.range 7).flatMap (fun k => leBytes 4 (s.rd 0 F.LCS_MREG7_EXT k)) ++ leBytes 4 v.toNat

theorem extBytes_written (s : State) (v : Word) :
    (List.range 8).flatMap (fun k => leBytes 4 ((s.wr 0 F.LCS_MREG7_EXT v.toNat 7).rd 0 F.LCS_MREG7_EXT k)) = s.extBytes v := by
  rw [List.range_succ, List.flatMap_append, List.flatMap_singleton, rd_wr_same _ _ _ _ _ _ (by decide)]
  unfold extBytes
  congr 1
  · refine List.flatMap_congr (fun k hk => ?_)
    have hk := List.mem_range.mp hk
    rw [rd_wr_apart _ _ _ _ _ _ _ _ _ _ (.inl (fldAddr_ext_ne (by omega)))]
  · exact congrArg (leBytes 4) (Nat.mod_eq_of_lt v.isLt)

theorem mreg7Ext_eq {r : Requester} (h : leadMachine r = true) (v : Word) : s.mreg7Ext r v =
    ((s.wr 0 F.LCS_MREG7_EXT v.toNat 7).setMreg 7 (Config.sha256 ((s.wr 0 F.LCS_MREG7_EXT v.toNat 7).mreg 7 ++
      (List.range 8).flatMap (fun k => leBytes 4 ((s.wr 0 F.LCS_MREG7_EXT v.toNat 7).rd 0 F.LCS_MREG7_EXT k)))).toList).extCleared := by
  unfold mreg7Ext
  rw [if_pos h]
  rfl

theorem mreg7Ext_effect {r : Requester} (h : leadMachine r = true) (v : Word) :
    (s.mreg7Ext r v).mreg 7 = (Config.sha256 (s.mreg 7 ++ s.extBytes v)).toList ∧
      (∀ k, k < 8 → (s.mreg7Ext r v).rd 0 F.LCS_MREG7_EXT k = 0) ∧ Keeps s (s.mreg7Ext r v) := by
  have hmreg : (s.wr 0 F.LCS_MREG7_EXT v.toNat 7).mreg 7 = s.mreg 7 :=
    mreg_congr (fun k hk => rd_wr_apart _ _ _ _ _ _ _ _ _ _ (.inl (fldAddr_mreg_ext (by decide) hk)))
  have hkeep : Keeps s (s.mreg7Ext r v) := by
    rw [mreg7Ext_eq h]
    unfold extCleared setMreg
    exact keeps_of_calm (calm_foldl _ (fun y _ => calm_wr _ _ _ _ _ (calm_refl y)) _
      (calm_foldl _ (fun y _ => calm_wr _ _ _ _ _ (calm_refl y)) _ (calm_wr _ _ _ _ _ (calm_refl s))))
  refine ⟨?_, fun k hk => ?_, hkeep⟩
  · rw [mreg7Ext_eq h, mreg_extCleared _ (by decide), mreg_setMreg _ _ (by simp), hmreg, extBytes_written]
  · rw [mreg7Ext_eq h]
    unfold extCleared
    rw [rd_extWords, if_pos (List.mem_range.mpr hk)]

/-! ## STAGE_CHECK_DONE -/

theorem stageChecked_eq (h : s.lcs.checking ≠ []) : s.stageChecked =
    (({ s with lcs := { s.lcs with checking := [] } } : State).stagedCheck).wr 0 F.LCS_STAGED_STAGE_DONE 1 := by
  unfold stageChecked
  rw [if_neg (fun hn => h (List.isEmpty_iff.mp hn))]

/-- What the report leaves. -/
structure StageReported (s t : State) : Prop where
  checking : t.lcs.checking = []
  done : t.on 0 F.LCS_STAGED_STAGE_DONE = true
  valid : ∀ k, k < 6 → t.bit 0 F.LCS_STAGED_VALID k = s.verified 0 s.otherBank k
  covered : t.on 0 F.LCS_STAGED_COVERED = (s.covering s.otherBank s.meterImage).isSome
  keeps : Keeps s t

theorem stageChecked_effect (h : s.lcs.checking ≠ []) : StageReported s s.stageChecked := by
  have hb : SameBanks s { s with lcs := { s.lcs with checking := [] } } := ⟨rfl, rfl, rfl, rfl, rfl, rfl, rfl, rfl⟩
  have hother : ({ s with lcs := { s.lcs with checking := [] } } : State).otherBank = s.otherBank := rfl
  have hmeter : ({ s with lcs := { s.lcs with checking := [] } } : State).meterImage = s.meterImage := rfl
  have hcheck : ({ s with lcs := { s.lcs with checking := [] } } : State).lcs.checking = [] := rfl
  have hkeep : Keeps s { s with lcs := { s.lcs with checking := [] } } := ⟨rfl, rfl, rfl⟩
  rw [stageChecked_eq h]
  generalize ({ s with lcs := { s.lcs with checking := [] } } : State) = y at hb hother hmeter hcheck hkeep ⊢
  have hw := writesOnly_stagedCheck y
  refine ⟨?_, on_wr_one (by decide) rfl, fun k hk => ?_, ?_, ?_⟩
  · rw [wr_lcs, lcs_stagedCheck, hcheck]
  · unfold bit
    rw [rd_wr_apart _ _ _ _ _ _ _ _ _ _ (.inr (.inr (by decide)))]
    have hbit := bit_stagedCheck (s := y) hk
    unfold classGood at hbit
    rw [hcheck, hb.verified, hother] at hbit
    exact hbit.trans (Bool.and_true _)
  · rw [on_wr_apart (.inr (.inr (by decide))), on_stagedCheck, hcheck, hb.covering, hother, hmeter]
    rfl
  · refine keeps_trans hkeep (keeps_trans ?_ (keeps_of_calm (calm_wr _ _ _ _ _ (calm_refl _))))
    rw [hw.1]
    exact ⟨rfl, rfl, rfl⟩

/-! ## TRIAL_WINDOW_EXPIRY -/

theorem trialExpiry_effect (ht : s.on 0 F.LCS_BOOT_TRIAL = true) (hl : s.leadRuns = true) (hr : s.lcs.restart = none) :
    (∃ x, s.trialExpiry.lcs.restart = some x ∧ x.newState = none ∧ x.mask = 0) ∧ s.trialExpiry.regs = s.regs ∧ Keeps s s.trialExpiry := by
  unfold trialExpiry
  rw [ht, hl, hr, Bool.and_self, Option.isNone_none, Bool.and_self, if_pos rfl]
  exact ⟨⟨_, rfl, rfl, rfl⟩, rfl, rfl, rfl, rfl⟩

end State

end Sys2Proof.Machine

/-! # The opening of the key slots (R93, R94, R99, R101) -/

namespace Sys2Proof.Machine

/-! ## Lists indexed by slot -/

theorem find_filter_ne {β : Type} {n m : Nat} (h : m ≠ n) (l : List (Nat × β)) :
    (l.filter (fun e => e.1 != n)).find? (fun e => e.1 == m) = l.find? (fun e => e.1 == m) := by
  rw [List.find?_filter]
  congr 1
  funext e
  by_cases he : e.1 = m
  · simp [he, h]
  · simp [he]

theorem find_filter_self {β : Type} (n : Nat) (l : List (Nat × β)) :
    (l.filter (fun e => e.1 != n)).find? (fun e => e.1 == n) = none := by
  rw [List.find?_eq_none]
  intro e he
  simpa using (List.mem_filter.mp he).2

namespace State

variable {s x y t : State} {l l' : List Nat}

theorem blobOf_putBlob_ne {n m : Nat} (h : m ≠ n) (l : List (Nat × Option Blob)) (b : Option Blob) :
    blobOf (putBlob l n b) m = blobOf l m := by
  unfold blobOf putBlob
  cases b with
  | none => rw [find_filter_ne h]
  | some b =>
    rw [List.find?_append, find_filter_ne h, List.find?_cons_of_neg (by simpa using h.symm), List.find?_nil, Option.or_none]

/-! ## What leaves the other slots alone -/

/-- Only the key store's slots in the list differ, and the free values drawn: no register but the words of those slots,
neither the root secret nor another slot's key or blobs. -/
structure SlotsOnly (l : List Nat) (s t : State) : Prop where
  rest : ∃ r k n, t = { s with regs := r, keys := k, freeIdx := n }
  words : ∀ a, (∀ m ∈ l, a / 8 ≠ 0x8040020 + m) → t.word a = s.word a
  root : t.keys.root = s.keys.root
  cached : ∀ m, m ∉ l → t.keys.cache.find? (fun e => e.1 == m) = s.keys.cache.find? (fun e => e.1 == m)
  current : ∀ m, m ∉ l → blobOf t.keys.current m = blobOf s.keys.current m
  pend : ∀ m, m ∉ l → blobOf t.keys.pend m = blobOf s.keys.pend m

theorem SlotsOnly.refl (s : State) : SlotsOnly l s s :=
  ⟨⟨_, _, _, rfl⟩, fun _ _ => rfl, rfl, fun _ _ => rfl, fun _ _ => rfl, fun _ _ => rfl⟩

theorem SlotsOnly.trans (h : SlotsOnly l s x) (g : SlotsOnly l x y) : SlotsOnly l s y := by
  obtain ⟨⟨r, k, n, hr⟩, hw, hroot, hc, hcur, hp⟩ := h
  obtain ⟨⟨r', k', n', hr'⟩, hw', hroot', hc', hcur', hp'⟩ := g
  refine ⟨⟨r', k', n', by rw [hr', hr]⟩, fun a ha => (hw' a ha).trans (hw a ha), hroot'.trans hroot, fun m hm => (hc' m hm).trans (hc m hm),
    fun m hm => (hcur' m hm).trans (hcur m hm), fun m hm => (hp' m hm).trans (hp m hm)⟩

theorem SlotsOnly.mono (h : SlotsOnly l s x) (hl : l ⊆ l') : SlotsOnly l' s x :=
  ⟨h.rest, fun a ha => h.words a (fun m hm => ha m (hl hm)), h.root, fun m hm => h.cached m (fun hn => hm (hl hn)),
    fun m hm => h.current m (fun hn => hm (hl hn)), fun m hm => h.pend m (fun hn => hm (hl hn))⟩

theorem SlotsOnly.foldl {f : State → Nat → State} (hf : ∀ y m, m ∈ l → SlotsOnly l y (f y m)) (s : State) :
    SlotsOnly l s (l.foldl f s) :=
  List.foldlRecOn (motive := fun y => SlotsOnly l s y) l f (SlotsOnly.refl s) (fun y hy m hm => hy.trans (hf y m hm))

theorem SlotsOnly.keeps (h : SlotsOnly l s x) : Keeps s x := by
  obtain ⟨r, k, n, rfl⟩ := h.rest
  exact ⟨rfl, rfl, rfl⟩

theorem SlotsOnly.lcs (h : SlotsOnly l s x) : x.lcs = s.lcs := by
  obtain ⟨r, k, n, rfl⟩ := h.rest
  rfl

/-- A field outside the slots' words. -/
theorem SlotsOnly.rd (h : SlotsOnly l s x) (hl : ∀ m ∈ l, m < 64) {d : Nat} {f : Fld} {i j : Nat}
    (ha : fldAddr d f i j < 0x40200100 ∨ 0x40200300 ≤ fldAddr d f i j) : x.rd d f i j = s.rd d f i j := by
  unfold State.rd
  rw [h.words _ (fun m hm => by have := hl m hm; omega)]

theorem SlotsOnly.on (h : SlotsOnly l s x) (hl : ∀ m ∈ l, m < 64) {d : Nat} {f : Fld} {i j : Nat}
    (ha : fldAddr d f i j < 0x40200100 ∨ 0x40200300 ≤ fldAddr d f i j) : x.on d f i j = s.on d f i j :=
  congrArg (· != 0) (h.rd hl ha)

/-- The word of slot `n`, not in the list. -/
theorem SlotsOnly.attr (h : SlotsOnly l s x) {n : Nat} (hn : n ∉ l) : x.word (fldAddr 0 F.KEY_SLOT_ATTR_USE n 0) =
    s.word (fldAddr 0 F.KEY_SLOT_ATTR_USE n 0) := by
  refine h.words _ (fun m hm hne => hn ?_)
  simp only [fldAddr, regAddr, F.KEY_SLOT_ATTR_USE] at hne
  rwa [show n = m by omega]

theorem SlotsOnly.slotKey (h : SlotsOnly l s x) {n : Nat} (hn : n ∉ l) : x.slotKey n = s.slotKey n := by
  have hv : x.on 0 F.KEY_SLOT_ATTR_VALID n = s.on 0 F.KEY_SLOT_ATTR_VALID n := by
    unfold State.on State.rd
    rw [show fldAddr 0 F.KEY_SLOT_ATTR_VALID n 0 = fldAddr 0 F.KEY_SLOT_ATTR_USE n 0 from rfl, h.attr hn]
  unfold State.slotKey
  rw [hv, h.root, h.cached n hn]

theorem SlotsOnly.stale (h : SlotsOnly l s x) {n : Nat} (hn : n ∉ l) : x.on 0 F.KEY_SLOT_ATTR_STALE n = s.on 0 F.KEY_SLOT_ATTR_STALE n := by
  unfold State.on State.rd
  rw [show fldAddr 0 F.KEY_SLOT_ATTR_STALE n 0 = fldAddr 0 F.KEY_SLOT_ATTR_USE n 0 from rfl, h.attr hn]

/-- The storage keys depend on the root secret, the life-cycle state and the measurements (R98). -/
theorem storageKey_congr (hroot : x.keys.root = s.keys.root) (hlc : x.lifeState = s.lifeState)
    (hm : ∀ i k, x.rd 0 F.LCS_MREG i k = s.rd 0 F.LCS_MREG i k) : x.storageKey = s.storageKey := by
  have hmreg : x.mreg = s.mreg := funext (fun i => mreg_congr (fun k _ => hm i k))
  funext n attr label
  unfold State.storageKey kdf
  rw [hroot, hmreg, hlc]

theorem SlotsOnly.storageKey (h : SlotsOnly l s x) (hl : ∀ m ∈ l, m < 64) : x.storageKey = s.storageKey :=
  storageKey_congr h.root (h.rd hl (.inr (by decide))) (fun i k => h.rd hl (.inr (by simp only [fldAddr, regAddr, F.LCS_MREG]; omega)))

/-! ## The pieces of a slot's change -/

theorem slotsOnly_setWord {n a : Nat} (s : State) (v : Word) (hn : n ∈ l) (ha : a / 8 = 0x8040020 + n) : SlotsOnly l s (s.setWord a v) :=
  ⟨⟨_, _, _, rfl⟩, fun b hb => word_setWord_ne _ _ (fun h => hb n hn (by rw [h, ha])), rfl, fun _ _ => rfl, fun _ _ => rfl, fun _ _ => rfl⟩

theorem slotsOnly_setSlotAttr {n : Nat} (s : State) (v : Nat) (hn : n ∈ l) : SlotsOnly l s (s.setSlotAttr n v) :=
  slotsOnly_setWord s _ hn (by simp only [fldAddr, regAddr, F.KEY_SLOT_ATTR_USE]; omega)

theorem slotsOnly_label {n : Nat} (s : State) (v : Nat) (hn : n ∈ l) : SlotsOnly l s (s.wr 0 F.KEY_SLOT_LABEL_LABEL v n) :=
  slotsOnly_setWord s _ hn (by simp only [fldAddr, regAddr, F.KEY_SLOT_LABEL_LABEL]; omega)

theorem slotsOnly_pending {n : Nat} (s : State) (v : Nat) (hn : n ∈ l) : SlotsOnly l s (s.wr 0 F.KEY_SLOT_ATTR_PENDING v n) :=
  slotsOnly_setWord s _ hn (by simp only [fldAddr, regAddr, F.KEY_SLOT_ATTR_PENDING]; omega)

theorem slotsOnly_setCache {n : Nat} (s : State) (v : Option (List Byte)) (hn : n ∈ l) : SlotsOnly l s (s.setCache n v) := by
  refine ⟨⟨_, _, _, rfl⟩, fun _ _ => rfl, rfl, fun m hm => ?_, fun _ _ => rfl, fun _ _ => rfl⟩
  have hne : m ≠ n := (ne_of_mem_of_not_mem hn hm).symm
  cases v with
  | none => exact find_filter_ne hne _
  | some b =>
    have hb : ((n, b).1 == m) = false := beq_false_of_ne hne.symm
    unfold setCache
    dsimp only
    rw [List.find?_append, find_filter_ne hne, List.find?_cons_of_neg (by rw [hb]; exact Bool.false_ne_true), List.find?_nil, Option.or_none]

theorem slotsOnly_fromPend (s : State) (f : List Nat) : SlotsOnly l s { s with keys := { s.keys with fromPend := f } } :=
  ⟨⟨_, _, _, rfl⟩, fun _ _ => rfl, rfl, fun _ _ => rfl, fun _ _ => rfl, fun _ _ => rfl⟩

theorem slotsOnly_pend {n : Nat} (s : State) (b : Option Blob) (hn : n ∈ l) :
    SlotsOnly l s { s with keys := { s.keys with pend := putBlob s.keys.pend n b } } :=
  ⟨⟨_, _, _, rfl⟩, fun _ _ => rfl, rfl, fun _ _ => rfl, fun _ _ => rfl, fun _ hm => blobOf_putBlob_ne (ne_of_mem_of_not_mem hn hm).symm _ _⟩

theorem slotsOnly_current {n : Nat} (s : State) (b : Option Blob) (hn : n ∈ l) :
    SlotsOnly l s { s with keys := { s.keys with current := putBlob s.keys.current n b } } :=
  ⟨⟨_, _, _, rfl⟩, fun _ _ => rfl, rfl, fun _ _ => rfl, fun _ hm => blobOf_putBlob_ne (ne_of_mem_of_not_mem hn hm).symm _ _, fun _ _ => rfl⟩

theorem slotsOnly_freeBytes (s : State) (n : Nat) : SlotsOnly l s (s.freeBytes n).2 :=
  ⟨⟨_, _, _, rfl⟩, fun _ _ => rfl, rfl, fun _ _ => rfl, fun _ _ => rfl, fun _ _ => rfl⟩

theorem slotsOnly_ownFirst (s : State) (n o : Nat) : SlotsOnly l s (s.ownFirst n o) := by
  unfold ownFirst
  split
  · exact .refl s
  · exact ⟨⟨_, _, _, rfl⟩, fun _ _ => rfl, rfl, fun _ _ => rfl, fun _ _ => rfl, fun _ _ => rfl⟩

theorem slotsOnly_putBlobs {n : Nat} (s : State) (b : Option Blob) (hn : n ∈ l) : SlotsOnly l s (s.putBlobs n b) := by
  unfold putBlobs
  split
  · exact ((slotsOnly_pend s b hn).trans (slotsOnly_fromPend _ _)).trans (slotsOnly_pending _ _ hn)
  · exact ((slotsOnly_current s b hn).trans (slotsOnly_pend _ none hn)).trans (slotsOnly_pending _ _ hn)

/-- A key put into a slot that is no role's command key. -/
theorem slotsOnly_putKey {n : Nat} (s : State) (attr label : Nat) (key : List Byte) (hn : n ∈ l) (hr : roleOfSlot n = none) :
    SlotsOnly l s (s.putKey n attr label key) := by
  have hrole (y : State) : y.newRoleKey n key = y := by
    unfold newRoleKey
    rw [hr]
  unfold putKey
  dsimp only
  rw [hrole]
  generalize (if n = 1 then attr ||| 0x80000000 else attr) = a
  have hkey := (((slotsOnly_ownFirst s n (bitsOf a 4 2)).trans (slotsOnly_setSlotAttr _ (blobAttr a ||| 0x80) hn)).trans
    (slotsOnly_label _ label hn)).trans (slotsOnly_setCache _ (some key) hn)
  split
  · exact hkey.trans ((slotsOnly_freeBytes _ 12).trans (slotsOnly_putBlobs _ _ hn))
  · exact hkey.trans (slotsOnly_putBlobs _ _ hn)

/-! ## The start of the key store -/

theorem slotsOnly_dropUnstored {n : Nat} (s : State) (hn : n ∈ l) : SlotsOnly l s (s.dropUnstored n) := by
  unfold dropUnstored
  split
  · exact .refl s
  · exact ((slotsOnly_setSlotAttr s _ hn).trans (slotsOnly_label _ _ hn)).trans (slotsOnly_setCache _ _ hn)

theorem slotsOnly_openSlot {n : Nat} (s : State) (hn : n ∈ l) : SlotsOnly l s (s.openSlot n) := by
  unfold openSlot
  split
  · exact .refl s
  · dsimp only
    split
    · exact ((slotsOnly_label s _ hn).trans (slotsOnly_setSlotAttr _ _ hn)).trans (slotsOnly_setCache _ _ hn)
    · exact ((slotsOnly_label s _ hn).trans (slotsOnly_fromPend _ _)).trans
        (((slotsOnly_label _ _ hn).trans (slotsOnly_setSlotAttr _ _ hn)).trans (slotsOnly_setCache _ _ hn))
    · exact ((slotsOnly_label s _ hn).trans (slotsOnly_setSlotAttr _ _ hn)).trans (slotsOnly_setCache _ _ hn)

theorem slotsOnly_bootKey (s : State) (hn : 0 ∈ l) : SlotsOnly l s s.bootKey := by
  unfold bootKey
  split
  · exact (slotsOnly_freeBytes s 32).trans (slotsOnly_putKey _ _ _ _ hn rfl)
  · exact .refl s

theorem slotsOnly_m3Key (s : State) (hn : 2 ∈ l) : SlotsOnly l s s.m3Key := by
  unfold m3Key
  split
  · exact .refl s
  · exact slotsOnly_putKey s _ _ _ hn rfl

/-- A slot's word of attributes reads what was put in it. -/
theorem on_setSlotAttr {f : Fld} (hoff : f.off = 0x200100 ∧ f.s1 = 8 ∧ f.s2 = 0) (hw : f.w = 1) (hlo : f.lo < 32) (s : State) (n v : Nat) :
    (s.setSlotAttr n v).on 0 f n = bitOf v f.lo := by
  have ha : fldAddr 0 f n 0 = fldAddr 0 F.KEY_SLOT_ATTR_USE n 0 := by
    obtain ⟨ho, h1, h2⟩ := hoff
    simp only [fldAddr, ho, h1, h2, F.KEY_SLOT_ATTR_USE]
  have hbit : (s.setSlotAttr n v).rd 0 f n = v % 2 ^ 32 / 2 ^ f.lo % 2 := by
    unfold setSlotAttr State.rd
    rw [ha, word_setWord_same, hw, BitVec.toNat_and, BitVec.toNat_ushiftRight, BitVec.toNat_ofNat, BitVec.toNat_ofNat,
      show (2 ^ 1 - 1) % 2 ^ 32 = 2 ^ 1 - 1 from rfl, Nat.and_two_pow_sub_one_eq_mod, Nat.shiftRight_eq_div_pow]
  unfold State.on
  rw [hbit, ← bitOf_mod hlo]
  unfold bitOf
  rcases Nat.mod_two_eq_zero_or_one (v % 2 ^ 32 / 2 ^ f.lo) with h | h <;> rw [h] <;> rfl

theorem find_setCache_some (s : State) (n : Nat) (k : List Byte) : ((s.setCache n (some k)).keys.cache.find? (fun e => e.1 == n)).map (·.2) = some k := by
  unfold setCache
  dsimp only
  rw [List.find?_append, find_filter_self, Option.none_or, List.find?_cons_of_pos (by exact beq_self_eq_true n)]
  rfl

theorem find_setCache_none (s : State) (n : Nat) : (s.setCache n none).keys.cache.find? (fun e => e.1 == n) = none :=
  find_filter_self n s.keys.cache

theorem on_setCache (s : State) (n : Nat) (v : Option (List Byte)) (d : Nat) (f : Fld) (i j : Nat) :
    (s.setCache n v).on d f i j = s.on d f i j := rfl

theorem slotKey_emptied (s : State) (n : Nat) : (s.setCache n none).slotKey n = none := by
  unfold State.slotKey
  rw [find_setCache_none, Option.map_none, ite_self]

theorem slotKey_filled (s : State) {n v : Nat} {k : List Byte} (hr : s.keys.root.isSome = true) (hv : bitOf v 7 = true) :
    ((s.setSlotAttr n v).setCache n (some k)).slotKey n = some k := by
  unfold State.slotKey
  have hroot : ((s.setSlotAttr n v).setCache n (some k)).keys.root = s.keys.root := rfl
  rw [find_setCache_some, on_setCache, on_setSlotAttr ⟨rfl, rfl, rfl⟩ rfl (by decide), hroot, hr]
  exact if_pos (by rw [show F.KEY_SLOT_ATTR_VALID.lo = 7 from rfl, hv, Bool.and_self])

/-- What a start finds in a slot: the key its blob holds, or STALE (R99). -/
def Opened (n : Nat) (found : Option (List Byte)) (t : State) : Prop :=
  match found with
  | some k => t.slotKey n = some k
  | none => t.slotKey n = none ∧ t.on 0 F.KEY_SLOT_ATTR_STALE n = true

theorem Opened.carry {n : Nat} {found : Option (List Byte)} (h : Opened n found x) (g : SlotsOnly l x y) (hn : n ∉ l) : Opened n found y := by
  unfold Opened at h ⊢
  rwa [g.slotKey hn, g.stale hn]

theorem opened_openSlot {n : Nat} {b : Blob} (hroot : s.keys.root.isSome = true) (hc : blobOf s.keys.current n = some b)
    (hp : blobOf s.keys.pend n = none) : Opened n (openBlob (s.storageKey n b.attr.toNat b.label) b) (s.openSlot n) := by
  unfold openSlot Opened
  rw [hc, hp]
  dsimp only
  rw [if_pos hroot, Option.bind_some, Option.bind_none, ite_self]
  cases openBlob (s.storageKey n b.attr.toNat b.label) b with
  | some k => exact slotKey_filled _ hroot (by rw [bitOf_or, bitOf_or, show bitOf 0x80 7 = true from rfl, Bool.or_true, Bool.true_or])
  | none =>
    refine ⟨slotKey_emptied _ n, ?_⟩
    dsimp only
    rw [on_setCache, on_setSlotAttr ⟨rfl, rfl, rfl⟩ rfl (by decide), bitOf_or, bitOf_or]
    exact (congrArg (· || _) (Bool.or_true _)).trans (Bool.true_or _)

/-- The slots opened at a start, with the two keys of the boot ROM. -/
def slotsOpened (s : State) : State := (((List.range 64).foldl (fun s n => s.openSlot n) s).bootKey).m3Key

theorem slotsOnly_slotsOpened (s : State) : SlotsOnly (List.range 64) s s.slotsOpened :=
  ((SlotsOnly.foldl (fun y _ hm => slotsOnly_openSlot y hm) s).trans (slotsOnly_bootKey _ (by decide))).trans (slotsOnly_m3Key _ (by decide))

/-- A slot is opened once, from the blobs the start finds in it. -/
theorem openSlots_effect {n : Nat} {b : Blob} (hn : n < 64) (hroot : s.keys.root.isSome = true) (hc : blobOf s.keys.current n = some b)
    (hp : blobOf s.keys.pend n = none) :
    Opened n (openBlob (s.storageKey n b.attr.toNat b.label) b) ((List.range 64).foldl (fun s n => s.openSlot n) s) := by
  obtain ⟨before, after, hsplit⟩ := List.append_of_mem (List.mem_range.mpr hn)
  have hlt : ∀ m ∈ before, m < 64 := fun m hm => List.mem_range.mp (by rw [hsplit]; exact List.mem_append_left _ hm)
  have hnodup : (before ++ n :: after).Nodup := hsplit ▸ List.nodup_range
  have hafter : n ∉ after := (List.nodup_cons.mp (List.nodup_append.mp hnodup).2.1).1
  have hbefore : n ∉ before := fun hm => (List.nodup_append.mp hnodup).2.2 n hm n List.mem_cons_self rfl
  rw [hsplit, List.foldl_append, List.foldl_cons]
  have hfirst : SlotsOnly before s (before.foldl (fun s n => s.openSlot n) s) := .foldl (fun y _ hm => slotsOnly_openSlot y hm) s
  have hopen := opened_openSlot (by rw [hfirst.root]; exact hroot) ((hfirst.current n hbefore).trans hc) ((hfirst.pend n hbefore).trans hp)
  rw [hfirst.storageKey hlt] at hopen
  exact hopen.carry (.foldl (fun y _ hm => slotsOnly_openSlot y hm) _) hafter

theorem slotsOpened_effect {n : Nat} {b : Blob} (h2 : 2 < n) (hn : n < 64) (hroot : s.keys.root.isSome = true)
    (hc : blobOf s.keys.current n = some b) (hp : blobOf s.keys.pend n = none) :
    Opened n (openBlob (s.storageKey n b.attr.toNat b.label) b) s.slotsOpened := by
  have hrom (y : State) : SlotsOnly [0, 2] y y.bootKey.m3Key := (slotsOnly_bootKey y (by decide)).trans (slotsOnly_m3Key _ (by decide))
  refine (openSlots_effect hn hroot hc hp).carry (hrom _) ?_
  simp only [List.mem_cons, List.not_mem_nil, or_false]
  omega

theorem current_openSlot (s : State) (n : Nat) : (s.openSlot n).keys.current = s.keys.current := by
  unfold openSlot
  split
  · rfl
  · dsimp only
    split <;> rfl

theorem current_slotsOpened {n : Nat} (h2 : 2 < n) : blobOf s.slotsOpened.keys.current n = blobOf s.keys.current n := by
  have hopen : ((List.range 64).foldl (fun s n => s.openSlot n) s).keys.current = s.keys.current :=
    List.foldlRecOn (motive := fun y : State => y.keys.current = s.keys.current) _ _ rfl (fun y hy n _ => (current_openSlot y n).trans hy)
  have hrom (y : State) : SlotsOnly [0, 2] y y.bootKey.m3Key := (slotsOnly_bootKey y (by decide)).trans (slotsOnly_m3Key _ (by decide))
  have hn : n ∉ [0, 2] := by
    simp only [List.mem_cons, List.not_mem_nil, or_false]
    omega
  unfold slotsOpened
  generalize (List.range 64).foldl (fun s n => s.openSlot n) s = y at hopen ⊢
  rw [(hrom y).current n hn, hopen]

theorem keeps_drawRoot (s : State) : Keeps s s.drawRoot := by
  have hfree : Keeps s { (s.freeBytes 32).2 with keys := { (s.freeBytes 32).2.keys with root := some (s.freeBytes 32).1 } } := ⟨rfl, rfl, rfl⟩
  unfold drawRoot
  split
  · exact keeps_trans hfree (keeps_of_calm (calm_wr _ _ _ _ _ (calm_wr _ _ _ _ _ (calm_wr _ _ _ _ _ (calm_wr _ _ _ _ _
      (calm_wr _ _ _ _ _ (calm_refl _)))))))
  · exact ⟨rfl, rfl, rfl⟩

theorem drawRoot_of_root (h : s.keys.root.isSome = true) : s.drawRoot = s := by
  unfold drawRoot
  rw [if_neg]
  rw [Option.isNone_eq_false_iff.mpr h]
  exact Bool.false_ne_true

/-- The key store when its slots are about to be opened: the entropy source ready, and nothing taken from a pending blob. -/
def storeReady (s : State) : State :=
  { s.wr 0 F.KEY_STAT_ENTROPY_OK 1 with keys := { (s.wr 0 F.KEY_STAT_ENTROPY_OK 1).keys with fromPend := [] } }

theorem rd_storeReady (s : State) (d : Nat) (f : Fld) (i j : Nat) :
    s.storeReady.rd d f i j = (s.wr 0 F.KEY_STAT_ENTROPY_OK 1).rd d f i j := rfl

theorem keeps_withKeys (s : State) (k : Keys) : Keeps s { s with keys := k } := ⟨rfl, rfl, rfl⟩

theorem keeps_storeReady (s : State) : Keeps s s.storeReady := by
  have h : Keeps s (s.wr 0 F.KEY_STAT_ENTROPY_OK 1) := keeps_of_calm (calm_wr _ _ _ _ _ (calm_refl s))
  unfold storeReady
  exact keeps_trans h (keeps_withKeys _ _)

theorem on_storeReady (s : State) : s.storeReady.on 0 F.KEY_STAT_ENTROPY_OK = true := by
  have hon : (s.wr 0 F.KEY_STAT_ENTROPY_OK 1).on 0 F.KEY_STAT_ENTROPY_OK = true := on_wr_one (by decide) rfl
  unfold State.on at hon ⊢
  rwa [rd_storeReady]

theorem storageKey_storeReady (s : State) : s.storeReady.storageKey = s.storageKey := by
  refine storageKey_congr rfl ?_ (fun i k => ?_)
  · unfold lifeState
    rw [rd_storeReady, rd_wr_apart _ _ _ _ _ _ _ _ _ _ (.inl (by decide))]
  · rw [rd_storeReady, rd_wr_apart]
    left
    simp only [fldAddr, regAddr, F.LCS_MREG, F.KEY_STAT_ENTROPY_OK]
    omega

theorem keyStoreStart_eq (s : State) (fresh : Bool) : s.keyStoreStart fresh =
    (if fresh then (List.range 64).foldl (fun s n => s.dropUnstored n) s.drawRoot.storeReady else s.drawRoot.storeReady).slotsOpened := by
  unfold keyStoreStart slotsOpened storeReady
  rfl

theorem keyStoreStart_effect (s : State) (fresh : Bool) : (s.keyStoreStart fresh).on 0 F.KEY_STAT_ENTROPY_OK = true ∧ Keeps s (s.keyStoreStart fresh) := by
  have hready : Keeps s s.drawRoot.storeReady :=
    keeps_trans (keeps_drawRoot s) (keeps_storeReady _)
  have hslots : SlotsOnly (List.range 64) s.drawRoot.storeReady (s.keyStoreStart fresh) := by
    rw [keyStoreStart_eq]
    refine SlotsOnly.trans ?_ (slotsOnly_slotsOpened _)
    split
    · exact .foldl (fun y _ hm => slotsOnly_dropUnstored y hm) _
    · exact .refl _
  exact ⟨(hslots.on (fun m hm => List.mem_range.mp hm) (.inl (by decide))).trans (on_storeReady _), keeps_trans hready hslots.keeps⟩

theorem keyStoreStart_opens {n : Nat} {b : Blob} (h2 : 2 < n) (hn : n < 64) (hroot : s.keys.root.isSome = true)
    (hc : blobOf s.keys.current n = some b) (hp : blobOf s.keys.pend n = none) :
    blobOf (s.keyStoreStart false).keys.current n = some b ∧ Opened n (openBlob (s.storageKey n b.attr.toNat b.label) b) (s.keyStoreStart false) := by
  rw [keyStoreStart_eq, drawRoot_of_root hroot, if_neg Bool.false_ne_true, ← storageKey_storeReady]
  exact ⟨(current_slotsOpened h2).trans hc, slotsOpened_effect h2 hn hroot hc hp⟩

/-- SLOT_OPEN once the set is chosen. -/
theorem slotOpen_booted (h : s.pkg.booted = true) :
    s.slotOpen = { s.keyStoreStart s.pkg.fresh with pkg := { (s.keyStoreStart s.pkg.fresh).pkg with fresh := false } } := by
  unfold slotOpen
  rw [if_pos h]

end State

end Sys2Proof.Machine

/-! # The confirmation of a trial (R85, R101) -/

namespace Sys2Proof.Machine

/-- Six fields of four bits in one word. -/
def nibbles (g : Nat → Nat) : Nat := (List.range 6).foldl (fun n c => n + 2 ^ (4 * c) * g c) 0

theorem bitsOf_nibbles {g : Nat → Nat} (hg : ∀ c, g c < 16) {k : Nat} (hk : k < 6) : bitsOf (nibbles g % 2 ^ 24) (4 * k) 4 = g k := by
  have hsum : nibbles g = g 0 + 16 * g 1 + 256 * g 2 + 4096 * g 3 + 65536 * g 4 + 1048576 * g 5 := by
    unfold nibbles
    simp only [List.range_succ, List.range_zero, List.nil_append, List.cons_append, List.foldl_cons, List.foldl_nil]
    omega
  have h0 := hg 0
  have h1 := hg 1
  have h2 := hg 2
  have h3 := hg 3
  have h4 := hg 4
  have h5 := hg 5
  unfold bitsOf
  rw [hsum]
  interval_cases k <;> omega

namespace State

variable {s x y t : State}

theorem keeps_of_writesOnly {l : List Nat} (h : WritesOnly l s x) : Keeps s x := by
  rw [h.1]
  exact ⟨rfl, rfl, rfl⟩

/-! ## Pending blobs made current -/

theorem slotsOnly_keyConfirm (s : State) : SlotsOnly (List.range 64) s s.keyConfirm := by
  refine .foldl (fun y n hn => ?_) s
  have htaken : SlotsOnly (List.range 64) y (if y.keys.fromPend.contains n then
      { y with keys := { y.keys with current := putBlob y.keys.current n (blobOf y.keys.pend n) } } else y) := by
    split
    · exact slotsOnly_current y _ hn
    · exact .refl y
  dsimp only
  split
  · exact htaken
  · exact htaken.trans ((slotsOnly_pend _ none hn).trans (slotsOnly_pending _ _ hn))

/-! ## The floors (R85) -/

/-- A class's floor once its image is confirmed in a bank. -/
def raisedFloor (s : State) (b c : Nat) : Nat :=
  max (bitsOf (s.rd 0 F.LCS_FLOOR_FLOOR) (4 * c) 4) (if s.verified 0 b c then imgSecVer (s.image 0 b c) % 16 else 0)

theorem raisedFloor_lt (s : State) (b c : Nat) : s.raisedFloor b c < 16 := by
  have hold := bitsOf_lt (s.rd 0 F.LCS_FLOOR_FLOOR) (4 * c) 4
  unfold raisedFloor
  split <;> omega

theorem SameBanks.raisedFloor (h : SameBanks s x) (b : Nat) : x.raisedFloor b = s.raisedFloor b := by
  funext c
  unfold State.raisedFloor
  rw [h.floor, h.verified, h.image]

theorem le_raisedFloor (s : State) (b c : Nat) : bitsOf (s.rd 0 F.LCS_FLOOR_FLOOR) (4 * c) 4 ≤ s.raisedFloor b c ∧
    (s.verified 0 b c = true → imgSecVer (s.image 0 b c) % 16 ≤ s.raisedFloor b c) := by
  unfold raisedFloor
  refine ⟨le_max_left .., fun h => ?_⟩
  rw [if_pos h]
  exact le_max_right ..

/-! ## LCS_CONFIRM -/

/-- The bank registers once a trial is confirmed. -/
def bankChosen (s : State) : State :=
  ((s.wr 0 F.LCS_BANK_ACTIVE (s.rd 0 F.LCS_BANK_PEND_BANK)).wr 0 F.LCS_BANK_PENDING 0).wr 0 F.LCS_BOOT_TRIAL 0

/-- The registers, with the record of the trial. -/
def bankConfirmed (s : State) : State := { s.bankChosen with lcs := { s.bankChosen.lcs with trialRec := false } }

theorem writesOnly_bankChosen (s : State) : WritesOnly [fldAddr 0 F.LCS_BANK 0 0, fldAddr 0 F.LCS_BOOT 0 0] s s.bankChosen :=
  writesOnly_wr (List.mem_cons_of_mem _ List.mem_cons_self) (writesOnly_wr List.mem_cons_self (writesOnly_wr List.mem_cons_self writesOnly_refl))

theorem active_bankChosen (s : State) : s.bankChosen.rd 0 F.LCS_BANK_ACTIVE = s.rd 0 F.LCS_BANK_PEND_BANK := by
  unfold bankChosen
  rw [rd_wr_apart _ _ _ _ _ _ _ _ _ _ (.inl (by decide)), rd_wr_apart _ _ _ _ _ _ _ _ _ _ (.inr (.inr (by decide))),
    rd_wr_same _ _ _ _ _ _ (by decide)]
  exact Nat.mod_eq_of_lt (rd_lt s 0 F.LCS_BANK_PEND_BANK 0 0 (by decide))

theorem pending_bankChosen (s : State) : s.bankChosen.on 0 F.LCS_BANK_PENDING = false := by
  unfold bankChosen
  rw [on_wr_apart (.inl (by decide)), on_wr_zero (by decide)]

/-- What the change of the bank registers leaves. -/
structure BankConfirmed (s t : State) : Prop where
  active : t.rd 0 F.LCS_BANK_ACTIVE = s.rd 0 F.LCS_BANK_PEND_BANK
  pending : t.on 0 F.LCS_BANK_PENDING = false
  trial : t.on 0 F.LCS_BOOT_TRIAL = false
  record : t.lcs.trialRec = false
  banks : SameBanks s t
  keeps : Keeps s t

theorem bankConfirmed_effect (s : State) : BankConfirmed s s.bankConfirmed := by
  have hactive := s.active_bankChosen
  have hpending := s.pending_bankChosen
  have htrial : s.bankChosen.on 0 F.LCS_BOOT_TRIAL = false := on_wr_zero (by decide)
  have hbanks := SameBanks.of_writesOnly s.writesOnly_bankChosen (by decide) (by decide) (by decide)
  have hkeep := keeps_of_writesOnly s.writesOnly_bankChosen
  unfold bankConfirmed
  generalize s.bankChosen = y at hactive hpending htrial hkeep hbanks ⊢
  exact ⟨hactive, hpending, htrial, rfl, hbanks.trans ⟨rfl, rfl, rfl, rfl, rfl, rfl, rfl, rfl⟩, keeps_trans hkeep ⟨rfl, rfl, rfl⟩⟩

theorem lcsConfirm_confirms {d : Fin 8} {c : Fin 2} {u : Bool} (ht : s.on 0 F.LCS_BOOT_TRIAL = true) (hl : s.leadRuns = true)
    (hr : s.lcs.restart = none) : s.lcsConfirm (.app d c u) 0x434F4E46 =
      (((s.bankConfirmed).wr 0 F.LCS_FLOOR_FLOOR (nibbles (s.bankConfirmed.raisedFloor (s.rd 0 F.LCS_BANK_PEND_BANK)))).keyConfirm).stagedCheck := by
  unfold lcsConfirm
  dsimp only
  rw [if_pos ⟨rfl, ht, hl, hr⟩]
  rfl

/-- After the bank registers, the floors, the blobs and the staged set follow. -/
theorem lcsConfirm_effect {d : Fin 8} {c : Fin 2} {u : Bool} (ht : s.on 0 F.LCS_BOOT_TRIAL = true) (hl : s.leadRuns = true)
    (hr : s.lcs.restart = none) :
    (s.lcsConfirm (.app d c u) 0x434F4E46).rd 0 F.LCS_BANK_ACTIVE = s.rd 0 F.LCS_BANK_PEND_BANK ∧
      (s.lcsConfirm (.app d c u) 0x434F4E46).on 0 F.LCS_BANK_PENDING = false ∧
      (s.lcsConfirm (.app d c u) 0x434F4E46).on 0 F.LCS_BOOT_TRIAL = false ∧
      (s.lcsConfirm (.app d c u) 0x434F4E46).lcs.trialRec = false ∧ Keeps s (s.lcsConfirm (.app d c u) 0x434F4E46) ∧
      ∀ k, k < 6 → bitsOf ((s.lcsConfirm (.app d c u) 0x434F4E46).rd 0 F.LCS_FLOOR_FLOOR) (4 * k) 4 =
        s.raisedFloor (s.rd 0 F.LCS_BANK_PEND_BANK) k := by
  have hb := s.bankConfirmed_effect
  rw [lcsConfirm_confirms ht hl hr, hb.banks.raisedFloor]
  generalize s.bankConfirmed = y at hb ⊢
  generalize hg : s.raisedFloor (s.rd 0 F.LCS_BANK_PEND_BANK) = g
  have hfloor : (y.wr 0 F.LCS_FLOOR_FLOOR (nibbles g)).rd 0 F.LCS_FLOOR_FLOOR = nibbles g % 2 ^ 24 := rd_wr_same _ _ _ _ _ _ (by decide)
  have hlt (c : Nat) : g c < 16 := hg ▸ raisedFloor_lt s _ c
  have hkey := slotsOnly_keyConfirm (y.wr 0 F.LCS_FLOOR_FLOOR (nibbles g))
  have hrange : ∀ m ∈ List.range 64, m < 64 := fun m hm => List.mem_range.mp hm
  have hstaged := writesOnly_stagedCheck (y.wr 0 F.LCS_FLOOR_FLOOR (nibbles g)).keyConfirm
  have hrd {f : Fld} (h0 : fldAddr 0 f 0 0 ∉ [stagedAddr]) (h1 : 0x40200300 ≤ fldAddr 0 f 0 0) :
      ((y.wr 0 F.LCS_FLOOR_FLOOR (nibbles g)).keyConfirm).stagedCheck.rd 0 f = (y.wr 0 F.LCS_FLOOR_FLOOR (nibbles g)).rd 0 f :=
    (writesOnly_rd hstaged h0).trans (hkey.rd hrange (.inr h1))
  have hother {f : Fld} (h0 : fldAddr 0 f 0 0 ∉ [stagedAddr]) (h1 : 0x40200300 ≤ fldAddr 0 f 0 0)
      (h2 : fldAddr 0 f 0 0 ≠ fldAddr 0 F.LCS_FLOOR_FLOOR 0 0) :
      ((y.wr 0 F.LCS_FLOOR_FLOOR (nibbles g)).keyConfirm).stagedCheck.rd 0 f = y.rd 0 f :=
    (hrd h0 h1).trans (rd_wr_apart _ _ _ _ _ _ _ _ _ _ (.inl h2))
  refine ⟨(hother (by decide) (by decide) (by decide)).trans hb.active, ?_, ?_, ?_, ?_, fun k hk => ?_⟩
  · unfold State.on
    rw [hother (by decide) (by decide) (by decide)]
    exact hb.pending
  · unfold State.on
    rw [hother (by decide) (by decide) (by decide)]
    exact hb.trial
  · rw [lcs_stagedCheck, hkey.lcs, wr_lcs]
    exact hb.record
  · exact keeps_trans hb.keeps (keeps_trans (keeps_of_calm (calm_wr _ _ _ _ _ (calm_refl y)))
      (keeps_trans hkey.keeps (keeps_of_writesOnly hstaged)))
  · rw [hrd (by decide) (by decide), hfloor, bitsOf_nibbles hlt hk]

/-- A write of another value, or none that a trial waits for, is only noted. -/
theorem lcsConfirm_other {d : Fin 8} {c : Fin 2} {u : Bool} {v : Word} (h : v ≠ 0x434F4E46) :
    (s.lcsConfirm (.app d c u) v).regs = s.regs ∧ (s.lcsConfirm (.app d c u) v).lcs = s.lcs ∧ Keeps s (s.lcsConfirm (.app d c u) v) := by
  unfold lcsConfirm
  dsimp only
  rw [if_neg (fun hc => h hc.1)]
  exact ⟨rfl, rfl, rfl, rfl, rfl⟩

theorem mreg7Ext_other {r : Requester} (h : leadMachine r = false) (v : Word) : (s.mreg7Ext r v).regs = s.regs ∧ Keeps s (s.mreg7Ext r v) := by
  unfold mreg7Ext accessEvent
  rw [if_neg (by rw [h]; exact Bool.false_ne_true)]
  exact ⟨rfl, rfl, rfl, rfl⟩

theorem slotOpen_effect (h : s.pkg.booted = true) :
    s.slotOpen.on 0 F.KEY_STAT_ENTROPY_OK = true ∧ s.slotOpen.pkg.fresh = false ∧ Keeps s s.slotOpen ∧
      (s.pkg.fresh = false → s.keys.root.isSome = true → ∀ n b, 2 < n → n < 64 → blobOf s.keys.current n = some b →
        blobOf s.keys.pend n = none → blobOf s.slotOpen.keys.current n = some b ∧
          Opened n (openBlob (s.storageKey n b.attr.toNat b.label) b) s.slotOpen) := by
  have hopens : s.pkg.fresh = false → s.keys.root.isSome = true → ∀ n b, 2 < n → n < 64 → blobOf s.keys.current n = some b →
      blobOf s.keys.pend n = none → blobOf (s.keyStoreStart s.pkg.fresh).keys.current n = some b ∧
        Opened n (openBlob (s.storageKey n b.attr.toNat b.label) b) (s.keyStoreStart s.pkg.fresh) := by
    intro hf hroot n b h2 hn hcur hpend
    rw [hf]
    exact keyStoreStart_opens h2 hn hroot hcur hpend
  obtain ⟨hentropy, hkeep⟩ := keyStoreStart_effect s s.pkg.fresh
  rw [slotOpen_booted h]
  generalize s.keyStoreStart s.pkg.fresh = y at hopens hentropy hkeep ⊢
  exact ⟨hentropy, rfl, hkeep, hopens⟩

end State

open State

/-- Settles O20: `lcsConfirm_effect` for the confirmation, `mreg7Ext_effect` for the extension, `stageChecked_effect` for the
checks and `keyStoreStart_opens` for the slots. -/
theorem trialAndStaging : Obligations.TrialAndStaging := by
  unfold Obligations.TrialAndStaging
  intro s r d c u v
  refine ⟨fun ht hl hr => ⟨_, rfl, ?_⟩, fun hv => ⟨_, rfl, lcsConfirm_other hv⟩, fun ht hl hr => ⟨_, rfl, trialExpiry_effect ht hl hr⟩,
    fun hm => ⟨_, rfl, mreg7Ext_effect hm v⟩, fun hm => ⟨_, rfl, mreg7Ext_other hm v⟩, fun hc => ⟨_, rfl, ?_⟩, fun hb => ⟨_, rfl, ?_⟩⟩
  · obtain ⟨hactive, hpending, htrial, hrec, hkeep, hfloor⟩ := lcsConfirm_effect (d := d) (c := c) (u := u) ht hl hr
    refine ⟨hactive, hpending, htrial, hrec, hkeep, fun k hk => ?_⟩
    rw [hfloor k hk]
    exact le_raisedFloor s _ k
  · have h := stageChecked_effect hc
    exact ⟨h.checking, h.done, h.valid, h.covered, h.keeps⟩
  · obtain ⟨hentropy, hfresh, hkeep, hopens⟩ := slotOpen_effect hb
    refine ⟨hentropy, hfresh, hkeep, fun hf hroot n b h2 hn hcur hpend => ?_⟩
    obtain ⟨hblob, hopen⟩ := hopens hf hroot n b h2 hn hcur hpend
    refine ⟨hblob, ?_⟩
    unfold Opened at hopen
    generalize openBlob (s.storageKey n b.attr.toNat b.label) b = found at hopen ⊢
    cases found <;> exact hopen

end Sys2Proof.Machine

/-! # The start of the meter head and the choice of the set (R66, R74 to R77) -/

namespace Sys2Proof.Machine

namespace State

variable {s x y t : State}

/-! ## What the end of a start leaves of the choice -/

/-- The fields of LCS_BOOT that say what the choice came to. -/
def choiceFields : List Fld := [F.LCS_BOOT_SET_BANK, F.LCS_BOOT_CERT_IDX, F.LCS_BOOT_FALLBACK, F.LCS_BOOT_HOLD]

/-- From `s` to `t` a start has gone on after its choice: the fields of the choice, the runs of the dies, the commands of the safety
outputs and the INH of HOLD stand. -/
structure Chosen (s t : State) : Prop where
  boot : ∀ f ∈ choiceFields, t.rd 0 f = s.rd 0 f
  sout : ∀ (d : Fin 8) (k : Fin 4), t.rd d F.SAF_OUT_CMD k = s.rd d F.SAF_OUT_CMD k
  inh : ∀ p, t.inhBy p Inh.hold = s.inhBy p Inh.hold
  die : t.pkg.die = s.pkg.die
  booted : t.pkg.booted = s.pkg.booted
  keeps : Keeps s t

theorem Chosen.refl : Chosen s s := ⟨fun _ _ => rfl, fun _ _ => rfl, fun _ => rfl, rfl, rfl, keeps_refl⟩

theorem Chosen.trans (h : Chosen s x) (g : Chosen x y) : Chosen s y where
  boot := fun f hf => (g.boot f hf).trans (h.boot f hf)
  sout := fun d k => (g.sout d k).trans (h.sout d k)
  inh := fun p => (g.inh p).trans (h.inh p)
  die := g.die.trans h.die
  booted := g.booted.trans h.booted
  keeps := keeps_trans h.keeps g.keeps

theorem Chosen.ite {c : Prop} [Decidable c] {t u : State} (ht : Chosen s t) (hu : Chosen s u) : Chosen s (if c then t else u) := by
  split
  · exact ht
  · exact hu

theorem Chosen.foldl {α : Type} {f : State → α → State} (hf : ∀ y a, Chosen y (f y a)) (l : List α) (h : Chosen s x) : Chosen s (l.foldl f x) :=
  List.foldlRecOn (motive := fun y => Chosen s y) l f h (fun y hy a _ => hy.trans (hf y a))

/-- Typed state that the choice does not speak of. -/
theorem Chosen.same (h : Chosen s x) (hr : t.regs = x.regs := by rfl) (hg : t.pkg = x.pkg := by rfl) (hm : t.mem = x.mem := by rfl)
    (hp : t.pending = x.pending := by rfl) (hn : t.now = x.now := by rfl) : Chosen s t :=
  h.trans ⟨fun _ _ => rd_of_regs hr .., fun _ _ => rd_of_regs hr .., fun p => by unfold inhBy; rw [hg], by rw [hg], by rw [hg], hm, hp, hn⟩

theorem Chosen.setWord (h : Chosen s x) {a : Nat} {v : Word} (hb : fldAddr 0 F.LCS_BOOT 0 0 ≠ a)
    (ho : ∀ (d : Fin 8) (k : Fin 4), fldAddr d F.SAF_OUT_CMD k 0 ≠ a) : Chosen s (x.setWord a v) := by
  refine h.trans ⟨fun f hf => ?_, fun d k => ?_, fun _ => rfl, rfl, rfl, rfl, rfl, rfl⟩
  · have ha : fldAddr 0 f 0 0 = fldAddr 0 F.LCS_BOOT 0 0 := by
      simp only [choiceFields, List.mem_cons, List.not_mem_nil, or_false] at hf
      rcases hf with rfl | rfl | rfl | rfl <;> rfl
    unfold State.rd
    rw [ha, word_setWord_ne _ _ hb]
  · unfold State.rd
    rw [word_setWord_ne _ _ (ho d k)]

theorem Chosen.wrApart (h : Chosen s x) {d v i j : Nat} {f : Fld} (hb : ∀ g ∈ choiceFields, Apart d f i j 0 g 0 0)
    (ho : ∀ (e : Fin 8) (k : Fin 4), Apart d f i j e F.SAF_OUT_CMD k 0) : Chosen s (x.wr d f v i j) :=
  h.trans ⟨fun g hg => rd_wr_apart _ _ _ _ _ _ _ _ _ _ (hb g hg), fun e k => rd_wr_apart _ _ _ _ _ _ _ _ _ _ (ho e k),
    fun p => by unfold inhBy; rw [wr_pkg], by rw [wr_pkg], by rw [wr_pkg], wr_mem .., wr_pending .., wr_now ..⟩

theorem Chosen.twin (h : Chosen s x) (v : Twin) : Chosen s { x with twin := v } := h.same

theorem Chosen.lcs (h : Chosen s x) (v : Lcs) : Chosen s { x with lcs := v } := h.same

theorem Chosen.saf (h : Chosen s x) (v : Vector Saf 8) : Chosen s { x with saf := v } := h.same

/-- A field of a die outside the register of the choice and the commands of the outputs. -/
def sparesChoice (f : Fld) : Bool :=
  decide (f.off < 0x1000000) && decide (f.off % 0x10000 + 15 * f.s1 < 0x10000) &&
    (List.range 16).all (fun i => f.off + i * f.s1 != 0x250004 && (List.range 4).all (fun k => f.off + i * f.s1 != 0xC0020 + k * 4))

theorem Chosen.wr (h : Chosen s x) {d v i : Nat} {f : Fld} (hf : sparesChoice f = true := by decide)
    (hi : i < 16 := by omega) : Chosen s (x.wr d f v i) := by
  simp only [sparesChoice, Bool.and_eq_true, decide_eq_true_eq, List.all_eq_true, List.mem_range, bne_iff_ne] at hf
  obtain ⟨⟨ho, hs⟩, hf⟩ := hf
  obtain ⟨hboot, hsout⟩ := hf i hi
  have hm : i * f.s1 ≤ 15 * f.s1 := Nat.mul_le_mul_right _ (by omega)
  refine h.setWord ?_ (fun e k => ?_)
  · simp only [fldAddr, regAddr, F.LCS_BOOT]
    omega
  · have hk := hsout k k.isLt
    simp only [fldAddr, regAddr, F.SAF_OUT_CMD]
    omega

theorem Chosen.raise (h : Chosen s x) {d i : Nat} {ev first : Fld} (he : sparesChoice ev = true := by decide)
    (hf : sparesChoice first = true := by decide) (hi : i < 16 := by omega) : Chosen s (x.raise d ev first i) := by
  unfold State.raise
  exact .ite ((h.wr he hi).wr hf hi) (h.wr he hi)

theorem Chosen.info (h : Chosen s x) (d : Fin 8) (code block index : Nat) (data : List Nat) : Chosen s (x.info d code block index data) := h.same

theorem Chosen.setMreg (h : Chosen s x) {n : Nat} (hn : n < 8) (l : List Byte) : Chosen s (x.setMreg n l) := by
  have hstep (y : State) (k : Nat) (hk : k < 8) : Chosen y (y.wr 0 F.LCS_MREG (field l (4 * k) 4) n k) := by
    refine Chosen.refl.setWord ?_ (fun e j => ?_)
    · simp only [fldAddr, regAddr, F.LCS_MREG, F.LCS_BOOT]
      omega
    · simp only [fldAddr, regAddr, F.LCS_MREG, F.SAF_OUT_CMD]
      omega
  exact List.foldlRecOn (motive := fun y => Chosen s y) _ _ h (fun y hy k hk => hy.trans (hstep y k (List.mem_range.mp hk)))

theorem Chosen.setMregs (h : Chosen s x) (b : Nat) : Chosen s (x.setMregs b) := by
  refine List.foldlRecOn (motive := fun y => Chosen s y) _ _ h (fun y hy c hc => ?_)
  simp only [List.mem_cons, List.not_mem_nil, or_false] at hc
  rcases hc with rfl | rfl | rfl | rfl | rfl <;> exact hy.setMreg (by decide) _

theorem Chosen.startStaged (h : Chosen s x) : Chosen s x.startStaged := by
  have hw := writesOnly_stagedCheck x
  have hword : ∀ a, a ≠ stagedAddr → x.stagedCheck.word a = x.word a := fun a ha => hw.2 a (fun hm => ha (List.mem_singleton.mp hm))
  have hchosen : Chosen x x.stagedCheck := by
    refine ⟨fun f hf => writesOnly_rd hw ?_, fun d k => writesOnly_rd hw ?_, fun p => ?_, ?_, ?_, keeps_of_writesOnly hw⟩
    · simp only [choiceFields, List.mem_cons, List.not_mem_nil, or_false] at hf
      rcases hf with rfl | rfl | rfl | rfl <;> decide
    · simp only [List.mem_singleton, stagedAddr, fldAddr, regAddr, F.SAF_OUT_CMD, F.LCS_STAGED_VALID]
      omega
    · rw [hw.1]
      rfl
    · rw [hw.1]
    · rw [hw.1]
  exact (h.trans hchosen).wr

/-- Another cause of INH. -/
theorem Chosen.setInh (h : Chosen s x) (p : Fin 32) {c : Fin 12} (hc : c ≠ Inh.hold) (b : Bool) : Chosen s (x.setInh p c b) := by
  have hput : (x.setInh p c b).pkg = (x.putInh p c b).pkg := by
    have hacq : Acquired (x.putInh p c b) (x.setInh p c b) := .ite (Acquired.refl.acqEvent ..) .refl
    exact hacq.pkg
  have hwords : Confined portZones x (x.setInh p c b) := Confined.refl.setInh p c b
  refine h.trans ⟨fun f hf => hwords.rd _ _ _ _ ?_, fun d k => hwords.rd _ _ _ _ ?_, fun q => ?_, ?_, ?_, keeps_of_calm (calm_setInh _ _ _ (calm_refl x))⟩
  · simp only [choiceFields, List.mem_cons, List.not_mem_nil, or_false] at hf
    rcases hf with rfl | rfl | rfl | rfl <;> decide
  · rw [zone_die d.isLt (by omega) (by decide) (by decide)]
    decide
  · rw [inhBy_setInh_eq, if_neg (fun hq => hc hq.2.symm)]
  · rw [hput]
    rfl
  · rw [hput]
    rfl

theorem Chosen.startInh (h : Chosen s x) : Chosen s x.startInh := by
  have hdie (y : State) (d : Fin 8) (b : Bool) : Chosen y (y.setInhDie d Inh.lifeCycle b) :=
    (((Chosen.refl.setInh _ (by decide) b).setInh _ (by decide) b).setInh _ (by decide) b).setInh _ (by decide) b
  exact h.foldl (fun y d => hdie y d _) _

/-! ## The role after a start -/

theorem Chosen.setRole (h : Chosen s x) (r cause : Nat) : Chosen s (x.setRole r cause) :=
  .ite h.wr.wr (h.wr.wr.info 0 _ _ _ _)

/-- The latched copy stands beside the command in a port's output register. -/
theorem Chosen.latched (h : Chosen s x) (d : Fin 8) (k : Fin 4) (v : Nat) : Chosen s (x.wr d F.SAF_OUT_LATCHED v k) := by
  refine h.wrApart (fun g hg => .inl ?_) (fun _ _ => .inr (.inr (by decide)))
  simp only [choiceFields, List.mem_cons, List.not_mem_nil, or_false] at hg
  rcases hg with rfl | rfl | rfl | rfl <;> simp only [fldAddr, regAddr, F.SAF_OUT_LATCHED, F.LCS_BOOT_SET_BANK, F.LCS_BOOT_CERT_IDX,
    F.LCS_BOOT_FALLBACK, F.LCS_BOOT_HOLD] <;> omega

theorem Chosen.outputsOff (h : Chosen s x) : Chosen s x.outputsOff := by
  have hlatch : Chosen s (x.onDies (fun s d => s.onPorts (fun s k => s.wr d F.SAF_OUT_LATCHED (s.soutDrive d k) k))) :=
    h.foldl (fun y d => Chosen.refl.foldl (fun y k => Chosen.refl.latched d k _) _) _
  have hlatched : Chosen s x.latchOutputs := hlatch.twin _
  exact .ite hlatched.wr h

theorem Chosen.claimDrop (h : Chosen s x) : Chosen s x.claimDrop := by
  unfold State.claimDrop
  exact (Chosen.outputsOff (.ite (h.twin _) h)).wr

theorem Chosen.toHeld (h : Chosen s x) (cause : Nat) : Chosen s (x.toHeld cause) :=
  have hregs : Chosen s (((x.setRole 3 cause).wr 0 F.TWN_STAT_SYNCED 0).wr 0 F.TWN_RESYNC_BUSY 0) := (h.setRole 3 cause).wr.wr
  hregs.twin _

theorem Chosen.resyncStart (h : Chosen s x) : Chosen s x.resyncStart := by
  have hbegun : Chosen s (((x.setRole 3 1).wr 0 F.TWN_RESYNC_PROGRESS 0).updTwin (fun t => { t with copied := [], good := 0, discards := 0 })) :=
    (h.setRole 3 1).wr.twin _
  unfold State.resyncStart
  refine .ite h ?_
  dsimp only
  generalize ((x.setRole 3 1).wr 0 F.TWN_RESYNC_PROGRESS 0).updTwin (fun t => { t with copied := [], good := 0, discards := 0 }) = y at hbegun ⊢
  exact .ite (hbegun.wr.setRole 3 2) (.ite (hbegun.wr.raise.setRole 3 3) hbegun.wr.wr)

theorem Chosen.startRole (h : Chosen s x) : Chosen s x.startRole :=
  .ite (h.claimDrop.toHeld 6) (.ite (h.setRole 3 1).resyncStart h)

/-- The staged set's status, INH and the role at the end of a start. -/
theorem Chosen.ended (h : Chosen s x) : Chosen s ((x.startStaged).startInh).startRole := h.startStaged.startInh.startRole

/-! ## The first safety configurations -/

theorem Chosen.firstSafety (h : Chosen s x) (b : Nat) : Chosen s (x.firstSafety b) := by
  unfold State.firstSafety
  refine .ite h (h.foldl (fun y d => ?_) _)
  refine .ite .refl ?_
  split
  · exact .refl
  · refine List.foldlRecOn (motive := fun z => Chosen y z) _ _ Chosen.refl.same (fun z hz i hi => ?_)
    exact hz.wr (hi := by have := List.mem_range.mp hi; omega)

/-! ## The trial given up -/

theorem Chosen.trialDrop (h : Chosen s x) : Chosen s x.trialDrop := by
  have htrial (y : State) : Chosen y (y.wr 0 F.LCS_BOOT_TRIAL 0) := by
    refine Chosen.refl.wrApart (fun g hg => ?_) (fun d k => .inl ?_)
    · simp only [choiceFields, List.mem_cons, List.not_mem_nil, or_false] at hg
      rcases hg with rfl | rfl | rfl | rfl
      · exact .inr (.inr (by decide))
      · exact .inr (.inl (by decide))
      · exact .inr (.inr (by decide))
      · exact .inr (.inr (by decide))
    · simp only [fldAddr, regAddr, F.SAF_OUT_CMD, F.LCS_BOOT_TRIAL]
      omega
  have hrec : Chosen s { x with lcs := { x.lcs with trialRec := false } } := h.lcs _
  exact .ite ((hrec.wr.trans (htrial _)).info 0 _ _ _ _) h

end State

end Sys2Proof.Machine

/-! # The set that runs, and HOLD (R74, R76) -/

namespace Sys2Proof.Machine

namespace State

variable {s x y t : State}

/-! ## A covered set runs -/

/-- The set named in LCS_BOOT. -/
def setNamed (s : State) (b cert : Nat) : State :=
  ((s.wr 0 F.LCS_BOOT_SET_BANK b).wr 0 F.LCS_BOOT_CERT_IDX cert).wrB 0 F.LCS_BOOT_CFG_ABSENT (!s.verified 0 b 5)

/-- The lead die running after the choice. -/
def nowRuns (s : State) : State := { s with pkg := { s.pkg with die := s.pkg.die.set 0 .running, booted := true } }

theorem die_nowRuns (s : State) : s.nowRuns.pkg.die.get 0 = .running := get_set_self s.pkg.die 0 .running

theorem rd_nowRuns (s : State) (d : Nat) (f : Fld) (i j : Nat) : s.nowRuns.rd d f i j = s.rd d f i j := rfl

/-- The generation of the running certificate shown to the twin. -/
def genShown (s : State) : State :=
  match s.runningCert with
  | some c => s.wr 0 F.TWN_GEN_OWN c.recGen
  | none => s

theorem runSet_eq (s : State) (b cert : Nat) : s.runSet b cert =
    (((((((s.setNamed b cert).setMregs b).setMreg 6 ((s.setNamed b cert).certMeas b cert)).nowRuns.genShown).firstSafety b).startStaged).startInh).startRole := by
  unfold runSet setNamed nowRuns genShown
  rfl

/-- What a set that runs leaves. -/
structure SetRuns (b cert : Nat) (s t : State) : Prop where
  die : t.pkg.die.get 0 = .running
  booted : t.pkg.booted = true
  bank : t.rd 0 F.LCS_BOOT_SET_BANK = b
  cert : t.rd 0 F.LCS_BOOT_CERT_IDX = cert
  fallback : t.on 0 F.LCS_BOOT_FALLBACK = s.on 0 F.LCS_BOOT_FALLBACK
  keeps : Keeps s t

theorem SetRuns.chosen {b cert : Nat} (h : SetRuns b cert s x) (g : Chosen x y) : SetRuns b cert s y where
  die := by rw [g.die, h.die]
  booted := g.booted.trans h.booted
  bank := (g.boot _ (by simp [choiceFields])).trans h.bank
  cert := (g.boot _ (by simp [choiceFields])).trans h.cert
  fallback := by
    rw [← h.fallback]
    exact congrArg (· != 0) (g.boot _ (by simp [choiceFields]))
  keeps := keeps_trans h.keeps g.keeps

theorem keeps_setNamed (s : State) (b cert : Nat) : Keeps s (s.setNamed b cert) :=
  keeps_of_calm (calm_wr _ _ _ _ _ (calm_wr _ _ _ _ _ (calm_wr _ _ _ _ _ (calm_refl s))))

theorem bank_setNamed (s : State) {b : Nat} (hb : b < 2) (cert : Nat) : (s.setNamed b cert).rd 0 F.LCS_BOOT_SET_BANK = b := by
  unfold setNamed wrB
  rw [rd_wr_apart _ _ _ _ _ _ _ _ _ _ (.inr (.inr (by decide))), rd_wr_apart _ _ _ _ _ _ _ _ _ _ (.inr (.inr (by decide))),
    rd_wr_same _ _ _ _ _ _ (by decide)]
  exact Nat.mod_eq_of_lt hb

theorem cert_setNamed (s : State) (b : Nat) {cert : Nat} (hc : cert < 256) : (s.setNamed b cert).rd 0 F.LCS_BOOT_CERT_IDX = cert := by
  unfold setNamed wrB
  rw [rd_wr_apart _ _ _ _ _ _ _ _ _ _ (.inr (.inl (by decide))), rd_wr_same _ _ _ _ _ _ (by decide)]
  exact Nat.mod_eq_of_lt hc

theorem fallback_setNamed (s : State) (b cert : Nat) : (s.setNamed b cert).on 0 F.LCS_BOOT_FALLBACK = s.on 0 F.LCS_BOOT_FALLBACK := by
  unfold setNamed wrB
  rw [on_wr_apart (.inr (.inr (by decide))), on_wr_apart (.inr (.inr (by decide))), on_wr_apart (.inr (.inl (by decide)))]

theorem Chosen.genShown (h : Chosen s x) : Chosen s x.genShown := by
  unfold State.genShown
  split
  · exact h.wr
  · exact h

theorem setRuns_nowRuns {b cert : Nat} (hb : x.rd 0 F.LCS_BOOT_SET_BANK = b) (hc : x.rd 0 F.LCS_BOOT_CERT_IDX = cert)
    (hf : x.on 0 F.LCS_BOOT_FALLBACK = s.on 0 F.LCS_BOOT_FALLBACK) (hk : Keeps s x) : SetRuns b cert s x.nowRuns where
  die := die_nowRuns x
  booted := rfl
  bank := (rd_nowRuns x _ _ _ _).trans hb
  cert := (rd_nowRuns x _ _ _ _).trans hc
  fallback := by
    unfold State.on at hf ⊢
    rw [rd_nowRuns, hf]
  keeps := keeps_trans hk ⟨rfl, rfl, rfl⟩

theorem runSet_effect (s : State) {b cert : Nat} (hb : b < 2) (hc : cert < 256) : SetRuns b cert s (s.runSet b cert) := by
  have hbank := s.bank_setNamed hb cert
  have hcert := s.cert_setNamed b hc
  have hfall := s.fallback_setNamed b cert
  have hkeep := s.keeps_setNamed b cert
  rw [runSet_eq]
  generalize s.setNamed b cert = y at hbank hcert hfall hkeep ⊢
  have hmeas : Chosen y ((y.setMregs b).setMreg 6 (y.certMeas b cert)) := (Chosen.refl.setMregs b).setMreg (by decide) _
  generalize (y.setMregs b).setMreg 6 (y.certMeas b cert) = z at hmeas ⊢
  have hboot (f : Fld) (hf : f ∈ choiceFields) : z.rd 0 f = y.rd 0 f := hmeas.boot f hf
  have hruns : SetRuns b cert s z.nowRuns := by
    refine setRuns_nowRuns ?_ ?_ ?_ (keeps_trans hkeep hmeas.keeps)
    · rw [hboot _ (by simp [choiceFields]), hbank]
    · rw [hboot _ (by simp [choiceFields]), hcert]
    · rw [← hfall]
      unfold State.on
      rw [hboot _ (by simp [choiceFields])]
  exact hruns.chosen ((Chosen.refl.genShown.firstSafety b).ended)

/-! ## HOLD -/

/-- A die in HOLD: INH driven, halted, its outputs released. -/
def holdDie (s : State) (d : Fin 8) : State := ((s.setInhDie d Inh.hold true).haltDie d 4).outputsReleased d

/-- The boot ROM's choice made, its response to a fault of the chip ended. -/
def bootEnded (s : State) : State := { s with pkg := { s.pkg with booted := true }, faults := { s.faults with chipResp := false } }

/-- The measurements of a start without a set, and HOLD shown. -/
def holdShown (s : State) : State := ((s.setMregs s.selBank).setMreg 6 (List.replicate 32 0)).wr 0 F.LCS_BOOT_HOLD 1

theorem holdEnter_eq (s : State) : s.holdEnter =
    ((((s.holdShown.onUsed holdDie).bootEnded.info 0 0x0009 0x25 0xFF
      [((s.holdShown.onUsed holdDie).bootEnded.word (fldAddr 0 F.LCS_BOOT 0 0)).toNat]).startStaged).startInh).startRole := by
  unfold holdEnter holdShown holdDie outputsReleased bootEnded
  rfl

theorem Still.dropSout (h : Still s x) (d : Fin 8) (k : Fin 4) (mask : Nat) : Still s (x.dropSout d k mask) := by
  have hw : Still s (x.soutCleared d k mask) := h.wr
  obtain ⟨f, hf⟩ := dropSout_eq x d k mask
  rw [hf]
  exact hw.updSaf d k f

theorem Still.outputsReleased (h : Still s x) (d : Fin 8) : Still s (x.outputsReleased d) :=
  (h.onPorts (fun _ k => Still.refl.dropSout d k 15)).foldl _ (fun _ _ => Still.refl.wr) _

theorem Still.holdDie (h : Still s x) (d : Fin 8) : Still s (x.holdDie d) := ((h.setInhDie d Inh.hold).haltDie d 4).outputsReleased d

theorem calm_holdDie (d : Fin 8) : Calm s (s.holdDie d) :=
  calm_foldl _ (fun y _ => calm_wr _ _ _ _ _ (calm_refl y)) _
    (calm_onPorts _ (fun y k => calm_dropSout d k 15 (calm_refl y)) (calm_haltDie d 4 (calm_setInhDie d Inh.hold true (calm_refl s))))

/-- The zones of acquisition, Stage Link and twin. -/
def haltZones : List Nat := [0x06, 0x10, 0x21]

theorem confined_haltAssert (s : State) (d : Fin 8) (k : Fin 4) (src : Nat) : Confined haltZones s (s.haltAssert d k src) := by
  have hset : Confined haltZones s (s.haltSet d k src) := by
    have hwr : Confined haltZones s (((s.wr d F.STL_P_HALT_HALTED 1 k).wr d F.STL_P_HALT_SRC src k).setBit d F.STL_EVT_HALTED k) :=
      Confined.wr (Confined.refl.wr.wr)
    unfold haltSet
    split
    · exact .refl
    · exact hwr.same (updStl_regs ..)
  unfold haltAssert
  dsimp only
  split
  · exact hset
  · exact hset.trans ((Confined.refl.acqEvent d 9 _ _).mono (by decide))

theorem confined_haltDie (s : State) (d : Fin 8) (src : Nat) : Confined haltZones s (s.haltDie d src) :=
  (((confined_haltAssert s d 0 src).trans (confined_haltAssert _ d 1 src)).trans (confined_haltAssert _ d 2 src)).trans
    (confined_haltAssert _ d 3 src)

theorem confined_setInhDie (s : State) (d : Fin 8) (c : Fin 12) (b : Bool) : Confined haltZones s (s.setInhDie d c b) :=
  ((((Confined.refl.setInh _ c b).setInh _ c b).setInh _ c b).setInh _ c b).mono (by decide)

/-- HOLD on one die leaves the outputs of another. -/
theorem sout_holdDie_ne {d e : Fin 8} (h : d ≠ e) (s : State) (k : Fin 4) : (s.holdDie e).rd d F.SAF_OUT_CMD k = s.rd d F.SAF_OUT_CMD k := by
  have hhalt : Confined haltZones s ((s.setInhDie e Inh.hold true).haltDie e 4) := (confined_setInhDie s e _ _).trans (confined_haltDie _ e 4)
  have hz : zone (fldAddr d F.SAF_OUT_CMD k 0) ∉ haltZones := by
    rw [zone_die d.isLt (by omega) (by decide) (by decide)]
    decide
  rw [← hhalt.rd d F.SAF_OUT_CMD k 0 hz]
  have hlocal := outputsReleased_local ((s.setInhDie e Inh.hold true).haltDie e 4) e
  exact rd_sameDie (fun a ha => hlocal.others a (by omega))

/-- Every die in use is in HOLD. -/
theorem onUsed_holdDie {d : Fin 8} (hd : s.dieUsed d = true) : ∀ k : Fin 4,
    (s.onUsed holdDie).inhBy (portOf d k) Inh.hold = true ∧ (s.onUsed holdDie).rd d F.SAF_OUT_CMD k = 0 := by
  have hstep (y : State) (e : Fin 8) : Still y (ifUsed holdDie y e) := .ite (Still.refl.holdDie e) .refl
  have hall : Still s (s.onUsed holdDie) := Still.refl.foldl _ hstep _
  refine foldl_finRange_each (f := ifUsed holdDie) (P := fun d y => y.dieUsed d = true → ∀ k : Fin 4, y.inhBy (portOf d k) Inh.hold = true ∧
    y.rd d F.SAF_OUT_CMD k = 0) (fun y i => ?_) (fun y i j hij h => ?_) s d ((hall.dieUsed d).trans hd)
  · intro hused k
    rw [(hstep y i).dieUsed] at hused
    unfold ifUsed
    rw [if_pos hused]
    have hrel : Still ((y.setInhDie i Inh.hold true).haltDie i 4) (y.holdDie i) := Still.refl.outputsReleased i
    exact ⟨hrel.inh _ _ ((Still.refl.haltDie i 4).inh _ _ (inhBy_setInhDie i k Inh.hold)), (outputsReleased_effect _ i).1 k⟩
  · intro hused k
    rw [(hstep y j).dieUsed] at hused
    obtain ⟨hinh, hsout⟩ := h hused k
    refine ⟨(hstep y j).inh _ _ hinh, ?_⟩
    unfold ifUsed
    split
    · rw [sout_holdDie_ne hij, hsout]
    · exact hsout

/-- What HOLD leaves. -/
structure HoldEntered (s t : State) : Prop where
  hold : t.on 0 F.LCS_BOOT_HOLD = true
  die : t.pkg.die = s.pkg.die
  booted : t.pkg.booted = true
  inhibited : ∀ (d : Fin 8) (k : Fin 4), s.dieUsed d = true → t.inhBy (portOf d k) Inh.hold = true ∧ t.rd d F.SAF_OUT_CMD k = 0
  keeps : Keeps s t

theorem HoldEntered.chosen (h : HoldEntered s x) (g : Chosen x y) : HoldEntered s y where
  hold := (congrArg (· != 0) (g.boot F.LCS_BOOT_HOLD (by simp [choiceFields]))).trans h.hold
  die := g.die.trans h.die
  booted := g.booted.trans h.booted
  inhibited := fun d k hd => by
    obtain ⟨hinh, hsout⟩ := h.inhibited d k hd
    exact ⟨(g.inh _).trans hinh, (g.sout d k).trans hsout⟩
  keeps := keeps_trans h.keeps g.keeps

theorem confined_setMregs (s : State) (b : Nat) : Confined [0x25] s (s.setMregs b) := by
  refine List.foldlRecOn (motive := fun y => Confined [0x25] s y) _ _ Confined.refl (fun y hy c hc => ?_)
  simp only [List.mem_cons, List.not_mem_nil, or_false] at hc
  rcases hc with rfl | rfl | rfl | rfl | rfl <;> exact hy.setMreg (by decide) _

theorem holdShown_effect (s : State) : s.holdShown.on 0 F.LCS_BOOT_HOLD = true ∧ s.holdShown.pkg.die = s.pkg.die ∧ Keeps s s.holdShown ∧
    Confined [0x25] s s.holdShown := by
  have hmeas : Confined [0x25] s ((s.setMregs s.selBank).setMreg 6 (List.replicate 32 0)) := (confined_setMregs s _).setMreg (by decide) _
  have hchosen : Chosen s ((s.setMregs s.selBank).setMreg 6 (List.replicate 32 0)) := (Chosen.refl.setMregs _).setMreg (by decide) _
  unfold holdShown
  generalize (s.setMregs s.selBank).setMreg 6 (List.replicate 32 0) = y at hmeas hchosen ⊢
  exact ⟨on_wr_one (by decide) rfl, by rw [wr_pkg, hchosen.die], keeps_trans hchosen.keeps (keeps_of_calm (calm_wr _ _ _ _ _ (calm_refl y))), hmeas.wr⟩

theorem holdEnter_effect (s : State) : HoldEntered s s.holdEnter := by
  obtain ⟨hhold, hdie, hkeep, hwords⟩ := s.holdShown_effect
  rw [holdEnter_eq]
  generalize s.holdShown = y at hhold hdie hkeep hwords ⊢
  have hstill : Still y (y.onUsed holdDie) := Still.refl.onUsed (fun _ d => Still.refl.holdDie d)
  have hcalm : Calm y (y.onUsed holdDie) := calm_onUsed _ (fun _ d => calm_holdDie d) (calm_refl y)
  have hused (d : Fin 8) (hd : s.dieUsed d = true) := onUsed_holdDie (d := d) ((hwords.dieUsed d).trans hd)
  have hboot : (y.onUsed holdDie).on 0 F.LCS_BOOT_HOLD = true := by
    rw [hstill.words.on _ _ _ _ (by decide), hhold]
  have hrun : (y.onUsed holdDie).pkg.die = s.pkg.die := by
    rw [hstill.pkg, hdie]
  generalize y.onUsed holdDie = z at hstill hcalm hused hboot hrun ⊢
  have hheld : HoldEntered s z.bootEnded :=
    ⟨hboot, hrun, rfl, fun d k hd => hused d hd k, keeps_trans hkeep (keeps_trans (keeps_of_calm hcalm) ⟨rfl, rfl, rfl⟩)⟩
  exact hheld.chosen (Chosen.refl.info 0 _ _ _ _).ended

end State

end Sys2Proof.Machine

/-! # The boot ROM's two choices (R66, R74 to R77) -/

namespace Sys2Proof.Machine

namespace State

variable {s x y t : State}

/-! ## The meter head's start -/

/-- From `s` to `t` the meter head's books are kept: its run, energies and Q0 stand, and the registers with them. -/
structure MeterKept (s t : State) : Prop where
  running : t.meter.running = s.meter.running
  energy : t.meter.energy = s.meter.energy
  q0 : t.meter.q0 = s.meter.q0
  regs : t.regs = s.regs
  keeps : Keeps s t

theorem MeterKept.refl : MeterKept s s := ⟨rfl, rfl, rfl, rfl, keeps_refl⟩

theorem MeterKept.trans (h : MeterKept s x) (g : MeterKept x y) : MeterKept s y :=
  ⟨g.running.trans h.running, g.energy.trans h.energy, g.q0.trans h.q0, g.regs.trans h.regs, keeps_trans h.keeps g.keeps⟩

theorem meterKept_meterLog (s : State) (code port : Nat) (data : List Int) : MeterKept s (s.meterLog code port data) := by
  unfold meterLog
  dsimp only
  split <;> exact ⟨rfl, rfl, rfl, rfl, rfl, rfl, rfl⟩

theorem meterKept_coreBack (s : State) (p : Fin 8 → Bool) : MeterKept s (s.coreBack p) := by
  refine List.foldlRecOn (motive := fun y => MeterKept s y) _ _ MeterKept.refl (fun y hy d _ => hy.trans ?_)
  split
  · split
    · next t w _ =>
      have hdown : MeterKept y (y.updMeter (fun m => { m with down := m.down.set d none })) := ⟨rfl, rfl, rfl, rfl, rfl, rfl, rfl⟩
      exact hdown.trans (meterKept_meterLog _ _ _ _)
    · exact .refl
  · exact .refl

/-- The parameters shown change registers of the front end alone. -/
theorem paramStart_effect (s : State) : s.paramStart.meter = s.meter ∧ Confined [0x04] s s.paramStart ∧ Keeps s s.paramStart := by
  have hmaps : ∀ y : State, y = (List.finRange 32).foldl (fun (s : State) (p : Fin 32) => s.loadMap p) s →
      y.meter = s.meter ∧ Confined [0x04] s y ∧ Keeps s y := by
    rintro y rfl
    refine List.foldlRecOn (motive := fun y : State => y.meter = s.meter ∧ Confined [0x04] s y ∧ Keeps s y) _ _
      ⟨rfl, .refl, keeps_refl⟩ (fun y hy p _ => ?_)
    obtain ⟨hm, hw, hk⟩ := hy
    exact ⟨(wr_meter ..).trans hm, hw.wr (by decide) (Port.die p).isLt (by omega), keeps_trans hk (keeps_of_calm (calm_wr _ _ _ _ _ (calm_refl y)))⟩
  unfold paramStart
  generalize hy : (List.finRange 32).foldl (fun (s : State) (p : Fin 32) => s.loadMap p) s = y
  obtain ⟨hm, hw, hk⟩ := hmaps y hy.symm
  exact ⟨(wr_meter ..).trans hm, hw.wr, keeps_trans hk (keeps_of_calm (calm_wr _ _ _ _ _ (calm_refl y)))⟩

theorem regs_meterLogged (s : State) (g : Meter → Meter) (code port : Nat) (data : List Int) :
    ((s.updMeter g).meterLog code port data).regs = s.regs ∧ Keeps s ((s.updMeter g).meterLog code port data) := by
  have hlog := meterKept_meterLog (s.updMeter g) code port data
  exact ⟨hlog.regs, keeps_trans ⟨rfl, rfl, rfl⟩ hlog.keeps⟩

/-- The journal's replay leaves the registers, and Q0 where there is no journal. -/
theorem journalReplay_effect (s : State) : s.journalReplay.regs = s.regs ∧ Keeps s s.journalReplay ∧
    (s.meter.journal = none → s.journalReplay.meter.q0 = s.meter.q0) := by
  unfold journalReplay
  split
  · exact ⟨rfl, keeps_refl, fun _ => rfl⟩
  · next j hj =>
    exact ⟨(regs_meterLogged ..).1, (regs_meterLogged ..).2, fun hn => absurd (hj.symm.trans hn) (by simp)⟩

/-- What a start of the meter head from a bank leaves. -/
structure HeadStarted (b : Nat) (s t : State) : Prop where
  running : t.meter.running = true
  energy : t.meter.energy = t.meter.q0
  q0 : s.meter.journal = none → t.meter.q0 = s.meter.q0
  run : t.on 0 F.LCS_BOOT_METER_RUN = true
  bank : t.rd 0 F.LCS_BOOT_METER_BANK = b
  keeps : Keeps s t

/-- The METER image named and measured. -/
def headNamed (s : State) (b : Nat) : State :=
  ((s.wr 0 F.LCS_BOOT_METER_BANK b).wr 0 F.LCS_BOOT_METER_RUN 1).setMreg 3
    (measure (((s.wr 0 F.LCS_BOOT_METER_BANK b).wr 0 F.LCS_BOOT_METER_RUN 1).image 0 b 3))

/-- The meter head running on its restored registers. -/
def headRuns (s : State) : State :=
  s.updMeter (fun m => { m with
    running := true, energy := m.q0, restoring := m.td.isSome || m.lastCommit == 0,
    tdRegs := if m.restoring then m.tdRegs else m.q0 })

theorem meterBegin_eq (s : State) (b : Nat) :
    s.meterBegin b = (((s.headNamed b).journalReplay.headRuns).paramStart).coreBack (fun d => decide (d = 0)) := by
  unfold meterBegin headNamed headRuns
  rfl

theorem headNamed_effect (s : State) {b : Nat} (hb : b < 2) : (s.headNamed b).meter = s.meter ∧ (s.headNamed b).on 0 F.LCS_BOOT_METER_RUN = true ∧
    (s.headNamed b).rd 0 F.LCS_BOOT_METER_BANK = b ∧ Keeps s (s.headNamed b) := by
  have hrun : ((s.wr 0 F.LCS_BOOT_METER_BANK b).wr 0 F.LCS_BOOT_METER_RUN 1).on 0 F.LCS_BOOT_METER_RUN = true := on_wr_one (by decide) rfl
  have hbank : ((s.wr 0 F.LCS_BOOT_METER_BANK b).wr 0 F.LCS_BOOT_METER_RUN 1).rd 0 F.LCS_BOOT_METER_BANK = b := by
    rw [rd_wr_apart _ _ _ _ _ _ _ _ _ _ (.inr (.inr (by decide))), rd_wr_same _ _ _ _ _ _ (by decide)]
    exact Nat.mod_eq_of_lt hb
  have hkeep : Keeps s ((s.wr 0 F.LCS_BOOT_METER_BANK b).wr 0 F.LCS_BOOT_METER_RUN 1) :=
    keeps_of_calm (calm_wr _ _ _ _ _ (calm_wr _ _ _ _ _ (calm_refl s)))
  have hmeter : ((s.wr 0 F.LCS_BOOT_METER_BANK b).wr 0 F.LCS_BOOT_METER_RUN 1).meter = s.meter := (wr_meter ..).trans (wr_meter ..)
  unfold headNamed
  generalize (s.wr 0 F.LCS_BOOT_METER_BANK b).wr 0 F.LCS_BOOT_METER_RUN 1 = y at hrun hbank hkeep hmeter ⊢
  have hword (l : List Byte) : (y.setMreg 3 l).word (fldAddr 0 F.LCS_BOOT 0 0) = y.word (fldAddr 0 F.LCS_BOOT 0 0) ∧
      (y.setMreg 3 l).meter = y.meter ∧ Keeps y (y.setMreg 3 l) := by
    refine List.foldlRecOn (motive := fun z : State => z.word (fldAddr 0 F.LCS_BOOT 0 0) = y.word (fldAddr 0 F.LCS_BOOT 0 0) ∧
      z.meter = y.meter ∧ Keeps y z) _ _ ⟨rfl, rfl, keeps_refl⟩ (fun z hz k hk => ?_)
    obtain ⟨hzw, hzm, hzk⟩ := hz
    refine ⟨(word_wr_ne _ _ _ _ _ _ _ ?_).trans hzw, (wr_meter ..).trans hzm, keeps_trans hzk (keeps_of_calm (calm_wr _ _ _ _ _ (calm_refl z)))⟩
    simp only [fldAddr, regAddr, F.LCS_BOOT, F.LCS_MREG]
    omega
  obtain ⟨hw, hm, hk⟩ := hword (measure (y.image 0 b 3))
  have hrd {f : Fld} (hf : fldAddr 0 f 0 0 = fldAddr 0 F.LCS_BOOT 0 0) : (y.setMreg 3 (measure (y.image 0 b 3))).rd 0 f = y.rd 0 f := by
    unfold State.rd
    rw [hf, hw]
  exact ⟨hm.trans hmeter, (congrArg (· != 0) (hrd (f := F.LCS_BOOT_METER_RUN) rfl)).trans hrun,
    (hrd (f := F.LCS_BOOT_METER_BANK) rfl).trans hbank, keeps_trans hkeep hk⟩

theorem meterBegin_effect (s : State) {b : Nat} (hb : b < 2) : HeadStarted b s (s.meterBegin b) := by
  obtain ⟨hmeter, hrun, hbank, hkeep⟩ := s.headNamed_effect hb
  rw [meterBegin_eq]
  generalize s.headNamed b = y at hmeter hrun hbank hkeep ⊢
  obtain ⟨hjregs, hjkeep, hjq0⟩ := y.journalReplay_effect
  generalize y.journalReplay = z at hjregs hjkeep hjq0 ⊢
  obtain ⟨hpm, hpw, hpk⟩ := z.headRuns.paramStart_effect
  have hruns : Keeps z z.headRuns := ⟨rfl, rfl, rfl⟩
  have henergy : z.headRuns.meter.running = true ∧ z.headRuns.meter.energy = z.meter.q0 ∧ z.headRuns.meter.q0 = z.meter.q0 := ⟨rfl, rfl, rfl⟩
  have hregs : z.headRuns.regs = z.regs := rfl
  generalize z.headRuns = w at hpm hpw hpk hruns henergy hregs ⊢
  obtain ⟨hwrun, hwenergy, hwq0⟩ := henergy
  generalize w.paramStart = v at hpm hpw hpk ⊢
  have hback := meterKept_coreBack v (fun d => decide (d = 0))
  have hrd {f : Fld} (hz : zone (fldAddr 0 f 0 0) ∉ [0x04]) : (v.coreBack (fun d => decide (d = 0))).rd 0 f = y.rd 0 f :=
    (rd_of_regs hback.regs ..).trans ((hpw.rd _ _ _ _ hz).trans (rd_of_regs (hregs.trans hjregs) ..))
  have hq0 : (v.coreBack (fun d => decide (d = 0))).meter.q0 = z.meter.q0 := by rw [hback.q0, hpm, hwq0]
  exact {
    running := by rw [hback.running, hpm, hwrun]
    energy := by rw [hback.energy, hpm, hwenergy, hq0]
    q0 := fun hj => by rw [hq0, hjq0 (by rw [hmeter, hj]), hmeter]
    run := (congrArg (· != 0) (hrd (by decide))).trans hrun
    bank := (hrd (by decide)).trans hbank
    keeps := keeps_trans hkeep (keeps_trans hjkeep (keeps_trans hruns (keeps_trans hpk hback.keeps))) }

/-! ## METER_HEAD_START -/

theorem writesOnly_bootFail (s : State) (c w : Nat) : WritesOnly [fldAddr 0 F.LCS_BOOT 0 0] s (s.bootFail c w) := by
  unfold bootFail
  split
  · exact writesOnly_wr List.mem_cons_self (writesOnly_wr List.mem_cons_self writesOnly_refl)
  · exact writesOnly_refl

theorem sameBanks_bootFail (s : State) (c w : Nat) : SameBanks s (s.bootFail c w) :=
  .of_writesOnly (writesOnly_bootFail s c w) (by decide) (by decide) (by decide)

theorem meter_bootFail (s : State) (c w : Nat) : (s.bootFail c w).meter = s.meter := by
  rw [(writesOnly_bootFail s c w).1]

theorem selBank_lt (s : State) : s.selBank < 2 := by
  unfold selBank
  split
  · exact rd_lt s 0 F.LCS_BANK_PEND_BANK 0 0 (by decide)
  · exact rd_lt s 0 F.LCS_BANK_ACTIVE 0 0 (by decide)

theorem HeadStarted.of_bootFail {b c w : Nat} (h : HeadStarted b (s.bootFail c w) t) : HeadStarted b s t :=
  { h with
    q0 := fun hj => by rw [h.q0 (by rw [meter_bootFail, hj]), meter_bootFail]
    keeps := keeps_trans (keeps_of_writesOnly (writesOnly_bootFail s c w)) h.keeps }

/-- The head's start before the choice: the selected bank's image, else the other's, else none. -/
theorem meterStart_cases (hd : s.pkg.die.get 0 = .boot) (hb : s.pkg.booted = false) (hl : s.lifeState ≠ 4) (hr : s.meter.running = false) :
    (s.verified 0 s.selBank 3 = true ∧ HeadStarted s.selBank s s.meterStart) ∨
    (s.verified 0 s.selBank 3 = false ∧ s.verified 0 (1 - s.selBank) 3 = true ∧ HeadStarted (1 - s.selBank) s s.meterStart) ∨
    (s.verified 0 s.selBank 3 = false ∧ s.verified 0 (1 - s.selBank) 3 = false ∧ s.meterStart.meter.running = false ∧ Keeps s s.meterStart) := by
  have hgo : ¬ ((s.pkg.die.get 0 ≠ .boot || s.pkg.booted || s.meter.running || s.lifeState == 4) = true) := by
    simp [hd, hb, hr, hl]
  have hsel := s.selBank_lt
  unfold meterStart
  rw [if_neg hgo]
  dsimp only
  split
  · next hv => exact .inl ⟨hv, meterBegin_effect s hsel⟩
  · next hv =>
    have hv : s.verified 0 s.selBank 3 = false := by simpa using hv
    right
    rw [(sameBanks_bootFail s 3 _).verified]
    split
    · next ho => exact .inl ⟨hv, ho, (meterBegin_effect _ (by omega)).of_bootFail⟩
    · next ho =>
      exact .inr ⟨hv, by simpa using ho, (congrArg (·.running) (meter_bootFail ..)).trans hr, keeps_of_writesOnly (writesOnly_bootFail ..)⟩

/-! ## BOOT_SET_CHOICE -/

/-- The cover of a bank depends on the banks and on the running meter image. -/
theorem coverOf_congr (h : SameBanks s x) (hm : x.meter = s.meter) (hb : x.rd 0 F.LCS_BOOT_METER_BANK = s.rd 0 F.LCS_BOOT_METER_BANK) (b : Nat) :
    x.coverOf b = s.coverOf b := by
  unfold coverOf meterImage
  rw [hm, hb, h.covering, h.image]

theorem coverOf_lt {b i : Nat} (h : s.coverOf b = some i) : i < 256 := by
  unfold coverOf at h
  split at h
  · have hmem := List.mem_of_find?_eq_some h
    have := List.mem_range.mp hmem
    omega
  · cases h

theorem passOver_eq (s : State) (b : Nat) : ∃ c w, s.passOver b = s.bootFail c w := by
  unfold passOver
  split
  · exact ⟨_, _, rfl⟩
  · exact ⟨_, _, rfl⟩

theorem bank_bootFail (s : State) (c w : Nat) : (s.bootFail c w).rd 0 F.LCS_BOOT_METER_BANK = s.rd 0 F.LCS_BOOT_METER_BANK := by
  unfold bootFail
  split
  · rw [rd_wr_apart _ _ _ _ _ _ _ _ _ _ (.inr (.inr (by decide))), rd_wr_apart _ _ _ _ _ _ _ _ _ _ (.inr (.inr (by decide)))]
  · rfl

theorem coverOf_bootFail (s : State) (c w b : Nat) : (s.bootFail c w).coverOf b = s.coverOf b :=
  coverOf_congr (sameBanks_bootFail s c w) (meter_bootFail s c w) (bank_bootFail s c w) b

/-- A fallback set about to run: a trial is given up, FALLBACK shown, the port dies asked again. -/
def fallbackShown (s : State) : State :=
  { (s.trialDrop).wr 0 F.LCS_BOOT_FALLBACK 1 with
    lcs := { ((s.trialDrop).wr 0 F.LCS_BOOT_FALLBACK 1).lcs with reported := Vector.replicate 8 false } }

/-- A start's end noted in the log, with LCS_BOOT. -/
def startNoted (s : State) : State := s.info 0 0x0008 0x25 0xFF [(s.word (fldAddr 0 F.LCS_BOOT 0 0)).toNat]

/-- The lead die's boot ROM before its choice, the meter head running, on a chip in use. -/
structure Choosing (s : State) : Prop where
  die : s.pkg.die.get 0 = .boot
  booted : s.pkg.booted = false
  life : s.lifeState ≠ 4
  running : s.meter.running = true
  used : s.faults.chipRetired = false

/-- What the boot ROM chooses while the meter head runs. -/
def setChosen (s : State) : State :=
  match s.coverOf s.selBank with
  | some i => if (s.runSet s.selBank i).rd 0 F.LCS_BOOT_FAIL_CLASS = 0xF then s.runSet s.selBank i else (s.runSet s.selBank i).startNoted
  | none =>
    match (s.passOver s.selBank).coverOf (1 - s.selBank) with
    | some i => (((s.passOver s.selBank).fallbackShown).runSet (1 - s.selBank) i).startNoted
    | none => (((s.passOver s.selBank).holdEnter).info 0 0x0008 0x25 0xFF
        [((s.passOver s.selBank).word (fldAddr 0 F.LCS_BOOT 0 0)).toNat]).trialDrop

theorem bootChoice_choosing (h : Choosing s) : s.bootChoice = s.setChosen := by
  have hgo : ¬ ((s.pkg.die.get 0 ≠ .boot || s.pkg.booted) = true) := by simp [h.die, h.booted]
  have hstart : s.meterStart = s := by
    unfold meterStart
    rw [if_pos (by simp [h.running])]
  have hopen : ¬ ((s.faults.chipRetired || s.lifeState == 4) = true) := by simp [h.used, h.life]
  unfold bootChoice setChosen fallbackShown startNoted
  rw [if_neg hgo, hstart]
  dsimp only
  refine (if_neg hopen).trans ?_
  cases s.coverOf s.selBank with
  | some i => rfl
  | none => cases (s.passOver s.selBank).coverOf (1 - s.selBank) <;> rfl

/-- The boot ROM's choice: the selected bank's covered set, else the other's with FALLBACK, else HOLD. -/
theorem Choosing.selected (h : Choosing s) {i : Nat} (hc : s.coverOf s.selBank = some i) : SetRuns s.selBank i s s.bootChoice := by
  have hruns := runSet_effect s s.selBank_lt (coverOf_lt hc)
  rw [bootChoice_choosing h]
  unfold setChosen
  rw [hc]
  dsimp only
  split
  · exact hruns
  · exact hruns.chosen (Chosen.refl.info 0 _ _ _ _)

theorem fallbackShown_effect (s : State) : s.fallbackShown.on 0 F.LCS_BOOT_FALLBACK = true ∧ Keeps s s.fallbackShown := by
  have hdrop := (Chosen.refl (s := s)).trialDrop.keeps
  unfold fallbackShown
  generalize s.trialDrop = y at hdrop ⊢
  have hon : (y.wr 0 F.LCS_BOOT_FALLBACK 1).on 0 F.LCS_BOOT_FALLBACK = true := on_wr_one (by decide) rfl
  have hkeep : Keeps s (y.wr 0 F.LCS_BOOT_FALLBACK 1) := keeps_trans hdrop (keeps_of_calm (calm_wr _ _ _ _ _ (calm_refl y)))
  generalize y.wr 0 F.LCS_BOOT_FALLBACK 1 = z at hon hkeep ⊢
  exact ⟨hon, keeps_trans hkeep ⟨rfl, rfl, rfl⟩⟩

theorem coverOf_passOver (s : State) (b c : Nat) : (s.passOver b).coverOf c = s.coverOf c := by
  obtain ⟨cls, why, hp⟩ := s.passOver_eq b
  rw [hp, coverOf_bootFail]

theorem writesOnly_passOver (s : State) (b : Nat) : WritesOnly [fldAddr 0 F.LCS_BOOT 0 0] s (s.passOver b) := by
  obtain ⟨cls, why, hp⟩ := s.passOver_eq b
  rw [hp]
  exact writesOnly_bootFail s cls why

/-- The other bank's set runs: FALLBACK shows it. -/
theorem Choosing.fallback (h : Choosing s) {i : Nat} (hc : s.coverOf s.selBank = none) (ho : s.coverOf (1 - s.selBank) = some i) :
    s.bootChoice.pkg.die.get 0 = .running ∧ s.bootChoice.rd 0 F.LCS_BOOT_SET_BANK = 1 - s.selBank ∧
      s.bootChoice.rd 0 F.LCS_BOOT_CERT_IDX = i ∧ s.bootChoice.on 0 F.LCS_BOOT_FALLBACK = true ∧ s.bootChoice.pkg.booted = true ∧
      Keeps s s.bootChoice := by
  have hpass := keeps_of_writesOnly (s.writesOnly_passOver s.selBank)
  obtain ⟨hfall, hkeep⟩ := (s.passOver s.selBank).fallbackShown_effect
  rw [bootChoice_choosing h]
  unfold setChosen
  rw [hc, coverOf_passOver, ho]
  dsimp only
  generalize (s.passOver s.selBank).fallbackShown = y at hfall hkeep ⊢
  have hruns : SetRuns (1 - s.selBank) i y ((y.runSet (1 - s.selBank) i).startNoted) :=
    (runSet_effect y (by omega) (coverOf_lt ho)).chosen (Chosen.refl.info 0 _ _ _ _)
  exact ⟨hruns.die, hruns.bank, hruns.cert, hruns.fallback.trans hfall, hruns.booted, keeps_trans hpass (keeps_trans hkeep hruns.keeps)⟩

/-- No set is covered: HOLD. -/
theorem Choosing.held (h : Choosing s) (hc : s.coverOf s.selBank = none) (ho : s.coverOf (1 - s.selBank) = none) :
    HoldEntered s s.bootChoice := by
  have hpass := s.writesOnly_passOver s.selBank
  have hheld := (s.passOver s.selBank).holdEnter_effect
  rw [bootChoice_choosing h]
  unfold setChosen
  rw [hc, coverOf_passOver, ho]
  dsimp only
  have hdie : (s.passOver s.selBank).pkg.die = s.pkg.die := by rw [hpass.1]
  have hused (d : Nat) : (s.passOver s.selBank).dieUsed d = s.dieUsed d := by
    unfold State.dieUsed State.present bit
    rw [writesOnly_rd hpass (by decide), writesOnly_rd hpass (by decide)]
  generalize s.passOver s.selBank = y at hpass hheld hdie hused ⊢
  have hfrom : HoldEntered s y.holdEnter :=
    { hold := hheld.hold
      die := hheld.die.trans hdie
      booted := hheld.booted
      inhibited := fun d k hd => hheld.inhibited d k ((hused d).trans hd)
      keeps := keeps_trans (keeps_of_writesOnly hpass) hheld.keeps }
  exact hfrom.chosen (Chosen.refl.info 0 _ _ _ _).trialDrop

theorem meterStart_past (h : s.pkg.die.get 0 ≠ .boot ∨ s.pkg.booted = true) : s.meterStart = s := by
  unfold meterStart
  rw [if_pos]
  rcases h with h | h <;> simp [h]

theorem bootChoice_past (h : s.pkg.die.get 0 ≠ .boot ∨ s.pkg.booted = true) : s.bootChoice = s := by
  unfold bootChoice
  rw [if_pos]
  rcases h with h | h <;> simp [h]

end State

open State

/-- Settles O19: `meterStart_cases` for the head, `Choosing.selected`, `Choosing.fallback` and `Choosing.held` for the set. -/
theorem setChoice : Obligations.SetChoice := by
  unfold Obligations.SetChoice
  intro s
  refine ⟨fun hd hb hl => ⟨fun hr => ⟨_, rfl, ?_⟩, fun hr hf => ⟨_, rfl, ?_⟩⟩,
    fun h => ⟨⟨_, rfl, meterStart_past h⟩, ⟨_, rfl, bootChoice_past h⟩⟩⟩
  · rcases meterStart_cases hd hb hl hr with ⟨hv, hs⟩ | ⟨hv, ho, hs⟩ | ⟨hv, ho, hnone, hk⟩
    · exact ⟨by rw [hs.running, hv, Bool.true_or], fun _ => ⟨hs.run, hs.energy, hs.q0, by rw [if_pos hv, hs.bank]⟩, hs.keeps⟩
    · exact ⟨by rw [hs.running, hv, ho, Bool.or_true],
        fun _ => ⟨hs.run, hs.energy, hs.q0, by rw [hv, if_neg Bool.false_ne_true, hs.bank]⟩, hs.keeps⟩
    · exact ⟨by rw [hnone, hv, ho, Bool.or_self], fun hrun => absurd (hnone.symm.trans hrun) Bool.false_ne_true, hk⟩
  · have hchoosing : Choosing s := ⟨hd, hb, hl, hr, hf⟩
    cases hc : s.coverOf s.selBank with
    | some i =>
      have hruns := hchoosing.selected hc
      exact ⟨hruns.booted, hruns.keeps, hruns.die, hruns.bank, hruns.cert⟩
    | none =>
      cases ho : s.coverOf (1 - s.selBank) with
      | some i =>
        obtain ⟨hdie, hbank, hcert, hfall, hbooted, hkeep⟩ := hchoosing.fallback hc ho
        exact ⟨hbooted, hkeep, hdie, hbank, hcert, hfall⟩
      | none =>
        have hheld := hchoosing.held hc ho
        exact ⟨hheld.booted, hheld.keeps, hheld.hold, by rw [hheld.die, hd], fun d k hu => hheld.inhibited d k hu⟩

end Sys2Proof.Machine

/-! # The life-cycle restart (R80, R81) -/

namespace Sys2Proof.Machine

/-! ## Registers that a reset does not pick -/

/-- A map that keeps keys, and an entry of key `a` as it is, changes nothing at `a`. -/
theorem get_filterMap_keep {α : Type} (dflt : Nat → α) {f : Nat × α → Option (Nat × α)} {a : Nat} (hkey : ∀ e q, f e = some q → q.1 = e.1)
    (hkeep : ∀ v, f (a, v) = some (a, v)) (l : List (Nat × α)) : Sparse.get dflt (l.filterMap f) a = Sparse.get dflt l a := by
  induction l with
  | nil => rfl
  | cons e t ih =>
    by_cases he : e.1 = a
    · have hfe : f e = some e := by
        obtain ⟨k, v⟩ := e
        dsimp only at he
        rw [he]
        exact hkeep v
      rw [List.filterMap_cons_some hfe, Sparse.get, Sparse.get, if_pos he, if_pos he]
    · rw [Sparse.get, if_neg he]
      cases hfe : f e with
      | none => rw [List.filterMap_cons_none hfe, ih]
      | some q =>
        rw [List.filterMap_cons_some hfe, Sparse.get, if_neg (by rw [hkey e q hfe]; exact he), ih]

theorem findReg_lcsState : findReg (fldAddr 0 F.LCS_STATE 0 0) = some (RegMap.r_LCS_STATE, 0, 0) := by decide

namespace State

variable {s x y t : State}

/-- What a reset does to one entry of the register file. -/
def resetEntry (p : Nat → RegD → Bool) (e : Nat × Word) : Option (Nat × Word) :=
  match findReg e.1 with
  | some (r, i, _) =>
    if p e.1 r then
      let m : Word := BitVec.ofNat 32 r.kept
      let v := (RegD.resetOf r i &&& ~~~m) ||| (e.2 &&& m)
      if v = RegD.resetOf r i then none else some (e.1, v)
    else some e
  | none => some e

theorem resetRegs_eq (s : State) (p : Nat → RegD → Bool) : s.resetRegs p = { s with regs := s.regs.filterMap (resetEntry p) } := rfl

theorem resetEntry_key {p : Nat → RegD → Bool} {e q : Nat × Word} (h : resetEntry p e = some q) : q.1 = e.1 := by
  unfold resetEntry at h
  split at h
  · split at h
    · dsimp only at h
      split at h
      · cases h
      · cases h
        rfl
    · cases h
      rfl
  · cases h
    rfl

/-- A word whose register a reset does not pick. -/
theorem word_resetRegs {p : Nat → RegD → Bool} {a : Nat} (hp : ∀ r i j, findReg a = some (r, i, j) → p a r = false) (s : State) :
    (s.resetRegs p).word a = s.word a := by
  rw [resetRegs_eq]
  refine get_filterMap_keep resetWord (fun _ _ => resetEntry_key) (fun v => ?_) s.regs
  unfold resetEntry
  split
  · next r i j hr => rw [if_neg (by rw [hp r i j hr]; exact Bool.false_ne_true)]
  · rfl

/-! ## What a restart leaves alone -/

/-- The words of LCS_STATE and of the package. -/
def lifeWord (a : Nat) : Prop := a = 0x40250000 ∨ 0x60000000 ≤ a

/-- From `s` to `t` the life-cycle state, the due restart, the wipe mask and the queue stand, with the package's registers, the
chip's retirement, and the runs of the dies outside the list. -/
structure LifeKept (l : List (Fin 8)) (s t : State) : Prop where
  words : ∀ a, lifeWord a → t.word a = s.word a
  restart : t.lcs.restart = s.lcs.restart
  mask : t.lcs.wipeMask = s.lcs.wipeMask
  retired : t.faults.chipRetired = s.faults.chipRetired
  dies : ∀ e, e ∉ l → t.pkg.die.get e = s.pkg.die.get e
  pending : t.pending = s.pending

section

variable {l : List (Fin 8)}

theorem LifeKept.refl : LifeKept l s s := ⟨fun _ _ => rfl, rfl, rfl, rfl, fun _ _ => rfl, rfl⟩

theorem LifeKept.trans (h : LifeKept l s x) (g : LifeKept l x y) : LifeKept l s y :=
  ⟨fun a ha => (g.words a ha).trans (h.words a ha), g.restart.trans h.restart, g.mask.trans h.mask, g.retired.trans h.retired,
    fun e he => (g.dies e he).trans (h.dies e he), g.pending.trans h.pending⟩

theorem LifeKept.ite {c : Prop} [Decidable c] {t u : State} (ht : LifeKept l s t) (hu : LifeKept l s u) : LifeKept l s (if c then t else u) := by
  split
  · exact ht
  · exact hu

theorem LifeKept.foldl {α : Type} {f : State → α → State} (hf : ∀ y a, LifeKept l y (f y a)) (ks : List α) (h : LifeKept l s x) :
    LifeKept l s (ks.foldl f x) :=
  List.foldlRecOn (motive := fun y => LifeKept l s y) ks f h (fun y hy a _ => hy.trans (hf y a))

/-- Typed state that `LifeKept` does not speak of. -/
theorem LifeKept.same (h : LifeKept l s x) (hr : t.regs = x.regs := by rfl) (hl : t.lcs = x.lcs := by rfl) (hf : t.faults = x.faults := by rfl)
    (hg : t.pkg = x.pkg := by rfl) (hp : t.pending = x.pending := by rfl) : LifeKept l s t :=
  h.trans ⟨fun a _ => by unfold State.word; rw [hr], by rw [hl], by rw [hl], by rw [hf], fun _ _ => by rw [hg], hp⟩

theorem LifeKept.keys (h : LifeKept l s x) (v : Keys) : LifeKept l s { x with keys := v } := h.same

theorem LifeKept.updMeter (h : LifeKept l s x) (f : Meter → Meter) : LifeKept l s (x.updMeter f) := h.same

theorem LifeKept.memory (h : LifeKept l s x) (v : List (Nat × Byte)) : LifeKept l s { x with mem := v } := h.same

theorem LifeKept.adc (h : LifeKept l s x) (v : Vector Adc 8) : LifeKept l s { x with adc := v } := h.same

theorem LifeKept.cool (h : LifeKept l s x) (v : Vector Cooling 8) : LifeKept l s { x with cool := v } := h.same

theorem LifeKept.logs (h : LifeKept l s x) (v : Vector EventLog 8) : LifeKept l s { x with logs := v } := h.same

theorem LifeKept.groups (h : LifeKept l s x) (v : Vector AcqGroup 8) : LifeKept l s { x with group := v } := h.same

theorem LifeKept.info (h : LifeKept l s x) (d : Fin 8) (code block index : Nat) (data : List Nat) : LifeKept l s (x.info d code block index data) :=
  h.same

theorem LifeKept.setWord (h : LifeKept l s x) {a : Nat} {v : Word} (ha : a ≠ 0x40250000) (hp : a < 0x60000000) : LifeKept l s (x.setWord a v) :=
  h.trans ⟨fun b hb => word_setWord_ne _ _ (by rcases hb with rfl | hb <;> omega), rfl, rfl, rfl, fun _ _ => rfl, rfl⟩

/-- A field of a die outside LCS_STATE. -/
def sparesState (f : Fld) : Bool :=
  decide (f.off % 0x10000 + 31 * f.s1 < 0x10000) && decide (f.off < 0x1000000) &&
    (List.range 32).all (fun i => f.off + i * f.s1 != 0x250000)

theorem LifeKept.wr (h : LifeKept l s x) {d v i : Nat} {f : Fld} (hf : sparesState f = true := by decide) (hd : d < 8 := by omega)
    (hi : i < 32 := by omega) : LifeKept l s (x.wr d f v i) := by
  simp only [sparesState, Bool.and_eq_true, decide_eq_true_eq, List.all_eq_true, List.mem_range, bne_iff_ne] at hf
  obtain ⟨⟨hs, ho⟩, hf⟩ := hf
  have hne := hf i hi
  have hm : i * f.s1 ≤ 31 * f.s1 := Nat.mul_le_mul_right _ (by omega)
  have ha : fldAddr d f i 0 = 0x40000000 + d * 0x1000000 + (f.off + i * f.s1) := by
    simp only [fldAddr, regAddr]
    omega
  exact h.setWord (by rw [ha]; omega) (by rw [ha]; omega)

theorem LifeKept.confined (h : LifeKept l s x) {Z : List Nat} (hw : Confined Z x t) (hz : Z.all (fun z => decide (z < 0x100) && z != 0x25) = true := by decide)
    (hl : t.lcs = x.lcs := by rfl) (hf : t.faults = x.faults := by rfl) (hg : t.pkg = x.pkg := by rfl)
    (hp : t.pending = x.pending := by rfl) : LifeKept l s t := by
  have hzone {a : Nat} (ha : lifeWord a) : zone a ∉ Z := by
    intro hm
    have hz := List.all_eq_true.mp hz _ hm
    simp only [Bool.and_eq_true, decide_eq_true_eq, bne_iff_ne] at hz
    obtain ⟨hz1, hz2⟩ := hz
    rcases ha with rfl | ha
    · exact hz2 (by decide)
    · unfold zone at hz1
      rw [if_neg (by omega)] at hz1
      omega
  exact h.trans ⟨fun a ha => hw a (hzone ha), by rw [hl], by rw [hl], by rw [hf], fun _ _ => by rw [hg], hp⟩

theorem LifeKept.booked (h : LifeKept l s x) (k : Booked x t) : LifeKept l s t := by
  obtain ⟨m, w, g, e⟩ := k.eq
  have hw := k.words
  subst e
  exact h.confined hw

/-! ## The wipes (R81) -/

theorem SlotsOnly.lifeKept {ns : List Nat} (h : SlotsOnly ns s x) (hn : ∀ m ∈ ns, m < 64) : LifeKept l s x := by
  have hw := h.words
  obtain ⟨r, k, n, rfl⟩ := h.rest
  refine ⟨fun a ha => hw a (fun m hm => ?_), rfl, rfl, rfl, fun _ _ => rfl, rfl⟩
  have := hn m hm
  rcases ha with rfl | ha <;> omega

theorem slotsOnly_clearSlot {ns : List Nat} {n : Nat} (s : State) (hn : n ∈ ns) : SlotsOnly ns s (s.clearSlot n) :=
  (((slotsOnly_setSlotAttr s _ hn).trans (slotsOnly_label _ _ hn)).trans (slotsOnly_setCache _ none hn)).trans
    ((slotsOnly_current _ none hn).trans (slotsOnly_pend _ none hn))

theorem LifeKept.wipeM (h : LifeKept l s x) (i : Nat) : LifeKept l s (x.wipeM i) := by
  unfold State.wipeM
  split
  · exact (h.memory _).cool _
  · have hslots (y : State) : SlotsOnly (List.range 64) y ((List.range 64).foldl (fun (s : State) (n : Nat) =>
        if (blobOf s.keys.current n).isSome || (blobOf s.keys.pend n).isSome then s.clearSlot n else s) y) := by
      refine .foldl (fun z n hn => ?_) y
      split
      · exact slotsOnly_clearSlot z hn
      · exact .refl z
    exact ((h.memory _).trans ((hslots _).lifeKept (fun m hm => List.mem_range.mp hm))).keys _
  · exact (h.memory _).logs _
  · exact (h.memory _).adc _
  · exact h.memory _

theorem LifeKept.loadMap (h : LifeKept l s x) (p : Fin 32) : LifeKept l s (x.loadMap p) := by
  have hd := (Port.die p).isLt
  have hk := (Port.loc p).isLt
  exact h.wr

theorem LifeKept.wipeQ (h : LifeKept l s x) (i : Nat) : LifeKept l s (x.wipeQ i) := by
  unfold State.wipeQ
  split
  · exact h.updMeter _
  · exact h.updMeter _
  · exact h.updMeter _
  · have hadc := h.foldl (f := fun s d => { s with adc := upd s.adc d (fun a =>
      { a with m6 := a.m6.filter (fun e => !s.isMeterCell d (e.1 / 6)) }) }) (fun _ _ => LifeKept.refl.adc _) (List.finRange 8)
    exact ((hadc.updMeter _).foldl (fun _ p => LifeKept.refl.loadMap p) _).wr
  · exact h.updMeter _

theorem LifeKept.zeroRoot (h : LifeKept l s x) : LifeKept l s x.zeroRoot := by
  refine List.foldlRecOn (motive := fun y => LifeKept l s y) _ _ (h.keys _) (fun y hy n hn => ?_)
  have hn := List.mem_range.mp hn
  refine .ite (hy.setWord ?_ ?_) hy
  · simp only [fldAddr, regAddr, F.KEY_SLOT_ATTR_VALID]
    omega
  · simp only [fldAddr, regAddr, F.KEY_SLOT_ATTR_VALID]
    omega

theorem LifeKept.openProf (h : LifeKept l s x) (two : Bool) (t : Int) (extra : Nat) : LifeKept l s (x.openProf two t extra) := by
  unfold State.openProf State.updProf
  exact h.updMeter _

end

/-- The regions wiped, the mask not yet cleared. -/
def regionsWiped (s : State) (mask : Nat) : State :=
  let s := (List.range 5).foldl (fun (s : State) (i : Nat) => if bitOf mask i then s.wipeM i else s) s
  let s := (List.range 5).foldl (fun (s : State) (i : Nat) => if bitOf mask (5 + i) then s.wipeQ i else s) s
  let s := if bitOf mask 10 then s.zeroRoot else s
  if s.meter.running && (bitOf mask 5 || bitOf mask 6) then
    ((s.openProf false s.utcMs 0).openProf true s.utcMs 0).openDemand s.utcMs else s

/-- The mask cleared, in MRAM and in LCS_STATE. -/
def maskCleared (s : State) : State := ({ s with lcs := { s.lcs with wipeMask := 0 } }).wr 0 F.LCS_STATE_WIPE_PEND 0

theorem LifeKept.regionsWiped {l : List (Fin 8)} (h : LifeKept l s x) (mask : Nat) : LifeKept l s (x.regionsWiped mask) := by
  have hM := h.foldl (f := fun (s : State) (i : Nat) => if bitOf mask i then s.wipeM i else s)
    (fun _ i => .ite (LifeKept.refl.wipeM i) .refl) (List.range 5)
  have hQ := hM.foldl (f := fun (s : State) (i : Nat) => if bitOf mask (5 + i) then s.wipeQ i else s)
    (fun _ i => .ite (LifeKept.refl.wipeQ i) .refl) (List.range 5)
  have hroot := LifeKept.ite (c := bitOf mask 10 = true) hQ.zeroRoot hQ
  unfold State.regionsWiped
  exact .ite (((hroot.openProf _ _ _).openProf _ _ _).updMeter _) hroot

end State

end Sys2Proof.Machine

/-! # The dies' reset in a life-cycle restart (R20, R21, R80) -/

namespace Sys2Proof.Machine

namespace State

variable {s x y t : State}

section

variable {l : List (Fin 8)}

theorem LifeKept.memOnly (h : LifeKept l s x) (k : MemOnly x t) : LifeKept l s t := by
  obtain ⟨m, u, rfl⟩ := k
  exact h.same

theorem LifeKept.zeroRange (h : LifeKept l s x) (k n : Nat) : LifeKept l s (x.zeroRange k n) := h.memOnly ⟨_, _, rfl⟩

/-! ## Acquisition leaves the die (R334, R340) -/

theorem LifeKept.groupSettle (h : LifeKept l s x) (d u : Fin 8) : LifeKept l s (x.groupSettle d u) := by
  refine h.foldl (fun y g => ?_) _
  dsimp only
  have hy : LifeKept l y { y with group := upd y.group g (fun _ =>
      { wait := (y.group.get g).wait.filter (fun v => v ≠ d.val * 8 + u.val) }) } := LifeKept.refl.groups _
  exact .ite (.ite hy.wr hy) .refl

theorem LifeKept.acqSetSt (h : LifeKept l s x) (d u : Fin 8) (st : Nat) : LifeKept l s (x.acqSetSt d u st) :=
  .ite h.wr (h.wr.groupSettle d u)

theorem LifeKept.acqHalt (h : LifeKept l s x) (d u : Fin 8) (ovf : Bool) : LifeKept l s (x.acqHalt d u ovf) := by
  have hflag : LifeKept l s (if ovf = true then x.updAcq d u (fun a => { a with flags := a.flags ||| 32 }) else x) := .ite h.same h
  unfold State.acqHalt
  dsimp only
  generalize (if ovf = true then x.updAcq d u (fun a => { a with flags := a.flags ||| 32 }) else x) = y at hflag ⊢
  have hhead : LifeKept l s (y.acqWriteHead d u) := hflag.memOnly (memOnly_acqWriteHead y d u)
  exact .ite (LifeKept.wr (.acqSetSt (.ite hhead hflag) d u 6)) h

theorem LifeKept.gathLost (h : LifeKept l s x) (u : Fin 8) : LifeKept l s (x.gathLost u) := by
  have hd : x.rd 0 F.ACQ_U_CFG_SRC_DIE u < 8 := rd_lt x 0 F.ACQ_U_CFG_SRC_DIE u 0 (by decide)
  have hshort : LifeKept l s (x.wr (x.rd 0 F.ACQ_U_CFG_SRC_DIE u) F.XLK_ERR_CLS3_SHORT 1) := h.wr
  unfold State.gathLost xlkFirst
  exact LifeKept.acqHalt (.ite hshort.wr hshort) 0 u true

theorem LifeKept.acqLeave (h : LifeKept l s x) (d : Fin 8) : LifeKept l s (x.acqLeave d) := by
  unfold State.acqLeave
  refine .foldl (fun y u => LifeKept.refl.groupSettle d u) _ (.ite (h.groups _) (h.foldl (fun y u => ?_) _))
  exact .ite (LifeKept.refl.gathLost u) .refl

/-! ## The registers and parts of a die -/

/-- A die's reset picks neither LCS_STATE, listed PWR, nor a register of the package. -/
theorem LifeKept.resetRegs (h : LifeKept l s x) (d : Fin 8) (q : Nat → Bool) :
    LifeKept l s (x.resetRegs (fun a r => dieOrBlk (regAddr d 0) 0x1000000 a r && !q a)) := by
  refine h.trans ⟨fun a ha => word_resetRegs (fun r i j hr => ?_) x, rfl, rfl, rfl, fun _ _ => rfl, rfl⟩
  rcases ha with rfl | ha
  · have hreg : r = RegMap.r_LCS_STATE := (Prod.mk.inj (Option.some.inj (hr.symm.trans findReg_lcsState))).1
    subst hreg
    have hdom : (RegMap.r_LCS_STATE.dom == Dom.die || RegMap.r_LCS_STATE.dom == Dom.blk) = false := by decide
    unfold dieOrBlk
    rw [hdom, Bool.and_false, Bool.false_and]
  · have hrange : decide (a < regAddr d 0 + 0x1000000) = false := by
      rw [decide_eq_false_iff_not]
      unfold regAddr
      omega
    unfold dieOrBlk
    rw [hrange, Bool.and_false, Bool.false_and, Bool.false_and]

theorem LifeKept.wipeSram (h : LifeKept l s x) (d : Fin 8) : LifeKept l s (x.wipeSram d) := by
  have hdie := ((h.zeroRange (sramKey d 0x10000000) 0x200000).zeroRange (capKey d 0) 0x400000).zeroRange (regAddr d 0) 0x1000000
  exact .ite (hdie.zeroRange _ _) hdie

theorem LifeKept.dieParts (h : LifeKept l s x) (d : Fin 8) (k : Bool) : LifeKept l s (x.dieParts d k) := h.same

theorem LifeKept.clearCounts (h : LifeKept l s x) (d : Nat) : LifeKept l s (x.clearCounts d) :=
  h.trans ⟨fun _ _ => rfl, rfl, rfl, rfl, fun _ _ => rfl, rfl⟩

theorem LifeKept.resetInh (h : LifeKept l s x) (d : Fin 8) : LifeKept l s (x.resetInh d) :=
  h.trans ⟨fun _ _ => rfl, rfl, rfl, rfl, fun _ _ => rfl, rfl⟩

theorem LifeKept.leadParts (h : LifeKept l s x) : LifeKept l s x.leadParts :=
  h.trans ⟨fun _ _ => rfl, rfl, rfl, rfl, fun _ _ => rfl, rfl⟩

theorem LifeKept.placeDie (h : LifeKept l s x) {d : Fin 8} (hd : d ∈ l) : LifeKept l s (x.placeDie d) :=
  h.trans ⟨fun _ _ => rfl, rfl, rfl, rfl, fun _ he => get_set_ne _ _ (fun hn => he (hn ▸ hd)), rfl⟩

/-- The sessions open on a die end with its reset. -/
def sessionsEnded (s : State) (d : Fin 8) : State :=
  s.onPorts (fun s k => if (s.meter.session.get (portOf d k)).isSome then s.sessionStop (portOf d k) 0 else s)

/-- The registers of a die as a restart leaves them. -/
def dieRegsReset (s : State) (d : Fin 8) : State :=
  (((s.sessionsEnded d).acqLeave d).resetRegs (fun a r => dieOrBlk (regAddr d 0) 0x1000000 a r && !samplePath a)).wrB d F.THM_EVT_SD
    ((s.sessionsEnded d).thermalDown d)

/-- A die's parts as a restart leaves them, before it is placed. -/
def diePartsReset (s : State) (d : Fin 8) : State :=
  ((((s.dieRegsReset d).wipeSram d).dieParts d true).clearCounts d).resetInh d

theorem dieReset_restart (s : State) (d : Fin 8) :
    s.dieReset d true = (if d = 0 then (s.diePartsReset d).leadParts else s.diePartsReset d).placeDie d := by
  unfold dieReset diePartsReset dieRegsReset sessionsEnded placeDie
  simp only [Bool.not_true, and_false, if_false, if_true, Bool.true_and, Bool.false_eq_true]

theorem LifeKept.dieReset (h : LifeKept l s x) {d : Fin 8} (hd : d ∈ l) : LifeKept l s (x.dieReset d true) := by
  have hsess : LifeKept l s (x.sessionsEnded d) :=
    h.booked (Booked.refl.onPorts (fun y k => .ite (Booked.refl.sessionStop _ 0) .refl))
  have hregs : LifeKept l s (x.dieRegsReset d) := LifeKept.wr ((hsess.acqLeave d).resetRegs d samplePath)
  have hparts : LifeKept l s (x.diePartsReset d) := ((((hregs.wipeSram d).dieParts d true).clearCounts d).resetInh d)
  rw [dieReset_restart]
  exact (LifeKept.ite hparts.leadParts hparts).placeDie hd

/-! ## Parameters of the site (R363) -/

theorem LifeKept.updParam (h : LifeKept l s x) (p : Nat) (f : PortParam → PortParam) : LifeKept l s (x.updParam p f) := by
  unfold State.updParam
  split
  · exact h.updMeter _
  · exact h

theorem LifeKept.clearProf (h : LifeKept l s x) (two : Bool) : LifeKept l s (x.clearProf two) := by
  unfold State.clearProf State.updProf
  exact h.updMeter _

theorem LifeKept.paramApply (h : LifeKept l s x) (key : Nat) (w : List Word) : LifeKept l s (x.paramApply key w) := by
  unfold State.paramApply
  dsimp only
  split
  · split
    · exact (h.updParam _ _).loadMap _
    · exact h.updParam _ _
  · exact h.updParam _ _
  · exact h.updParam _ _
  · exact h.updParam _ _
  · exact h.updParam _ _
  · exact h.updParam _ _
  · exact h.updMeter _
  · exact (LifeKept.ite h (h.clearProf false)).updMeter _
  · exact (LifeKept.ite h (h.clearProf true)).updMeter _
  · exact h.updMeter _
  · exact h.updMeter _
  · exact h.updMeter _
  · exact h.updMeter _
  · exact h.updMeter _
  · exact h.updMeter _
  · exact (LifeKept.ite h (h.updMeter _)).updMeter _
  · exact h

theorem LifeKept.siteApply (h : LifeKept l s x) : LifeKept l s x.siteApply := by
  have hparams : LifeKept l s (x.meter.pendSite.foldl (fun (s : State) (e : Nat × List Word) => s.paramApply e.1 e.2)
      (x.updMeter (fun m => { m with pendSite := [] }))) :=
    (h.updMeter _).foldl (fun (_ : State) (e : Nat × List Word) => LifeKept.refl.paramApply e.1 e.2) _
  exact hparams.wr

/-! ## The meter head and the key store in a restart -/

theorem LifeKept.markAll (h : LifeKept l s x) (b : Nat) : LifeKept l s (x.markAll b) := by
  have hprof : LifeKept l s (x.markProf b) := h.updMeter _
  have hsess (y : State) (p : Fin 32) : LifeKept l y (y.markSess p b) := LifeKept.refl.updMeter _
  exact hprof.foldl hsess _

theorem LifeKept.headReset (h : LifeKept l s x) : LifeKept l s x.headReset := by
  unfold State.headReset
  exact (h.updMeter _).wr

theorem LifeKept.keyRestart (h : LifeKept l s x) : LifeKept l s x.keyRestart := by
  unfold State.keyRestart
  exact (h.keys _).keys _

/-- What a restart does to the meter head: it restarts with a changed image, and stops for good in RETIRED. -/
def headRestarted (s : State) (r : Restart) : State :=
  if r.meterToo then
    let s := (s.meterCommit).markAll 16
    let s := s.updMeter (fun m => { m with down := m.down.map (fun x => x.orElse (fun _ => some (s.now, s.diePower 0))) })
    (s.headReset).updMeter (fun m => { m with td := none })
  else if r.newState = some 4 then (s.updMeter (fun m => { m with running := false })).wr 0 F.LCS_BOOT_METER_RUN 0
  else s

theorem LifeKept.headRestarted (h : LifeKept l s x) (r : Restart) : LifeKept l s (x.headRestarted r) := by
  have hmark : LifeKept l s ((x.meterCommit).markAll 16) := (h.booked (Booked.refl.meterCommit)).markAll 16
  unfold State.headRestarted
  dsimp only
  generalize (x.meterCommit).markAll 16 = y at hmark ⊢
  exact .ite ((LifeKept.headReset (hmark.updMeter _)).updMeter _) (.ite (h.updMeter _).wr h)

end

/-! ## The new life-cycle state -/

/-- The state, the count of transitions and WIPE_PEND written. -/
def stateWritten (s : State) (n : Nat) (pend : Bool) : State :=
  ((s.wr 0 F.LCS_STATE_STATE n).satCnt 0 F.LCS_STATE_TRANS_CNT).wrB 0 F.LCS_STATE_WIPE_PEND pend

/-- The owner's key hash of a provisioning. -/
def ownerTaken (s : State) (n : Nat) (h : List Byte) : State := if n = 1 then { s with lcs := { s.lcs with ownerHash := h } } else s

/-- The restart taken up: none is due. -/
def restartTaken (s : State) : State := { s with lcs := { s.lcs with restart := none } }

/-- The wipe mask written to MRAM. -/
def maskWritten (s : State) (mask : Nat) : State := { s with lcs := { s.lcs with wipeMask := mask } }

/-- The new state taken, its wipes done and noted (R80, R81; code 0x000C). -/
def stateTaken (s : State) (r : Restart) (n : Nat) : State :=
  (((((s.restartTaken.stateWritten n (decide (r.mask ≠ 0))).ownerTaken n r.ownerHash).maskWritten r.mask).regionsWiped r.mask).maskCleared).info
    0 0x000C 0x25 0xFF [s.restartTaken.lifeState, n]

/-- A die that has power, reset as a restart does. -/
def restartDie (s : State) (d : Fin 8) : State := if s.pkg.die.get d = .off then s else s.dieReset d true

theorem wipeRegions_eq (s : State) (mask : Nat) : s.wipeRegions mask = (s.regionsWiped mask).maskCleared := rfl

theorem lifeRestart_eq {r : Restart} {n : Nat} (h : s.lcs.restart = some r) (hn : r.newState = some n) :
    s.lifeRestart = ((((s.stateTaken r n).headRestarted r).keyRestart).onDies restartDie).siteApply := by
  unfold lifeRestart
  rw [h]
  dsimp only
  rw [hn]
  dsimp only
  rw [wipeRegions_eq]
  unfold headRestarted
  rw [hn]
  rfl

/-- What a restart with a new state has set before the dies are reset. -/
structure StateTaken (n : Nat) (s t : State) : Prop where
  life : t.lifeState = n
  wiped : t.on 0 F.LCS_STATE_WIPE_PEND = false
  restart : t.lcs.restart = none
  mask : t.lcs.wipeMask = 0
  die : ∀ e, t.pkg.die.get e = s.pkg.die.get e
  pending : t.pending = s.pending

theorem stateWritten_effect (s : State) {n : Nat} (hn : n < 8) (pend : Bool) :
    (s.stateWritten n pend).lifeState = n ∧ (s.stateWritten n pend).lcs = s.lcs ∧ (s.stateWritten n pend).pkg = s.pkg ∧
      (s.stateWritten n pend).pending = s.pending := by
  unfold stateWritten satCnt wrB lifeState
  refine ⟨?_, ?_, ?_, ?_⟩
  · rw [rd_wr_apart _ _ _ _ _ _ _ _ _ _ (.inr (.inr (by decide))), rd_wr_apart _ _ _ _ _ _ _ _ _ _ (.inr (.inr (by decide))),
      rd_wr_same _ _ _ _ _ _ (by decide)]
    exact Nat.mod_eq_of_lt hn
  · rw [wr_lcs, wr_lcs, wr_lcs]
  · rw [wr_pkg, wr_pkg, wr_pkg]
  · rw [wr_pending, wr_pending, wr_pending]

theorem ownerTaken_effect (s : State) (n : Nat) (h : List Byte) : (s.ownerTaken n h).regs = s.regs ∧
    (s.ownerTaken n h).lcs.restart = s.lcs.restart ∧ (s.ownerTaken n h).pkg = s.pkg ∧ (s.ownerTaken n h).pending = s.pending := by
  unfold ownerTaken
  split <;> exact ⟨rfl, rfl, rfl, rfl⟩

theorem maskCleared_effect (s : State) : s.maskCleared.lifeState = s.lifeState ∧ s.maskCleared.on 0 F.LCS_STATE_WIPE_PEND = false ∧
    s.maskCleared.lcs.restart = s.lcs.restart ∧ s.maskCleared.lcs.wipeMask = 0 ∧ s.maskCleared.pkg = s.pkg ∧ s.maskCleared.pending = s.pending := by
  unfold maskCleared lifeState
  generalize hy : ({ s with lcs := { s.lcs with wipeMask := 0 } } : State) = y
  have hregs : y.regs = s.regs := by rw [← hy]
  have hlcs : y.lcs = { s.lcs with wipeMask := 0 } := by rw [← hy]
  have hpkg : y.pkg = s.pkg := by rw [← hy]
  have hpend : y.pending = s.pending := by rw [← hy]
  refine ⟨?_, on_wr_zero (by decide), ?_, ?_, ?_, ?_⟩
  · rw [rd_wr_apart _ _ _ _ _ _ _ _ _ _ (.inr (.inr (by decide))), rd_of_regs hregs]
  · rw [wr_lcs, hlcs]
  · rw [wr_lcs, hlcs]
  · rw [wr_pkg, hpkg]
  · rw [wr_pending, hpend]

theorem LifeKept.lifeState {l : List (Fin 8)} (h : LifeKept l s x) : x.lifeState = s.lifeState := by
  unfold State.lifeState State.rd
  rw [h.words (fldAddr 0 F.LCS_STATE_STATE 0 0) (.inl rfl)]

theorem LifeKept.wipePend {l : List (Fin 8)} (h : LifeKept l s x) : x.on 0 F.LCS_STATE_WIPE_PEND = s.on 0 F.LCS_STATE_WIPE_PEND := by
  unfold State.on State.rd
  rw [h.words (fldAddr 0 F.LCS_STATE_WIPE_PEND 0 0) (.inl rfl)]

theorem LifeKept.afterReset {l : List (Fin 8)} (h : LifeKept l s x) (d : Fin 8) : x.afterReset d = s.afterReset d := by
  have hbit {f : Fld} (k : Nat) : x.bit pkgDie f k = s.bit pkgDie f k := by
    unfold bit State.rd
    rw [h.words _ (.inr (by simp only [fldAddr, regAddr, pkgDie]; omega))]
  unfold State.afterReset State.dieUsed State.present
  rw [hbit, hbit, hbit, h.retired]

theorem stateTaken_effect (s : State) (r : Restart) {n : Nat} (hn : n < 8) : StateTaken n s (s.stateTaken r n) := by
  have hrestart : s.restartTaken.lcs.restart = none ∧ s.restartTaken.pkg = s.pkg ∧ s.restartTaken.pending = s.pending := ⟨rfl, rfl, rfl⟩
  unfold stateTaken
  generalize s.restartTaken = a at hrestart ⊢
  obtain ⟨har, hap, haq⟩ := hrestart
  obtain ⟨hblife, hblcs, hbpkg, hbpend⟩ := a.stateWritten_effect hn (decide (r.mask ≠ 0))
  generalize a.stateWritten n (decide (r.mask ≠ 0)) = b at hblife hblcs hbpkg hbpend ⊢
  obtain ⟨hcregs, hcrestart, hcpkg, hcpend⟩ := b.ownerTaken_effect n r.ownerHash
  generalize b.ownerTaken n r.ownerHash = c at hcregs hcrestart hcpkg hcpend ⊢
  have hmask : (c.maskWritten r.mask).regs = c.regs ∧ (c.maskWritten r.mask).lcs.restart = c.lcs.restart ∧ (c.maskWritten r.mask).pkg = c.pkg ∧
      (c.maskWritten r.mask).pending = c.pending := ⟨rfl, rfl, rfl, rfl⟩
  generalize c.maskWritten r.mask = e at hmask ⊢
  obtain ⟨heregs, herestart, hepkg, hepend⟩ := hmask
  have hwipe : LifeKept [] e (e.regionsWiped r.mask) := LifeKept.refl.regionsWiped r.mask
  generalize e.regionsWiped r.mask = w at hwipe ⊢
  obtain ⟨hzlife, hzpend, hzrestart, hzmask, hzpkg, hzpending⟩ := w.maskCleared_effect
  generalize w.maskCleared = z at hzlife hzpend hzrestart hzmask hzpkg hzpending ⊢
  have helife : e.lifeState = n := (rd_of_regs (heregs.trans hcregs) ..).trans hblife
  exact {
    life := (hzlife.trans hwipe.lifeState).trans helife
    wiped := hzpend
    restart := by
      show z.lcs.restart = none
      rw [hzrestart, hwipe.restart, herestart, hcrestart, hblcs, har]
    mask := hzmask
    die := fun k => by
      show z.pkg.die.get k = s.pkg.die.get k
      rw [hzpkg, hwipe.dies k List.not_mem_nil, hepkg, hcpkg, hbpkg, hap]
    pending := by
      show z.pending = s.pending
      rw [hzpending, hwipe.pending, hepend, hcpend, hbpend, haq] }

/-! ## The dies -/

/-- Every die but the lead die. -/
def portDieList : List (Fin 8) := [1, 2, 3, 4, 5, 6, 7]

theorem finRange_eq_lead : List.finRange 8 = 0 :: portDieList := by decide

/-- The powered lead die goes where its service puts it, and the port dies' resets leave it there. -/
theorem onDies_restartDie (h : s.pkg.die.get 0 ≠ .off) : LifeKept (0 :: portDieList) s (s.onDies restartDie) ∧
    (s.onDies restartDie).pkg.die.get 0 = (s.onDies restartDie).afterReset 0 := by
  have hlead : restartDie s 0 = s.dieReset 0 true := if_neg h
  have hfirst : LifeKept (0 :: portDieList) s (s.dieReset 0 true) := LifeKept.refl.dieReset List.mem_cons_self
  have hdie := die_dieReset s 0 true
  have hrest : LifeKept portDieList (s.dieReset 0 true) (portDieList.foldl restartDie (s.dieReset 0 true)) := by
    refine List.foldlRecOn (motive := fun y => LifeKept portDieList (s.dieReset 0 true) y) _ _ LifeKept.refl (fun y hy d hd => ?_)
    exact .ite hy (hy.dieReset hd)
  unfold onDies
  rw [finRange_eq_lead, List.foldl_cons, hlead]
  generalize s.dieReset 0 true = y at hfirst hdie hrest ⊢
  generalize portDieList.foldl restartDie y = z at hrest ⊢
  have hz : LifeKept (0 :: portDieList) y z :=
    ⟨hrest.words, hrest.restart, hrest.mask, hrest.retired, fun e he => hrest.dies e (fun hm => he (List.mem_cons_of_mem _ hm)), hrest.pending⟩
  exact ⟨hfirst.trans hz, by rw [hrest.dies 0 (by decide), hrest.afterReset, hdie]⟩

end State

open State

/-- Settles O17: the new state and the cleared mask by `stateTaken_effect`, the lead die by `onDies_restartDie`; what follows keeps
them (`LifeKept`). -/
theorem lifeCycleRestartEffect : Obligations.LifeCycleRestartEffect := by
  unfold Obligations.LifeCycleRestartEffect
  intro s r n hn
  refine ⟨fun hr hnew hdie => ⟨_, rfl, ?_⟩, fun hr => ⟨_, rfl, ?_⟩⟩
  · have htaken := stateTaken_effect s r hn
    rw [lifeRestart_eq hr hnew]
    generalize s.stateTaken r n = y at htaken ⊢
    have hhead : LifeKept [] y ((y.headRestarted r).keyRestart) := (LifeKept.refl.headRestarted r).keyRestart
    generalize (y.headRestarted r).keyRestart = z at hhead ⊢
    obtain ⟨hdies, hlead⟩ := onDies_restartDie (s := z) (by rw [hhead.dies 0 (by simp), htaken.die]; exact hdie)
    generalize z.onDies restartDie = w at hdies hlead ⊢
    have hsite : LifeKept [] w w.siteApply := LifeKept.refl.siteApply
    generalize w.siteApply = v at hsite ⊢
    refine ⟨?_, ?_, ?_, ?_, ?_, ?_⟩
    · rw [hsite.restart, hdies.restart, hhead.restart, htaken.restart]
    · rw [hsite.lifeState, hdies.lifeState, hhead.lifeState, htaken.life]
    · rw [hsite.mask, hdies.mask, hhead.mask, htaken.mask]
    · rw [hsite.wipePend, hdies.wipePend, hhead.wipePend, htaken.wiped]
    · rw [hsite.dies 0 (by simp), hsite.afterReset, hlead]
    · rw [hsite.pending, hdies.pending, hhead.pending, htaken.pending]
  · unfold lifeRestart
    rw [hr]

end Sys2Proof.Machine
